-- ==== Sys2Proof/Word.lean ====
section
/-! DEFINITION. The words of the machine and their plainest arithmetic. -/

namespace Sys2Proof

/-- A byte of memory or of a packet. -/
abbrev Byte := BitVec 8

/-- A register of BAR0 (00_scope.md, Registers: registers are 32 bits wide). -/
abbrev Word := BitVec 32

/-- A device address, a Timebase value, an s-register. -/
abbrev DWord := BitVec 64

/-- A PCIe function: 0 is the physical function, p is virtual function p (R492). -/
abbrev Fn := Fin 8

/-- A partition number, PART0 to PART7. -/
abbrev Part := Fin 8

/-- A logical core number, HRT0 to HRT15 (R8). -/
abbrev CoreId := Fin 16

end Sys2Proof
end

