-- ==== Sys2Proof/Kinds.lean ====
section
/-! DEFINITION. The named kinds that commands carry as operands. -/

namespace Sys2Proof

/-- The unit of a core, numbered as the SUB field of a fault source for UNIT 0 (R613). -/
inductive CoreUnit where
  | seq | opa | vec | lpeel | speel | granary | pool
  deriving DecidableEq, Repr

/-- SUB of R613. -/
def CoreUnit.sub : CoreUnit → Nat
  | .seq => 0 | .opa => 1 | .vec => 2 | .lpeel => 3 | .speel => 4 | .granary => 5 | .pool => 6

/-- The five engines of a core (R225). -/
inductive Engine where
  | seq | opa | vec | lpeel | speel
  deriving DecidableEq, Repr

/-- Engine e of HRT_WDOG_WIN[e], and SUB of R613. -/
def Engine.idx : Engine → Nat
  | .seq => 0 | .opa => 1 | .vec => 2 | .lpeel => 3 | .speel => 4

/-- One of the two peels: q of the PEEL_ registers, 0 LPEEL, 1 SPEEL. -/
inductive PeelId where
  | lpeel | speel
  deriving DecidableEq, Repr

def PeelId.idx : PeelId → Nat
  | .lpeel => 0 | .speel => 1

def PeelId.engine : PeelId → Engine
  | .lpeel => .lpeel | .speel => .speel

/-- An agent that reads or writes DRAM; the number is UNIT of R613, as INFO of 0x3101 uses it (R615). -/
inductive Agent where
  | core (k : CoreId) (u : CoreUnit)
  | mill | queueManager | collective | reeve | steward
  | host (fn : Fn)
  deriving DecidableEq, Repr

/-- What the inline ECC of a DRAM block reports on one access (R27, R33, R34). -/
inductive Ecc where
  | clean | corrected | uncorrectable
  deriving DecidableEq, Repr

/-- What the SECDED bits of the Granary's words report on an access: the words with an error, by offset / 8, and whether it is uncorrectable
(R375 to R377). -/
abbrev GrnErrs := List (Nat × Bool)

/-- What PEEL_TRANSFER_ISSUE does: a request for up to so many bytes of the ISSUING transfer goes out, or the i-th outstanding request of the peel
returns (R242). -/
inductive PeelAct where
  | ask (bytes : Nat)
  | back (i : Nat)
  deriving DecidableEq, Repr

/-- What the header of a CSI-2 packet shows (R138, R140, R172). -/
inductive Header where
  | clean | corrected | uncorrectable
  deriving DecidableEq, Repr

/-- An IPv4 UDP packet as a sensor MAC hands it on (R134, R148, R149). -/
structure UdpPacket where
  srcIp : Word
  dstPort : BitVec 16
  payload : List Byte
  /-- The UDP checksum verifies; a zero checksum does not (R149). -/
  checksumOk : Bool
  /-- The packet is an IPv4 fragment. -/
  fragment : Bool
  /-- The packet carries a UDP header (R108). -/
  udpHeader : Bool
  /-- A malformed IPv4 or UDP header, or an inconsistent length (R149, R108). -/
  malformed : Bool
  /-- IEEE 802.1Q tags (R149). -/
  tags : Nat
  deriving DecidableEq, Repr

/-- Which packets reach an input of Hedgerow, as the board binds it: the MAC, the destination UDP port, and the IPv4 source address, 0 for any
(R101, R108). -/
structure HdgBinding where
  mac : Fin 4
  port : BitVec 16
  srcIp : Word
  deriving DecidableEq, Repr

/-- How the Reeve finds that Hedgerow has failed (R89, R113). -/
inductive HdgLoss where
  /-- No heartbeat for so many ms. -/
  | silent (elapsedMs : Nat)
  /-- Hedgerow's lockstep checker has found a mismatch. -/
  | lockstep
  /-- Hedgerow's SRAM has an uncorrectable error. -/
  | sramEcc
  deriving DecidableEq, Repr

/-- A diagnostic of the latent-fault self-test (R116), by the unit that it exercises. -/
inductive Diagnostic where
  /-- The check-lane comparator of a core. -/
  | checkLane (k : CoreId)
  /-- The residue checker of a core's vector engine. -/
  | residue (k : CoreId)
  /-- The SECDED and parity decoders, of a core or of the rest. -/
  | decoders (core : Option CoreId)
  /-- The progress watchdogs, tally and peel timeouts of a core. -/
  | timeouts (k : CoreId)
  /-- The signature comparator of a core. -/
  | signature (k : CoreId)
  | twin
  /-- The clock and supply monitors. -/
  | monitors
  /-- Hedgerow's lockstep checker and SRAM ECC: it runs the injection and reports. -/
  | hedgerow
  /-- A SAFE_STOP_N driver: the Reeve's or Hedgerow's. -/
  | stopDriver (reeve : Bool)
  deriving DecidableEq, Repr

/-- What an Ethernet frame carries, as a MAC's consumers tell it apart (R709). -/
inductive EthKind where
  | udp (pkt : UdpPacket)
  /-- An IEEE 802.1AS or IEEE 1588 message. -/
  | time
  /-- An ARP request: the sender's station and IPv4 addresses, and the IPv4 address asked for. -/
  | arp (senderMac : BitVec 48) (senderIp targetIp : Word)
  | pause
  | other
  deriving DecidableEq, Repr

/-- The messages of IEEE 802.1AS and IEEE 1588 that the Timebase takes or sends (R73). -/
inductive TimeKind where
  | sync | followUp | announce | delayReq | delayResp | pdelayReq | pdelayResp | pdelayFollowUp
  deriving DecidableEq, Repr

/-- The kind's number in the table of sequence numbers. -/
def TimeKind.idx : TimeKind → Nat
  | .sync => 0 | .followUp => 1 | .announce => 2 | .delayReq => 3 | .delayResp => 4 | .pdelayReq => 5 | .pdelayResp => 6 | .pdelayFollowUp => 7

/-- A CAN frame as received. -/
structure CanFrame where
  /-- A 29-bit identifier. -/
  ext : Bool
  id : BitVec 29
  fdf : Bool
  brs : Bool
  remote : Bool
  dlc : BitVec 4
  data : List Byte
  deriving DecidableEq, Repr

/-- What a host writes to a function's PCIe configuration space (R648). -/
inductive CfgWrite where
  /-- VF Enable of the SR-IOV capability, with NumVFs. -/
  | vfEnable (on : Bool) (numVfs : Fin 8)
  | busMaster (on : Bool)
  | msix (enable functionMask : Bool)
  /-- D3hot, or D0. -/
  | power (d3hot : Bool)
  /-- Hardware Autonomous Speed Disable and Hardware Autonomous Width Disable. -/
  | autonomous (speedDisable widthDisable : Bool)
  deriving DecidableEq, Repr

/-- The classes of host protocol violation that R683 tells apart below the level of registers, and the buffer error of R684. -/
inductive TlpClass where
  | malformed
  | poisonedWrite
  /-- A BAR0 request that breaks R651. -/
  | badBar0
  /-- A request outside every BAR, or to a function in D3hot. -/
  | unsupported
  | completion
  | vendorType1
  /-- An uncorrectable error in the endpoint's receive buffers, or in its transmit buffers. -/
  | bufferError (transmit : Bool)
  deriving DecidableEq, Repr

/-- An error that the endpoint reports through AER (R683, R684). -/
inductive AerError where
  | malformedTlp | poisonedTlp | unsupportedRequest | unexpectedCompletion | uncorrectableInternal
  deriving DecidableEq, Repr

/-- A PLL other than Hedgerow's (R726), in the order of CLK_STATUS. -/
inductive Pll where
  | cpll0 | cpll1 | mpll | lpll | ppll | spll
  deriving DecidableEq, Repr

def Pll.idx : Pll → Nat
  | .cpll0 => 0 | .cpll1 => 1 | .mpll => 2 | .lpll => 3 | .ppll => 4 | .spll => 5

/-- What the boot flash holds as a board programmer has left it, by the fields of its layout (R752): the two selector copies, the boot
configuration block, and the four slots of bank A and then of bank B: Steward image, Reeve image, manifest, HCB.  An empty list is erased. -/
structure FlashContent where
  sel0 : List Byte
  sel1 : List Byte
  bcb : List Byte
  slots : List (List Byte)
  deriving DecidableEq, Repr

/-- A triggered-operation descriptor: CE_TRIG[e] is e, and KLY_TRIG[i][e] is 256 + 64 i + e (R552). -/
abbrev TrigId := Fin 512

/-- The state held with parity that the background check of R830 reads. -/
inductive Upheld where
  /-- A tally counter of a core. -/
  | tally (k : CoreId)
  /-- A page tag or an owner record of a core's Granary. -/
  | pages (k : CoreId)
  /-- A Dispatch Table entry or a queue context. -/
  | dispatch
  /-- A word of the Partition Controller for a partition. -/
  | partition (p : Part)
  /-- A conversation slot. -/
  | slot (n : Fin 1024)
  deriving DecidableEq, Repr

end Sys2Proof
end

