-- ==== Sys2Proof/Syntax.lean ====
section
/-! DEFINITION. The commands of the block: one constructor for each row of the table of operations and events, in the
table's order, with the operands that the row's rule names.  A constructor's docstring is the row. -/

namespace Sys2Proof

/-- One command (an access, an operation of the block or an event), each whole and indivisible. [log 126: DESIGN CHOICE, safe] -/
inductive Instr where
  /-- REGISTER_WRITE (R13): A software write to a register that has no row of its own sets its fields per the access codes, ignoring reserved bits and applying range checks. -/
  | registerWrite (fn : Fn) (off : BitVec 25) (v : Word)
  /-- READ_CLEAR (R17): A read of an RC field returns its value and clears it, keeping any same-cycle event for the next read. -/
  | readClear (fn : Fn) (off : BitVec 25)
  /-- PAIR_LO_READ (R15): A read of NAME_LO returns the low word and captures a snapshot of NAME_HI for that requester. -/
  | pairLoRead (fn : Fn) (off : BitVec 25)
  /-- PAIR_LO_WRITE (R16): A write to NAME_LO is held per requester until that requester writes NAME_HI. -/
  | pairLoWrite (fn : Fn) (off : BitVec 25) (v : Word)
  /-- PAIR_HI_WRITE (R16): A write to NAME_HI applies the 64-bit value using the held low word, or the current or zero low word if none is held. -/
  | pairHiWrite (fn : Fn) (off : BitVec 25) (v : Word)
  /-- SYS_TOPO_WRITE (R38): A physical-function write to SYS_TOPO is accepted only with all Kelyth ports disabled and a valid shape, count and index, otherwise REJECTED is set. -/
  | sysTopoWrite (fn : Fn) (v : Word)
  /-- DRAM_READ_RETURN (R33): A DRAM read completes at the controller, returning data corrected, or poisoned with 0x3101 on an uncorrectable inline-ECC error. -/
  | dramReadReturn (who : Agent) (a : Nat) (ecc : Ecc)
  /-- DRAM_WRITE_COMPLETE (R821): A DRAM write reaches the controller's ordering point, replacing a whole block or merging a partial write unless the stored block is uncorrectable. -/
  | dramWriteComplete (who : Agent) (a : Nat) (bytes : List Byte) (ecc : Ecc)
  /-- DRAM_SCRUB_READ (R822): The background scrubber reads a block, corrects and writes back correctable errors, and reports uncorrectable ones as 0x3103 without a job fault. -/
  | dramScrubRead (a : Nat) (ecc : Ecc)
  /-- MR4_POLL (R23): Every 16 ms the controller polls MR4 to adjust refresh to memory temperature. -/
  | mr4Poll (channel : Fin 16) (mr4 : Byte)
  /-- REFRESH_MANAGEMENT (R23): The controller issues refresh management when the memory device requests it. -/
  | refreshManagement (channel : Fin 16)
  /-- MEMORY_TRAINING_DONE (R35): Memory training at boot or wake completes, or fails on a channel and sends the device to fallback-only mode with 0x3102. -/
  | memoryTrainingDone (density : Fin 3) (ranks2 : Bool) (failed : BitVec 16)
  /-- TIMEBASE_TICK (R45): On each 40 ns crystal tick the Timebase adds 40 ns plus its signed rate correction, including any slew. -/
  | timebaseTick
  /-- PPS_EDGE (R828): An accepted PPS_IN rising edge is stamped into TB_PPS_STAMP and, in PPS discipline, yields an offset measurement. -/
  | ppsEdge (heldNs : Nat)
  /-- TRIG_IN_EDGE (R716): An edge on TRIG_IN is filtered, and an accepted rising edge is stamped into TB_TRIGIN_STAMP and may request wake. -/
  | trigInEdge (i : Fin 4) (rising : Bool) (heldNs : Nat)
  /-- DISCIPLINE_MESSAGE (R74): A gPTP or PTP message on the selected port is processed by the servo, or discarded and logged as 0x8306 if malformed, out of sequence or from another port. -/
  | disciplineMessage (gptp : Bool) (port : Fin 5) (kind : TimeKind) (wellFormed : Bool) (seq : BitVec 16) (offset : Option Int) (bytes : List Byte)
  /-- MEASUREMENT_LOSS_EXPIRY (R46): No valid measurement for 3 s moves an ACQUIRE or LOCKED Timebase to HOLDOVER and raises 0x8301. -/
  | measurementLossExpiry (elapsedMs : Nat)
  /-- HOLDOVER_LIMIT_EXPIRY (R46): TB_HOLDOVER_LIMIT seconds in HOLDOVER move the Timebase to FREE and raise 0x8302. -/
  | holdoverLimitExpiry (elapsedS : Nat)
  /-- FRAME_ENABLE (R52): Setting TB_CTRL.FRAME_EN resets TB_FRAME_BASE and places the first boundary at the next grid point. -/
  | frameEnable (fn : Fn) (v : Word)
  /-- FRAME_DISABLE (R825): Clearing FRAME_EN stops boundaries, discards any pending period and armed deadline slots. -/
  | frameDisable (fn : Fn) (v : Word)
  /-- TB_SOURCE_CHANGE (R46): A TB_CTRL write changing SRC or PORT moves the Timebase to FREE or ACQUIRE and restarts the measurement count. -/
  | tbSourceChange (fn : Fn) (v : Word)
  /-- TB_SET (R45): A write of TB_SET_HI sets the Timebase value, signalled to Hedgerow, and is rejected while frames run. -/
  | tbSet (fn : Fn) (hi : Word)
  /-- TB_FRAME_PERIOD_WRITE (R53): A TB_FRAME_PERIOD write takes effect at once with frames off, or is held pending with frames on. -/
  | tbFramePeriodWrite (fn : Fn) (v : Word)
  /-- TB_FRAME_APPLY_WRITE (R55): A TB_FRAME_APPLY write fixes the apply boundary of a pending period, or is rejected and discards it. -/
  | tbFrameApplyWrite (fn : Fn) (v : Word)
  /-- TB_FDL_CFG_WRITE (R827): A write to a frame deadline timer's configuration is checked against the period and takes effect from the next boundary. -/
  | tbFdlCfgWrite (fn : Fn) (k : Fin 8) (v : Word)
  /-- FRAME_BOUNDARY (R50): The Timebase reaches the next grid point, advancing TB_FRAME_NUM and starting the per-frame actions. -/
  | frameBoundary (monitor : Option (BitVec 16))
  /-- FRAME_DEADLINE_MISS (R64): An armed slot reaches its deadline unsatisfied, raising 0xA201 or 0xA102 in FAULT mode or counting and signalling in REPORT mode. -/
  | frameDeadlineMiss (k : Fin 8)
  /-- TB_CROSSCHECK_WINDOW (R75): At the end of each 5 ms Hedgerow window the Timebase advance is compared with 5 ms, raising 0x8304 on an unexplained difference above 10 µs. -/
  | tbCrosscheckWindow (advanceNs : Int)
  /-- HEDGEROW_HCB_LOAD (R114): Hedgerow reads the HCB of the bank in force after power-on reset, entering HELD with 0xA305 if it is invalid. -/
  | hedgerowHcbLoad
  /-- HEDGEROW_PACKET (R108): A tapped range packet is attributed, parsed and counted into the occupancy grid, or marks its input UNKNOWN if damaged, or is dropped on overrun. -/
  | hedgerowPacket (binds : List HdgBinding) (mac : Fin 4) (pkt : UdpPacket) (dropped : Bool)
  /-- FIELD_EVALUATION (R110): Every 2 ms Hedgerow evaluates the fields and computes its command, driving SAFE_STOP_N and queuing a Safe-Stop on change. -/
  | fieldEvaluation (reactUs : Nat)
  /-- HEDGEROW_INPUT_TIMEOUT (R107): An input's INPUT_TIMEOUT_MS passing without a clean sweep makes its uncovered cells UNKNOWN. -/
  | hedgerowInputTimeout (i : Fin 4) (elapsedMs : Nat)
  /-- HEDGEROW_RELEASE_EXPIRY (R85): The command staying off STOP for RELEASE_MS outside HELD turns Hedgerow's SAFE_STOP_N driver off. -/
  | hedgerowReleaseExpiry (elapsedMs : Nat)
  /-- FALLBACK_MAX_EXPIRY (R94): RECOVERY lasting FALLBACK_MAX makes Hedgerow command STOP until the mode becomes NORMAL. -/
  | fallbackMaxExpiry (elapsedMs : Nat)
  /-- HEARTBEAT_SEND (R113): Every 1 ms the Reeve and Hedgerow each send the other a heartbeat. -/
  | heartbeatSend (fromReeve : Bool)
  /-- REEVE_HEARTBEAT_LOSS (R113): Hedgerow receives no Reeve heartbeat for 3 ms, raises 0xA304 and enters HELD. -/
  | reeveHeartbeatLoss (elapsedMs : Nat)
  /-- HEDGEROW_HEARTBEAT_LOSS (R113): The Reeve receives no Hedgerow heartbeat for 3 ms, raises 0xA303, drives SAFE_STOP_N and enters HELD. -/
  | hedgerowHeartbeatLoss (loss : HdgLoss)
  /-- REEVE_LOCKSTEP_MISMATCH (R113): The Reeve's lockstep checker detects a mismatch and signals 0xA306 to Hedgerow, which enters HELD. -/
  | reeveLockstepMismatch
  /-- HDG_SUPPLY_FAULT (R818): VDD_HDG outside its window for 10 µs stops Hedgerow heartbeats and leaves its stop output on. -/
  | hdgSupplyFault (elapsedUs : Nat)
  /-- REEVE_CLEARANCE (R90): The Reeve clears a retired perception job's checks and lets its completion record be written, releasing the verdict. -/
  | reeveClearance (dt : BitVec 10)
  /-- PERCEPTION_STATUS_SEND (R86): The Reeve queues the frame's Perception Status after the verdict release or at the frame deadline, replacing any unsent one. -/
  | perceptionStatusSend (n : Word)
  /-- SAFE_STOP_QUEUE (R695): On a change of the command the Reeve fills its Safe-Stop buffer on CAN 0 within 5 ms. -/
  | safeStopQueue
  /-- SAFE_STOP_PERIODIC (R695): Every PERIOD_MS the Reeve refills its Safe-Stop buffer. -/
  | safeStopPeriodic
  /-- SELF_TEST_RUN (R116): The Reeve exercises a diagnostic through its test port, raising 0xA121 on failure. -/
  | selfTestRun (d : Diagnostic) (flagged corrected : Bool)
  /-- SELF_TEST_OVERDUE (R117): A diagnostic test not completed within 2 s of its previous completion raises 0xA122 and HELD. -/
  | selfTestOverdue (d : Diagnostic) (elapsedMs : Nat)
  /-- MILL_PORT_ENABLE (R137): Setting MILL_PORT_CFG.EN puts the port in SETTLING and starts trying ladder entries. -/
  | millPortEnable (fn : Fn) (p : Fin 4) (v : Word)
  /-- MILL_PORT_DISABLE (R143): Clearing EN takes the port down, closing its incomplete frames REJECTED. -/
  | millPortDisable (fn : Fn) (p : Fin 4) (v : Word)
  /-- PORT_LOCK_TIMEOUT (R139): Lock not reached within 200 ms fails the ladder entry, moving to the next or to FAILED with 0x1102. -/
  | portLockTimeout (p : Fin 4) (elapsedMs : Nat)
  /-- I2C_RUN (R147): A write to MILL_I2C_RUN starts a script on the port's I²C master. -/
  | i2cRun (fn : Fn) (p : Fin 4) (v : Word)
  /-- SCRIPT_WRITE (R147): A script WRITE entry performs one I²C write and fails on NAK or stretch beyond 10 ms. -/
  | scriptWrite (p : Fin 4) (ack : Bool) (stretchUs : Nat) (parity : Bool)
  /-- SCRIPT_WAIT (R147): A script WAIT entry pauses for its microseconds. -/
  | scriptWait (p : Fin 4) (parity : Bool)
  /-- SCRIPT_POLL (R147): A script POLL entry reads a register every 1 ms until it matches, failing after 100 ms or on NAK. -/
  | scriptPoll (p : Fin 4) (ack : Bool) (value : Byte) (elapsedMs : Nat) (parity : Bool)
  /-- SCRIPT_END (R147): A script END entry ends the script successfully. -/
  | scriptEnd (p : Fin 4) (parity : Bool)
  /-- SCRIPT_INVALID_OP (R147): A script entry with opcode 4 to 15 fails the script. -/
  | scriptInvalidOp (p : Fin 4) (parity : Bool)
  /-- CSI_FRAME_START (R167): A CSI-2 Frame Start is stamped, allocates an output slot and opens a frame, or is rejected outside a trigger window. -/
  | csiFrameStart (p : Fin 4) (vc : Fin 16) (fsNumber : BitVec 16) (header : Header) (sync : Bool) (t : Nat)
  /-- CSI_FRAME_END (R172): A CSI-2 Frame End is stamped and closes the frame's reception, or rejects it on a frame-number mismatch. -/
  | csiFrameEnd (p : Fin 4) (vc : Fin 16) (fsNumber : BitVec 16) (header : Header) (sync : Bool) (t : Nat)
  /-- CSI_LONG_PACKET (R138): A CSI-2 long packet is checked and its line buffered, counting errors and lock. -/
  | csiLongPacket (p : Fin 4) (vc : Fin 16) (dt : BitVec 6) (payload : List Byte) (header : Header) (crcOk : Bool) (sync : Bool) (lanes : BitVec 4) (ecc : Ecc) (t : Nat)
  /-- RANGE_PACKET (R148): A received IPv4 UDP packet is classified to a range context, checked and run through its parser. -/
  | rangePacket (mac : Fin 4) (pkt : UdpPacket) (ecc : Ecc) (t : Nat)
  /-- PARSER_END (R152): Parser END accepts the packet. -/
  | parserEnd (i : Fin 8) (parity : Bool)
  /-- PARSER_LD8 (R152): Parser LD8 loads a payload byte, rejecting the packet if outside the payload. -/
  | parserLd8 (i : Fin 8) (parity : Bool)
  /-- PARSER_LD16 (R152): Parser LD16B or LD16L loads a 16-bit payload value. -/
  | parserLd16 (i : Fin 8) (parity : Bool)
  /-- PARSER_LD32 (R152): Parser LD32B or LD32L loads a 32-bit payload value. -/
  | parserLd32 (i : Fin 8) (parity : Bool)
  /-- PARSER_LDI (R152): Parser LDI loads a sign-extended immediate. -/
  | parserLdi (i : Fin 8) (parity : Bool)
  /-- PARSER_LUI (R152): Parser LUI sets the upper 16 bits of a register. -/
  | parserLui (i : Fin 8) (parity : Bool)
  /-- PARSER_ALU (R152): Parser ADD, SUB, AND, OR or XOR combines two registers. -/
  | parserAlu (i : Fin 8) (parity : Bool)
  /-- PARSER_SHIFT (R152): Parser SHL, SHR or SAR shifts a register. -/
  | parserShift (i : Fin 8) (parity : Bool)
  /-- PARSER_MUL (R152): Parser MUL or MULH multiplies two registers. -/
  | parserMul (i : Fin 8) (parity : Bool)
  /-- PARSER_ADDI (R152): Parser ADDI adds a sign-extended immediate. -/
  | parserAddi (i : Fin 8) (parity : Bool)
  /-- PARSER_LUT (R152): Parser LUT reads a parser table word. -/
  | parserLut (i : Fin 8) (parity : Bool)
  /-- PARSER_BRANCH (R152): Parser BEQ, BNE, BLT or BGE branches on a comparison. -/
  | parserBranch (i : Fin 8) (parity : Bool)
  /-- PARSER_EMIT (R153): Parser EMIT emits one point record into the sweep, truncating beyond MAXPTS. -/
  | parserEmit (i : Fin 8) (parity : Bool)
  /-- PARSER_STAMP (R154): Parser STAMP supplies the sensor time for a SENSOR-method capture stamp, checked for plausibility. -/
  | parserStamp (i : Fin 8) (parity : Bool)
  /-- PARSER_SWEEP (R156): Parser SWEEP closes the current sweep as a complete range frame. -/
  | parserSweep (i : Fin 8) (parity : Bool)
  /-- PARSER_SEQ (R155): Parser SEQ checks the packet sequence number, recording lost packets or rejecting a late one. -/
  | parserSeq (i : Fin 8) (parity : Bool)
  /-- PARSER_REJECT (R172): Parser REJECT rejects the packet with a reason and withdraws its points. -/
  | parserReject (i : Fin 8) (parity : Bool)
  /-- PARSER_INVALID_OP (R176): An invalid parser opcode or EMIT with D above 12 rejects the packet and raises 0x1303 as a report. -/
  | parserInvalidOp (i : Fin 8) (parity : Bool)
  /-- PARSER_RUN_LIMIT (R171): A parser run reaching 65,536 instructions rejects the packet with 0x1204. -/
  | parserRunLimit (i : Fin 8)
  /-- FRAME_ASSEMBLY_TIMEOUT (R171): A frame without Frame End within FRAME_TIMEOUT_MS is closed REJECTED with 0x1105. -/
  | frameAssemblyTimeout (k : Fin 24) (elapsedMs : Nat)
  /-- TRIGGER_FIRE (R166): At boundary plus offset an enabled trigger drives its edge and opens trigger windows, or is suppressed while the sensor PLL calibrates. -/
  | triggerFire (i : Fin 8)
  /-- TRIGGER_PULSE_END (R169): A trigger pulse ends after WIDTH_US, allowing a deferred SPLL calibration. -/
  | triggerPulseEnd (i : Fin 8)
  /-- TRIGGER_WINDOW_END (R158): A trigger window ending without a Frame Start resolves the member. -/
  | triggerWindowEnd (k : Fin 16)
  /-- GROUP_COLLECT_CLOSE (R158): The collection window closes, leaving unresolved members ABSENT. -/
  | groupCollectClose (g : Fin 8) (n : Word)
  /-- MILL_GROUP_POST (R163): A resolved group frame with ring room is posted: staleness checked, records written, head advanced and the intake event signalled. -/
  | millGroupPost (g : Fin 8)
  /-- SLOT_RELEASE (R135): A write to MILL_STRM_RELEASE frees consumed output slots, rejected beyond allocation. -/
  | slotRelease (fn : Fn) (k : Fin 24) (v : Word)
  /-- STREAM_ENABLE (R219): Setting MILL_STRM_CTRL.EN enables a stream context after slot-size and configuration checks. -/
  | streamEnable (fn : Fn) (k : Fin 24) (v : Word)
  /-- GROUP_TAIL_WRITE (R163): A consumer write to MILL_GRP_TAIL frees record ring room, rejected beyond HEAD. -/
  | groupTailWrite (fn : Fn) (g : Fin 8) (v : Word)
  /-- DECODE_LINE (R180): The decode stage and Sieve take a pending line, decode, convert and write the whole-frame view and regions. -/
  | decodeLine (k : Fin 16) (ecc : Ecc) (parity : Bool)
  /-- SIEVE_LIST_READ (R210): The Sieve reads a stream's region list at a boundary or Frame Start and replaces the list in force if valid. -/
  | sieveListRead (k : Fin 16) (parity : Bool)
  /-- JOB_DISPATCH (R461): The Queue Manager places an eligible head on a free core, taking a Dispatch Table entry and writing any intake or fold word. -/
  | jobDispatch (k : CoreId)
  /-- TALLY_CFG_LOAD (R440): The core reads the job's tally configuration block before the first bundle, raising 0x2304 if invalid. -/
  | tallyCfgLoad (k : CoreId)
  /-- INSTRUCTION_FETCH (R231): A bundle fetch returns through the instruction cache, refetching on a parity error. -/
  | instructionFetch (k : CoreId) (hit parity : Bool) (ecc : Ecc)
  /-- SALU_ALU (R269): SALU ADD, SUB, AND, OR or XOR writes sD. -/
  | saluAlu (k : CoreId) (slot : Fin 3) (ecc : Ecc)
  /-- SALU_SHIFT (R269): SALU SHL, SHR or SAR writes sD. -/
  | saluShift (k : CoreId) (slot : Fin 3) (ecc : Ecc)
  /-- SALU_MUL (R269): SALU MUL, MULH or MULHU writes sD with a 2-cycle interlock. -/
  | saluMul (k : CoreId) (slot : Fin 3) (ecc : Ecc)
  /-- SALU_MINMAX (R269): SALU MIN, MAX, MINU or MAXU writes sD. -/
  | saluMinmax (k : CoreId) (slot : Fin 3) (ecc : Ecc)
  /-- SALU_COMPARE (R269): SALU SLT, SLTU or CMPEQ writes 1 or 0 to sD. -/
  | saluCompare (k : CoreId) (slot : Fin 3) (ecc : Ecc)
  /-- ADDH (R269): ADDH adds a shifted immediate into sD. -/
  | addh (k : CoreId) (slot : Fin 3) (ecc : Ecc)
  /-- MOVA (R269): MOVA moves an s-register into an a-register. -/
  | mova (k : CoreId) (slot : Fin 3) (ecc : Ecc)
  /-- MOVS (R269): MOVS moves an a-register into an s-register. -/
  | movs (k : CoreId) (slot : Fin 3) (ecc : Ecc)
  /-- ADDA (R269): ADDA adds an immediate to an a-register. -/
  | adda (k : CoreId) (slot : Fin 3) (ecc : Ecc)
  /-- LI64 (R270): LI64 loads a 64-bit immediate into sD. -/
  | li64 (k : CoreId)
  /-- LD (R273): LD issues a device-memory load, forwarding from the store buffer where it holds the bytes. -/
  | ld (k : CoreId)
  /-- LD_RETURN (R273): Load data returns and writes sR, releasing waiting bundles, or faults on poisoned data. -/
  | ldReturn (k : CoreId)
  /-- ST (R274): ST places bytes in the store buffer, merging or stalling when full, and faults in a twin job. -/
  | st (k : CoreId)
  /-- STORE_BUFFER_DRAIN (R425): A store-buffer entry begins to drain as one masked line write, within 32 cycles or sooner when demanded. -/
  | storeBufferDrain (k : CoreId)
  /-- GLD (R273): GLD loads from the Granary into sR after the page check. -/
  | gld (k : CoreId) (errs : GrnErrs)
  /-- GST (R275): GST writes low bytes of sR to the Granary after the page check. -/
  | gst (k : CoreId) (bad : List Nat)
  /-- BRANCH (R277): BEQ, BNE, BLT, BGE, BLTU or BGEU conditionally transfers to a relative bundle. -/
  | branch (k : CoreId)
  /-- J (R277): J transfers to a relative bundle. -/
  | j (k : CoreId)
  /-- JR (R277): JR transfers to the bundle at sA, faulting if unaligned. -/
  | jr (k : CoreId)
  /-- JAL (R277): JAL links the return address in sD and transfers. -/
  | jal (k : CoreId)
  /-- END (R235): END compares the running signature with SIG_END and, on a match, stops issue and awaits drain of every engine. -/
  | endJob (k : CoreId)
  /-- SIGCHK (R283): SIGCHK compares the running signature with sA, raising 0xA111 on a mismatch. -/
  | sigchk (k : CoreId)
  /-- SIGCHKI (R285): SIGCHKI compares the running signature with a 64-bit immediate. -/
  | sigchki (k : CoreId)
  /-- SIGSET (R284): SIGSET sets the running signature to sA. -/
  | sigset (k : CoreId)
  /-- TINC (R286): TINC adds N to a tally once the engine's earlier writes are complete, checked against its bound. -/
  | tinc (k : CoreId) (es : List Engine) (ps : List PeelId) (parity : Bool)
  /-- TWAIT (R288): TWAIT holds its engine until the tally reaches the value, starting a timeout if not met on arrival. -/
  | twait (k : CoreId) (e : Engine) (parity : Bool)
  /-- TGET (R286): TGET reads a tally into sD at issue. -/
  | tget (k : CoreId) (parity : Bool)
  /-- BARC (R290): BARC places barrier entries holding each named engine until its earlier writes are complete. -/
  | barc (k : CoreId) (e : Engine)
  /-- BALLOC (R391): BALLOC chooses a permitted free buffer and starts its zero fill, or returns 0xFFFF_FFFF. -/
  | balloc (k : CoreId) (parity : Bool)
  /-- BALLOC_FILL_COMPLETE (R391): The zero fill completes, the buffer is marked HELD with its tags set and aD written. -/
  | ballocFillComplete (k : CoreId)
  /-- BFREE (R393): BFREE returns an owned buffer to the pool, or records an ownership event. -/
  | bfree (k : CoreId) (parity : Bool)
  /-- BFREE_TAGS_FREE (R394): Two cycles after an accepted BFREE the buffer's page tags become FREE. -/
  | bfreeTagsFree (k : CoreId)
  /-- OPA_CFG (R292): CFG sets the packing mode and operand formats. -/
  | opaCfg (k : CoreId)
  /-- MMA (R292): MMA runs sK array steps into an accumulator. -/
  | mma (k : CoreId)
  /-- ARRAY_STEP (R315): One array step accumulates an outer product and updates the check lanes once its operand records arrive. -/
  | arrayStep (k : CoreId) (errs : GrnErrs) (parity : Bool) (flip : Option (Nat × Nat × Word))
  /-- DRAIN (R320): DRAIN moves the tile into the drain buffer, zeroes the accumulator and closes the pass. -/
  | drain (k : CoreId)
  /-- DRAIN_COMPLETE (R321): The drain unit checks the sums and writes the tile, or raises 0x2101 or 0x2102 and writes nothing. -/
  | drainComplete (k : CoreId) (parity : Bool) (bad : List Nat) (n : Nat)
  /-- OPA_ZERO (R318): ZERO clears the accumulator and check state and opens a pass. -/
  | opaZero (k : CoreId)
  /-- VEC_ARITH (R297): VADD, VSUB, VMUL, VFMA, VMIN or VMAX computes lane-wise results with residue check. -/
  | vecArith (k : CoreId) (ecc : Ecc) (upset : Option (Fin 256 × Word))
  /-- VEC_UNARY (R297): VABS or VNEG computes lane-wise results. -/
  | vecUnary (k : CoreId) (ecc : Ecc) (upset : Option (Fin 256 × Word))
  /-- VEC_LOGIC (R297): VAND, VOR or VXOR operates bitwise on INT32 lanes. -/
  | vecLogic (k : CoreId) (ecc : Ecc) (upset : Option (Fin 256 × Word))
  /-- VEC_SHIFT (R297): VSHL, VSHR or VSAR shifts INT32 lanes. -/
  | vecShift (k : CoreId) (ecc : Ecc) (upset : Option (Fin 256 × Word))
  /-- VCMP (R297): VCMP writes lane comparison results to predicates. -/
  | vcmp (k : CoreId) (ecc : Ecc) (upset : Option (Fin 256 × Word))
  /-- VSEL (R297): VSEL selects lanes by predicate. -/
  | vsel (k : CoreId) (ecc : Ecc) (upset : Option (Fin 256 × Word))
  /-- VCVT (R359): VCVT converts lanes between formats with saturation and NaN rules, counting saturations and NaNs. -/
  | vcvt (k : CoreId) (ecc : Ecc) (upset : Option (Fin 256 × Word))
  /-- VRED (R300): VRED reduces active lanes in a fixed pairwise tree into lane 0. -/
  | vred (k : CoreId) (ecc : Ecc) (upset : Option (Fin 256 × Word))
  /-- VLUT (R301): VLUT applies a piecewise-linear table to each lane. -/
  | vlut (k : CoreId) (ecc : Ecc) (upset : Option (Fin 256 × Word)) (errs : GrnErrs)
  /-- VBC (R297): VBC broadcasts a scalar into every active lane. -/
  | vbc (k : CoreId) (ecc : Ecc) (upset : Option (Fin 256 × Word))
  /-- VLD (R299): VLD loads 256 packed elements from the Granary. -/
  | vld (k : CoreId) (ecc : Ecc) (upset : Option (Fin 256 × Word)) (errs : GrnErrs)
  /-- VST (R299): VST stores 256 packed elements to the Granary. -/
  | vst (k : CoreId) (ecc : Ecc) (upset : Option (Fin 256 × Word)) (bad : List Nat)
  /-- VPOP (R297): VPOP combines predicates. -/
  | vpop (k : CoreId) (ecc : Ecc) (upset : Option (Fin 256 × Word))
  /-- VMOV (R297): VMOV copies a vector register. -/
  | vmov (k : CoreId) (ecc : Ecc) (upset : Option (Fin 256 × Word))
  /-- XFER (R302): XFER forms a peel transfer from registers and queues it, or raises 0x2502. -/
  | xfer (k : CoreId) (q : PeelId)
  /-- PEEL_TRANSFER_ISSUE (R240): A queued transfer becomes the peel's ISSUING transfer after checks and issues its requests. -/
  | peelTransferIssue (k : CoreId) (q : PeelId) (act : PeelAct) (errs : GrnErrs) (bad : List Nat)
  /-- PEEL_TRANSFER_COMPLETE (R241): Every byte of a transfer reaches its completion point and the named tally is incremented. -/
  | peelTransferComplete (k : CoreId) (q : PeelId)
  /-- PEEL_COMPLETION_TIMEOUT (R248): A transfer exceeding HRT_PEEL_TMO raises 0x2501. -/
  | peelCompletionTimeout (k : CoreId) (q : PeelId) (elapsedUs : Nat)
  /-- WATCHDOG_EXPIRY (R245): An engine's progress watchdog reaches its window and raises 0x2301. -/
  | watchdogExpiry (k : CoreId) (mask : BitVec 5) (cycles : Nat)
  /-- TALLY_WAIT_TIMEOUT (R438): A TWAIT not passed at the end of its timeout microsecond raises 0x2302. -/
  | tallyWaitTimeout (k : CoreId) (e : Engine) (elapsedUs : Nat)
  /-- JOB_RETIRE (R235): With all queues empty and peels complete the core reports retirement with its twin checksum and reclaims buffers. -/
  | jobRetire (k : CoreId)
  /-- BACKGROUND_PARITY_CHECK (R830): A background check reads protected held state at least every 100 µs and raises its block's parity code on error. -/
  | backgroundParityCheck (what : Upheld)
  /-- GRANARY_WRITEBACK (R376): A pending corrected Granary word is written back in a cycle without engine requests. -/
  | granaryWriteback (k : CoreId)
  /-- GRANARY_SCRUB (R378): A bank scrubber reads one line, correcting, faulting on owned pages, or zeroing free pages. -/
  | granaryScrub (k : CoreId) (bank : Fin 32) (errs : GrnErrs)
  /-- POOL_DISABLE (R404): A write of 0 to GRN_CTRL.POOL_EN with no busy core and no pre-empted job resets every pool. -/
  | poolDisable (fn : Fn) (v : Word)
  /-- GRN_OWN_CLEAR (R395): A write of 1 to GRN_OWN_CLEAR empties the ownership log. -/
  | grnOwnClear (fn : Fn) (v : Word)
  /-- SQ_DB (R450): A submission doorbell submits descriptors up to PRODUCER, or is ignored and logged as a violation. -/
  | sqDb (fn : Fn) (q : BitVec 16) (v : Word)
  /-- CQ_DB (R450): A completion doorbell frees completion-ring entries, releasing held records. -/
  | cqDb (fn : Fn) (q : BitVec 16) (v : Word)
  /-- DESCRIPTOR_FETCH (R454): A queue head descriptor is read and checked, and rejected with a REJECTED record on failure. -/
  | descriptorFetch (q : BitVec 16) (ecc : Ecc)
  /-- QUEUE_ENABLE (R490): QM_QCTL ENABLE starts a DISABLED queue with its counters reset. -/
  | queueEnable (fn : Fn)
  /-- QUEUE_DISABLE (R490): QM_QCTL DISABLE puts the queue in DRAINING until no job is held, then DISABLED. -/
  | queueDisable (fn : Fn)
  /-- QUEUE_RESUME_REPLAY (R485): RESUME_REPLAY makes a HALTED queue's oldest lost descriptor its head again. -/
  | queueResumeReplay (fn : Fn)
  /-- QUEUE_RESUME_SKIP (R485): RESUME_SKIP resumes a HALTED queue from its oldest never-dispatched descriptor. -/
  | queueResumeSkip (fn : Fn)
  /-- PREEMPTION_REQUEST (R478): After a save buffer is filled, the core is asked to stop and quiesce its engines for pre-emption. -/
  | preemptionRequest (k : CoreId)
  /-- CORE_SAVE_COMPLETE (R479): The core save image is written and the core becomes free for the pre-empting job. -/
  | coreSaveComplete (k : CoreId) (ns : Nat)
  /-- JOB_RESUME (R482): A pre-empted job is restored on its core from its save image, or raises 0x4203. -/
  | jobResume (k : CoreId) (errs : GrnErrs)
  /-- COMPLETION_RECORD_WRITE (R467): A completion record is written in descriptor order when ring room exists, freeing its Dispatch Table entry. -/
  | completionRecordWrite (q : BitVec 16)
  /-- COALESCE_EXPIRY (R470): A coalescing window ends and the queue sends its MSI-X vector. -/
  | coalesceExpiry (q : BitVec 16) (elapsedUs : Nat)
  /-- JOB_DEADLINE_EXPIRY (R475): A job not retired by its deadline raises 0x4201 as a job fault. -/
  | jobDeadlineExpiry (q : BitVec 16) (pos : Nat) (elapsedUs : Nat)
  /-- PART_PERC_WRITE (R493): A PART_CTRL write changing PERC names a new perception partition, rejected while queues run or locked. -/
  | partPercWrite (fn : Fn) (v : Word)
  /-- PART_LOCK (R494): Writing LOCK locks the perception partition's configuration until power-on reset. -/
  | partLock (fn : Fn) (v : Word)
  /-- PART_RESET_WRITE (R507): A physical-function write to PART_RESET starts partition resets of the named partitions. -/
  | partResetWrite (fn : Fn) (v : Word)
  /-- PARTITION_RESET_COMPLETE (R509): A partition reset completes after its engine resets and sets RESET_DONE for the physical function. -/
  | partitionResetComplete (p : Part)
  /-- PART_WIN_WRITE (R497): A write to a memory window is checked for size, range and overlap when it enables the window. -/
  | partWinWrite (fn : Fn) (p : Part) (w : Fin 4) (v : Word)
  /-- DRAM_REGULATOR_WRITE (R519): A write to PART_DRAM_CAP or PART_DRAM_REG is checked against reservations and takes effect next period. -/
  | dramRegulatorWrite (fn : Fn) (p : Option Part) (v : Word)
  /-- REGULATOR_PERIOD (R516): Every 1 µs the DRAM and Kelyth regulators reset their used-line counts. -/
  | regulatorPeriod
  /-- REQUEST_ADMIT (R518): A held charged request is admitted by its regulator when its reservation or the pool permits. -/
  | requestAdmit (port : Option (Fin 4))
  /-- GRANARY_BALANCE_REFILL (R523): Every 1 ms each shared-core Granary balance is raised toward G. -/
  | granaryBalanceRefill
  /-- JOB_LOST_ANNOUNCE (R503): Within 500 µs of detection every enabled partition has PART_LOST written and a message sent on LOST_VEC. -/
  | jobLostAnnounce
  /-- MSIX_SEND (R506): A held MSI-X pending message is sent when the function's vector is unmasked and enabled. -/
  | msixSend (fn : Fn) (vector : BitVec 7)
  /-- KLY_PORT_ENABLE (R536): Setting KLY_CTRL.EN moves the port from DISABLED to TRAINING at ladder index 0. -/
  | klyPortEnable (fn : Fn) (i : Fin 4) (v : Word)
  /-- KLY_PORT_DISABLE (R536): Clearing EN puts the port DISABLED. -/
  | klyPortDisable (fn : Fn) (i : Fin 4) (v : Word)
  /-- KLY_PLL_CHANNEL_LOCK (R538): The port's link PLL channel locks, releasing held frames and continuing training. -/
  | klyPllChannelLock (i : Fin 4)
  /-- KLY_TRAIN_ATTEMPT_TIMEOUT (R538): A mode attempt not passed in 20 ms fails and the next permitted mode is tried. -/
  | klyTrainAttemptTimeout (i : Fin 4) (elapsedMs : Nat)
  /-- KLY_TRAINING_LIMIT (R539): A port still training after 1 s goes FAILED with 0x5103. -/
  | klyTrainingLimit (i : Fin 4) (elapsedMs : Nat)
  /-- KLY_TRAIN_FRAME (R539): A TRAIN frame exchanges masks, floor and topology, sending the port OUT_OF_SERVICE on mismatch. -/
  | klyTrainFrame (i : Fin 4) (bytes : List Byte)
  /-- KLY_TRAINING_PASS (R538): 100 µs of error-free training pattern puts the port UP in the mode. -/
  | klyTrainingPass (i : Fin 4)
  /-- KLY_DATA_FRAME (R558): A received DATA frame is accepted in order and written, forwarded, or refused, with RACK at message end. -/
  | klyDataFrame (i : Fin 4) (bytes : List Byte)
  /-- KLY_RACK (R557): A RACK completes a message's firing, or with ERROR raises 0x5205. -/
  | klyRack (i : Fin 4) (bytes : List Byte)
  /-- KLY_ACK (R545): An ACKSEQ advance releases acknowledged frames from the replay buffer. -/
  | klyAck (i : Fin 4) (bytes : List Byte)
  /-- KLY_NAK (R545): A NAK makes the sender resend every unacknowledged frame from the named one. -/
  | klyNak (i : Fin 4) (bytes : List Byte)
  /-- KLY_CREDIT (R546): A CREDIT frame returns receive lines to the sender. -/
  | klyCredit (i : Fin 4) (bytes : List Byte)
  /-- KLY_ABORT (R569): A received ABORT is forwarded once and raises 0x5203 or joins the running recovery. -/
  | klyAbort (i : Fin 4) (bytes : List Byte)
  /-- KLY_FRAME_TRANSMIT (R547): A port sends its next queued frame by priority when it has credit and its channel is locked. -/
  | klyFrameTransmit (i : Fin 4) (ecc : Ecc) (headerOk : Bool)
  /-- KLY_REPLAY_TIMEOUT (R545): 20 µs without ACKSEQ advance resends every unacknowledged frame. -/
  | klyReplayTimeout (i : Fin 4) (elapsedUs : Nat)
  /-- KLY_LINK_NOT_READY (R549): No lock 2 ms after a frame was held completes its operations with LINK_NOT_READY and 0x5201. -/
  | klyLinkNotReady (i : Fin 4) (elapsedUs : Nat)
  /-- COUNTER_WINDOW_WRITE (R551): A store-peel write to a collective counter window adds its value, or raises 0x5206 or 0x4301. -/
  | counterWindowWrite
  /-- TRIGGER_DESCRIPTOR_WRITE (R553): A write to a triggered-operation descriptor is checked when it sets VALID. -/
  | triggerDescriptorWrite (fn : Fn) (t : TrigId) (w : Fin 16) (v : Word)
  /-- TRIGGERED_OP_FIRE (R554): A valid descriptor fires when its counter reaches its threshold. -/
  | triggeredOpFire (t : TrigId) (parityOk : Bool)
  /-- PUT (R557): PUT sends LEN bytes as one message to the destination device, or copies locally. -/
  | put (t : TrigId) (ecc : Ecc)
  /-- REDUCE (R559): REDUCE sums contributions from staging in ascending device order and writes the results. -/
  | reduce (t : TrigId) (ecc : Ecc)
  /-- EXCHANGE (R561): EXCHANGE sends each device a padded fixed-capacity slot from the count table, dropping excess. -/
  | exchange (t : TrigId) (ecc : Ecc)
  /-- FLAG (R563): FLAG writes its 8-byte value to device memory. -/
  | flag (t : TrigId)
  /-- DOORBELL (R563): DOORBELL advances a RING queue's PRODUCER, or raises 0x5206. -/
  | doorbell (t : TrigId)
  /-- FIRING_COMPLETE (R554): A firing completes, advancing F, clearing VALID without REARM, and incrementing DONE_CNT. -/
  | firingComplete (t : TrigId)
  /-- FIRING_TIMEOUT (R555): A descriptor not fired or not completed within TIMEOUT_US raises 0x5204. -/
  | firingTimeout (t : TrigId) (elapsedUs : Nat)
  /-- CT_BIND (R597): A BIND window word binds a conversation slot to its queues and starts the dormancy timer. -/
  | ctBind
  /-- CT_REQUEST (R597): A REQUEST word makes the slot ACTIVE and starts the request timer. -/
  | ctRequest
  /-- CT_DONE (R597): A DONE word makes an ACTIVE slot IDLE and restarts dormancy. -/
  | ctDone
  /-- CT_TOUCH (R597): A TOUCH word restarts an IDLE slot's dormancy timer. -/
  | ctTouch
  /-- CT_UNBIND (R597): An UNBIND word frees the slot, stops its timers and releases its fold gate. -/
  | ctUnbind
  /-- CT_REQUEST_EXPIRY (R601): A request timer expiry makes the slot IDLE and rejects its undispatched descriptors with 0x4601. -/
  | ctRequestExpiry (slot : Fin 1024) (elapsedMs : Nat)
  /-- CT_DORMANCY_EXPIRY (R602): A dormancy expiry makes the slot DORMANT and submits a fold on its fold queue, setting the gate. -/
  | ctDormancyExpiry (slot : Fin 1024) (elapsedS : Nat)
  /-- FAULT_EVENT_ARRIVAL (R616): A fault event reaches the collector and is handled by its disposition: recovery start, join, HELD, or logging. -/
  | faultEventArrival (parity : List (Option Bool)) (ecc : Ecc)
  /-- VIOLATION_LOG_WRITE (R643): A queued VIOLATION event is written to the violation log, rate-limited or dropped when the queue is full. -/
  | violationLogWrite
  /-- CRASH_CAPTURE_START (R625): When every core reports FROZEN the Reeve starts reading state into a crash record slot. -/
  | crashCaptureStart
  /-- CRASH_RECORD_SECURE (R625): Capture stops by D + 380 µs, the CRC is written and the slot becomes valid. -/
  | crashRecordSecure (read : Nat) (parity : Bool) (parityCores : BitVec 16) (ecc : Ecc)
  /-- ENGINE_RESET (R249): The Reeve requests an engine reset, which clears that engine's state. -/
  | engineReset (k : CoreId) (e : Engine)
  /-- ENGINE_RESET_DONE (R249): An engine reports its reset done, and the next engine or pool reset follows. -/
  | engineResetDone (k : CoreId) (e : Engine)
  /-- PEEL_RESET_FAILED (R251): A peel with requests outstanding 12 µs after reset reports FAILED with 0x2601. -/
  | peelResetFailed (k : CoreId) (q : PeelId) (elapsedUs : Nat)
  /-- PEEL_RESET_RETRY (R637): 40 µs after a first FAILED the peel reset is requested again. -/
  | peelResetRetry (k : CoreId) (q : PeelId) (elapsedUs : Nat)
  /-- KNOWN_ANSWER_TEST (R635): A core's known-answer test completes, readmitting it or entering HELD with 0xA402. -/
  | knownAnswerTest (k : CoreId) (pass : Bool)
  /-- SWEEP_COMPLETE (R633): The sweep finishes its queue, partition and close steps and releases the core freezes. -/
  | sweepComplete
  /-- SWEEP_SUPERVISION_EXPIRY (R638): A sweep not complete 2.5 ms after it started puts the device in HELD with 0xA401. -/
  | sweepSupervisionExpiry (elapsedUs : Nat)
  /-- BAR2_ACCESS (R652): A host request to BAR2 reaches device memory, or is refused and counted. -/
  | bar2Access (fn : Fn) (a n : Nat) (write : Option (List Byte)) (poisoned : Bool) (ecc : Ecc)
  /-- PCIE_TLP_VIOLATION (R683): A malformed, poisoned, unsupported or unexpected TLP is discarded or answered as an Unsupported Request and logged. -/
  | pcieTlpViolation (fn : Fn) (c : TlpClass) (detail : List Byte)
  /-- PCIE_LINK_ERROR (R653): A correctable link error is counted, stepping the link down past ERR_THRESH. -/
  | pcieLinkError
  /-- PCIE_RESTORE (R655): A write of RESTORE returns the link floor to MAX_SPEED and MAX_WIDTH. -/
  | pcieRestore (fn : Fn) (v : Word)
  /-- PCIE_LINK_DOWN (R681): DL_Down or Hot Reset resets every function's configuration space and starts partition resets. -/
  | pcieLinkDown
  /-- PERST (R649): PERST_N resets the PCIe interface as a Hot Reset. -/
  | perst (asserted : Bool)
  /-- FUNCTION_LEVEL_RESET (R507): An FLR of a function starts a partition reset and resets its vector registers. -/
  | functionLevelReset (fn : Fn)
  /-- VF_ENABLE_CLEAR (R507): Clearing VF Enable starts partition resets of every virtual function's partition. -/
  | vfEnableClear
  /-- MAILBOX_DOORBELL (R677): A write to SEC_MBX_DB starts processing the command, or sets OVERRUN while busy. -/
  | mailboxDoorbell (fn : Fn) (v : Word) (touched : BitVec 8)
  /-- OPEN_REQ (R660): OPEN_REQ starts a pending open with a device challenge, or answers LOCKED, NO_KEY or INCOMPATIBLE. -/
  | openReq (fn : Fn) (keyOk rngOk : Bool)
  /-- OPEN_PROOF (R661): OPEN_PROOF verifies the host proof, derives session keys and opens the session FULL or LIMITED. -/
  | openProof (fn : Fn) (keyOk : Bool)
  /-- KEY_PROVISION (R657): KEY_PROVISION programs a blank partition key slot while provisioning is open. -/
  | keyProvision
  /-- KEEPALIVE (R674): KEEPALIVE is accepted and answers OK. -/
  | keepalive (fn : Fn)
  /-- CLOSE (R678): CLOSE answers OK and closes the session. -/
  | close (fn : Fn)
  /-- INFO (R674): INFO returns versions, identification and session mode. -/
  | info (fn : Fn)
  /-- FW_STAGE (R766): FW_STAGE hashes an image in DRAM and passes it to the Steward for staging in the inactive bank. -/
  | fwStage
  /-- FW_STAGE_COMPLETE (R767): The Steward writes, reads back and validates the staged image, answering OK or VERIFY_FAIL. -/
  | fwStageComplete (readBack : Bool)
  /-- FW_ACTIVATE (R769): FW_ACTIVATE checks the staged pair and starts the selector write naming the inactive bank. -/
  | fwActivate
  /-- SELECTOR_WRITE_COMPLETE (R769): The new selector copy is written, activating the staged bank for the next power-on reset. -/
  | selectorWriteComplete
  /-- OPEN_PENDING_EXPIRY (R662): A pending open without OPEN_PROOF for 1 s is a failed open, counting toward lockout. -/
  | openPendingExpiry (fn : Fn) (elapsedMs : Nat)
  /-- LOCKOUT_EXPIRY (R663): A partition's open lockout ends. -/
  | lockoutExpiry (fn : Fn) (elapsedS : Nat)
  /-- SESSION_IDLE_EXPIRY (R678): No accepted command for SEC_IDLE_S seconds closes the session with 0x6206. -/
  | sessionIdleExpiry (fn : Fn) (elapsedS : Nat)
  /-- SEC_PROV_CLOSE (R658): A write of 1 to SEC_PROV_CLOSE closes key provisioning permanently. -/
  | secProvClose (fn : Fn) (v : Word)
  /-- CAN_FRAME_RECEIVE (R721): A received CAN frame is filtered into the CAN 1 FIFO, or checked and discarded on CAN 0. -/
  | canFrameReceive (c : Fin 2) (f : CanFrame) (ramError : Bool) (t : Nat)
  /-- CAN_TX_COMPLETE (R695): A pending CAN frame wins arbitration and completes transmission. -/
  | canTxComplete (c : Fin 2) (ramError : Bool)
  /-- CAN_TX_ERROR (R701): A transmit error raises TEC, possibly entering error-passive, lowering the rung or going bus-off. -/
  | canTxError (c : Fin 2) (dataPhase : Bool) (exempt : Bool)
  /-- CAN_BUSOFF_RECOVERY_DONE (R704): Bus-off recovery completes and the controller returns to error-active. -/
  | canBusoffRecoveryDone (c : Fin 2)
  /-- CAN_HOLD_EXPIRY (R704): HOLD_MS after bus-off with a Safe-Stop sent on a healthy CAN 0, the Reeve's CAN driver turns off. -/
  | canHoldExpiry (elapsedMs : Nat)
  /-- SAFE_STOP_SUPERVISION_EXPIRY (R706): A Safe-Stop not completed on CAN 0 within 5 ms is copied to CAN 1 with 0x7103. -/
  | safeStopSupervisionExpiry (hedgerow : Bool) (elapsedMs : Nat)
  /-- CAN_TX_REQUEST (R700): Setting REQ on a CAN 1 buffer makes it pending and starts its timeout. -/
  | canTxRequest (fn : Fn) (b : Fin 16) (v : Word)
  /-- CAN_TX_ABORT (R700): Setting ABORT on a CAN 1 buffer withdraws its pending frame. -/
  | canTxAbort (fn : Fn) (b : Fin 16) (v : Word)
  /-- CAN_TX_TIMEOUT (R700): A host buffer unsent TMO_MS after REQ is abandoned and counted. -/
  | canTxTimeout (b : Fin 16) (elapsedMs : Nat)
  /-- CAN_RXF_POP (R700): A write to CAN_RXF_POP removes the receive FIFO head. -/
  | canRxfPop (fn : Fn) (v : Word)
  /-- CAN_RATE_RESTORE (R692): A write of RESTORE returns a controller to rung 0. -/
  | canRateRestore (fn : Fn) (c : Fin 2) (v : Word)
  /-- ETH_ENABLE (R711): Setting ETH_CFG.EN writes the PHY advertisement and restarts auto-negotiation. -/
  | ethEnable (fn : Fn) (m : Fin 5) (v : Word)
  /-- ETH_LINK_UP (R711): The PHY settles a link, held down if outside the mask or half duplex. -/
  | ethLinkUp (m : Fin 5) (speed : Fin 5) (fullDuplex : Bool)
  /-- ETH_LINK_DOWN (R715): A MAC loses link and logs 0x7201. -/
  | ethLinkDown (m : Fin 5)
  /-- ETH_FRAME_RECEIVE (R709): An accepted Ethernet frame goes to the Hedgerow tap, Timebase, ARP responder or Mill in order. -/
  | ethFrameReceive (m : Fin 5) (dst : BitVec 48) (kind : EthKind) (fcsOk : Bool) (symbolError : Bool) (overflow : Bool)
  /-- SAFE_STOP_READBACK_FAULT (R719): SAFE_STOP_N reading high 10 µs after a driver turned on raises 0x7110 and HELD. -/
  | safeStopReadbackFault (elapsedUs : Nat)
  /-- SAFE_STOP_EXTERNAL_LOW (R719): SAFE_STOP_N low with both drivers off sets EXT_LOW and logs 0x7111. -/
  | safeStopExternalLow
  /-- POWER_SAMPLE (R734): Every 10 µs core and SRAM power is compared with PWR_LIMIT and E_POWER stepped. -/
  | powerSample (deciwatts : BitVec 16)
  /-- POWER_LIMIT_PERSIST (R735): Power above the limit for 10 ms at minimum E logs 0x8405. -/
  | powerLimitPersist (elapsedMs : Nat)
  /-- THERMAL_SAMPLE (R736): Every 10 µs each core temperature steps E_THERM, may pause the core or raise 0x8202. -/
  | thermalSample (temps : List (BitVec 8)) (outOfRange : BitVec 16)
  /-- THERMAL_PAUSE_END (R737): A thermal pause ends after 2 ms or on cooling, resuming at E = 11. -/
  | thermalPauseEnd (i : Fin 16) (elapsedUs : Nat)
  /-- SPLL_CAL_REQUEST (R741): A write to CLK_SPLL_CAL requests an SPLL calibration. -/
  | spllCalRequest (write : Option (Fn × Word))
  /-- SPLL_CALIBRATION_START (R742): A due calibration starts when no trigger pulse is active and the window allows. -/
  | spllCalibrationStart
  /-- SPLL_CAL_FORCE (R742): A calibration waiting 10 s starts outside its window and logs 0x8403. -/
  | spllCalForce (elapsedS : Nat)
  /-- SPLL_CALIBRATION_DONE (R741): The SPLL calibration completes and the trigger channel becomes valid. -/
  | spllCalibrationDone
  /-- PLL_LOCK (R727): A PLL reaches LOCKED. -/
  | pllLock (pll : Pll)
  /-- PLL_LOSS_OF_LOCK (R727): A PLL loses lock or reference and becomes LOST, raising its code. -/
  | pllLossOfLock (pll : Pll) (refMissing : Bool)
  /-- CLOCK_MONITOR_WINDOW (R771): An island clock counted over 10 µs outside 5 % raises 0x8101. -/
  | clockMonitorWindow (island : Fin 64) (ppm : Int) (changed fifoParity : Bool)
  /-- SUPPLY_OUT_OF_WINDOW (R772): A rail outside ±5 % for 10 µs raises 0x8201. -/
  | supplyOutOfWindow (rail : Fin 6) (elapsedUs : Nat)
  /-- CRYSTAL_LOSS (R773): Loss of the crystal holds PLL frequency and raises 0x8105. -/
  | crystalLoss
  /-- BANK_ENTER_REQUEST (R745): A write of PWR_BANK.ENTER starts Banked entry if conditions hold, held in RECOVERY or rejected. -/
  | bankEnterRequest (fn : Fn) (v : Word)
  /-- BANK_ENTRY_COMPLETE (R746): Banked entry completes with cores unpowered and memory in self-refresh. -/
  | bankEntryComplete
  /-- WAKE_REQUEST (R750): A PWR_WAKE write or wake-enabled TRIG_IN edge starts the 40 ms wake. -/
  | wakeRequest (fn : Fn) (v : Word)
  /-- WAKE_COMPLETE (R751): Exactly 40 ms after the wake request the device returns to RUN, or enters HELD with 0x9301. -/
  | wakeComplete
  /-- BOOT_START (R761): RESET_N rising with rails in range starts Hedgerow and the boot sequence, or test mode. -/
  | bootStart (testEn : Bool) (flash : Option FlashContent)
  /-- BOOT_PAIR_CLASSIFY (R759): The Steward verifies the Reeve image and manifest and classifies the firmware pair. -/
  | bootPairClassify
  /-- REEVE_START (R761): The Steward loads and starts the Reeve. -/
  | reeveStart
  /-- BOOT_COMPLETE (R761): After known-answer tests and self-test the mode becomes NORMAL and FAULT_N is released. -/
  | bootComplete (monitor : Option (BitVec 16))
  /-- RAIL_UNDERVOLT_RESET (R796): A main rail below 90 % holds every block except Hedgerow and CAN in power-on reset. -/
  | railUndervoltReset
  /-- RAIL_RECOVERY_RELEASE (R796): Rails back in range for 10 ms release the reset as if RESET_N had risen. -/
  | railRecoveryRelease (inRangeMs : Nat) (testEn : Bool)
  /-- RESET_N_PULSE (R800): A low pulse on RESET_N of 1 µs or longer causes a power-on reset. -/
  | resetNPulse (ns : Nat)
  /-- CONFIG_SPACE_WRITE (R648): A host write to a function's PCIe configuration space sets VF Enable, Bus Master Enable, MSI-X enable or mask, the power state D0 or D3hot, or the autonomous speed and width disable bits. -/
  | configSpaceWrite (fn : Fn) (w : CfgWrite)
  /-- PCIE_LINK_UP (R655): The PCIe link completes training or retraining to DL_Up at the speed and width that the floor and the host allow. -/
  | pcieLinkUp (speed : Fin 5) (width : Fin 9)
  /-- TIME_MESSAGE_TRANSMIT (R710): At its protocol interval the Timebase sends an IEEE 802.1AS or IEEE 1588 message, such as a Sync, Announce, Pdelay_Req or Delay_Req, on the selected port or on a served sensor MAC. -/
  | timeMessageTransmit (m : Fin 5) (served : Bool) (kind : TimeKind) (head bytes : List Byte)
  /-- CAN_RECEIVE_ERROR (R721): A CAN controller detects a bus error while it receives a frame and raises REC under fault confinement, which may change its error state. -/
  | canReceiveError (c : Fin 2) (by8 : Bool)
  /-- BOUNDARY_SCAN_ACCESS (R813): A TCK edge on the test access port advances the TAP, selecting or executing BYPASS, IDCODE, SAMPLE/PRELOAD, or EXTEST, CLAMP and HIGHZ in test mode. -/
  | boundaryScanAccess (trstN tms tdi : Bool) (sample : List Bool)
  deriving DecidableEq, Repr

end Sys2Proof
end

