-- ==== Sys2Proof/Config.lean ====
section
/-! DEFINITION. The free values: what the spec leaves open and the machine goes on with.  None has a body that a proof
could use, so a statement holds for every value of them. -/

namespace Sys2Proof.Machine

/-- The instructions that the test access port supports (R813). -/
inductive TapInstr where
  | bypass | idcode | sample | extest | clamp | highz
  deriving DecidableEq, Repr, Inhabited

end Sys2Proof.Machine

namespace Sys2Proof

/-- A fresh value of any width, by the count of values drawn so far (State.draws). [log 4: DESIGN CHOICE, safe] -/
opaque Config.fresh : Nat → Nat

/-- The byte a DRAM cell holds that nothing has written since the power-on reset of number `epoch` (R819, R820). [log 9: DEDUCED, safe] -/
opaque Config.dramByte : (epoch addr : Nat) → Byte

/-- The byte of the Collective Engine's staging that nothing has written since power-on reset (R567). [log 113: DESIGN CHOICE, safe] -/
opaque Config.stageByte : (epoch off : Nat) → Byte

/-- The samples that a camera line of RAW16 or RAW20 packs, by CSI-2 (05_decode_and_steering.md, Decoding). [log 20: DESIGN CHOICE, safe] -/
opaque Config.csiUnpack : (dataType : Nat) → List Byte → List Nat

/-- What stands for a sample of a channel at a pixel of the grid that no line and no image gives: a phase without a good line, an image smaller than
the geometry. [log 20: DESIGN CHOICE, safe] -/
opaque Config.openSample : (layout channel x y : Nat) → Nat

/-- The lane that VLUT writes for an operand where its table's LO is not below HI: R301 states no result. [log 156: DESIGN CHOICE, safe] -/
opaque Config.lutOpen : (table : Nat) → (x : Word) → Word

/-- Hedgerow's transform of a point by its sensor's mounting into the vehicle frame, in mm (R104): the order of the rotations,
their rounding and that of the polar form are open. [log 35: DESIGN CHOICE, safe] -/
opaque Config.hdgTransform : (mount : List Int) → (cartesian : Bool) → (a b c : Int) → Int × Int × Int

/-- The cell of the grid, 256 × iy + ix, lies where a sweep of the sensor with this mounting and stream number covers it (R107): the spec gives
no sensor's field of view. [log 139: DESIGN CHOICE, safe] -/
opaque Config.hdgCovers : (mount : List Int) → (stream cell : Nat) → Bool

/-- Of two selector copies with the same SEQ, the second one is in force (R753 says nothing of a tie). [log 118: DESIGN CHOICE, safe] -/
opaque Config.selectorTie : (seq : Nat) → Bool

/-- The instruction of an opcode of the test access port other than all ones: R813 gives no opcodes. -/
opaque Config.tapInstr : Byte → Machine.TapInstr

end Sys2Proof
end

