-- ==== Sys2Proof/Machine/Bits.lean ====
section
/-! DEFINITION. Sparse tables in canonical form, byte order, and bit-field helpers (R11, R13). -/

namespace Sys2Proof.Machine

/-- A table by number: pairs with strictly rising keys; an absent key has the table's default. -/
abbrev Tbl (α : Type) := List (Nat × α)

variable {α : Type}

/-- What the table lists at k. -/
def Tbl.find : Tbl α → Nat → Option α
  | [], _ => none
  | (k', v) :: m, k => if k' = k then some v else Tbl.find m k

/-- The table with v at k. -/
def Tbl.put : Tbl α → Nat → α → Tbl α
  | [], k, v => [(k, v)]
  | (k', v') :: m, k, v =>
    if k < k' then (k, v) :: (k', v') :: m
    else if k = k' then (k, v) :: m
    else (k', v') :: Tbl.put m k v

/-- The table with nothing listed at k. -/
def Tbl.drop : Tbl α → Nat → Tbl α
  | [], _ => []
  | (k', v') :: m, k => if k' = k then m else (k', v') :: Tbl.drop m k

/-- The value at k, the default d where nothing is listed. -/
def Tbl.getD (m : Tbl α) (k : Nat) (d : α) : α := (Tbl.find m k).getD d

/-- Every key of the table is above b and the keys rise strictly. -/
def Tbl.above : Nat → Tbl α → Bool
  | _, [] => true
  | b, (k, _) :: m => decide (b < k) && Tbl.above k m

/-- The canonical form: the keys rise strictly. -/
def Tbl.wf : Tbl α → Bool
  | [] => true
  | (k, _) :: m => Tbl.above k m

/-- The little-endian number that bytes spell (R11). -/
def leNat : List Byte → Nat
  | [] => 0
  | b :: bs => b.toNat + 256 * leNat bs

/-- A little-endian field of n bytes at an offset of a byte list. -/
def fieldAt (bs : List Byte) (off n : Nat) : Nat := leNat ((bs.drop off).take n)

/-- n bytes, little-endian, of the number v (R11). -/
def leBytes : Nat → Nat → List Byte
  | 0, _ => []
  | n + 1, v => BitVec.ofNat 8 v :: leBytes n (v / 256)

/-- The big-endian number that bytes spell, as network headers and the hash functions use it (R11). -/
def beNat : List Byte → Nat
  | bs => bs.foldl (fun a b => a * 256 + b.toNat) 0

/-- n bytes, big-endian, of the number v. -/
def beBytes (n v : Nat) : List Byte := (leBytes n v).reverse

/-- Bits lo to lo+w-1 of a number. -/
def bitsAt (v lo w : Nat) : Nat := v / 2 ^ lo % 2 ^ w

/-- Bit i of a number. -/
def bitAt (v i : Nat) : Bool := v.testBit i

/-- 0 or 1. -/
def b2n (b : Bool) : Nat := if b then 1 else 0

/-- The signed value of the low w bits. -/
def sgn (w v : Nat) : Int :=
  let u := v % 2 ^ w
  if u < 2 ^ (w - 1) then (u : Int) else (u : Int) - 2 ^ w

/-- A number in w bits, two's complement. -/
def wrap (w : Nat) (i : Int) : Nat := (i % (2 ^ w : Nat)).toNat

/-- Clamp to ±b. -/
def clamp (b i : Int) : Int := if i > b then b else if i < -b then -b else i

/-- A field of a 32-bit register: its register's key, its lowest bit, its width. -/
structure Fld where
  key : Nat
  lo : Nat
  w : Nat
  deriving DecidableEq, Repr

/-- The field's value in a register word. -/
def Fld.ofWord (f : Fld) (v : Word) : Nat := bitsAt v.toNat f.lo f.w

/-- The mask of the field's bits. -/
def Fld.mask (f : Fld) : Word := BitVec.ofNat 32 ((2 ^ f.w - 1) * 2 ^ f.lo)

/-- The register word with the field set to the low bits of n and every other bit as it was. -/
def Fld.into (f : Fld) (v : Word) (n : Nat) : Word :=
  (v &&& ~~~ f.mask) ||| (BitVec.ofNat 32 (n % 2 ^ f.w) <<< f.lo)

end Sys2Proof.Machine
end

