-- ==== Sys2Proof/Machine/Formats.lean ====
section
/-! DEFINITION. Number formats: exact values, one rounding to nearest with ties to even, and the encodings
(09_number_formats.md). -/

namespace Sys2Proof.Machine

/-- An exact value: a NaN, an infinity, or ±m × 2^e (R343). -/
inductive XVal where
  | nan
  | inf (neg : Bool)
  | num (neg : Bool) (m : Nat) (e : Int)
  deriving DecidableEq, Repr

/-- m / 2^k rounded to an integer, ties to even (R343). -/
def rne (m k : Nat) : Nat :=
  let q := m / 2 ^ k
  let r := m % 2 ^ k
  if 2 * r < 2 ^ k then q else if 2 ^ k < 2 * r then q + 1 else if q % 2 = 0 then q else q + 1

/-- The magnitude m × 2^e rounded to an integer, ties to even. -/
def rneInt (m : Nat) (e : Int) : Nat := if 0 ≤ e then m * 2 ^ e.toNat else rne m (-e).toNat

/-- A floating format (R348): exponent and mantissa bits, bias, the largest finite magnitude's code, and its special codes. -/
structure FloatFmt where
  eb : Nat
  mb : Nat
  bias : Nat
  /-- The code of the largest finite positive value. -/
  maxCode : Nat
  /-- The code of +infinity, where the format has one. -/
  infCode : Option Nat
  /-- The canonical NaN, where the format has one (R345). -/
  nanCode : Option Nat
  deriving DecidableEq, Repr

def fp32 : FloatFmt := ⟨8, 23, 127, 0x7F7FFFFF, some 0x7F800000, some 0x7FC00000⟩
def bf16 : FloatFmt := ⟨8, 7, 127, 0x7F7F, some 0x7F80, some 0x7FC0⟩
def fp16 : FloatFmt := ⟨5, 10, 15, 0x7BFF, some 0x7C00, some 0x7E00⟩
def e5m2 : FloatFmt := ⟨5, 2, 15, 0x7B, some 0x7C, some 0x7E⟩
def e4m3 : FloatFmt := ⟨4, 3, 7, 0x7E, none, some 0x7F⟩
def e3m2 : FloatFmt := ⟨3, 2, 3, 0x1F, none, none⟩
def e2m1 : FloatFmt := ⟨2, 1, 1, 0x7, none, none⟩

/-- Bits of a code. -/
def FloatFmt.width (f : FloatFmt) : Nat := 1 + f.eb + f.mb

/-- The code with a sign. -/
def FloatFmt.signed (f : FloatFmt) (neg : Bool) (c : Nat) : Nat := if neg then c + 2 ^ (f.eb + f.mb) else c

/-- The exact value of a code (R344, R348): subnormals at their exact value. -/
def FloatFmt.decode (f : FloatFmt) (c : Nat) : XVal :=
  let mag := c % 2 ^ (f.eb + f.mb)
  let neg := c.testBit (f.eb + f.mb)
  let e := mag / 2 ^ f.mb
  let m := mag % 2 ^ f.mb
  if mag ≤ f.maxCode then
    if e = 0 then .num neg m (1 - (f.bias : Int) - f.mb)
    else .num neg (m + 2 ^ f.mb) ((e : Int) - f.bias - f.mb)
  else if some mag = f.infCode then .inf neg
  else .nan

/-- The code of the magnitude m × 2^e, rounded once, in the format with an unbounded exponent: codes above maxCode stand
for magnitudes beyond the format (R343, R344, R360). [log 30: DEDUCED, unsafe] -/
def FloatFmt.encodeMag (f : FloatFmt) (m : Nat) (e : Int) : Nat :=
  if m = 0 then 0
  else
    let lo : Int := 1 - (f.bias : Int) - f.mb
    let q : Int := max ((Nat.log2 m : Int) + e - f.mb) lo
    let n := if q ≤ e then m * 2 ^ (e - q).toNat else rne m (q - e).toNat
    -- n counts units of 2^q; a subnormal n is its own code, and a carry moves on to the next exponent
    n + (q - lo).toNat * 2 ^ f.mb

/-- The NaN a format produces; a format without one takes code 0 (R345, R359). -/
def FloatFmt.nan (f : FloatFmt) : Nat := f.nanCode.getD 0

/-- What an overflow becomes: the infinity, else the NaN, else the largest finite value, or the largest finite value where
saturation is asked for (R359). -/
def FloatFmt.overflow (f : FloatFmt) (saturate neg : Bool) : Nat :=
  if saturate then f.signed neg f.maxCode
  else
    match f.infCode, f.nanCode with
    | some i, _ => f.signed neg i
    | none, some n => n
    | none, none => f.signed neg f.maxCode

/-- An exact value rounded into the format, and whether it saturated or overflowed (R343, R359, R360). -/
def FloatFmt.encode (f : FloatFmt) (saturate : Bool) : XVal → Nat × Bool
  | .nan => (f.nan, false)
  | .inf neg => if f.infCode.isSome && !saturate then (f.overflow false neg, false) else (f.overflow saturate neg, true)
  | .num neg m e =>
    let c := f.encodeMag m e
    if f.maxCode < c then (f.overflow saturate neg, true) else (f.signed neg c, false)

/-- An exact value rounded into the format, an overflow giving infinity (R363). -/
def FloatFmt.round (f : FloatFmt) (x : XVal) : Nat := (f.encode false x).1

/-- The exact value of an integer. -/
def XVal.ofInt (i : Int) : XVal := .num (decide (i < 0)) i.natAbs 0

/-- The signed mantissa of a finite value. -/
def signedM (neg : Bool) (m : Nat) : Int := if neg then -(m : Int) else m

/-- The exact sum; infinities of unlike sign give NaN.  A zero sum takes the sign of like-signed zeros, else plus (IEEE 754,
round to nearest). -/
def XVal.add : XVal → XVal → XVal
  | .nan, _ => .nan
  | _, .nan => .nan
  | .inf a, .inf b => if a = b then .inf a else .nan
  | .inf a, _ => .inf a
  | _, .inf b => .inf b
  | .num a m e, .num b n f =>
    let lo := min e f
    let i := signedM a (m * 2 ^ (e - lo).toNat) + signedM b (n * 2 ^ (f - lo).toNat)
    if i = 0 then .num (a && b) 0 lo else .num (decide (i < 0)) i.natAbs lo

/-- The value with its sign changed. -/
def XVal.neg : XVal → XVal
  | .nan => .nan
  | .inf a => .inf !a
  | .num a m e => .num (!a) m e

/-- The magnitude. -/
def XVal.abs : XVal → XVal
  | .nan => .nan
  | .inf _ => .inf false
  | .num _ m e => .num false m e

/-- The exact product; infinity times zero gives NaN. -/
def XVal.mul : XVal → XVal → XVal
  | .nan, _ => .nan
  | _, .nan => .nan
  | .inf a, .inf b => .inf (a != b)
  | .inf a, .num b n _ => if n = 0 then .nan else .inf (a != b)
  | .num a m _, .inf b => if m = 0 then .nan else .inf (a != b)
  | .num a m e, .num b n f => .num (a != b) (m * n) (e + f)

/-- The value times 2^k. -/
def XVal.scale (x : XVal) (k : Int) : XVal :=
  match x with
  | .num a m e => .num a m (e + k)
  | y => y

/-- x < y for values that are no NaN; zeros of either sign are equal. -/
def XVal.lt : XVal → XVal → Bool
  | .nan, _ => false
  | _, .nan => false
  | .inf a, .inf b => a && !b
  | .inf a, .num .. => a
  | .num .., .inf b => !b
  | .num a m e, .num b n f =>
    let lo := min e f
    decide (signedM a (m * 2 ^ (e - lo).toNat) < signedM b (n * 2 ^ (f - lo).toNat))

/-- x = y for values that are no NaN. -/
def XVal.eqv (x y : XVal) : Bool := !(x == .nan) && !(y == .nan) && !x.lt y && !y.lt x

/-- The value rounded to an integer, ties to even, unbounded; none for infinities and NaN (R361). -/
def XVal.toInt : XVal → Option Int
  | .num neg m e => some (signedM neg (rneInt m e))
  | _ => none

/-- A 24-bit mantissa and exponent: R[f], the FP32 value nearest to 2^(-f/4) (R353). -/
def rf16R : Nat → Nat × Int
  | 0 => (8388608, -23)
  | 1 => (14107901, -24)
  | 2 => (11863283, -24)
  | _ => (9975792, -24)

/-- D[f], the FP32 value nearest to 2^(f/4) (R355). -/
def rf16D : Nat → Nat × Int
  | 0 => (8388608, -23)
  | 1 => (9975792, -23)
  | 2 => (11863283, -23)
  | _ => (14107901, -23)

/-- A value in mm encoded with range exponent E (a signed 8-bit value), and whether it saturated (R353, R354). -/
def rf16Encode (E : Int) : XVal → Nat × Bool
  | .nan => (0x8000, false)
  | .inf neg => (if neg then 0x8001 else 0x7FFF, true)
  | .num neg m e =>
    let q := E / 4
    let r := rf16R (E % 4).toNat
    let c := rneInt (m * r.1) (e + r.2 - q)
    if 32767 < c then (if neg then 0x8001 else 0x7FFF, true) else (wrap 16 (signedM neg c), false)

/-- The exact value a code stands for with range exponent E; none is the unknown value (R352, R355). -/
def rf16Decode (E : Int) (c : Nat) : Option XVal :=
  if c % 65536 = 0x8000 then none
  else
    let i := sgn 16 c
    let d := rf16D (E % 4).toNat
    some (.num (decide (i < 0)) (i.natAbs * d.1) (d.2 + E / 4))

/-- The exact value of an MXINT8 code, n × 2^-6 (R350). -/
def mxint8Decode (c : Nat) : XVal := (XVal.ofInt (sgn 8 c)).scale (-6)

/-- A value encoded as an MXINT8 code, saturated, and whether it saturated; NaN becomes 0 (R350, R359). -/
def mxint8Encode : XVal → Nat × Bool
  | .nan => (0, false)
  | .inf neg => (if neg then 0x80 else 0x7F, true)
  | .num neg m e =>
    let i := signedM neg (rneInt m (e + 6))
    if 127 < i then (0x7F, true) else if i < -128 then (0x80, true) else (wrap 8 i, false)

end Sys2Proof.Machine
end

