-- ==== Sys2Proof/Machine/Crc.lean ====
section
/-! DEFINITION. The checks that the device computes over bytes: CRC-32C (R97). -/

namespace Sys2Proof.Machine

/-- One bit of a reflected CRC with the reflected polynomial p. -/
def crcBit (p : Nat) (c : Nat) : Nat := if c % 2 = 1 then c / 2 ^^^ p else c / 2

/-- One byte of a reflected CRC. -/
def crcByte (p : Nat) (c : Nat) (b : Byte) : Nat :=
  let x := c ^^^ b.toNat
  crcBit p (crcBit p (crcBit p (crcBit p (crcBit p (crcBit p (crcBit p (crcBit p x)))))))

/-- CRC-32C before its final XOR, from a running value (R97: polynomial 0x1EDC_6F41, reflected). -/
def crc32cRun (c : Nat) (bs : List Byte) : Nat := bs.foldl (crcByte 0x82F63B78) c

/-- CRC-32C: initial value 0xFFFF_FFFF, final XOR of 0xFFFF_FFFF (R97). -/
def crc32c (bs : List Byte) : Nat := crc32cRun 0xFFFFFFFF bs ^^^ 0xFFFFFFFF

end Sys2Proof.Machine
end

