-- ==== Sys2Proof/Machine/Parts.lean ====
section
/-! DEFINITION. The parts of the state that are not registers of BAR0, block by block, as plain data. -/

namespace Sys2Proof.Machine

/-- The disposition a block gives a fault event (R612). -/
inductive Disp where
  | report | violation | jobFault | held
  deriving DecidableEq, Repr

/-- A fault event on its way to the collector (R612): the detail is what a VIOLATION supplies for R642. -/
structure FaultEvent where
  code : BitVec 16
  source : BitVec 16
  info : BitVec 64 := 0
  disp : Disp
  detail : List Byte := []
  deriving DecidableEq, Repr

/-- An armed slot of a frame deadline timer (R62): its deadline is a Timebase value in ns. -/
structure FdlSlot where
  timer : Nat
  frame : Word
  deadline : Nat
  satisfied : Bool
  deriving DecidableEq, Repr

/-- The Device Timebase (02_time_and_deadlines.md). -/
structure Timebase where
  /-- The count in ns (R41). -/
  ns : DWord
  /-- The part below 1 ns, in units of 2^-32 ns (R45). -/
  frac : Nat
  /-- The servo's correction for each tick, in units of 2^-32 ns (R49). -/
  servo : Int
  /-- The offset still to be removed by slewing, in units of 2^-32 ns (R48). -/
  slew : Int
  /-- Consecutive measurements of magnitude at most 1,000 ns (R46). -/
  good : Nat
  /-- Consecutive measurements above 1,000 ns in magnitude (R46). -/
  poor : Nat
  /-- No measurement has come since the latest entry to ACQUIRE (R47). -/
  firstDue : Bool
  /-- The latest 16 corrections, newest first (R46, HOLDOVER). -/
  recent : List Int
  /-- The pending period (R53). -/
  pendPeriod : Option Word
  /-- An accepted apply frame number whose boundary has not come (R53). -/
  applyAt : Option Word
  /-- The frame number, not yet taken modulo 2^32, of the next boundary (R50). -/
  next : Nat
  /-- The frame number at the epoch, not taken modulo 2^32 (R50). -/
  base : Nat
  /-- Epoch, base and period of the grids that applies have replaced since FRAME_EN was set, newest first (R54, R58). -/
  prev : List (Nat × Nat × Nat)
  /-- Some boundary has come since FRAME_EN was set, and the Timebase value of the first (R58). -/
  begun : Bool
  firstAt : Nat
  /-- Armed and satisfied slots whose deadline has not passed (R62). -/
  slots : List FdlSlot
  /-- Timer and frame number of the slots that have missed (R66). -/
  missed : List (Nat × Word)
  /-- The sequence number of the latest discipline message of each kind on the selected port (R74). -/
  seqs : Tbl Nat
  /-- What byte 12 of a timestamp record has held since which Timebase value, newest first (R58). -/
  past : List (Nat × Nat)
  /-- 40 ns ticks since power-on reset: what a timer on the Timebase counts (R823). -/
  ticks : Nat
  /-- A step or a write to TB_SET has fallen in Hedgerow's running cross-check window (R824). -/
  voidWindow : Bool
  deriving DecidableEq, Repr

/-- The Timebase after power-on reset (R44). [log 10: DESIGN CHOICE, unsafe] -/
def Timebase.reset : Timebase :=
  { ns := 0, frac := 0, servo := 0, slew := 0, good := 0, poor := 0, firstDue := false, recent := [], pendPeriod := none,
    applyAt := none, next := 0, base := 0, prev := [], begun := false, firstAt := 0, slots := [], missed := [], seqs := [], past := [], ticks := 0,
    voidWindow := false }

/-- A block on a lane: its 2-bit sync header, 1 for data and 2 for control, and its 64 scrambled bits (R542). -/
structure KBlock where
  lane : Nat
  sync : Nat
  bits : Nat
  deriving DecidableEq, Repr

/-- What the device puts on one of its interfaces; the newest is last in State.emitted. -/
inductive Emission where
  /-- A posted write to host memory by a function (R682). -/
  | hostWrite (fn : Nat) (addr : Nat) (data : List Byte)
  /-- A write to host memory that goes out with its poisoned bit set (R684). -/
  | poisonedWrite (fn : Nat)
  /-- An error that a function reports through AER (R683, R684). -/
  | aer (fn : Nat) (e : AerError)
  /-- An MSI-X message of a function's vector (R506). -/
  | msix (fn vector : Nat)
  /-- A DRAM read's answer to its requester (R33). -/
  | dramData (who : Agent) (addr : Nat) (data : List Byte) (poisoned : Bool)
  /-- Refresh management to a memory channel (R23). -/
  | refreshManagement (channel : Nat)
  /-- A trigger output's pulse begins or ends, and the level of its ball from then on, by POL (R166). -/
  | trigOut (i : Nat) (active high : Bool)
  /-- The Reeve's (true) or Hedgerow's SAFE_STOP_N driver has pulsed the ball low for at most 2 µs (R116). -/
  | stopPulse (reeve : Bool)
  /-- A frame that a CAN controller has sent, with the error state indicator of an FD frame (R690, R692, R693, R697, R700). -/
  | canFrame (controller : Nat) (esi : Bool) (frame : CanFrame)
  /-- A sensor MAC's write of a PHY's advertisement over MDIO, to registers of Clause 45 or of Clause 22, and its restart of the negotiation: the
  speeds, as bits of SPEED_MASK, stand for the register values that IEEE 802.3 gives them (R711). [log 144: DESIGN CHOICE, safe] -/
  | mdioAdvertise (mac phy : Nat) (clause45 : Bool) (registers : List Nat) (speeds : Nat)
  /-- A frame that a MAC has sent (R710). -/
  | ethFrame (mac : Nat) (data : List Byte)
  /-- A frame that a Kelyth Link port has sent (R543). -/
  | klyFrame (port : Nat) (data : List Byte)
  /-- The blocks on a port's lanes that carry the frame before: lane, sync header (1 data, 2 control) and 64 scrambled bits (R542). -/
  | klyBlocks (port : Nat) (blocks : List KBlock)
  /-- One I²C write of a script (R147). -/
  | i2cWrite (port target regAddr : Nat) (wide : Bool) (data : Byte)
  /-- An I²C read of a script's POLL (R147). -/
  | i2cRead (port target regAddr : Nat) (wide : Bool)
  deriving DecidableEq, Repr

/-- The grade of a part (R5). -/
inductive Grade where
  | frw1600 | frw1200 | frw0800
  deriving DecidableEq, Repr

/-- Enabled Hearth cores (R5). -/
def Grade.cores : Grade → Nat
  | .frw1600 => 16 | .frw1200 => 12 | .frw0800 => 8

/-- What is fused into the part; no event changes it but key provisioning, which fuses a blank key slot (R657). -/
structure Fuses where
  grade : Grade
  /-- The extended temperature screen (R6). -/
  ae : Bool
  /-- The physical core of each logical core, in logical order (R227). -/
  physOf : List Nat
  /-- The pre-shared key of each partition's programmed slot (R656). -/
  psk : Tbl (List Byte)
  /-- The firmware key (R755). -/
  fwk : List Byte
  /-- Key provisioning is closed for good (R658). -/
  provClosed : Bool
  deriving DecidableEq, Repr

/-- What a host's configuration writes have set in one function's configuration space (R648, R681, R682). -/
structure FnCfg where
  /-- Bus Master Enable. -/
  bme : Bool
  /-- MSI-X Enable. -/
  msixEn : Bool
  /-- MSI-X Function Mask. -/
  msixMask : Bool
  /-- Power state D3hot; D0 otherwise. -/
  d3hot : Bool
  deriving DecidableEq, Repr

/-- A function's configuration space after a reset of it (R681). -/
def FnCfg.reset : FnCfg := { bme := false, msixEn := false, msixMask := false, d3hot := false }

/-- The PCIe endpoint beside its PCIE_ registers (18_host_and_sessions.md). -/
structure Pcie where
  /-- By function. -/
  fns : Tbl FnCfg
  /-- VF Enable of the SR-IOV capability (R492). -/
  vfEnable : Bool
  numVfs : Nat
  /-- Hardware Autonomous Speed Disable (R654). -/
  speedDisable : Bool
  /-- Hardware Autonomous Width Disable (R654). -/
  widthDisable : Bool
  /-- PERST_N is asserted (R649). -/
  perst : Bool
  /-- Errors counted in the current window, and the tick of its first (R653). -/
  errors : Nat
  errTick : Nat
  deriving DecidableEq, Repr

def Pcie.reset : Pcie :=
  { fns := [], vfEnable := false, numVfs := 0, speedDisable := false, widthDisable := false, perst := false, errors := 0, errTick := 0 }

/-- What an accepted packet's parser run has done to its stream's sweep, in order (R152 to R156). -/
inductive ParseEff where
  /-- A point record (R153). -/
  | point (rec : List Byte)
  /-- A sensor time in ns (R154). -/
  | stamp (ns : Nat)
  /-- The current sweep closes (R156). -/
  | sweep
  deriving DecidableEq, Repr

/-- A parser run on one packet (R150 to R155). -/
structure ParserRun where
  payload : List Byte
  /-- g0 to g15. -/
  g : List Word
  /-- Index of the next instruction. -/
  pc : Int
  /-- Instructions executed. -/
  steps : Nat
  effects : List ParseEff
  /-- The stream's expected sequence number; none before its first (R155). -/
  expected : Option Nat
  /-- The packet's own number, once a SEQ has read it. -/
  number : Option Nat
  /-- Packets found lost by SEQ in this run: how many, and the first lost number. -/
  lost : List (Nat × Nat)
  deriving DecidableEq, Repr

/-- A damage entry of a slot (R202). -/
structure Damage where
  code : Nat
  kind : Nat
  flags : Nat
  first : Nat
  count : Nat
  deriving DecidableEq, Repr

/-- A region of a region list (R207). -/
structure Region where
  cx : Nat
  cy : Nat
  scaleLog2 : Nat
  tag : Nat
  deriving DecidableEq, Repr

/-- A region list in force (R207, R210). -/
structure RegionList where
  seq : Nat
  forFrame : Word
  ttl : Nat
  regions : List Region
  deriving DecidableEq, Repr

/-- A received camera line: its payload, and the fault code of its damage, 0 where it has none (R199). -/
structure CamLine where
  payload : List Byte
  bad : Nat
  deriving DecidableEq, Repr

/-- A member frame, from its Frame Start or first packet until its group is posted (R133 to R165). -/
structure MFrame where
  stream : Nat
  /-- TIME of the capture stamp. -/
  capture : Nat
  /-- The capture stamp record (R58). -/
  captureRec : List Byte
  /-- FRAME of the capture stamp. -/
  frameNo : Nat
  /-- The end stamp record; empty if the frame never ended. -/
  endRec : List Byte
  /-- The output slot's index; none where the frame holds none (R135). -/
  slot : Option Nat
  /-- 0 OK, 4 NO_SLOT, 5 REJECTED (R164). -/
  status : Nat
  /-- The frame is complete, or is closed with a status that is not OK. -/
  closed : Bool
  truncated : Bool
  modeChanged : Bool
  damage : List Damage
  damageOverflow : Bool
  damageCount : Nat
  /-- The damage report has been written to the slot (R164). -/
  reported : Bool
  /-- The frame number of the CSI-2 Frame Start. -/
  fsNumber : Nat
  /-- The Frame End, or the SWEEP, has come. -/
  ended : Bool
  /-- Lines received and not yet decoded, oldest first. -/
  pend : List CamLine
  /-- Lines decoded, in order: samples, and whether the line is good. -/
  lines : List (List Nat × Bool)
  /-- JPEG packets that the decoder has taken, in order (R188). -/
  taken : List CamLine
  /-- Lines received. -/
  received : Nat
  embedded : List Byte
  /-- The region list that applies to the frame (R212). -/
  list : Option RegionList
  /-- The list in force does not apply to the frame (R213). -/
  listExpired : Bool
  /-- Point records, in emission order (R153). -/
  points : List (List Byte)
  /-- Image columns that lost packets leave unknown: first and count (R204). -/
  unknownCols : List (Nat × Nat)
  /-- The sweep's capture stamp has been taken from a STAMP (R154). -/
  stamped : Bool
  deriving DecidableEq, Repr

/-- A classified range packet that waits for its stream's parser: arrival stamp and payload (R150). -/
structure RangePkt where
  arrival : Nat
  payload : List Byte
  deriving DecidableEq, Repr

/-- What a stream context holds beside its registers. -/
structure StreamSt where
  /-- SEQ of the next frame record (R164). -/
  recSeq : Nat
  /-- Frames begun and not yet complete or closed, oldest first. -/
  frames : List MFrame
  /-- The open trigger windows, oldest first: frame number, time of the edge, and whether a Frame Start has come in it (R167). -/
  windows : List (Word × Nat × Bool)
  /-- The slot that is allocated next, in ring order (R135). -/
  slotNext : Nat
  /-- Packets are discarded up to the next Frame Start (R144). -/
  skip : Bool
  /-- Frame numbers for which the stream has begun a frame (R157). -/
  begun : List Nat
  list : Option RegionList
  /-- The list in force after the read at the latest boundaries, newest first, by frame number (R208). -/
  listAt : List (Word × Option RegionList)
  /-- Frames begun since the list in force replaced the one before (R212). -/
  listUses : Nat
  /-- With frames disabled: a Frame Start has come, and the list has not been read for it (R209). -/
  listDue : Bool
  /-- g0 to g15 at the end of the latest packet (R151). -/
  g : List Word
  /-- The expected sequence number (R155). -/
  expected : Option Nat
  /-- Packets that wait for the parser. -/
  queue : List RangePkt
  /-- The packet in the parser and its run. -/
  run : Option (RangePkt × ParserRun)
  /-- Damage that the next sweep to begin takes over. -/
  pendDamage : List Damage
  /-- The image column of the latest accepted packet's last point, in or outside the grid (R204). -/
  lastCol : Option Int
  /-- The code of the first packet lost or rejected since that point; 0 where there is none (R204). -/
  gap : Nat
  deriving DecidableEq, Repr

def StreamSt.reset : StreamSt :=
  { recSeq := 0, frames := [], windows := [], slotNext := 0, skip := false, begun := [], list := none, listAt := [], listUses := 0,
    listDue := false, g := List.replicate 16 0, expected := none, queue := [], run := none, pendDamage := [], lastCol := none, gap := 0 }

/-- A post of a group, as the Queue Manager remembers it (R457). -/
structure Post where
  frame : Word
  headBefore : Word
  time : Nat
  deriving DecidableEq, Repr

/-- A collection window that has closed: its group frame, the µs of its close, and the members that were not resolved by then (R158). -/
structure Closing where
  frame : Word
  us : Nat
  absent : List Nat
  deriving DecidableEq, Repr

/-- What a group holds beside its registers. -/
structure GroupSt where
  /-- The next group frame to post, in SYNC mode. -/
  next : Option Word
  /-- Group frames whose collection window has closed (R158). -/
  closedAt : List Closing
  /-- Member frames complete or closed and not yet posted, in the order they became so. -/
  waiting : List MFrame
  /-- Stream and group frame number of trigger slots marked MISSED (R168). -/
  missed : List (Nat × Word)
  /-- Stream and group frame number of trigger windows that ended without a Frame Start (R158). -/
  absent : List (Nat × Word)
  /-- The post at the head has been counted as stalled (limit 2 of 04). -/
  stalled : Bool
  /-- The latest 16 posts, newest first (R457). -/
  posts : List Post
  deriving DecidableEq, Repr

def GroupSt.reset : GroupSt :=
  { next := none, closedAt := [], waiting := [], missed := [], absent := [], stalled := false, posts := [] }

/-- An I²C script in progress on a port's master (R147). -/
structure ScriptRun where
  entry : Nat
  /-- The port runs it for its ladder entry (R137). -/
  ladder : Bool
  deriving DecidableEq, Repr

/-- What a CSI-2 port holds beside its registers. -/
structure PortSt where
  /-- Consecutive long packets that count toward lock (R138). -/
  good : Nat
  /-- Errors in the current window (R140). -/
  errors : Nat
  /-- The tick of the window's first error. -/
  windowTick : Nat
  script : Option ScriptRun
  /-- Virtual channels whose latest Frame Start came while the port was SETTLING (R144). -/
  silent : List Nat
  deriving DecidableEq, Repr

def PortSt.reset : PortSt := { good := 0, errors := 0, windowTick := 0, script := none, silent := [] }

/-- The Mill and the Sieve beside their registers. -/
structure Mill where
  ports : Tbl PortSt
  streams : Tbl StreamSt
  groups : Tbl GroupSt
  /-- Trigger outputs in their pulse, with the Timebase value at which it ends (R166, R169). -/
  pulses : Tbl Nat
  /-- The camera context that the decode stage served last (R180). -/
  turn : Nat
  deriving DecidableEq, Repr

def Mill.reset : Mill := { ports := [], streams := [], groups := [], pulses := [], turn := 15 }

/-- What the Reeve knows of the verdict of a frame (R86, R90, R99). -/
structure Verdict where
  frame : Word
  /-- Perception timers whose slot of the frame is satisfied by a job that the Reeve has cleared. -/
  cleared : List Nat
  /-- Twin pairs of the frame that the Reeve has cleared, by TWIN_ID. -/
  pairs : List Nat
  /-- The lowest TWIN_ID seen in the frame, and its checksum. -/
  twin : Option (Nat × Word)
  released : Bool
  deriving DecidableEq, Repr

/-- A recovery in progress, from D to the restart boundary (R616 to R623). -/
structure Recovery where
  /-- The recovery number (R628); 0 for an entry to HELD outside a recovery. -/
  number : Nat
  cause : BitVec 16
  source : BitVec 16
  info : BitVec 64
  /-- The Timebase value at D. -/
  detect : Nat
  /-- Reeve events that joined before the crash record is secure, oldest first: code and source (R628). -/
  joined : List (BitVec 16 × BitVec 16)
  /-- A HELD cause has arrived, or this is the third job fault in 10 s: no restart follows (R618, R93). -/
  noRestart : Bool
  /-- The latest restart frame number that an ABORT of the recovery carries (R570). -/
  minFrame : Option Word
  /-- The device is to enter HELD at the sweep's end: the third job fault in 10 s (R93). -/
  heldAtEnd : Bool
  /-- The sweep has ended. -/
  swept : Bool
  deriving DecidableEq, Repr

/-- What a crash record's capture fixes at D (R628). -/
structure CrashHead where
  cause : BitVec 16
  source : BitVec 16
  info : BitVec 64
  detect : Nat
  recovery : Nat
  modeBefore : Nat
  frame : Word
  heldEntry : Bool
  originDev : Option Nat
  /-- HDG_STATUS, TB_STATUS, PART_STATUS, QM_DT_USED and QM_RTT_USED at D. -/
  status : List Word
  /-- The slot being written, once the capture has started (R625). -/
  slot : Option Nat
  deriving DecidableEq, Repr

/-- One crash record slot (R624). -/
structure CrashSlot where
  bytes : List Byte
  valid : Bool
  deriving DecidableEq, Repr

def CrashSlot.empty : CrashSlot := { bytes := [], valid := false }

/-- The engine reset that the sweep awaits, or the core's known-answer test (R633, step 2). -/
inductive SweepAt where
  | engine (e : Engine) | kat
  deriving DecidableEq, Repr

/-- The reset sweep in progress (R633). -/
structure Sweep where
  step : Nat
  core : Nat
  at_ : SweepAt
  /-- The engine reset has been requested. -/
  waiting : Bool
  /-- A peel has reported FAILED in this sweep (R637). -/
  failedOnce : Bool
  /-- The Timebase tick at which the sweep started. -/
  started : Nat
  /-- Its supervision has expired (R638). -/
  expired : Bool
  deriving DecidableEq, Repr

/-- The Reeve (17_faults_and_recovery.md, 03_safety_concept.md). -/
structure Reeve where
  /-- Fault events raised and not yet at the collector, in the order they were raised (R613). -/
  events : List FaultEvent
  /-- VIOLATION events waiting for the violation log, at most 64, each with the Timebase value and the tick of its arrival (R643). -/
  vqueue : List (FaultEvent × Nat × Nat)
  recovery : Option Recovery
  crash : Option CrashHead
  slots : Tbl CrashSlot
  sweep : Option Sweep
  /-- Timebase ticks at which the job faults that count under R93 were detected. -/
  faultTicks : List Nat
  /-- The fault log's entries, by sequence number modulo 512 (R640). -/
  flog : Tbl (List Byte)
  /-- The violation log's entries, by sequence number modulo 1,024 (R642). -/
  vlog : Tbl (List Byte)
  /-- The latest logged REPORT entry of each code and source: code, source, Timebase tick (R641). -/
  flogLast : List (Nat × Nat × Nat)
  /-- The same for the violation log (R643). -/
  vlogLast : List (Nat × Nat × Nat)
  /-- The frames whose verdict is not yet forgotten, newest first. -/
  verdicts : List Verdict
  /-- The restart boundary of the latest recovery has come, and no verdict since (R79, R639). -/
  awaiting : Bool
  /-- Twin jobs that retired before their partner: TWIN_ID, frame, core, checksum (R95, R98). -/
  twins : List (Nat × Word × Nat × Word)
  /-- The Reeve runs and its lockstep agrees (R113). -/
  alive : Bool
  /-- Hedgerow's heartbeat is present at the Reeve (R113). -/
  hearsHedgerow : Bool
  deriving DecidableEq, Repr

/-- The Reeve after power-on reset: no event, no log entry, no record (R620). -/
def Reeve.reset : Reeve :=
  { events := [], vqueue := [], recovery := none, crash := none, slots := [], sweep := none, faultTicks := [], flog := [],
    vlog := [], flogLast := [], vlogLast := [], verdicts := [], awaiting := false, twins := [], alive := false, hearsHedgerow := true }

end Sys2Proof.Machine
end

