-- ==== Sys2Proof/Machine/PartsCore.lean ====
section
/-! DEFINITION. What a Hearth core holds: its decoded bundle, its architectural state (R229), its engines' queues and its
Granary (06_hearth_core.md, 07_hearth_instruction_set.md, 08_outer_product_array.md, 10_granary.md). -/

namespace Sys2Proof.Machine

/-- A decoded instruction of a slot; numbers are the fields of its encoding (R269 to R302), immediates as they stand in the
encoding. -/
inductive Op where
  | nop
  | salu (op : Nat) (i : Bool) (d a b imm : Nat)
  | smem (op size : Nat) (sx : Bool) (r base imm : Nat)
  | branch (cond a b off : Nat)
  | jump (off : Nat)
  | jumpReg (a : Nat)
  | endJob
  | sigchk (a : Nat)
  | sigset (a : Nat)
  | jal (d off : Nat)
  | tinc (e t n : Nat)
  | twait (e t v tmo : Nat)
  | tget (t d : Nat)
  | barc (mask : Nat)
  | balloc (d e c : Nat)
  | bfree (a e : Nat)
  | cfg (mode fa fb : Nat)
  | mma (acc a b k mask : Nat)
  | drain (acc d mask : Nat)
  | zero (acc mask : Nat)
  | vec (op d a b p ty x : Nat)
  | xfer (q : Nat) (zf loc : Bool) (src dst g : Nat) (en : Bool) (t : Nat)
  | li64 (d imm : Nat)
  | sigchki (imm : Nat)
  deriving DecidableEq, Repr

/-- The bundle that the sequencer holds, from its fetch until every slot has executed (R262 to R266). -/
structure Held where
  addr : DWord
  /-- The 128 bundle bits. -/
  raw : Nat
  /-- What SECDED reports of the s- and a-registers that its instructions other than SALU read (R256, R257). -/
  ecc : Ecc
  /-- The instructions of its slots, as decoded. -/
  ops : List Op
  /-- What is still to be done, by slot: a slot done is nop. -/
  todo : List Op
  /-- It has passed the checks at decode (R831). -/
  checked : Bool
  /-- It has issued (R264). -/
  issued : Bool
  /-- The s- and a-registers as every slot reads them (R265). -/
  sv : List DWord
  av : List Word
  /-- The tallies as its TGET reads them, at issue (R286, R436). -/
  tv : List Nat
  /-- The buffer that its BALLOC has taken, and whether the fill is complete (R391). -/
  alloc : Option (Nat × Bool)
  /-- The a-register that its BALLOC writes at issue, and the value. -/
  allocVal : Option (Nat × Word)
  /-- It has been counted as stalled (R225, R471). -/
  stalled : Bool
  deriving DecidableEq, Repr

/-- An entry of the OPA or VEC queue: its bundle's address, its 40 bits, and the operand values captured at issue, in the
order of their fields (R266, R480). -/
structure QEnt where
  bundle : DWord
  raw : Nat
  op : Op
  vals : List Nat
  deriving DecidableEq, Repr

/-- An entry of a peel's queue (R239, R829). -/
structure PeelEnt where
  /-- 0 transfer, 1 TINC, 2 BARC, 3 TWAIT. -/
  kind : Nat
  src : DWord
  dst : DWord
  len : Nat
  cnt1 : Nat
  cnt2 : Nat
  ss1 : Nat
  ss2 : Nat
  ds1 : Nat
  ds2 : Nat
  en : Bool
  tally : Nat
  zf : Bool
  loc : Bool
  /-- 0 QUEUED, 1 ISSUING, 2 AWAITING_COMPLETION, 3 COMPLETE. -/
  st : Nat
  issued : Nat
  bundle : DWord
  /-- The Timebase tick at which it became the ISSUING transfer (R248). -/
  since : Nat
  /-- The bytes it has written outside the Granary so far, by address, for the twin checksum (R97). -/
  out : List Host.Cell
  /-- Its DRAM requests whose data has not come or whose write has not been acknowledged, by first byte and length (R242). -/
  reqs : List (Nat × Nat)
  deriving DecidableEq, Repr

/-- A store-buffer entry: its line's address / 64 and the bytes it holds by offset in the line (R424). -/
structure SbEnt where
  line : Nat
  bytes : List Host.Cell
  deriving DecidableEq, Repr

/-- An LD whose data has not returned (R273). -/
structure PendLoad where
  r : Nat
  addr : Nat
  size : Nat
  sx : Bool
  /-- The bytes that the store buffer held at its issue, by address (R274). -/
  fwd : List Host.Cell
  deriving DecidableEq, Repr

/-- One accumulator of one sub-array with an open pass (R309). -/
structure AccSt where
  /-- Steps since the pass opened. -/
  k : Nat
  /-- W × W registers, row-major. -/
  tile : List Word
  cr : List Word
  cc : List Word
  mr : List Word
  mc : List Word
  deriving DecidableEq, Repr

/-- The array's drain buffer (R320): its DRAIN's bundle, the accumulator, the mode's width, the formats' class, where the tiles go, the tiles by
sub-array, whether they have passed their check, and the bytes already written (R321, R338). -/
structure DrainBuf where
  bundle : DWord
  acc : Nat
  w : Nat
  floating : Bool
  dest : Nat
  subs : List (Nat × AccSt)
  passed : Bool
  written : Nat
  deriving DecidableEq, Repr

/-- The sequencer's shadow of the array (R833): the latest CFG issued and the step counts of the open passes, by 16 × acc +
sub-array. -/
structure Shadow where
  mode : Nat
  fa : Nat
  fb : Nat
  passes : Tbl Nat
  deriving DecidableEq, Repr

def Shadow.reset : Shadow := { mode := 0, fa := 0, fb := 0, passes := [] }

/-- An owner record (R385). -/
structure BufRec where
  held : Bool
  part : Nat
  eng : Nat
  dt : Nat
  deriving DecidableEq, Repr

def BufRec.reset : BufRec := { held := false, part := 0, eng := 0, dt := 0 }

/-- A core's Granary (10_granary.md). -/
structure Granary where
  /-- The bytes that are not zero, by offset. -/
  bytes : List Host.Cell
  /-- Owner records by buffer index. -/
  recs : Tbl BufRec
  /-- Buffers freed whose page tags still name them (R394). -/
  tagged : List Nat
  /-- Words, by offset / 8, whose corrected value waits to be written back (R376). -/
  wb : List Nat
  /-- Rows that each bank's scrubber has read (R378). -/
  scrub : Tbl Nat
  deriving DecidableEq, Repr

def Granary.reset : Granary := { bytes := [], recs := [], tagged := [], wb := [], scrub := [] }

/-- What a core knows of its job (R229, R235). -/
structure CoreJob where
  dt : Nat
  part : Nat
  sigEnd : DWord
  tallyCfg : DWord
  /-- A nonzero TWIN_ID. -/
  twin : Bool
  /-- The code of the job's first event that makes its completion an error; 0 without one (R398, R599). -/
  err : Nat
  deriving DecidableEq, Repr

/-- A job's write to a window of the Collective Engine or of the conversation timers (R551, R596). -/
structure WinWrite where
  core : Nat
  part : Nat
  addr : Nat
  data : List Byte
  deriving DecidableEq, Repr

/-- One Hearth core, beside its registers in BAR0. -/
structure CoreSt where
  /-- The job on the core; none is an idle core. -/
  job : Option CoreJob
  /-- The tally configuration block has been read (R440). -/
  loaded : Bool
  s : List DWord
  a : List Word
  p : Tbl (BitVec 256)
  v : Tbl (List Word)
  t : List Nat
  /-- The tally configuration in force (R439). -/
  tcfg : List Word
  pc : DWord
  sig : DWord
  /-- The bundles of the instructions that OPA, VEC, LPEEL and SPEEL retired last (R230). -/
  lastPc : List DWord
  bundle : Option Held
  /-- The bundles that the instruction cache holds, by address, oldest first (R231). -/
  icache : List (Nat × Nat)
  /-- END has issued (R235). -/
  ended : Bool
  load : Option PendLoad
  sb : List SbEnt
  opaQ : List QEnt
  vecQ : List QEnt
  lpeelQ : List PeelEnt
  speelQ : List PeelEnt
  mode : Nat
  fa : Nat
  fb : Nat
  /-- Open passes, by 16 × accumulator + sub-array (R309). -/
  accs : Tbl AccSt
  /-- Steps of the MMA at the head of the OPA queue already performed, once it has begun. -/
  mmaDone : Option Nat
  drain : Option DrainBuf
  shadow : Shadow
  /-- Engines at a TWAIT that did not pass on arrival, with the Timebase tick of their arrival (R288). -/
  waits : Tbl Nat
  /-- SPEEL's running twin checksum, before its final XOR (R97). -/
  twinCrc : Nat
  /-- HRT_WDOG_WIN and HRT_PEEL_TMO as at the job's start or resume (limit 8 of 06). -/
  wdog : List Nat
  peelTmo : Nat
  /-- Frozen by a job fault (R255). -/
  frozen : Bool
  /-- Engines whose reset the Reeve has requested and which have not answered (R249). -/
  resetting : List Nat
  /-- The partition whose reset asked for those engine resets; none in a sweep (R508). -/
  resetPart : Option Nat
  /-- Peels that have reported FAILED in the reset in progress, and those of them whose retry is still to come (R637). -/
  peelFailed : List Nat
  peelRetry : List Nat
  /-- Engines that have been reset since the freeze (R255). -/
  thawed : List Nat
  /-- A pre-emption has been requested (R478). -/
  stopping : Bool
  grn : Granary
  deriving DecidableEq, Repr

/-- Architectural state with every register clear (R229, R249). -/
def CoreSt.reset : CoreSt :=
  { job := none, loaded := false, s := List.replicate 32 0, a := List.replicate 16 0, p := [], v := [], t := List.replicate 32 0,
    tcfg := List.replicate 32 0, pc := 0, sig := 0, lastPc := List.replicate 4 0, bundle := none, icache := [], ended := false, load := none,
    sb := [], opaQ := [], vecQ := [], lpeelQ := [], speelQ := [], mode := 0, fa := 0, fb := 0, accs := [], mmaDone := none,
    drain := none, shadow := Shadow.reset, waits := [], twinCrc := 0xFFFFFFFF, wdog := List.replicate 5 1048576, peelTmo := 2000,
    frozen := false, resetting := [], resetPart := none, peelFailed := [], peelRetry := [], thawed := [], stopping := false, grn := Granary.reset }

end Sys2Proof.Machine
end

