-- ==== Sys2Proof/Machine/Bundle.lean ====
section
/-! DEFINITION. Bundles: formats, slots, units and fields (R262 to R303), and the rules that a bundle keeps by its bits
alone (R263). -/

namespace Sys2Proof.Machine

/-- An instruction if the fields stated as zero are zero, else reason 2 (R263). -/
def ifZero (zero : Bool) (op : Op) : Nat ⊕ Op := if zero then .inr op else .inl 2

/-- A SALU instruction: a nonzero field that is stated as zero is the lower reason (R269, R831, R832). [log 48: DEDUCED, unsafe] -/
def decSalu (w : Nat) : Nat ⊕ Op :=
  let i := w.testBit 35
  let op := bitsAt w 30 5
  let d := bitsAt w 25 5
  let a := bitsAt w 20 5
  let b := bitsAt w 15 5
  if !((i || bitsAt w 0 15 == 0) && !((op == 19 || op == 21) && 16 ≤ d) && !((op == 20 || op == 21) && 16 ≤ a)) then .inl 2
  else if 21 < op || (!i && (op == 18 || op == 21)) then .inl 3
  else .inr (.salu op i d a b (bitsAt w 0 20))

/-- An SMEM instruction (R271, R272). -/
def decSmem (w : Nat) : Nat ⊕ Op :=
  let op := bitsAt w 32 4
  let sx := w.testBit 29
  let base := bitsAt w 19 5
  if 3 < op then .inl 3
  else ifZero (!(op % 2 == 1 && sx) && !(2 ≤ op && 16 ≤ base)) (.smem op (2 ^ bitsAt w 30 2) sx (bitsAt w 24 5) base (bitsAt w 0 19))

/-- A CTRL instruction (R277). -/
def decCtrl (w : Nat) : Nat ⊕ Op :=
  let op := bitsAt w 32 4
  let a := bitsAt w 27 5
  if op < 6 then .inr (.branch op a (bitsAt w 22 5) (bitsAt w 0 22))
  else if op = 6 then .inr (.jump (bitsAt w 0 32))
  else if op = 7 then ifZero (bitsAt w 0 27 == 0) (.jumpReg a)
  else if op = 8 then ifZero (bitsAt w 0 32 == 0) .endJob
  else if op = 9 then ifZero (bitsAt w 0 27 == 0) (.sigchk a)
  else if op = 10 then ifZero (bitsAt w 0 27 == 0) (.sigset a)
  else if op = 11 then .inr (.jal a (bitsAt w 0 27))
  else .inl 3

/-- A TALLY instruction (R286). -/
def decTally (w : Nat) : Nat ⊕ Op :=
  let op := bitsAt w 33 3
  let e := bitsAt w 30 3
  let t := bitsAt w 25 5
  let x := bitsAt w 20 5
  if op = 0 then ifZero (bitsAt w 0 17 == 0) (.tinc e t (bitsAt w 17 8))
  else if op = 1 then ifZero (bitsAt w 0 6 == 0) (.twait e t x (bitsAt w 6 14))
  else if op = 2 then ifZero (bitsAt w 0 20 == 0 && e == 0) (.tget t x)
  else .inl 3

/-- A SYNC instruction (R290). -/
def decSync (w : Nat) : Nat ⊕ Op :=
  let op := bitsAt w 33 3
  let r := bitsAt w 29 4
  let e := bitsAt w 26 3
  if op = 0 then ifZero (bitsAt w 0 28 == 0) (.barc (bitsAt w 28 5))
  else if op = 1 then ifZero (bitsAt w 0 22 == 0) (.balloc r e (bitsAt w 22 4))
  else if op = 2 then ifZero (bitsAt w 0 26 == 0) (.bfree r e)
  else .inl 3

/-- An OPA instruction (R292). -/
def decOpa (w : Nat) : Nat ⊕ Op :=
  let op := bitsAt w 32 4
  let acc := bitsAt w 30 2
  let x := bitsAt w 26 4
  let y := bitsAt w 22 4
  let mask := bitsAt w 1 16
  if op = 0 then ifZero (bitsAt w 0 22 == 0) (.cfg acc x y)
  else if op = 1 then ifZero (bitsAt w 0 1 == 0) (.mma acc x y (bitsAt w 17 5) mask)
  else if op = 2 then ifZero (bitsAt w 17 9 == 0 && bitsAt w 0 1 == 0) (.drain acc x mask)
  else if op = 3 then ifZero (bitsAt w 17 13 == 0 && bitsAt w 0 1 == 0) (.zero acc mask)
  else .inl 3

/-- A VEC instruction (R297). -/
def decVec (w : Nat) : Nat ⊕ Op :=
  let op := bitsAt w 30 6
  let d := bitsAt w 24 6
  if 0x17 < op then .inl 3
  else ifZero (!(op == 0x0E && 8 ≤ d)) (.vec op d (bitsAt w 18 6) (bitsAt w 12 6) (bitsAt w 9 3) (bitsAt w 5 4) (bitsAt w 0 5))

/-- A peel instruction of peel q (R302). -/
def decXfer (q w : Nat) : Nat ⊕ Op :=
  ifZero (bitsAt w 0 13 == 0 && !(q == 1 && w.testBit 35))
    (.xfer q (w.testBit 35) (w.testBit 34) (bitsAt w 29 5) (bitsAt w 24 5) (bitsAt w 19 5) (w.testBit 18) (bitsAt w 13 5))

/-- A 40-bit slot: its instruction, or the reason it is invalid (R263, R267). -/
def dec40 (w : Nat) : Nat ⊕ Op :=
  if w = 0 then .inr .nop
  else
    match bitsAt w 36 4 with
    | 0 => .inl 2
    | 1 => decSalu w
    | 2 => decSmem w
    | 3 => decCtrl w
    | 4 => decTally w
    | 5 => decSync w
    | 6 => decOpa w
    | 7 => decVec w
    | 8 => decXfer 0 w
    | 9 => decXfer 1 w
    | _ => .inl 3

/-- An 80-bit long slot (R267, R270, R285). -/
def dec80 (w : Nat) : Nat ⊕ Op :=
  if w = 0 then .inr .nop
  else
    match bitsAt w 76 4 with
    | 1 => ifZero (bitsAt w 64 7 == 0) (.li64 (bitsAt w 71 5) (bitsAt w 0 64))
    | 2 => ifZero (bitsAt w 64 12 == 0) (.sigchki (bitsAt w 0 64))
    | _ => .inl 3

/-- The slots of a bundle (R262). -/
def decSlots (w : Nat) : List (Nat ⊕ Op) :=
  if bitsAt w 126 2 = 0 then [dec40 (bitsAt w 0 40), dec40 (bitsAt w 40 40), dec40 (bitsAt w 80 40)]
  else [dec40 (bitsAt w 0 40), dec80 (bitsAt w 40 80)]

/-- The slots numbered. -/
def numbered {α : Type} (l : List α) : List (Nat × α) := (List.range l.length).zip l

/-- Breaches of the format and of each slot's encoding, as (reason, slot) (R263, R831). -/
def encodingBreaches (w : Nat) : List (Nat × Nat) :=
  if 2 ≤ bitsAt w 126 2 then [(1, 0)]
  else
    (if bitsAt w 120 6 = 0 then [] else [(2, 0)]) ++
    (numbered (decSlots w)).filterMap (fun (i, x) => match x with | .inl r => some (r, i) | .inr _ => none)

/-- The instructions of a bundle; a slot that is not valid counts as empty. -/
def opsOf (w : Nat) : List Op := (decSlots w).map (fun x => match x with | .inl _ => .nop | .inr o => o)

/-- The engine queues, 1 OPA to 4 SPEEL, in which an instruction places an entry (R263, R286, R290). -/
def Op.queues : Op → List Nat
  | .tinc e _ _ => if 1 ≤ e && e ≤ 4 then [e] else []
  | .twait e _ _ _ => if 1 ≤ e && e ≤ 4 then [e] else []
  | .barc m => [1, 2, 3, 4].filter (fun e => m.testBit e)
  | .cfg .. => [1]
  | .mma .. => [1]
  | .drain .. => [1]
  | .zero .. => [1]
  | .vec .. => [2]
  | .xfer q .. => [3 + q]
  | _ => []

/-- Instructions that transfer control (R263). -/
def Op.transfers : Op → Bool
  | .branch .. => true
  | .jump _ => true
  | .jumpReg _ => true
  | .jal .. => true
  | .endJob => true
  | _ => false

def Op.isSalu : Op → Bool
  | .salu .. => true
  | _ => false

def Op.isSmem : Op → Bool
  | .smem .. => true
  | _ => false

/-- A tally instruction that SEQ executes (R263). -/
def Op.seqTally : Op → Bool
  | .tinc e _ _ => e == 0
  | .twait e _ _ _ => e == 0
  | .tget .. => true
  | _ => false

def Op.isSigchk : Op → Bool
  | .sigchk _ => true
  | .sigchki _ => true
  | _ => false

def Op.isSigset : Op → Bool
  | .sigset _ => true
  | _ => false

/-- BALLOC or BFREE (R388). -/
def Op.isPool : Op → Bool
  | .balloc .. => true
  | .bfree .. => true
  | _ => false

/-- The register an instruction writes: an s-register's number, or 32 plus an a-register's (R263). -/
def Op.writes : Op → Option Nat
  | .salu op _ d .. => if op = 19 || op = 21 then some (32 + d % 16) else some d
  | .smem op _ _ r .. => if op % 2 = 0 then some r else none
  | .jal d _ => some d
  | .tget _ d => some d
  | .balloc d _ _ => some (32 + d)
  | .li64 d _ => some d
  | _ => none

/-- The registers an instruction reads, numbered as in Op.writes (R264, R266). -/
def Op.reads : Op → List Nat
  | .salu op i _ a b _ => (if op = 20 || op = 21 then [32 + a % 16] else [a]) ++ (if i || op = 19 || op = 20 then [] else [b])
  | .smem op _ _ r base _ => (if 2 ≤ op then [32 + base % 16] else [base]) ++ (if op % 2 = 1 then [r] else [])
  | .branch _ a b _ => [a, b]
  | .jumpReg a => [a]
  | .sigchk a => [a]
  | .sigset a => [a]
  | .twait _ _ v _ => [v]
  | .bfree a _ => [32 + a]
  | .mma _ a b k _ => [32 + a, 32 + b, k]
  | .drain _ d _ => [32 + d]
  | .vec op _ a b _ _ _ =>
    if op = 0x12 then [32 + b % 16] else if op = 0x13 then [a % 32] else if op = 0x14 || op = 0x15 then [32 + a % 16] else []
  | .xfer _ _ _ s d g _ _ => [s, d, g, g + 1, g + 2]
  | _ => []

/-- The slots whose instruction satisfies p, beyond the first n of them. -/
def surplus (p : Op → Bool) (n : Nat) (ops : List Op) : List Nat :=
  (((numbered ops).filter (fun (_, o) => p o)).drop n).map (·.1)

/-- Breaches of the rules on how many instructions of a kind a bundle holds (R263, R388): reason 4. -/
def slotBreaches (long : Bool) (ops : List Op) : List (Nat × Nat) :=
  let many := [1, 2, 3, 4].flatMap (fun e => surplus (fun o => o.queues.contains e) 1 ops)
  let more := surplus Op.isSalu 2 ops ++ surplus Op.isSmem 1 ops ++ surplus Op.seqTally 1 ops ++ surplus Op.transfers 1 ops ++
    surplus Op.isSigchk 1 ops ++ surplus Op.isSigset 1 ops ++ surplus Op.isPool 1 ops
  let place := ((numbered ops).filter (fun (i, o) => o.transfers && (long || i != 2))).map (·.1)
  (many ++ more ++ place).map (fun i => (4, i))

/-- Breaches of the rule that no two instructions write the same register (R263, limit 14 of 07): reason 5. -/
def writeBreaches (ops : List Op) : List (Nat × Nat) :=
  (numbered ops).filterMap (fun (i, o) =>
    match o.writes with
    | some r => if (ops.take i).any (fun o' => o'.writes == some r) then some (5, i) else none
    | none => none)

/-- Types that VEC arithmetic accepts (R268). -/
def vecType (t : Nat) : Bool := [2, 3, 4, 5, 8, 9, 10].contains t

/-- The class of a format on the array: some true integer, some false floating (R268). -/
def fmtClass (f : Nat) : Option Bool :=
  if f ≤ 4 || f = 15 then some true else if f = 5 then none else some false

/-- An MX format (R268). -/
def isMx (f : Nat) : Bool := 11 ≤ f && f ≤ 14

/-- Bits of an element of a format (R268, R347 to R352). -/
def fmtWidth (f : Nat) : Nat :=
  if f ≤ 1 || f = 13 then 4 else if f = 12 then 6 else if f = 4 || f = 8 || f = 9 || f = 15 then 16
  else if f = 5 || f = 10 then 32 else 8

/-- Every operand that the encoding alone fixes lies in its stated range (R286, R290, R292, R293, R297, R298, R302, R313, R387, R393). -/
def Op.inRange : Op → Bool
  | .tinc e _ n => e ≤ 4 && 1 ≤ n
  | .twait e _ _ tmo => e ≤ 4 && 1 ≤ tmo && tmo ≤ 16000
  | .barc m => m != 0
  | .balloc _ e _ => e ≤ 4
  | .bfree _ e => e ≤ 4
  | .cfg m fa fb => m ≤ 2 && (fmtClass fa).isSome && fmtClass fa == fmtClass fb && isMx fa == isMx fb
  | .mma _ _ _ _ m => m != 0
  | .drain _ _ m => m != 0
  | .zero _ m => m != 0
  | .vec op _ _ _ _ ty x =>
    if op ≤ 7 then vecType ty
    else if op ≤ 0x0D then ty == 5
    else if op = 0x0E then vecType ty && x % 8 ≤ 5
    else if op = 0x11 then (ty == 5 || ty == 10) && x % 4 != 3
    else if op = 0x12 then ty == 10
    else true
  | .xfer _ _ _ _ _ g _ _ => g ≤ 29
  | _ => true

/-- Breaches of those ranges: reason 6. -/
def rangeBreaches (ops : List Op) : List (Nat × Nat) :=
  (numbered ops).filterMap (fun (i, o) => if o.inRange then none else some (6, i))

/-- Every breach that a bundle's bits show. -/
def bitBreaches (w : Nat) : List (Nat × Nat) :=
  let ops := opsOf w
  encodingBreaches w ++ slotBreaches (bitsAt w 126 2 == 1) ops ++ writeBreaches ops ++ rangeBreaches ops

/-- The breach that a bundle raises: the lowest reason, then the lowest slot (R831). -/
def leastBreach : List (Nat × Nat) → Option (Nat × Nat)
  | [] => none
  | b :: bs =>
    match leastBreach bs with
    | none => some b
    | some c => if c.1 < b.1 || (c.1 == b.1 && c.2 < b.2) then some c else some b

/-- One bit of CRC-64 into a register, most significant first (R282). -/
def crc64Bit (c : Nat) (b : Bool) : Nat :=
  let top := c.testBit 63
  let sh := (c * 2) % 2 ^ 64
  if top != b then sh ^^^ 0x42F0E1EBA9EA3693 else sh

/-- A bundle folded into the running signature, bit 127 first (R282). -/
def sigFold (sg : DWord) (w : Nat) : DWord :=
  BitVec.ofNat 64 ((List.range 128).foldl (fun c i => crc64Bit c (w.testBit (127 - i))) sg.toNat)

end Sys2Proof.Machine
end

