-- ==== Sys2Proof/Machine/PartsSafety.lean ====
section
/-! DEFINITION. What Hedgerow and the vehicle interfaces hold beside their registers (03_safety_concept.md,
19_vehicle_interfaces.md). -/

namespace Sys2Proof.Machine

/-- A stream entry of the HCB (R114). -/
structure HcbStream where
  stream : Nat
  timeoutMs : Nat
  /-- X, Y, Z in mm; YAW, PITCH, ROLL in 0.01°. -/
  mount : List Int
  prog : List Word
  deriving DecidableEq, Repr

/-- A valid Hedgerow configuration block (R114). -/
structure Hcb where
  version : Nat
  length : Nat
  crc : Nat
  minPoints : Nat
  zMin : Int
  zMax : Int
  creepSpeed : Nat
  fallbackMax : Nat
  releaseMs : Nat
  pf : List (Int × Int)
  wf : List (Int × Int)
  streams : List HcbStream
  deriving DecidableEq, Repr

/-- One range input of Hedgerow (R107, R108). -/
structure HdgInput where
  /-- Counted points per cell, of the latest complete sweep. -/
  counts : Tbl Nat
  /-- Counted points per cell, of the sweep in progress. -/
  cur : Tbl Nat
  /-- The sweep in progress has had a damaged packet. -/
  curDirty : Bool
  /-- A damaged packet has come and no clean sweep since. -/
  dirty : Bool
  /-- A clean sweep has completed within the input's timeout. -/
  covered : Bool
  /-- g0 to g15 at the end of the latest packet. -/
  g : List Word
  expected : Option Nat
  deriving DecidableEq, Repr

def HdgInput.reset : HdgInput :=
  { counts := [], cur := [], curDirty := false, dirty := false, covered := false, g := List.replicate 16 0, expected := none }

/-- Hedgerow beside its registers. -/
structure Hedgerow where
  /-- The HCB in force; none before a valid one is read. -/
  hcb : Option Hcb
  inputs : Tbl HdgInput
  /-- The inputs as the latest field evaluation saw them, which HDG_GRID shows. -/
  seen : Tbl HdgInput
  /-- The flash has been read for the HCB since power-on reset (R114). -/
  read : Bool
  /-- Hedgerow runs: its oscillator, supply and lockstep are good. -/
  alive : Bool
  deriving DecidableEq, Repr

def Hedgerow.reset : Hedgerow := { hcb := none, inputs := [], seen := [], read := false, alive := true }

/-- An error window: errors since its first, and the tick of that one (R140, R692, R712). -/
structure ErrWindow where
  count : Nat
  tick : Nat
  deriving DecidableEq, Repr

def ErrWindow.reset : ErrWindow := { count := 0, tick := 0 }

/-- A frame in CAN 1's receive FIFO, as CAN_RXF_HEAD shows it. -/
structure RxEntry where
  stamp : Nat
  id : Word
  ctl : Word
  data : List Byte
  deriving DecidableEq, Repr

/-- The CAN FD controllers, the stop path's buffers and the MACs beside their registers. -/
structure Vehicle where
  /-- The Reeve's CAN 0 safety buffer (R695). -/
  reeveBuf : Option (List Byte)
  /-- Hedgerow's CAN 0 safety buffer (R695). -/
  hdgBuf : Option (List Byte)
  /-- CAN 1's fallover buffer (R703). -/
  fallover : Option (List Byte)
  /-- The Perception Status that waits on CAN 0 (R698). -/
  psBuf : Option (List Byte)
  psSeq : Nat
  /-- The Reeve's Safe-Stop is to be filled anew: the command or the mode has changed (R87, R91, R695). -/
  fillDue : Bool
  hdgSeq : Nat
  /-- Timebase ticks of CAN 0's bus-offs (R705). -/
  busoffs : List Nat
  /-- A Safe-Stop has completed on CAN 0 since its last bus-off (R704). -/
  sentSince : Bool
  /-- HOLD_MS has passed since CAN 0's last bus-off (R704). -/
  holdOver : Bool
  /-- The controllers' recovery from bus-off is in progress (R702, R707). -/
  recovering0 : Bool
  recovering1 : Bool
  rx : List RxEntry
  /-- Error windows of the controllers (R692) and of the MACs (R712). -/
  canErr : Tbl ErrWindow
  ethErr : Tbl ErrWindow
  deriving DecidableEq, Repr

def Vehicle.reset : Vehicle :=
  { reeveBuf := none, hdgBuf := none, fallover := none, psBuf := none, psSeq := 0, fillDue := false, hdgSeq := 0, busoffs := [], sentSince := true,
    holdOver := true, recovering0 := false, recovering1 := false, rx := [], canErr := [], ethErr := [] }

end Sys2Proof.Machine
end

