-- ==== Sys2Proof/Machine/PartsKelyth.lean ====
section
/-! DEFINITION. What the Kelyth Link ports and the Collective Engine hold beside their registers
(15_multi_device_collectives.md). -/

namespace Sys2Proof.Machine

/-- A Kelyth Link frame: its header without the CRC, and its payload (R543). -/
structure KFrame where
  /-- 1 DATA, 2 RACK, 3 ACK, 4 NAK, 5 CREDIT, 6 ABORT, 7 TRAIN. -/
  type : Nat
  flags : Nat
  route : Nat
  recvCnt : Nat
  lseq : Nat
  /-- Bytes 6 and 7: the next LSEQ that the sender expects, with its valid bit. -/
  ackseq : Nat
  /-- Bytes 8 to 15. -/
  addr : Nat
  msgLen : Nat
  msgId : Nat
  credit : Nat
  payload : List Byte
  deriving DecidableEq, Repr

/-- A frame in the replay buffer, and how often it has been resent without acknowledgement (R540, R545). -/
structure KRep where
  frame : KFrame
  times : Nat
  deriving DecidableEq, Repr

/-- One Kelyth Link port (R536 to R549). -/
structure KPort where
  /-- Its own floor, and the floor that the peer has sent (R540, R541). -/
  floor : Nat
  peerFloor : Nat
  /-- The peer's RATE_MASK and WIDTH_MASK. -/
  peerRate : Nat
  peerWidth : Nat
  /-- The TRAIN exchange of this attempt is done (R538). -/
  exchanged : Bool
  /-- The LSEQ of the next reliable frame to be numbered, and of the next one to be accepted (R545). -/
  txNext : Nat
  rxNext : Nat
  /-- Numbered frames without acknowledgement, oldest first (R545). -/
  replay : List KRep
  /-- The index in `replay` of the next frame to be sent again; none when nothing is to be resent. -/
  resend : Option Nat
  ackDue : Bool
  nakDue : Bool
  /-- Receive lines emptied and not yet returned (R546). -/
  creditDue : Nat
  /-- ABORT frames, forwarded DATA and every RACK, and the port's own DATA, that wait to be sent (R547). -/
  aborts : List KFrame
  fwd : List KFrame
  own : List KFrame
  /-- Receive lines of the peer that the port may still fill, and of its own that the peer may (R546). -/
  credit : Nat
  granted : Nat
  /-- DATA frames that wait in the receive buffer for a receive tracker (R558). -/
  rxWait : List KFrame
  /-- The window of CRC failures (R540). -/
  err : ErrWindow
  /-- The Timebase tick at which the first frame was held for want of lock (R549). -/
  heldFrom : Option Nat
  /-- The queues, 0 `aborts`, 1 `fwd` and 2 `own`, whose head has been counted as waiting (limit 2), and as held by the regulator (R520). -/
  stalled : List Nat
  regHeld : List Nat
  deriving DecidableEq, Repr

def KPort.reset : KPort :=
  { floor := 0, peerFloor := 0, peerRate := 15, peerWidth := 7, exchanged := false, txNext := 0, rxNext := 0, replay := [], resend := none,
    ackDue := false, nakDue := false, creditDue := 0, aborts := [], fwd := [], own := [], credit := 1024, granted := 1024, rxWait := [],
    err := ErrWindow.reset, heldFrom := none, stalled := [], regHeld := [] }

/-- The lanes of a port as it sends (R542). -/
structure KLine where
  /-- The latest 58 scrambled bits of each lane, the newest at bit 0. -/
  scr : List (BitVec 58)
  /-- The lane that takes the next block. -/
  next : Nat
  /-- Blocks dealt since the latest alignment blocks. -/
  dealt : Nat
  deriving DecidableEq, Repr

def KLine.reset : KLine := { scr := [0, 0, 0, 0], next := 0, dealt := 0 }

/-- A firing in progress (R554). -/
structure Firing where
  /-- Its operation has been carried out: what is still missing are RACKs. -/
  performed : Bool
  /-- It has met an error, and does not complete. -/
  failed : Bool
  /-- Devices whose RACK is missing. -/
  waits : List Nat
  deriving DecidableEq, Repr

/-- A receive tracker (R558): the message's sender and MSG_ID, the bytes that have come, and whether it is refused. -/
structure Tracker where
  src : Nat
  msgId : Nat
  got : Nat
  refused : Bool
  deriving DecidableEq, Repr

/-- The ports, the Collective Engine and what the device knows of its peers, beside the registers.  A descriptor's number is e for
CE_TRIG[e], and 256 + 64 i + e for KLY_TRIG[i][e]. -/
structure Kelyth where
  ports : Tbl KPort
  firings : Tbl Firing
  /-- Descriptors whose TRIG_CNT has changed since they were armed or completed, without firing, and those already timed out (R555). -/
  moved : List Nat
  late : List Nat
  trackers : List Tracker
  /-- The staging bytes written, by staging offset (R567). -/
  stage : List Host.Cell
  /-- Origin and recovery count of the latest ABORTs that this device has sent or seen (R569). -/
  aborts : List (Nat × Nat)
  /-- Devices in HELD, as their ABORTs say (R571). -/
  heldPeers : List Nat
  /-- The restart frame and the origin of an ABORT received outside a recovery (R570, limit 13 of 17). -/
  abortFrame : Option Word
  origin : Option Nat
  /-- The port that the latest frame of a route set of two was assigned to (R535). -/
  turn : Option Nat
  /-- What each port's lanes carry (R542). -/
  lines : Tbl KLine
  deriving DecidableEq, Repr

def Kelyth.reset : Kelyth :=
  { ports := [], firings := [], moved := [], late := [], trackers := [], stage := [], aborts := [], heldPeers := [], abortFrame := none,
    origin := none, turn := none, lines := [] }

end Sys2Proof.Machine
end

