-- ==== Sys2Proof/Machine/PartsPower.lean ====
section
/-! DEFINITION. What the power controller, the clock controller and the Steward hold beside their registers, and the boot flash
(20_clocks_power_boot.md, 22_electrical_package.md). -/

namespace Sys2Proof.Machine

/-- A core's thermal throttle (R736, R737); times are Timebase ticks. -/
structure Therm where
  /-- Since when its readings have stayed below T_THR - 3 °C, or when E_THERM last rose. -/
  coolFrom : Option Nat
  /-- When its pause began. -/
  pausedAt : Option Nat
  /-- When its last pause ended. -/
  pauseEnd : Option Nat
  deriving DecidableEq, Repr

def Therm.reset : Therm := { coolFrom := none, pausedAt := none, pauseEnd := none }

/-- Power, clocks and Banked. -/
structure Power where
  /-- Since when the power has stayed below PWR_LIMIT - 2 W, in Timebase ticks (R734). -/
  lowFrom : Option Nat
  /-- By physical core. -/
  therm : Tbl Therm
  /-- The Timebase tick at which an SPLL calibration became due (R741, R742). -/
  calDue : Option Nat
  /-- A write to CLK_SPLL_CAL asked for it (R741). -/
  calAsked : Bool
  /-- The crystal is missing (R773). -/
  crystalLost : Bool
  /-- A wake request waits for BANKED (R750). -/
  wakeHeld : Bool
  /-- The Timebase tick at which the wake request was accepted (R751, R823). -/
  wakeAt : Option Nat
  /-- The tick at which the latest wake completed (R749). -/
  wokenAt : Option Nat
  /-- Every memory channel is in self-refresh (R23, R746). -/
  selfRefresh : Bool
  deriving DecidableEq, Repr

def Power.reset : Power :=
  { lowFrom := none, therm := [], calDue := none, calAsked := false, crystalLost := false, wakeHeld := false, wakeAt := none, wokenAt := none, selfRefresh := false }

/-- The boot flash, by the fields of its layout (R752): the two selector copies, the boot configuration block, and the image slots by
4 × bank + slot, slot 0 Steward, 1 Reeve, 2 manifest, 3 HCB; what is not listed is erased. -/
structure Flash where
  sel0 : List Byte
  sel1 : List Byte
  bcb : List Byte
  slots : Tbl (List Byte)
  deriving DecidableEq, Repr

/-- [log 8: DESIGN CHOICE, unsafe] -/
def Flash.erased : Flash := { sel0 := [], sel1 := [], bcb := [], slots := [] }

/-- An image that FW_STAGE has passed to the Steward (R766): its command's SEQ and response key, and whether the session that sent it has
closed. -/
structure StageJob where
  kind : Nat
  image : List Byte
  seq : Nat
  kRsp : List Byte
  closed : Bool
  deriving DecidableEq, Repr

/-- The Steward and the boot (R761 to R770). -/
structure Boot where
  /-- RESET_N has risen since the latest power-on reset. -/
  begun : Bool
  /-- The Timebase tick at which it rose. -/
  from_ : Nat
  /-- TEST_EN was high as RESET_N rose: test mode (R814). -/
  test : Bool
  /-- A main rail holds the device in power-on reset (R796). -/
  railHold : Bool
  /-- The SEC_ mailboxes accept doorbells (R761, step 4; R762). -/
  mailboxes : Bool
  /-- The boot's outcome is known: NORMAL, or HELD (R765). -/
  done : Bool
  /-- The code with which sessions open LIMITED, 0 where none does (R666, R794). -/
  limited : Nat
  /-- The boot configuration block is valid (R754). -/
  bcbOk : Bool
  /-- The Reeve is to be started: its image is valid and the pair is not INCOMPATIBLE (R765). -/
  reeveOk : Bool
  /-- Memory training of this boot or wake has ended, and with success (R35). -/
  trainEnded : Bool
  trained : Bool
  /-- Logical cores that have passed their known-answer test in this boot or wake (R761, R751). -/
  kats : List Nat
  /-- Diagnostics that have passed in the self-test's pass of this boot or wake (R116, R761, R751). -/
  tested : List Diagnostic
  /-- The Timebase tick at which the Steward started. -/
  stewardFrom : Nat
  /-- The session of the physical function has created a staging set (R766). -/
  opened : Bool
  /-- A staging set exists that is not activated (R766, R770). -/
  staged : Bool
  /-- The selector that this session wrote names the inactive bank (R769). -/
  activated : Bool
  job : Option StageJob
  /-- A selector write is in progress (R769). -/
  writing : Bool
  flash : Flash
  deriving DecidableEq, Repr

def Boot.reset : Boot :=
  { begun := false, from_ := 0, test := false, railHold := false, mailboxes := false, done := false, limited := 0, bcbOk := false, reeveOk := false,
    trainEnded := false, trained := false, kats := [], tested := [], stewardFrom := 0, opened := false, staged := false, activated := false,
    job := none, writing := false, flash := Flash.erased }

/-- The states of the TAP controller (IEEE 1149.1). -/
inductive TapState where
  | reset | idle | selectDr | captureDr | shiftDr | exit1Dr | pauseDr | exit2Dr | updateDr
  | selectIr | captureIr | shiftIr | exit1Ir | pauseIr | exit2Ir | updateIr
  deriving DecidableEq, Repr

/-- The test access port (R813). -/
structure Tap where
  st : TapState
  /-- The instruction in force. -/
  instr : TapInstr
  /-- The instruction register's shift stage, bit 0 nearest TDO. -/
  ir : Byte
  /-- The shift stage of the selected data register, the bit nearest TDO first. -/
  dr : List Bool
  /-- The boundary register's update latches. -/
  latch : List Bool
  /-- TDO; none while it is not driven. -/
  tdo : Option Bool
  deriving DecidableEq, Repr

/-- The test access port in Test-Logic-Reset. -/
def Tap.reset : Tap := { st := .reset, instr := .idcode, ir := 0, dr := [], latch := [], tdo := none }

end Sys2Proof.Machine
end

