-- ==== Sys2Proof/Machine/PartsQueue.lean ====
section
/-! DEFINITION. What the Queue Manager, the Partition Controller, the conversation slots and the session unit hold beside
their registers (13_queues_and_dispatch.md, 14_partitions.md, 16_planner_serving.md, 18_host_and_sessions.md). -/

namespace Sys2Proof.Machine

/-- A job descriptor as the Queue Manager reads it (R453). -/
structure Desc where
  program : DWord
  args : DWord
  sigEnd : DWord
  tallyCfg : DWord
  userTag : DWord
  fdmFrame : Word
  deadlineUs : Nat
  twinId : Nat
  core : Nat
  prio : Nat
  preemptOk : Bool
  fdmEn : Bool
  waitIntake : Bool
  waitDep : Bool
  timer : Nat
  group : Nat
  depQueue : Nat
  depCount : Word
  /-- Some bit that R453 states as zero is set. -/
  reserved : Bool
  deriving DecidableEq, Repr

/-- A completion record that has not been written (R466). -/
structure Rec where
  /-- 0 OK, 1 ERROR, 2 REJECTED, 3 LOST. -/
  status : Nat
  code : Nat
  core : Nat
  /-- The Dispatch Table entry that the job holds. -/
  dt : Option Nat
  crc : Word
  preempted : Bool
  twin : Bool
  userTag : DWord
  elapsedUs : Nat
  /-- The Reeve has cleared the job's checks (R90). -/
  cleared : Bool
  /-- LOST, and the queue has been resumed since: the descriptor counts no more among the lost ones (R485). -/
  resumed : Bool := false
  deriving DecidableEq, Repr

/-- Where a submitted descriptor stands. -/
inductive JobAt where
  /-- Not dispatched; the descriptor once it has been read and has passed its checks (R454). -/
  | waiting (d : Option Desc)
  /-- It holds this Dispatch Table entry, running or pre-empted (R463). -/
  | placed (dt : Nat)
  /-- Its record is due. -/
  | done (r : Rec)
  deriving DecidableEq, Repr

/-- A submitted descriptor without a completion record. -/
structure QJob where
  /-- Its position in the queue since enable (SEQ of R466). -/
  pos : Nat
  /-- Its index in the ring. -/
  slot : Nat
  /-- Its submission time, a Timebase value in ns (R451). -/
  submit : Nat
  /-- The frame number of its replay, in a FRAME queue (R464). -/
  replay : Option Word
  /-- The conversation slot whose fold it is, that slot's QUEUE and the time of the expiry (R602). -/
  fold : Option (Nat × Nat × Nat)
  /-- It has been counted as waiting for a Dispatch Table entry (R471). -/
  waited : Bool
  /-- Its deadline has expired and has been reported (R475). -/
  late : Bool
  at_ : JobAt
  deriving DecidableEq, Repr

/-- One of the 65,536 queues (R447). -/
structure QueueSt where
  /-- 0 DISABLED, 1 RUNNING, 2 HALTED, 3 DRAINING. -/
  state : Nat
  haltCode : Nat
  /-- QM_QCTX0 to QM_QCTX5. -/
  ctx : List Word
  prod : Nat
  cons : Nat
  /-- The position that the next descriptor submitted takes. -/
  next : Nat
  disp : Word
  done : Word
  recs : Word
  /-- Descriptors submitted and without a record, by position. -/
  jobs : List QJob
  /-- Jobs of a HALTED queue that a recovery lost (R485). -/
  lost : List QJob
  /-- The coalescing window is open (R470). -/
  window : Bool
  deriving DecidableEq, Repr

def QueueSt.reset : QueueSt :=
  { state := 0, haltCode := 0, ctx := List.replicate 6 0, prod := 0, cons := 0, next := 0, disp := 0, done := 0, recs := 0, jobs := [],
    lost := [], window := false }

/-- What is kept of a pre-empted job beside its save image: the save buffer, the bundles that its queue entries came from, the
bytes that an unfinished transfer of SPEEL has written, its error code, and whether its tally configuration has been read. [log 73: DESIGN CHOICE, unsafe] -/
structure Saved where
  buf : Nat
  opaFrom : List DWord
  vecFrom : List DWord
  lpeelFrom : List DWord
  speelFrom : List DWord
  out : List Host.Cell
  err : Nat
  loaded : Bool
  deriving DecidableEq, Repr

/-- A Dispatch Table entry (R463, R630). -/
structure DtEnt where
  queue : Nat
  pos : Nat
  part : Nat
  core : Nat
  desc : Desc
  /-- The frame number of the frame-done mark, or 0xFFFF_FFFF (R453). -/
  frame : Word
  submit : Nat
  preempted : Bool
  saved : Option Saved
  deriving DecidableEq, Repr

/-- The twin jobs that have passed their checks for one pair key (R95, R96). -/
structure TwinPair where
  id : Nat
  frame : Word
  timer : Nat
  cores : List Nat
  retired : Nat
  /-- The comparison of the two checksums has passed (R90, R98). -/
  same : Bool
  /-- 0xA102 has been raised for it (R98). -/
  late : Bool
  deriving DecidableEq, Repr

/-- A conversation slot (16_planner_serving.md). -/
structure CtSlot where
  /-- 0 FREE, 1 IDLE, 2 ACTIVE, 3 DORMANT. -/
  state : Nat
  gate : Bool
  part : Nat
  queue : Nat
  foldQueue : Nat
  /-- DORM_S in force. -/
  dormS : Nat
  timeoutMs : Nat
  /-- Timebase ticks at which the timers started; none for a stopped one. -/
  dormFrom : Option Nat
  reqFrom : Option Nat
  foldSeq : Word
  /-- The queue of the descriptor that holds the gate. -/
  foldOf : Nat
  /-- Its request timer has expired while QUEUE is HALTED (limit 4 of 16). -/
  due : Bool
  /-- Its state has failed parity and awaits the sweep (R611). -/
  bad : Bool
  deriving DecidableEq, Repr

def CtSlot.reset : CtSlot :=
  { state := 0, gate := false, part := 0, queue := 0, foldQueue := 0, dormS := 0, timeoutMs := 0, dormFrom := none, reqFrom := none,
    foldSeq := 0, foldOf := 0, due := false, bad := false }

/-- The Queue Manager beside its registers. -/
structure Qm where
  queues : Tbl QueueSt
  /-- The Dispatch Table: the entries held, by index. -/
  dt : Tbl DtEnt
  pairs : List TwinPair
  slots : Tbl CtSlot
  deriving DecidableEq, Repr

def Qm.reset : Qm := { queues := [], dt := [], pairs := [], slots := [] }

/-- A bandwidth regulator: lines used in this period, by partition, and the partition last admitted (R518). -/
structure RegSt where
  used : Tbl Nat
  last : Nat
  deriving DecidableEq, Repr

def RegSt.reset : RegSt := { used := [], last := 7 }

/-- Who makes a charged DRAM request (R471, R517): a core's fetch, load, store-buffer write, peel or tally configuration; the Queue Manager for a
queue's descriptor or its head's intake word; the Mill for a slot of a stream, a group's records or a stream's region list; a firing of the
Collective Engine, or a message that has come on a Kelyth port. -/
inductive DramUser where
  | fetch (core : Nat)
  | load (core : Nat)
  | store (core : Nat)
  | peel (core peel : Nat)
  | tallyCfg (core : Nat)
  | descriptor (queue : Nat)
  | intake (queue : Nat)
  | slot (stream slot : Nat)
  | records (group : Nat)
  | list (stream : Nat)
  | firing (trig : Nat)
  | message (port : Nat)
  deriving DecidableEq, Repr

/-- A charged request that waits at its agent (R520, R521): the partition and the lines charged, whether its regulator has admitted it, and
whether it has been counted as waiting for a Request Tag Table entry (R471). -/
structure Ask where
  user : DramUser
  part : Nat
  lines : Nat
  admitted : Bool
  counted : Bool
  deriving DecidableEq, Repr

/-- The Partition Controller beside its registers. -/
structure PartCtl where
  /-- 0 the DRAM regulator, 1 + i the Kelyth regulator of port i. -/
  regs : Tbl RegSt
  /-- The DRAM requests that wait, oldest first (R520, R521). -/
  asks : List Ask
  /-- The agent that took a Request Tag Table entry last: a core's number, 16 Queue Manager, 17 Mill, 18 Collective Engine (R473). -/
  tagLast : Nat
  /-- PART_DRAM_CAP and PART_DRAM_REG as in force in this period (R519). -/
  cap : Word
  dramReg : List Word
  /-- Granary balances in ns, by 8 × core + partition; one that is not listed is G (R523). -/
  bal : Tbl Int
  /-- The Timebase tick up to which the job on a core has been charged (R523). -/
  charged : Tbl Nat
  /-- Partition resets requested during a recovery and held (R514). -/
  heldResets : List Nat
  /-- Functions that a Function Level Reset has reset, until their partition reset completes (R510). -/
  flr : List Nat
  /-- Partitions to which JOB_LOST is due: its code and the jobs lost (R503). -/
  lostDue : Tbl (Nat × Nat)
  /-- Partitions whose RECOVERED event is still to come (R502, R514). -/
  recoverDue : List Nat
  deriving DecidableEq, Repr

def PartCtl.reset : PartCtl :=
  { regs := [], asks := [], tagLast := 18, cap := 0, dramReg := List.replicate 8 0x1FFF, bal := [], charged := [], heldResets := [], flr := [], lostDue := [], recoverDue := [] }

/-- A pending open (R662). -/
structure PendOpen where
  nh : List Byte
  nd : List Byte
  runtime : Word
  verdict : Nat
  deriving DecidableEq, Repr

/-- The session unit's state for one partition, beside its registers. -/
structure Sess where
  pend : Option PendOpen
  kCmd : List Byte
  kRsp : List Byte
  /-- MODE, VERDICT and REASON of the open session (R666). -/
  mode : Nat
  verdict : Nat
  reason : Nat
  /-- The lockout in progress: the Timebase tick of its start, and its seconds (R663). -/
  lock : Option (Nat × Nat)
  /-- The Timebase tick of the last accepted command (R678). -/
  idleFrom : Nat
  /-- The command that the mailbox is processing has passed its checks and waits for its effect (R670, R677). -/
  started : Bool
  /-- A read of the partition's key slot has failed: it reads as blank until power-on reset (R684). -/
  keyBad : Bool
  deriving DecidableEq, Repr

def Sess.reset : Sess :=
  { pend := none, kCmd := [], kRsp := [], mode := 0, verdict := 0, reason := 0, lock := none, idleFrom := 0, started := false, keyBad := false }

end Sys2Proof.Machine
end

