-- ==== Sys2Proof/Machine/RegTable.lean ====
section
/-! DEFINITION. The register index (R778, R784): every register's place in BAR0, its reset value and the access codes of
its bits (R17).  A register's KEY is its BAR0 offset, plus 2^25 times the function for the registers of which each
function has its own. -/

namespace Sys2Proof.Machine

/-- Which half of a 64-bit pair a register is (R14). -/
inductive Half where
  | whole | lo | hi
  deriving DecidableEq, Repr

/-- One row of the register index: n1 instances s1 apart, each of n2 instances s2 apart. -/
structure RegDesc where
  base : Nat
  n1 : Nat := 1
  s1 : Nat := 4
  n2 : Nat := 1
  s2 : Nat := 4
  half : Half := .whole
  reset : Word := 0
  /-- Bits that software sets as it writes them. -/
  rw : Word := 0
  /-- Bits that a written 1 clears. -/
  w1c : Word := 0
  /-- Bits that a 1 sets and a 0 leaves. -/
  w1s : Word := 0
  /-- Bits that a read clears. -/
  rc : Word := 0
  deriving DecidableEq, Repr

/-- The row describes the offset. -/
def RegDesc.has (d : RegDesc) (off : Nat) : Bool :=
  let r := off - d.base
  let q := r % d.s1
  decide (d.base ≤ off) && decide (r / d.s1 < d.n1) && decide (q % d.s2 = 0) && decide (q / d.s2 < d.n2)

/-- A read-only register. -/
def ro (base : Nat) (reset : Word := 0) : RegDesc := { base, reset }

/-- A register whose bits `rw` are read-write. -/
def rwr (base : Nat) (rw : Word) (reset : Word := 0) : RegDesc := { base, rw, reset }

/-- A counter that a read clears. -/
def rcr (base : Nat) : RegDesc := { base, rc := 0xFFFFFFFF }

/-- n instances s apart. -/
def RegDesc.arr (d : RegDesc) (n s : Nat) : RegDesc := { d with n1 := n, s1 := s }

/-- n2 instances s2 apart inside each of the instances. -/
def RegDesc.sub (d : RegDesc) (n2 s2 : Nat) : RegDesc := { d with n2 := n2, s2 := s2 }

/-- The two halves of a 64-bit pair: _LO at the offset, _HI 4 bytes above (R784). -/
def RegDesc.pair (d : RegDesc) : List RegDesc := [{ d with half := .lo }, { d with base := d.base + 4, half := .hi }]

/-- SYS_ (01_one_frame_in_the_field.md, Registers). -/
def sysRegs : List RegDesc :=
  [ro 0x0 0x46D1B001, ro 0x4, rwr 0x8 0x3F, ro 0xC, rcr 0x10, rcr 0x14]

/-- TB_ (02_time_and_deadlines.md, Registers). -/
def tbRegs : List RegDesc :=
  [rwr 0x1000 0xF177, { base := 0x1004, w1c := 0x94 }] ++ (ro 0x1008).pair ++ (ro 0x1010).pair ++
  [ro 0x1018, ro 0x101C, rwr 0x1020 0xFFF 0x3C, rwr 0x1030 0xFFFFFFFF 0x01FCA055, rwr 0x1034 0xFFFFFFFF, ro 0x1038] ++
  (rwr 0x1040 0xFFFFFFFF).pair ++ [ro 0x1048] ++ (ro 0x1050).pair ++ ((ro 0x1060).arr 4 8).pair ++
  [(rwr 0x1100 0xF803FFFF).arr 8 16, (rcr 0x1104).arr 8 16, (rcr 0x1108).arr 8 16, (rcr 0x110C).arr 8 16]

/-- PCIE_ (18_host_and_sessions.md, Registers). -/
def pcieRegs : List RegDesc :=
  [ro 0x2000, rwr 0x2004 0x000F0FFF 0x00080420, rcr 0x2008, rcr 0x200C, rcr 0x2010, rcr 0x2014, rcr 0x2018, rcr 0x201C, rcr 0x2020]

/-- SEC_ (18_host_and_sessions.md, Registers): each function's own block, then the common registers. -/
def secRegs : List RegDesc :=
  [{ base := 0x48000, w1c := 0x80000000 }, ro 0x48004, { base := 0x48008, w1c := 0x4 }, rwr 0x4800C 0x87FF, ro 0x48010] ++
  (ro 0x48014).pair ++ [ro 0x4801C, rcr 0x48020, rcr 0x48024, (rwr 0x48400 0xFFFFFFFF).arr 256 4, (ro 0x48800).arr 256 4,
   ro 0x49000, ro 0x49004, (ro 0x49020).arr 8 4, (rwr 0x49040 0x3FF 0xA).arr 8 4, (ro 0x49060).arr 8 4, (ro 0x49080).arr 8 4,
   (rcr 0x490A0).arr 8 4]

/-- The MSI-X table and pending bit array (R778, R779, R648): a vector's entry is masked after reset, as the PCIe
specification has it. -/
def msixRegs : List RegDesc :=
  [(rwr 0x78000 0xFFFFFFFC).arr 128 16, (rwr 0x78004 0xFFFFFFFF).arr 128 16, (rwr 0x78008 0xFFFFFFFF).arr 128 16,
   (rwr 0x7800C 0x1 0x1).arr 128 16, (ro 0x7C000).arr 4 4]

/-- PART_ (14_partitions.md, Registers). -/
def partRegs : List RegDesc :=
  [rwr 0x28000 0x80000007, { base := 0x28004, reset := 0x100, w1c := 0x1 }, ro 0x28008, rcr 0x2800C, rwr 0x28010 0x1FFF,
   rwr 0x28014 0xFFFFFFFF,
   rwr 0x28100 0xFFFF 0x8000FFFF, (rwr 0x28180 0x8000FFFF).arr 7 0x80,
   (rwr 0x28104 0xFFFFFFFF).arr 8 0x80 |>.sub 4 4,
   (rwr 0x28114 0x1FFF1FFF 0x1FFF).arr 8 0x80, (rwr 0x28118 0xFFFFFFFF).arr 8 0x80, (rwr 0x2811C 0xFFFFFFFF 0xFFFFFFFF).arr 8 0x80,
   (rwr 0x28120 0x1FF 0x100).arr 8 0x80, (rwr 0x28124 0x07FF07FF).arr 8 0x80,
   { base := 0x28128, n1 := 8, s1 := 0x80, w1c := 0x1F }, (rwr 0x2812C 0x1E 0x1E).arr 8 0x80,
   (ro 0x28130).arr 8 0x80, (ro 0x28134).arr 8 0x80, (ro 0x28138).arr 8 0x80,
   (rcr 0x2813C).arr 8 0x80, (rcr 0x28140).arr 8 0x80, (rcr 0x28144).arr 8 0x80, (rcr 0x28148).arr 8 0x80, (rcr 0x2814C).arr 8 0x80]

/-- HDG_ (03_safety_concept.md, Registers). -/
def hdgRegs : List RegDesc :=
  [ro 0x8000 0x22, ro 0x8004, ro 0x8008, ro 0x800C, rcr 0x8010, rcr 0x8014, rcr 0x8018, rcr 0x801C, rcr 0x8020, rcr 0x8024] ++
  (ro 0x8028).pair ++ [ro 0x8030, (ro 0x9000 0xAAAAAAAA).arr 4096 4]

/-- MILL_ (04_sensor_intake.md, Registers). -/
def millRegs : List RegDesc :=
  [{ base := 0x10000, w1c := 0x1 }, rcr 0x10004, rcr 0x10008,
   (rwr 0x10010 0x80F0FF03 0x4000).arr 4 4, (ro 0x10020).arr 4 4, (rcr 0x10030).arr 4 4, (rwr 0x10040 0xFFFFFFFF).arr 16 4,
   (ro 0x10080).arr 4 4, (ro 0x10090).arr 4 4,
   (rwr 0x10100 0xC00F03FF).arr 8 16, (rwr 0x10104 0xFFFFF).arr 8 16, (rcr 0x10108).arr 8 16, (rcr 0x1010C).arr 8 16,
   (rwr 0x10200 0xC0FFFFFF).arr 8 32] ++ ((rwr 0x10204 0xFFFFFFFF).arr 8 32).pair ++
  [(rwr 0x1020C 0xFFFF 0x20).arr 8 32, (ro 0x10210).arr 8 32, (rwr 0x10214 0xFFFFFFFF).arr 8 32, (rcr 0x10218).arr 8 32,
   (ro 0x1021C).arr 8 32,
   (rwr 0x11000 0xB8F7FF00 0x00F00200).arr 16 64, (rwr 0x11400 0xB8F7FF00 0x40F20200).arr 8 64,
   (rwr 0x11004 0x3FF).arr 16 64, (rwr 0x11404 0xFFFF0003).arr 8 64, (rwr 0x11408 0xFFFFFFFF).arr 8 64, (ro 0x11008).arr 16 64,
   (rwr 0x1100C 0xFFFFFFFF).arr 24 64, (rwr 0x11010 0xFFFFF 0xC350).arr 24 64, (rwr 0x11014 0xFFFF 0x3E8).arr 24 64,
   (rwr 0x11018 0xFFFFFFFF 0x006403E8).arr 24 64, (rwr 0x1101C 0xFFFFFF).arr 24 64] ++
  ((rwr 0x11020 0xFFFFFFFF).arr 24 64).pair ++
  [(rwr 0x11028 0xFFFFF).arr 24 64, (rwr 0x1102C 0xFFFFFFFF).arr 24 64, (rwr 0x11030 0xFFFFFFFF).arr 16 64,
   (rwr 0x11430 0x1FFFFF).arr 8 64,
   (ro 0x12000).arr 24 32, { rcr 0x12004 with n1 := 24, s1 := 32, n2 := 7, s2 := 4 },
   (rwr 0x16000 0xFFFFFFFF).arr 2048 4, (rwr 0x18000 0xFFFFFFFF).arr 4096 4, (rwr 0x1C000 0xFFFFFFFF).arr 4096 4]

/-- SIEVE_ (05_decode_and_steering.md, Registers). -/
def sieveRegs : List RegDesc :=
  [{ base := 0x20000, w1c := 0x1 }, rcr 0x20008,
   (rwr 0x21000 0xFF073DF3 0x10000000).arr 24 64, (rwr 0x21004 0xFFFFFFFF).arr 24 64, (rwr 0x21008 0xFFFFFFFF).arr 24 64,
   (rwr 0x2100C 0xFFFFFFFF 0x10001000).arr 24 64, (rwr 0x21010 0xFFFFFFFF 0x10001000).arr 24 64, (rwr 0x21014 0x3 0x1).arr 24 64,
   (rwr 0x21018 0xFFFF07FF 0x01000100).arr 24 64] ++ ((rwr 0x2101C 0xFFFFFFFF).arr 24 64).pair ++
  [(rwr 0x21024 0x00FF0703).arr 24 64, (rwr 0x21028 0xFFFFFFFF).arr 24 64, (rwr 0x2102C 0xFFFFFFFF).arr 24 64,
   (rwr 0x21030 0xFFFFFFFF).arr 24 64, (rwr 0x21034 0xFFFFFFFF 0x00010001).arr 24 64, (ro 0x21038).arr 24 64,
   { rcr 0x22000 with n1 := 24, s1 := 32, n2 := 5, s2 := 4 }]

/-- REEVE_ (17_faults_and_recovery.md, Registers). -/
def reeveRegs : List RegDesc :=
  [{ base := 0x100000, reset := 0x82, w1c := 0x100 }, ro 0x100004, rcr 0x100008, ro 0x10000C] ++ (ro 0x100010).pair ++
  [ro 0x100018, ro 0x10001C, ro 0x100020, rwr 0x100030 0x3, ro 0x100034, ro 0x100038, rcr 0x10003C, ro 0x100040,
   rcr 0x100044, ro 0x100048, rcr 0x10004C, rcr 0x100050, ro 0x100054, rcr 0x100058, rcr 0x10005C]

/-- CAN_ (19_vehicle_interfaces.md, Registers). -/
def canRegs : List RegDesc :=
  [{ base := 0x40800, w1c := 0x1 }, rwr 0x40804 0x1FFFFFFF 0x00EF2A9C, rwr 0x40808 0x1FFFFFFF 0x04EF2A9C,
   rwr 0x4080C 0x3FFF00FF 0x03E80032, { base := 0x40810, w1c := 0x04000000 },
   { rwr 0x40000 0x8000FF00 0x1000 with w1s := 0x40000000 }, { rwr 0x40400 0xB000FF00 0x1000 with w1s := 0x40000000 }, (rwr 0x40004 0xFFFF7F1F 0x1E3E0F01).arr 2 0x400,
   (rwr 0x40008 0xF01F0F1F 0x901C0900).arr 2 0x400, (rwr 0x4000C 0x807F 0x801E).arr 2 0x400, (ro 0x40010 0x300).arr 2 0x400,
   (rcr 0x40014).arr 2 0x400, (rcr 0x40018).arr 2 0x400, (rcr 0x4001C).arr 2 0x400, (rcr 0x40020).arr 2 0x400,
   (rcr 0x40024).arr 2 0x400, rcr 0x40428,
   (rwr 0x41000 0x9FFFFFFF).arr 16 0x50, { rwr 0x41004 0x000F0300 with w1s := 0xC0000000, n1 := 16, s1 := 0x50 }, (ro 0x41008).arr 16 0x50,
   (rwr 0x4100C 0x3FF 0x64).arr 16 0x50, ((rwr 0x41010 0xFFFFFFFF).arr 16 0x50).sub 16 4,
   (rwr 0x41800 0xDFFFFFFF).arr 16 8, (rwr 0x41804 0x1FFFFFFF).arr 16 8, ro 0x42000, ro 0x42004, rcr 0x42008, (ro 0x42010).arr 20 4]

/-- ETH_ (19_vehicle_interfaces.md, Registers). -/
def ethRegs : List RegDesc :=
  [(rwr 0x43000 0xDF1FFF03 0x1F001001).arr 4 0x100, rwr 0x43400 0x871FFF03 0x1F001001, (ro 0x43004).arr 5 0x100,
   { (rwr 0x43008 0xFFFFFFFF).arr 5 0x100 with half := .lo }, { (rwr 0x4300C 0xFFFF).arr 5 0x100 with half := .hi },
   (rwr 0x43010 0xFFFFFFFF).arr 5 0x100,
   { rcr 0x43014 with n1 := 5, s1 := 0x100, n2 := 6, s2 := 4 }, { base := 0x43800, w1c := 0x1 }, rcr 0x43804]

/-- The common registers of the cores: HRT_, OPA_CTRL and GRN_ (06, 08 and 10, Registers). -/
def hrtRegs : List RegDesc :=
  [ro 0x50000, ro 0x50004, ro 0x50008, { base := 0x5000C, w1c := 0x1 }, (rwr 0x50010 0x7FFF 0x400).arr 5 4, rwr 0x50030 0x7FFF 0x7D0,
   rwr 0x50040 0xFF, rwr 0x50100 0x8000FF00, rcr 0x50104, rcr 0x50108, ro 0x5010C, ro 0x50110,
   (rwr 0x50140 0xF7FF03FF).arr 16 8, (rwr 0x50144 0x7FF).arr 16 8, (ro 0x50200).arr 16 16, (ro 0x50204).arr 16 16] ++
  ((ro 0x50208).arr 16 16).pair

/-- The registers of each core's block: HRT_, VEC_, PEEL_, OPA_ and GRN_ (06 to 10, Registers). -/
def coreRegs : List RegDesc :=
  let c (d : RegDesc) : RegDesc := { d with base := d.base + 0x60000, n1 := 16, s1 := 0x1000 }
  [c (ro 0x0), c (ro 0x4), c (ro 0x8)] ++ (c (ro 0x10)).pair ++ (c (ro 0x18)).pair ++
  [c (ro 0x20), c (ro 0x24), c (rcr 0x28), c (rcr 0x2C), c (rcr 0x30), c (rcr 0x34)] ++ (c (ro 0x40)).pair ++ [c (ro 0x48)] ++
  (c (ro 0x50)).pair ++ [c (rcr 0x58), c (rcr 0x5C), c (rcr 0x400), c (ro 0x404), c (rcr 0x408), c (rcr 0x40C), c (rcr 0x410),
   (c (ro 0x800)).sub 2 0x40, (c (rcr 0x804)).sub 2 0x40] ++ ((c (ro 0x808)).sub 2 0x40).pair ++
  [(c (rcr 0x810)).sub 2 0x40, (c { base := 0x814, rc := 0xFFFF }).sub 2 0x40, c (ro 0xC00)] ++ (c (ro 0xC08)).pair ++
  (c (ro 0xC10)).pair ++
  [c (rcr 0xC18), c (rcr 0xC1C), c (rcr 0xC20), c (ro 0xC24), c (rcr 0xC28), c (rcr 0xC2C), c (ro 0xC30), c (ro 0xC34), c (ro 0xC38),
   c (ro 0xC3C), c (ro 0xC40), c (rcr 0xC44), c (rcr 0xC48), c (ro 0xC4C),
   c (rcr 0xE00), c (ro 0xE04), c (ro 0xE08), c (rcr 0xE0C), c (rcr 0xE10), c (rcr 0xE14), c (ro 0xE18),
   (c (rcr 0xE20)).sub 5 4, (c (rcr 0xE80)).sub 32 4, (c (ro 0xF00)).sub 16 4]

/-- TAL_ (12_ordering_and_tallies.md, Registers). -/
def talRegs : List RegDesc :=
  let c (d : RegDesc) : RegDesc := { d with base := d.base + 0x70000, n1 := 16, s1 := 0x400 }
  ((c (ro 0x0)).sub 32 8).pair ++ [(c (ro 0x100)).sub 32 4, c (ro 0x180)] ++ (c (ro 0x184)).pair ++ (c (ro 0x18C)).pair ++
  [c (rcr 0x1A0), c (rcr 0x1A4), c { base := 0x1A8, rc := 0xFFFF }, c (rcr 0x1AC)]

/-- QM_ and QM_CT_ (13 and 16, Registers); QM_STATUS and the queue window are each function's own view (R488). -/
def qmRegs : List RegDesc :=
  [{ base := 0x24000, w1c := 0x1 }, ro 0x24004, rcr 0x24008, ro 0x2400C, rcr 0x24010, rwr 0x24014 0xFFF, rcr 0x24018, rcr 0x2401C,
   { base := 0x24020, rc := 0xFFFF }, ro 0x24024, rcr 0x24028, rcr 0x2402C, (rwr 0x24040 0x07FF07FF 0x400).arr 8 4, (ro 0x24060).arr 8 4,
   (rcr 0x24080).arr 16 4, rwr 0x24100 0xFFFF, ro 0x24104, ro 0x24108, ro 0x2410C, ro 0x24110, ro 0x24114, ro 0x24118,
   (ro 0x24120).arr 8 4, (rwr 0x24200 0x83FF07FF).arr 8 4, rwr 0x24220 0x3FF, ro 0x24224, ro 0x24228, ro 0x2422C, ro 0x24230, ro 0x24234,
   rcr 0x24240, rcr 0x24244, rcr 0x24248]

/-- KLY_ (15_multi_device_collectives.md, Registers). -/
def klyRegs : List RegDesc :=
  [(rwr 0x30000 0x8F70FF00 0x0F701000).arr 4 0x100, (ro 0x30004).arr 4 0x100, { rcr 0x30008 with n1 := 4, s1 := 0x100, n2 := 3, s2 := 4 },
   { base := 0x30014, n1 := 4, s1 := 0x100, rc := 0xFFFF }, { rcr 0x30018 with n1 := 4, s1 := 0x100, n2 := 4, s2 := 4 }] ++
  ((ro 0x30028).arr 4 0x100).pair ++ ((ro 0x30030).arr 4 0x100).pair ++
  [{ base := 0x30400, w1c := 0x1 }, rcr 0x30404, rcr 0x30408, ((rwr 0x31000 0xFFFFFFFF).arr 4 0x1000).sub 1024 4]

/-- CE_ (15, Registers). -/
def ceRegs : List RegDesc :=
  [{ base := 0x38000, w1c := 0x1 }, rcr 0x38004, rcr 0x38008, ro 0x3800C, rcr 0x38010, ro 0x38014, (rwr 0x38020 0xFFFFFFFF).arr 2 4,
   rwr 0x38028 0xFFFF, (rwr 0x38400 0xF0000000).arr 256 4] ++ ((ro 0x38800).arr 256 8).pair ++ [(rwr 0x3C000 0xFFFFFFFF).arr 4096 4]

/-- CLK_ (20_clocks_power_boot.md, Registers); CLK_SPLL_CAL is write-only. -/
def clkRegs : List RegDesc :=
  [{ base := 0x4000, w1c := 0x80000000 }, rwr 0x4004 0x7FFF7FFF, ro 0x4008, rcr 0x400C, rcr 0x4010, rcr 0x4014] ++
  (ro 0x4018).pair ++ [(ro 0x4100).arr 64 4]

/-- PWR_ (20, Registers): PWR_LIMIT and PWR_THERM take their values from the boot configuration block as the boot reads it (R754). -/
def pwrRegs : List RegDesc :=
  [{ base := 0x5000, w1c := 0x80000000 }, rwr 0x5004 0x7F, ro 0x5008, rwr 0x500C 0xFFFF, ro 0x5010, ro 0x5014, rwr 0x5018 0xF, rcr 0x501C,
   { base := 0x5020, rc := 0xFFF }, rcr 0x5024, rcr 0x5028, ro 0x502C, rcr 0x5030, (ro 0x5100).arr 16 4]

/-- BOOT_ and STW_ (20, Registers). -/
def bootRegs : List RegDesc :=
  [ro 0x6000, ro 0x6004, ro 0x6008, ro 0x600C, ro 0x6010, ro 0x6014, ro 0x6018, ro 0x601C, ro 0x6020, ro 0x6100, ro 0x6104, rcr 0x6108]

-- BLOCKS

/-- The rows of the block that holds an offset (R778). -/
def blockRegs (off : Nat) : List RegDesc :=
  if off < 0x1000 then sysRegs
  else if off < 0x2000 then tbRegs
  else if off < 0x3000 then pcieRegs
  else if 0x4000 ≤ off && off < 0x5000 then clkRegs
  else if 0x5000 ≤ off && off < 0x6000 then pwrRegs
  else if 0x6000 ≤ off && off < 0x7000 then bootRegs
  else if 0x8000 ≤ off && off < 0x10000 then hdgRegs
  else if 0x10000 ≤ off && off < 0x20000 then millRegs
  else if 0x20000 ≤ off && off < 0x24000 then sieveRegs
  else if 0x24000 ≤ off && off < 0x25000 then qmRegs
  else if 0x28000 ≤ off && off < 0x29000 then partRegs
  else if 0x30000 ≤ off && off < 0x38000 then klyRegs
  else if 0x38000 ≤ off && off < 0x40000 then ceRegs
  else if 0x40000 ≤ off && off < 0x43000 then canRegs
  else if 0x43000 ≤ off && off < 0x44000 then ethRegs
  else if 0x48000 ≤ off && off < 0x4A000 then secRegs
  else if 0x50000 ≤ off && off < 0x51000 then hrtRegs
  else if 0x60000 ≤ off && off < 0x70000 then coreRegs
  else if 0x70000 ≤ off && off < 0x74000 then talRegs
  else if 0x78000 ≤ off && off < 0x80000 then msixRegs
  else if 0x100000 ≤ off && off < 0x140000 then reeveRegs
  else []

/-- The register at an offset, if one lies there (R780). -/
def regAt (off : Nat) : Option RegDesc := (blockRegs off).find? (fun d => d.has off)

/-- The function's own copy of a register: its key (R779). -/
def own (fn : Fn) (off : Nat) : Nat := fn.val * 0x2000000 + off

/-- The value of a register after power-on reset (R784); 0 where the index gives none. -/
def regReset (key : Nat) : Word :=
  match regAt (key % 0x2000000) with
  | some d => d.reset
  | none => 0

end Sys2Proof.Machine
end

