-- ==== Sys2Proof/Machine/State.lean ====
section
/-! DEFINITION. The state of the block: the registers of BAR0 by key, the DRAM, what each block holds beside its
registers, and the queue of waiting commands. -/

namespace Sys2Proof.Machine

/-- Why a command has no meaning. -/
inductive Refusal where
  /-- Raised by Machine/Dispatch.lean alone, for a command without a meaning yet.  Safe. -/
  | notModelled (mnemonic : String)
  deriving DecidableEq, Repr

/-- Why the machine stops.  No meaning of the model stops: the spec gives every row of its table an effect, and the
device's own faults are state (R612). -/
inductive Fault where
  /-- Raised by nothing.  Safe. -/
  | none_
  deriving DecidableEq, Repr

structure State where
  /-- The commands that wait, first in, first out. -/
  pending : List Instr
  /-- Every register of BAR0 that does not hold its reset value (R784). -/
  regs : Tbl Word
  /-- The _LO word that a requester has written and whose _HI it has not (R16), by own fn offset of the _HI half. -/
  loHeld : Tbl Word
  /-- The snapshot of _HI that a requester's read of _LO took (R15), by own fn offset of the _HI half. -/
  hiSnap : Tbl Word
  /-- The value that the latest register read returned. -/
  rdata : Word
  /-- The device's DRAM by DRAM offset: the bytes written since power-on reset (R782, R819). -/
  dram : List Host.Cell
  /-- The 64-byte blocks, by offset / 64, that hold an uncorrectable error (R821). -/
  dramBad : Tbl Unit
  /-- The latest MR4 value of each memory channel, which sets its refresh (R23). -/
  mr4 : Tbl Byte
  /-- Power-on resets so far: the model's own, which names the undefined content of DRAM (R819). -/
  epoch : Nat
  /-- Free values drawn so far: the model's own. -/
  draws : Nat
  /-- What the device has put on its interfaces, oldest first: the model's own. -/
  emitted : List Emission
  fuse : Fuses
  tb : Timebase
  reeve : Reeve
  pcie : Pcie
  mill : Mill
  hdg : Hedgerow
  veh : Vehicle
  /-- The cores that have held a job or a Granary byte, by logical number. -/
  cores : Tbl CoreSt
  /-- Writes that have reached the collective counter window and wait for the Collective Engine, oldest first (R551). -/
  ceWrites : List WinWrite
  /-- Words that have reached the conversation timer window and wait for the Queue Manager, oldest first (R596). -/
  ctWrites : List WinWrite
  qm : Qm
  part : PartCtl
  /-- By partition. -/
  sess : Tbl Sess
  kly : Kelyth
  power : Power
  boot : Boot
  tap : Tap
  deriving DecidableEq, Repr

/-- Right after power-on reset (R784, R620): every register at its reset value, nothing in memory, no command waiting. [log 6: DESIGN CHOICE, safe] [log 7: DESIGN CHOICE, unsafe] -/
def State.reset : State :=
  { pending := [], regs := [], loHeld := [], hiSnap := [], rdata := 0, dram := [], dramBad := [], mr4 := [], epoch := 0, draws := 0,
    emitted := [],
    fuse := { grade := .frw1600, ae := false, physOf := List.range 16, psk := [], fwk := List.replicate 32 0, provClosed := false },
    tb := Timebase.reset, reeve := Reeve.reset, pcie := Pcie.reset, mill := Mill.reset,
    hdg := Hedgerow.reset, veh := Vehicle.reset, cores := [], ceWrites := [], ctWrites := [], qm := Qm.reset, part := PartCtl.reset, sess := [],
    kly := Kelyth.reset, power := Power.reset, boot := Boot.reset, tap := Tap.reset }

end Sys2Proof.Machine
end

