-- ==== Sys2Proof/Machine/Ops.lean ====
section
/-! DEFINITION. The named operations over registers, memory, the clock and fault events that every meaning uses. -/

namespace Sys2Proof.Machine

/-- What a meaning answers. -/
abbrev Out := Host.Outcome State Fault Refusal

/-- The register of key k: what was last put there, else its reset value (R784). -/
def State.reg (s : State) (k : Nat) : Word := Tbl.getD s.regs k (regReset k)

/-- The state with v in the register of key k; the map stays canonical, a register at its reset value being unlisted. -/
def State.setReg (s : State) (k : Nat) (v : Word) : State :=
  { s with regs := if v = regReset k then Tbl.drop s.regs k else Tbl.put s.regs k v }

/-- The value of a field. -/
def State.get (s : State) (f : Fld) : Nat := f.ofWord (s.reg f.key)

/-- The state with a field set to the low bits of n. -/
def State.put (s : State) (f : Fld) (n : Nat) : State := s.setReg f.key (f.into (s.reg f.key) n)

/-- A one-bit field reads 1. -/
def State.flag (s : State) (f : Fld) : Bool := s.get f != 0

/-- The state with a one-bit field set. -/
def State.on (s : State) (f : Fld) : State := s.put f 1

/-- The state with a one-bit field clear. -/
def State.off (s : State) (f : Fld) : State := s.put f 0

/-- A counter of a whole register counts n more events and holds at all-ones (R18). -/
def State.bumpBy (s : State) (k n : Nat) : State := s.setReg k (BitVec.ofNat 32 (min ((s.reg k).toNat + n) 0xFFFFFFFF))

/-- A counter of a whole register counts one event (R18). -/
def State.bump (s : State) (k : Nat) : State := s.bumpBy k 1

/-- A counter in a field counts one event and holds at all-ones (R18). -/
def State.bumpFld (s : State) (f : Fld) : State := s.put f (min (s.get f + 1) (2 ^ f.w - 1))

/-- A register keeps the larger of its value and n. -/
def State.maxReg (s : State) (k n : Nat) : State := s.setReg k (BitVec.ofNat 32 (min (max (s.reg k).toNat n) 0xFFFFFFFF))

/-- The 64-bit value of the pair whose _LO half has key k (R14). -/
def State.reg64 (s : State) (k : Nat) : DWord := BitVec.append (s.reg (k + 4)) (s.reg k)

/-- The pair whose _LO half has key k set to a 64-bit value, both halves together (R14). -/
def State.setReg64 (s : State) (k : Nat) (v : DWord) : State := (s.setReg k (v.setWidth 32)).setReg (k + 4) ((v >>> 32).setWidth 32)

/-- The state with one more emission. [log 5: DESIGN CHOICE, safe] -/
def State.emit (s : State) (e : Emission) : State := { s with emitted := s.emitted ++ [e] }

/-- The next free value. -/
def State.free (s : State) : Nat := Config.fresh s.draws

/-- The state once a free value has been drawn. -/
def State.drawn (s : State) : State := { s with draws := s.draws + 1 }

/-- The Timebase value in ns (R41). -/
def State.now (s : State) : Nat := s.tb.ns.toNat

/-- The state once n free values have been drawn. -/
def State.drawnN (s : State) (n : Nat) : State := { s with draws := s.draws + n }

-- FAULT EVENTS

/-- The source of a fault event (R613). -/
def srcOf (unit index sub : Nat) : BitVec 16 := BitVec.ofNat 16 (unit % 16 * 4096 + index % 256 * 16 + sub % 16)

/-- A fault event leaves its block for the collector (R612). -/
def State.raise (s : State) (e : FaultEvent) : State := { s with reeve := { s.reeve with events := s.reeve.events ++ [e] } }

/-- Raise a code as REPORT (R612). -/
def State.report (s : State) (code : Nat) (src : BitVec 16) (info : Nat := 0) : State :=
  s.raise { code := BitVec.ofNat 16 code, source := src, info := BitVec.ofNat 64 info, disp := .report }

/-- Raise a code as JOB_FAULT (R612). -/
def State.jobFault (s : State) (code : Nat) (src : BitVec 16) (info : Nat := 0) : State :=
  s.raise { code := BitVec.ofNat 16 code, source := src, info := BitVec.ofNat 64 info, disp := .jobFault }

/-- Raise a code as HELD (R612). -/
def State.heldFault (s : State) (code : Nat) (src : BitVec 16) (info : Nat := 0) : State :=
  s.raise { code := BitVec.ofNat 16 code, source := src, info := BitVec.ofNat 64 info, disp := .held }

/-- Raise a code as VIOLATION, with the first 16 bytes of the offending header or word (R612, R642). -/
def State.violation (s : State) (code : Nat) (src : BitVec 16) (detail : List Byte := []) : State :=
  s.raise { code := BitVec.ofNat 16 code, source := src, disp := .violation, detail := detail.take 16 }

/-- The source of a core's unit (R613, UNIT 0). -/
def srcCore (k : Nat) (u : CoreUnit) : BitVec 16 := srcOf 0 k u.sub

-- SAFETY MODE

/-- REEVE_STATUS.MODE: 0 NORMAL, 1 RECOVERY, 2 HELD (R79, R80). -/
def fReeveMode : Fld := ⟨0x100000, 0, 2⟩
def fCapturing : Fld := ⟨0x100000, 4, 1⟩
def fSweeping : Fld := ⟨0x100000, 5, 1⟩
def fFenced : Fld := ⟨0x100000, 6, 1⟩
def fFaultNLow : Fld := ⟨0x100000, 7, 1⟩
def fReeveRejected : Fld := ⟨0x100000, 8, 1⟩
def fLastCause : Fld := ⟨0x100000, 16, 16⟩

/-- The safety mode that the Reeve has set (R79). -/
def State.mode (s : State) : Nat := s.get fReeveMode

/-- The mode is HELD (R79). -/
def State.isHeld (s : State) : Bool := s.mode == 2

/-- The dispatch fence is closed (R91, R614). -/
def State.fenced (s : State) : Bool := s.flag fFenced

-- DRAM

/-- SYS_DRAM.USABLE_GIB in bytes (R26). -/
def fUsableGib : Fld := ⟨0xC, 8, 8⟩
def State.dramBytes (s : State) : Nat := s.get fUsableGib * 2 ^ 30

/-- The byte at a DRAM offset: what was written, else an undefined byte (R819, R820). -/
def State.ramByte (s : State) (a : Nat) : Byte := Tbl.getD s.dram a (Config.dramByte s.epoch a)

/-- n bytes from a DRAM offset on. -/
def State.ramBytes (s : State) (a n : Nat) : List Byte := (List.range n).map (fun i => s.ramByte (a + i))

/-- The block that holds a DRAM offset has an uncorrectable error (R821). -/
def State.ramBad (s : State) (a : Nat) : Bool := (Tbl.find s.dramBad (a / 64)).isSome

/-- The offset of the first block that the n bytes at a touch and that holds an uncorrectable error. -/
def State.badIn (s : State) (a n : Nat) : Option Nat :=
  ((List.range ((a + n + 63) / 64 - a / 64)).map (fun i => (a / 64 + i) * 64)).find? (fun b => s.ramBad b)

/-- Bytes put at rising offsets. -/
def putBytes : List Host.Cell → Nat → List Byte → List Host.Cell
  | m, _, [] => m
  | m, a, b :: bs => putBytes (Tbl.put m a b) (a + 1) bs

/-- The channel that holds an address (R28). -/
def channelOf (a : Nat) : Nat := bitsAt a 8 4 ^^^ bitsAt a 20 4

/-- The part of INFO of 0x3101 that names the requester (R615). -/
def agentInfo : Agent → Nat
  | .core k u => k.val + 16 * u.sub
  | .mill => 0xF + 16 * 1
  | .queueManager => 0xF + 16 * 2
  | .collective => 0xF + 16 * 4
  | .reeve => 0xF + 16 * 9
  | .steward => 0xF + 16 * 10
  | .host _ => 0xF + 16 * 11

def kCeCount : Nat := 0x10
def kUeCount : Nat := 0x14

/-- An uncorrectable error met by a requester: counted, and 0x3101 to the Reeve as a job fault (R33). -/
def State.dramUncorrectable (s : State) (who : Agent) (a : Nat) : State :=
  (s.bump kUeCount).jobFault 0x3101 (srcOf 6 (channelOf a) 0) (a / 64 * 64 % 2 ^ 48 + agentInfo who * 2 ^ 48)

/-- One write that stays inside one 64-byte block (R821). -/
def State.ramWriteBlock (s : State) (who : Agent) (a : Nat) (bs : List Byte) : State :=
  if bs.length = 64 ∧ a % 64 = 0 then
    { s with dram := putBytes s.dram a bs, dramBad := Tbl.drop s.dramBad (a / 64) }
  else if s.ramBad a then s.dramUncorrectable who a
  else { s with dram := putBytes s.dram a bs }

/-- A write of any length, block by block in address order (R821). -/
def State.ramWriteN (who : Agent) : (fuel : Nat) → State → Nat → List Byte → State
  | 0, s, _, _ => s
  | n + 1, s, a, bs =>
    let room := 64 - a % 64
    if bs = [] then s
    else State.ramWriteN who n (s.ramWriteBlock who a (bs.take room)) (a + room) (bs.drop room)

/-- A write of bytes to DRAM by an agent (R821). -/
def State.ramWrite (s : State) (who : Agent) (a : Nat) (bs : List Byte) : State := State.ramWriteN who (bs.length + 1) s a bs

/-- A structure that a block of the device reads: its bytes, whether they came poisoned, and the state once an
uncorrectable error has been handled (R33): one read, one count and one event, for its first bad block. [log 137: DESIGN CHOICE, unsafe] -/
def State.ramRead (s : State) (who : Agent) (a n : Nat) : List Byte × Bool × State :=
  match s.badIn a n with
  | some b => (s.ramBytes a n, true, s.dramUncorrectable who b)
  | none => (s.ramBytes a n, false, s)

-- HOST

def fDlUp : Fld := ⟨0x2000, 4, 1⟩
def kHostWrDrop : Nat := 0x201C

/-- A function's configuration (R648). -/
def State.fnCfg (s : State) (fn : Nat) : FnCfg := Tbl.getD s.pcie.fns fn FnCfg.reset

/-- Writes of a function reach host memory (R682). -/
def State.hostReachable (s : State) (fn : Nat) : Bool := s.flag fDlUp && !s.pcie.perst && (s.fnCfg fn).bme

/-- A write to host memory, discarded and counted where it cannot be sent (R682). -/
def State.hostWrite (s : State) (fn addr : Nat) (bs : List Byte) : State :=
  if s.hostReachable fn then s.emit (.hostWrite fn addr bs) else s.bump kHostWrDrop

/-- A register key of a function numbered by Nat (own, R779). -/
def ownN (fn off : Nat) : Nat := fn % 8 * 0x2000000 + off

/-- The mask bit of a vector's MSI-X table entry. -/
def fVecMask (fn v : Nat) : Fld := ⟨ownN fn (0x7800C + 16 * v), 0, 1⟩

/-- A vector's MSI-X pending bit (R506). -/
def fVecPend (fn v : Nat) : Fld := ⟨ownN fn (0x7C000 + 4 * (v / 32)), v % 32, 1⟩

/-- PART_STATUS.RESETTING shows the partition (R509). -/
def fResetting (p : Nat) : Fld := ⟨0x28004, 16 + p, 1⟩

/-- A partition reset of p has started and has not ended (R508, R514). -/
def State.inReset (s : State) (p : Nat) : Bool := s.flag (fResetting p) && !s.part.heldResets.contains p

/-- A message of the vector can be sent now (R506, R682, R648: D3hot stops MSI-X). -/
def State.msixReady (s : State) (fn v : Nat) : Bool :=
  s.hostReachable fn && (s.fnCfg fn).msixEn && !(s.fnCfg fn).msixMask && !(s.fnCfg fn).d3hot && !s.flag (fVecMask fn v)

/-- A message on a function's vector, held as the pending bit where it cannot be sent (R506); during a partition reset of the
function's partition no message is sent (R511). [log 81: DESIGN CHOICE, unsafe] -/
def State.msix (s : State) (fn v : Nat) : State :=
  if s.inReset fn then s
  else if s.msixReady fn v then s.emit (.msix fn v) else s.on (fVecPend fn v)

/-- MSI-X vectors of a function (R648). -/
def vectorsOf (fn : Nat) : Nat := if fn = 0 then 128 else 64

-- HOST ACCESSES

/-- The function exists: the physical one, or a virtual one that VF Enable and NumVFs bring about. [log 87: DEDUCED, unsafe] -/
def State.present (s : State) (fn : Nat) : Bool := fn == 0 || (s.pcie.vfEnable && decide (fn ≤ s.pcie.numVfs))

/-- The source of the host interface, for a function (R613). -/
def srcHost (fn : Nat) : BitVec 16 := srcOf 11 fn 0

def kPcieUr : Nat := 0x2010

/-- An Unsupported Request of a function, counted and logged (R683). [log 96: DEDUCED, safe] -/
def State.unsupported (s : State) (fn : Nat) (detail : List Byte) : State := ((s.bump kPcieUr).violation 0x6301 (srcHost fn) detail).emit (.aer fn .unsupportedRequest)

/-- A request of a function that is absent reaches nothing, and one of a function in D3hot is an Unsupported Request, whose header the spec
does not lay out (R648, R651, limit 12 of 18): its access has no effect of its own. -/
def State.turnsAway (s : State) (fn : Nat) : Bool := !s.present fn || (s.fnCfg fn).d3hot

/-- The state after a request that is turned away. -/
def State.turnedAway (s : State) (fn : Nat) : State :=
  if s.present fn then (s.drawnN 16).unsupported fn ((List.range 16).map (fun i => BitVec.ofNat 8 (Config.fresh (s.draws + i)))) else s

-- PARTITION EVENTS

def kPart (p off : Nat) : Nat := 0x28100 + 0x80 * p + off
def fPartEvent (p b : Nat) : Fld := ⟨kPart p 0x28, b, 1⟩
def fPartEventEn (p b : Nat) : Fld := ⟨kPart p 0x2C, b, 1⟩
def fEventVec (p : Nat) : Fld := ⟨kPart p 0x24, 16, 11⟩
def fLostVec (p : Nat) : Fld := ⟨kPart p 0x24, 0, 11⟩

/-- An event bit of a partition is set, with its message where the bit was 0 and is enabled (R502). -/
def State.partEvent (s : State) (p b : Nat) : State :=
  if s.flag (fPartEvent p b) then s
  else
    let s' := s.on (fPartEvent p b)
    if s.flag (fPartEventEn p b) then s'.msix p (s.get (fEventVec p)) else s'

/-- The partition is enabled (R492). -/
def State.partEnabled (s : State) (p : Nat) : Bool :=
  p == 0 || (s.pcie.vfEnable && decide (p ≤ s.pcie.numVfs) && s.flag ⟨kPart p 0, 31, 1⟩)

-- WINDOWS

def fWinEn (p w : Nat) : Fld := ⟨kPart p (4 + 4 * w), 31, 1⟩
def fWinRo (p w : Nat) : Fld := ⟨kPart p (4 + 4 * w), 30, 1⟩
def fWinBase (p w : Nat) : Fld := ⟨kPart p (4 + 4 * w), 15, 15⟩
def fWinSize (p w : Nat) : Fld := ⟨kPart p (4 + 4 * w), 0, 15⟩

/-- An enabled window of a partition covers the granule of 2 MiB, for a write one without RO (R495, R496). -/
def State.winCovers (s : State) (p : Nat) (write : Bool) (granule : Nat) : Bool :=
  (List.range 4).any (fun w => s.flag (fWinEn p w) && !(write && s.flag (fWinRo p w)) &&
    decide (s.get (fWinBase p w) ≤ granule) && decide (granule < s.get (fWinBase p w) + s.get (fWinSize p w)))

/-- An access of n bytes lies wholly within enabled windows of the partition, a write within those it may write (R496). -/
def State.winOk (s : State) (p a n : Nat) (write : Bool) : Bool :=
  (List.range ((a + n + 0x1FFFFF) / 0x200000 - a / 0x200000)).all (fun i => s.winCovers p write (a / 0x200000 + i))

/-- An access refused with 0x4301, a job fault (R496, R783, R615). -/
def State.refused4301 (s : State) (p a : Nat) : State :=
  s.jobFault 0x4301 (srcOf 3 p 0) (a % 2 ^ 48 + p % 8 * 2 ^ 48)

-- BANKED

def fPwrState : Fld := ⟨0x5000, 8, 2⟩
def fBankPending : Fld := ⟨0x5000, 0, 1⟩
def fPwrRejected : Fld := ⟨0x5000, 31, 1⟩

/-- PWR_STATUS.STATE. -/
def pwrRun : Nat := 0
def pwrEntering : Nat := 1
def pwrBanked : Nat := 2
def pwrWaking : Nat := 3

/-- The device is not in RUN: nothing is dispatched, and the blocks that Banked turns off are stopped (R746, R747). -/
def State.asleep (s : State) : Bool := s.get fPwrState != pwrRun

/-- BOOT_STATUS.STAGE (R761): 0 ROM, 1 STEWARD, 2 SERVICE, 3 REEVE, 4 DONE. -/
def fBootStage : Fld := ⟨0x6000, 8, 4⟩

/-- The boot awaits its known-answer tests and its self-test pass, or a wake does (R751, R761). -/
def State.testsDue (s : State) : Bool :=
  (s.get fPwrState == pwrWaking && s.boot.trained) || (s.get fBootStage == 3 && !s.boot.done)

-- PARTITIONS AND CORES

def fPerc : Fld := ⟨0x28000, 0, 3⟩
def fLock : Fld := ⟨0x28000, 31, 1⟩

/-- The perception partition (R493). -/
def State.perc (s : State) : Nat := s.get fPerc

/-- Enabled cores of the part (R5). -/
def State.nCores (s : State) : Nat := s.fuse.grade.cores

/-- SPLL's state in CLK_STATUS (R727): 2 LOCKED. -/
def fSpll : Fld := ⟨0x4000, 15, 3⟩

/-- The Mill's and the Sieve's writes: on behalf of the perception partition, refused outside its windows (R136, R498). [log 47: DEDUCED, unsafe] -/
def State.millWrite (s : State) (a : Nat) (bs : List Byte) : State :=
  if bs = [] then s
  else if s.winOk s.perc a bs.length true then s.ramWrite .mill a bs
  else s.refused4301 s.perc a

/-- A recovery is in progress, from D to the restart boundary (R616, R639). -/
def State.recovering (s : State) : Bool := s.reeve.recovery.isSome

-- ACCESS CODES

/-- A write by the access codes: RW bits take what is written, a written 1 clears a W1C bit, and no other bit changes (R13, R17). -/
def writtenBy (d : RegDesc) (old v : Word) : Word := ((old &&& ~~~ d.rw) ||| (v &&& (d.rw ||| d.w1s))) &&& ~~~ (v &&& d.w1c)

/-- The register of a key written by the access codes. [log 84: DEDUCED, unsafe] -/
def State.plainWrite (s : State) (key : Nat) (v : Word) : State :=
  match regAt (key % 0x2000000) with
  | some d => s.setReg key (writtenBy d (s.reg key) v)
  | none => s

end Sys2Proof.Machine
end

