-- ==== Sys2Proof/Machine/CoreOps.lean ====
section
/-! DEFINITION. The operations that every core command uses: registers of the core, faults, the Granary's pages and bytes,
the buffer pool, the tallies (06_hearth_core.md, 10_granary.md, 12_ordering_and_tallies.md). -/

namespace Sys2Proof.Machine

-- CORES

/-- Core k. -/
def State.core (s : State) (k : Nat) : CoreSt := Tbl.getD s.cores k CoreSt.reset

/-- Core k becomes c. -/
def State.setCore (s : State) (k : Nat) (c : CoreSt) : State := { s with cores := Tbl.put s.cores k c }

/-- The register at an offset of core k's block. -/
def kCore (k off : Nat) : Nat := 0x60000 + 0x1000 * k + off

def kIcachePerr (k : Nat) : Nat := kCore k 0x28
def kSrfCe (k : Nat) : Nat := kCore k 0x2C
def kRetired (k : Nat) : Nat := kCore k 0x24
def kQfull (k e : Nat) : Nat := kCore k (0x2C + 4 * e)
def kFaultBundle (k : Nat) : Nat := kCore k 0x40
def kFaultInfo (k : Nat) : Nat := kCore k 0x48
def kSigExp (k : Nat) : Nat := kCore k 0x50
def kTaken (k : Nat) : Nat := kCore k 0x5C
def kPeel (k q off : Nat) : Nat := kCore k (0x800 + 0x40 * q + off)
def kTal (k off : Nat) : Nat := 0x70000 + 0x400 * k + off

/-- The physical core of logical core k (R253). -/
def State.physOf (s : State) (k : Nat) : Nat := s.fuse.physOf.getD k 0

/-- CLK_ISL[i].PAUSED (R737). -/
def fIslOff (i : Nat) : Fld := ⟨0x4100 + 4 * i, 11, 1⟩
def fIslPaused (i : Nat) : Fld := ⟨0x4100 + 4 * i, 8, 1⟩

/-- The islands of core k are paused: no engine of it runs (R228, R737). -/
def State.paused (s : State) (k : Nat) : Bool := s.flag (fIslPaused (3 * s.physOf k))

/-- A job is on the core, nothing has frozen it, no engine is being reset and its islands run. -/
def State.runs (s : State) (k : Nat) : Bool :=
  (s.core k).job.isSome && !(s.core k).frozen && (s.core k).resetting == [] && !s.paused k && decide (k < s.nCores)

/-- The engines of core k may start what stands at the heads of their queues: no pre-emption has stopped them (R478). -/
def State.starts (s : State) (k : Nat) : Bool := s.runs k && !(s.core k).stopping

/-- The partition of the job on core k. -/
def State.jobPart (s : State) (k : Nat) : Nat :=
  match (s.core k).job with
  | some j => j.part
  | none => 0

/-- The unit that an engine number of R286 names. -/
def unitOf : Nat → CoreUnit
  | 0 => .seq
  | 1 => .opa
  | 2 => .vec
  | 3 => .lpeel
  | 4 => .speel
  | 5 => .granary
  | _ => .pool

/-- The core stops, and its fault goes to the Reeve as a job fault (R255, R306). [log 59: DEDUCED, unsafe] -/
def State.coreFault (s : State) (k : CoreId) (code : Nat) (u : CoreUnit) (info : Nat := 0) : State :=
  (s.setCore k { s.core k with frozen := true }).jobFault code (srcCore k u) info

/-- s-register i: s0 reads 0 (R229). -/
def getS (l : List DWord) (i : Nat) : DWord := if i = 0 then 0 else l.getD i 0

/-- The s-registers with v in sD: s0 ignores writes (R229). -/
def setS (l : List DWord) (i : Nat) (v : DWord) : List DWord := if i = 0 then l else l.set i v

/-- a-register i. -/
def getA (l : List Word) (i : Nat) : Word := l.getD (i % 16) 0

/-- The a-registers with v in aD. -/
def setA (l : List Word) (i : Nat) (v : Word) : List Word := l.set (i % 16) v

/-- Vector register i, 256 lanes (R229). -/
def CoreSt.vreg (c : CoreSt) (i : Nat) : List Word := Tbl.getD c.v i (List.replicate 256 0)

/-- Predicate i: p0 reads all ones (R229). -/
def CoreSt.preg (c : CoreSt) (i : Nat) : BitVec 256 := if i = 0 then BitVec.allOnes 256 else Tbl.getD c.p i 0

/-- Tally n. -/
def CoreSt.tally (c : CoreSt) (n : Nat) : Nat := c.t.getD n 0

/-- A 32-bit wrapping counter counts one. -/
def State.wrapUp (s : State) (k : Nat) : State := s.setReg k (s.reg k + 1)

-- THE BUFFER POOL

def fPoolEn : Fld := ⟨0x50100, 31, 1⟩
def kOwnCount : Nat := 0x50104
def kOwnLost : Nat := 0x50108
def fOwnValid : Fld := ⟨0x50110, 0, 5⟩
def fClassSize (c : Nat) : Fld := ⟨0x50140 + 8 * c, 28, 4⟩
def fClassCount (c : Nat) : Fld := ⟨0x50140 + 8 * c, 16, 11⟩
def fClassFirst (c : Nat) : Fld := ⟨0x50140 + 8 * c, 0, 10⟩
def fClassRsv (c : Nat) : Fld := ⟨0x50144 + 8 * c, 0, 11⟩
def kGrn (k off : Nat) : Nat := kCore k (0xE00 + off)

/-- Pages of a buffer of class c (R381). -/
def State.bufPages (s : State) (c : Nat) : Nat := 2 ^ s.get (fClassSize c)

/-- The buffer index of the class's first buffer (R384). -/
def State.classBase (s : State) (c : Nat) : Nat := ((List.range c).map (fun c' => s.get (fClassCount c'))).foldl (· + ·) 0

/-- The class and the buffer index of the buffer that holds a page, if one does (R381, R383). -/
def State.bufOfPage (s : State) (page : Nat) : Option (Nat × Nat) :=
  ((List.range 16).find? (fun c => decide (s.get (fClassFirst c) ≤ page) &&
    decide (page < s.get (fClassFirst c) + s.get (fClassCount c) * s.bufPages c))).map
    (fun c => (c, s.classBase c + (page - s.get (fClassFirst c)) / s.bufPages c))

/-- The class of a buffer index. -/
def State.classOfBuf (s : State) (idx : Nat) : Nat :=
  ((List.range 16).find? (fun c => decide (s.classBase c ≤ idx) && decide (idx < s.classBase c + s.get (fClassCount c)))).getD 0

/-- The base offset of a buffer (R381, R384). -/
def State.bufOffset (s : State) (idx : Nat) : Nat :=
  let c := s.classOfBuf idx
  4096 * (s.get (fClassFirst c) + (idx - s.classBase c) * s.bufPages c)

/-- The buffer whose base offset is a (R393): its class and index. -/
def State.bufAtBase (s : State) (a : Nat) : Option (Nat × Nat) :=
  if a % 4096 = 0 then
    match s.bufOfPage (a / 4096) with
    | some (c, idx) => if s.bufOffset idx = a then some (c, idx) else none
    | none => none
  else none

/-- A buffer's owner record (R385). -/
def Granary.recOf (g : Granary) (idx : Nat) : BufRec := Tbl.getD g.recs idx BufRec.reset

/-- The Granary with a buffer's owner record set. -/
def Granary.setRec (g : Granary) (idx : Nat) (r : BufRec) : Granary := { g with recs := Tbl.put g.recs idx r }

/-- The partition that a page's tag names (R380, R394). -/
def State.pageOwner (s : State) (k page : Nat) : Option Nat :=
  match s.bufOfPage page with
  | some (_, idx) =>
    let g := (s.core k).grn
    let r := g.recOf idx
    if r.held || g.tagged.contains idx then some r.part else none
  | none => none

/-- An access of n bytes for a job of partition p touches only pages of its partition's buffers (R386). -/
def State.grnOk (s : State) (k p a n : Nat) : Bool :=
  (List.range ((a + n + 4095) / 4096 - a / 4096)).all (fun i => s.pageOwner k (a / 4096 + i) == some p)

/-- Bytes of the Granary: a byte that nothing has written since it was zeroed reads 0 (R391). [log 61: DEDUCED, unsafe] -/
def State.grnBytes (s : State) (k a n : Nat) : List Byte := (List.range n).map (fun i => Tbl.getD (s.core k).grn.bytes (a + i) 0)

/-- Bytes put into the Granary; a zero is not listed. -/
def putGrn : List Host.Cell → Nat → List Byte → List Host.Cell
  | m, _, [] => m
  | m, a, b :: bs => putGrn (if b = 0 then Tbl.drop m a else Tbl.put m a b) (a + 1) bs

/-- The state with core k's Granary set. -/
def State.setGrn (s : State) (k : Nat) (g : Granary) : State := s.setCore k { s.core k with grn := g }

/-- A write to the Granary (R416): the pending write-back of a word it covers is dropped (limit 2 of 10). -/
def State.grnWrite (s : State) (k a : Nat) (bs : List Byte) : State :=
  let g := (s.core k).grn
  s.setGrn k { g with bytes := putGrn g.bytes a bs,
                      wb := g.wb.filter (fun w => decide (w < a / 8) || decide ((a + bs.length + 7) / 8 ≤ w)) }

/-- Single bytes written to the Granary: the pending write-backs of their words are dropped. -/
def State.grnCells (s : State) (k : Nat) (l : List Host.Cell) : State :=
  let g := (s.core k).grn
  s.setGrn k { g with bytes := l.foldl (fun m x => putGrn m x.1 [x.2]) g.bytes, wb := g.wb.filter (fun w => !l.any (fun x => x.1 / 8 == w)) }

/-- n bytes from a on read 0. -/
def State.grnZero (s : State) (k a n : Nat) : State :=
  let g := (s.core k).grn
  s.setGrn k { g with bytes := g.bytes.filter (fun x => decide (x.1 < a) || decide (a + n ≤ x.1)), wb := g.wb.filter (fun w => decide (w < a / 8) || decide ((a + n) / 8 ≤ w)) }

/-- The errors of words, by offset / 8, that n bytes from offset a cover. -/
def errsIn (errs : GrnErrs) (a n : Nat) : GrnErrs := errs.filter (fun x => decide (a / 8 ≤ x.1) && decide (x.1 < (a + n + 7) / 8))

/-- A corrected word of core k's Granary: counted, and its write-back queued, unless one is pending (R376). -/
def State.grnCorrected (s : State) (k w : Nat) : State :=
  let g := (s.core k).grn
  if g.wb.contains w then s else (s.setGrn k { g with wb := g.wb ++ [w] }).bump (kGrn k 0)

/-- A read that the Granary serves for engine e: the page check (R386), then what the SECDED bits of the words that it covers report
(R376, R377, limit 3 of 10).  The bytes, or none where a fault stops the read. -/
def State.grnRead (s : State) (k : CoreId) (e a n : Nat) (errs : GrnErrs) : Option (List Byte) × State :=
  let hit := errsIn errs a n
  if !s.grnOk k (s.jobPart k) a n then (none, s.coreFault k 0x4302 (unitOf e))
  else if hit.any (·.2) then (none, (s.bump (kGrn k 4)).coreFault k 0x3201 (unitOf e))
  else (some (s.grnBytes k a n), hit.foldl (fun s x => s.grnCorrected k x.1) s)

/-- Word w, by offset / 8, is covered in part alone by n bytes from offset a. -/
def partWord (a n w : Nat) : Bool := decide (a < 8 * w + 8) && decide (8 * w < a + n) && !(decide (a ≤ 8 * w) && decide (8 * w + 8 ≤ a + n))

/-- A write that engine e makes to the Granary: the page check, and, where it covers in part a word whose stored value is
uncorrectable, one of bad, no byte (R372, R377, R386).  True where the bytes landed. -/
def State.grnStore (s : State) (k : CoreId) (e a : Nat) (bs : List Byte) (bad : List Nat) : Bool × State :=
  if !s.grnOk k (s.jobPart k) a bs.length then (false, s.coreFault k 0x4302 (unitOf e))
  else if bad.any (partWord a bs.length) then (false, (s.bump (kGrn k 4)).coreFault k 0x3201 (unitOf e))
  else (true, s.grnWrite k a bs)

/-- The buffers that the pool of core k has chosen and is filling: they read FREE and are offered to nobody (R391). -/
def State.filling (s : State) (k : Nat) : List Nat :=
  let c := s.core k
  match c.bundle with
  | some h =>
    match h.alloc with
    | some (i, false) => [i]
    | _ => []
  | none => []

/-- FREE buffers of a class, by their owner records (R385). -/
def State.freeBufs (s : State) (k c : Nat) : List Nat :=
  ((List.range (s.get (fClassCount c))).map (fun j => s.classBase c + j)).filter (fun i => !((s.core k).grn.recOf i).held)

/-- Buffers of a class that the perception partition holds. -/
def State.percBufs (s : State) (k c : Nat) : List Nat :=
  ((List.range (s.get (fClassCount c))).map (fun j => s.classBase c + j)).filter
    (fun i => ((s.core k).grn.recOf i).held && ((s.core k).grn.recOf i).part == s.perc)

/-- The reserve rule for a job of partition p (R390). -/
def State.reserveOk (s : State) (k p c : Nat) : Bool :=
  let f := (s.freeBufs k c).length
  if p = s.perc then decide (1 ≤ f)
  else decide (1 ≤ f) && decide (s.get (fClassRsv c) ≤ f - 1 + (s.percBufs k c).length)

/-- The buffer that the pool gives a job of partition p (R389, R390, R394). -/
def State.chooseBuf (s : State) (k p c : Nat) : Option Nat :=
  if s.reserveOk k p c then
    (s.freeBufs k c).find? (fun i => !(s.core k).grn.tagged.contains i && !(s.filling k).contains i)
  else none

/-- A zero fill completes: the buffer's bytes are zero, its record names the owner and its tags are set (R391). -/
def State.fillDone (s : State) (k idx : Nat) (r : BufRec) : State :=
  let s' := s.grnZero k (s.bufOffset idx) (4096 * s.bufPages (s.classOfBuf idx))
  s'.setGrn k ((s'.core k).grn.setRec idx { r with held := true })

/-- A buffer is marked FREE with its tags; the record keeps its last owner (R385). -/
def Granary.release (g : Granary) (idx : Nat) : Granary :=
  { g.setRec idx { g.recOf idx with held := false } with tagged := g.tagged.filter (· != idx) }

/-- The buffers of core k that satisfy p are marked FREE, with their tags. -/
def State.releaseBufs (s : State) (k : Nat) (p : Nat → BufRec → Bool) : State :=
  let g := (s.core k).grn
  s.setGrn k { g with recs := g.recs.map (fun x => if x.2.held && p x.1 x.2 then (x.1, { x.2 with held := false }) else x),
                      tagged := g.tagged.filter (fun i => !p i (g.recOf i)) }

/-- The pool reset of a core (R402). -/
def State.poolReset (s : State) (k : Nat) : State := s.releaseBufs k (fun _ _ => true)

-- TALLIES

/-- The word that TAL_FAULT_INFO shows. -/
def tallyInfo (code e t : Nat) (atIssue : Bool) : Nat := code * 2 ^ 16 + e * 2 ^ 13 + t * 2 ^ 8 + b2n atIssue * 2 ^ 7

/-- TAL_FAULT_ records a fault of the tally logic (R446). -/
def State.tallyRecord (s : State) (k : CoreId) (code e t : Nat) (atIssue : Bool) (value partner : Nat) : State :=
  ((s.setReg (kTal k 0x180) (BitVec.ofNat 32 (tallyInfo code e t atIssue))).setReg64 (kTal k 0x184) (BitVec.ofNat 64 (value % 2 ^ 48))).setReg64
    (kTal k 0x18C) (BitVec.ofNat 64 partner)

/-- A fault of the tally logic: TAL_FAULT_ records it, and it goes to the Reeve (R441, R446, R615). -/
def State.tallyFault (s : State) (k : CoreId) (code e t : Nat) (atIssue : Bool) (value partner : Nat) : State :=
  (s.tallyRecord k code e t atIssue value partner).coreFault k code (unitOf e) (tallyInfo code e t atIssue + value % 2 ^ 32 * 2 ^ 32)

/-- The bound of tally t in force: its partner and B (R439). -/
def CoreSt.bound (c : CoreSt) (t : Nat) : Option (Nat × Nat) :=
  let w := (c.tcfg.getD t 0).toNat
  if w.testBit 31 then some (bitsAt w 24 5, bitsAt w 0 16) else none

/-- The partner's value that TAL_FAULT_PARTNER shows (R446). -/
def CoreSt.partnerOf (c : CoreSt) (t : Nat) : Nat :=
  match c.bound t with
  | some (p, _) => c.tally p
  | none => 0

-- DEVICE MEMORY

/-- A device address lies in the DRAM range (R782). -/
def inDram (a : Nat) : Bool := decide (a < 0x1000000000)

/-- A job of partition p may access the n bytes at a device address of DRAM (R496, R783). -/
def State.jobOk (s : State) (p a n : Nat) (write : Bool) : Bool :=
  inDram a && decide (a + n ≤ 0x1000000000) && s.winOk p a n write

/-- The job of core k is refused an access (R496, R783): a job fault of the Partition Controller, and the core stops. -/
def State.jobRefused (s : State) (k a : Nat) : State :=
  (s.setCore k { s.core k with frozen := true }).refused4301 (s.jobPart k) a

end Sys2Proof.Machine
end

