-- ==== Sys2Proof/Machine/Requests.lean ====
section
/-! DEFINITION. DRAM requests: the regulators' admission, the Request Tag Table's entries, and what waits for either
(R242, R471 to R473, R516 to R522). -/

namespace Sys2Proof.Machine

-- REGULATORS

def kDramReg (p : Nat) : Nat := kPart p 0x14

def State.setPartCtl (s : State) (c : PartCtl) : State := { s with part := c }

/-- RES and LIM of PART_DRAM_REG. -/
def resOf (v : Word) : Nat := bitsAt v.toNat 16 13
def limOf (v : Word) : Nat := bitsAt v.toNat 0 13

def State.regSt (s : State) (r : Nat) : RegSt := Tbl.getD s.part.regs r RegSt.reset
def State.setRegSt (s : State) (r : Nat) (x : RegSt) : State := s.setPartCtl { s.part with regs := Tbl.put s.part.regs r x }

/-- CAP of regulator r: 0 DRAM, 1 + i port i (R518, R522). -/
def State.regCap (s : State) (r : Nat) : Nat := if r = 0 then s.part.cap.toNat else s.get ⟨0x28014, 8 * (r - 1), 8⟩
def State.regRes (s : State) (r p : Nat) : Nat := if r = 0 then resOf (s.part.dramReg.getD p 0) else s.get ⟨kPart p 0x18, 8 * (r - 1), 8⟩
def State.regLim (s : State) (r p : Nat) : Nat := if r = 0 then limOf (s.part.dramReg.getD p 0) else s.get ⟨kPart p 0x1C, 8 * (r - 1), 8⟩

/-- The sum of f over the enabled partitions. -/
def State.sumEnabled (s : State) (f : Nat → Nat) : Nat := (((List.range 8).filter s.partEnabled).map f).foldl (· + ·) 0

/-- Regulator r admits a request of partition p (R518). -/
def State.admits (s : State) (r p : Nat) : Bool :=
  let used (q : Nat) : Nat := Tbl.getD (s.regSt r).used q 0
  let excess := s.sumEnabled (fun q => used q - s.regRes r q)
  let pool : Int := (s.regCap r : Int) - s.sumEnabled (s.regRes r)
  s.regCap r == 0 || (decide (used p < s.regLim r p) && (decide (used p < s.regRes r p) || decide ((excess : Int) < pool)))

/-- The registers that count a regulator's work: requests held, and lines admitted, of the DRAM regulator alone. -/
def kHeld (r p : Nat) : Nat := if r = 0 then kPart p 0x3C else kPart p 0x44
def kLines (p : Nat) : Nat := kPart p 0x40

/-- Aligned 64-byte lines that n bytes from address a on touch (R516). -/
def linesOf (a n : Nat) : Nat := if n = 0 then 0 else (a + n - 1) / 64 - a / 64 + 1

/-- The DRAM regulator admits n lines of partition p: they are charged to the period (R518). -/
def State.charge (s : State) (p n : Nat) : State :=
  let g := s.regSt 0
  if n = 0 then s
  else (s.setRegSt 0 { used := Tbl.put g.used p (Tbl.getD g.used p 0 + n), last := p }).bumpBy (kLines p) n

-- THE REQUEST TAG TABLE

def fRttRsv : Fld := ⟨0x24014, 0, 12⟩
def kRttSat : Nat := 0x24010
def kRttCoreSat (k : Nat) : Nat := 0x24080 + 4 * k

/-- Entries that core k holds: one for a pending LD, and one for each DRAM request of a peel whose data has not come or whose write has not been
acknowledged (R242, R273). [log 54: DEDUCED, unsafe] -/
def CoreSt.tags (c : CoreSt) : Nat := b2n c.load.isSome + ((c.lpeelQ ++ c.speelQ).map (fun e => e.reqs.length)).foldl (· + ·) 0

/-- Entries held on the device, and those of the perception partition's cores. -/
def State.tagsHeld (s : State) (perc : Bool) : Nat :=
  (s.cores.map (fun x => if !perc || (match x.2.job with | some j => j.part == s.perc | none => false) then x.2.tags else 0)).foldl (· + ·) 0

/-- The agent that makes a request, by its number in the round of R473, and the core where it is one. -/
def DramUser.agent : DramUser → Nat
  | .fetch k => k
  | .load k => k
  | .store k => k
  | .peel k _ => k
  | .tallyCfg _ => 16
  | .descriptor _ => 16
  | .intake _ => 16
  | .slot _ _ => 17
  | .records _ => 17
  | .list _ => 17
  | .firing _ => 18
  | .message _ => 18

/-- Requests that take an entry: all but a store buffer's writes (R471). -/
def DramUser.takesTag : DramUser → Bool
  | .store _ => false
  | _ => true

/-- The agent may take an entry for a request of partition p (R471, R473). -/
def State.tagRoom (s : State) (agent p : Nat) : Bool :=
  (decide (16 ≤ agent) || decide ((s.core agent).tags < 256)) && decide (s.tagsHeld false < 4096) &&
    (p == s.perc || decide (s.get fRttRsv ≤ 4096 - s.tagsHeld false - 1 + s.tagsHeld true))

/-- The agent, among those whose admitted requests wait and may take an entry, that is served next: in round-robin order after the one served last
(R473). -/
def State.tagNext (s : State) : Option Nat :=
  ((List.range 19).map (fun i => (s.part.tagLast + 1 + i) % 19)).find? (fun a =>
    s.part.asks.any (fun x => x.admitted && x.user.takesTag && x.user.agent == a && s.tagRoom a x.part))

/-- A request of a user and partition may take its entry now: it needs none, or there is room and it is its agent's turn. -/
def State.tagTurn (s : State) (u : DramUser) (p : Nat) : Bool :=
  !u.takesTag || (s.tagRoom u.agent p && (match s.tagNext with | some a => a == u.agent | none => true))

/-- A request has to wait for an entry: counted once (R471). -/
def State.tagWait (s : State) (u : DramUser) : State :=
  if u.agent < 16 ∧ 256 ≤ (s.core u.agent).tags then s.bump (kRttCoreSat u.agent) else s.bump kRttSat

-- REQUESTS

/-- The waiting request of a user. -/
def State.askOf (s : State) (u : DramUser) : Option Ask := s.part.asks.find? (fun x => x.user == u)

/-- The waiting requests set. -/
def State.setAsks (s : State) (l : List Ask) : State := s.setPartCtl { s.part with asks := l }

/-- Requests that f picks out are given up, and charged to no period if they were not admitted (R521; limits 4 and 5 of 14). -/
def State.dropAsks (s : State) (f : Ask → Bool) : State := s.setAsks (s.part.asks.filter (fun x => !f x))

/-- Core k's own requests, and that for its job's tally configuration, are given up. -/
def State.dropCoreAsks (s : State) (k : Nat) : State := s.dropAsks (fun x => x.user.agent == k || x.user == .tallyCfg k)

/-- The user is a core that is being pre-empted: no regulator's wait lengthens that (limit 3 of 14). -/
def State.quiescing (s : State) (u : DramUser) : Bool := decide (u.agent < 16) && (s.core u.agent).stopping

/-- The DRAM regulator has admitted a user's request of partition p for n lines, or admits it now: none of p waits before it (R518, R520).  A
request that touches no line of DRAM is not regulated. -/
def State.askAdmitted (s : State) (u : DramUser) (p n : Nat) : Bool :=
  s.quiescing u ||
    match s.askOf u with
    | some x => x.admitted
    | none => n == 0 || (s.admits 0 p && !s.part.asks.any (fun x => x.part == p && !x.admitted))

/-- A user's request of partition p for n lines goes out now: admitted, and with its Request Tag Table entry (R471, R520, R521). -/
def State.dramReady (s : State) (u : DramUser) (p n : Nat) : Bool := s.askAdmitted u p n && s.tagTurn u p

/-- The request goes out: charged, if it had not waited for admission. -/
def State.dramTake (s : State) (u : DramUser) (p n : Nat) : State :=
  let s := if s.part.asks.any (fun x => x.user == u && x.admitted) then s else s.charge p n
  s.setPartCtl { s.part with asks := s.part.asks.filter (fun x => x.user != u), tagLast := if u.takesTag then u.agent else s.part.tagLast }

/-- The request waits: a new one counts in PART_DRAM_HELD where its regulator holds it, and any one once where it is admitted and finds no entry
(R471, R520). -/
def State.dramWait (s : State) (u : DramUser) (p n : Nat) : State :=
  match s.askOf u with
  | some x =>
    if x.admitted && !x.counted then
      (s.setAsks (s.part.asks.map (fun y => if y.user = u then { y with counted := true } else y))).tagWait u
    else s
  | none =>
    if s.askAdmitted u p n then
      ((s.charge p n).setAsks (s.part.asks ++ [{ user := u, part := p, lines := n, admitted := true, counted := true }])).tagWait u
    else (s.setAsks (s.part.asks ++ [{ user := u, part := p, lines := n, admitted := false, counted := false }])).bump (kHeld 0 p)

/-- A user's request of partition p for n lines: true where it goes out. [log 76: DEDUCED, unsafe] -/
def State.dramAsk (s : State) (u : DramUser) (p n : Nat) : Bool × State :=
  if s.dramReady u p n then (true, s.dramTake u p n) else (false, s.dramWait u p n)

/-- The partition whose oldest held request is admitted next: in round-robin order after the one admitted last (R518). -/
def State.nextHeld (s : State) : Option Ask :=
  (((List.range 8).map (fun i => ((s.regSt 0).last + 1 + i) % 8)).find? (fun p =>
    s.admits 0 p && s.part.asks.any (fun x => x.part == p && !x.admitted))).bind
    (fun p => s.part.asks.find? (fun x => x.part == p && !x.admitted))

/-- Held requests are admitted one at a time, as long as their regulator admits one (R518). -/
def State.admitHeld : (fuel : Nat) → State → State
  | 0, s => s
  | f + 1, s =>
    match s.nextHeld with
    | none => s
    | some x =>
      let s := s.charge x.part x.lines
      State.admitHeld f (s.setAsks (s.part.asks.map (fun y => if y.user = x.user then { y with admitted := true } else y)))

end Sys2Proof.Machine
end

