-- ==== Sys2Proof/Machine/Seq.lean ====
section
/-! DEFINITION. The sequencer: fetch, the checks at decode, issue, and the instructions that it executes itself
(R231, R262 to R290, R304). -/

namespace Sys2Proof.Machine

-- CHECKS AT DECODE

/-- The 64-bit address of an LD or ST (R271). -/
def smemAddr (base : DWord) (imm : Nat) : Nat := wrap 64 ((base.toNat : Int) + sgn 19 imm)

/-- The Granary offset of a GLD or GST (R271). -/
def grnAddr (base : Word) (imm : Nat) : Nat := wrap 32 ((base.toNat : Int) + sgn 19 imm)

/-- Granary bytes of a core (R370). -/
def grnSize : Nat := 0x400000

/-- MASK bits of a packing mode (R292, R308). -/
def modeMask (m : Nat) : Nat := if m = 0 then 1 else if m = 1 then 0xF else 0xFFFF

/-- Width W of a sub-array (R308). -/
def modeWidth (m : Nat) : Nat := if m = 0 then 128 else if m = 1 then 64 else 32

/-- The sub-arrays that a MASK names, ascending. -/
def maskSubs (mask : Nat) : List Nat := (List.range 16).filter (fun m => mask.testBit m)

/-- n rounded up to a multiple of 64. -/
def pad64 (n : Nat) : Nat := (n + 63) / 64 * 64

/-- The padded length of a record of a format for n sub-arrays of width w (R310). -/
def recordLen (w n f : Nat) : Nat := pad64 ((n * w * fmtWidth f + 7) / 8)

/-- The padded length of a scale record (R312). -/
def scaleLen (w n : Nat) : Nat := pad64 (n * w)

/-- The bytes from an operand's base to the end of its last record (R311, R312). -/
def operandSpan (w n f k : Nat) : Nat :=
  if isMx f then k / 32 * (32 * recordLen w n f + scaleLen w n) else k * recordLen w n f

/-- Bytes of a VLD or VST of a type (R299). -/
def vecBytes (ty : Nat) : Nat := 32 * fmtWidth ty

/-- The open passes of the shadow that an accumulator and a MASK name; none where one is not open. -/
def Shadow.openAll (h : Shadow) (acc mask : Nat) : Bool := (maskSubs mask).all (fun m => (Tbl.find h.passes (16 * acc + m)).isSome)

/-- A Granary operand: alignment, then the end of the Granary. -/
def grnBreach (slot align base n : Nat) : List (Nat × Nat) :=
  (if base % align = 0 then [] else [(7, slot)]) ++ (if base + n ≤ grnSize then [] else [(6, slot)])

/-- Breaches that show only with the registers' values, the job or the array's shadow (R272, R276, R277, R286, R292 to R295,
R299, R313, R314, R319, R387, R833). -/
def State.dynBreach (s : State) (k : Nat) (slot : Nat) (o : Op) : List (Nat × Nat) :=
  let c := s.core k
  let sh := c.shadow
  let w := modeWidth sh.mode
  let bad (b : Bool) (r : Nat) : List (Nat × Nat) := if b then [(r, slot)] else []
  match o with
  | .smem op size _ _ base imm =>
    if op < 2 then
      bad (smemAddr (getS c.s base) imm % size != 0) 7 ++
        bad (op == 1 && (match c.job with | some j => j.twin | none => false)) 8
    else grnBreach slot size (grnAddr (getA c.a base) imm) size
  | .jumpReg a => bad ((getS c.s a).toNat % 16 != 0) 7
  | .twait _ _ v _ => bad (decide (2 ^ 48 ≤ (getS c.s v).toNat)) 6
  | .balloc _ _ cl => bad (!s.flag fPoolEn || cl == 15 || s.get (fClassCount cl) == 0) 6
  | .cfg .. => bad (sh.passes != []) 6
  | .mma acc a b kr mask =>
    let n := (maskSubs mask).length
    let kk := (getS c.s kr).toNat
    bad (mask / (modeMask sh.mode + 1) != 0 || !sh.openAll acc mask || kk == 0 || decide (65535 < kk)) 6 ++
    bad (isMx sh.fa && (kk % 32 != 0 || (maskSubs mask).any (fun m => Tbl.getD sh.passes (16 * acc + m) 0 % 32 != 0))) 6 ++
    bad ((maskSubs mask).any (fun m => decide (2 ^ 32 - 1 < Tbl.getD sh.passes (16 * acc + m) 0 + kk))) 6 ++
    grnBreach slot 64 (getA c.a a).toNat (operandSpan w n sh.fa kk) ++ grnBreach slot 64 (getA c.a b).toNat (operandSpan w n sh.fb kk)
  | .drain acc d mask =>
    bad (mask / (modeMask sh.mode + 1) != 0 || !sh.openAll acc mask) 6 ++
    grnBreach slot 64 (getA c.a d).toNat ((maskSubs mask).length * 4 * w * w)
  | .zero _ mask => bad (mask / (modeMask sh.mode + 1) != 0) 6
  | .vec op _ a b _ ty _ =>
    if op = 0x14 || op = 0x15 then grnBreach slot 64 (getA c.a a).toNat (vecBytes ty)
    else if op = 0x12 then grnBreach slot 1 (getA c.a b).toNat 1036
    else []
  | _ => []

/-- Every breach of the bundle that core k holds (R831). -/
def State.breaches (s : State) (k : Nat) (h : Held) : List (Nat × Nat) :=
  bitBreaches h.raw ++ (numbered h.ops).flatMap (fun (i, o) => s.dynBreach k i o)

/-- A fault at decode: the bundle stays unissued, and HRT_FAULT_BUNDLE and HRT_FAULT_INFO record it (R304, R615). -/
def State.decodeFault (s : State) (k : CoreId) (addr : DWord) (code slot reason : Nat) : State :=
  let info := code * 2 ^ 16 + slot * 2 ^ 10 + reason
  ((s.setReg64 (kFaultBundle k) addr).setReg (kFaultInfo k) (BitVec.ofNat 32 info)).coreFault k code .seq
    (info + addr.toNat % 2 ^ 32 * 2 ^ 32)

/-- A failed comparison of the signature: HRT_SIG_EXP records the expected value (R283). -/
def State.sigFault (s : State) (k : CoreId) (addr expect : DWord) (slot reason : Nat) : State :=
  (s.setReg64 (kSigExp k) expect).decodeFault k addr 0xA111 slot reason

/-- A register that the bundle reads awaits a pending load, or it holds an SMEM instruction while one is pending (R264, R273). [log 51: DEDUCED, unsafe] -/
def CoreSt.awaitsLoad (c : CoreSt) (h : Held) : Bool :=
  match c.load with
  | some l => h.ops.any (fun o => o.isSmem || o.reads.contains l.r)
  | none => false

/-- The held bundle. -/
def State.held (s : State) (k : Nat) : Option Held := (s.core k).bundle

/-- The held bundle becomes h. -/
def State.setHeld (s : State) (k : Nat) (h : Held) : State := s.setCore k { s.core k with bundle := some h }

/-- An instruction other than SALU that reads s- or a-registers. -/
def Op.readsFile : Op → Bool
  | .smem .. => true
  | .branch .. => true
  | .jumpReg _ => true
  | .sigchk _ => true
  | .sigset _ => true
  | .twait .. => true
  | .bfree .. => true
  | .mma .. => true
  | .drain .. => true
  | .vec op .. => op == 0x12 || op == 0x13 || op == 0x14 || op == 0x15
  | .xfer .. => true
  | _ => false

/-- What SECDED reports of the registers that the bundle's instructions other than SALU read. -/
def Held.fileEcc (h : Held) : Ecc := if h.ops.any Op.readsFile then h.ecc else .clean

/-- The checks at decode, once the registers that the bundle reads are there: an uncorrectable register is a job fault, a corrected one is counted, and
the bundle passes the checks, or its least breach is raised (R256, R257, R304, R831). [log 64: DEDUCED, unsafe] -/
def State.checkBundle (s : State) (k : CoreId) : State :=
  match s.held k with
  | some h =>
    if h.checked || (s.core k).awaitsLoad h then s
    else if h.fileEcc = .uncorrectable then s.coreFault k 0x2402 .seq
    else
      let s := if h.fileEcc = .corrected then s.bump (kSrfCe k) else s
      match leastBreach (s.breaches k h) with
      | some (r, slot) => s.decodeFault k h.addr 0x2401 slot r
      | none => s.setHeld k { h with checked := true }
  | none => s

-- ISSUE

/-- Instructions that hold their whole bundle until they have passed: the signature checks and END (R283), a TWAIT, TINC or
BARC that SEQ executes, and BALLOC (R264, R287, R289, R290, R391). -/
def Op.gates : Op → Bool
  | .sigchk _ => true
  | .sigchki _ => true
  | .endJob => true
  | .twait e .. => e == 0
  | .tinc e .. => e == 0
  | .barc m => m.testBit 0
  | .balloc .. => true
  | _ => false

/-- Instructions that go into an engine's queue at issue and leave the sequencer nothing to do. -/
def Op.leaves : Op → Bool
  | .xfer .. => false
  | .tinc e .. => e != 0
  | .twait e .. => e != 0
  | .barc m => !m.testBit 0
  | o => o.queues != []

/-- Entries in an engine's queue, 1 OPA to 4 SPEEL. -/
def CoreSt.qlen (c : CoreSt) (e : Nat) : Nat :=
  if e = 1 then c.opaQ.length else if e = 2 then c.vecQ.length else if e = 3 then c.lpeelQ.length else c.speelQ.length

/-- A blank entry of a peel's queue. -/
def PeelEnt.blank (kind : Nat) (bundle : DWord) : PeelEnt :=
  { kind, src := 0, dst := 0, len := 0, cnt1 := 0, cnt2 := 0, ss1 := 0, ss2 := 0, ds1 := 0, ds2 := 0, en := false, tally := 0,
    zf := false, loc := false, st := 0, issued := 0, bundle, since := 0, out := [], reqs := [] }

/-- Operand values that an OPA or VEC entry captures at issue, in the order of their fields (R266, R480). -/
def CoreSt.captured (c : CoreSt) : Op → List Nat
  | .twait _ _ v _ => [(getS c.s v).toNat % 2 ^ 48]
  | .mma _ a b k _ => [(getA c.a a).toNat, (getA c.a b).toNat, (getS c.s k).toNat % 2 ^ 16]
  | .drain _ d _ => [(getA c.a d).toNat]
  | .vec op _ a b _ _ _ =>
    if op = 0x12 then [(getA c.a b).toNat]
    else if op = 0x13 then [(getS c.s (a % 32)).toNat % 2 ^ 32]
    else if op = 0x14 || op = 0x15 then [(getA c.a a).toNat]
    else []
  | _ => []

/-- A TINC, TWAIT or BARC as a peel's queue holds it (R829); a TWAIT keeps its value in SRC and its TMO in LEN. -/
def CoreSt.peelEntry (c : CoreSt) (bundle : DWord) : Op → PeelEnt
  | .tinc _ t n => { PeelEnt.blank 1 bundle with en := true, tally := t, len := n }
  | .twait _ t v tmo => { PeelEnt.blank 3 bundle with tally := t, src := getS c.s v, len := tmo }
  | _ => PeelEnt.blank 2 bundle

/-- An instruction's entry goes into the queue of engine e. -/
def CoreSt.enqueue (c : CoreSt) (h : Held) (slot : Nat) (o : Op) (e : Nat) : CoreSt :=
  let q : QEnt := { bundle := h.addr, raw := bitsAt h.raw (40 * slot) 40, op := o, vals := c.captured o }
  if e = 1 then { c with opaQ := c.opaQ ++ [q] }
  else if e = 2 then { c with vecQ := c.vecQ ++ [q] }
  else
    match o with
    | .xfer .. => c
    | _ =>
      if e = 3 then { c with lpeelQ := c.lpeelQ ++ [c.peelEntry h.addr o] }
      else { c with speelQ := c.speelQ ++ [c.peelEntry h.addr o] }

/-- The shadow once an OPA instruction has issued (R833). -/
def CoreSt.shadowed (c : CoreSt) : Op → Shadow
  | .cfg m fa fb => { c.shadow with mode := m, fa := fa, fb := fb }
  | .zero acc mask => { c.shadow with passes := (maskSubs mask).foldl (fun t m => Tbl.put t (16 * acc + m) 0) c.shadow.passes }
  | .mma acc _ _ kr mask =>
    { c.shadow with passes := (maskSubs mask).foldl (fun t m => Tbl.put t (16 * acc + m) (Tbl.getD t (16 * acc + m) 0 + (getS c.s kr).toNat)) c.shadow.passes }
  | .drain acc _ mask => { c.shadow with passes := (maskSubs mask).foldl (fun t m => Tbl.drop t (16 * acc + m)) c.shadow.passes }
  | _ => c.shadow

/-- Every entry of the bundle in its queue, and the shadow. -/
def CoreSt.placeAll (c : CoreSt) (h : Held) : CoreSt :=
  (numbered h.ops).foldl (fun c' (i, o) => { o.queues.foldl (fun c'' e => c''.enqueue h i o e) c' with shadow := c'.shadowed o }) c

/-- The bundle without the slots that have nothing left to do; a bundle with none is over. -/
def State.retireBundle (s : State) (k : Nat) (h : Held) : State :=
  if h.todo.all (· == .nop) then (s.setCore k { s.core k with bundle := none }).wrapUp (kRetired k)
  else s.setHeld k h

/-- Queues that the bundle targets and that are full (R225, R264). -/
def CoreSt.fullQueues (c : CoreSt) (h : Held) : List Nat := (h.ops.flatMap Op.queues).filter (fun e => decide (32 ≤ c.qlen e))

/-- The stall counter of engine e's queue: HRT_QFULL_OPA, HRT_QFULL_VEC, PEEL_SAT (R225, R471). -/
def kStall (k e : Nat) : Nat := if e ≤ 2 then kQfull k e else kPeel k (e - 3) 0x10

/-- The held bundle stores to device memory. -/
def Held.stores (h : Held) : Bool := h.ops.any (fun o => match o with | .smem op .. => op == 1 | _ => false)

/-- A full queue that the bundle targets, or a full store buffer that it stores to, holds it (R225, R264, R274). -/
def CoreSt.blocked (c : CoreSt) (h : Held) : Bool := (h.stores && decide (16 ≤ c.sb.length)) || c.fullQueues h != []

/-- The full queues that hold the bundle count their stall, once (R225, R471). -/
def State.stall (s : State) (k : Nat) (h : Held) : State :=
  if h.stalled || (s.core k).fullQueues h == [] then s
  else (((s.core k).fullQueues h).foldl (fun s' e => s'.bump (kStall k e)) s).setHeld k { h with stalled := true }

/-- The bundle issues as a whole where nothing holds it: every operand is read, queue entries are placed, the signature folds
and the next bundle is the following one (R264 to R266, R280, R282, R284).  A full queue holds it, counted once. -/
def State.issueBundle (s : State) (k : CoreId) : State :=
  let c := s.core k
  match c.bundle with
  | some h =>
    if !h.checked || h.issued || h.todo.any Op.gates || c.awaitsLoad h || c.stopping || c.frozen then s
    else if c.blocked h then s.stall k h
    else
      let fold := !(h.ops.any (fun o => o == .endJob || o.isSigset))
      let h' := { h with issued := true, sv := c.s, av := c.a, tv := c.t, alloc := none, stalled := false, todo := h.todo.map (fun o => if o.leaves then .nop else o) }
      let c' := c.placeAll h
      let a' := match h.allocVal with
        | some (d, v) => setA c.a d v
        | none => c.a
      let c'' := { c' with a := a', sig := if fold then sigFold c.sig h.raw else c.sig, pc := h.addr + 16, ended := c.ended || h.ops.contains .endJob, bundle := some h' }
      (s.setCore k c'').retireBundle k h'
  | none => s

/-- Decode and issue as far as nothing holds them. -/
def State.advance (s : State) (k : CoreId) : State :=
  let s' := s.checkBundle k
  if (s'.core k).frozen then s' else s'.issueBundle k

/-- A fetched bundle (R262). -/
def Held.ofRaw (addr : DWord) (raw : Nat) (ecc : Ecc) : Held :=
  { addr, raw, ecc, ops := opsOf raw, todo := opsOf raw, checked := false, issued := false, sv := [], av := [], tv := [], alloc := none,
    allocVal := none, stalled := false }

/-- The sequencer may fetch its next bundle: the job has been configured and has not ended, and no bundle waits. -/
def State.fetches (s : State) (k : Nat) : Bool :=
  let c := s.core k
  s.runs k && c.loaded && c.bundle.isNone && !c.ended && !c.stopping

/-- The core with a bundle in its instruction cache, which holds 64 KiB: the newest 4,096 bundles (R231). -/
def CoreSt.cacheBundle (c : CoreSt) (pc raw : Nat) : CoreSt :=
  let l := c.icache.filter (fun x => x.1 != pc) ++ [(pc, raw)]
  { c with icache := l.drop (l.length - 4096) }

/-- A fetch that the instruction cache does not serve: a request of the job's partition for the bundle's line (R231, R471, R517). -/
def State.fetchMiss (s : State) (k : CoreId) (pc : DWord) (ecc : Ecc) : State :=
  match s.dramAsk (.fetch k) (s.jobPart k) (linesOf pc.toNat 16) with
  | (false, s) => s
  | (true, s) =>
    match s.ramRead (.core k .seq) pc.toNat 16 with
    | (_, true, s) => s.setCore k { s.core k with frozen := true }
    | (bs, false, s) => ((s.setCore k ((s.core k).cacheBundle pc.toNat (leNat bs))).setHeld k (Held.ofRaw pc (leNat bs) ecc)).advance k

/-- INSTRUCTION_FETCH (R231, R258): the next bundle comes from the instruction cache, or through it from device memory, and is decoded and issued as
far as nothing holds it.  hit says that the cache still holds a line that it has held, parity that its line has a parity error, which is
counted and refetched; ecc is the report on the registers that the bundle reads. [log 49: DEDUCED, unsafe] [log 50: DEDUCED, safe] -/
def execInstructionFetch (k : CoreId) (hit parity : Bool) (ecc : Ecc) (s : State) : Out :=
  let pc := (s.core k).pc
  if !s.fetches k then .next s
  else if !s.jobOk (s.jobPart k) pc.toNat 16 false then .next (s.jobRefused k pc.toNat)
  else
    match if hit then Tbl.find (s.core k).icache pc.toNat else none with
    | some raw =>
      if parity then .next ((s.bump (kIcachePerr k)).fetchMiss k pc ecc)
      else .next ((s.setHeld k (Held.ofRaw pc raw ecc)).advance k)
    | none => .next (s.fetchMiss k pc ecc)

-- SLOTS

/-- The first slot that still has an instruction that p picks out. -/
def Held.find (h : Held) (p : Op → Bool) : Option (Nat × Op) := (numbered h.todo).find? (fun x => p x.2)

/-- The slot is done. -/
def Held.done (h : Held) (j : Nat) : Held := { h with todo := h.todo.set j .nop }

/-- The slot is done, and so the bundle where it was the last. -/
def State.slotDone (s : State) (k : CoreId) (j : Nat) : State :=
  match s.held k with
  | some h => s.retireBundle k (h.done j)
  | none => s

/-- An instruction of an issued bundle, in the first slot that p picks out: f gives its effect, after which the slot is done
where f says so. -/
def State.slotOp (s : State) (k : CoreId) (p : Nat → Op → Bool) (f : State → Held → Op → Bool × State) : Out :=
  match s.held k with
  | some h =>
    match (numbered h.todo).find? (fun x => p x.1 x.2) with
    | some (j, o) =>
      if !s.runs k then .next s
      else
        let s' := s.advance k
        match s'.held k with
        | some h' =>
          if h'.issued && !(s'.core k).frozen then
            let r := f s' h' o
            .next (if r.1 then r.2.slotDone k j else r.2)
          else .next s'
        | none => .next s'
    | none => .next s
  | none => .next s

/-- An instruction that gates its bundle (Op.gates), in the first slot that p picks out: f gives what it does and whether it
has passed, after which the bundle issues as far as nothing else holds it. -/
def State.gateOp (s : State) (k : CoreId) (p : Op → Bool) (f : State → Held → Nat → Op → Bool × State) : Out :=
  match s.held k with
  | some h =>
    match h.find p with
    | some (j, o) =>
      if !s.runs k || h.issued then .next s
      else
        let s' := s.checkBundle k
        match s'.held k with
        | some h' =>
          if h'.checked && !(s'.core k).frozen && !(s'.core k).stopping then
            match f s' h' j o with
            | (true, s'') =>
              match s''.held k with
              | some h'' => .next ((s''.setHeld k (h''.done j)).issueBundle k)
              | none => .next s''
            | (false, s'') => .next s''
          else .next s'
        | none => .next s'
    | none => .next s
  | none => .next s

-- SALU

/-- The high 64 bits of a product of two's complement numbers. -/
def mulHigh (x y : DWord) : DWord := BitVec.ofInt 64 (x.toInt * y.toInt / 2 ^ 64)

/-- A SALU operation of op 0 to 17 on sA and its operand (R269). -/
def saluVal (op : Nat) (x y : DWord) : DWord :=
  let sh := y.toNat % 64
  let one (b : Bool) : DWord := if b then 1 else 0
  match op with
  | 0 => x + y
  | 1 => x - y
  | 2 => x &&& y
  | 3 => x ||| y
  | 4 => x ^^^ y
  | 5 => x <<< sh
  | 6 => x >>> sh
  | 7 => x.sshiftRight sh
  | 8 => x * y
  | 9 => mulHigh x y
  | 10 => BitVec.ofNat 64 (x.toNat * y.toNat / 2 ^ 64)
  | 11 => if x.toInt ≤ y.toInt then x else y
  | 12 => if x.toInt ≤ y.toInt then y else x
  | 13 => if x.toNat ≤ y.toNat then x else y
  | 14 => if x.toNat ≤ y.toNat then y else x
  | 15 => one (decide (x.toInt < y.toInt))
  | 16 => one (decide (x.toNat < y.toNat))
  | _ => one (x == y)

/-- IMM20 sign-extended to 64 bits (R269). -/
def imm20 (imm : Nat) : DWord := BitVec.ofInt 64 (sgn 20 imm)

/-- The operand of a SALU instruction: IMM20 or sB (R269). -/
def Held.operand (h : Held) (i : Bool) (b imm : Nat) : DWord := if i then imm20 imm else getS h.sv b

/-- A result in sD. -/
def State.putS (s : State) (k : CoreId) (d : Nat) (v : DWord) : State := s.setCore k { s.core k with s := setS (s.core k).s d v }

/-- A result in aD. -/
def State.putA (s : State) (k : CoreId) (d : Nat) (v : Word) : State := s.setCore k { s.core k with a := setA (s.core k).a d v }

/-- What the SECDED bits of the s- and a-registers that an instruction reads report: nothing, a corrected error, counted, or
an uncorrectable one, a job fault that leaves the result unwritten (R256, R257).  f is the instruction's effect. [log 64: DEDUCED, unsafe] -/
def State.regRead (s : State) (k : CoreId) (ecc : Ecc) (f : State → State) : Bool × State :=
  match ecc with
  | .clean => (true, f s)
  | .corrected => (true, f (s.bump (kSrfCe k)))
  | .uncorrectable => (false, s.coreFault k 0x2402 .seq)

/-- The slot j holds a SALU instruction with an OP from lo to hi. -/
def isSaluIn (j : Fin 3) (lo hi : Nat) (i : Nat) (o : Op) : Bool :=
  i == j.val && (match o with | .salu op .. => decide (lo ≤ op) && decide (op ≤ hi) | _ => false)

/-- A SALU instruction that writes sD from sA and its operand. -/
def State.saluS (s : State) (k : CoreId) (j : Fin 3) (lo hi : Nat) (ecc : Ecc) : Out :=
  s.slotOp k (isSaluIn j lo hi) (fun s h o =>
    match o with
    | .salu op i d a b imm => s.regRead k ecc (fun s => s.putS k d (saluVal op (getS h.sv a) (h.operand i b imm)))
    | _ => (false, s))

/-- SALU_ALU (R269). -/
def execSaluAlu (k : CoreId) (j : Fin 3) (ecc : Ecc) (s : State) : Out := s.saluS k j 0 4 ecc

/-- SALU_SHIFT (R269). -/
def execSaluShift (k : CoreId) (j : Fin 3) (ecc : Ecc) (s : State) : Out := s.saluS k j 5 7 ecc

/-- SALU_MUL (R269). -/
def execSaluMul (k : CoreId) (j : Fin 3) (ecc : Ecc) (s : State) : Out := s.saluS k j 8 10 ecc

/-- SALU_MINMAX (R269). -/
def execSaluMinmax (k : CoreId) (j : Fin 3) (ecc : Ecc) (s : State) : Out := s.saluS k j 11 14 ecc

/-- SALU_COMPARE (R269). -/
def execSaluCompare (k : CoreId) (j : Fin 3) (ecc : Ecc) (s : State) : Out := s.saluS k j 15 17 ecc

/-- ADDH (R269): sD gets sA + (IMM20 sign-extended << 20). -/
def execAddh (k : CoreId) (j : Fin 3) (ecc : Ecc) (s : State) : Out :=
  s.slotOp k (isSaluIn j 18 18) (fun s h o =>
    match o with
    | .salu _ _ d a _ imm => s.regRead k ecc (fun s => s.putS k d (getS h.sv a + imm20 imm <<< 20))
    | _ => (false, s))

/-- MOVA (R269): aD gets the low half of sA. -/
def execMova (k : CoreId) (j : Fin 3) (ecc : Ecc) (s : State) : Out :=
  s.slotOp k (isSaluIn j 19 19) (fun s h o =>
    match o with
    | .salu _ _ d a _ _ => s.regRead k ecc (fun s => s.putA k d ((getS h.sv a).setWidth 32))
    | _ => (false, s))

/-- MOVS (R269): sD gets aA, zero-extended. -/
def execMovs (k : CoreId) (j : Fin 3) (ecc : Ecc) (s : State) : Out :=
  s.slotOp k (isSaluIn j 20 20) (fun s h o =>
    match o with
    | .salu _ _ d a _ _ => s.regRead k ecc (fun s => s.putS k d ((getA h.av a).setWidth 64))
    | _ => (false, s))

/-- ADDA (R269): aD gets aA + IMM20. -/
def execAdda (k : CoreId) (j : Fin 3) (ecc : Ecc) (s : State) : Out :=
  s.slotOp k (isSaluIn j 21 21) (fun s h o =>
    match o with
    | .salu _ _ d a _ imm => s.regRead k ecc (fun s => s.putA k d (getA h.av a + (imm20 imm).setWidth 32))
    | _ => (false, s))

/-- LI64 (R270). -/
def execLi64 (k : CoreId) (s : State) : Out :=
  s.slotOp k (fun _ o => match o with | .li64 .. => true | _ => false) (fun s _ o =>
    match o with
    | .li64 d imm => (true, s.putS k d (BitVec.ofNat 64 imm))
    | _ => (false, s))

-- LOADS AND STORES

/-- Bytes of a load as a register value (R271). -/
def loadVal (sx : Bool) (bs : List Byte) : DWord :=
  if sx then BitVec.ofInt 64 (sgn (8 * bs.length) (leNat bs)) else BitVec.ofNat 64 (leNat bs)

/-- The SMEM instruction with OP op. -/
def isSmemOp (op : Nat) (_ : Nat) (o : Op) : Bool := match o with | .smem op' .. => op' == op | _ => false

/-- The conversation timer window (R782). -/
def inCtWindow (a : Nat) : Bool := decide (0x1000801000 ≤ a) && decide (a < 0x1000803000)

/-- The collective counter window (R782). [log 52: DEDUCED, unsafe] -/
def inCeWindow (a : Nat) : Bool := decide (0x1000800000 ≤ a) && decide (a < 0x1000800800)

/-- The bytes that the store buffer holds at the n addresses from a on, the youngest store's first (R274). -/
def CoreSt.forwarded (c : CoreSt) (a n : Nat) : List Host.Cell :=
  (List.range n).filterMap (fun i =>
    ((c.sb.filter (fun e => e.line == (a + i) / 64)).foldl (fun r e => match Tbl.find e.bytes ((a + i) % 64) with | some b => some b | none => r) none).map
      (fun b => (a + i, b)))

/-- LD (R273, R274): issues once its request is admitted, taking the store buffer's bytes and a Request Tag Table entry; the data returns
later. -/
def execLd (k : CoreId) (s : State) : Out :=
  s.slotOp k (isSmemOp 0) (fun s h o =>
    match o with
    | .smem _ size sx r base imm =>
      let a := smemAddr (getS h.sv base) imm
      let c := s.core k
      if !(s.jobOk (s.jobPart k) a size false || inCtWindow a) then (false, s.jobRefused k a)
      else
        match s.dramAsk (.load k) (s.jobPart k) (if inDram a then linesOf a size else 0) with
        | (false, s) => (false, s)
        | (true, s) => (true, s.setCore k { c with load := some { r := r, addr := a, size := size, sx := sx, fwd := c.forwarded a size } })
    | _ => (false, s))

/-- LD_RETURN (R273): the data writes sR, and bundles that wait for it go on; poisoned data faults instead (R305). -/
def execLdReturn (k : CoreId) (s : State) : Out :=
  let c := s.core k
  match c.load with
  | some l =>
    if !s.runs k then .next s
    else
      let byte (i : Nat) : Byte := (Tbl.find l.fwd (l.addr + i)).getD (if inDram l.addr then s.ramByte (l.addr + i) else 0)
      let done (s : State) (c : CoreSt) : State := s.setCore k { c with load := none }
      if inDram l.addr && l.fwd.length < l.size && s.ramBad l.addr then
        .next ((done s { c with frozen := true }).dramUncorrectable (.core k .seq) l.addr)
      else .next ((done s { c with s := setS c.s l.r (loadVal l.sx ((List.range l.size).map byte)) }).advance k)
  | none => .next s

/-- The store buffer with an ST's bytes: merged into the youngest entry if it is of the same line, else in a new entry (R424). [log 53: DEDUCED, unsafe] -/
def sbPut (sb : List SbEnt) (a : Nat) (bs : List Byte) : List SbEnt :=
  match sb.reverse with
  | e :: rest => if e.line = a / 64 then (({ e with bytes := putBytes e.bytes (a % 64) bs } : SbEnt) :: rest).reverse
    else sb ++ [{ line := a / 64, bytes := putBytes [] (a % 64) bs }]
  | [] => [{ line := a / 64, bytes := putBytes [] (a % 64) bs }]

/-- QM_CT_PART[p] (16, Registers). -/
def fCtEn (p : Nat) : Fld := ⟨0x24200 + 4 * p, 31, 1⟩
def fCtFirst (p : Nat) : Fld := ⟨0x24200 + 4 * p, 16, 10⟩
def fCtCount (p : Nat) : Fld := ⟨0x24200 + 4 * p, 0, 11⟩

/-- Partition p owns a conversation slot (R596). -/
def State.ownsSlot (s : State) (p slot : Nat) : Bool :=
  s.flag (fCtEn p) && decide (s.get (fCtFirst p) ≤ slot) && decide (slot < s.get (fCtFirst p) + s.get (fCtCount p))

/-- An aligned 8-byte write by a job of partition p reaches the conversation timer window at its own slot (R596). -/
def State.ctOk (s : State) (p a n : Nat) : Bool :=
  inCtWindow a && n == 8 && a % 8 == 0 && s.ownsSlot p ((a - 0x1000801000) / 8)

/-- ST (R274, R305): its bytes enter the store buffer, or the access is refused. -/
def execSt (k : CoreId) (s : State) : Out :=
  s.slotOp k (isSmemOp 1) (fun s h o =>
    match o with
    | .smem _ size _ r base imm =>
      let a := smemAddr (getS h.sv base) imm
      let c := s.core k
      if !(s.jobOk (s.jobPart k) a size true || s.ctOk (s.jobPart k) a size) then (false, s.jobRefused k a)
      else (true, s.setCore k { c with sb := sbPut c.sb a (leBytes size (getS h.sv r).toNat) })
    | _ => (false, s))

/-- One masked write of a line to DRAM by a core's sequencer (R424, R821). -/
def State.lineWrite (s : State) (k : CoreId) (e : SbEnt) : State :=
  let a := 64 * e.line
  if e.bytes.length = 64 then s.ramWrite (.core k .seq) a (e.bytes.map (·.2))
  else if s.ramBad a then (s.dramUncorrectable (.core k .seq) a).setCore k { s.core k with frozen := true }
  else { s with dram := e.bytes.foldl (fun m x => Tbl.put m (a + x.1) x.2) s.dram }

/-- The words of a line that an entry covers whole, as writes to the conversation timer window (R596). -/
def State.windowWords (s : State) (k : CoreId) (e : SbEnt) : List WinWrite :=
  (List.range 8).filterMap (fun w =>
    let bs := (List.range 8).filterMap (fun i => Tbl.find e.bytes (8 * w + i))
    if bs.length = 8 then some { core := k.val, part := s.jobPart k, addr := 64 * e.line + 8 * w, data := bs } else none)

/-- The oldest entry of the store buffer drains: one write of its line with a byte mask, once the request is admitted (R424, R517, R520). -/
def State.drainOldest (s : State) (k : CoreId) : State :=
  match (s.core k).sb with
  | e :: rest =>
    if inCtWindow (64 * e.line) then { s.setCore k { s.core k with sb := rest } with ctWrites := s.ctWrites ++ s.windowWords k e }
    else
      match s.dramAsk (.store k) (s.jobPart k) 1 with
      | (true, s) => (s.setCore k { s.core k with sb := rest }).lineWrite k e
      | (false, s) => s
  | [] => s

/-- STORE_BUFFER_DRAIN (R425). -/
def execStoreBufferDrain (k : CoreId) (s : State) : Out := if s.runs k then .next (s.drainOldest k) else .next s

/-- No write of core k waits on its way to the collective counter window or the conversation timer window (R416, R429). -/
def State.windowsDone (s : State) (k : Nat) : Bool := (s.ceWrites ++ s.ctWrites).all (fun w => w.core != k)

/-- GLD (R271, R273): loads from the Granary after the page check. -/
def execGld (k : CoreId) (errs : GrnErrs) (s : State) : Out :=
  s.slotOp k (isSmemOp 2) (fun s h o =>
    match o with
    | .smem _ size sx r base imm =>
      match s.grnRead k 0 (grnAddr (getA h.av base) imm) size errs with
      | (some bs, s) => (true, s.putS k r (loadVal sx bs))
      | (none, s) => (false, s)
    | _ => (false, s))

/-- GST (R271, R275, R377): stores to the Granary after the page check; bad lists the words whose stored value is uncorrectable. -/
def execGst (k : CoreId) (bad : List Nat) (s : State) : Out :=
  s.slotOp k (isSmemOp 3) (fun s h o =>
    match o with
    | .smem _ size _ r base imm => s.grnStore k 0 (grnAddr (getA h.av base) imm) (leBytes size (getS h.sv r).toNat) bad
    | _ => (false, s))

-- TRANSFERS AND SIGNATURE

/-- The bundle at a signed offset in bundles from addr (R277). -/
def bundleAt (addr : DWord) (w off : Nat) : DWord := BitVec.ofInt 64 ((addr.toNat : Int) + 16 * sgn w off)

/-- A taken transfer (R278). -/
def State.goTo (s : State) (k : CoreId) (pc : DWord) : State := (s.setCore k { s.core k with pc := pc }).bump (kTaken k)

/-- The condition of a branch (R277). -/
def branchTaken (cond : Nat) (x y : DWord) : Bool :=
  match cond with
  | 0 => x == y
  | 1 => x != y
  | 2 => decide (x.toInt < y.toInt)
  | 3 => decide (y.toInt ≤ x.toInt)
  | 4 => decide (x.toNat < y.toNat)
  | _ => decide (y.toNat ≤ x.toNat)

/-- BRANCH (R277). -/
def execBranch (k : CoreId) (s : State) : Out :=
  s.slotOp k (fun _ o => match o with | .branch .. => true | _ => false) (fun s h o =>
    match o with
    | .branch cond a b off =>
      (true, if branchTaken cond (getS h.sv a) (getS h.sv b) then s.goTo k (bundleAt h.addr 22 off) else s)
    | _ => (false, s))

/-- J (R277). -/
def execJ (k : CoreId) (s : State) : Out :=
  s.slotOp k (fun _ o => match o with | .jump _ => true | _ => false) (fun s h o =>
    match o with
    | .jump off => (true, s.goTo k (bundleAt h.addr 32 off))
    | _ => (false, s))

/-- JR (R277). -/
def execJr (k : CoreId) (s : State) : Out :=
  s.slotOp k (fun _ o => match o with | .jumpReg _ => true | _ => false) (fun s h o =>
    match o with
    | .jumpReg a => (true, s.goTo k (getS h.sv a))
    | _ => (false, s))

/-- JAL (R277): sD gets the address of the following bundle. -/
def execJal (k : CoreId) (s : State) : Out :=
  s.slotOp k (fun _ o => match o with | .jal .. => true | _ => false) (fun s h o =>
    match o with
    | .jal d off => (true, (s.putS k d (h.addr + 16)).goTo k (bundleAt h.addr 27 off))
    | _ => (false, s))

/-- SIGCHK (R283): compares S, before its own bundle is folded, with sA. -/
def execSigchk (k : CoreId) (s : State) : Out :=
  s.gateOp k (fun o => match o with | .sigchk _ => true | _ => false) (fun s h j o =>
    match o with
    | .sigchk a =>
      let x := getS (s.core k).s a
      if (s.core k).sig = x then (true, s) else (false, s.sigFault k h.addr x j 9)
    | _ => (false, s))

/-- SIGCHKI (R283, R285): compares S with a 64-bit immediate. -/
def execSigchki (k : CoreId) (s : State) : Out :=
  s.gateOp k (fun o => match o with | .sigchki _ => true | _ => false) (fun s h j o =>
    match o with
    | .sigchki v =>
      if (s.core k).sig = BitVec.ofNat 64 v then (true, s) else (false, s.sigFault k h.addr (BitVec.ofNat 64 v) j 9)
    | _ => (false, s))

/-- SIGSET (R284): S gets sA; the bundle is not folded. -/
def execSigset (k : CoreId) (s : State) : Out :=
  s.slotOp k (fun _ o => o.isSigset) (fun s h o =>
    match o with
    | .sigset a => (true, s.setCore k { s.core k with sig := getS h.sv a })
    | _ => (false, s))

/-- END (R235, R283): on a match with SIG_END the bundle issues and the sequencer issues no other; a mismatch raises 0xA111.
A signature check of the same bundle comes first (R831). -/
def execEndJob (k : CoreId) (s : State) : Out :=
  s.gateOp k (· == .endJob) (fun s h j _ =>
    match (s.core k).job with
    | some job =>
      if h.todo.any Op.isSigchk then (false, s)
      else if (s.core k).sig = job.sigEnd then (true, s)
      else (false, s.sigFault k h.addr job.sigEnd j 10)
    | none => (false, s))

-- TALLIES AND BUFFERS EXECUTED BY SEQ

/-- TGET (R286, R436): sD gets the tally as it stood when the bundle issued; a parity error of the tally is a job fault (R256, R830). -/
def execTget (k : CoreId) (parity : Bool) (s : State) : Out :=
  s.slotOp k (fun _ o => match o with | .tget .. => true | _ => false) (fun s h o =>
    match o with
    | .tget t d => if parity then (false, s.coreFault k 0x2402 .seq) else (true, s.putS k d (BitVec.ofNat 64 (h.tv.getD t 0)))
    | _ => (false, s))

/-- What else gates the bundle, but for a TINC of SEQ, which comes last (R287). -/
def Held.othersPassed (h : Held) (j : Nat) : Bool := (numbered h.todo).all (fun (i, o) => i == j || !o.gates || (match o with | .tinc .. => true | _ => false))

/-- A parity error of a page tag or an owner record that an instruction reads (R405). -/
def State.poolParity (s : State) (k : CoreId) : State := s.coreFault k 0x3202 .pool

/-- BALLOC (R389 to R392, R405): chooses a buffer and starts its zero fill, or answers 0xFFFF_FFFF and completes at once; parity says that an owner
record it reads has a parity error. -/
def execBalloc (k : CoreId) (parity : Bool) (s : State) : Out :=
  s.gateOp k (fun o => match o with | .balloc .. => true | _ => false) (fun s h j o =>
    match o with
    | .balloc d _ c =>
      if h.alloc.isSome || !h.othersPassed j then (false, s)
      else if parity then (false, s.poolParity k)
      else
        match s.chooseBuf k (s.jobPart k) c with
        | some i => (false, s.setHeld k { h with alloc := some (i, false) })
        | none => (true, (s.setHeld k { h with allocVal := some (d, 0xFFFFFFFF) }).bump (kGrn k 0xC))
    | _ => (false, s))

/-- BALLOC_FILL_COMPLETE (R391): the buffer is zero and HELD, its tags are set, and aD gets its base offset. -/
def execBallocFillComplete (k : CoreId) (s : State) : Out :=
  s.gateOp k (fun o => match o with | .balloc .. => true | _ => false) (fun s h _ o =>
    match o, h.alloc, (s.core k).job with
    | .balloc d e _, some (i, false), some job =>
      (true, (s.fillDone k i { held := true, part := job.part, eng := e, dt := job.dt }).setHeld k { h with alloc := some (i, true), allocVal := some (d, BitVec.ofNat 32 (s.bufOffset i)) })
    | _, _, _ => (false, s))

/-- The partition is strict (R396). -/
def State.strict (s : State) (p : Nat) : Bool := p == s.perc || s.flag ⟨0x50100, 8 + p, 1⟩

/-- The job on core k completes with error status and this code (R398, R599); its first such event stands. [log 63: DEDUCED, unsafe] -/
def State.jobError (s : State) (k code : Nat) : State :=
  let c := s.core k
  match c.job with
  | some j => if j.err = 0 then s.setCore k { c with job := some { j with err := code } } else s
  | none => s

/-- An ownership event: counted, logged while the log has room, and a job fault in a strict partition, an error completion
in any other (OWNERSHIP_EVENT; R395 to R398). -/
def State.ownershipEvent (s : State) (k : CoreId) (reason e : Nat) (buf : Option (Nat × Nat)) : State :=
  let dt := match (s.core k).job with
    | some j => j.dt
    | none => 0
  let p := s.jobPart k
  let ctx := reason * 2 ^ 28 + p * 2 ^ 25 + k.val * 2 ^ 21 + e * 2 ^ 18 + dt * 2 ^ 8
  let bw := match buf with
    | some (c, i) =>
      let r := (s.core k).grn.recOf i
      c * 2 ^ 28 + i * 2 ^ 18 + r.part * 2 ^ 15 + r.eng * 2 ^ 12 + b2n r.held * 2 ^ 11
    | none => 0xF * 2 ^ 28 + 0x3FF * 2 ^ 18
  let n := s.get fOwnValid
  let s := s.bump kOwnCount
  let s :=
    if n < 16 then
      (((s.setReg (0x50200 + 16 * n) (BitVec.ofNat 32 ctx)).setReg (0x50204 + 16 * n) (BitVec.ofNat 32 bw)).setReg64 (0x50208 + 16 * n) s.tb.ns).put fOwnValid (n + 1)
    else s.bump kOwnLost
  if s.strict p then s.coreFault k 0x3301 .seq else s.jobError k 0x3301

/-- BFREE (R393 to R395, R405); parity says that the owner record it reads has a parity error. -/
def execBfree (k : CoreId) (parity : Bool) (s : State) : Out :=
  s.slotOp k (fun _ o => match o with | .bfree .. => true | _ => false) (fun s h o =>
    match o, (s.core k).job with
    | .bfree a e, some job =>
      if parity then (false, s.poolParity k) else
      match s.bufAtBase (getA h.av a).toNat with
      | none => (true, s.ownershipEvent k 3 e none)
      | some (c, i) =>
        let g := (s.core k).grn
        let r := g.recOf i
        if c = 15 then (true, s.ownershipEvent k 4 e (some (c, i)))
        else if !r.held then (true, s.ownershipEvent k 1 e (some (c, i)))
        else if r.part != job.part || r.eng != e || r.dt != job.dt then (true, s.ownershipEvent k 2 e (some (c, i)))
        else (true, s.setGrn k { g.setRec i { r with held := false } with tagged := g.tagged ++ [i] })
    | _, _ => (false, s))

/-- BFREE_TAGS_FREE (R394): the page tags of the buffer freed first become FREE. -/
def execBfreeTagsFree (k : CoreId) (s : State) : Out :=
  let g := (s.core k).grn
  match g.tagged with
  | _ :: rest => if s.paused k then .next s else .next (s.setGrn k { g with tagged := rest })
  | [] => .next s

end Sys2Proof.Machine
end

