-- ==== Sys2Proof/Machine/Array.lean ====
section
/-! DEFINITION. The outer-product array: steps, passes, drains and the check lanes (08_outer_product_array.md). -/

namespace Sys2Proof.Machine

-- FP32 ARITHMETIC

/-- The exact value of an FP32 register. -/
def f32 (w : Word) : XVal := fp32.decode w.toNat

/-- An exact value rounded to FP32 (R343). -/
def rnd32 (x : XVal) : Word := BitVec.ofNat 32 (fp32.round x)

/-- up(): a value rounded toward plus infinity to FP32 (R315). -/
def up32 (x : XVal) : Word :=
  match x with
  | .num false m e =>
    let q : Int := max ((Nat.log2 m : Int) + e - 23) (-149)
    let n := if q ≤ e then m * 2 ^ (e - q).toNat else (m + 2 ^ (q - e).toNat - 1) / 2 ^ (q - e).toNat
    let c := if m = 0 then 0 else n + (q + 149).toNat * 2 ^ 23
    BitVec.ofNat 32 (if fp32.maxCode < c then 0x7F800000 else c)
  | .num true m e =>
    let n := if -149 ≤ e then m * 2 ^ (e + 149).toNat else m / 2 ^ (-149 - e).toNat
    let k := if n < 2 ^ 24 then 0 else Nat.log2 n - 23
    BitVec.ofNat 32 (2 ^ 31 + fp32.encodeMag (n / 2 ^ k * 2 ^ k) (-149))
  | y => rnd32 y

/-- Neighbours combined, once. -/
def treeLevel {α : Type} (f : α → α → α) : List α → List α
  | a :: b :: r => f a b :: treeLevel f r
  | r => r

/-- The fixed pairwise tree of R300 over 2^n values: n levels. -/
def treeFold {α : Type} (f : α → α → α) (zero : α) : Nat → List α → α
  | 0, l => l.headD zero
  | n + 1, l => treeFold f zero n (treeLevel f l)

/-- Levels of the tree over w values. -/
def levels (w : Nat) : Nat := Nat.log2 w

/-- FP32 addition with one rounding. -/
def fadd (x y : Word) : Word := rnd32 ((f32 x).add (f32 y))

/-- Addition rounded up. -/
def faddUp (x y : Word) : Word := up32 ((f32 x).add (f32 y))

/-- The pairwise sum over 2^n exact values, each addition rounded once by r (R315, R343). -/
def treeSum (r : XVal → Word) (n : Nat) (l : List XVal) : XVal := treeFold (fun x y => f32 (r (x.add y))) (.num false 0 0) n l

-- OPERANDS

/-- Element e of a record (R310). -/
def elemAt (rec : Nat) (w e : Nat) : Nat := bitsAt rec (w * e) w

/-- The integer that an element of an integer-class format stands for (R315, R347). -/
def intElem (f v : Nat) : Int := if f = 1 || f = 3 then (v : Int) else sgn (fmtWidth f) v

/-- The exact value of an element of a floating-class format, its MX scale byte applied (R348 to R351). -/
def fltElem (f v scale : Nat) : XVal :=
  let x : XVal :=
    if f = 6 || f = 11 then e4m3.decode v else if f = 7 then e5m2.decode v else if f = 8 then fp16.decode v
    else if f = 9 then bf16.decode v else if f = 10 then fp32.decode v else if f = 12 then e3m2.decode v
    else if f = 13 then e2m1.decode v else mxint8Decode v
  if isMx f then (if scale = 255 then .nan else x.scale ((scale : Int) - 127)) else x

/-- The offset of step t's record, and of its block's scale record, from the operand's base (R311, R312). -/
def recordAt (w n f t : Nat) : Nat × Nat :=
  if isMx f then
    let g := t / 32 * (32 * recordLen w n f + scaleLen w n)
    (g + t % 32 * recordLen w n f, g + 32 * recordLen w n f)
  else (t * recordLen w n f, 0)

/-- The w elements of the i-th named sub-array of an operand at step t, as exact values. -/
def State.fltVector (s : State) (k base w n f t i : Nat) : List XVal :=
  let at_ := recordAt w n f t
  let rec_ := leNat (s.grnBytes k (base + at_.1) (recordLen w n f))
  (List.range w).map (fun j =>
    let e := i * w + j
    fltElem f (elemAt rec_ (fmtWidth f) e) (if isMx f then (Tbl.getD (s.core k).grn.bytes (base + at_.2 + e) 0).toNat else 0))

/-- The same as integers. -/
def State.intVector (s : State) (k base w n f t i : Nat) : List Int :=
  let rec_ := leNat (s.grnBytes k (base + (recordAt w n f t).1) (recordLen w n f))
  (List.range w).map (fun j => intElem f (elemAt rec_ (fmtWidth f) (i * w + j)))

/-- The table of f over the rows and columns of a tile, row-major. -/
def tileMap {α β : Type} (f : α → β → Word → Word) (a : List α) (b : List β) (tile : List Word) : List Word :=
  ((a.flatMap (fun x => b.map (fun y => (x, y)))).zip tile).map (fun z => f z.1.1 z.1.2 z.2)

-- STEPS

/-- One integer step of a sub-array (R315). -/
def AccSt.intStep (x : AccSt) (a b : List Int) : AccSt :=
  let sa := a.foldl (· + ·) 0
  let sb := b.foldl (· + ·) 0
  { x with k := x.k + 1,
           tile := tileMap (fun p q acc => BitVec.ofInt 32 ((acc.toNat : Int) + p * q)) a b x.tile,
           cr := (b.zip x.cr).map (fun z => BitVec.ofInt 32 ((z.2.toNat : Int) + sa * z.1)),
           cc := (a.zip x.cc).map (fun z => BitVec.ofInt 32 ((z.2.toNat : Int) + z.1 * sb)) }

/-- The floating check lanes of one step (R315). -/
def AccSt.checkStep (x : AccSt) (a b : List XVal) : AccSt :=
  let l := levels a.length
  let sum (v : List XVal) : XVal := treeSum rnd32 l v
  let mag (v : List XVal) : XVal := treeSum up32 l (v.map XVal.abs)
  let sa := sum a
  let sb := sum b
  let ma := mag a
  let mb := mag b
  let acc (c : Word) (p : XVal) : Word := fadd c (rnd32 p)
  let accUp (c : Word) (p : XVal) : Word := faddUp c (up32 p)
  { x with cr := (b.zip x.cr).map (fun z => acc z.2 (sa.mul z.1)), cc := (a.zip x.cc).map (fun z => acc z.2 (z.1.mul sb)),
           mr := (b.zip x.mr).map (fun z => accUp z.2 (ma.mul z.1.abs)), mc := (a.zip x.mc).map (fun z => accUp z.2 (z.1.abs.mul mb)) }

/-- One floating step of a sub-array, other than MX (R315). -/
def AccSt.fltStep (x : AccSt) (a b : List XVal) : AccSt :=
  { x.checkStep a b with k := x.k + 1, tile := tileMap (fun p q acc => fadd acc (rnd32 (p.mul q))) a b x.tile }

/-- The exact sum over an MX block of the products of a row's and a column's elements (R315, R834). -/
def blockSum (p q : List XVal) : XVal :=
  match (p.zip q).map (fun z => z.1.mul z.2) with
  | [] => .num false 0 0
  | y :: ys => ys.foldl XVal.add y

/-- One MX step of a sub-array: the check lanes at every step, the accumulator at the last step of the block, from the
block's 32 column and row vectors (R315). [log 57: DEDUCED, unsafe] -/
def AccSt.mxStep (x : AccSt) (a b : List XVal) (last : Bool) (as bs : List (List XVal)) : AccSt :=
  let y := { x.checkStep a b with k := x.k + 1 }
  if last then
    let w := a.length
    let row (i : Nat) : List XVal := as.map (fun v => v.getD i .nan)
    let col (j : Nat) : List XVal := bs.map (fun v => v.getD j .nan)
    { y with tile := tileMap (fun p q acc => rnd32 ((f32 acc).add (blockSum p q))) ((List.range w).map row) ((List.range w).map col) x.tile }
  else y

/-- A pass that has just opened (R318). -/
def AccSt.zero (w : Nat) : AccSt :=
  { k := 0, tile := List.replicate (w * w) 0, cr := List.replicate w 0, cc := List.replicate w 0, mr := List.replicate w 0, mc := List.replicate w 0 }

/-- The integer class is in force. -/
def CoreSt.integer (c : CoreSt) : Bool := fmtClass c.fa == some true

/-- The i-th named sub-array m after step t of an MMA into accumulator acc. -/
def State.stepSub (s : State) (k acc aBase bBase n t : Nat) (i m : Nat) : AccSt :=
  let c := s.core k
  let w := modeWidth c.mode
  let x := Tbl.getD c.accs (16 * acc + m) (AccSt.zero w)
  if c.integer then x.intStep (s.intVector k aBase w n c.fa t i) (s.intVector k bBase w n c.fb t i)
  else
    let va (t' : Nat) := s.fltVector k aBase w n c.fa t' i
    let vb (t' : Nat) := s.fltVector k bBase w n c.fb t' i
    if isMx c.fa then
      let g := t / 32 * 32
      x.mxStep (va t) (vb t) (t % 32 == 31) ((List.range 32).map (fun j => va (g + j))) ((List.range 32).map (fun j => vb (g + j)))
    else x.fltStep (va t) (vb t)

/-- A register of a tile with bits flipped by an upset. -/
def AccSt.upset (x : AccSt) (cell : Nat) (mask : Word) : AccSt := { x with tile := x.tile.set cell (x.tile.getD cell 0 ^^^ mask) }

-- THE ENGINE'S QUEUE

/-- The instruction at the head of OPA's queue, while the core runs. -/
def State.opaHead (s : State) (k : Nat) : Option QEnt := if s.starts k then (s.core k).opaQ.head? else none

/-- The head of OPA's queue retires (R230). -/
def CoreSt.opaPop (c : CoreSt) : CoreSt :=
  match c.opaQ with
  | q :: rest => { c with opaQ := rest, lastPc := c.lastPc.set 0 q.bundle }
  | [] => c

/-- OPA_CFG (R292, R308): sets the packing mode and the operand formats. -/
def execOpaCfg (k : CoreId) (s : State) : Out :=
  match s.opaHead k with
  | some q =>
    match q.op with
    | .cfg mode fa fb => .next (s.setCore k { (s.core k).opaPop with mode := mode, fa := fa, fb := fb })
    | _ => .next s
  | none => .next s

/-- OPA_ZERO (R318): opens a pass on each named sub-array, its tile and check lanes zero. -/
def execOpaZero (k : CoreId) (s : State) : Out :=
  match s.opaHead k with
  | some q =>
    match q.op with
    | .zero acc mask =>
      let c := (s.core k).opaPop
      .next (s.setCore k { c with accs := (maskSubs mask).foldl (fun t m => Tbl.put t (16 * acc + m) (AccSt.zero (modeWidth c.mode))) c.accs })
    | _ => .next s
  | none => .next s

/-- MMA (R292): the array begins its sK steps. -/
def execMma (k : CoreId) (s : State) : Out :=
  match s.opaHead k with
  | some q =>
    match q.op, (s.core k).mmaDone with
    | .mma .., none => .next (s.setCore k { s.core k with mmaDone := some 0 })
    | _, _ => .next s
  | none => .next s

/-- A Granary read that only has to succeed. -/
def State.grnTouch (s : State) (k : CoreId) (e a n : Nat) (errs : GrnErrs) : Bool × State :=
  match s.grnRead k e a n errs with
  | (some _, s) => (true, s)
  | (none, s) => (false, s)

/-- The records of step t are read, each through the page check and its SECDED bits. -/
def State.readRecords (s : State) (k : CoreId) (aBase bBase n t : Nat) (errs : GrnErrs) : Bool × State :=
  let c := s.core k
  let w := modeWidth c.mode
  let one (f base : Nat) : List (Nat × Nat) :=
    (base + (recordAt w n f t).1, recordLen w n f) :: (if isMx f then [(base + (recordAt w n f t).2, scaleLen w n)] else [])
  (one c.fa aBase ++ one c.fb bBase).foldl (fun r x => if r.1 then r.2.grnTouch k 1 x.1 x.2 errs else r) (true, s)

/-- OPA_STEPS counts n steps, wrapping. -/
def State.opaSteps (s : State) (k n : Nat) : State := s.setReg64 (kCore k 0xC10) (s.reg64 (kCore k 0xC10) + BitVec.ofNat 64 n)

/-- ARRAY_STEP (R315): one step of the MMA in progress, once its records have come and the DRAIN before it has written its last byte (R423).  errs is
what the Granary reports, parity an operand parity error (R330), and flip an upset in a register of the accumulator: sub-array, cell and
bits. [log 151: DEDUCED, safe] -/
def execArrayStep (k : CoreId) (errs : GrnErrs) (parity : Bool) (flip : Option (Nat × Nat × Word)) (s : State) : Out :=
  match s.opaHead k with
  | some q =>
    match q.op, (s.core k).mmaDone, q.vals with
    | .mma acc _ _ _ mask, some t, [aB, bB, n] =>
      if (s.core k).drain.isSome then .next s
      else if parity then .next ((s.bump (kCore k 0xC4C)).coreFault k 0x2103 .opa)
      else
        let subs := maskSubs mask
        match s.readRecords k aB bB subs.length t errs with
        | (false, s') => .next s'
        | (true, s) =>
          let c := s.core k
          let accs := (numbered subs).foldl (fun r (i, m) => Tbl.put r (16 * acc + m) (s.stepSub k acc aB bB subs.length t i m)) c.accs
          let accs := match flip with
            | some (m, cell, x) => (match Tbl.find accs (16 * acc + m) with
              | some st => Tbl.put accs (16 * acc + m) (st.upset cell x)
              | none => accs)
            | none => accs
          let c := if t + 1 = n then { c.opaPop with mmaDone := none } else { c with mmaDone := some (t + 1) }
          .next ((s.setCore k { c with accs := accs }).opaSteps k subs.length)
    | _, _, _ => .next s
  | none => .next s

-- DRAINS

/-- DRAIN (R320): the tiles and check lanes of the named sub-arrays move to the drain buffer, and their passes close; it waits
for the drain before it. -/
def execDrain (k : CoreId) (s : State) : Out :=
  match s.opaHead k with
  | some q =>
    let c := s.core k
    match q.op, c.drain, q.vals with
    | .drain acc _ mask, none, [d] =>
      let w := modeWidth c.mode
      let subs := (maskSubs mask).map (fun m => (m, Tbl.getD c.accs (16 * acc + m) (AccSt.zero w)))
      .next (s.setCore k { c with
        opaQ := c.opaQ.drop 1,
        accs := (maskSubs mask).foldl (fun t m => Tbl.drop t (16 * acc + m)) c.accs,
        drain := some { bundle := q.bundle, acc := acc, w := w, floating := !c.integer, dest := d, subs := subs, passed := false, written := 0 } })
    | _, _, _ => .next s
  | none => .next s

/-- Column j and row i of a tile. -/
def AccSt.column (x : AccSt) (w j : Nat) : List Word := (List.range w).map (fun i => x.tile.getD (w * i + j) 0)
def AccSt.row (x : AccSt) (w i : Nat) : List Word := (x.tile.drop (w * i)).take w

/-- An FP32 value is finite. -/
def finite32 (v : Word) : Bool := v.toNat / 2 ^ 23 % 256 != 255

/-- The tolerance of a floating comparison, each operation rounded up (R327). -/
def tolerance (w k : Nat) (m : Word) : Word :=
  let n (i : Nat) : XVal := XVal.ofInt i
  let u (x : XVal) : XVal := f32 (up32 x)
  let factor := u ((u ((u (n (3 * k))).add (u (n (2 * levels w))))).add (n 4))
  let unit := u ((u ((f32 m).scale (-23))).add (u (.num false w (-149))))
  up32 (factor.mul unit)

/-- A comparison of a drain: row or column, its index, the sum, the check value and the tolerance; skipped where a value is
not finite (R325, R327, R328). -/
structure Comparison where
  row : Bool
  index : Nat
  sum : Word
  check : Word
  tol : Word
  skipped : Bool
  ok : Bool
  deriving DecidableEq, Repr

/-- The comparison of a sum with its check value. -/
def compareSum (floating : Bool) (w k : Nat) (row : Bool) (index : Nat) (line : List Word) (check mag : Word) : Comparison :=
  if floating then
    let sum := treeFold fadd 0 (levels w) line
    let tol := tolerance w k mag
    let skip := !(finite32 sum && finite32 check && finite32 mag)
    let diff := ((f32 sum).add (f32 check).neg).abs
    { row, index, sum, check, tol, skipped := skip, ok := skip || !(f32 tol).lt diff }
  else
    let sum := line.foldl (· + ·) 0
    { row, index, sum, check, tol := 0, skipped := false, ok := sum == check }

/-- Every comparison of a sub-array: columns ascending, then rows ascending (R341). -/
def AccSt.comparisons (x : AccSt) (floating : Bool) (w : Nat) : List Comparison :=
  (List.range w).map (fun j => compareSum floating w x.k false j (x.column w j) (x.cr.getD j 0) (x.mr.getD j 0)) ++
  (List.range w).map (fun i => compareSum floating w x.k true i (x.row w i) (x.cc.getD i 0) (x.mc.getD i 0))

/-- A failed check: OPA_FAIL_ records its first failing comparison, and 0x2101 goes to the Reeve (R296, R340, R341). -/
def State.checkFault (s : State) (k : CoreId) (acc m steps : Nat) (save floating : Bool) (c : Comparison) : State :=
  let info := b2n c.row * 2 ^ 31 + acc * 2 ^ 29 + m * 2 ^ 25 + c.index * 2 ^ 18 + b2n save * 2 ^ 17 + b2n floating * 2 ^ 16
  let s := (((s.setReg (kCore k 0xC30) (BitVec.ofNat 32 info)).setReg (kCore k 0xC34) c.sum).setReg (kCore k 0xC38) c.check)
  let s := ((s.setReg (kCore k 0xC3C) (if floating then c.tol else 0)).setReg (kCore k 0xC40) (BitVec.ofNat 32 steps)).bump (kCore k 0xC24)
  s.coreFault k 0x2101 .opa (info + steps % 2 ^ 32 * 2 ^ 32)

/-- The first failing comparison over sub-arrays, ascending, with its sub-array and step count (R341). -/
def firstFail (floating : Bool) (w : Nat) (subs : List (Nat × AccSt)) : Option (Nat × Nat × Comparison) :=
  (subs.flatMap (fun x => (x.2.comparisons floating w).map (fun c => (x.1, x.2.k, c)))).find? (fun z => !z.2.2.ok)

/-- Comparisons skipped (R328). -/
def skips (floating : Bool) (w : Nat) (subs : List (Nat × AccSt)) : Nat :=
  ((subs.flatMap (fun x => x.2.comparisons floating w)).filter (·.skipped)).length

/-- Tiles that hold a non-finite element (R328). -/
def nonfinite (subs : List (Nat × AccSt)) : Nat := (subs.filter (fun x => x.2.tile.any (fun v => !finite32 v))).length

/-- OPA_CTRL.NF_FAULT for a partition (R328). -/
def fNfFault (p : Nat) : Fld := ⟨0x50040, p, 1⟩

/-- The tile bytes of a drain (R322). -/
def DrainBuf.bytes (d : DrainBuf) : List Byte := d.subs.flatMap (fun x => x.2.tile.flatMap (fun v => leBytes 4 v.toNat))

/-- The drain unit checks the sums of a drain that has not passed yet (R321, R328): true where the tiles may be written. -/
def State.drainCheck (s : State) (k : CoreId) (d : DrainBuf) : Bool × State :=
  let s := s.bumpBy (kCore k 0xC28) (skips d.floating d.w d.subs)
  match firstFail d.floating d.w d.subs with
  | some (m, steps, cmp) => (false, s.checkFault k d.acc m steps false d.floating cmp)
  | none =>
    let nf := if d.floating then nonfinite d.subs else 0
    let s := s.bumpBy (kCore k 0xC2C) nf
    if nf != 0 && s.flag (fNfFault (s.jobPart k)) then (false, s.coreFault k 0x2102 .opa)
    else if !s.grnOk k (s.jobPart k) d.dest d.bytes.length then (false, s.coreFault k 0x4302 .opa)
    else (true, s)

/-- The next n tile bytes of a drain that has passed, to an aligned word, are written; with the last one the DRAIN has retired (R230, R322, R338,
R419). -/
def State.drainWrite (s : State) (k : CoreId) (d : DrainBuf) (n : Nat) (bad : List Nat) : State :=
  let bs := (d.bytes.drop d.written).take ((n + 7) / 8 * 8)
  match s.grnStore k 1 (d.dest + d.written) bs bad with
  | (true, s) =>
    let c := s.core k
    if d.written + bs.length = d.bytes.length then (s.setCore k { c with drain := none, lastPc := c.lastPc.set 0 d.bundle }).bump (kCore k 0xC20)
    else s.setCore k { c with drain := some { d with passed := true, written := d.written + bs.length } }
  | (false, s) => s

/-- DRAIN_COMPLETE (R321, R322, R328, R338): the sums are checked, and the next n bytes of the tiles are written, or no byte is; a drain that meets a
fault is not finished. -/
def execDrainComplete (k : CoreId) (parity : Bool) (bad : List Nat) (n : Nat) (s : State) : Out :=
  match (s.core k).drain with
  | some d =>
    if !s.runs k then .next s
    else if parity then .next ((s.bump (kCore k 0xC4C)).coreFault k 0x2103 .opa)
    else
      match (if d.passed then (true, s) else s.drainCheck k d) with
      | (true, s) => .next (s.drainWrite k d n bad)
      | (false, s) => .next s
  | none => .next s

end Sys2Proof.Machine
end

