-- ==== Sys2Proof/Machine/Vector.lean ====
section
/-! DEFINITION. The vector engine (R237, R238, R297 to R301, R343 to R364). -/

namespace Sys2Proof.Machine

/-- The floating format of a type code, of those that VEC arithmetic accepts (R268). -/
def fltFmt (ty : Nat) : FloatFmt := if ty = 8 then fp16 else if ty = 9 then bf16 else fp32

/-- An integer type of VEC arithmetic. -/
def isIntType (ty : Nat) : Bool := ty ≤ 5 || ty == 15

/-- An element in its lane: integer elements sign- or zero-extended, other codes with the upper bits zero (R356). -/
def widen (ty v : Nat) : Word := if isIntType ty then BitVec.ofInt 32 (intElem ty (v % 2 ^ fmtWidth ty)) else BitVec.ofNat 32 (v % 2 ^ fmtWidth ty)

/-- A lane's integer element. -/
def laneInt (ty : Nat) (v : Word) : Int := intElem ty (v.toNat % 2 ^ fmtWidth ty)

/-- A lane's floating element. -/
def laneFlt (ty : Nat) (v : Word) : XVal := (fltFmt ty).decode (v.toNat % 2 ^ fmtWidth ty)

/-- VMIN and VMAX on floating values: NaN if either is NaN, and −0 below +0 (R364). -/
def fltMin (min_ : Bool) (x y : XVal) : XVal :=
  if x == .nan || y == .nan then .nan
  else
    let neg (z : XVal) : Bool := match z with
      | .nan => false
      | .inf b => b
      | .num b _ _ => b
    let xBelow := x.lt y || (!y.lt x && neg x)
    if xBelow == min_ then x else y

/-- A lane-wise arithmetic result of OP 0 to 5 on vA, vB and, for VFMA, vD, and of OP 6 and 7 on vA (R297, R363, R364). -/
def arithLane (op ty : Nat) (x y d : Word) : Word :=
  if isIntType ty then
    let a := laneInt ty x
    let b := laneInt ty y
    let r : Int :=
      match op with
      | 0 => a + b
      | 1 => a - b
      | 2 => a * b
      | 3 => laneInt ty d + a * b
      | 4 => min a b
      | 5 => max a b
      | 6 => if a < 0 then -a else a
      | _ => -a
    widen ty (wrap (fmtWidth ty) r)
  else
    let a := laneFlt ty x
    let b := laneFlt ty y
    let r :=
      match op with
      | 0 => a.add b
      | 1 => a.add b.neg
      | 2 => a.mul b
      | 3 => (laneFlt ty d).add (a.mul b)
      | 4 => fltMin true a b
      | 5 => fltMin false a b
      | 6 => a.abs
      | _ => a.neg
    BitVec.ofNat 32 ((fltFmt ty).round r)

/-- The comparison of VCMP by X[2:0] (R297); one with a NaN holds for NE alone. [log 62: DEDUCED, unsafe] -/
def cmpLane (cond ty : Nat) (x y : Word) : Bool :=
  let (eq, lt, gt) :=
    if isIntType ty then
      (laneInt ty x == laneInt ty y, decide (laneInt ty x < laneInt ty y), decide (laneInt ty y < laneInt ty x))
    else ((laneFlt ty x).eqv (laneFlt ty y), (laneFlt ty x).lt (laneFlt ty y), (laneFlt ty y).lt (laneFlt ty x))
  match cond with
  | 0 => eq
  | 1 => !eq
  | 2 => lt
  | 3 => lt || eq
  | 4 => gt
  | _ => gt || eq

-- CONVERSION

/-- The exact value that VCVT's source element stands for; none is the RF16 unknown value (R349, R352, R355, R358). -/
def cvtSource (ty : Nat) (v b : Word) : Option XVal :=
  let c := v.toNat % 2 ^ fmtWidth ty
  if ty = 15 then rf16Decode (sgn 8 b.toNat) c
  else if ty ≤ 5 then some (XVal.ofInt (intElem ty c))
  else some (fltElem ty c (b.toNat % 256))

/-- The least and the largest value of an integer format (R347). -/
def intRange (f : Nat) : Int × Int :=
  let w := fmtWidth f
  if f = 1 || f = 3 then (0, 2 ^ w - 1) else (-(2 ^ (w - 1)), 2 ^ (w - 1) - 1)

/-- The floating format of a destination code, its MX element's where it is one. -/
def dstFmt (f : Nat) : FloatFmt :=
  if f = 6 || f = 11 then e4m3 else if f = 7 then e5m2 else if f = 8 then fp16 else if f = 9 then bf16
  else if f = 12 then e3m2 else if f = 13 then e2m1 else fp32

/-- A lane converted: its element, whether it counts as saturated, and whether it counts as a NaN (R354, R355, R359 to R362). -/
def cvtLane (src dst : Nat) (sat : Bool) (v b : Word) : Word × Bool × Bool :=
  let s := (b.toNat / 256) % 256
  match cvtSource src v b with
  | none =>
    if dst ≤ 5 then (BitVec.ofInt 32 (intRange dst).1, false, true)
    else if dst = 15 then (widen 15 0x8000, false, false)
    else if dst = 14 || dst = 12 || dst = 13 then (0, false, true)
    else if isMx dst && s = 255 then (0, false, false)
    else (BitVec.ofNat 32 (dstFmt dst).nan, false, false)
  | some x =>
    if dst ≤ 5 then
      let r := intRange dst
      match x with
      | .nan => (0, false, true)
      | .inf neg => (BitVec.ofInt 32 (if neg then r.1 else r.2), true, false)
      | y =>
        let i := y.toInt.getD 0
        if r.1 ≤ i ∧ i ≤ r.2 then (BitVec.ofInt 32 i, false, false)
        else if src ≤ 5 && !sat then (widen dst (wrap (fmtWidth dst) i), false, false)
        else (BitVec.ofInt 32 (if i < r.1 then r.1 else r.2), true, false)
    else if dst = 15 then
      let e := rf16Encode (sgn 8 s) x
      (widen 15 e.1, e.2, false)
    else if isMx dst && s = 255 then (0, false, x == .nan && (dst == 12 || dst == 13 || dst == 14))
    else
      let y := if isMx dst then x.scale (127 - (s : Int)) else x
      if dst = 14 then
        let e := mxint8Encode y
        (BitVec.ofNat 32 e.1, e.2, y == .nan)
      else
        let f := dstFmt dst
        let e := f.encode sat y
        let clipped := e.2 && (sat || (f.infCode.isNone && f.nanCode.isNone))
        (BitVec.ofNat 32 e.1, clipped, y == .nan && f.nanCode.isNone)

-- REDUCTION AND TABLES

/-- What an inactive lane contributes to VRED (R300). -/
def redIdentity (op ty : Nat) : Word :=
  match op with
  | 0 => 0
  | 1 => if ty = 5 then 0x7FFFFFFF else 0x7F800000
  | _ => if ty = 5 then 0x80000000 else 0xFF800000

/-- VRED's value over 256 lanes, inactive ones at the identity (R300). -/
def reduce (op ty : Nat) (lanes : List Word) : Word :=
  treeFold (fun x y => arithLane (if op = 0 then 0 else if op = 1 then 4 else 5) ty x y 0) 0 8 lanes

/-- The exact quotient x / y of finite values, with two more bits than any rounding needs and a sticky bit; a zero divisor
gives infinity, or NaN for 0 / 0. -/
def divX : XVal → XVal → XVal
  | .nan, _ => .nan
  | _, .nan => .nan
  | .inf _, .inf _ => .nan
  | .inf a, .num b _ _ => .inf (a != b)
  | .num a _ _, .inf b => .num (a != b) 0 0
  | .num a m e, .num b n f =>
    if n = 0 then (if m = 0 then .nan else .inf (a != b))
    else
      let sh := 64 + Nat.log2 n
      let q := m * 2 ^ sh / n
      let r := m * 2 ^ sh % n
      .num (a != b) (2 * q + b2n (r != 0)) (e - f - sh - 1)

/-- floor of a value that is not negative, at most 255 for an infinity (R301 takes the lower of it and 255). -/
def floorX : XVal → Nat
  | .num false m e => if 0 ≤ e then m * 2 ^ e.toNat else m / 2 ^ (-e).toNat
  | .inf false => 255
  | _ => 0

/-- VLUT's function of one lane, on a table of LO, HI and 257 knots (R301). -/
def lutLane (lo hi : Word) (knot : Nat → Word) (scale : Word) (v : Word) : Word :=
  let mm (min_ : Bool) (x y : Word) : Word := rnd32 (fltMin min_ (f32 x) (f32 y))
  let sub (x y : Word) : Word := rnd32 ((f32 x).add (f32 y).neg)
  let mul (x y : Word) : Word := rnd32 ((f32 x).mul (f32 y))
  let x := mm true (mm false v lo) hi
  let u := mul (sub x lo) scale
  let i := min (floorX (f32 u)) 255
  fadd (knot i) (mul (sub (knot (i + 1)) (knot i)) (sub u (rnd32 (XVal.ofInt i))))

-- THE ENGINE

/-- The instruction at the head of VEC's queue, while the core runs. -/
def State.vecHead (s : State) (k : Nat) : Option QEnt := if s.starts k then (s.core k).vecQ.head? else none

/-- The head of VEC's queue retires. -/
def CoreSt.vecPop (c : CoreSt) : CoreSt :=
  match c.vecQ with
  | q :: rest => { c with vecQ := rest, lastPc := c.lastPc.set 1 q.bundle }
  | [] => c

/-- Lanes of a result merged under a predicate (R238). -/
def underMask (m : BitVec 256) (new old : List Word) : List Word :=
  (numbered (new.zip old)).map (fun x => if m.getLsbD x.1 then x.2.1 else x.2.2)

/-- A vector register set. -/
def State.putV (s : State) (k d : Nat) (l : List Word) : State := s.setCore k { s.core k with v := Tbl.put (s.core k).v d l }

/-- A predicate set: p0 ignores writes (R229). -/
def State.putP (s : State) (k d : Nat) (p : BitVec 256) : State :=
  if d = 0 then s else s.setCore k { s.core k with p := Tbl.put (s.core k).p d p }

/-- 256 lanes as predicate bits. -/
def predOf (l : List Bool) : BitVec 256 := BitVec.ofNat 256 ((numbered l).foldl (fun a x => if x.2 then a + 2 ^ x.1 else a) 0)

/-- Where an instruction's result goes. -/
inductive VecDest where
  /-- Vector register d, in the lanes of m. -/
  | lanes (d : Nat) (m : BitVec 256)
  /-- Predicate d, in the lanes of m. -/
  | pred (d : Nat) (m : BitVec 256)
  /-- Elements of w bits in the Granary from an offset on, in the lanes of m. -/
  | memory (base w : Nat) (m : BitVec 256)
  deriving DecidableEq, Repr

/-- The wrong value that an upset lane computes (R237): lane and bits. -/
abbrev Upset := Option (Fin 256 × Word)

/-- The upset lane's result stands wrong in its destination, and its residue mod 3 shows it; none where the lane was not written, and so not checked, or
where the residue does not change (R237, R238). -/
def State.upsetLane (s : State) (k : Nat) (dest : VecDest) (u : Upset) : Bool × State :=
  match u, dest with
  | some (i, x), .lanes d m =>
    if m.getLsbD i then
      let l := (s.core k).vreg d
      let v := l.getD i 0
      (v.toNat % 3 != (v ^^^ x).toNat % 3, s.putV k d (l.set i (v ^^^ x)))
    else (false, s)
  | some (i, x), .pred d m => if m.getLsbD i && x != 0 && d != 0 then (true, s.putP k d ((s.core k).preg d ^^^ BitVec.ofNat 256 (2 ^ i.val))) else (false, s)
  | some (i, x), .memory base w m =>
    if m.getLsbD i then
      let o := base + w * i.val / 8
      let n := leNat (s.grnBytes k o 5)
      let sh := w * i.val % 8
      let v := n / 2 ^ sh % 2 ^ w
      let y := x.toNat % 2 ^ w
      let bs := leBytes ((sh + w + 7) / 8) (n ^^^ y * 2 ^ sh)
      (v % 3 != (v ^^^ y) % 3, s.grnCells k ((numbered bs).map (fun z => (o + z.1, z.2))))
    else (false, s)
  | none, _ => (false, s)

/-- The instruction at the head of VEC's queue whose OP lies from lo to hi.  ecc is what the protection of the vector
registers and predicates reports on its reads (R256, R257); f is its effect, with its destination where it completes; upset is a lane that computes a
wrong result, which is written, and is a fault where its residue differs (RESIDUE_CHECK; R237, R305). [log 155: DEDUCED, unsafe] -/
def State.vecOp (s : State) (k : CoreId) (lo hi : Nat) (ecc : Ecc) (upset : Upset)
    (f : State → Nat → Nat → Nat → Nat → Nat → Nat → Nat → List Nat → Option VecDest × State) : Out :=
  match s.vecHead k with
  | some q =>
    match q.op with
    | .vec op d a b p ty x =>
      if op < lo || hi < op then .next s
      else
        match ecc with
        | .uncorrectable => .next (s.coreFault k 0x2202 .vec)
        | e =>
          let s := if e = .corrected then s.bump (kCore k 0x400) else s
          match f s op d a b p ty x q.vals with
          | (none, s) => .next s
          | (some dest, s) =>
            match s.upsetLane k dest upset with
            | (wrong, s) =>
              let s := s.setCore k (s.core k).vecPop
              .next (if wrong then (s.bump (kCore k 0x404)).coreFault k 0x2201 .vec else s)
    | _ => .next s
  | none => .next s

/-- A result in vD, in the lanes of m. -/
def State.toLanes (s : State) (k d : Nat) (m : BitVec 256) (l : List Word) : Option VecDest × State :=
  (some (.lanes d m), s.putV k d (underMask m l ((s.core k).vreg d)))

/-- A lane-wise result of vA, vB and vD under pP, into vD. -/
def State.laneWise (s : State) (k d a b p : Nat) (g : Word → Word → Word → Word) : Option VecDest × State :=
  let c := s.core k
  let new := ((c.vreg a).zip ((c.vreg b).zip (c.vreg d))).map (fun z => g z.1 z.2.1 z.2.2)
  s.toLanes k d (c.preg p) new

/-- VEC_ARITH (R297): VADD, VSUB, VMUL, VFMA, VMIN and VMAX. -/
def execVecArith (k : CoreId) (ecc : Ecc) (upset : Upset) (s : State) : Out :=
  s.vecOp k 0x00 0x05 ecc upset (fun s op d a b p ty _ _ => s.laneWise k d a b p (arithLane op ty))

/-- VEC_UNARY (R297): VABS and VNEG. -/
def execVecUnary (k : CoreId) (ecc : Ecc) (upset : Upset) (s : State) : Out :=
  s.vecOp k 0x06 0x07 ecc upset (fun s op d a b p ty _ _ => s.laneWise k d a b p (arithLane op ty))

/-- VEC_LOGIC (R297): VAND, VOR and VXOR on 32 bits. -/
def execVecLogic (k : CoreId) (ecc : Ecc) (upset : Upset) (s : State) : Out :=
  s.vecOp k 0x08 0x0A ecc upset (fun s op d a b p _ _ _ =>
    s.laneWise k d a b p (fun x y _ => if op = 0x08 then x &&& y else if op = 0x09 then x ||| y else x ^^^ y))

/-- VEC_SHIFT (R297): VSHL, VSHR and VSAR by X. -/
def execVecShift (k : CoreId) (ecc : Ecc) (upset : Upset) (s : State) : Out :=
  s.vecOp k 0x0B 0x0D ecc upset (fun s op d a b p _ x _ =>
    s.laneWise k d a b p (fun v _ _ => if op = 0x0B then v <<< x else if op = 0x0C then v >>> x else v.sshiftRight x))

/-- VCMP (R238, R297): pD written whole, 0 in inactive lanes. -/
def execVcmp (k : CoreId) (ecc : Ecc) (upset : Upset) (s : State) : Out :=
  s.vecOp k 0x0E 0x0E ecc upset (fun s _ d a b p ty x _ =>
    let c := s.core k
    let r := ((c.vreg a).zip (c.vreg b)).map (fun z => cmpLane (x % 8) ty z.1 z.2)
    (some (.pred d (BitVec.allOnes 256)), s.putP k d (predOf r &&& c.preg p)))

/-- VSEL (R297): vA where pX is 1, else vB. -/
def execVsel (k : CoreId) (ecc : Ecc) (upset : Upset) (s : State) : Out :=
  s.vecOp k 0x0F 0x0F ecc upset (fun s _ d a b p _ x _ =>
    let c := s.core k
    s.toLanes k d (c.preg p) (underMask (c.preg (x % 8)) (c.vreg a) (c.vreg b)))

/-- VCVT (R358, R359): active lanes converted; the saturated and the NaN lanes counted. -/
def execVcvt (k : CoreId) (ecc : Ecc) (upset : Upset) (s : State) : Out :=
  s.vecOp k 0x10 0x10 ecc upset (fun s _ d a b p ty x _ =>
    let c := s.core k
    let r := ((c.vreg a).zip (c.vreg b)).map (fun z => cvtLane ty (x % 16) (decide (16 ≤ x)) z.1 z.2)
    let act := (numbered r).filter (fun z => (c.preg p).getLsbD z.1)
    let s := s.bumpBy (kCore k 0x40C) (act.filter (fun z => z.2.2.1)).length
    let s := s.bumpBy (kCore k 0x410) (act.filter (fun z => z.2.2.2)).length
    s.toLanes k d (c.preg p) (r.map (·.1)))

/-- VRED (R238, R300): lane 0 gets the reduction, every other lane 0. -/
def execVred (k : CoreId) (ecc : Ecc) (upset : Upset) (s : State) : Out :=
  s.vecOp k 0x11 0x11 ecc upset (fun s _ d a _ p ty x _ =>
    let c := s.core k
    let lanes := underMask (c.preg p) (c.vreg a) (List.replicate 256 (redIdentity (x % 4) ty))
    s.toLanes k d (BitVec.allOnes 256) (reduce (x % 4) ty lanes :: List.replicate 255 0))

/-- VLUT's lanes on the table's 1,036 bytes: with LO not below HI, NaN bounds among them, the spec states no result, and a lane is a free value of
the table and its operand. [log 156: DESIGN CHOICE, safe] -/
def lutLanes (bs : List Byte) (lanes : List Word) : List Word :=
  let at_ (i : Nat) : Word := BitVec.ofNat 32 (leNat ((bs.drop (4 * i)).take 4))
  let span := (f32 (at_ 1)).add (f32 (at_ 0)).neg
  let scale := rnd32 (divX (XVal.ofInt 256) (f32 (rnd32 span)))
  if (f32 (at_ 0)).lt (f32 (at_ 1)) then lanes.map (lutLane (at_ 0) (at_ 1) (fun i => at_ (i + 2)) scale)
  else lanes.map (Config.lutOpen (leNat bs))

/-- VLUT (R301). -/
def execVlut (k : CoreId) (ecc : Ecc) (upset : Upset) (errs : GrnErrs) (s : State) : Out :=
  s.vecOp k 0x12 0x12 ecc upset (fun s _ d a _ p _ _ vals =>
    match s.grnRead k 2 (vals.headD 0) 1036 errs with
    | (none, s) => (none, s)
    | (some bs, s) => s.toLanes k d ((s.core k).preg p) (lutLanes bs ((s.core k).vreg a)))

/-- VBC (R297): a scalar in every active lane. -/
def execVbc (k : CoreId) (ecc : Ecc) (upset : Upset) (s : State) : Out :=
  s.vecOp k 0x13 0x13 ecc upset (fun s _ d a b p _ _ vals => s.laneWise k d a b p (fun _ _ _ => BitVec.ofNat 32 (vals.headD 0)))

/-- VLD (R299, R357): 256 packed elements, widened into their lanes. -/
def execVld (k : CoreId) (ecc : Ecc) (upset : Upset) (errs : GrnErrs) (s : State) : Out :=
  s.vecOp k 0x14 0x14 ecc upset (fun s _ d _ _ p ty _ vals =>
    match s.grnRead k 2 (vals.headD 0) (vecBytes ty) errs with
    | (none, s) => (none, s)
    | (some bs, s) =>
      let n := leNat bs
      s.toLanes k d ((s.core k).preg p) ((List.range 256).map (fun e => widen ty (elemAt n (fmtWidth ty) e))))

/-- The bytes that a VST's active lanes write, by offset from its base; an element of 4 bits leaves the other half of its byte (R299, R357). -/
def vstCells (w : Nat) (m : BitVec 256) (old : List Byte) (lanes : List Word) : List (Nat × Byte) :=
  let e0 := leNat old
  let n := (numbered lanes).foldl (fun a x => a + (if m.getLsbD x.1 then x.2.toNat % 2 ^ w else elemAt e0 w x.1) * 2 ^ (w * x.1)) 0
  (numbered (leBytes (32 * w) n)).filter (fun x => (List.range 256).any (fun i => m.getLsbD i && decide (w * i < 8 * x.1 + 8) && decide (8 * x.1 < w * i + w)))

/-- The 8-byte word `word` of a VST's destination is written in part alone: some of the lanes that lie in it are active, and not all. -/
def vstPart (w : Nat) (m : BitVec 256) (word : Nat) : Bool :=
  let l := (List.range 256).filter (fun i => decide (w * i < 64 * word + 64) && decide (64 * word < w * i + w))
  l.any m.getLsbD && !l.all m.getLsbD

/-- VST (R299, R357, R376, R377, R386): the low bits of the active lanes, packed; an inactive lane writes nothing.  bad lists the words whose stored value
is uncorrectable. -/
def execVst (k : CoreId) (ecc : Ecc) (upset : Upset) (bad : List Nat) (s : State) : Out :=
  s.vecOp k 0x15 0x15 ecc upset (fun s _ d _ _ p ty _ vals =>
    let c := s.core k
    let base := vals.headD 0
    let w := fmtWidth ty
    let m := c.preg p
    if !s.grnOk k (s.jobPart k) base (vecBytes ty) then (none, s.coreFault k 0x4302 .vec)
    else if bad.any (fun b => decide (base / 8 ≤ b) && vstPart w m (b - base / 8)) then (none, (s.bump (kGrn k 4)).coreFault k 0x3201 .vec)
    else (some (.memory base w m), s.grnCells k ((vstCells w m (s.grnBytes k base (vecBytes ty)) (c.vreg d)).map (fun x => (base + x.1, x.2)))))

/-- VPOP (R297): predicates combined. -/
def execVpop (k : CoreId) (ecc : Ecc) (upset : Upset) (s : State) : Out :=
  s.vecOp k 0x16 0x16 ecc upset (fun s _ d a b p _ x _ =>
    let c := s.core k
    let pa := c.preg (a % 8)
    let pb := c.preg (b % 8)
    let r := match x % 4 with
      | 0 => pa &&& pb
      | 1 => pa ||| pb
      | 2 => pa ^^^ pb
      | _ => pa &&& ~~~ pb
    let m := c.preg p
    (some (.pred (d % 8) m), s.putP k (d % 8) ((r &&& m) ||| (c.preg (d % 8) &&& ~~~ m))))

/-- VMOV (R297). -/
def execVmov (k : CoreId) (ecc : Ecc) (upset : Upset) (s : State) : Out :=
  s.vecOp k 0x17 0x17 ecc upset (fun s _ d a b p _ _ _ => s.laneWise k d a b p (fun x _ _ => x))

end Sys2Proof.Machine
end

