-- ==== Sys2Proof/Machine/Engines.lean ====
section
/-! DEFINITION. What the engines' queues share: tallies, barriers, peel transfers and watchdogs (R239 to R248, R286 to R291,
R302, R438 to R443). -/

namespace Sys2Proof.Machine

-- PEEL QUEUES

/-- The queue of peel q. -/
def CoreSt.peelQ (c : CoreSt) (q : Nat) : List PeelEnt := if q = 0 then c.lpeelQ else c.speelQ

/-- The core with the queue of peel q. -/
def CoreSt.setPeelQ (c : CoreSt) (q : Nat) (l : List PeelEnt) : CoreSt := if q = 0 then { c with lpeelQ := l } else { c with speelQ := l }

/-- The transfers that only await completion, and the entries from the first that does not (R240). -/
def splitPeel : List PeelEnt → List PeelEnt × List PeelEnt
  | e :: r => if e.kind = 0 ∧ 2 ≤ e.st then ((e :: (splitPeel r).1), (splitPeel r).2) else ([], e :: r)
  | [] => ([], [])

/-- The peel has retired an entry that came from a bundle (R230). -/
def CoreSt.peelRetired (c : CoreSt) (q : Nat) (bundle : DWord) : CoreSt := { c with lastPc := c.lastPc.set (2 + q) bundle }

-- TALLY CONFIGURATION

/-- The entries of a tally configuration block that break R440: a reserved bit, or a partner that is the tally itself. -/
def tallyCfgBad (ws : List Word) : Option (Nat × Word) :=
  (numbered ws).find? (fun x =>
    let v := x.2.toNat
    bitsAt v 29 2 != 0 || bitsAt v 16 8 != 0 || (v.testBit 31 && bitsAt v 24 5 == x.1))

/-- TALLY_CFG_LOAD (R439, R440, R517): the block is read before the first bundle, once its request is admitted; a block that breaks R440 raises
0x2304. -/
def execTallyCfgLoad (k : CoreId) (s : State) : Out :=
  let c := s.core k
  match c.job with
  | some j =>
    if !s.runs k || c.loaded then .next s
    else if !s.jobOk j.part j.tallyCfg.toNat 128 false then .next (s.jobRefused k j.tallyCfg.toNat)
    else
      match s.dramAsk (.tallyCfg k) j.part (linesOf j.tallyCfg.toNat 128) with
      | (false, s) => .next s
      | (true, s) =>
        match s.ramRead (.core k .seq) j.tallyCfg.toNat 128 with
        | (_, true, s) => .next (s.setCore k { s.core k with frozen := true })
        | (bs, false, s) =>
          let ws := (List.range 32).map (fun n => (BitVec.ofNat 32 (leNat ((bs.drop (4 * n)).take 4)) : Word))
          match tallyCfgBad ws with
          | some (n, w) => .next (s.tallyFault k 0x2304 0 n false w.toNat 0)
          | none => .next (s.setCore k { s.core k with tcfg := ws, loaded := true })
  | none => .next s

-- INCREMENTS

/-- The peel has completed the transfer at the head of its queue: every byte it writes has reached its completion point (R241). -/
def State.transferDone (s : State) (k q : Nat) : Option PeelEnt :=
  match (s.core k).peelQ q with
  | e :: _ => if s.runs k && e.kind == 0 && e.st == 2 && e.reqs == [] && s.windowsDone k then some e else none
  | [] => none

/-- A TINC that SEQ executes. -/
def Op.isSeqTinc : Op → Bool
  | .tinc e .. => e == 0
  | _ => false

/-- SEQ's TINC takes effect: nothing else holds its bundle, and SEQ's earlier writes have reached their completion points (R264, R286, R287). -/
def State.seqTincReady (s : State) (k : Nat) (h : Held) : Bool :=
  let c := s.core k
  s.starts k && h.checked && !h.issued && !(h.todo.any (fun o => o.gates && !o.isSeqTinc)) && !c.blocked h && !c.awaitsLoad h && c.sb == [] && s.windowsDone k

/-- The TINC at which engine e, by its number, stands, once its earlier writes have reached their completion points: its tally and N (R286,
R287, R324). -/
def State.tincOf (s : State) (k e : Nat) : Option (Nat × Nat) :=
  let ofOp (o : Op) : Option (Nat × Nat) := match o with
    | .tinc _ t n => some (t, n)
    | _ => none
  if e = 0 then
    match s.held k with
    | some h => if s.seqTincReady k h then (h.find Op.isSeqTinc).bind (fun x => ofOp x.2) else none
    | none => none
  else if e = 1 then (if (s.core k).drain == none then (s.opaHead k).bind (fun q => ofOp q.op) else none)
  else if e = 2 then (s.vecHead k).bind (fun q => ofOp q.op)
  else
    match (s.core k).peelQ (e - 3) with
    | x :: _ => if s.starts k && x.kind == 1 then some (x.tally, x.len) else none
    | [] => none

/-- Increments of one cycle: the engine, the tally and N of each. -/
abbrev Incs := List (Nat × Nat × Nat)

/-- The tallies that the increments name, ascending. -/
def incTallies (l : Incs) : List Nat := (List.range 32).filter (fun t => l.any (fun x => x.2.1 == t))

/-- Tally t at the end of a cycle with these increments, of which the updates of the tallies in `out` are not applied (R435). -/
def CoreSt.afterIncs (c : CoreSt) (l : Incs) (out : List Nat) (t : Nat) : Nat :=
  if out.contains t then c.tally t else c.tally t + ((l.filter (fun x => x.2.1 == t)).map (·.2.2)).foldl (· + ·) 0

/-- The combined update of tally t keeps the 48 bits, and its bound against what its partner takes in that cycle (R441, R443). -/
def CoreSt.incOk (c : CoreSt) (l : Incs) (out : List Nat) (t : Nat) : Bool :=
  decide (c.afterIncs l [] t < 2 ^ 48) &&
    match c.bound t with
    | some (p, b) => decide (c.afterIncs l [] t ≤ b + c.afterIncs l out p)
    | none => true

/-- The tallies of the cycle whose updates break their bound or the 48 bits: an update that is not applied may break that of the tally bounded
against it, so the least such set is sought. [log 154: DEDUCED, unsafe] -/
def CoreSt.incsOut (c : CoreSt) (l : Incs) : (fuel : Nat) → List Nat → List Nat
  | 0, out => out
  | f + 1, out => CoreSt.incsOut c l f (out ++ (incTallies l).filter (fun t => !out.contains t && !c.incOk l out t))

/-- The tally logic applies the increments of one cycle: one update for each tally, counted in TAL_UPDATES; those that break R441 or R443 are not
applied and raise 0x2303, of which the lowest tally's is recorded, with its lowest engine (R434, R435, R441, R443, R446).  The tallies not
updated. -/
def State.tallyCycle (s : State) (k : CoreId) (l : Incs) : List Nat × State :=
  let c := s.core k
  let out := c.incsOut l 32 []
  let good := (incTallies l).filter (fun t => !out.contains t)
  let s1 := (s.setCore k { c with t := good.foldl (fun ts t => ts.set t (c.afterIncs l [] t)) c.t }).bumpBy (kTal k 0x1A0) good.length
  let engine (t : Nat) : Nat := ((l.filter (fun x => x.2.1 == t)).map (·.1)).foldl min 4
  let partner (t : Nat) : Nat := match c.bound t with
    | some (p, _) => c.afterIncs l out p
    | none => 0
  let bad := (incTallies l).filter out.contains
  let s2 := bad.foldl (fun s t => s.tallyFault k 0x2303 (engine t) t false (c.afterIncs l [] t) (partner t)) s1
  (out, match bad with
    | t :: _ => s2.tallyRecord k 0x2303 (engine t) t false (c.afterIncs l [] t) (partner t)
    | [] => s2)

/-- A transfer that is complete leaves its peel's queue, and its latency is kept. -/
def State.retireTransfer (s : State) (k : CoreId) (q : Nat) (e : PeelEnt) : State :=
  let c := s.core k
  let us := ((s.tb.ticks - e.since) * 40 + 999) / 1000
  ((s.setCore k ((c.setPeelQ q ((c.peelQ q).drop 1)).peelRetired q e.bundle)).bump (kPeel k q 4)).put ⟨kPeel k q 0x14, 0, 16⟩
    (min (max (s.get ⟨kPeel k q 0x14, 0, 16⟩) us) 0xFFFF)

/-- An engine's TINC, by the engine's number, has taken effect. -/
def State.retireTinc (s : State) (k : CoreId) (e : Nat) : State :=
  let c := s.core k
  if e = 0 then
    match s.held k with
    | some h =>
      match h.find Op.isSeqTinc with
      | some (j, _) => (s.setHeld k (h.done j)).issueBundle k
      | none => s
    | none => s
  else if e = 1 then s.setCore k c.opaPop
  else if e = 2 then s.setCore k c.vecPop
  else
    match c.peelQ (e - 3) with
    | x :: rest => s.setCore k ((c.setPeelQ (e - 3) rest).peelRetired (e - 3) x.bundle)
    | [] => s

/-- One cycle of the tally logic: the TINCs of the engines in `es` and the completions of the peels in `ps` that come now take effect together
(R241, R286, R435, R441).  parity says that one of their tallies has a parity error (R256, R830). -/
def State.tallyStep (s : State) (k : CoreId) (es ps : List Nat) (parity : Bool) : State :=
  let incs := ([1, 2, 3, 4, 0].filter es.contains).filterMap (fun e => (s.tincOf k e).map (fun x => (e, x)))
  let done := ([0, 1].filter ps.contains).filterMap (fun q => (s.transferDone k q).map (fun e => (q, e)))
  let all := incs ++ (done.filter (fun x => x.2.en)).map (fun x => (3 + x.1, x.2.tally, 1))
  if parity && all != [] then s.coreFault k 0x2402 .seq
  else
    match s.tallyCycle k all with
    | (out, s) =>
      let s := (done.filter (fun x => !(x.2.en && out.contains x.2.tally))).foldl (fun s x => s.retireTransfer k x.1 x.2) s
      (incs.filter (fun x => !out.contains x.2.1)).foldl (fun s x => s.retireTinc k x.1) s

/-- The bundle that SEQ holds is checked, where its TINC is asked for, and its stall counted where full queues alone hold it. -/
def State.seqTincCheck (s : State) (k : CoreId) : State :=
  match s.held k with
  | some h =>
    if s.starts k && !h.issued && (h.find Op.isSeqTinc).isSome then
      let s := s.checkBundle k
      match s.held k with
      | some h => if h.checked && (s.core k).blocked h then s.stall k h else s
      | none => s
    else s
  | none => s

/-- TINC (R286, R287, R324, R435): the TINCs of these engines add N to their tallies in one cycle, once each engine's earlier writes have reached their
completion points; transfers of the peels ps that complete in that cycle count with them. -/
def execTinc (k : CoreId) (es : List Engine) (ps : List PeelId) (parity : Bool) (s : State) : Out :=
  let s := if es.contains .seq then s.seqTincCheck k else s
  if (s.core k).frozen then .next s else .next (s.tallyStep k (es.map Engine.idx) (ps.map PeelId.idx) parity)

-- TWAIT

/-- The engine, 0 to 4, is no longer at a TWAIT: the longest wait is kept (TAL_WAIT_MAX). -/
def State.waitOver (s : State) (k e : Nat) : State :=
  let c := s.core k
  match Tbl.find c.waits e with
  | some t => (s.setCore k { c with waits := Tbl.drop c.waits e }).put ⟨kTal k 0x1A8, 0, 16⟩
      (min (max (s.get ⟨kTal k 0x1A8, 0, 16⟩) (((s.tb.ticks - t) * 40 + 999) / 1000)) 0xFFFF)
  | none => s

/-- The engine arrives at a TWAIT that does not pass: its timeout starts (R288). -/
def State.waitStarts (s : State) (k e : Nat) : State :=
  let c := s.core k
  if (Tbl.find c.waits e).isSome then s
  else (s.setCore k { c with waits := Tbl.put c.waits e s.tb.ticks }).bump (kTal k 0x1A4)

/-- The TWAIT that an engine, 0 to 4, stands at: its tally, value and timeout. -/
def State.waitAt (s : State) (k : Nat) (e : Nat) : Option (Nat × Nat × Nat) :=
  let c := s.core k
  let ofOp (o : Op) (v : Nat) : Option (Nat × Nat × Nat) := match o with
    | .twait _ t _ tmo => some (t, v, tmo)
    | _ => none
  if e = 0 then
    match c.bundle with
    | some h => (h.find (fun o => match o with | .twait n .. => n == 0 | _ => false)).bind (fun x =>
        match x.2 with
        | .twait _ _ v _ => ofOp x.2 ((getS c.s v).toNat % 2 ^ 48)
        | _ => none)
    | none => none
  else if e = 1 then c.opaQ.head?.bind (fun q => ofOp q.op (q.vals.headD 0))
  else if e = 2 then c.vecQ.head?.bind (fun q => ofOp q.op (q.vals.headD 0))
  else (splitPeel (c.peelQ (e - 3))).2.head?.bind (fun x => if x.kind = 3 then some (x.tally, x.src.toNat % 2 ^ 48, x.len) else none)

/-- TWAIT (R286, R288, R289, R436): the engine goes on where tT has reached the value awaited; else its timeout starts.  A parity error of the tally is a
job fault (R256, R830). -/
def execTwait (k : CoreId) (e : Engine) (parity : Bool) (s : State) : Out :=
  match e with
  | .seq =>
    s.gateOp k (fun o => match o with | .twait n .. => n == 0 | _ => false) (fun s _ _ o =>
      match o with
      | .twait _ t v _ =>
        if parity then (false, s.coreFault k 0x2402 .seq)
        else if (getS (s.core k).s v).toNat % 2 ^ 48 ≤ (s.core k).tally t then (true, s.waitOver k 0) else (false, s.waitStarts k 0)
      | _ => (false, s))
  | p =>
    match s.waitAt k p.idx with
    | some (t, v, _) =>
      if !s.starts k then .next s
      else if parity then .next (s.coreFault k 0x2402 .seq)
      else if v ≤ (s.core k).tally t then
        let s := s.waitOver k p.idx
        let c := s.core k
        (match p with
        | .opa => .next (s.setCore k c.opaPop)
        | .vec => .next (s.setCore k c.vecPop)
        | _ =>
          let q := p.idx - 3
          (match splitPeel (c.peelQ q) with
          | (done, x :: rest) => .next (s.setCore k ((c.setPeelQ q (done ++ rest)).peelRetired q x.bundle))
          | _ => .next s))
      else .next (s.waitStarts k p.idx)
    | none => .next s

/-- The Timebase timers of core k's job count: a throttle pause does not stop them (R71, limit 7 of 12). -/
def State.timed (s : State) (k : Nat) : Bool :=
  (s.core k).job.isSome && !(s.core k).frozen && (s.core k).resetting == [] && decide (k < s.nCores)

/-- TALLY_WAIT_TIMEOUT (R438): a TWAIT that has not passed when its timeout expires, elapsed µs after the engine's arrival. [log 3: DESIGN CHOICE, safe] -/
def execTallyWaitTimeout (k : CoreId) (e : Engine) (elapsedUs : Nat) (s : State) : Out :=
  match s.waitAt k e.idx with
  | some (t, v, tmo) =>
    if s.timed k && (Tbl.find (s.core k).waits e.idx).isSome && decide ((s.core k).tally t < v) && decide (tmo ≤ elapsedUs) then
      .next (s.tallyFault k 0x2302 e.idx t false v 0)
    else .next s
  | none => .next s

-- BARC

/-- BARC (R290, R428): the barrier of one named engine passes once its earlier writes have reached their completion points. -/
def execBarc (k : CoreId) (e : Engine) (s : State) : Out :=
  match e with
  | .seq => s.gateOp k (fun o => match o with | .barc m => m.testBit 0 | _ => false) (fun s _ _ _ => ((s.core k).sb == [] && s.windowsDone k, s))
  | .opa =>
    match s.opaHead k with
    | some q =>
      match q.op, (s.core k).drain with
      | .barc _, none => .next (s.setCore k (s.core k).opaPop)
      | _, _ => .next s
    | none => .next s
  | .vec =>
    match s.vecHead k with
    | some q =>
      match q.op with
      | .barc _ => .next (s.setCore k (s.core k).vecPop)
      | _ => .next s
    | none => .next s
  | p =>
    let q := p.idx - 3
    match (s.core k).peelQ q with
    | x :: rest =>
      if s.starts k && x.kind == 2 then .next (s.setCore k (((s.core k).setPeelQ q rest).peelRetired q x.bundle)) else .next s
    | [] => .next s

-- TRANSFERS

/-- XFER (R302, R303): the transfer of R239 is formed from the registers and queued, or raises 0x2502. -/
def execXfer (k : CoreId) (q : PeelId) (s : State) : Out :=
  s.slotOp k (fun _ o => match o with | .xfer p .. => p == q.idx | _ => false) (fun s h o =>
    match o with
    | .xfer p zf loc a d g en t =>
      let r (i : Nat) : Nat := (getS h.sv i).toNat
      let e : PeelEnt :=
        { PeelEnt.blank 0 h.addr with
          src := getS h.sv a, dst := getS h.sv d, len := r g % 2 ^ 32, cnt1 := bitsAt (r g) 32 16, cnt2 := bitsAt (r g) 48 16,
          ss1 := r (g + 1) % 2 ^ 32, ss2 := r (g + 1) / 2 ^ 32, ds1 := r (g + 2) % 2 ^ 32, ds2 := r (g + 2) / 2 ^ 32,
          en := en, tally := t, zf := zf, loc := loc }
      if e.len = 0 ∨ 1048576 < e.len ∨ e.cnt1 = 0 ∨ e.cnt2 = 0 then (false, s.coreFault k 0x2502 (unitOf (3 + p)))
      else
        let c := s.core k
        (true, s.setCore k (c.setPeelQ p (c.peelQ p ++ [e])))
    | _ => (false, s))

/-- Bytes of a transfer. -/
def PeelEnt.total (e : PeelEnt) : Nat := e.len * e.cnt1 * e.cnt2

/-- Run r of a transfer starts at these signed source and destination addresses: the third dimension outermost (R240). -/
def PeelEnt.runAt (e : PeelEnt) (r : Nat) : Int × Int :=
  let c1 := r % e.cnt1
  let c2 := r / e.cnt1
  ((e.src.toNat : Int) + c1 * sgn 32 e.ss1 + c2 * sgn 32 e.ss2, (e.dst.toNat : Int) + c1 * sgn 32 e.ds1 + c2 * sgn 32 e.ds2)

/-- The source is the Granary: SPEEL, or LPEEL with LOCAL (R239). -/
def PeelEnt.fromGrn (e : PeelEnt) (q : Nat) : Bool := !e.zf && (q == 1 || e.loc)

/-- The destination is the Granary: LPEEL, or SPEEL with LOCAL (R239). -/
def PeelEnt.toGrn (e : PeelEnt) (q : Nat) : Bool := q == 0 || e.loc

/-- A run lies in the Granary (R243). -/
def inGranary (a : Int) (n : Nat) : Bool := decide (0 ≤ a) && decide (a + n ≤ grnSize)

/-- Some run of the transfer leaves the Granary (R243). -/
def PeelEnt.leavesGrn (e : PeelEnt) (q : Nat) : Bool :=
  (List.range (e.cnt1 * e.cnt2)).any (fun r =>
    (e.fromGrn q && !inGranary (e.runAt r).1 e.len) || (e.toGrn q && !inGranary (e.runAt r).2 e.len))

/-- A device address of a run, modulo 2^64. -/
def devAddr (a : Int) : Nat := wrap 64 a

/-- A store by a job of partition p to a device address outside the DRAM range reaches a window (R551, R596, R783). -/
def State.windowOk (s : State) (p a n : Nat) : Bool := (inCeWindow a && decide (a + n ≤ 0x1000800800)) || s.ctOk p a n

/-- The first run's device address that the Partition Controller refuses (R243, R496). -/
def State.refusedRun (s : State) (p q : Nat) (e : PeelEnt) : Option Nat :=
  (List.range (e.cnt1 * e.cnt2)).findSome? (fun r =>
    let a := devAddr (e.runAt r).1
    let d := devAddr (e.runAt r).2
    if !e.zf && !e.fromGrn q && !s.jobOk p a e.len false then some a
    else if !e.toGrn q && !(s.jobOk p d e.len true || (q == 1 && s.windowOk p d e.len)) then some d
    else none)

/-- The bytes of a run that one request moves, of up to n asked for from byte o on: the rest of the run, or as many as end at an 8-byte word of both its
source and its destination, so that no aligned word is moved in two parts (R419). -/
def PeelEnt.chunk (e : PeelEnt) (r o n : Nat) : Nat :=
  let left := e.len - o
  let from_ : Int := (e.runAt r).1 + o
  let dst : Int := (e.runAt r).2 + o
  let m := n - ((dst + n) % 8).toNat
  if left ≤ n then left
  else if 0 < m ∧ (dst + m) % 8 = 0 ∧ (e.zf ∨ (from_ + m) % 8 = 0) then m
  else left

/-- n bytes of run r from byte o on are read at their source. -/
def State.peelRead (s : State) (k : CoreId) (q : Nat) (e : PeelEnt) (r o n : Nat) (errs : GrnErrs) : Option (List Byte) × State :=
  let src := (e.runAt r).1 + o
  if e.zf then (some (List.replicate n 0), s)
  else if e.fromGrn q then s.grnRead k (3 + q) src.toNat n errs
  else
    match s.ramRead (.core k (unitOf (3 + q))) (devAddr src) n with
    | (bs, false, s) => (some bs, s)
    | (_, true, s) => (none, s.setCore k { s.core k with frozen := true })

/-- Bytes are written at the destination of run r from byte o on: true where they landed, and the bytes written outside the Granary. -/
def State.peelWrite (s : State) (k : CoreId) (q : Nat) (e : PeelEnt) (r o : Nat) (bs : List Byte) (bad : List Nat) : Bool × List Host.Cell × State :=
  let dst := (e.runAt r).2 + o
  if e.toGrn q then
    match s.grnStore k (3 + q) dst.toNat bs bad with
    | (ok, s) => (ok, [], s)
  else
    let a := devAddr dst
    let out := (numbered bs).map (fun x => (a + x.1, x.2))
    let w : WinWrite := { core := k.val, part := s.jobPart k, addr := a, data := bs }
    if inDram a then (true, out, s.ramWrite (.core k (unitOf (3 + q))) a bs)
    else if inCeWindow a then (true, out, { s with ceWrites := s.ceWrites ++ [w] })
    else (true, out, { s with ctWrites := s.ctWrites ++ [w] })

/-- n bytes of a transfer from byte i on are moved, and counted (R33, R377, R386). -/
def State.peelMove (s : State) (k : CoreId) (q : Nat) (e : PeelEnt) (i n : Nat) (errs : GrnErrs) (bad : List Nat) : Bool × List Host.Cell × State :=
  match s.peelRead k q e (i / e.len) (i % e.len) n errs with
  | (none, s) => (false, [], s)
  | (some bs, s) =>
    match s.peelWrite k q e (i / e.len) (i % e.len) bs bad with
    | (ok, out, s) => (ok, out, if ok then s.setReg64 (kPeel k q 8) (s.reg64 (kPeel k q 8) + BitVec.ofNat 64 n) else s)

/-- The transfer reads, and the transfer writes, device memory. -/
def PeelEnt.loads (e : PeelEnt) (q : Nat) : Bool := !e.zf && !e.fromGrn q
def PeelEnt.storesDram (e : PeelEnt) (q r : Nat) : Bool := !e.toGrn q && inDram (devAddr (e.runAt r).2)

/-- A list of cells in ascending address order, those of one address in the order they were written (R97). -/
def insertCell : Host.Cell → List Host.Cell → List Host.Cell
  | x, [] => [x]
  | x, y :: r => if x.1 < y.1 then x :: y :: r else y :: insertCell x r

/-- Increments still owed to tally t by a peel's earlier transfers (R442). -/
def owed (done : List PeelEnt) (t : Nat) : Nat := (done.filter (fun x => x.en && x.tally == t)).length

/-- The transfer becomes its peel's ISSUING transfer after the checks (R242 to R244, R442, R496): what is raised, or none. -/
def State.startTransfer (s : State) (k : CoreId) (q : Nat) (done : List PeelEnt) (e : PeelEnt) : Option State :=
  let c := s.core k
  let n := c.tally e.tally + owed done e.tally + 1
  let past := match c.bound e.tally with
    | some (p, b) => decide (b + c.tally p < n)
    | none => false
  if e.en && past then some (s.tallyFault k 0x2303 (3 + q) e.tally true n (c.partnerOf e.tally))
  else if e.leavesGrn q then some (s.coreFault k 0x2503 (unitOf (3 + q)))
  else (s.refusedRun (s.jobPart k) q e).map (s.jobRefused k ·)

/-- The ISSUING transfer asks for more of its bytes, within one run.  A DRAM request waits for its admission and for its Request Tag Table entry; a read's
bytes come back later, and every other access takes place now.  The request for the last byte leaves the transfer awaiting
completion. -/
def State.peelAsk (s : State) (k : CoreId) (q : Nat) (done rest : List PeelEnt) (e : PeelEnt) (bytes : Nat) (errs : GrnErrs) (bad : List Nat) : State :=
  let i := e.issued
  let r := i / e.len
  let n := e.chunk r (i % e.len) bytes
  let dram := e.loads q || e.storesDram q r
  let a := devAddr ((if e.loads q then (e.runAt r).1 else (e.runAt r).2) + (i % e.len : Nat))
  match (if dram then s.dramAsk (.peel k q) (s.jobPart k) (linesOf a n) else (true, s)) with
  | (false, s) => s
  | (true, s) =>
    match (if e.loads q then (true, [], s) else s.peelMove k q e i n errs bad) with
    | (false, _, s) => s
    | (true, out, s) =>
      let c := s.core k
      let all := out.foldl (fun l x => insertCell x l) e.out
      let e := { e with issued := i + n, out := all, reqs := if dram then e.reqs ++ [(i, n)] else e.reqs }
      let full := e.issued = e.total
      let e := if full then { e with st := 2, out := [] } else e
      let c := if full then { c with twinCrc := crc32cRun c.twinCrc (all.map (·.2)) } else c
      s.setCore k (c.setPeelQ q (done ++ e :: rest))

/-- The i-th outstanding request of a peel's queue: the entries without it, its transfer, its first byte and its length. -/
def takeReq : List PeelEnt → Nat → Option (List PeelEnt × PeelEnt × Nat × Nat)
  | [], _ => none
  | e :: r, i =>
    match e.reqs[i]? with
    | some x => some ({ e with reqs := e.reqs.eraseIdx i } :: r, e, x)
    | none => (takeReq r (i - e.reqs.length)).map (fun y => (e :: y.1, y.2))

/-- The i-th outstanding request of a peel returns its data, which is written, or its acknowledgement, and frees its entry; during the peel's reset the
data is discarded (R242, R249). -/
def State.peelBack (s : State) (k : CoreId) (q i : Nat) (errs : GrnErrs) (bad : List Nat) : State :=
  match takeReq ((s.core k).peelQ q) i with
  | some (l, e, b, n) =>
    let s' := s.setCore k ((s.core k).setPeelQ q l)
    if (s.core k).resetting.contains (3 + q) then s'
    else if !s.runs k then s
    else if e.loads q then (s'.peelMove k q e b n errs bad).2.2
    else s'
  | none => s

/-- PEEL_TRANSFER_ISSUE (R240, R242 to R244, R442): the peel's next transfer becomes its ISSUING transfer after the checks, and issues a request for some
of its bytes, or goes on issuing; or one of the peel's requests returns. [log 55: DEDUCED, unsafe] -/
def execPeelTransferIssue (k : CoreId) (q : PeelId) (act : PeelAct) (errs : GrnErrs) (bad : List Nat) (s : State) : Out :=
  match act with
  | .back i => .next (s.peelBack k q.idx i errs bad)
  | .ask bytes =>
    let c := s.core k
    match splitPeel (c.peelQ q.idx) with
    | (done, e :: rest) =>
      if !s.starts k || e.kind != 0 then .next s
      else if e.st = 0 then
        match s.startTransfer k q.idx done e with
        | some s => .next s
        | none =>
          let e := { e with st := 1, since := s.tb.ticks }
          .next ((s.setCore k (c.setPeelQ q.idx (done ++ e :: rest))).peelAsk k q.idx done rest e bytes errs bad)
      else .next (s.peelAsk k q.idx done rest e bytes errs bad)
    | _ => .next s

/-- PEEL_TRANSFER_COMPLETE (R241, R441): every byte of the peel's oldest transfer has reached its completion point, and the
named tally is incremented. -/
def execPeelTransferComplete (k : CoreId) (q : PeelId) (s : State) : Out := .next (s.tallyStep k [] [q.idx] false)

/-- PEEL_COMPLETION_TIMEOUT (R248): a transfer is not complete, elapsed µs after it became the ISSUING transfer. -/
def execPeelCompletionTimeout (k : CoreId) (q : PeelId) (elapsedUs : Nat) (s : State) : Out :=
  let c := s.core k
  if s.timed k && (c.peelQ q.idx).any (fun e => e.kind == 0 && (e.st == 1 || e.st == 2)) && decide (c.peelTmo < elapsedUs) then
    .next (s.coreFault k 0x2501 (unitOf (3 + q.idx)))
  else .next s

-- WATCHDOGS

/-- The engine's queue is empty and it executes nothing; SEQ is idle only without a job (R246). -/
def CoreSt.idle (c : CoreSt) (e : Nat) : Bool :=
  if e = 0 then c.job.isNone
  else if e = 1 then c.opaQ == [] && c.drain == none
  else if e = 2 then c.vecQ == []
  else c.peelQ (e - 3) == []

/-- The state that HRT_ENG_STATE shows of an engine. -/
def State.engState (s : State) (k e : Nat) : Nat :=
  let c := s.core k
  if c.resetting.contains e then 7
  else if c.frozen && !c.thawed.contains e then 6
  else if s.paused k then 5
  else if c.idle e then 0
  else if (Tbl.find c.waits e).isSome then 2
  else if e = 0 && c.ended then 4
  else if e = 0 && (match c.bundle with | some h => h.stalled | none => false) then 3
  else 1

/-- HRT_ENG_STATE (06, Registers). -/
def State.engStates (s : State) (k : Nat) : Nat := ((List.range 5).map (fun e => s.engState k e * 16 ^ e)).foldl (· + ·) 0

/-- WATCHDOG_EXPIRY (R245, R246, R836): the engines of the mask that are not idle and have made no progress for their window of
cycles expire together; one 0x2301 goes to the Reeve. -/
def execWatchdogExpiry (k : CoreId) (mask : BitVec 5) (cycles : Nat) (s : State) : Out :=
  let c := s.core k
  let hit := (List.range 5).filter (fun e => mask.getLsbD e && !c.idle e && decide (c.wdog.getD e 0 ≤ cycles))
  match hit with
  | [] => .next s
  | e :: _ =>
    if !s.runs k then .next s
    else
      let last := (hit.map (2 ^ ·)).foldl (· + ·) 0 * 2 ^ 20 + s.engStates k
      .next ((s.setReg (kCore k 8) (BitVec.ofNat 32 last)).coreFault k 0x2301 (unitOf e) (last % 2 ^ 25))

-- THE GRANARY'S OWN WORK

/-- GRANARY_WRITEBACK (R228, R376): the corrected word that has waited longest is written back, unless the core's islands are paused. -/
def execGranaryWriteback (k : CoreId) (s : State) : Out :=
  let g := (s.core k).grn
  match g.wb with
  | _ :: rest => if s.paused k then .next s else .next (s.setGrn k { g with wb := rest })
  | [] => .next s

/-- The offset of the line at a bank's row (R370): the bank is A[10:6] XOR A[15:11]. -/
def lineOf (bank row : Nat) : Nat := row * 2048 + (bank ^^^ row % 32) * 64

/-- GRN_SCRUB_PASSES counts a pass when the bank that lags ends its walk (R378). [log 60: DEDUCED, unsafe] -/
def State.scrubbed (s : State) (k bank : Nat) : State :=
  let g := (s.core k).grn
  let n (t : Tbl Nat) : Nat := ((List.range 32).map (fun b => Tbl.getD t b 0 / 2048)).foldl min (Tbl.getD t 0 0 / 2048)
  let t := Tbl.put g.scrub bank (Tbl.getD g.scrub bank 0 + 1)
  let s := s.setGrn k { g with scrub := t }
  if n g.scrub < n t then s.wrapUp (kGrn k 8) else s

/-- GRANARY_SCRUB (R228, R378, R379): a bank's scrubber reads its next line, while no correction waits and the core's islands run; errs is what SECDED
reports of the Granary's words. -/
def execGranaryScrub (k : CoreId) (bank : Fin 32) (errs : GrnErrs) (s : State) : Out :=
  let g := (s.core k).grn
  if g.wb != [] || s.paused k || !decide (k.val < s.nCores) then .next s
  else
    let a := lineOf bank (Tbl.getD g.scrub bank 0 % 2048)
    let hit := errsIn errs a 64
    let s := (hit.filter (fun x => !x.2)).foldl (fun s x => s.grnCorrected k x.1) (s.scrubbed k bank)
    if hit.any (·.2) then
      let s := s.bump (kGrn k 4)
      if (s.pageOwner k (a / 4096)).isSome then .next (s.jobFault 0x3201 (srcCore k .granary))
      else .next (s.grnZero k a 64)
    else .next s

/-- GRN_OWN_CLEAR (R395, R748): a write of 1 empties the ownership log. -/
def execGrnOwnClear (fn : Fn) (v : Word) (s : State) : Out :=
  if s.turnsAway fn then .next (s.turnedAway fn) else
  if fn.val = 0 ∧ s.flag (fIslOff 0) then .next (s.on ⟨0x5000C, 0, 1⟩) else
  if fn.val = 0 ∧ v.getLsbD 0 then
    .next ((((List.range 16).flatMap (fun i => (List.range 4).map (fun j => 0x50200 + 16 * i + 4 * j))).foldl (fun s a => s.setReg a 0) s).put fOwnValid 0)
  else .next s

end Sys2Proof.Machine
end

