-- ==== Sys2Proof/Machine/Timebase.lean ====
section
/-! DEFINITION. The Device Timebase: count, discipline, frame grid, frame deadline timers, stamps and the cross-check
(02_time_and_deadlines.md). -/

namespace Sys2Proof.Machine

def kTbCtrl : Nat := 0x1000
def fTbSrc : Fld := ⟨0x1000, 0, 3⟩
def fTbPort : Fld := ⟨0x1000, 4, 3⟩
def fFrameEn : Fld := ⟨0x1000, 8, 1⟩
def fServeMask : Fld := ⟨0x1000, 12, 4⟩
def fTbState : Fld := ⟨0x1004, 0, 2⟩
def fStepped : Fld := ⟨0x1004, 2, 1⟩
def fSlewing : Fld := ⟨0x1004, 3, 1⟩
def fHoldExpired : Fld := ⟨0x1004, 4, 1⟩
def fXchkFail : Fld := ⟨0x1004, 5, 1⟩
def fPeriodPending : Fld := ⟨0x1004, 6, 1⟩
def fTbRejected : Fld := ⟨0x1004, 7, 1⟩
def kTbSetLo : Nat := 0x1010
def kTbOffset : Nat := 0x1018
def kHoldLimit : Nat := 0x1020
def kFramePeriod : Nat := 0x1030
def kFrameApply : Nat := 0x1034
def kFrameNum : Nat := 0x1038
def kFrameEpoch : Nat := 0x1040
def kFrameBase : Nat := 0x1048
def kPpsStamp : Nat := 0x1050
def kTrigStamp (i : Nat) : Nat := 0x1060 + 8 * i
def fFdlEn (k : Nat) : Fld := ⟨0x1100 + 16 * k, 31, 1⟩
def fFdlMode (k : Nat) : Fld := ⟨0x1100 + 16 * k, 30, 1⟩
def fFdlPart (k : Nat) : Fld := ⟨0x1100 + 16 * k, 27, 3⟩
def fFdlOffset (k : Nat) : Fld := ⟨0x1100 + 16 * k, 0, 18⟩
def kFdlMiss (k : Nat) : Nat := 0x1104 + 16 * k
def kFdlLate (k : Nat) : Nat := 0x1108 + 16 * k
def kFdlStray (k : Nat) : Nat := 0x110C + 16 * k

/-- Timebase states (R46). -/
def tbFree : Nat := 0
def tbAcquire : Nat := 1
def tbLocked : Nat := 2
def tbHoldover : Nat := 3

/-- The source of a Timebase event (R613, UNIT 5): a frame deadline timer, or 15 for the Timebase. -/
def srcTb (i : Nat) : BitVec 16 := srcOf 5 i 0

/-- The Timebase part of the state. -/
def State.setTb (s : State) (t : Timebase) : State := { s with tb := t }

/-- ±500 ppm of a 40 ns tick, in units of 2^-32 ns, rounded toward zero (R49). -/
def maxCorrection : Int := 85899345

/-- The total correction of one tick: servo and slew together within ±500 ppm (R49). -/
def Timebase.correction (t : Timebase) : Int := clamp maxCorrection (t.servo + t.slew)

/-- The offset left to slew once one tick has taken its share (R48, R49). [log 14: DESIGN CHOICE, unsafe] -/
def Timebase.slewAfter (t : Timebase) : Int := t.slew - (t.correction - clamp maxCorrection t.servo)

/-- The count one 40 ns tick later: 40 ns plus the signed correction (R45). -/
def Timebase.tick (t : Timebase) : Timebase :=
  let c : Int := (t.ns.toNat : Int) * 2 ^ 32 + t.frac + 40 * 2 ^ 32 + t.correction
  { t with ns := BitVec.ofInt 64 (c / 2 ^ 32), frac := (c % 2 ^ 32).toNat, slew := t.slewAfter, ticks := t.ticks + 1 }

/-- Byte 12 of a timestamp record taken now: STATE, slewing, and XCHK_FAIL (R58). -/
def State.stampByte (s : State) : Nat := s.get fTbState + 4 * s.get fSlewing + 8 * s.get fXchkFail

/-- The history of that byte, with its value now (R58). -/
def State.noted (s : State) : State :=
  if (match s.tb.past with | (_, b) :: _ => b | [] => 0) = s.stampByte then s
  else s.setTb { s.tb with past := (s.now, s.stampByte) :: s.tb.past }

/-- TIMEBASE_TICK (R45). -/
def execTimebaseTick (s : State) : Out :=
  let s' := s.setTb s.tb.tick
  .next (s'.put fSlewing (b2n (s'.tb.slew != 0))).noted

/-- So many ticks have passed since power-on reset: what a timer on the Timebase waits for, whatever steps the count has made meanwhile
(R823). -/
def State.reachTick (s : State) (n : Nat) : State :=
  if n ≤ s.tb.ticks then s else s.setTb { s.tb with ns := s.tb.ns + BitVec.ofNat 64 (40 * (n - s.tb.ticks)), ticks := n }

/-- The Timebase has reached a value: it holds at least that value, and the ticks up to it have passed (R50, R70). -/
def State.reach (s : State) (t : Nat) : State :=
  if t ≤ s.now then s
  else s.setTb { s.tb with ns := BitVec.ofNat 64 t, frac := 0, ticks := s.tb.ticks + (t - s.now + 39) / 40 }

-- DISCIPLINE

/-- The Timebase enters a state (R46); an entry to ACQUIRE restarts the counts and awaits a first measurement (R47). -/
def State.tbEnter (s : State) (st : Nat) : State :=
  let t := s.tb
  let t' := if st = tbAcquire then { t with good := 0, poor := 0, firstDue := true }
    else if st = tbHoldover then
      { t with servo := if t.recent = [] then t.servo else t.recent.foldl (· + ·) 0 / (t.recent.length : Int), slew := 0 }
    else if st = tbFree then { t with slew := 0 }
    else { t with good := 0, poor := 0 }
  ((s.setTb t').put fTbState st |>.put fSlewing (b2n (t'.slew != 0))).noted

/-- TB_OFFSET: signed, saturating at ±(2^31 - 1). [log 12: DEDUCED, unsafe] -/
def offsetWord (off : Int) : Word := BitVec.ofInt 32 (clamp 2147483647 off)

/-- The counts of consecutive measurements with one more (R46). [log 15: DEDUCED, unsafe] -/
def Timebase.counted (t : Timebase) (off : Int) : Timebase :=
  if off.natAbs ≤ 1000 then { t with good := t.good + 1, poor := 0 } else { t with good := 0, poor := t.poor + 1 }

/-- The transitions that eight consecutive measurements cause (R46). -/
def State.tbSettle (s : State) : State :=
  if s.get fTbState = tbAcquire ∧ 8 ≤ s.tb.good then s.tbEnter tbLocked
  else if s.get fTbState = tbLocked ∧ 8 ≤ s.tb.poor then s.tbEnter tbAcquire
  else s

/-- The servo after a measurement: a free value within ±500 ppm, kept among the latest 16 (R46, R49). [log 13: DEDUCED, safe] -/
def State.servoed (s : State) : State :=
  let c := clamp maxCorrection (sgn 32 s.free)
  (s.setTb { s.tb with servo := c, recent := (c :: s.tb.recent).take 16 }).drawn

/-- The step of R47, signalled to Hedgerow (R824): the offset is removed at once. -/
def State.tbStep (s : State) (off : Int) : State :=
  (s.setTb { s.tb with ns := BitVec.ofInt 64 ((s.tb.ns.toNat : Int) + off), slew := 0, voidWindow := true }).on fStepped

/-- A valid offset measurement, source time minus device time in ns (OFFSET_MEASUREMENT; R46 to R49). [log 130: DEDUCED, unsafe] -/
def State.measure (s : State) (off : Int) : State :=
  if s.get fTbSrc = 0 then s
  else
    let s := s.setReg kTbOffset (offsetWord off)
    let s := if s.get fTbState = tbFree ∨ s.get fTbState = tbHoldover then s.tbEnter tbAcquire else s
    let first := s.tb.firstDue
    let s := s.setTb ({ s.tb with firstDue := false }.counted off)
    let s := s.servoed
    let s :=
      if first ∧ ¬ s.flag fFrameEn then s.tbStep off
      else s.setTb { s.tb with slew := off * 2 ^ 32 }
    let s := if s.flag fFrameEn ∧ 100000000 < off.natAbs then s.report 0x8303 (srcTb 15) else s
    let s := (s.put fSlewing (b2n (s.tb.slew != 0))).noted
    s.tbSettle

/-- A discipline message or PPS edge rejected (R74, R76). -/
def State.tbMessageRejected (s : State) (detail : List Byte) : State := s.violation 0x8306 (srcTb 15) detail

/-- The distance of a stamp to the nearest whole second, as source time minus device time (02, Discipline). -/
def ppsOffset (stamp : Nat) : Int :=
  let r := stamp % 1000000000
  if r ≤ 500000000 then -(r : Int) else (1000000000 - r : Int)

/-- A PPS edge more than 1 ms from a whole second: in LOCKED it yields no measurement, is logged, and counts as one above
1,000 ns (limit 4 of 02). -/
def State.ppsFar (s : State) (detail : List Byte) : State :=
  ((s.tbMessageRejected detail).setTb { s.tb with good := 0, poor := s.tb.poor + 1 }).tbSettle

/-- An edge's level held for so many ns: accepted from 60 ns, ignored below 50 ns, either way between (R716). -/
def State.filterAccepts (s : State) (heldNs : Nat) : Bool :=
  if 60 ≤ heldNs then true else if heldNs < 50 then false else s.free % 2 == 1

/-- The count of free values once the filter has judged an edge (R716). -/
def State.filtered (s : State) (heldNs : Nat) : State := if 50 ≤ heldNs ∧ heldNs < 60 then s.drawn else s

def kPinGlitch : Nat := 0x43804

/-- A stamp of what came `agoNs` before now: within ±w ns of the Timebase value then. [log 16: DEDUCED, safe] -/
def State.stampWithin (s : State) (w agoNs : Nat) : Nat := ((s.now : Int) - agoNs + ((s.free / 2 % (2 * w + 1) : Nat) : Int) - w).toNat

/-- A stamp of an edge or of an Ethernet start of frame (R41). -/
def State.stampOf (s : State) (agoNs : Nat) : Nat := s.stampWithin 8 agoNs

/-- PPS_EDGE: a rising edge at PPS_IN whose level has held heldNs, by now (R716, R828, limit 4 of 02); a rejected one has no header, and its
stamp is the detail that the violation log takes. [log 132: DESIGN CHOICE, unsafe] -/
def execPpsEdge (heldNs : Nat) (s : State) : Out :=
  if s.filterAccepts heldNs then
    let stamp := s.stampOf heldNs
    let s' := s.drawn.setReg64 kPpsStamp (BitVec.ofNat 64 stamp)
    if s.get fTbSrc = 3 then
      let off := ppsOffset stamp
      if s.get fTbState = tbLocked ∧ 1000000 < off.natAbs then .next (s'.ppsFar (leBytes 8 stamp)) else .next (s'.measure off)
    else .next s'
  else .next ((s.filtered heldNs).bump kPinGlitch)

/-- A message of a kind is in sequence: a follow-up bears the number of the message it completes and comes once; any other message is newer
than the latest of its kind, a gap being no breach (R74). [log 131: DESIGN CHOICE, unsafe] -/
def Timebase.inSequence (t : Timebase) (kind : TimeKind) (seq : BitVec 16) : Bool :=
  let last (k : TimeKind) : Option Nat := Tbl.find t.seqs k.idx
  match kind with
  | .followUp => last .sync == some seq.toNat && last .followUp != some seq.toNat
  | .pdelayFollowUp => last .pdelayResp == some seq.toNat && last .pdelayFollowUp != some seq.toNat
  | k =>
    match last k with
    | none => true
    | some l => seq != BitVec.ofNat 16 l && decide ((seq - BitVec.ofNat 16 l).toNat < 32768)

/-- DISCIPLINE_MESSAGE: a gPTP or PTP message came in on a port; a valid one that completes a measurement carries its
offset in ns (R46, R73, R74).  A well-formed message of the selected port sets the number that later ones are held against, in sequence or not. -/
def execDisciplineMessage (gptp : Bool) (port : Fin 5) (kind : TimeKind) (wellFormed : Bool) (seq : BitVec 16) (offset : Option Int) (bytes : List Byte)
    (s : State) : Out :=
  let selected := decide (s.get fTbSrc = (if gptp then 1 else 2)) && decide (s.get fTbPort = port.val)
  if !(selected && wellFormed) then .next (s.tbMessageRejected bytes)
  else
    let s' := s.setTb { s.tb with seqs := Tbl.put s.tb.seqs kind.idx seq.toNat }
    if !s.tb.inSequence kind seq then .next (s'.tbMessageRejected bytes)
    else
      match offset with
      | some off => .next (s'.measure off)
      | none => .next s'

/-- MEASUREMENT_LOSS_EXPIRY: no valid measurement for so many ms (R46, R76). -/
def execMeasurementLossExpiry (elapsedMs : Nat) (s : State) : Out :=
  if 3000 ≤ elapsedMs ∧ (s.get fTbState = tbAcquire ∨ s.get fTbState = tbLocked) then
    .next ((s.tbEnter tbHoldover).report 0x8301 (srcTb 15))
  else .next s

/-- HOLDOVER_LIMIT_EXPIRY: so many s in HOLDOVER (R46, R76). -/
def execHoldoverLimitExpiry (elapsedS : Nat) (s : State) : Out :=
  if (s.reg kHoldLimit).toNat ≤ elapsedS ∧ s.get fTbState = tbHoldover then
    .next (((s.tbEnter tbFree).on fHoldExpired).report 0x8302 (srcTb 15))
  else .next s

-- FRAME GRID

/-- The period in force, in ns. -/
def State.period (s : State) : Nat := (s.reg kFramePeriod).toNat

/-- The Timebase value of boundary n (R50). -/
def State.boundaryAt (s : State) (n : Nat) : Nat := (s.reg64 kFrameEpoch).toNat + (n - s.tb.base) * s.period

/-- What hangs on the frame numbers of the old grid leaves the Mill: windows, the numbers begun, the groups' next frames
(R157, R160, R170). -/
def State.millGrid (s : State) : State :=
  let strm (st : StreamSt) : StreamSt := { st with windows := [], begun := [], listAt := [] }
  let grp (g : GroupSt) : GroupSt := { g with next := none, closedAt := [], missed := [], absent := [] }
  { s with mill := { s.mill with streams := s.mill.streams.map (fun e => (e.1, strm e.2)), groups := s.mill.groups.map (fun e => (e.1, grp e.2)) } }

/-- Frames enabled: base 0, and the first boundary at the first grid point at or after the later of the epoch and the
Timebase value (R52). -/
def State.framesOn (s : State) : State :=
  let e := (s.reg64 kFrameEpoch).toNat
  let n := if s.now ≤ e then 0 else (s.now - e + s.period - 1) / s.period
  (s.millGrid.setTb { s.tb with base := 0, next := n, prev := [], begun := false, slots := [] }).setReg kFrameBase 0

/-- Frames disabled: the pending period, an accepted apply and every armed slot are discarded (R825, limit 11 of 02); a slot that has missed
stays one that has missed (R66). -/
def State.framesOff (s : State) : State :=
  (s.millGrid.setTb { s.tb with pendPeriod := none, applyAt := none, slots := [], begun := false }).off fPeriodPending

/-- What a change of SRC or PORT does to the state machine (R46). -/
def State.sourceChanged (s : State) (oldSrc oldPort : Nat) : State :=
  let src := s.get fTbSrc
  if src = 0 then (if s.get fTbState = tbFree then s else s.tbEnter tbFree)
  else if s.get fTbPort = oldPort ∧ (src = oldSrc ∨ oldSrc = 0) then s
  else
    let s := s.setTb { s.tb with seqs := [] }
    if s.get fTbState = tbLocked ∨ s.get fTbState = tbHoldover then s.tbEnter tbAcquire
    else if s.get fTbState = tbAcquire then s.setTb { s.tb with good := 0, poor := 0 }
    else s

/-- A write that the Timebase rejects (R78). -/
def State.tbReject (s : State) : State := s.on fTbRejected

/-- A physical-function write to TB_CTRL: SRC 4 to 7 and PORT 5 to 7 are rejected; then the source change and the change
of FRAME_EN take effect (R46, R52, R78, R825). -/
def State.tbCtrlWrite (s : State) (fn : Fn) (v : Word) : State :=
  if fn ≠ 0 then s
  else if 3 < fTbSrc.ofWord v ∨ 4 < fTbPort.ofWord v then s.tbReject
  else
    let s' := s.setReg kTbCtrl (v &&& 0xF177#32)
    let s' := s'.sourceChanged (s.get fTbSrc) (s.get fTbPort)
    if s'.flag fFrameEn ∧ ¬ s.flag fFrameEn then s'.framesOn
    else if s.flag fFrameEn ∧ ¬ s'.flag fFrameEn then s'.framesOff
    else s'

/-- FRAME_ENABLE: a write to TB_CTRL that sets FRAME_EN (R52). -/
def execFrameEnable (fn : Fn) (v : Word) (s : State) : Out :=
  if s.turnsAway fn then .next (s.turnedAway fn) else
  if fFrameEn.ofWord v = 1 ∧ ¬ s.flag fFrameEn then .next (s.tbCtrlWrite fn v) else .next s

/-- FRAME_DISABLE: a write to TB_CTRL that clears FRAME_EN (R825). -/
def execFrameDisable (fn : Fn) (v : Word) (s : State) : Out :=
  if s.turnsAway fn then .next (s.turnedAway fn) else
  if fFrameEn.ofWord v = 0 ∧ s.flag fFrameEn then .next (s.tbCtrlWrite fn v) else .next s

/-- TB_SOURCE_CHANGE: a write to TB_CTRL that leaves FRAME_EN as it is and changes SRC or PORT (R46). -/
def execTbSourceChange (fn : Fn) (v : Word) (s : State) : Out :=
  if s.turnsAway fn then .next (s.turnedAway fn) else
  if (fFrameEn.ofWord v = 1 ↔ s.flag fFrameEn) ∧ (fTbSrc.ofWord v ≠ s.get fTbSrc ∨ fTbPort.ofWord v ≠ s.get fTbPort) then
    .next (s.tbCtrlWrite fn v)
  else .next s

/-- The low word that a requester's write to a _HI half uses: the held one, else the one given (R16). [log 85: DEDUCED, unsafe] -/
def State.loFor (s : State) (fn : Fn) (hiOff : Nat) (dflt : Word) : Word := Tbl.getD s.loHeld (own fn hiOff) dflt

/-- The requester holds no low word any more (R16). -/
def State.loTaken (s : State) (fn : Fn) (hiOff : Nat) : State := { s with loHeld := Tbl.drop s.loHeld (own fn hiOff) }

/-- TB_SET: a write of TB_SET_HI sets the Timebase with the held TB_SET_LO, and signals Hedgerow; rejected while
FRAME_EN is 1 (R16, R45, R78, R824, limit 3 of 02). -/
def execTbSet (fn : Fn) (hi : Word) (s : State) : Out :=
  if s.turnsAway fn then .next (s.turnedAway fn) else
  if fn ≠ 0 then .next s
  else if s.flag fFrameEn then .next (s.tbReject.loTaken fn 0x1014)
  else
    let lo := s.loFor fn 0x1014 0
    .next ((s.setTb { s.tb with ns := BitVec.append hi lo, frac := 0, voidWindow := true }).loTaken fn 0x1014)

/-- The frame deadline timers that are enabled. -/
def State.fdlEnabled (s : State) : List Nat := (List.range 8).filter (fun k => s.flag (fFdlEn k))

/-- Every enabled frame deadline offset is less than twice a period in ns (R55, R826). -/
def State.offsetsFit (s : State) (period : Nat) : Bool :=
  s.fdlEnabled.all (fun k => decide (s.get (fFdlOffset k) * 1000 < 2 * period))

/-- The range of TB_FRAME_PERIOD (R51). -/
def periodInRange (v : Word) : Bool := decide (16666666 ≤ v.toNat) && decide (v.toNat ≤ 100000000)

/-- TB_FRAME_PERIOD_WRITE (R51, R53, R826). -/
def State.framePeriodWrite (s : State) (fn : Fn) (v : Word) : State :=
  if fn ≠ 0 then s
  else if !periodInRange v then s.tbReject
  else if s.flag fFrameEn then
    if s.tb.applyAt.isSome then s.tbReject
    else (s.setTb { s.tb with pendPeriod := some v }).on fPeriodPending
  else if s.offsetsFit v.toNat then s.setReg kFramePeriod v
  else s.tbReject

def execTbFramePeriodWrite (fn : Fn) (v : Word) (s : State) : Out :=
  if s.turnsAway fn then .next (s.turnedAway fn) else
  .next (s.framePeriodWrite fn v)

/-- The value lies from TB_FRAME_NUM + 2 to TB_FRAME_NUM + 1,000,000 modulo 2^32 (R55). -/
def State.applyInRange (s : State) (v : Word) : Bool :=
  let d := (v - s.reg kFrameNum).toNat
  decide (2 ≤ d) && decide (d ≤ 1000000)

/-- TB_FRAME_APPLY_WRITE: fixes the apply boundary, or is rejected; a rejection under R55 discards the pending period, one
under R53 does not (R53, R55). -/
def State.frameApplyWrite (s : State) (fn : Fn) (v : Word) : State :=
  if fn ≠ 0 then s
  else if s.tb.applyAt.isSome then s.tbReject
  else
    match s.tb.pendPeriod with
    | some p =>
      if s.applyInRange v && s.offsetsFit p.toNat then (s.setTb { s.tb with applyAt := some v }).setReg kFrameApply v
      else ((s.setTb { s.tb with pendPeriod := none }).off fPeriodPending).tbReject
    | none => s.tbReject

def execTbFrameApplyWrite (fn : Fn) (v : Word) (s : State) : Out :=
  if s.turnsAway fn then .next (s.turnedAway fn) else
  .next (s.frameApplyWrite fn v)

/-- TB_FDL_CFG_WRITE: with EN 1 the offset must lie from 100 to less than twice the period in force; the MODE of a timer of
the perception partition is forced to 0 (R65, R827). -/
def State.fdlCfgWrite (s : State) (fn : Fn) (k : Fin 8) (v : Word) : State :=
  if fn ≠ 0 then s
  else
    let off := (fFdlOffset k.val).ofWord v
    if (fFdlEn k.val).ofWord v = 1 ∧ ¬ (100 ≤ off ∧ off * 1000 < 2 * s.period) then s.tbReject
    else
      let s' := s.setReg (0x1100 + 16 * k.val) (v &&& 0xF803FFFF#32)
      if (fFdlPart k.val).ofWord v = s.perc then s'.off (fFdlMode k.val) else s'

def execTbFdlCfgWrite (fn : Fn) (k : Fin 8) (v : Word) (s : State) : Out :=
  if s.turnsAway fn then .next (s.turnedAway fn) else
  .next (s.fdlCfgWrite fn k v)

/-- The timer acts in FAULT mode (R64, R65). -/
def State.fdlFaults (s : State) (k : Nat) : Bool := s.get (fFdlPart k) == s.perc || !s.flag (fFdlMode k)

/-- A slot for frame n of every enabled timer, its deadline counted from the boundary (FRAME_DEADLINE_ARM; R62); slots
satisfied and past are forgotten, and so is an earlier miss of the slot armed anew. -/
def State.armSlots (s : State) (n : Word) (at_ : Nat) : State :=
  let fresh := s.fdlEnabled.map (fun k => FdlSlot.mk k n (at_ + s.get (fFdlOffset k) * 1000) false)
  s.setTb { s.tb with slots := s.tb.slots.filter (fun sl => !(sl.satisfied && decide (sl.deadline < at_))) ++ fresh,
                      missed := s.tb.missed.filter (fun m => !fresh.any (fun sl => sl.timer == m.1 && sl.frame == m.2)) }

/-- Every armed slot is discarded (limit 9 of 02). -/
def State.discardSlots (s : State) : State := s.setTb { s.tb with slots := [] }

/-- The grid at boundary n, that lies at t (R50, R54): the number, and a period whose apply boundary this is. [log 17: DESIGN CHOICE, unsafe] -/
def State.gridAdvance (s : State) (n t : Nat) : State :=
  let num : Word := BitVec.ofNat 32 n
  let s := (s.setTb { s.tb with next := n + 1, begun := true, firstAt := if s.tb.begun then s.tb.firstAt else t }).setReg kFrameNum num
  match s.tb.applyAt, s.tb.pendPeriod with
  | some a, some p =>
    if a = num then
      (((s.setTb { s.tb with base := n, applyAt := none, pendPeriod := none, prev := ((s.reg64 kFrameEpoch).toNat, s.tb.base, s.period) :: s.tb.prev }).setReg64 kFrameEpoch (BitVec.ofNat 64 t)).setReg
        kFrameBase num |>.setReg kFramePeriod p).off fPeriodPending
    else s
  | _, _ => s

/-- A job's frame-done mark (k, n) at a retirement with success at Timebase value t, compared with the deadline at 1 µs
resolution (FRAME_DONE_MARK; R63, R66, limit 5 of 02). -/
def State.frameDone (s : State) (k : Nat) (n : Word) (t : Nat) : State :=
  match s.tb.slots.find? (fun sl => sl.timer == k && sl.frame == n) with
  | some sl =>
    if t / 1000 ≤ sl.deadline / 1000 then
      s.setTb { s.tb with slots := s.tb.slots.map (fun x => if x.timer = k ∧ x.frame = n then { x with satisfied := true } else x) }
    else if sl.satisfied then s.bump (kFdlStray k) else s.bump (kFdlLate k)
  | none => if s.tb.missed.contains (k, n) then s.bump (kFdlLate k) else s.bump (kFdlStray k)

/-- The oldest slot of timer k that nothing has satisfied. -/
def State.dueSlot (s : State) (k : Nat) : Option FdlSlot := s.tb.slots.find? (fun sl => sl.timer == k && !sl.satisfied)

/-- The slot leaves the armed ones and counts among the missed (R64). -/
def State.slotMissed (s : State) (sl : FdlSlot) : State :=
  s.setTb { s.tb with slots := s.tb.slots.filter (· != sl), missed := s.tb.missed ++ [(sl.timer, sl.frame)] }

/-- The frame number of the latest boundary at or before a Timebase value; all ones where there is none (R58). [log 18: DEDUCED, unsafe] -/
def State.frameAt (s : State) (t : Nat) : Nat :=
  let grids := ((s.reg64 kFrameEpoch).toNat, s.tb.base, s.period) :: s.tb.prev
  if !s.flag fFrameEn || !s.tb.begun || decide (t < s.tb.firstAt) then 0xFFFFFFFF
  else
    match grids.find? (fun g => decide (g.1 ≤ t)) with
    | some (e, b, p) => (b + (t - e) / p) % 2 ^ 32
    | none => 0xFFFFFFFF

/-- The Timebase value of boundary n, on the grid that holds it (R50, R53). -/
def State.boundaryOf (s : State) (n : Nat) : Nat :=
  match (((s.reg64 kFrameEpoch).toNat, s.tb.base, s.period) :: s.tb.prev).find? (fun g => decide (g.2.1 ≤ n)) with
  | some (e, b, p) => e + (n - b) * p
  | none => s.boundaryAt n

/-- What byte 12 of a record held at a Timebase value: the latest entry of its history at or before that value, FREE before the first one
(R58). [log 133: DEDUCED, unsafe] -/
def State.stampByteAt (s : State) (t : Nat) : Nat :=
  match s.tb.past.find? (fun e => decide (e.1 ≤ t)) with
  | some (_, b) => b
  | none => 0

/-- The timestamp record of a Timebase value (R58). -/
def State.stampRecord (s : State) (t : Nat) (method : Nat) : List Byte :=
  leBytes 8 t ++ leBytes 4 (s.frameAt t) ++
    leBytes 1 (s.stampByteAt t) ++ leBytes 1 method ++ leBytes 2 0

/-- TB_RATE: the rate correction in units of 1/1,024 ppb, signed. -/
def Timebase.rateWord (t : Timebase) : Word := BitVec.ofInt 32 (t.correction * 1024000000000 / (40 * 2 ^ 32))

/-- TB_CROSSCHECK_WINDOW: one 5 ms Hedgerow window ends with the Timebase advanced by so many ns (R75, R824). -/
def execTbCrosscheckWindow (advanceNs : Int) (s : State) : Out :=
  if s.tb.voidWindow then .next (s.setTb { s.tb with voidWindow := false })
  else if 10000 < (advanceNs - 5000000).natAbs then
    .next ((s.on fXchkFail).noted.heldFault 0x8304 (srcOf 8 0 0))
  else .next s

end Sys2Proof.Machine
end

