-- ==== Sys2Proof/Machine/MillBase.lean ====
section
/-! DEFINITION. The Mill's registers, slots, frames and what closes a frame (04_sensor_intake.md). -/

namespace Sys2Proof.Machine

def fMillRejected : Fld := ⟨0x10000, 0, 1⟩
def kMillCe : Nat := 0x10004
def kRecoveryDrops : Nat := 0x10008
def fPortEn (p : Nat) : Fld := ⟨0x10010 + 4 * p, 31, 1⟩
def fErrThresh (p : Nat) : Fld := ⟨0x10010 + 4 * p, 8, 8⟩
def fI2cSpeed (p : Nat) : Fld := ⟨0x10010 + 4 * p, 0, 2⟩
def fPortState (p : Nat) : Fld := ⟨0x10020 + 4 * p, 0, 2⟩
def fPortEntry (p : Nat) : Fld := ⟨0x10020 + 4 * p, 2, 2⟩
def fLaneOk (p : Nat) : Fld := ⟨0x10020 + 4 * p, 4, 4⟩
def fDowngrades (p : Nat) : Fld := ⟨0x10020 + 4 * p, 8, 8⟩
def kPortErrs (p : Nat) : Nat := 0x10030 + 4 * p
def fModeValid (p m : Nat) : Fld := ⟨0x10040 + 16 * p + 4 * m, 31, 1⟩
def fModePhy (p m : Nat) : Fld := ⟨0x10040 + 16 * p + 4 * m, 30, 1⟩
def fModeWidth (p m : Nat) : Fld := ⟨0x10040 + 16 * p + 4 * m, 28, 2⟩
def fModeScript (p m : Nat) : Fld := ⟨0x10040 + 16 * p + 4 * m, 0, 16⟩
def fI2cState (p : Nat) : Fld := ⟨0x10090 + 4 * p, 0, 2⟩
def fI2cFailed (p : Nat) : Fld := ⟨0x10090 + 4 * p, 16, 16⟩
def fTrigEn (i : Nat) : Fld := ⟨0x10100 + 16 * i, 31, 1⟩
/-- POL: 0 for a pulse that is active high. -/
def fTrigPol (i : Nat) : Fld := ⟨0x10100 + 16 * i, 30, 1⟩
def fTrigDiv (i : Nat) : Fld := ⟨0x10100 + 16 * i, 16, 4⟩
def fTrigWidth (i : Nat) : Fld := ⟨0x10100 + 16 * i, 0, 10⟩
def kTrigOffset (i : Nat) : Nat := 0x10104 + 16 * i
def kTrigMissed (i : Nat) : Nat := 0x10108 + 16 * i
def kTrigFired (i : Nat) : Nat := 0x1010C + 16 * i
def fGrpEn (g : Nat) : Fld := ⟨0x10200 + 32 * g, 31, 1⟩
def fGrpFree (g : Nat) : Fld := ⟨0x10200 + 32 * g, 30, 1⟩
def fCollectUs (g : Nat) : Fld := ⟨0x10200 + 32 * g, 0, 24⟩
def kGrpRing (g : Nat) : Nat := 0x10204 + 32 * g
def kGrpRingSize (g : Nat) : Nat := 0x1020C + 32 * g
def kGrpHead (g : Nat) : Nat := 0x10210 + 32 * g
def kGrpTail (g : Nat) : Nat := 0x10214 + 32 * g
def kGrpStalls (g : Nat) : Nat := 0x10218 + 32 * g
/-- A register of stream context k. -/
def kStrm (k off : Nat) : Nat := 0x11000 + 64 * k + off
def fStrmEn (k : Nat) : Fld := ⟨kStrm k 0, 31, 1⟩
def fStrmGroup (k : Nat) : Fld := ⟨kStrm k 0, 27, 3⟩
def fStrmTrig (k : Nat) : Fld := ⟨kStrm k 0, 20, 4⟩
def fStrmMethod (k : Nat) : Fld := ⟨kStrm k 0, 16, 3⟩
def fStrmSlots (k : Nat) : Fld := ⟨kStrm k 0, 8, 8⟩
def fSrcDt (k : Nat) : Fld := ⟨kStrm k 4, 4, 6⟩
def fSrcVc (k : Nat) : Fld := ⟨kStrm k 4, 0, 4⟩
def fSrcPort (k : Nat) : Fld := ⟨kStrm k 4, 16, 16⟩
def fSrcMac (k : Nat) : Fld := ⟨kStrm k 4, 0, 2⟩
def kStrmIp (k : Nat) : Nat := kStrm k 8
def kStrmOffset (k : Nat) : Nat := kStrm k 0xC
def fStale (k : Nat) : Fld := ⟨kStrm k 0x10, 0, 20⟩
def fPlaus (k : Nat) : Fld := ⟨kStrm k 0x14, 0, 16⟩
def fFrameTimeout (k : Nat) : Fld := ⟨kStrm k 0x18, 16, 16⟩
def fTrigWindow (k : Nat) : Fld := ⟨kStrm k 0x18, 0, 16⟩
def fTableBase (k : Nat) : Fld := ⟨kStrm k 0x1C, 12, 12⟩
def fParserStart (k : Nat) : Fld := ⟨kStrm k 0x1C, 0, 12⟩
def kStrmOut (k : Nat) : Nat := kStrm k 0x20
def kSlotSize (k : Nat) : Nat := kStrm k 0x28
def kRelease (k : Nat) : Nat := kStrm k 0x2C
def fGeomH (k : Nat) : Fld := ⟨kStrm k 0x30, 16, 16⟩
def fGeomW (k : Nat) : Fld := ⟨kStrm k 0x30, 0, 16⟩
def fMaxPts (k : Nat) : Fld := ⟨kStrm k 0x30, 0, 21⟩
/-- A counter of stream k: 0 POSTED, 1 STALE, 2 MISSED, 3 ABSENT, 4 LATE, 5 NOSLOT, 6 REJECTED, 7 VIOL. -/
def kStrmCnt (k i : Nat) : Nat := 0x12000 + 32 * k + 4 * i

/-- Streams of the Mill (R133). -/
def streams : List Nat := List.range 24

/-- A range context (R134). -/
def isRange (k : Nat) : Bool := decide (16 ≤ k)

def State.port (s : State) (p : Nat) : PortSt := Tbl.getD s.mill.ports p PortSt.reset
def State.setPort (s : State) (p : Nat) (x : PortSt) : State := { s with mill := { s.mill with ports := Tbl.put s.mill.ports p x } }
def State.strm (s : State) (k : Nat) : StreamSt := Tbl.getD s.mill.streams k StreamSt.reset
def State.setStrm (s : State) (k : Nat) (x : StreamSt) : State :=
  { s with mill := { s.mill with streams := Tbl.put s.mill.streams k x } }
def State.grp (s : State) (g : Nat) : GroupSt := Tbl.getD s.mill.groups g GroupSt.reset
def State.setGrp (s : State) (g : Nat) (x : GroupSt) : State := { s with mill := { s.mill with groups := Tbl.put s.mill.groups g x } }

/-- A write that the Mill rejects (R178). -/
def State.millReject (s : State) : State := s.on fMillRejected

/-- The physical function, and the function of the perception partition (R177). -/
def State.percOrPf (s : State) (fn : Fn) : Bool := fn.val == 0 || fn.val == s.perc

/-- A violation of stream k, counted and raised; sub is 0 for the Mill, 1 for the Sieve (R172, R220). -/
def State.strmViol (s : State) (k code sub : Nat) (detail : List Byte := []) : State :=
  (s.bump (kStrmCnt k 7)).violation code (srcOf 1 k sub) detail

/-- A violation of port p, raised (R172). -/
def State.portViol (s : State) (p code : Nat) (detail : List Byte := []) : State := s.violation code (srcOf 1 (32 + p) 0) detail

/-- What SECDED finds in the Mill buffers of stream k (R174). -/
def State.millBuffer (s : State) (k : Nat) (e : Ecc) : State :=
  match e with
  | .clean => s
  | .corrected => s.bump kMillCe
  | .uncorrectable => s.jobFault 0x1301 (srcOf 1 k 0)

-- SLOTS

/-- Slots of stream k that are held (R135). -/
def State.slotsHeld (s : State) (k : Nat) : Nat := (s.reg (kStrmCnt k 0) - s.reg (kRelease k)).toNat

/-- The next slot in ring order, if one is free, and the state once it is allocated (R135, limit 3 of 04). -/
def State.allocSlot (s : State) (k : Nat) : Option Nat × State :=
  if s.get (fStrmSlots k) ≤ s.slotsHeld k then (none, s)
  else
    let st := s.strm k
    (some st.slotNext, (s.setReg (kStrmCnt k 0) (s.reg (kStrmCnt k 0) + 1)).setStrm k { st with slotNext := (st.slotNext + 1) % s.get (fStrmSlots k) })

/-- Bytes of one slot of stream k. -/
def State.slotBytes (s : State) (k : Nat) : Nat := (s.reg (kSlotSize k)).toNat * 1024

/-- The DRAM offset of a slot of stream k. -/
def State.slotAddr (s : State) (k slot : Nat) : Nat := (s.reg64 (kStrmOut k)).toNat + slot * s.slotBytes k

-- WRITES OF THE MILL

/-- Lines of DRAM that writes of the Mill touch; a refused one touches none (R498, R516). -/
def State.millLines (s : State) (ws : List (Nat × List Byte)) : Nat :=
  (ws.map (fun w => if s.winOk s.perc w.1 w.2.length true then linesOf w.1 w.2.length else 0)).foldl (· + ·) 0

/-- Writes of the Mill that make one request, charged to the perception partition (R136, R517): true where it goes out. -/
def State.millAsk (s : State) (u : DramUser) (ws : List (Nat × List Byte)) : Bool × State :=
  if s.millLines ws = 0 then (true, s) else s.dramAsk u s.perc (s.millLines ws)

/-- Writes of the Mill, in order. -/
def State.millWrites (s : State) (ws : List (Nat × List Byte)) : State := ws.foldl (fun s w => s.millWrite w.1 w.2) s

/-- A frame's slot is written once its request is admitted, and f follows; until then the frame is over but not closed (R520). -/
def State.slotWritten (s : State) (k slot : Nat) (ws : List (Nat × List Byte)) (f : State → State) : State :=
  match s.millAsk (.slot k slot) ws with
  | (true, s) => f (s.millWrites ws)
  | (false, s) => s

-- DAMAGE

/-- The damage follows an entry, or comes before it, without a gap; FIRST of packets is the low 16 bits of their number (R202). -/
def Damage.follows (d e : Damage) : Bool := (e.first + e.count) % 65536 == d.first % 65536

/-- Two pieces of damage share one entry: same code, kind and flags, and adjacent (R202). -/
def Damage.joins (e d : Damage) : Bool :=
  e.code == d.code && e.kind == d.kind && e.flags == d.flags && decide (e.count + d.count < 65536) && (d.follows e || e.follows d)

/-- The entry with the damage that joins it. -/
def Damage.with (e d : Damage) : Damage := { e with first := if d.follows e then e.first else d.first, count := e.count + d.count }

/-- The entries with damage that joins one of them, the first such one. -/
def joinDamage (d : Damage) : List Damage → List Damage
  | [] => []
  | e :: l => if e.joins d then e.with d :: l else e :: joinDamage d l

/-- One more piece of damage: it shares the entry that it joins; a 257th entry turns the 256th into one to the end (R202, R203). -/
def addDamage (l : List Damage × Bool) (d : Damage) : List Damage × Bool :=
  if l.2 then l
  else if l.1.any (fun e => e.joins d) then (joinDamage d l.1, false)
  else if 256 ≤ l.1.length then
    (l.1.take 255 ++ ((l.1.drop 255).take 1).map (fun e => { e with flags := e.flags ||| 4, count := 0xFFFF }), true)
  else (l.1 ++ [d], false)

/-- The frame with one more piece of damage of n lines or packets (R164, DAMAGE_COUNT). -/
def MFrame.damaged (f : MFrame) (d : Damage) (n : Nat) : MFrame :=
  let r := addDamage (f.damage, f.damageOverflow) d
  { f with damage := r.1, damageOverflow := r.2, damageCount := f.damageCount + n }

-- FRAMES

/-- The group acts in FREE mode (R160). -/
def State.grpFree (s : State) (g : Nat) : Bool := !s.flag fFrameEn || s.flag (fGrpFree g)

/-- a comes after b as 32-bit numbers. -/
def after (a b : Word) : Bool := decide (0 < (a - b).toInt)

/-- Group frame n has been posted, or its member of stream k is resolved without a frame: MISSED, ABSENT for its trigger window, or ABSENT for
the collection window, unless that closed in this very µs (R158, R159, R168; limit 6 of 04). [log 146: DEDUCED, unsafe] -/
def GroupSt.tooLate (st : GroupSt) (k : Nat) (n : Word) (us : Nat) : Bool :=
  (match st.next with | some m => after m n | none => false) || st.missed.contains (k, n) || st.absent.contains (k, n) ||
    st.closedAt.any (fun c => c.frame == n && c.absent.contains k && c.us != us)

/-- A member frame that is complete or closed goes to its group; a late one is discarded and counted (R159, R161); a group that is not enabled
takes none. -/
def State.toGroup (s : State) (f : MFrame) : State :=
  let g := s.get (fStrmGroup f.stream)
  let st := s.grp g
  if !s.flag (fGrpEn g) then s
  else if !s.grpFree g && st.tooLate f.stream (BitVec.ofNat 32 f.frameNo) (s.now / 1000) then s.bump (kStrmCnt f.stream 4)
  else s.setGrp g { st with waiting := st.waiting ++ [f] }

/-- The frames of a stream that are over and have none before them that is not go to their group, in capture order
(R161). -/
def State.flushFrames (s : State) (k : Nat) : State :=
  let st := s.strm k
  let ended := st.frames.takeWhile (fun f => f.closed)
  ended.foldl State.toGroup (s.setStrm k { st with frames := st.frames.drop ended.length })

/-- An open frame of a stream is over: complete, or closed with the status it carries.  In SYNC mode it goes to its group at
once (R158, R159), in FREE mode in capture order (R161). -/
def State.endFrame (s : State) (k : Nat) (old new : MFrame) : State :=
  let st := s.strm k
  let f := { new with closed := true, pend := [] }
  if s.grpFree (s.get (fStrmGroup k)) then
    (s.setStrm k { st with frames := st.frames.map (fun x => if x = old then f else x) }).flushFrames k
  else (s.setStrm k { st with frames := st.frames.filter (· != old) }).toGroup f

/-- An open frame closes with status REJECTED; what still comes of it is discarded (R172, R143). -/
def State.rejectFrame (s : State) (k : Nat) (f : MFrame) (modeChanged : Bool := false) : State :=
  let s := (s.endFrame k f { f with status := 5, modeChanged }).dropAsks (fun x => match f.slot with | some i => x.user == .slot k i | none => false)
  if f.ended then s else s.setStrm k { s.strm k with skip := true }

/-- Every open frame of a stream closes REJECTED. -/
def State.rejectAll (s : State) (k : Nat) (modeChanged : Bool) : State :=
  ((s.strm k).frames.filter (fun f => !f.closed)).foldl (fun s f => s.rejectFrame k f modeChanged) s

/-- The frame that stream k is receiving: the newest, where it has neither ended nor been closed. -/
def State.receiving (s : State) (k : Nat) : Option MFrame :=
  match (s.strm k).frames.getLast? with
  | some f => if f.ended || f.closed then none else some f
  | none => none

/-- The newest open frame replaced. -/
def State.setReceiving (s : State) (k : Nat) (f : MFrame) : State :=
  let st := s.strm k
  s.setStrm k { st with frames := st.frames.dropLast ++ [f] }

/-- A new member frame (R58, R135, R164). -/
def newFrame (k capture : Nat) (captureRec : List Byte) (frameNo fsNumber : Nat) (slot : Option Nat) : MFrame :=
  { stream := k, capture, captureRec, frameNo, endRec := [], slot, status := if slot.isNone then 4 else 0, closed := false,
    truncated := false, modeChanged := false, damage := [], damageOverflow := false, damageCount := 0, reported := false, fsNumber,
    ended := false, pend := [], lines := [], taken := [], received := 0, embedded := [], list := none, listExpired := true, points := [], unknownCols := [],
    stamped := false }

/-- A trigger output in its pulse returns to its inactive level (R166, R717). -/
def State.endPulse (s : State) (i : Nat) : State :=
  ({ s with mill := { s.mill with pulses := Tbl.drop s.mill.pulses i } } : State).emit (.trigOut i false (s.flag (fTrigPol i)))

end Sys2Proof.Machine
end

