-- ==== Sys2Proof/Machine/SafeStop.lean ====
section
/-! DEFINITION. Safety modes, the Hedgerow command, the SAFE_STOP_N drivers and the two safety messages
(03_safety_concept.md, 19_vehicle_interfaces.md). -/

namespace Sys2Proof.Machine

def kHdgStatus : Nat := 0x8000
def fHdgMode : Fld := ⟨0x8000, 0, 2⟩
def fHdgCmd : Fld := ⟨0x8000, 4, 2⟩
def fPfIntruded : Fld := ⟨0x8000, 8, 1⟩
def fWfIntruded : Fld := ⟨0x8000, 9, 1⟩
def fFbTimeout : Fld := ⟨0x8000, 12, 1⟩
def fStopDrive : Fld := ⟨0x8000, 13, 1⟩
def fReeveOk : Fld := ⟨0x8000, 14, 1⟩
def fHcbValid : Fld := ⟨0x8000, 15, 1⟩
def fInputOk (i : Nat) : Fld := ⟨0x8000, 20 + i, 1⟩
def kHdgIntrude : Nat := 0x8010
def kHdgWarn : Nat := 0x8014
def kHdgInputLoss : Nat := 0x8018
def kHdgOverrun : Nat := 0x801C
def kHdgRecovery : Nat := 0x8020
def fReactMax : Fld := ⟨0x8024, 0, 16⟩
def kHdgLastStop : Nat := 0x8028
def fHdgHeldCause : Fld := ⟨0x8030, 0, 16⟩
def fDevIndex : Fld := ⟨0x8, 0, 2⟩
def kSsId : Nat := 0x40804
def kPsId : Nat := 0x40808
def fDriveCan : Fld := ⟨0x40810, 31, 1⟩
def fDriveOther : Fld := ⟨0x40810, 30, 1⟩
def fExtLow : Fld := ⟨0x40810, 26, 1⟩
def fSsSeq : Fld := ⟨0x40810, 0, 8⟩
def fCanEn (c : Nat) : Fld := ⟨0x40000 + 0x400 * c, 31, 1⟩
def fCanState (c : Nat) : Fld := ⟨0x40010 + 0x400 * c, 8, 2⟩
def fCanFailed (c : Nat) : Fld := ⟨0x40010 + 0x400 * c, 10, 1⟩
def kTxAbandon (c : Nat) : Nat := 0x4001C + 0x400 * c

/-- Codes of a command (R82). -/
def cmdClear : Nat := 0
def cmdCreep : Nat := 1
def cmdStop : Nat := 2

def State.setHdg (s : State) (h : Hedgerow) : State := { s with hdg := h }
def State.setVeh (s : State) (v : Vehicle) : State := { s with veh := v }
def State.setReeve (s : State) (r : Reeve) : State := { s with reeve := r }

/-- One bit of the CRC-8 of R694. -/
def crc8Bit (c : Nat) : Nat := if 128 ≤ c then (c * 2) % 256 ^^^ 0x1D else c * 2

/-- CRC-8: polynomial 0x1D, not reflected, initial value 0xFF, final XOR 0xFF (R694). -/
def crc8 (bs : List Byte) : Nat :=
  bs.foldl (fun c b => crc8Bit (crc8Bit (crc8Bit (crc8Bit (crc8Bit (crc8Bit (crc8Bit (crc8Bit (c ^^^ b.toNat))))))))) 0xFF ^^^ 0xFF

/-- Either SAFE_STOP_N driver is on (R84). -/
def State.lineDriven (s : State) : Bool := s.flag fDriveCan || s.flag fDriveOther || s.flag fStopDrive

/-- CAN 0 is in bus-off or FAILED (R703). -/
def State.can0Down (s : State) : Bool := s.get (fCanState 0) == 2 || s.flag (fCanFailed 0)

/-- Hedgerow's inputs, by number. -/
def State.hdgInput (s : State) (i : Nat) : HdgInput := Tbl.getD s.hdg.inputs i HdgInput.reset

/-- The number of inputs the HCB names; 0 before a valid one. -/
def State.hdgInputs (s : State) : Nat :=
  match s.hdg.hcb with
  | some h => h.streams.length
  | none => 0

/-- CREEP_SPEED of the HCB. -/
def State.creepSpeed (s : State) : Nat :=
  match s.hdg.hcb with
  | some h => h.creepSpeed
  | none => 0

/-- The Reeve has lost Hedgerow (R130). -/
def State.hedgerowLost (s : State) : Bool := !s.reeve.hearsHedgerow

/-- REASON of a Safe-Stop (R693). -/
def State.safeStopReason (s : State) : Nat :=
  let lost := (List.range s.hdgInputs).any (fun i => !s.flag (fInputOk i))
  s.get fPfIntruded + 2 * s.get fWfIntruded + 4 * b2n lost + 8 * b2n (s.mode == 1) + 16 * s.get fFbTimeout + 32 * b2n s.isHeld +
    64 * b2n (s.get (fCanState 0) == 2) + 128 * s.get (fCanFailed 0) + 256 * b2n (!s.flag fReeveOk) + 512 * b2n s.hedgerowLost

/-- The command that a Safe-Stop of an origin carries (R82, R130, R696). -/
def State.safeStopCommand (s : State) (hedgerow : Bool) : Nat :=
  if !hedgerow && (s.flag fDriveCan || s.hedgerowLost) then cmdStop else s.get fHdgCmd

/-- The mode that a Safe-Stop of an origin carries. -/
def State.safeStopMode (s : State) (hedgerow : Bool) : Nat := if hedgerow then s.get fHdgMode else s.mode

/-- The 8 bytes of a Safe-Stop (R693). -/
def State.safeStopBytes (s : State) (hedgerow fallover : Bool) (cmd seq : Nat) : List Byte :=
  let b0 := cmd + 4 * s.safeStopMode hedgerow + 16 * b2n hedgerow + 32 * b2n fallover + 64 * b2n s.lineDriven
  let body := leBytes 1 b0 ++ leBytes 1 seq ++ leBytes 2 (if cmd = cmdCreep then s.creepSpeed else 0) ++ leBytes 2 s.safeStopReason ++
    leBytes 1 (s.get fDevIndex)
  body ++ leBytes 1 (crc8 body)

/-- The Reeve fills its Safe-Stop: its CAN 0 buffer, or the fallover buffer while CAN 0 is down (R695, R703). [log 38: DEDUCED, unsafe] -/
def State.reeveFill (s : State) : State :=
  let cmd := s.safeStopCommand false
  let s := s.put fSsSeq (s.get fSsSeq + 1)
  let v := { s.veh with fillDue := false }
  if s.can0Down then s.setVeh { v with fallover := some (s.safeStopBytes false true cmd (s.get fSsSeq)) }
  else s.setVeh { v with reeveBuf := some (s.safeStopBytes false false cmd (s.get fSsSeq)) }

/-- Hedgerow fills its Safe-Stop with a command (R110, R129, R703). -/
def State.hdgFill (s : State) (cmd : Nat) : State :=
  let v := { s.veh with hdgSeq := (s.veh.hdgSeq + 1) % 256 }
  if s.can0Down then s.setVeh { v with fallover := some (s.safeStopBytes true true cmd v.hdgSeq) }
  else s.setVeh { v with hdgBuf := some (s.safeStopBytes true false cmd v.hdgSeq) }

/-- The Hedgerow command of R82, the larger code where two apply (R83). -/
def State.commandOf (s : State) : Nat :=
  if s.get fHdgMode = 2 ∨ s.flag fPfIntruded ∨ (s.get fHdgMode = 1 ∧ s.flag fFbTimeout) then cmdStop
  else if s.flag fWfIntruded ∨ s.get fHdgMode = 1 then cmdCreep
  else cmdClear

/-- Hedgerow's own Safe-Stop is due: STOP for a field (R110), or any command once the Reeve is lost (R129). -/
def State.hdgOwnFill (s : State) (cmd : Nat) : Bool := !s.flag fReeveOk || (cmd == cmdStop && s.flag fPfIntruded)

/-- Hedgerow's command computed anew: a change turns its driver on for STOP, and both ends send the new command (R82, R85, R87,
R110). -/
def State.hdgUpdate (s : State) : State :=
  let cmd := s.commandOf
  if !s.hdg.alive then s
  else if cmd = s.get fHdgCmd then (if cmd = cmdStop then s.on fStopDrive else s)
  else
    let s := s.put fHdgCmd cmd
    let s := if cmd = cmdStop then (s.on fStopDrive).setReg64 kHdgLastStop s.tb.ns else s
    let s := s.setVeh { s.veh with fillDue := true }
    if s.hdgOwnFill cmd then s.hdgFill cmd else s

/-- HDG_HELD_CAUSE holds the code of the first HELD cause (R128). [log 37: DEDUCED, unsafe] -/
def State.heldCause (s : State) (code : Nat) : State := if s.get fHdgHeldCause = 0 then s.put fHdgHeldCause code else s

/-- Hedgerow is in HELD for a cause, which power-on reset alone ends (R79, R128): not in the HELD that it boots in. -/
def State.hdgStaysHeld (s : State) : Bool := s.get fHdgMode == 2 && s.get fHdgHeldCause != 0

/-- Hedgerow takes a safety mode (R79, R80): HELD is left by power-on reset alone, but the one it boots in. -/
def State.hdgSetMode (s : State) (m : Nat) : State :=
  if !s.hdg.alive || (s.hdgStaysHeld && m != 2) then s
  else
    let s1 := if m = 1 ∧ s.get fHdgMode ≠ 1 then (s.off fFbTimeout).bump kHdgRecovery else if m = 0 then s.off fFbTimeout else s
    (s1.put fHdgMode m).hdgUpdate

/-- The Reeve sets the safety mode, Hedgerow with it (R79, R80); FAULT_N is released as the mode becomes NORMAL, and low in the
others (R88, R718); in HELD the Reeve's driver is on (19, Registers), and a pending
Banked request is dropped (R745). -/
def State.setMode (s : State) (m : Nat) : State :=
  let changed := decide (s.mode ≠ m)
  let s := (s.put fReeveMode m).put fFaultNLow (b2n (m ≠ 0))
  let s := if m = 2 then s.on fDriveOther else s
  let s := if m = 2 ∧ s.flag fBankPending then (s.off fBankPending).on fPwrRejected else s
  let s := s.hdgSetMode m
  if changed then s.setVeh { s.veh with fillDue := true } else s

/-- Hedgerow enters HELD on its own authority, having lost the Reeve or its HCB (R80, R115, R129). -/
def State.hdgHeld (s : State) (code : Nat) : State := (s.heldCause code).hdgSetMode 2

/-- SAFE_STOP_QUEUE: the Reeve fills its buffer after a change (R87, R695). -/
def execSafeStopQueue (s : State) : Out := if s.veh.fillDue && s.reeve.alive then .next s.reeveFill else .next s

/-- SAFE_STOP_PERIODIC: PERIOD_MS has passed (R695). -/
def execSafeStopPeriodic (s : State) : Out := if s.reeve.alive then .next s.reeveFill else .next s

/-- The verdict entry of a frame. -/
def State.verdictOf (s : State) (n : Word) : Verdict :=
  match s.reeve.verdicts.find? (fun v => v.frame == n) with
  | some v => v
  | none => { frame := n, cleared := [], pairs := [], twin := none, released := false }

/-- The verdict entry of a frame set; the newest eight frames are kept. -/
def State.setVerdict (s : State) (v : Verdict) : State :=
  s.setReeve { s.reeve with verdicts := (v :: s.reeve.verdicts.filter (fun x => x.frame != v.frame)).take 8 }

/-- The perception timers with a slot for frame n: armed, or missed (R62, R65). -/
def State.percTimers (s : State) (n : Word) : List Nat :=
  (s.fdlEnabled.filter (fun k => s.get (fFdlPart k) == s.perc)).filter
    (fun k => s.tb.slots.any (fun sl => sl.timer == k && sl.frame == n) || s.tb.missed.contains (k, n))

/-- Every perception slot of the frame is satisfied by a job that the Reeve has cleared, and every twin pair of the frame is cleared
(R86, R90, R99). [log 39: DEDUCED, unsafe] -/
def State.verdictReady (s : State) (v : Verdict) : Bool :=
  let ks := s.percTimers v.frame
  !ks.isEmpty && ks.all (fun k => v.cleared.contains k &&
    s.tb.slots.any (fun sl => sl.timer == k && sl.frame == v.frame && sl.satisfied)) &&
    (s.qm.pairs.filter (fun x => x.frame == v.frame)).all (fun x => v.pairs.contains x.id)

/-- A frame's verdict is released once it is ready; the first one after a restart makes the mode NORMAL, unless a HELD cause has reached
Hedgerow (R79, R91). -/
def State.releaseVerdict (s : State) (n : Word) : State :=
  let v := s.verdictOf n
  if v.released || !s.verdictReady v then s
  else
    let s := s.setVerdict { v with released := true }
    if s.mode = 1 ∧ s.reeve.awaiting ∧ !s.hdgStaysHeld then (s.setReeve { s.reeve with awaiting := false }).setMode 0 else s

/-- The 16 bytes of a Perception Status (R86, R697): without a verdict the mode is not NORMAL and the checksum is 0.  Which other mode a
message without a verdict carries in NORMAL, and the checksum of a verdict without a twin pair, are free values. [log 138: DESIGN CHOICE, safe] -/
def State.perceptionStatus (s : State) (v : Verdict) : List Byte :=
  let mode := if !v.released && s.mode == 0 then 1 + s.free % 2 else s.mode
  let crc := if !v.released then 0 else match v.twin with
    | some t => t.2.toNat
    | none => s.free
  let body := leBytes 4 v.frame.toNat ++ leBytes 1 (mode + 4 * s.get fHdgCmd + 16 * b2n v.released) ++
    leBytes 1 (s.get fDevIndex) ++ leBytes 1 (s.veh.psSeq + 1) ++ leBytes 1 0 ++ leBytes 4 crc ++ leBytes 2 (s.get fLastCause) ++ leBytes 1 0
  body ++ leBytes 1 (crc8 body)

/-- PERCEPTION_STATUS_SEND: the message of a frame is queued on CAN 0 in place of an unsent one; not at all while CAN 0 is down or
the Reeve is lost (R86, R129, R698, R703). -/
def execPerceptionStatusSend (n : Word) (s : State) : Out :=
  if s.can0Down || !s.reeve.alive then .next s
  else
    let msg := s.perceptionStatus (s.verdictOf n)
    let s1 := if s.veh.psBuf.isSome then s.bump (kTxAbandon 0) else s
    .next (s1.setVeh { s.veh with psBuf := some msg, psSeq := (s.veh.psSeq + 1) % 256 }).drawn

end Sys2Proof.Machine
end

