-- ==== Sys2Proof/Machine/QueueOps.lean ====
section
/-! DEFINITION. The operations that the queues, dispatch, pre-emption and the conversation slots share: queue contexts, doorbells,
the checks of a descriptor, the bounds, the Granary regulator and the arbitration (13_queues_and_dispatch.md, 14_partitions.md). -/

namespace Sys2Proof.Machine

/-- The source of the Queue Manager: 0 queues, 1 conversation slots (R613). -/
def srcQm (sub : Nat) : BitVec 16 := srcOf 2 0 sub

def kDtSat : Nat := 0x24008
def kPreempts : Nat := 0x24018
def kNoSave : Nat := 0x2401C
def kPreemptMax : Nat := 0x24020
def kDeadlineFaults : Nat := 0x24024
def kFrameSkip : Nat := 0x24028
def kQmViol : Nat := 0x2402C
def fDtMax (p : Nat) : Fld := ⟨0x24040 + 4 * p, 0, 11⟩
def fDtRes (p : Nat) : Fld := ⟨0x24040 + 4 * p, 16, 11⟩
def fQmRejected (fn : Fn) : Fld := ⟨own fn 0x24000, 0, 1⟩
def fQsel (fn : Fn) : Fld := ⟨own fn 0x24100, 0, 16⟩
def fSessState (p : Nat) : Fld := ⟨ownN p 0x48000, 0, 2⟩

/-- Partition p has an open FULL session (R452, R667). -/
def State.sessFull (s : State) (p : Nat) : Bool := s.get (fSessState p) == 2

-- QUEUES

def State.setQm (s : State) (q : Qm) : State := { s with qm := q }
def State.queue (s : State) (q : Nat) : QueueSt := Tbl.getD s.qm.queues q QueueSt.reset
def State.setQueue (s : State) (q : Nat) (x : QueueSt) : State := s.setQm { s.qm with queues := Tbl.put s.qm.queues q x }

/-- The value of QM_QCTXi. -/
def QueueSt.word (q : QueueSt) (i : Nat) : Nat := (q.ctx.getD i 0).toNat

/-- KIND is FRAME (R448). -/
def QueueSt.isFrame (q : QueueSt) : Bool := (q.word 0).testBit 30

/-- The owning partition (R447). -/
def QueueSt.owner (q : QueueSt) : Nat := bitsAt (q.word 0) 27 3

def QueueSt.prioMax (q : QueueSt) : Nat := bitsAt (q.word 0) 24 3

/-- Descriptors of the ring, and records of the completion ring (R449). -/
def QueueSt.size (q : QueueSt) : Nat := 2 ^ bitsAt (q.word 0) 16 4

def QueueSt.frameCount (q : QueueSt) : Nat := bitsAt (q.word 0) 0 16
def QueueSt.ring (q : QueueSt) : Nat := q.word 1 + q.word 2 * 2 ^ 32
def QueueSt.cq (q : QueueSt) : Nat := q.word 3 + q.word 4 * 2 ^ 32
def QueueSt.coalesceUs (q : QueueSt) : Nat := bitsAt (q.word 5) 16 10
def QueueSt.intEn (q : QueueSt) : Bool := (q.word 5).testBit 15
def QueueSt.vector (q : QueueSt) : Nat := bitsAt (q.word 5) 0 11

/-- A descriptor that has been submitted and is not dispatched. -/
def QJob.waits (j : QJob) : Bool :=
  match j.at_ with
  | .waiting _ => true
  | _ => false

/-- The queue's head: its oldest descriptor that is not dispatched or rejected (R456). -/
def QueueSt.head (q : QueueSt) : Option QJob := q.jobs.find? QJob.waits

/-- A lost descriptor whose LOST record is due, in a queue that has been resumed since: a replay of it has the same position (R485). -/
def QJob.stale (j : QJob) : Bool :=
  match j.at_ with
  | .done r => r.resumed
  | _ => false

/-- The job at a position. -/
def QueueSt.jobAt (q : QueueSt) (pos : Nat) : Option QJob := q.jobs.find? (fun j => j.pos == pos && !j.stale)

/-- The queue with the job at a position changed. -/
def QueueSt.setJob (q : QueueSt) (pos : Nat) (f : QJob → QJob) : QueueSt :=
  { q with jobs := q.jobs.map (fun j => if j.pos = pos ∧ !j.stale then f j else j) }

/-- No free entry in the completion ring (R469). -/
def QueueSt.ringFull (q : QueueSt) : Bool := decide (q.size ≤ (q.recs.toNat + 65536 - q.cons) % 65536)

/-- The record is ready to be written: that of the perception partition once the Reeve has cleared it (R90, R468). -/
def State.recReady (s : State) (q : QueueSt) (r : Rec) : Bool := q.owner != s.perc || r.cleared || r.dt.isNone || r.status == 3

/-- The queue holds a record that finds no free entry (R469). -/
def State.holdsRecord (s : State) (q : QueueSt) : Bool :=
  match q.jobs with
  | j :: _ => (match j.at_ with | .done r => s.recReady q r && q.ringFull | _ => false)
  | [] => false

/-- n more descriptors are submitted at Timebase value t (R451, R464). -/
def QueueSt.submit (q : QueueSt) (t : Nat) (slots : List Nat) (replay : Option Word) (fold : Option (Nat × Nat × Nat)) : QueueSt :=
  { q with
    jobs := q.jobs ++ (numbered slots).map (fun x => { pos := q.next + x.1, slot := x.2, submit := t, replay := replay, fold := fold, waited := false, late := false, at_ := .waiting none }),
    next := q.next + slots.length }

/-- A violation of a queue: counted, and logged (R452). -/
def State.qmViolation (s : State) (code : Nat) (detail : List Byte) : State := (s.bump kQmViol).violation code (srcQm 0) detail

/-- Descriptors from the queue's oldest one without a record up to its last (R452). -/
def QueueSt.span (q : QueueSt) : Nat :=
  match q.jobs with
  | j :: _ => q.next - j.pos
  | [] => 0

/-- What R452 finds wrong with an advance of PRODUCER by n, the writer apart: 0x4102, 0x4104, or nothing. -/
def State.advanceFault (s : State) (q : QueueSt) (n : Nat) : Option Nat :=
  if q.state ≠ 1 ∨ q.isFrame ∨ !s.sessFull q.owner then some 0x4102
  else if q.size < q.span + n then some 0x4104
  else none

/-- PRODUCER advances by n at Timebase value t (R450, R451). -/
def QueueSt.advance (q : QueueSt) (t n : Nat) (fold : Option (Nat × Nat × Nat)) : QueueSt :=
  { q.submit t ((List.range n).map (fun i => (q.next + i) % q.size)) none fold with prod := (q.prod + n) % 65536 }

/-- A write that the QM_ block rejects, in the writer's view (R489). -/
def State.qmReject (s : State) (fn : Fn) : State := s.on (fQmRejected fn)

/-- A function reaches a queue's window (R488). -/
def State.qmMay (s : State) (fn : Fn) (q : Nat) : Bool := fn == 0 || (s.queue q).owner == fn.val

-- BANKED

/-- What an accepted Banked request needs (R745). -/
def State.bankable (s : State) : Bool :=
  s.mode == 0 && !s.asleep && s.qm.queues.all (fun x => x.2.isFrame || x.2.state == 0) && s.qm.dt == [] &&
    s.qm.queues.all (fun x => !x.2.isFrame || x.2.jobs.all (fun j => !j.waits)) && !s.boot.staged && s.boot.job.isNone

/-- A Banked request is checked: entry starts, or it is rejected (R745, R746). -/
def State.bankTry (s : State) : State := if s.bankable then s.put fPwrState pwrEntering else s.on fPwrRejected

/-- A pending request is checked again when the mode becomes NORMAL (R745). -/
def State.bankAgain (s : State) : State := if s.flag fBankPending && s.mode == 0 then (s.off fBankPending).bankTry else s

-- DESCRIPTORS

/-- A descriptor from its 64 bytes (R453). -/
def Desc.ofBytes (bs : List Byte) : Desc :=
  let f := fieldAt bs
  let d (lo : Nat) : DWord := BitVec.ofNat 64 (f lo 8)
  { program := d 0, args := d 8, sigEnd := d 16, tallyCfg := d 24, userTag := d 32, fdmFrame := BitVec.ofNat 32 (f 40 4),
    deadlineUs := bitsAt (f 44 4) 0 20, twinId := f 48 2, core := f 50 1, prio := bitsAt (f 51 1) 0 3,
    preemptOk := (f 52 1).testBit 0, fdmEn := (f 52 1).testBit 1, waitIntake := (f 52 1).testBit 2, waitDep := (f 52 1).testBit 3,
    timer := bitsAt (f 53 1) 0 3, group := bitsAt (f 53 1) 4 3, depQueue := f 54 2, depCount := BitVec.ofNat 32 (f 56 4),
    reserved := bitsAt (f 44 4) 20 12 != 0 || bitsAt (f 51 1) 3 5 != 0 || bitsAt (f 52 1) 4 4 != 0 || (f 53 1).testBit 3 ||
      (f 53 1).testBit 7 || f 60 4 != 0 }

/-- A field lies outside its range (R453). -/
def Desc.outOfRange (d : Desc) : Bool :=
  d.reserved || d.program.toNat % 16 != 0 || (d.waitIntake && d.args.toNat % 64 != 0) || d.tallyCfg.toNat % 64 != 0 ||
  !(d.deadlineUs == 0 || (decide (100 ≤ d.deadlineUs) && decide (d.deadlineUs ≤ 1000000))) ||
  !(decide (d.core < 16) || d.core == 0xFF) || (d.twinId != 0 && d.core == 0xFF)

/-- The frame number that a job waits for, or carries in its mark (R453): that of its replay in a FRAME queue. -/
def QJob.frameOf (j : QJob) (d : Desc) : Word :=
  match j.replay with
  | some n => n
  | none => d.fdmFrame

/-- The frame number of the frame-done mark, or all ones without FDM_EN (R229, R453). -/
def QJob.markFrame (j : QJob) (d : Desc) : Word := if d.fdmEn then j.frameOf d else 0xFFFFFFFF

/-- The partition table grants core k to partition p (R500). -/
def State.granted (s : State) (p k : Nat) : Bool := (s.reg (kPart p 0)).toNat.testBit k

/-- Core k is enabled and a head of partition p with this CORE field may use it (R461). -/
def State.mayUse (s : State) (p core k : Nat) : Bool :=
  decide (k < s.nCores) && (if core = 0xFF then s.granted p k else core == k)

/-- The twin pair of a key. -/
def State.pairOf (s : State) (id : Nat) (frame : Word) : Option TwinPair := s.qm.pairs.find? (fun x => x.id == id && x.frame == frame)

/-- A twin job of the perception partition (R95). [log 68: DEDUCED, unsafe] -/
def State.isTwin (s : State) (p : Nat) (d : Desc) : Bool := d.twinId != 0 && p == s.perc

/-- A twin rejection of R96. -/
def State.twinRejected (s : State) (p : Nat) (j : QJob) (d : Desc) : Bool :=
  s.isTwin p d && (!d.fdmEn ||
    match s.pairOf d.twinId (j.frameOf d) with
    | some x => x.cores.contains d.core || decide (2 ≤ x.cores.length)
    | none => false)

/-- A twin job that passes its checks joins its pair (R95, R96). -/
def State.joinPair (s : State) (p : Nat) (j : QJob) (d : Desc) : State :=
  if !s.isTwin p d then s
  else
    let n := j.frameOf d
    let x := (s.pairOf d.twinId n).getD { id := d.twinId, frame := n, timer := d.timer, cores := [], retired := 0, same := false, late := false }
    s.setQm { s.qm with pairs := s.qm.pairs.filter (fun y => !(y.id == d.twinId && y.frame == n)) ++ [{ x with cores := x.cores ++ [d.core] }] }

/-- The group is enabled in SYNC mode (R454). -/
def State.grpSync (s : State) (g : Nat) : Bool := s.flag (fGrpEn g) && !s.grpFree g

/-- The group's latest post is of group frame n or a later one (R457). -/
def State.posted (s : State) (g : Nat) (n : Word) : Bool :=
  match (s.grp g).posts with
  | x :: _ => decide (0 ≤ (x.frame - n).toInt)
  | [] => false

/-- The post of group frame n, where the Queue Manager remembers it (R457). -/
def State.postOf (s : State) (g : Nat) (n : Word) : Option Post := (s.grp g).posts.find? (fun x => x.frame == n)

/-- A WAIT_INTAKE head whose group frame is older than every post that the Queue Manager remembers (R457). -/
def State.forgotten (s : State) (j : QJob) (d : Desc) : Bool :=
  d.waitIntake && s.posted d.group (j.frameOf d) && (s.grp d.group).posts.all (fun x => decide (0 < (x.frame - j.frameOf d).toInt))

/-- The first code of R454 that a descriptor breaks, in the order of its list, and 0x4107 of R457. [log 65: DEDUCED, unsafe] -/
def State.descFault (s : State) (q : QueueSt) (j : QJob) (d : Desc) : Option Nat :=
  let p := q.owner
  let inMem (a : DWord) (n : Nat) : Bool := s.jobOk p a.toNat n false
  if d.outOfRange || (d.waitDep && (s.queue d.depQueue).owner != p) ||
      (d.waitIntake && ((!q.isFrame && !d.fdmEn) || !s.grpSync d.group)) then some 0x4103
  else if d.core != 0xFF && (decide (s.nCores ≤ d.core) || !s.granted p d.core) then some 0x4105
  else if s.twinRejected p j d then some 0x4106
  else if s.forgotten j d then some 0x4107
  else if !(inMem d.program 16 && inMem d.args (if d.waitIntake || j.fold.isSome then 16 else 1) && (d.tallyCfg == 0 || inMem d.tallyCfg 128)) then
    some 0x4108
  else none

/-- A record of a descriptor that is never dispatched (R466). -/
def QJob.rejection (j : QJob) (now code : Nat) (d : Option Desc) : Rec :=
  { status := 2, code := code, core := 0xFF, dt := none, crc := 0, preempted := false,
    twin := (match d with | some x => x.twinId != 0 | none => false),
    userTag := (match d with | some x => x.userTag | none => 0), elapsedUs := min ((now - j.submit) / 1000) 0xFFFFFFFF, cleared := true }

/-- A descriptor is rejected (R454). -/
def State.rejectJob (s : State) (q : Nat) (pos code : Nat) (d : Option Desc) : State :=
  s.setQueue q ((s.queue q).setJob pos (fun j => { j with at_ := .done (j.rejection s.now code d) }))

-- BOUNDS

/-- Dispatch Table entries that partition p holds. -/
def State.dtHeld (s : State) (p : Nat) : Nat := (s.qm.dt.filter (fun x => x.2.part == p)).length

/-- Partition p may take a Dispatch Table entry (R471, R472). -/
def State.dtOk (s : State) (p : Nat) : Bool :=
  let total := s.qm.dt.length
  let owed := (((List.range 8).filter (· != p)).map (fun q => s.get (fDtRes q) - s.dtHeld q)).foldl (· + ·) 0
  decide (total < 1024) && decide (s.dtHeld p < s.get (fDtMax p)) && decide (owed ≤ 1024 - total - 1)

/-- The lowest free index (R463). -/
def State.dtFree (s : State) : Nat := ((List.range 1024).find? (fun i => (Tbl.find s.qm.dt i).isNone)).getD 0

/-- The Dispatch Table with an entry set. -/
def State.setDt (s : State) (i : Nat) (e : DtEnt) : State := s.setQm { s.qm with dt := Tbl.put s.qm.dt i e }

/-- The Dispatch Table with an entry freed. -/
def State.freeDt (s : State) (i : Nat) : State := s.setQm { s.qm with dt := Tbl.drop s.qm.dt i }

-- THE GRANARY REGULATOR

def kGrnHold (p : Nat) : Nat := kPart p 0x48
def kGrnDebt (p : Nat) : Nat := kPart p 0x4C

/-- The core is granted to the perception partition and to another one (R500). -/
def State.sharedCore (s : State) (k : Nat) : Bool :=
  s.granted s.perc k && ((List.range 8).filter (· != s.perc)).any (fun p => s.granted p k)

/-- Partition p's time on core k is regulated (R523, R524). -/
def State.regulated (s : State) (k p : Nat) : Bool := p != s.perc && s.sharedCore k && s.granted p k

/-- G of R523, in ns. -/
def State.grnShareNs (s : State) (p : Nat) : Nat := s.get ⟨kPart p 0x20, 0, 9⟩ * 1000000 / 256

/-- The balance of partition p on core k. [log 71: DEDUCED, unsafe] -/
def State.balance (s : State) (k p : Nat) : Int := Tbl.getD s.part.bal (8 * k + p) (s.grnShareNs p)

/-- The balance set; a debt is kept in PART_GRN_DEBT (R525). -/
def State.setBalance (s : State) (k p : Nat) (b : Int) : State :=
  let s := s.setPartCtl { s.part with bal := Tbl.put s.part.bal (8 * k + p) b }
  if b < 0 then s.maxReg (kGrnDebt p) ((b.natAbs + 999) / 1000) else s

/-- The job on core k is charged for its time up to now (R523). -/
def State.settle (s : State) (k : Nat) : State :=
  match (s.core k).job, Tbl.find s.part.charged k with
  | some j, some t =>
    let s := s.setPartCtl { s.part with charged := Tbl.put s.part.charged k s.tb.ticks }
    if s.regulated k j.part then s.setBalance k j.part (s.balance k j.part - (s.tb.ticks - t) * 40) else s
  | _, _ => s

/-- The debt of partition p as it stands, in µs: the largest on any core, with the time of the job that runs there (R525). -/
def State.debtNow (s : State) (p : Nat) : Nat :=
  (List.range 16).foldl (fun m k =>
    if s.regulated k p then
      let run : Nat := match (s.core k).job, Tbl.find s.part.charged k with
        | some j, some t => if j.part = p then (s.tb.ticks - t) * 40 else 0
        | _, _ => 0
      max m (((run - s.balance k p).toNat + 999) / 1000)
    else m) 0

/-- A job begins to occupy core k (R523). -/
def State.occupy (s : State) (k : Nat) : State := s.setPartCtl { s.part with charged := Tbl.put s.part.charged k s.tb.ticks }

/-- Core k is occupied no more. -/
def State.vacate (s : State) (k : Nat) : State :=
  let s := s.settle k
  s.setPartCtl { s.part with charged := Tbl.drop s.part.charged k }

/-- The Granary regulator keeps partition p off core k (R524). -/
def State.grnHolds (s : State) (k p : Nat) : Bool := s.regulated k p && decide (s.balance k p ≤ 0)

-- ARBITRATION

/-- A core that can take a job: enabled, with none on it, not frozen and no engine being reset. -/
def State.coreFree (s : State) (k : Nat) : Bool :=
  decide (k < s.nCores) && (s.core k).job.isNone && !(s.core k).frozen && (s.core k).resetting == []

/-- A candidate for a core: a head, or a pre-empted job with its Dispatch Table index. -/
structure Cand where
  prio : Nat
  pre : Option Nat
  submit : Nat
  queue : Nat
  job : QJob
  desc : Desc
  deriving DecidableEq, Repr

/-- The order of R461: effective priority, pre-empted first, submission time, queue identifier. -/
def Cand.before (a b : Cand) : Bool :=
  if a.prio ≠ b.prio then decide (b.prio < a.prio)
  else if a.pre.isSome ≠ b.pre.isSome then a.pre.isSome
  else if a.submit ≠ b.submit then decide (a.submit < b.submit)
  else if a.queue ≠ b.queue then decide (a.queue < b.queue)
  else decide (a.job.pos ≤ b.job.pos)

def insertCand (c : Cand) : List Cand → List Cand
  | [] => [c]
  | x :: r => if c.before x then c :: x :: r else x :: insertCand c r

/-- Candidates in the order of R461. -/
def sortCands (l : List Cand) : List Cand := l.foldl (fun r c => insertCand c r) []

/-- A dependency of a head is satisfied (R459). -/
def State.depMet (s : State) (d : Desc) : Bool := !d.waitDep || decide (0 ≤ ((s.queue d.depQueue).done - d.depCount).toInt)

/-- A fold gate is set over the queue (R603). -/
def State.gated (s : State) (q : Nat) : Bool := s.qm.slots.any (fun x => x.2.gate && x.2.queue == q)

/-- The queue's head, if the Queue Manager may choose it: checked, every wait satisfied, its queue running and holding no record,
its partition not being reset (R456, R457, R459, R469, R508, R603). -/
def State.headOf (s : State) (qid : Nat) (q : QueueSt) : Option Cand :=
  if q.state ≠ 1 ∨ s.inReset q.owner ∨ s.holdsRecord q ∨ s.gated qid then none
  else
    match q.head with
    | some j =>
      match j.at_ with
      | .waiting (some d) =>
        if s.depMet d && (!d.waitIntake || s.posted d.group (j.frameOf d)) then
          some { prio := min d.prio q.prioMax, pre := none, submit := j.submit, queue := qid, job := j, desc := d }
        else none
      | _ => none
    | none => none

/-- Every eligible head. -/
def State.heads (s : State) : List Cand := s.qm.queues.filterMap (fun x => s.headOf x.1 x.2)

/-- Free cores that a head of partition p with this CORE field may use, ascending. -/
def State.freeFor (s : State) (p core : Nat) : List Nat := (List.range 16).filter (fun k => s.coreFree k && s.mayUse p core k)

/-- The owner of a candidate's queue. -/
def State.candPart (s : State) (c : Cand) : Nat := (s.queue c.queue).owner

/-- Core k may receive the head: the core that its CORE names, or with CORE 0xFF the lowest-numbered free one (R461, R462). -/
def State.offered (s : State) (k : Nat) (c : Cand) : Bool :=
  if c.desc.core = 0xFF then (s.freeFor (s.candPart c) 0xFF).head? == some k else c.desc.core == k

/-- The pre-empted jobs of core k (R461). -/
def State.preemptedOn (s : State) (k : Nat) : List Cand :=
  s.qm.dt.filterMap (fun x =>
    if x.2.core = k ∧ x.2.saved.isSome ∧ !s.inReset x.2.part then
      ((s.queue x.2.queue).jobAt x.2.pos).map (fun j =>
        { prio := min x.2.desc.prio (s.queue x.2.queue).prioMax, pre := some x.1, submit := x.2.submit, queue := x.2.queue, job := j, desc := x.2.desc })
    else none)

/-- The first candidate that neither the Granary regulator nor a bound of the Dispatch Table passes over, and the state once
those passed over have been counted (R461, R471, R472, R524). -/
def State.choose (k : Nat) : List Cand → State → Option Cand × State
  | [], s => (none, s)
  | c :: r, s =>
    let p := s.candPart c
    if s.grnHolds k p then State.choose k r (s.bump (kGrnHold p))
    else if c.pre.isSome || s.dtOk p then (some c, s)
    else if c.job.waited then State.choose k r s
    else State.choose k r ((s.setQueue c.queue ((s.queue c.queue).setJob c.job.pos (fun j => { j with waited := true }))).bump kDtSat)

/-- What core k, free, takes next. -/
def State.pick (s : State) (k : Nat) : Option Cand × State :=
  State.choose k (sortCands (s.heads.filter (s.offered k) ++ s.preemptedOn k)) s

end Sys2Proof.Machine
end

