-- ==== Sys2Proof/Machine/SessOps.lean ====
section
/-! DEFINITION. What ends an open and a session (R662 to R664, R678, R679). -/

namespace Sys2Proof.Machine

def fSecRejected (fn : Nat) : Fld := ⟨ownN fn 0x48000, 31, 1⟩
def fLockLevel (p : Nat) : Fld := ⟨ownN p 0x48000, 8, 4⟩
def fFails (p : Nat) : Fld := ⟨ownN p 0x48000, 4, 2⟩
def fSecState (p : Nat) : Fld := ⟨ownN p 0x48000, 0, 2⟩
def kSessId (p : Nat) : Nat := ownN p 0x48010
def kSecSeq (p : Nat) : Nat := ownN p 0x48014
def kOpenFails (p : Nat) : Nat := 0x490A0 + 4 * p

def State.session (s : State) (p : Nat) : Sess := Tbl.getD s.sess p Sess.reset
def State.setSession (s : State) (p : Nat) (x : Sess) : State := { s with sess := Tbl.put s.sess p x }

/-- An open of partition p ends as a failed one: counted and logged; the third in a row starts a lockout of 5 × 2^k s
(SESSION_LOCKOUT_START; R662, R663). -/
def State.failedOpen (s : State) (p : Nat) : State :=
  let x := s.session p
  let s := ((s.setSession p { x with pend := none }).bump (kOpenFails p)).violation 0x6201 (srcHost p)
  let s := if s.get (fSecState p) = 1 then s.put (fSecState p) 0 else s
  if s.get (fFails p) + 1 < 3 then s.put (fFails p) (s.get (fFails p) + 1)
  else
    let k := s.get (fLockLevel p)
    ((s.setSession p { s.session p with lock := some (s.tb.ticks, 5 * 2 ^ k) }).put (fFails p) 0).put (fLockLevel p) (min (k + 1) 5)

/-- CAN 0 leaves FAILED at a session reset of the perception partition, and starts bus-off recovery (R705). -/
def State.canRearm (s : State) : State :=
  if s.flag (fCanFailed 0) then
    ((s.off (fCanFailed 0)).put (fCanState 0) 2).setVeh { s.veh with recovering0 := true, busoffs := [] }
  else s

def fUpdateCode : Fld := ⟨0x6020, 16, 16⟩
def fUpdateState : Fld := ⟨0x6020, 8, 3⟩
def fUpdateKinds : Fld := ⟨0x6020, 0, 4⟩

/-- The session that staged firmware closes (R770): what is not activated is discarded, and a selector write in progress leaves the selector
in force. -/
def State.stagingEnds (s : State) : State :=
  let b := s.boot
  let s := if b.staged || b.writing || b.job.isSome then (s.put fUpdateState 0).put fUpdateKinds 0 else s
  { s with boot := { b with opened := false, staged := false, activated := false, writing := false, job := b.job.map (fun (j : StageJob) => { j with closed := true }) } }

/-- A session reset of partition p (R679): keys, sequence, pending open and identifier are cleared, and the session is closed; firmware
staging ends with the physical function's session (R770), and CAN 0 leaves FAILED with the perception partition's (R705). -/
def State.sessionReset (s : State) (p : Nat) : State :=
  let x := s.session p
  let open_ := decide (2 ≤ s.get (fSecState p))
  let s := (((s.setSession p { x with pend := none, kCmd := [], kRsp := [], mode := 0, verdict := 0, reason := 0 }).setReg64 (kSecSeq p) 0).setReg (kSessId p) 0).put (fSecState p) 0
  let s := if p = 0 then s.stagingEnds else s
  if open_ && p == s.perc then s.canRearm else s

/-- The session of p ends with a partition reset or the link: a pending open is a failed one (R662, R678). -/
def State.sessionEnds (s : State) (p : Nat) : State :=
  let s := if (s.session p).pend.isSome then s.failedOpen p else s
  s.sessionReset p

end Sys2Proof.Machine
end

