-- ==== Sys2Proof/Machine/PartOps.lean ====
section
/-! DEFINITION. Engine resets, partition resets and the conversation slots' expiries, as the rows that start or end them share
them (R249, R507 to R515, R601 to R604). -/

namespace Sys2Proof.Machine

-- ENGINE RESETS

/-- A transfer with a request that has not returned (R249). -/
def PeelEnt.outstanding (e : PeelEnt) : Bool := e.reqs != []

/-- Requests of peel q that have not returned (R251). -/
def CoreSt.outstanding (c : CoreSt) (q : Nat) : Nat := ((c.peelQ q).map (fun e => e.reqs.length)).foldl (· + ·) 0

/-- What an engine's reset clears (R249): 0 SEQ, 1 OPA, 2 VEC, 3 LPEEL, 4 SPEEL.  A peel keeps what is outstanding. [log 74: DEDUCED, unsafe] -/
def CoreSt.engineReset (c : CoreSt) (e : Nat) : CoreSt :=
  let c := { c with waits := Tbl.drop c.waits e }
  if e = 0 then
    { c with job := none, loaded := false, s := List.replicate 32 0, a := List.replicate 16 0, p := [], t := List.replicate 32 0,
             tcfg := List.replicate 32 0, pc := 0, sig := 0, bundle := none, icache := [], ended := false, load := none, sb := [], shadow := Shadow.reset,
             stopping := false }
  else if e = 1 then { c with opaQ := [], accs := [], mmaDone := none, drain := none, mode := 0, fa := 0, fb := 0, shadow := Shadow.reset, lastPc := c.lastPc.set 0 0 }
  else if e = 2 then { c with vecQ := [], v := [], lastPc := c.lastPc.set 1 0 }
  else if e = 3 then { c with lpeelQ := c.lpeelQ.filter PeelEnt.outstanding, lastPc := c.lastPc.set 2 0 }
  else { c with speelQ := c.speelQ.filter PeelEnt.outstanding, twinCrc := 0xFFFFFFFF, lastPc := c.lastPc.set 3 0 }

/-- The Reeve requests an engine's reset (R249). -/
def CoreSt.resetRequest (c : CoreSt) (e : Nat) : CoreSt :=
  { c.engineReset e with resetting := c.resetting.filter (· != e) ++ [e], peelRetry := c.peelRetry.filter (· != e) }

/-- The engine reports its reset done: nothing of a peel is outstanding (R249). -/
def CoreSt.resetDone (c : CoreSt) (e : Nat) : CoreSt :=
  let c := if e = 3 then { c with lpeelQ := [] } else if e = 4 then { c with speelQ := [] } else c
  { c with resetting := c.resetting.filter (· != e), thawed := c.thawed ++ [e], peelFailed := c.peelFailed.filter (· != e) }

-- PARTITION RESETS

/-- Some queue of partition p is not DISABLED. -/
def State.queuesActive (s : State) (p : Nat) : Bool := s.qm.queues.any (fun x => x.2.owner == p && x.2.state != 0)

/-- The save buffer of a pre-empted job is freed (R401, R508). -/
def State.freeSave (s : State) (e : DtEnt) : State :=
  match e.saved with
  | some x => s.setGrn e.core ((s.core e.core).grn.release x.buf)
  | none => s

/-- The pre-empted jobs that p picks out are discarded, with their save buffers (R508, step 3). -/
def State.dropPreempted (s : State) (p : DtEnt → Bool) : State :=
  s.qm.dt.foldl (fun s x => if x.2.saved.isSome && p x.2 then (s.freeSave x.2).freeDt x.1 else s) s

/-- The core stops, and its five engine resets are requested, if it runs a job of partition p (R508, step 2). -/
def CoreSt.abandon (c : CoreSt) (p : Nat) : CoreSt :=
  match c.job with
  | some j =>
    if j.part = p ∧ c.resetting = [] then { [0, 1, 2, 3, 4].foldl CoreSt.resetRequest c with resetPart := some p, peelFailed := [], thawed := [] } else c
  | none => c

/-- A partition reset of p starts: every core that runs one of its jobs stops issue and its five engine resets are requested, and
its pre-empted jobs are discarded, and its requests that are held (PARTITION_RESET_START; R508, steps 1 to 3; limit 4 of 14). -/
def State.startReset (s : State) (p : Nat) : State :=
  let s := (s.on (fResetting p)).dropAsks (fun x => x.part == p)
  let s := { s with cores := s.cores.map (fun (x : Nat × CoreSt) => (x.1, x.2.abandon p)) }
  s.dropPreempted (fun e => e.part == p)

/-- The sweep of a recovery, or of an entry to HELD, is still to end. -/
def State.sweepDue (s : State) : Bool :=
  match s.reeve.recovery with
  | some r => !r.swept
  | none => false

/-- A recovery's sweep is still to end, or some partition's RECOVERED event is still to come (R514). -/
def State.resetsHeld (s : State) : Bool := s.sweepDue || s.part.recoverDue != []

/-- The perception partition's function goes, by a Function Level Reset, a cleared VF Enable or the link, with some of its queues
enabled: 0x4402 (R513, R681). -/
def State.percGone (s : State) (p : Nat) (gone : Bool) : State :=
  if gone && p == s.perc && s.queuesActive p then s.jobFault 0x4402 (srcOf 3 p 0) else s

/-- A partition reset of p is requested, with its function gone where `gone` says so: it starts, joins one that runs, or is held until the
recovery in progress has been announced as over (R507, R513, R514). [log 75: DEDUCED, unsafe] -/
def State.requestReset (s : State) (p : Nat) (gone : Bool) : State :=
  let s := s.percGone p gone
  if s.flag (fResetting p) then s
  else if s.resetsHeld then (s.setPartCtl { s.part with heldResets := s.part.heldResets ++ [p] }).on (fResetting p)
  else s.startReset p

/-- The held partition resets start (R514). -/
def State.startHeld (s : State) : State := s.part.heldResets.foldl State.startReset (s.setPartCtl { s.part with heldResets := [] })

/-- The perception partition's function has gone, and its 0x4402 has not reached the collector yet: the partition reset completes within the sweep
that follows (R513). -/
def State.goneDue (s : State) (p : Nat) : Bool := p == s.perc && s.reeve.events.any (fun e => e.code == 0x4402#16)

/-- PART_EVENT.RECOVERED of partition p is set; the last one lets held partition resets start (R502, R514). -/
def State.recovered (s : State) (p : Nat) : State :=
  if s.part.recoverDue.contains p then
    let s := s.setPartCtl { s.part with recoverDue := s.part.recoverDue.filter (· != p) }
    let s := s.partEvent p 1
    if s.part.recoverDue = [] ∧ !s.sweepDue then s.startHeld else s
  else s

/-- Every engine reset that the partition reset of p requested is done. -/
def State.enginesDone (s : State) (p : Nat) : Bool := s.cores.all (fun x => x.2.resetPart != some p || x.2.resetting == [])

/-- A queue of a partition that is reset: DISABLED, its context kept, nothing submitted and no record due (R508, step 6). -/
def QueueSt.dropped (q : QueueSt) : QueueSt := { q with state := 0, haltCode := 0, jobs := [], lost := [], window := false }

/-- The registers that a partition reset sets to 0 (R508, step 7). -/
def State.clearEvents (s : State) (p : Nat) : State :=
  [0x28, 0x30, 0x34, 0x38, 0x3C, 0x44, 0x48].foldl (fun s o => s.setReg (kPart p o) 0) s

/-- A partition reset of p completes (R508, steps 4 to 8; R509, R510, R610, R688): entries, buffers, queues, slots, events and the
session go, and the physical function is told where the partition is another one. -/
def State.completeReset (s : State) (p : Nat) : State :=
  let s := s.setQm { s.qm with dt := s.qm.dt.filter (fun x => x.2.part != p) }
  let s := (List.range 16).foldl (fun s k => s.releaseBufs k (fun _ r => r.part == p)) s
  let s := { s with cores := s.cores.map (fun (x : Nat × CoreSt) => if x.2.resetPart = some p then (x.1, { x.2 with resetPart := none }) else x) }
  let qs := s.qm.queues.map (fun (x : Nat × QueueSt) => if x.2.owner = p then (x.1, x.2.dropped) else x)
  let ct := s.qm.slots.map (fun (x : Nat × CtSlot) => if x.2.part = p ∧ x.2.state ≠ 0 then (x.1, CtSlot.reset) else x)
  let s := s.setQm { s.qm with queues := qs, slots := ct }
  let s := (s.clearEvents p).sessionEnds p
  let s := if s.part.flr.contains p then
      ((s.setReg (kPart p 0x24) (regReset (kPart p 0x24))).setReg (kPart p 0x2C) (regReset (kPart p 0x2C))).setReg (ownN p 0x4800C) 0
    else s
  let s := s.setPartCtl { s.part with bal := s.part.bal.filter (fun x => x.1 % 8 != p), flr := s.part.flr.filter (· != p) }
  let s := s.setPartCtl { s.part with recoverDue := s.part.recoverDue.filter (· != p), lostDue := Tbl.drop s.part.lostDue p }
  let s := s.off (fResetting p)
  if p = 0 then s else s.partEvent 0 4

-- CONVERSATION SLOTS

def kCtReqExp : Nat := 0x24240
def kCtFolds : Nat := 0x24244
def kCtViol : Nat := 0x24248

def State.slot (s : State) (k : Nat) : CtSlot := Tbl.getD s.qm.slots k CtSlot.reset
def State.setSlot (s : State) (k : Nat) (x : CtSlot) : State := s.setQm { s.qm with slots := Tbl.put s.qm.slots k x }

/-- Every descriptor of the queue that has been submitted and not dispatched is rejected (R601). -/
def State.rejectWaiting (s : State) (q code : Nat) : State :=
  let reject (j : QJob) : QJob :=
    match j.at_ with
    | .waiting d => { j with at_ := .done (j.rejection s.now code d) }
    | _ => j
  s.setQueue q { s.queue q with jobs := (s.queue q).jobs.map reject }

/-- A request timer's expiry takes effect on slot k (R601). -/
def State.requestExpired (s : State) (k : Nat) : State :=
  let x := s.slot k
  let s := s.setSlot k { x with state := 1, reqFrom := none, dormFrom := some s.tb.ticks, due := false }
  (s.rejectWaiting x.queue 0x4601).bump kCtReqExp

/-- The request expiries that waited for the resumption of a queue (limit 4 of 16). -/
def State.dueExpiries (s : State) (q : Nat) : State :=
  s.qm.slots.foldl (fun s x => if x.2.due && x.2.queue == q then s.requestExpired x.1 else s) s

/-- The gate that a fold descriptor of queue q holds is released (R603). -/
def State.releaseGate (s : State) (q : Nat) (j : QJob) : State :=
  match j.fold with
  | some (k, _, _) =>
    let x := s.slot k
    if x.gate && x.foldOf == q && x.foldSeq == BitVec.ofNat 32 j.pos then s.setSlot k { x with gate := false } else s
  | none => s

end Sys2Proof.Machine
end

