-- ==== Sys2Proof/Machine/Queues.lean ====
section
/-! DEFINITION. Queues, dispatch, retirement and completion records (13_queues_and_dispatch.md). -/

namespace Sys2Proof.Machine

-- DOORBELLS

/-- SQ_DB (R450 to R452, R508): descriptors up to PRODUCER are submitted, or the doorbell is ignored. -/
def execSqDb (fn : Fn) (q : BitVec 16) (v : Word) (s : State) : Out :=
  if s.turnsAway fn then .next (s.turnedAway fn) else
  let x := s.queue q.toNat
  let detail := leBytes 4 v.toNat
  let n := (v.toNat % 65536 + 65536 - x.prod) % 65536
  if s.inReset x.owner then .next s
  else if fn.val ≠ x.owner then .next (s.qmViolation 0x4101 detail)
  else if v.toNat / 65536 ≠ 0 ∧ s.advanceFault x 0 = none then .next (s.qmViolation 0x4104 detail)
  else
    match s.advanceFault x n with
    | some code => .next (s.qmViolation code detail)
    | none => .next (s.setQueue q.toNat (x.advance s.now n none))

/-- CQ_DB (R450, R452): completion-ring entries are free again, or the doorbell is ignored. [log 66: DEDUCED, unsafe] -/
def execCqDb (fn : Fn) (q : BitVec 16) (v : Word) (s : State) : Out :=
  if s.turnsAway fn then .next (s.turnedAway fn) else
  let x := s.queue q.toNat
  let detail := leBytes 4 v.toNat
  if s.inReset x.owner then .next s
  else if fn.val ≠ x.owner then .next (s.qmViolation 0x4101 detail)
  else if x.state ≠ 1 ∨ x.isFrame ∨ !s.sessFull x.owner then .next (s.qmViolation 0x4102 detail)
  else if v.toNat / 65536 ≠ 0 ∨ x.size < (x.recs.toNat + 65536 - v.toNat % 65536) % 65536 then .next (s.qmViolation 0x4104 detail)
  else .next (s.setQueue q.toNat { x with cons := v.toNat % 65536 })

-- DESCRIPTORS

/-- DESCRIPTOR_FETCH (R454, R455, R487, R517): the head's descriptor is read, once its request is admitted, and checked, and becomes a candidate or is
rejected; ecc is what the system buffer reports. -/
def execDescriptorFetch (q : BitVec 16) (ecc : Ecc) (s : State) : Out :=
  let x := s.queue q.toNat
  match x.head with
  | some j =>
    if x.state ≠ 1 ∨ s.inReset x.owner ∨ j.at_ ≠ .waiting none then .next s
    else
      let a := x.ring + 64 * j.slot
      if ecc = .uncorrectable then .next (s.jobFault 0x3201 (srcQm 0))
      else if !s.jobOk x.owner a 64 false then .next (s.refused4301 x.owner a)
      else
        match s.dramAsk (.descriptor q.toNat) x.owner (linesOf a 64) with
        | (false, s) => .next s
        | (true, s) =>
          match s.ramRead .queueManager a 64 with
          | (_, true, s) => .next s
          | (bs, false, s) =>
            let d := Desc.ofBytes bs
            match s.descFault x j d with
            | some code => .next (s.rejectJob q.toNat j.pos code (some d))
            | none => .next ((s.joinPair x.owner j d).setQueue q.toNat (x.setJob j.pos (fun j => { j with at_ := .waiting (some d) })))
  | none => .next s

-- QM_QCTL

/-- The ring lies in the owner's device memory (R449). -/
def State.ringOk (s : State) (x : QueueSt) : Bool := s.jobOk x.owner x.ring (64 * x.size) false

/-- The context of a queue is in range (R449; 13, Registers). -/
def State.ctxOk (s : State) (x : QueueSt) : Bool :=
  decide (4 ≤ bitsAt (x.word 0) 16 4) && (!x.isFrame || (decide (1 ≤ x.frameCount) && decide (x.frameCount ≤ x.size))) && s.ringOk x

/-- QUEUE_ENABLE: QM_QCTL command 1 on the queue that QM_QSEL names (R449, R490, R667). -/
def execQueueEnable (fn : Fn) (s : State) : Out :=
  if s.turnsAway fn then .next (s.turnedAway fn) else
  let q := s.get (fQsel fn)
  let x := s.queue q
  if !s.qmMay fn q then .next s
  else if s.sessFull fn.val && x.state == 0 && s.ctxOk x then .next (s.setQueue q { QueueSt.reset with ctx := x.ctx, state := 1 })
  else .next (s.qmReject fn)

/-- A queue that drains is DISABLED once it holds no job (13, Registers). -/
def QueueSt.settled (x : QueueSt) : QueueSt := if x.state = 3 ∧ x.jobs = [] then { x with state := 0 } else x

/-- QUEUE_DISABLE: QM_QCTL command 2; descriptors that are not dispatched are dropped (13, Registers). [log 67: DEDUCED, unsafe] -/
def execQueueDisable (fn : Fn) (s : State) : Out :=
  if s.turnsAway fn then .next (s.turnedAway fn) else
  let q := s.get (fQsel fn)
  let x := s.queue q
  if !s.qmMay fn q || x.state == 0 then .next s
  else
    .next ((s.setQueue q { x with state := 3, haltCode := 0, jobs := x.jobs.filter (fun j => !j.waits), lost := [] }.settled).dropAsks
      (fun y => y.user == .descriptor q || y.user == .intake q))

/-- A lost descriptor submitted again at Timebase value t (R485). -/
def QJob.again (j : QJob) (t : Nat) : QJob := { j with submit := t, waited := false, late := false, at_ := .waiting none }

/-- The descriptors that a HALTED queue lost: those whose LOST record has been written, and those whose record is still due (R485). -/
def QueueSt.lostJobs (x : QueueSt) : List QJob :=
  x.lost ++ x.jobs.filter (fun j => match j.at_ with | .done r => r.status == 3 && !r.resumed | _ => false)

/-- The queue RUNNING again: its due LOST records stay due (R485). -/
def QueueSt.resume (x : QueueSt) : QueueSt :=
  let keep (j : QJob) : QJob := match j.at_ with
    | .done r => if r.status = 3 then { j with at_ := .done { r with resumed := true } } else j
    | _ => j
  { x with state := 1, haltCode := 0, jobs := x.jobs.map keep, lost := [] }

/-- QUEUE_RESUME_REPLAY: QM_QCTL command 3 (R485, R667; limit 4 of 16): the lost descriptors come again, before those never dispatched. -/
def execQueueResumeReplay (fn : Fn) (s : State) : Out :=
  if s.turnsAway fn then .next (s.turnedAway fn) else
  let q := s.get (fQsel fn)
  let x := s.queue q
  if !s.qmMay fn q then .next s
  else if s.sessFull fn.val && x.state == 2 then
    let y := x.resume
    .next ((s.setQueue q { y with jobs := y.jobs.filter (fun j => !j.waits) ++ x.lostJobs.map (fun j => j.again s.now) ++ y.jobs.filter QJob.waits }).dueExpiries q)
  else .next (s.qmReject fn)

/-- QUEUE_RESUME_SKIP: QM_QCTL command 4; a fold that it passes over releases its gate (R485, R603, R667). -/
def execQueueResumeSkip (fn : Fn) (s : State) : Out :=
  if s.turnsAway fn then .next (s.turnedAway fn) else
  let q := s.get (fQsel fn)
  let x := s.queue q
  if !s.qmMay fn q then .next s
  else if s.sessFull fn.val && x.state == 2 then
    .next ((x.lostJobs.foldl (fun s j => s.releaseGate q j) (s.setQueue q x.resume)).dueExpiries q)
  else .next (s.qmReject fn)

-- DISPATCH

/-- The architectural state of a core at the start of a job (JOB_STATE_CLEAR; R229, R233, R281). -/
def CoreSt.started (c : CoreSt) (job : CoreJob) (pc args s2 : DWord) (k : Nat) (wdog : List Nat) (tmo : Nat) : CoreSt :=
  { CoreSt.reset with job := some job, loaded := job.tallyCfg == 0, s := (((List.replicate 32 0).set 1 args).set 2 s2).set 3 (BitVec.ofNat 64 k), pc := pc, sig := pc ^^^ 0xC3A50F965A3CE187, wdog := wdog, peelTmo := tmo, grn := c.grn }

/-- HRT_WDOG_WIN in cycles, and HRT_PEEL_TMO (limit 8 of 06). -/
def State.wdogWindows (s : State) : List Nat := (List.range 5).map (fun e => s.get ⟨0x50010 + 4 * e, 0, 15⟩ * 1024)
def State.peelTimeout (s : State) : Nat := s.get ⟨0x50030, 0, 15⟩

/-- The word that the Queue Manager writes at ARGS before the job starts: the intake word (R457), the fold word (R602), or none.  Of a group frame that was
not posted and is not older than every post remembered, the spec gives neither the record index nor the post time: free values. [log 158: DESIGN CHOICE, safe] -/
def State.argsWord (s : State) (c : Cand) : List Byte :=
  match c.job.fold with
  | some (slot, q, t) => leBytes 2 slot ++ leBytes 2 q ++ leBytes 4 0 ++ leBytes 8 t
  | none =>
    if c.desc.waitIntake then
      match s.postOf c.desc.group (c.job.frameOf c.desc) with
      | some p => leBytes 4 p.headBefore.toNat ++ leBytes 4 (c.job.frameOf c.desc).toNat ++ leBytes 8 p.time
      | none => leBytes 4 (Config.fresh s.draws) ++ leBytes 4 (c.job.frameOf c.desc).toNat ++ leBytes 8 (Config.fresh (s.draws + 1))
    else []

/-- The state once the word's free values have been drawn. -/
def State.argsDrawn (s : State) (c : Cand) : State :=
  if c.job.fold.isNone ∧ c.desc.waitIntake ∧ (s.postOf c.desc.group (c.job.frameOf c.desc)).isNone then s.drawnN 2 else s

/-- The chosen head is placed on core k (R461, R463). -/
def State.placeJob (s : State) (k : CoreId) (c : Cand) : State :=
  let d := c.desc
  let x := s.queue c.queue
  let i := s.dtFree
  let mark := c.job.markFrame d
  let e : DtEnt := { queue := c.queue, pos := c.job.pos, part := x.owner, core := k, desc := d, frame := mark, submit := c.job.submit, preempted := false, saved := none }
  let job : CoreJob := { dt := i, part := x.owner, sigEnd := d.sigEnd, tallyCfg := d.tallyCfg, twin := d.twinId != 0, err := 0 }
  let s2 := BitVec.ofNat 64 (c.queue + x.owner * 2 ^ 16 + i * 2 ^ 22 + mark.toNat * 2 ^ 32)
  let s := s.setDt i e
  let s := s.setQueue c.queue { x.setJob c.job.pos (fun j => { j with at_ := .placed i }) with disp := x.disp + 1 }
  (s.setCore k ((s.core k).started job d.program d.args s2 k s.wdogWindows s.peelTimeout)).occupy k

/-- The chosen head is placed on core k, once the word at its ARGS has reached its completion point (R457, R461, R463, R517). -/
def State.startJob (s : State) (k : CoreId) (c : Cand) : State :=
  let p := s.candPart c
  let a := c.desc.args.toNat
  let bs := s.argsWord c
  if bs = [] then s.placeJob k c
  else if !s.jobOk p a 16 true then s.refused4301 p a
  else
    match s.dramAsk (.intake c.queue) p (linesOf a 16) with
    | (false, s) => s
    | (true, s) => ((s.argsDrawn c).ramWrite .queueManager a bs).placeJob k c

/-- Eligible heads whose post is forgotten are rejected (R457). -/
def State.rejectForgotten (s : State) : State :=
  s.heads.foldl (fun s c => if s.forgotten c.job c.desc then s.rejectJob c.queue c.job.pos 0x4107 (some c.desc) else s) s

/-- JOB_DISPATCH (R456 to R463, R471, R472, R483, R524): core k, free, takes the head that R461 chooses; a chosen pre-empted job is
resumed instead (JOB_RESUME).  In HELD every eligible head is rejected (R81). [log 70: DEDUCED, unsafe] -/
def execJobDispatch (k : CoreId) (s : State) : Out :=
  if s.isHeld then
    .next (s.heads.foldl (fun s c => s.rejectJob c.queue c.job.pos (s.get fHdgHeldCause) (some c.desc)) s)
  else if s.fenced || s.asleep || !s.coreFree k then .next s
  else
    let s' := s.rejectForgotten
    match s'.pick k with
    | (some c, s'') => if c.pre.isSome then .next s' else .next (s''.startJob k c)
    | (none, s'') => .next s''

-- RETIREMENT

/-- Everything that the job on the core has queued is done, and END has issued (R235). -/
def CoreSt.finished (c : CoreSt) : Bool :=
  c.ended && c.bundle.isNone && c.opaQ == [] && c.vecQ == [] && c.lpeelQ == [] && c.speelQ == [] && c.drain.isNone && c.sb == [] &&
    c.load.isNone && !c.stopping

/-- The buffers that a retiring job gives back: those of classes 0 to 14 with its index (R399). -/
def State.reclaimable (s : State) (dt i : Nat) (r : BufRec) : Bool := r.held && r.dt == dt && s.classOfBuf i != 15

/-- A change of the twin pair of a key. -/
def State.onPair (s : State) (id : Nat) (frame : Word) (f : TwinPair → TwinPair) : State :=
  s.setQm { s.qm with pairs := s.qm.pairs.map (fun (x : TwinPair) => if x.id = id ∧ x.frame = frame then f x else x) }

/-- The twin comparison at a retirement with success: the first checksum is kept, and the second is compared with it (TWIN_COMPARE;
R98). -/
def State.twinRetired (s : State) (k : Nat) (id : Nat) (frame crc : Word) : State :=
  let s := s.onPair id frame (fun x => { x with retired := x.retired + 1 })
  match s.reeve.twins.find? (fun x => x.1 == id && x.2.1 == frame) with
  | some (_, _, _, first) =>
    let s := s.onPair id frame (fun x => { x with same := first == crc })
    let s := s.setReeve { s.reeve with twins := s.reeve.twins.filter (fun x => !(x.1 == id && x.2.1 == frame)) }
    if first = crc then s else s.jobFault 0xA101 (srcOf 9 0 0) (first.toNat + crc.toNat * 2 ^ 32)
  | none => s.setReeve { s.reeve with twins := s.reeve.twins ++ [(id, frame, k, crc)] }

/-- JOB_RETIRE (R66, R98, R235, R236, R399, R429, R466): the core reports the retirement, the job's buffers are reclaimed, and with success
its frame-done mark is delivered. -/
def execJobRetire (k : CoreId) (s : State) : Out :=
  let c := s.core k
  match c.job with
  | some job =>
    match Tbl.find s.qm.dt job.dt with
    | some e =>
      if !(s.runs k && c.finished && s.windowsDone k) then .next s
      else
        let crc : Word := BitVec.ofNat 32 (c.twinCrc ^^^ 0xFFFFFFFF)
        let freed := (c.grn.recs.filter (fun x => s.reclaimable job.dt x.1 x.2)).length
        let s := s.vacate k
        let s := (s.releaseBufs k (fun i r => s.reclaimable job.dt i r)).bumpBy (kGrn k 0x10) freed
        let s := (s.setCore k { s.core k with job := none, ended := false }).setReg (kCore k 0x20) crc
        let r : Rec := { status := if job.err = 0 then 0 else 1, code := job.err, core := k, dt := some job.dt, crc := crc, preempted := e.preempted, twin := e.desc.twinId != 0, userTag := e.desc.userTag, elapsedUs := min ((s.now - e.submit) / 1000) 0xFFFFFFFF, cleared := false }
        let s := s.setQueue e.queue ((s.queue e.queue).setJob e.pos (fun j => { j with at_ := .done r }))
        if job.err ≠ 0 then .next s
        else
          let s := if e.desc.fdmEn then s.frameDone e.desc.timer e.frame s.now else s
          .next (if s.isTwin e.part e.desc then s.twinRetired k e.desc.twinId e.frame crc else s)
    | none => .next s
  | none => .next s

-- CLEARANCE

/-- The retired job of an entry, and its record. -/
def State.retiredOf (s : State) (e : DtEnt) : Option Rec :=
  ((s.queue e.queue).jobAt e.pos).bind (fun j => match j.at_ with | .done r => some r | _ => none)

/-- What the frame's verdict takes over from a cleared job (R86, R90, R99). -/
def Verdict.take (v : Verdict) (e : DtEnt) (r : Rec) : Verdict :=
  let lower : Bool := match v.twin with
    | some (id, _) => decide (e.desc.twinId < id)
    | none => true
  { v with cleared := if v.cleared.contains e.desc.timer then v.cleared else v.cleared ++ [e.desc.timer], pairs := if e.desc.twinId ≠ 0 then v.pairs ++ [e.desc.twinId] else v.pairs, twin := if e.desc.twinId ≠ 0 ∧ lower then some (e.desc.twinId, r.crc) else v.twin }

/-- REEVE_CLEARANCE (R90, R745): the Reeve clears the retired perception job of a Dispatch Table entry, a twin job once both twins have
retired with equal checksums, and the frame's verdict is released when nothing of it is missing. -/
def execReeveClearance (dt : BitVec 10) (s : State) : Out :=
  match Tbl.find s.qm.dt dt.toNat with
  | some e =>
    match s.retiredOf e with
    | some r =>
      let pairDone := !s.isTwin e.part e.desc ||
        (match s.pairOf e.desc.twinId e.frame with | some x => decide (2 ≤ x.retired) && x.same | none => false)
      if !s.reeve.alive || e.part != s.perc || r.cleared || r.status == 3 || s.fenced || !pairDone then .next s
      else
        let s := s.setQueue e.queue ((s.queue e.queue).setJob e.pos (fun j => { j with at_ := .done { r with cleared := true } }))
        if e.desc.fdmEn ∧ r.status = 0 then .next ((s.setVerdict ((s.verdictOf e.frame).take e r)).releaseVerdict e.frame).bankAgain
        else .next s
    | none => .next s
  | none => .next s

-- COMPLETION RECORDS

/-- The 32 bytes of a completion record (R466): PHASE is 1 on the first pass through the ring. -/
def recBytes (q : Nat) (x : QueueSt) (j : QJob) (r : Rec) : List Byte :=
  leBytes 8 r.userTag.toNat ++ leBytes 2 q ++ leBytes 2 (r.dt.getD 0xFFFF) ++ leBytes 4 j.pos ++ leBytes 1 r.status ++ leBytes 1 r.core ++
    leBytes 2 r.code ++ leBytes 1 (b2n r.preempted + 2 * b2n r.twin + 128 * b2n (x.recs.toNat / x.size % 2 == 0)) ++ leBytes 3 0 ++
    leBytes 4 r.crc.toNat ++ leBytes 4 r.elapsedUs

/-- A record of partition p is LOST and still due. -/
def State.lostPending (s : State) (p : Nat) : Bool :=
  s.qm.queues.any (fun x => x.2.owner == p && x.2.jobs.any (fun j => match j.at_ with | .done r => r.status == 3 | _ => false))

/-- The queue's MSI-X: at once, or at the end of a window that this record opens (R470). -/
def State.coalesce (s : State) (q : Nat) : State :=
  let x := s.queue q
  if !x.intEn || x.window then s
  else if x.coalesceUs = 0 then s.msix x.owner x.vector
  else s.setQueue q { x with window := true }

/-- The record of the queue's oldest descriptor is written, and what hangs on it follows: its entry is freed, DONE and QM_QREC count,
a fold gate is released, a lost job is remembered for the resumption, and a queue that drains may be DISABLED (R459, R463, R466,
R484, R502, R603). -/
def State.writeRecord (s : State) (q : Nat) (j : QJob) (r : Rec) : State :=
  let x := s.queue q
  let s := s.hostWrite x.owner (x.cq + 32 * (x.recs.toNat % x.size)) (recBytes q x j r)
  let y : QueueSt := { x with recs := x.recs + 1, done := if r.status ≤ 1 then x.done + 1 else x.done, jobs := x.jobs.drop 1, lost := if r.status = 3 ∧ !x.isFrame ∧ !r.resumed then x.lost ++ [j] else x.lost }
  let s := s.setQueue q y.settled
  let s := match r.dt with
    | some i => s.freeDt i
    | none => s
  let s := if r.status = 3 then s else s.releaseGate q j
  let s := s.coalesce q
  if r.status = 3 ∧ !s.lostPending x.owner then s.recovered x.owner else s

/-- The next record of a queue that can be written: ready, in descriptor order, with a free entry; while the release gate is closed a
dispatched job's record is not written but as LOST (R91, R467 to R469, R623). -/
def State.nextRecord (s : State) (q : Nat) : Option (QJob × Rec) :=
  let x := s.queue q
  match x.jobs with
  | j :: _ =>
    match j.at_ with
    | .done r =>
      if s.recReady x r && !x.ringFull && !s.inReset x.owner && !(s.recovering && r.dt.isSome && r.status != 3) then some (j, r) else none
    | _ => none
  | [] => none

/-- COMPLETION_RECORD_WRITE (R467 to R470). -/
def execCompletionRecordWrite (q : BitVec 16) (s : State) : Out :=
  match s.nextRecord q.toNat with
  | some (j, r) => .next (s.writeRecord q.toNat j r)
  | none => .next s

/-- COALESCE_EXPIRY (R470): the queue's window has lasted elapsed µs. -/
def execCoalesceExpiry (q : BitVec 16) (elapsedUs : Nat) (s : State) : Out :=
  let x := s.queue q.toNat
  if x.window && decide (x.coalesceUs ≤ elapsedUs) then .next ((s.setQueue q.toNat { x with window := false }).msix x.owner x.vector)
  else .next s

-- DEADLINES

/-- The deadline of a job that has not retired, in µs, with its Dispatch Table index where it has one. -/
def State.deadlineOf (s : State) (j : QJob) : Option (Nat × Option Nat) :=
  match j.at_ with
  | .waiting (some d) => some (d.deadlineUs, none)
  | .placed i => (Tbl.find s.qm.dt i).map (fun e => (e.desc.deadlineUs, some i))
  | _ => none

/-- JOB_DEADLINE_EXPIRY (R475, R622): elapsed µs after its submission the job at a position of a queue has not retired.  INFO of a
head that was never dispatched holds a free index. [log 69: DEDUCED, safe] -/
def execJobDeadlineExpiry (q : BitVec 16) (pos : Nat) (elapsedUs : Nat) (s : State) : Out :=
  let x := s.queue q.toNat
  match x.jobAt pos with
  | some j =>
    match s.deadlineOf j with
    | some (d, dt) =>
      if d = 0 ∨ elapsedUs < d ∨ j.late ∨ (s.recovering ∧ dt.isSome) then .next s
      else
        let s1 := (s.setQueue q.toNat (x.setJob pos (fun j => { j with late := true }))).bump kDeadlineFaults
        match dt with
        | some i => .next (s1.jobFault 0x4201 (srcQm 0) (q.toNat + i * 2 ^ 16))
        | none => .next (s1.drawn.jobFault 0x4201 (srcQm 0) (q.toNat + s.free % 1024 * 2 ^ 16))
    | none => .next s
  | none => .next s

end Sys2Proof.Machine
end

