-- ==== Sys2Proof/Machine/Preempt.lean ====
section
/-! DEFINITION. Pre-emption: the request, the save images of the core and of its array, and the resumption (R331 to R334, R476 to
R482, R829). -/

namespace Sys2Proof.Machine

-- THE REQUEST

/-- The effective priority of a job on a core (R460). -/
def State.runPrio (s : State) (e : DtEnt) : Nat := min e.desc.prio (s.queue e.queue).prioMax

/-- The job that runs on core k and is not being stopped, with its Dispatch Table entry. -/
def State.running (s : State) (k : Nat) : Option DtEnt :=
  if (s.core k).stopping || (s.core k).frozen || (s.core k).resetting != [] then none
  else
    match (s.core k).job with
    | some j => Tbl.find s.qm.dt j.dt
    | none => none

/-- Cores that are being stopped for some head. -/
def State.stoppingCores (s : State) : List Nat := (List.range 16).filter (fun k => (s.core k).stopping)

/-- The heads, in the order of R461, for which no core is free or is already being stopped (R476). -/
def State.wanting (s : State) : List Cand :=
  ((sortCands s.heads).foldl (fun (r : List Nat × List Cand) c =>
    let p := s.candPart c
    if s.freeFor p c.desc.core != [] then r
    else
      match r.1.find? (fun k => s.mayUse p c.desc.core k) with
      | some k => (r.1.filter (· != k), r.2)
      | none => (r.1, r.2 ++ [c])) (s.stoppingCores, [])).2

/-- The core, among those that a head may use, whose running job has the lowest effective priority; ties go to the lowest number
(R476). -/
def State.victim (s : State) (c : Cand) : Option Nat :=
  ((List.range 16).filter (fun k => s.mayUse (s.candPart c) c.desc.core k)).foldl (fun best k =>
    match s.running k with
    | none => best
    | some e =>
      match best with
      | none => some k
      | some b =>
        match s.running b with
        | some eb => if s.runPrio e < s.runPrio eb then some k else best
        | none => some k) none

/-- Core k's job is to be pre-empted (R476). -/
def State.preemptDue (s : State) (k : Nat) : Bool :=
  match s.running k with
  | some e =>
    e.desc.preemptOk && !(s.core k).ended && s.wanting.any (fun c => s.victim c == some k && decide (s.runPrio e < c.prio))
  | none => false

/-- The save-class buffer for the job on core k (R400, R477). -/
def State.chooseSave (s : State) (k p : Nat) : Option Nat :=
  if s.flag fPoolEn && decide (7 ≤ s.get (fClassSize 15)) then s.chooseBuf k p 15 else none

/-- A bundle that has not issued counts as not issued, and the buffer that its BALLOC has filled is free again (R478). -/
def CoreSt.dropUnissued (c : CoreSt) : CoreSt :=
  match c.bundle with
  | some h =>
    if h.issued then c
    else
      match h.alloc with
      | some (i, true) => { c with bundle := none, grn := c.grn.release i }
      | _ => { c with bundle := none }
  | none => c

/-- Sub-arrays of accumulator a with an open pass. -/
def CoreSt.openSubs (c : CoreSt) (a : Nat) : List (Nat × AccSt) :=
  c.accs.filterMap (fun x => if x.1 / 16 = a then some (x.1 % 16, x.2) else none)

/-- The checks of every open pass, accumulator by accumulator, as a DRAIN would make them, skipped comparisons counted; a failure raises 0x2101
(ARRAY_SAVE; R328, R331). -/
def State.arrayCheck (s : State) (k : CoreId) : List Nat → State
  | [] => s
  | a :: r =>
    let c := s.core k
    let w := modeWidth c.mode
    let s := s.bumpBy (kCore k 0xC28) (skips (!c.integer) w (c.openSubs a))
    match firstFail (!c.integer) w (c.openSubs a) with
    | some (m, steps, cmp) => s.checkFault k a m steps true (!c.integer) cmp
    | none => State.arrayCheck s k r

/-- The store buffer drains (R478). -/
def State.drainAll (k : CoreId) : (fuel : Nat) → State → State
  | 0, s => s
  | n + 1, s => if (s.core k).sb = [] then s else State.drainAll k n (s.drainOldest k)

/-- A meaning's next state. -/
def Out.state (s : State) (o : Out) : State :=
  match o with
  | .next t => t
  | _ => s

/-- The save buffer is taken and filled for the job (R391, R400, R477). -/
def State.takeSave (s : State) (k buf : Nat) (job : CoreJob) : State :=
  s.fillDone k buf { held := true, part := job.part, eng := 5, dt := job.dt }

/-- The save buffer that the job of core k holds. -/
def State.saveBufOf (s : State) (k : Nat) (job : CoreJob) : Option Nat :=
  ((s.core k).grn.recs.find? (fun x => x.2.held && x.2.eng == 5 && x.2.dt == job.dt && s.classOfBuf x.1 == 15)).map (·.1)

/-- PREEMPTION_REQUEST (R476 to R478): with a save buffer filled, the sequencer issues no further bundle, the store buffer drains, the
DRAIN in progress ends, and the array's open passes are checked. [log 72: DEDUCED, unsafe] -/
def execPreemptionRequest (k : CoreId) (s : State) : Out :=
  let c := s.core k
  match c.job with
  | some job =>
    if s.fenced || s.isHeld || s.paused k || !s.preemptDue k then .next s
    else
      match s.chooseSave k job.part with
      | none => .next (s.bump kNoSave)
      | some b =>
        let s := s.takeSave k b job
        let s := s.setCore k { (s.core k).dropUnissued with stopping := true }
        let s := State.drainAll k 17 s
        let s := Out.state s (execDrainComplete k false [] 65536 s)
        if (s.core k).frozen then .next s else .next (s.arrayCheck k [0, 1, 2, 3])
  | none => .next s

-- THE IMAGE

/-- The engine program counter of OPA 0, VEC 1, LPEEL 2, SPEEL 3: a DRAIN that the drain unit works on is OPA's oldest (R230, R306). -/
def CoreSt.enginePc (c : CoreSt) (e : Nat) : DWord :=
  let head : Option DWord :=
    if e = 0 then (match c.drain with | some d => some d.bundle | none => c.opaQ.head?.map (·.bundle))
    else if e = 1 then c.vecQ.head?.map (·.bundle)
    else if e = 2 then c.lpeelQ.head?.map (·.bundle)
    else c.speelQ.head?.map (·.bundle)
  head.getD (c.lastPc.getD e 0)

/-- Entries of the four queues, in 6 bits each (R479). -/
def CoreSt.fill (c : CoreSt) : Nat := c.opaQ.length + c.vecQ.length * 2 ^ 6 + c.lpeelQ.length * 2 ^ 12 + c.speelQ.length * 2 ^ 18

/-- Widths of the operand values that an entry holds, in the order of their fields (R480). -/
def valWidths : Op → List Nat
  | .twait .. => [48]
  | .mma .. => [22, 22, 16]
  | .drain .. => [22]
  | .vec op .. => if op = 0x13 then [32] else if op = 0x12 || op = 0x14 || op = 0x15 then [22] else []
  | _ => []

/-- Values packed from bit 0 upward. -/
def packVals : List Nat → List Nat → Nat
  | w :: ws, v :: vs => v % 2 ^ w + 2 ^ w * packVals ws vs
  | _, _ => 0

def unpackVals : List Nat → Nat → List Nat
  | w :: ws, n => n % 2 ^ w :: unpackVals ws (n / 2 ^ w)
  | [], _ => []

/-- An entry of the OPA or VEC queue in the image (R480). -/
def QEnt.bytes (q : QEnt) : List Byte := leBytes 5 q.raw ++ leBytes 3 0 ++ leBytes 8 (packVals (valWidths q.op) q.vals)

/-- An entry of a peel's queue as the record of R239 (R829). [log 56: DEDUCED, unsafe] -/
def PeelEnt.bytes (e : PeelEnt) : List Byte :=
  leBytes 8 e.src.toNat ++ leBytes 8 e.dst.toNat ++ leBytes 4 e.len ++ leBytes 2 e.cnt1 ++ leBytes 2 e.cnt2 ++ leBytes 4 e.ss1 ++
    leBytes 4 e.ss2 ++ leBytes 4 e.ds1 ++ leBytes 4 e.ds2 ++ leBytes 1 (e.tally + 128 * b2n e.en) ++
    leBytes 1 (b2n e.zf + 2 * b2n e.loc + 64 * e.kind) ++ leBytes 2 e.st ++ leBytes 4 e.issued

/-- Bytes padded with zeros to n. -/
def padTo (n : Nat) (bs : List Byte) : List Byte := bs ++ List.replicate (n - bs.length) 0

/-- Bit 16 × a + m of OPEN is set for an open pass (R332). -/
def CoreSt.openBits (c : CoreSt) : Nat := (c.accs.map (fun x => 2 ^ x.1)).foldl (· + ·) 0

/-- The first 512 bytes of the array save image (R332). -/
def CoreSt.arrayHead (c : CoreSt) : List Byte :=
  padTo 256 (leBytes 4 0x4F505341 ++ leBytes 1 c.mode ++ leBytes 1 c.fa ++ leBytes 1 c.fb ++ leBytes 1 (b2n c.mmaDone.isSome) ++
    leBytes 8 c.openBits ++ leBytes 4 (c.mmaDone.getD 0)) ++
  (List.range 64).flatMap (fun i => leBytes 4 (match Tbl.find c.accs i with | some x => x.k | none => 0))

/-- Sub-arrays in a row of the array. -/
def subsPerRow (mode : Nat) : Nat := 128 / modeWidth mode

/-- The register of accumulator a in the cell at a row and column: that of its sub-array's tile, or 0 where the sub-array has no open pass on a
(R320, limit 12 of 08). -/
def CoreSt.cellWord (c : CoreSt) (a row col : Nat) : Word :=
  let w := modeWidth c.mode
  let m := row / w * subsPerRow c.mode + col / w
  match Tbl.find c.accs (16 * a + m) with
  | some x => x.tile.getD (row % w * w + col % w) 0
  | none => 0

/-- Entry i of a check lane of accumulator a: that of its sub-array, or 0 where that has no open pass on a (R318, R320). [log 152: DEDUCED, unsafe] -/
def CoreSt.laneWord (c : CoreSt) (a lane i : Nat) : Word :=
  let w := modeWidth c.mode
  match Tbl.find c.accs (16 * a + i / w) with
  | some x => (if lane = 0 then x.cr else if lane = 1 then x.cc else if lane = 2 then x.mr else x.mc).getD (i % w) 0
  | none => 0

/-- The block of accumulator a in the array save image (R332). -/
def CoreSt.accBlock (c : CoreSt) (a : Nat) : List Byte :=
  (List.range 16384).flatMap (fun i => leBytes 4 (c.cellWord a (i / 128) (i % 128)).toNat) ++
  (List.range 4).flatMap (fun l => (List.range 512).flatMap (fun i => leBytes 4 (c.laneWord a l i).toNat))

/-- Accumulators with an open pass, ascending. -/
def CoreSt.openAccs (c : CoreSt) : List Nat := (List.range 4).filter (fun a => c.openSubs a != [])

/-- The array save image (R332). -/
def CoreSt.arrayImage (c : CoreSt) : List Byte := c.arrayHead ++ c.openAccs.flatMap c.accBlock

/-- Bytes 0 to 73,727 of the core save image (R479). -/
def CoreSt.coreImage (c : CoreSt) (job : CoreJob) (k : Nat) : List Byte :=
  let words (n : Nat) (l : List Word) : List Byte := l.flatMap (fun w => leBytes n w.toNat)
  padTo 8192 (
    leBytes 4 0x53564352 ++ leBytes 2 job.dt ++ leBytes 1 job.part ++ leBytes 1 k ++ leBytes 8 c.pc.toNat ++ leBytes 8 c.sig.toNat ++
    leBytes 4 c.twinCrc ++ leBytes 4 c.fill ++ (List.range 4).flatMap (fun e => leBytes 8 (c.enginePc e).toNat) ++
    (List.range 32).flatMap (fun i => leBytes 8 (getS c.s i).toNat) ++ words 4 c.a ++
    (List.range 8).flatMap (fun i => leBytes 32 (c.preg i).toNat) ++
    c.t.flatMap (fun n => leBytes 8 n) ++ words 4 c.tcfg ++
    padTo 512 (c.opaQ.flatMap QEnt.bytes) ++ padTo 512 (c.vecQ.flatMap QEnt.bytes) ++
    padTo 1536 (c.lpeelQ.flatMap PeelEnt.bytes) ++ padTo 1536 (c.speelQ.flatMap PeelEnt.bytes)) ++
  (List.range 64).flatMap (fun i => words 4 (c.vreg i))

/-- Everything that a pre-emption waits for has happened (R478): no bundle, every issued request complete, no load, store or DRAIN
under way. -/
def CoreSt.quiet (c : CoreSt) : Bool :=
  c.bundle.isNone && c.load.isNone && c.sb == [] && c.drain.isNone &&
    (c.lpeelQ ++ c.speelQ).all (fun e => !(e.kind == 0 && (e.st == 2 || e.reqs != [])))

/-- What the Dispatch Table keeps beside the image. -/
def CoreSt.saved (c : CoreSt) (job : CoreJob) (buf : Nat) : Saved :=
  { buf := buf, opaFrom := c.opaQ.map (·.bundle), vecFrom := c.vecQ.map (·.bundle), lpeelFrom := c.lpeelQ.map (·.bundle),
    speelFrom := c.speelQ.map (·.bundle), out := (c.speelQ.map (·.out)).flatten, err := job.err, loaded := c.loaded }

def kOpaSaves (k : Nat) : Nat := kCore k 0xC44
def kOpaRestores (k : Nat) : Nat := kCore k 0xC48

/-- CORE_SAVE_COMPLETE (R478 to R481): the image is in the save buffer and the core is free; ns is the time since the request. -/
def execCoreSaveComplete (k : CoreId) (ns : Nat) (s : State) : Out :=
  let c := s.core k
  match c.job with
  | some job =>
    match s.saveBufOf k job, Tbl.find s.qm.dt job.dt with
    | some b, some e =>
      if !(s.runs k && c.stopping && c.quiet && s.windowsDone k) then .next s
      else
        let base := s.bufOffset b
        let s1 := (((s.grnWrite k base (c.coreImage job k ++ c.arrayImage)).bump (kOpaSaves k)).dropCoreAsks k).vacate k
        let s2 := s1.setDt job.dt { e with preempted := true, saved := some (c.saved job b) }
        let s3 := s2.setCore k { CoreSt.reset with grn := (s2.core k).grn, lastPc := c.lastPc }
        .next ((s3.bump kPreempts).put ⟨kPreemptMax, 0, 16⟩ (min (max (s.get ⟨kPreemptMax, 0, 16⟩) ns) 0xFFFF))
    | _, _ => .next s
  | none => .next s

-- THE RESUMPTION

/-- The op of a saved entry. -/
def opOf40 (raw : Nat) : Op :=
  match dec40 raw with
  | .inr o => o
  | .inl _ => .nop

/-- n entries of an OPA or VEC queue from their image (R480). -/
def restoreQ (bs : List Byte) (n : Nat) (src : List DWord) : List QEnt :=
  (List.range n).map (fun i =>
    let raw := fieldAt bs (16 * i) 5
    { bundle := src.getD i 0, raw := raw, op := opOf40 raw, vals := unpackVals (valWidths (opOf40 raw)) (fieldAt bs (16 * i + 8) 8) })

/-- n entries of a peel's queue from their image (R239, R829); a transfer that is resumed becomes the ISSUING transfer now (R248).
[log 153: DEDUCED, unsafe] -/
def restorePeel (bs : List Byte) (n : Nat) (src : List DWord) (out : List Host.Cell) (now : Nat) : List PeelEnt :=
  (List.range n).map (fun i =>
    let f (lo n : Nat) : Nat := fieldAt bs (48 * i + lo) n
    let st := f 42 2
    { kind := f 41 1 / 64, src := BitVec.ofNat 64 (f 0 8), dst := BitVec.ofNat 64 (f 8 8), len := f 16 4, cnt1 := f 20 2, cnt2 := f 22 2,
      ss1 := f 24 4, ss2 := f 28 4, ds1 := f 32 4, ds2 := f 36 4, en := (f 40 1).testBit 7, tally := f 40 1 % 32,
      zf := (f 41 1).testBit 0, loc := (f 41 1).testBit 1, st := st, issued := f 44 4, bundle := src.getD i 0, since := now,
      out := if st = 1 then out else [], reqs := [] })

/-- The array save image is one that R334 accepts, with sK of the first OPA entry. -/
def arrayImageOk (h : List Byte) (sK : Nat) : Bool :=
  let mode := fieldAt h 4 1
  let fa := fieldAt h 5 1
  let fb := fieldAt h 6 1
  fieldAt h 0 4 == 0x4F505341 && decide (mode ≤ 2) && decide (fa < 16) && decide (fb < 16) && (fmtClass fa).isSome &&
    fmtClass fa == fmtClass fb && isMx fa == isMx fb && decide (fieldAt h 7 1 ≤ 1) && ((h.drop 20).take 236).all (· == 0) &&
    (fieldAt h 7 1 == 0 || decide (fieldAt h 16 4 < sK))

/-- The open passes of accumulator a, from its block in the image (R332, R333). -/
def restoreAcc (mode : Nat) (h blk : List Byte) (a : Nat) : List (Nat × AccSt) :=
  let w := modeWidth mode
  let bits := fieldAt h 8 8
  let lane (l m : Nat) : List Word := (List.range w).map (fun i => BitVec.ofNat 32 (fieldAt blk (65536 + 2048 * l + 4 * (w * m + i)) 4))
  ((List.range 16).filter (fun m => bits.testBit (16 * a + m))).map (fun m =>
    let r := m / subsPerRow mode * w
    let col := m % subsPerRow mode * w
    (16 * a + m,
     { k := fieldAt h (256 + 4 * (16 * a + m)) 4,
       tile := (List.range (w * w)).map (fun i => BitVec.ofNat 32 (fieldAt blk (4 * (128 * (r + i / w) + col + i % w)) 4)),
       cr := lane 0 m, cc := lane 1 m, mr := lane 2 m, mc := lane 3 m }))

/-- The sequencer's shadow, rebuilt from the array's state and its queue (R833): an interrupted MMA still owes its remaining steps. -/
def CoreSt.rebuildShadow (c : CoreSt) : Shadow :=
  let start : Shadow := { mode := c.mode, fa := c.fa, fb := c.fb, passes := c.accs.map (fun x => (x.1, x.2.k)) }
  let add (sh : Shadow) (acc mask n : Nat) : Shadow :=
    { sh with passes := (maskSubs mask).foldl (fun t m => Tbl.put t (16 * acc + m) (Tbl.getD t (16 * acc + m) 0 + n)) sh.passes }
  ((numbered c.opaQ).foldl (fun (sh : Shadow) x =>
    match x.2.op with
    | .cfg m fa fb => { sh with mode := m, fa := fa, fb := fb }
    | .zero acc mask => { sh with passes := (maskSubs mask).foldl (fun t m => Tbl.put t (16 * acc + m) 0) sh.passes }
    | .drain acc _ mask => { sh with passes := (maskSubs mask).foldl (fun t m => Tbl.drop t (16 * acc + m)) sh.passes }
    | .mma acc _ _ _ mask => add sh acc mask (x.2.vals.getD 2 0 - (if x.1 = 0 then c.mmaDone.getD 0 else 0))
    | _ => sh) start)

/-- The job's state from the first 73,728 bytes of its image. -/
def restoreCore (bs : List Byte) (x : Saved) (job : CoreJob) (wdog : List Nat) (tmo now : Nat) (g : Granary) : CoreSt :=
  let f := fieldAt bs
  let n := f 28 4
  { CoreSt.reset with
    job := some job, loaded := x.loaded, pc := BitVec.ofNat 64 (f 8 8), sig := BitVec.ofNat 64 (f 16 8), twinCrc := f 24 4,
    lastPc := (List.range 4).map (fun e => BitVec.ofNat 64 (f (32 + 8 * e) 8)),
    s := (List.range 32).map (fun i => BitVec.ofNat 64 (f (64 + 8 * i) 8)), a := (List.range 16).map (fun i => BitVec.ofNat 32 (f (320 + 4 * i) 4)),
    p := (List.range 8).map (fun i => (i, BitVec.ofNat 256 (f (384 + 32 * i) 32))),
    t := (List.range 32).map (fun i => f (640 + 8 * i) 8), tcfg := (List.range 32).map (fun i => BitVec.ofNat 32 (f (896 + 4 * i) 4)),
    opaQ := restoreQ ((bs.drop 1024).take 512) (bitsAt n 0 6) x.opaFrom, vecQ := restoreQ ((bs.drop 1536).take 512) (bitsAt n 6 6) x.vecFrom,
    lpeelQ := restorePeel ((bs.drop 2048).take 1536) (bitsAt n 12 6) x.lpeelFrom [] now,
    speelQ := restorePeel ((bs.drop 3584).take 1536) (bitsAt n 18 6) x.speelFrom x.out now,
    v := (List.range 64).map (fun r => (r, (List.range 256).map (fun i => BitVec.ofNat 32 (fieldAt (bs.drop (8192 + 1024 * r)) (4 * i) 4)))),
    wdog := wdog, peelTmo := tmo, grn := g }

/-- The array's state from its image (R333). -/
def CoreSt.restoreArray (c : CoreSt) (h : List Byte) (rest : List Byte) : CoreSt :=
  let mode := fieldAt h 4 1
  let bits := fieldAt h 8 8
  let open_ := (List.range 4).filter (fun a => bitsAt bits (16 * a) 16 != 0)
  let c := { c with mode := mode, fa := fieldAt h 5 1, fb := fieldAt h 6 1, mmaDone := if fieldAt h 7 1 = 1 then some (fieldAt h 16 4) else none, accs := (numbered open_).flatMap (fun (x : Nat × Nat) => restoreAcc mode h ((rest.drop (73728 * x.1)).take 73728) x.2) }
  { c with shadow := c.rebuildShadow }

/-- The image of a pre-empted job is taken from its save buffer on core k. -/
def State.resumeFrom (s : State) (k : CoreId) (i : Nat) (e : DtEnt) (x : Saved) : State :=
  let bs := s.grnBytes k (s.bufOffset x.buf) 73728
  if fieldAt bs 0 4 ≠ 0x53564352 ∨ fieldAt bs 4 2 ≠ i ∨ fieldAt bs 6 1 ≠ e.part ∨ fieldAt bs 7 1 ≠ k.val then s.jobFault 0x4203 (srcQm 0)
  else
    let h := s.grnBytes k (s.bufOffset x.buf + 73728) 512
    let job : CoreJob := { dt := i, part := e.part, sigEnd := e.desc.sigEnd, tallyCfg := e.desc.tallyCfg, twin := e.desc.twinId != 0, err := x.err }
    let c := restoreCore bs x job s.wdogWindows s.peelTimeout s.tb.ticks (s.core k).grn
    let sK := (c.opaQ.head?.map (fun q => q.vals.getD 2 0)).getD 0
    if !arrayImageOk h sK then s.jobFault 0x2104 (srcCore k .opa)
    else
      let n := ((List.range 4).filter (fun a => bitsAt (fieldAt h 8 8) (16 * a) 16 != 0)).length
      let c := c.restoreArray h (s.grnBytes k (s.bufOffset x.buf + 74240) (73728 * n))
      (((s.setCore k { c with grn := c.grn.release x.buf }).setDt i { e with saved := none }).bump (kOpaRestores k)).occupy k

/-- JOB_RESUME (R401, R461, R482): core k, free, takes the pre-empted job that R461 chooses, and restores its image; errs is what the
Granary reports of the image (R376, R377). -/
def execJobResume (k : CoreId) (errs : GrnErrs) (s : State) : Out :=
  if s.fenced || s.isHeld || s.asleep || !s.coreFree k then .next s
  else
    match s.rejectForgotten.pick k with
    | (some c, s') =>
      match c.pre with
      | some i =>
        match Tbl.find s'.qm.dt i with
        | some e =>
          match e.saved with
          | some x =>
            let hit := errsIn errs (s'.bufOffset x.buf) (4096 * s'.bufPages 15)
            if hit.any (·.2) then .next ((s'.bump (kGrn k 4)).jobFault 0x3201 (srcCore k .granary))
            else .next ((hit.foldl (fun s y => s.grnCorrected k y.1) s').resumeFrom k i e x)
          | none => .next s
        | none => .next s
      | none => .next s
    | _ => .next s

end Sys2Proof.Machine
end

