-- ==== Sys2Proof/Machine/Partitions.lean ====
section
/-! DEFINITION. Partitions: the table's writes, windows, resets, regulators, announcements and messages; the pools and the background
parity check (14_partitions.md, R404, R830). -/

namespace Sys2Proof.Machine

def fPartRejected : Fld := ⟨0x28004, 0, 1⟩
def kPartCtrl : Nat := 0x28000
def kDramCap : Nat := 0x28010

/-- A write that the PART_ block rejects (R529). -/
def State.partReject (s : State) : State := s.on fPartRejected

/-- Some queue of some partition is not DISABLED. -/
def State.anyQueueActive (s : State) : Bool := s.qm.queues.any (fun x => x.2.state != 0)

/-- A physical-function write to PART_CTRL (R493, R494): PERC changes only with every queue DISABLED, without LOCK, and to an enabled
partition; LOCK is set by a written 1. -/
def State.partCtrlWrite (s : State) (fn : Fn) (v : Word) : State :=
  if fn ≠ 0 then s
  else
    let n := fPerc.ofWord v
    if n ≠ s.perc ∧ (s.anyQueueActive ∨ s.flag fLock ∨ !s.partEnabled n) then s.partReject
    else
      let s := s.put fPerc n
      if fLock.ofWord v = 1 then s.on fLock else s

/-- PART_PERC_WRITE: a write to PART_CTRL that names another perception partition (R493). -/
def execPartPercWrite (fn : Fn) (v : Word) (s : State) : Out :=
  if s.turnsAway fn then .next (s.turnedAway fn) else
  if fPerc.ofWord v = s.perc then .next s else .next (s.partCtrlWrite fn v)

/-- PART_LOCK: a write to PART_CTRL with LOCK 1 (R494). -/
def execPartLock (fn : Fn) (v : Word) (s : State) : Out :=
  if s.turnsAway fn then .next (s.turnedAway fn) else
  if fLock.ofWord v = 1 then .next (s.partCtrlWrite fn v) else .next s

/-- PART_RESET_WRITE (R507, R512): the named partitions are reset; a write that names the perception partition while it has a queue that
is not DISABLED is rejected. -/
def execPartResetWrite (fn : Fn) (v : Word) (s : State) : Out :=
  if s.turnsAway fn then .next (s.turnedAway fn) else
  if fn ≠ 0 then .next s
  else if v.toNat.testBit s.perc ∧ s.queuesActive s.perc then .next s.partReject
  else .next (((List.range 8).filter (fun p => v.toNat.testBit p)).foldl (fun s p => s.requestReset p false) s)

/-- PARTITION_RESET_COMPLETE (R508 to R510): the partition reset of p, started and with every engine reset it asked for done, ends;
during a recovery the sweep ends it (R515). -/
def execPartitionResetComplete (p : Part) (s : State) : Out :=
  if s.inReset p && s.enginesDone p && !s.sweepDue && !s.goneDue p then .next (s.completeReset p) else .next s

-- WINDOWS

/-- Two ranges of granules overlap. -/
def overlaps (b1 n1 b2 n2 : Nat) : Bool := decide (b1 < b2 + n2) && decide (b2 < b1 + n1)

/-- A window without RO would overlap one of another partition (R497). -/
def State.winClash (s : State) (p base size : Nat) : Bool :=
  (List.range 8).any (fun q => q != p && (List.range 4).any (fun w =>
    s.flag (fWinEn q w) && !s.flag (fWinRo q w) && overlaps base size (s.get (fWinBase q w)) (s.get (fWinSize q w))))

/-- PART_WIN_WRITE (R494, R497, limit 12 of 14). -/
def execPartWinWrite (fn : Fn) (p : Part) (w : Fin 4) (v : Word) (s : State) : Out :=
  if s.turnsAway fn then .next (s.turnedAway fn) else
  let base := (fWinBase p w).ofWord v
  let size := (fWinSize p w).ofWord v
  let usable := s.get fUsableGib * 512
  if fn ≠ 0 then .next s
  else if s.queuesActive p || (s.flag fLock && p.val == s.perc) then .next s.partReject
  else if (fWinEn p w).ofWord v = 1 ∧ (size = 0 ∨ usable < base + size ∨ ((fWinRo p w).ofWord v = 0 ∧ s.winClash p base size)) then
    .next s.partReject
  else .next (s.setReg (kPart p (4 + 4 * w.val)) v)

-- THE DRAM AND KELYTH REGULATORS

/-- The sum of RES over the enabled partitions, with that of partition p taken from v (R519). -/
def State.resSum (s : State) (p : Option Nat) (v : Word) : Nat :=
  ((List.range 8).map (fun q => if s.partEnabled q then (if p = some q then resOf v else resOf (s.reg (kDramReg q))) else 0)).foldl (· + ·) 0

/-- The peak for the trained rate, in lines/µs (R519). -/
def State.peakLines (s : State) : Nat := match s.get ⟨0xC, 0, 2⟩ with | 0 => 3200 | 1 => 3750 | _ => 4266

/-- DRAM_REGULATOR_WRITE: a write to PART_DRAM_CAP, or to PART_DRAM_REG of a partition (R494, R519). -/
def execDramRegulatorWrite (fn : Fn) (p : Option Part) (v : Word) (s : State) : Out :=
  if s.turnsAway fn then .next (s.turnedAway fn) else
  let cap := (s.reg kDramCap).toNat
  if fn ≠ 0 then .next s
  else
    match p with
    | none =>
      let n := bitsAt v.toNat 0 13
      if s.flag fLock ∨ s.peakLines < n ∨ (n ≠ 0 ∧ n < s.resSum none 0) then .next s.partReject
      else .next (s.setReg kDramCap (BitVec.ofNat 32 n))
    | some p =>
      if (s.flag fLock ∧ p.val = s.perc) ∨ limOf v < resOf v ∨ (cap ≠ 0 ∧ cap < s.resSum (some p) v) then .next s.partReject
      else .next (s.setReg (kDramReg p) (v &&& 0x1FFF1FFF))

/-- REGULATOR_PERIOD (R516, R518, R519): a period starts; used lines are 0 again and written configuration is in force. -/
def execRegulatorPeriod (s : State) : Out :=
  let regs := s.part.regs.map (fun (x : Nat × RegSt) => (x.1, { x.2 with used := [] }))
  .next (s.setPartCtl { s.part with regs := regs, cap := s.reg kDramCap, dramReg := (List.range 8).map (fun p => s.reg (kDramReg p)) })

/-- GRANARY_BALANCE_REFILL (R523): at a multiple of 1 ms every balance of a shared core rises by G, up to G. -/
def execGranaryBalanceRefill (s : State) : Out :=
  .next ((List.range 16).foldl (fun s k =>
    let s := s.settle k
    ((List.range 8).filter (s.regulated k)).foldl (fun s p => s.setBalance k p (min (s.balance k p + s.grnShareNs p) (s.grnShareNs p))) s) s)

-- ANNOUNCEMENTS AND MESSAGES

/-- JOB_LOST for one partition (R503). -/
def State.announce (s : State) (p code jobs : Nat) (frame : Word) : State :=
  let seq := (bitsAt (s.reg (kPart p 0x30)).toNat 0 8 + 1) % 256
  let s := ((s.setReg (kPart p 0x30) (BitVec.ofNat 32 (code * 2 ^ 16 + seq))).setReg (kPart p 0x34) (BitVec.ofNat 32 jobs)).setReg (kPart p 0x38) frame
  (s.on (fPartEvent p 0)).msix p (s.get (fLostVec p))

/-- The later of two frame numbers, of which the second may be missing (R570). -/
def laterFrame (a : Word) : Option Word → Word
  | some b => if after b a then b else a
  | none => a

/-- The frame number of the restart boundary of R92 for a fault detected at Timebase value d, and of R570 with the latest number that
an ABORT of the recovery carries; none while frames are disabled. -/
def State.restartFrame (s : State) (d : Nat) (abort : Option Word) : Option Word :=
  if s.flag fFrameEn then
    let e := (s.reg64 kFrameEpoch).toNat
    let t := d + 3000000
    some (laterFrame (BitVec.ofNat 32 (max (s.tb.base + (t - e + s.period - 1) / s.period) s.tb.next)) abort)
  else none

/-- JOB_LOST_ANNOUNCE (R503, R505): every partition to which JOB_LOST is due has its registers written and its message sent.  In HELD
there is no restart boundary, and PART_LOST_FRAME takes a free value; so it does while frames are disabled. [log 80: DEDUCED, safe] -/
def execJobLostAnnounce (s : State) : Out :=
  let due := s.part.lostDue
  let frame := match s.reeve.recovery with
    | some r => if r.noRestart then none else s.restartFrame r.detect r.minFrame
    | none => none
  let s1 := s.setPartCtl { s.part with lostDue := [] }
  match due, frame with
  | [], _ => .next s
  | _, some n => .next (due.foldl (fun s x => s.announce x.1 x.2.1 x.2.2 n) s1)
  | _, none => .next (due.foldl (fun s' x => s'.announce x.1 x.2.1 x.2.2 (BitVec.ofNat 32 s.free)) s1.drawn)

/-- MSIX_SEND (R506, R511): a pending message leaves once it can be sent. -/
def execMsixSend (fn : Fn) (vector : BitVec 7) (s : State) : Out :=
  let v := vector.toNat
  if s.flag (fVecPend fn v) && s.msixReady fn v && !s.inReset fn && decide (v < vectorsOf fn) then
    .next ((s.off (fVecPend fn v)).emit (.msix fn v))
  else .next s

-- POOLS AND PARITY

/-- POOL_DISABLE: a write to GRN_CTRL with POOL_EN 0 (R404): with no core BUSY and no pre-empted job every pool is reset, else the
write is rejected (R260).  STRICT is written with it, but for the perception partition's bit (R396). -/
def execPoolDisable (fn : Fn) (v : Word) (s : State) : Out :=
  if s.turnsAway fn then .next (s.turnedAway fn) else
  if fn ≠ 0 ∨ fPoolEn.ofWord v = 1 then .next s
  else if s.flag (fIslOff 0) || s.cores.any (fun x => x.2.job.isSome) || s.qm.dt.any (fun x => x.2.saved.isSome) then .next (s.on ⟨0x5000C, 0, 1⟩)
  else .next (((List.range 16).filter (· < s.nCores)).foldl State.poolReset (s.setReg 0x50100 (Fld.into ⟨0x50100, 8 + s.perc, 1⟩ (v &&& 0xFF00) (s.get ⟨0x50100, 8 + s.perc, 1⟩))))

/-- BACKGROUND_PARITY_CHECK (R405, R487, R526, R611, R830): a check, or another agent's read, finds an error in held state, and the block raises its
code. [log 162: DEDUCED, unsafe] -/
def execBackgroundParityCheck (what : Upheld) (s : State) : Out :=
  match what with
  | .tally k => .next (s.jobFault 0x2402 (srcCore k .seq))
  | .pages k => .next (s.jobFault 0x3202 (srcCore k .pool))
  | .dispatch => .next (s.jobFault 0x4202 (srcQm 0))
  | .partition p => .next (s.jobFault 0x4401 (srcOf 3 p 0))
  | .slot n => .next ((s.setSlot n { s.slot n with bad := true }).jobFault 0x4604 (srcQm 1))

end Sys2Proof.Machine
end

