-- ==== Sys2Proof/Machine/KlyOps.lean ====
section
/-! DEFINITION. The operations that the Kelyth Link ports and the Collective Engine share: topology, routes, frames, the hold for lock,
step-down, collective counters, staging and firings (15_multi_device_collectives.md). -/

namespace Sys2Proof.Machine

def kKly (i off : Nat) : Nat := 0x30000 + 0x100 * i + off
def fKlyEn (i : Nat) : Fld := ⟨kKly i 0, 31, 1⟩
def fKlyRates (i : Nat) : Fld := ⟨kKly i 0, 24, 4⟩
def fKlyWidths (i : Nat) : Fld := ⟨kKly i 0, 20, 3⟩
def fKlyThresh (i : Nat) : Fld := ⟨kKly i 0, 8, 8⟩
def fKlyLocked (i : Nat) : Fld := ⟨kKly i 4, 28, 1⟩
def fKlyDowns (i : Nat) : Fld := ⟨kKly i 4, 20, 8⟩
def fKlyPeerIndex (i : Nat) : Fld := ⟨kKly i 4, 18, 2⟩
def fKlyPeerPort (i : Nat) : Fld := ⟨kKly i 4, 16, 2⟩
def fKlyLanes (i : Nat) : Fld := ⟨kKly i 4, 8, 4⟩
def fKlyMode (i : Nat) : Fld := ⟨kKly i 4, 4, 4⟩
def fKlyState (i : Nat) : Fld := ⟨kKly i 4, 0, 3⟩
def fKlyHoldMax (i : Nat) : Fld := ⟨kKly i 0x14, 0, 16⟩
def fKlyRejected : Fld := ⟨0x30400, 0, 1⟩
def kAbortTx : Nat := 0x30404
def kAbortRx : Nat := 0x30408
def fCeRejected : Fld := ⟨0x38000, 0, 1⟩
def fCeFenced : Fld := ⟨0x38000, 1, 1⟩
def kCeOps : Nat := 0x38004
def kCeDrop : Nat := 0x38008
def kCeTmo : Nat := 0x3800C
def kCeEcc : Nat := 0x38010
def kCeFaultInfo : Nat := 0x38014
def fCntEn (c : Nat) : Fld := ⟨0x38400 + 4 * c, 31, 1⟩
def fCntPart (c : Nat) : Fld := ⟨0x38400 + 4 * c, 28, 3⟩
def kCnt (c : Nat) : Nat := 0x38800 + 8 * c

/-- Port states (R536). -/
def klyDisabled : Nat := 0
def klyTraining : Nat := 1
def klyUp : Nat := 2
def klyRetrain : Nat := 3
def klyFailed : Nat := 4
def klyOut : Nat := 5

/-- The source of a port, 0 to 3, or of the Collective Engine, 4 (R613). -/
def srcKly (i : Nat) : BitVec 16 := srcOf 4 i 0

def State.setKly (s : State) (k : Kelyth) : State := { s with kly := k }
def State.kport (s : State) (i : Nat) : KPort := Tbl.getD s.kly.ports i KPort.reset
def State.setKport (s : State) (i : Nat) (p : KPort) : State := s.setKly { s.kly with ports := Tbl.put s.kly.ports i p }

-- TOPOLOGY AND ROUTES

def fShape : Fld := ⟨0x8, 4, 2⟩
def State.devices (s : State) : Nat := s.get ⟨0x8, 2, 2⟩ + 1
def State.device (s : State) : Nat := s.get fDevIndex
def State.isRing (s : State) : Bool := s.get fShape == 1
def State.isMesh (s : State) : Bool := s.get fShape == 2

/-- The device and port that R531 connects to port m, where it has a role (R532). -/
def State.peerOf (s : State) (m : Nat) : Option (Nat × Nat) :=
  let n := s.devices
  let i := s.device
  if s.isRing && m == 0 then some ((i + 1) % n, 1)
  else if s.isRing && m == 1 then some ((i + n - 1) % n, 0)
  else if s.isMesh && decide (m + 2 ≤ n) then some ((i + m + 1) % n, (n - m - 2) % n)
  else none

/-- The port carries, or will carry, traffic: UP, RETRAIN or TRAINING. -/
def State.klyUsable (s : State) (i : Nat) : Bool := s.get (fKlyState i) == klyUp || s.get (fKlyState i) == klyRetrain || s.get (fKlyState i) == klyTraining

def State.klyIsUp (s : State) (i : Nat) : Bool := s.get (fKlyState i) == klyUp

/-- The route set of a frame to device d (R533); a device in HELD is outside every route set (R571). -/
def State.routeSet (s : State) (d : Nat) : List Nat :=
  let n := s.devices
  let i := s.device
  if d = i ∨ n ≤ d ∨ s.kly.heldPeers.contains d then []
  else if s.isRing then
    if n = 2 then [0, 1]
    else if d = (i + 1) % n then [0]
    else if d = (i + n - 1) % n then [1]
    else [i % 2]
  else (List.range 3).filter (fun m => (s.peerOf m).any (fun p => p.1 == d))

/-- The route of a firing's frames to device d: that port only for a link-port chain (R556). -/
def State.routeOf (s : State) (t d : Nat) : List Nat :=
  if t < 256 then s.routeSet d else if s.kly.heldPeers.contains d then [] else [(t - 256) / 64]

/-- Device d is reachable through port i (R556): by any role in a ring, by the one hop in a mesh. -/
def State.reachable (s : State) (i d : Nat) : Bool :=
  d != s.device && decide (d < s.devices) && (match s.peerOf i with | some p => s.isRing || p.1 == d | none => false)

-- THE LADDER

/-- Bit of RATE_MASK, bit of WIDTH_MASK, by ladder index (R537). -/
def ladder : List (Nat × Nat) :=
  [(3, 2), (2, 2), (1, 2), (3, 1), (2, 1), (0, 2), (1, 1), (3, 0), (2, 0), (0, 1), (1, 0), (0, 0)]

def ladderAt (m : Nat) : Nat × Nat := ladder.getD m (0, 0)

/-- Neither side's masks exclude the mode (R537). -/
def State.modePermitted (s : State) (i m : Nat) : Bool :=
  let (r, w) := ladderAt m
  let p := s.kport i
  (s.get (fKlyRates i)).testBit r && p.peerRate.testBit r && (s.get (fKlyWidths i)).testBit w && p.peerWidth.testBit w

/-- The first permitted mode from m on; past the end of the ladder the search begins again at `start`. [log 106: DEDUCED, unsafe] -/
def State.nextMode (s : State) (i m start : Nat) : Nat :=
  let ok (a : Nat) : Option Nat := ((List.range 12).filter (fun x => decide (a ≤ x))).find? (s.modePermitted i)
  match ok m with
  | some x => x
  | none => (ok start).getD (min m 11)

/-- The index at which the port's attempts begin: 0 in TRAINING, the floor in RETRAIN (R537, R541). -/
def State.klyStart (s : State) (i : Nat) : Nat :=
  if s.get (fKlyState i) = klyRetrain then max (s.kport i).floor (s.kport i).peerFloor else 0

-- BLOCKS ON THE LANES

/-- The lanes of a ladder mode: 1, 2 or 4 (R537). -/
def modeLanes (m : Nat) : Nat := 2 ^ (ladderAt m).2

/-- Bits scrambled with the polynomial 1 + x^39 + x^58, and the latest 58 of them (R542). -/
def scramble (st : BitVec 58) : List Bool → List Bool × BitVec 58
  | [] => ([], st)
  | x :: xs =>
    let y := (x != st.getLsbD 38) != st.getLsbD 57
    let r := scramble ((st <<< 1) ||| (if y then 1 else 0)) xs
    (y :: r.1, r.2)

/-- What a receiver makes of scrambled bits, by the 58 bits that came before (R542). -/
def unscramble (st : BitVec 58) : List Bool → List Bool
  | [] => []
  | y :: ys => ((y != st.getLsbD 38) != st.getLsbD 57) :: unscramble ((st <<< 1) ||| (if y then 1 else 0)) ys

/-- The low n bits of a number, the lowest first. -/
def bitsOf (n v : Nat) : List Bool := (List.range n).map (fun j => v.testBit j)

/-- The number whose bits these are, the lowest first. -/
def ofBits : List Bool → Nat
  | [] => 0
  | b :: bs => b2n b + 2 * ofBits bs

/-- A block with these 64 bits on a lane (R542). -/
def KLine.block (l : KLine) (lane sync v : Nat) : KBlock × KLine :=
  let r := scramble (l.scr.getD lane 0) (bitsOf 64 v)
  ({ lane, sync, bits := ofBits r.1 }, { l with scr := l.scr.set lane r.2 })

/-- The alignment blocks of lanes from `lane` on, each with its lane number (R542). -/
def KLine.align : (left : Nat) → KLine → Nat → List KBlock × KLine
  | 0, l, _ => ([], l)
  | n + 1, l, lane =>
    let b := l.block lane 2 lane
    let r := KLine.align n b.2 (lane + 1)
    (b.1 :: r.1, r.2)

/-- Data words dealt to n lanes in turn; after 16,384 blocks on each lane every lane carries an alignment block (R542). -/
def KLine.deal (n : Nat) : List Nat → KLine → List KBlock × KLine
  | [], l => ([], l)
  | w :: ws, l =>
    let b := l.block l.next 1 w
    let l1 : KLine := { b.2 with next := (l.next + 1) % n, dealt := l.dealt + 1 }
    let a := if 16384 * n ≤ l1.dealt then KLine.align n { l1 with dealt := 0 } 0 else ([], l1)
    let r := KLine.deal n ws a.2
    (b.1 :: a.1 ++ r.1, r.2)

/-- The 64-bit words that bytes fill, the last one with zeros above. -/
def blockWords : (fuel : Nat) → List Byte → List Nat
  | 0, _ => []
  | n + 1, bs => if bs = [] then [] else leNat (bs.take 8) :: blockWords n (bs.drop 8)

def State.kline (s : State) (i : Nat) : KLine := Tbl.getD s.kly.lines i KLine.reset
def State.setKline (s : State) (i : Nat) (l : KLine) : State := s.setKly { s.kly with lines := Tbl.put s.kly.lines i l }

/-- The blocks that carry a frame of port i, and its lanes afterwards (R542). [log 141: DEDUCED, unsafe] -/
def State.frameBlocks (s : State) (i : Nat) (bs : List Byte) : List KBlock × KLine :=
  KLine.deal (modeLanes (s.get (fKlyMode i))) (blockWords (bs.length / 8 + 1) bs) (s.kline i)

-- HOLDING FOR LOCK

/-- The port has a frame to send or to have acknowledged. -/
def KPort.busy (p : KPort) : Bool := p.own != [] || p.fwd != [] || p.aborts != [] || p.replay != []

/-- While the channel is unlocked the first frame held starts the 2 ms (R548, R549). [log 115: DEDUCED, unsafe] -/
def State.klyHold (s : State) (i : Nat) : State :=
  let p := s.kport i
  if !s.flag (fKlyLocked i) && p.busy && p.heldFrom.isNone then s.setKport i { p with heldFrom := some s.tb.ticks } else s

/-- An attempt at mode m starts: the channel relocks where the rate changes (R538, R548). -/
def State.attempt (s : State) (i m : Nat) : State :=
  let s1 := if (ladderAt (s.get (fKlyMode i))).1 ≠ (ladderAt m).1 then s.off (fKlyLocked i) else s
  let s2 := (s1.put (fKlyMode i) m).put (fKlyLanes i) 0
  ((s2.setKport i { s2.kport i with exchanged := false }).setKline i { s2.kline i with next := 0, dealt := 0 }).klyHold i

/-- The port retrains from a floor (R540, R541). -/
def State.retrain (s : State) (i : Nat) : State :=
  let s := (s.put (fKlyState i) klyRetrain).bump (kKly i 0x10)
  s.attempt i (s.nextMode i (s.klyStart i) (s.klyStart i))

/-- The port steps down (R540). -/
def State.stepDown (s : State) (i : Nat) : State :=
  if !s.klyIsUp i then s
  else
    let p := s.kport i
    let s := (s.setKport i { p with floor := min (s.get (fKlyMode i) + 1) 11, err := ErrWindow.reset }).bumpFld (fKlyDowns i)
    (s.retrain i).report 0x5104 (srcKly i)

-- FRAMES

/-- Bytes 0 to 27 of the header. -/
def KFrame.head (f : KFrame) : List Byte :=
  leBytes 1 f.type ++ leBytes 1 f.flags ++ leBytes 1 f.route ++ leBytes 1 f.recvCnt ++ leBytes 2 f.lseq ++ leBytes 2 f.ackseq ++ leBytes 8 f.addr ++
    leBytes 4 f.msgLen ++ leBytes 4 f.msgId ++ leBytes 2 f.payload.length ++ leBytes 2 f.credit

/-- A frame with its HCRC and FCRC (R543, R544). -/
def KFrame.bytes (f : KFrame) : List Byte :=
  f.head ++ leBytes 4 (crc32c f.head) ++ f.payload ++ (if f.payload = [] then [] else leBytes 4 (crc32c f.payload))

/-- The frame that received bytes hold; none where a CRC fails (R544). -/
def KFrame.ofBytes (bs : List Byte) : Option KFrame :=
  let f := fieldAt bs
  let n := f 24 2
  let pay := (bs.drop 32).take n
  if bs.length = 32 + n + (if n = 0 then 0 else 4) ∧ f 28 4 = crc32c (bs.take 28) ∧ (n = 0 ∨ f (32 + n) 4 = crc32c pay) then
    some { type := f 0 1, flags := f 1 1, route := f 2 1, recvCnt := f 3 1, lseq := f 4 2, ackseq := f 6 2, addr := f 8 8, msgLen := f 16 4,
           msgId := f 20 4, credit := f 26 2, payload := pay }
  else none

def KFrame.src (f : KFrame) : Nat := bitsAt f.route 0 2
def KFrame.dst (f : KFrame) : Nat := bitsAt f.route 2 2
def KFrame.part (f : KFrame) : Nat := bitsAt f.route 4 3
def KFrame.lines (f : KFrame) : Nat := (f.payload.length + 63) / 64

/-- DATA, RACK and ABORT are reliable (R545). -/
def KFrame.reliable (f : KFrame) : Bool := f.type == 1 || f.type == 2 || f.type == 6

/-- An invalid TYPE, a nonzero reserved field, or LEN out of range (R543, R573). -/
def KFrame.bad (f : KFrame) : Bool :=
  f.type == 0 || decide (7 < f.type) || decide (16 ≤ f.flags) || decide (128 ≤ f.route) || decide (4096 ≤ f.lseq) || (!f.reliable && f.lseq != 0) ||
    bitsAt f.ackseq 12 3 != 0 || bitsAt f.msgId 11 5 != 0 || decide (2048 < f.payload.length) || (f.type != 1 && f.payload != []) ||
    ((f.type == 2 || f.type == 3 || f.type == 4 || f.type == 5) && f.addr != 0) || (f.type == 6 && bitsAt f.addr 40 24 != 0) ||
    (f.type == 7 && bitsAt f.addr 38 26 != 0) || (f.type != 1 && f.type != 2 && (f.msgLen != 0 || f.msgId != 0))

/-- SRC_DEV, DST_DEV and PART. -/
def routeByte (src dst part : Nat) : Nat := src % 4 + 4 * (dst % 4) + 16 * (part % 8)

/-- ACKSEQ of a frame that the port sends: the LSEQ it expects (R543). -/
def KPort.ackWord (p : KPort) : Nat := p.rxNext % 4096 + 32768

/-- A control frame of the port to its peer. -/
def State.control (s : State) (i type addr credit : Nat) : KFrame :=
  let peer := match s.peerOf i with
    | some p => p.1
    | none => 0
  { type := type, flags := 0, route := routeByte s.device peer 0, recvCnt := 0, lseq := 0, ackseq := (s.kport i).ackWord, addr := addr, msgLen := 0,
    msgId := 0, credit := credit, payload := [] }

/-- A violation by the peer of port i (R573). -/
def State.klyViolation (s : State) (i : Nat) (f : KFrame) : State := (s.bump (kKly i 0x20)).violation 0x5107 (srcKly i) f.head

/-- One of the ports of a route set that are UP, another one than the latest frame of a route set of two took; where none is UP, one that
will be (R535, R548, limit 5). [log 142: DEDUCED, unsafe] -/
def State.choosePort (s : State) (rs : List Nat) : Option Nat :=
  let ups := rs.filter s.klyIsUp
  let l := if ups = [] then rs.filter s.klyUsable else ups
  match l.find? (fun i => s.kly.turn != some i) with
  | some i => some i
  | none => l.head?

/-- The port that a frame has been assigned to, where its route set has two (R535). -/
def State.assigned (s : State) (rs : List Nat) (i : Nat) : State :=
  if 2 ≤ rs.length then s.setKly { s.kly with turn := some i } else s

/-- A frame of the device's own is assigned to a port of its route (R535). -/
def State.sendOwn (s : State) (rs : List Nat) (f : KFrame) : State :=
  match s.choosePort rs with
  | some i =>
    let s := s.assigned rs i
    (s.setKport i { s.kport i with own := (s.kport i).own ++ [f] }).klyHold i
  | none => s

/-- A RACK is assigned to a port of the route to its destination (R547, R558). -/
def State.sendRack (s : State) (f : KFrame) : State :=
  let rs := s.routeSet f.dst
  match s.choosePort rs with
  | some i =>
    let s := s.assigned rs i
    (s.setKport i { s.kport i with fwd := (s.kport i).fwd ++ [f] }).klyHold i
  | none => s

/-- A frame for another device leaves on the other ring port (R534). -/
def State.forward (s : State) (i : Nat) (f : KFrame) : State :=
  let j := 1 - i
  if !s.isRing then s.klyViolation i f
  else if !s.klyUsable j then s
  else
    let p := s.kport j
    let p := if f.type = 6 then { p with aborts := p.aborts ++ [f] } else { p with fwd := p.fwd ++ [f] }
    ((s.bump (kKly i 0x1C)).setKport j p).klyHold j

-- DESCRIPTORS

/-- The key of word w of a descriptor (15, Registers). -/
def kTrig (t w : Nat) : Nat :=
  if t < 256 then 0x3C000 + 64 * t + 4 * w else 0x31000 + 0x1000 * ((t - 256) / 64) + 64 * ((t - 256) % 64) + 4 * w

/-- A descriptor (R552). -/
structure Trig where
  op : Nat
  flags : Nat
  part : Nat
  trigCnt : Nat
  doneCnt : Nat
  recvCnt : Nat
  dev : Nat
  fmt : Nat
  thresh : Nat
  step : Nat
  src : Nat
  dst : Nat
  len : Nat
  stride : Nat
  aux : Nat
  timeout : Nat
  fired : Nat
  deriving DecidableEq, Repr

def Trig.ofBytes (bs : List Byte) : Trig :=
  let f := fieldAt bs
  { op := f 0 1, flags := f 1 1, part := f 2 1, trigCnt := f 3 1, doneCnt := f 4 1, recvCnt := f 5 1, dev := f 6 1, fmt := f 7 1, thresh := f 8 6,
    step := f 14 2, src := f 16 8, dst := f 24 8, len := f 32 4, stride := f 36 4, aux := f 40 8, timeout := f 48 4, fired := f 52 4 }

def State.trigBytes (s : State) (t : Nat) : List Byte := (List.range 16).flatMap (fun w => leBytes 4 (s.reg (kTrig t w)).toNat)
def State.trig (s : State) (t : Nat) : Trig := Trig.ofBytes (s.trigBytes t)

def Trig.valid (d : Trig) : Bool := d.flags.testBit 0
def Trig.rearm (d : Trig) : Bool := d.flags.testBit 1
def Trig.doneEn (d : Trig) : Bool := d.flags.testBit 2
def Trig.recvEn (d : Trig) : Bool := d.flags.testBit 3
def Trig.srcCeb (d : Trig) : Bool := d.flags.testBit 4
def Trig.dstCeb (d : Trig) : Bool := d.flags.testBit 5
def Trig.ovfFault (d : Trig) : Bool := d.flags.testBit 6

def fTrigValid (t : Nat) : Fld := ⟨kTrig t 0, 8, 1⟩
def kFired (t : Nat) : Nat := kTrig t 13

/-- Element bytes of an EXCHANGE: 2^FMT (R552). -/
def Trig.elem (d : Trig) : Nat := 2 ^ d.fmt

/-- Bytes of an EXCHANGE's message (R561). -/
def Trig.slotLen (d : Trig) : Nat := 64 + d.len * d.elem

/-- MSG_ID of a firing's messages (R543). -/
def msgIdOf (t fired : Nat) : Nat :=
  (if t < 256 then t else (t - 256) % 64 + 2 ^ 8 + (t - 256) / 64 * 2 ^ 9) + fired % 2 ^ 16 * 2 ^ 16

/-- The descriptor that a MSG_ID names (R543). -/
def trigOfMsg (id : Nat) : Nat := if id.testBit 8 then 256 + 64 * bitsAt id 9 2 + bitsAt id 0 6 else bitsAt id 0 8

def State.firing (s : State) (t : Nat) : Option Firing := Tbl.find s.kly.firings t
def State.setFiring (s : State) (t : Nat) (f : Firing) : State := s.setKly { s.kly with firings := Tbl.put s.kly.firings t f }

/-- A job fault of a descriptor, remembered in CE_FAULT_INFO (R572, R577). -/
def State.ceFault (s : State) (code t : Nat) : State :=
  let where_ := if t < 256 then t else 2 ^ 15 + (t - 256) / 64 * 2 ^ 13 + (t - 256) % 64
  (s.setReg kCeFaultInfo (BitVec.ofNat 32 (code * 2 ^ 16 + where_))).jobFault code (srcKly (if t < 256 then 4 else (t - 256) / 64))

-- COUNTERS

/-- A counter is enabled for a partition (R550). -/
def State.cntOwned (s : State) (c p : Nat) : Bool := s.flag (fCntEn c) && s.get (fCntPart c) == p

/-- Counter c has changed: the timeouts of the armed descriptors that wait for it begin (R555). -/
def State.cntMoved (s : State) (c : Nat) : State :=
  let l := (List.range 512).filter (fun t => (s.trig t).valid && (s.trig t).trigCnt == c && (s.firing t).isNone && !s.kly.moved.contains t)
  s.setKly { s.kly with moved := s.kly.moved ++ l }

/-- Counter c advances by n, for descriptor t where one is named; past its range it does not, and that is a fault (R550). -/
def State.cntAdd (s : State) (c n t : Nat) : State :=
  let v := (s.reg64 (kCnt c)).toNat + n
  if v < 2 ^ 48 then (s.setReg64 (kCnt c) (BitVec.ofNat 64 v)).cntMoved c else s.ceFault 0x5206 t

/-- A counter that a partition's message or firing names advances by 1; one that is not enabled for the partition is misused (R550). -/
def State.cntStep (s : State) (c p t : Nat) : State := if s.cntOwned c p then s.cntAdd c 1 t else s.ceFault 0x5206 t

-- STAGING

/-- The n bytes at a staging offset lie in regions granted to a partition (R567). -/
def State.stageOk (s : State) (p off n : Nat) : Bool :=
  decide (off + n ≤ 1310720) &&
    (List.range ((off + n + 65535) / 65536 - off / 65536)).all (fun i =>
      let r := off / 65536 + i
      s.flag ⟨0x38020 + 4 * (r / 8), 4 * (r % 8) + 3, 1⟩ && s.get ⟨0x38020 + 4 * (r / 8), 4 * (r % 8), 3⟩ == p)

def State.stageBytes (s : State) (off n : Nat) : List Byte :=
  (List.range n).map (fun i => Tbl.getD s.kly.stage (off + i) (Config.stageByte s.epoch (off + i)))

def State.stageWrite (s : State) (off : Nat) (bs : List Byte) : State := s.setKly { s.kly with stage := putBytes s.kly.stage off bs }

/-- The n bytes that a firing of partition p reads, from staging or from device memory; none where the access is refused, poisoned or
uncorrectable (R33, R496, R567, R572). -/
def State.ceRead (s : State) (t p : Nat) (ceb : Bool) (a n : Nat) (ecc : Ecc) : Option (List Byte) × State :=
  if ceb then
    if !s.stageOk p a n then (none, s.refused4301 p a)
    else
      match ecc with
      | .uncorrectable => (none, s.ceFault 0x5301 t)
      | .corrected => (some (s.stageBytes a n), s.bump kCeEcc)
      | .clean => (some (s.stageBytes a n), s)
  else if !s.jobOk p a n false then (none, s.refused4301 p a)
  else
    match s.ramRead .collective a n with
    | (_, true, s) => (none, s)
    | (bs, false, s) => (some bs, s)

/-- The bytes of a message or result of partition p are written, to staging or to device memory; the answer says whether they may be. -/
def State.ceWrite (s : State) (p : Nat) (ceb : Bool) (a : Nat) (bs : List Byte) : Bool × State :=
  if ceb then (if s.stageOk p a bs.length then (true, s.stageWrite a bs) else (false, s))
  else if s.jobOk p a bs.length true then (true, s.ramWrite .collective a bs)
  else (false, s)

-- FIRINGS

/-- A firing is over: F counts, and VALID clears without REARM (R554). -/
def State.endFiring (s : State) (t : Nat) : State :=
  let d := s.trig t
  let s := s.dropAsks (fun x => x.user == .firing t)
  let s := s.setKly { s.kly with firings := Tbl.drop s.kly.firings t, moved := s.kly.moved.filter (· != t), late := s.kly.late.filter (· != t) }
  let s := s.setReg (kFired t) (BitVec.ofNat 32 (d.fired + 1))
  if d.rearm then s else s.off (fTrigValid t)

/-- The unnumbered frames of a firing leave every port. -/
def State.dropOwn (s : State) (id : Nat) : State :=
  s.setKly { s.kly with ports := s.kly.ports.map (fun (x : Nat × KPort) => (x.1, { x.2 with own := x.2.own.filter (fun f => f.msgId != id) })) }

/-- A firing completes with LINK_DOWN or LINK_NOT_READY (R549, limit 7). [log 112: DEDUCED, unsafe] -/
def State.linkFailed (s : State) (t code : Nat) : State :=
  ((s.dropOwn (msgIdOf t (s.trig t).fired)).endFiring t).ceFault code t

/-- Firings in progress that port i holds up: with a frame queued there where `queued` says so, or without any port to a device that
has not answered (limit 7). -/
def State.cutOff (s : State) (i : Nat) (queued : Bool) : List Nat :=
  (s.kly.firings.filter (fun x => x.2.performed && x.2.waits != [] &&
    ((queued && (s.kport i).own.any (fun f => f.msgId == msgIdOf x.1 (s.trig x.1).fired)) ||
      x.2.waits.any (fun d => (s.routeOf x.1 d).all (fun m => !s.klyUsable m))))).map (·.1)

/-- Port i goes down to a state: what it held is gone, and the firings it cuts off complete with LINK_DOWN (R536, limit 7). -/
def State.klyDown (s : State) (i st : Nat) (queued : Bool) : State :=
  let s := (s.put (fKlyState i) st).off (fKlyLocked i)
  let s := (s.cutOff i queued).foldl (fun s t => s.linkFailed t 0x5202) s
  let p := s.kport i
  (s.setKport i { KPort.reset with floor := p.floor }).dropAsks (fun x => x.user == .message i)

/-- A recovery begins: no descriptor fires, and queued local DATA frames are discarded (R571). -/
def State.ceFence (s : State) : State :=
  (s.on fCeFenced).setKly { s.kly with ports := s.kly.ports.map (fun (x : Nat × KPort) => (x.1, { x.2 with own := [] })) }

/-- The restart boundary: counters and firing counts are 0, and the receive trackers are free (R571, R639). -/
def State.ceRestart (s : State) : State :=
  let s := (List.range 256).foldl (fun s c => s.setReg64 (kCnt c) 0) (s.off fCeFenced)
  let s := (List.range 512).foldl (fun s t => s.setReg (kFired t) 0) s
  let s := s.dropAsks (fun x => match x.user with | .firing _ => true | .message _ => true | _ => false)
  let emptied (p : KPort) : Nat := (p.rxWait.map KFrame.lines).foldl (· + ·) 0
  s.setKly { s.kly with firings := [], moved := [], late := [], trackers := [], abortFrame := none, origin := none, ports := s.kly.ports.map (fun (x : Nat × KPort) => (x.1, { x.2 with rxWait := [], creditDue := x.2.creditDue + emptied x.2 })) }

/-- An ABORT leaves on every port that is UP (R568, R571): with the device's index, its recovery count and its restart frame number. -/
def State.sendAborts (s : State) (count : Nat) (frame : Word) (held : Bool) : State :=
  let s := s.setKly { s.kly with aborts := ((s.device, count % 256) :: s.kly.aborts).take 16 }
  ((List.range 4).filter s.klyIsUp).foldl (fun s i =>
    let f := { s.control i 6 (frame.toNat + count % 256 * 2 ^ 32) 0 with flags := if held then 8 else 0 }
    (s.setKport i { s.kport i with aborts := (s.kport i).aborts ++ [f] }).klyHold i) s

end Sys2Proof.Machine
end

