-- ==== Sys2Proof/Machine/Clocks.lean ====
section
/-! DEFINITION. The clocks of the islands, and what other rows need of the power controller (R726 to R740). -/

namespace Sys2Proof.Machine

def fPll (i : Nat) : Fld := ⟨0x4000, 3 * i, 3⟩
def fClkRejected : Fld := ⟨0x4000, 31, 1⟩
def fIslE (i : Nat) : Fld := ⟨0x4100 + 4 * i, 0, 6⟩
def fOpp : Fld := ⟨0x5000, 16, 1⟩
def fPwrLimit : Fld := ⟨0x5004, 0, 7⟩
def fTThr : Fld := ⟨0x500C, 0, 8⟩
def fTPause : Fld := ⟨0x500C, 8, 8⟩
def fPauseMax : Fld := ⟨0x5020, 0, 12⟩
def fCoreE (i : Nat) : Fld := ⟨0x5100 + 4 * i, 0, 6⟩
def fEPower (i : Nat) : Fld := ⟨0x5100 + 4 * i, 8, 6⟩
def fETherm (i : Nat) : Fld := ⟨0x5100 + 4 * i, 16, 6⟩
def fTemp (i : Nat) : Fld := ⟨0x5100 + 4 * i, 24, 8⟩

def State.setPower (s : State) (p : Power) : State := { s with power := p }
def State.setBoot (s : State) (b : Boot) : State := { s with boot := b }

/-- E_MAX of the operating point (R731). -/
def State.eMax (s : State) : Nat := if s.flag fOpp then 44 else 40

/-- The physical cores that are enabled (R252, R253). -/
def State.physCores (s : State) : List Nat := (List.range s.nCores).map s.physOf

/-- The logical core at a physical place. -/
def State.logicalOf (s : State) (i : Nat) : Nat := ((List.range s.nCores).find? (fun k => s.physOf k == i)).getD 0

/-- The three islands of physical core i run at E (R730, R732). -/
def State.setE (s : State) (i e : Nat) : State :=
  (((s.put (fCoreE i) e).put (fIslE (3 * i)) e).put (fIslE (3 * i + 1)) e).put (fIslE (3 * i + 2)) e

/-- E = min(E_MAX, E_POWER, E_THERM) (R732). -/
def State.ruleE (s : State) (i : Nat) : Nat := min s.eMax (min (s.get (fEPower i)) (s.get (fETherm i)))

/-- The core is frozen and its sweep step is still to come, or is in progress: R740 and R634 set its clock. -/
def State.heldE (s : State) (k : Nat) : Bool :=
  (s.core k).frozen && (match s.reeve.sweep with
    | some w => decide (w.step ≤ 2) && decide (w.core ≤ k)
    | none => true)

/-- The islands of physical core i are paused (R737). -/
def State.pausedAt (s : State) (i : Nat) : Bool := s.flag (fIslPaused (3 * i))

/-- The core is under test in sweep step 2: its first engine reset has been requested, and its test has not ended (R634). -/
def State.underTest (s : State) (k : Nat) : Bool :=
  match s.reeve.sweep with
  | some w => w.step == 2 && w.core == k && !(w.at_ == .engine .lpeel && !w.waiting)
  | none => false

/-- Physical core i takes the E of R732, or the one of R634 under test, unless a pause or R740 sets it, or its islands are off. -/
def State.settleE (s : State) (i : Nat) : State :=
  if s.pausedAt i || s.flag (fIslOff (3 * i)) then s
  else if s.underTest (s.logicalOf i) then s.setE i 40
  else if s.heldE (s.logicalOf i) then s
  else s.setE i (s.ruleE i)

/-- ISL51 lets through the fraction of the enabled core with the lowest E_POWER (R732). -/
def State.settleCe (s : State) : State := s.put (fIslE 51) ((s.physCores.map (fun i => s.get (fEPower i))).foldl min s.eMax)

/-- Every core and ISL51 take their E. -/
def State.settleAll (s : State) : State := (s.physCores.foldl State.settleE s).settleCe

def State.therm (s : State) (i : Nat) : Therm := Tbl.getD s.power.therm i Therm.reset
def State.setTherm (s : State) (i : Nat) (x : Therm) : State := s.setPower { s.power with therm := Tbl.put s.power.therm i x }

/-- The flag PAUSED of the three islands of physical core i. -/
def State.setPaused (s : State) (i : Nat) (b : Bool) : State :=
  (List.range 3).foldl (fun s j => s.put (fIslPaused (3 * i + j)) (b2n b)) s

/-- The pause of physical core i ends: E_THERM is 11 (R737). -/
def State.endPause (s : State) (i : Nat) : State :=
  if s.pausedAt i then
    let us := match (s.therm i).pausedAt with
      | some t => (s.tb.ticks - t) * 40 / 1000
      | none => 0
    let s := ((s.setPaused i false).put (fETherm i) 11).put fPauseMax (min (max (s.get fPauseMax) us) 4095)
    (s.setTherm i { s.therm i with pausedAt := none, pauseEnd := some s.tb.ticks }).settleE i
  else s

/-- The freeze of R255: every pause ends, and every core island runs at E = 11 (R740). -/
def State.freezeClocks (s : State) : State := s.physCores.foldl (fun s i => (s.endPause i).setE i 11) s

end Sys2Proof.Machine
end

