-- ==== Sys2Proof/Machine/Wake.lean ====
section
/-! DEFINITION. How a wake from Banked begins (R750, R751), and what a block that Banked turns off makes of a write (R748). -/

namespace Sys2Proof.Machine

def fWakeSrc (i : Nat) : Fld := ⟨0x5018, i, 1⟩

/-- The blocks that Banked turns off are off, as the Mill's island shows (R747, R748). -/
def State.blocksOff (s : State) : Bool := s.flag (fIslOff 48)

/-- A wake begins: its reference is now, the PLLs lock again, and training and tests are due (R750, R751). -/
def State.wakeStart (s : State) : State :=
  let s := [0, 1, 3, 5].foldl (fun s i => s.put (fPll i) 1) (s.put fPwrState pwrWaking)
  let s := s.setPower { s.power with wakeHeld := false, wakeAt := some s.tb.ticks, calDue := none, calAsked := false }
  s.setBoot { s.boot with trainEnded := false, trained := false, kats := [], tested := [] }

/-- A wake request: held while BANKED is being entered, and without effect in RUN and in WAKING (R750). -/
def State.wakeAsked (s : State) : State :=
  if s.get fPwrState = pwrEntering then s.setPower { s.power with wakeHeld := true }
  else if s.get fPwrState = pwrBanked then s.wakeStart
  else s

end Sys2Proof.Machine
end

