-- ==== Sys2Proof/Machine/Kelyth.lean ====
section
/-! DEFINITION. The Kelyth Link ports: enabling, training, frames received and frames sent (R531 to R549, R558, R568 to R573). -/

namespace Sys2Proof.Machine

/-- The port begins to train from index 0 (R536, R538). -/
def State.klyTrainFirst (s : State) (i : Nat) : State :=
  let s := ((s.setKport i KPort.reset).put (fKlyState i) klyTraining).off (fKlyLocked i)
  (s.put (fKlyMode i) (s.nextMode i 0 0)).put (fKlyLanes i) 0

-- KLY_CTRL

/-- A physical-function write to KLY_CTRL[i]: masks and threshold only while EN is 0, ERR_THRESH at least 1, EN only of a port that has a
role (R532, R575, R576).  EN 0 to 1 starts training; EN 1 to 0 disables the port (R536). -/
def State.klyCtrlWrite (s : State) (fn : Fn) (i : Nat) (v : Word) : State :=
  let v := v &&& 0x8F70FF00#32
  let old := s.reg (kKly i 0)
  let was := s.flag (fKlyEn i)
  if fn ≠ 0 then s
  else if s.blocksOff ∨ (fKlyThresh i).ofWord v = 0 ∨ ((fKlyEn i).ofWord v = 1 ∧ (s.peerOf i).isNone) ∨
      (was ∧ v &&& 0x7FFFFFFF#32 ≠ old &&& 0x7FFFFFFF#32) then s.on fKlyRejected
  else
    let s := s.setReg (kKly i 0) v
    if (fKlyEn i).ofWord v = 1 ∧ !was then s.klyTrainFirst i
    else if (fKlyEn i).ofWord v = 0 ∧ was then s.klyDown i klyDisabled false
    else s

/-- KLY_PORT_ENABLE: a write to KLY_CTRL[i] that sets EN (R532, R536). -/
def execKlyPortEnable (fn : Fn) (i : Fin 4) (v : Word) (s : State) : Out :=
  if s.turnsAway fn then .next (s.turnedAway fn) else
  if (fKlyEn i).ofWord v = 1 ∧ !s.flag (fKlyEn i) then .next (s.klyCtrlWrite fn i v) else .next s

/-- KLY_PORT_DISABLE: a write to KLY_CTRL[i] that clears EN (R536). -/
def execKlyPortDisable (fn : Fn) (i : Fin 4) (v : Word) (s : State) : Out :=
  if s.turnsAway fn then .next (s.turnedAway fn) else
  if (fKlyEn i).ofWord v = 0 ∧ s.flag (fKlyEn i) then .next (s.klyCtrlWrite fn i v) else .next s

-- TRAINING

/-- KLY_PLL_CHANNEL_LOCK (R538, R548, R743): the channel has relocked, and the time that frames were held for it is kept. -/
def execKlyPllChannelLock (i : Fin 4) (s : State) : Out :=
  let i := i.val
  if s.klyUsable i && !s.flag (fKlyLocked i) then
    let p := s.kport i
    let s := match p.heldFrom with
      | some t => s.put (fKlyHoldMax i) (max (s.get (fKlyHoldMax i)) (min ((s.tb.ticks - t) * 40 / 1000) 0xFFFF))
      | none => s
    .next (((s.on (fKlyLocked i)).bump 0x4014).setKport i { p with heldFrom := none })
  else .next s

/-- The port is in TRAINING or RETRAIN. -/
def State.klyTrains (s : State) (i : Nat) : Bool := s.get (fKlyState i) == klyTraining || s.get (fKlyState i) == klyRetrain

/-- KLY_TRAIN_ATTEMPT_TIMEOUT: 20 ms after its start the attempt has not passed (R538). -/
def execKlyTrainAttemptTimeout (i : Fin 4) (elapsedMs : Nat) (s : State) : Out :=
  if s.klyTrains i && decide (20 ≤ elapsedMs) then .next (s.attempt i (s.nextMode i (s.get (fKlyMode i) + 1) (s.klyStart i))) else .next s

/-- KLY_TRAINING_LIMIT: 1 s after it entered TRAINING or RETRAIN the port is still there (R539). -/
def execKlyTrainingLimit (i : Fin 4) (elapsedMs : Nat) (s : State) : Out :=
  if s.klyTrains i && decide (1000 ≤ elapsedMs) then .next ((s.klyDown i klyFailed true).report 0x5103 (srcKly i)) else .next s

/-- The lanes of a width. -/
def lanesOf (w : Nat) : Nat := if w = 0 then 1 else if w = 1 then 3 else 15

/-- KLY_TRAINING_PASS: the mode's attempt passes, its channel locked and the TRAIN exchange done (R538). -/
def execKlyTrainingPass (i : Fin 4) (s : State) : Out :=
  let i := i.val
  let m := s.get (fKlyMode i)
  if s.klyTrains i && s.flag (fKlyLocked i) && (s.kport i).exchanged && s.modePermitted i m then
    let s := (s.put (fKlyState i) klyUp).put (fKlyLanes i) (lanesOf (ladderAt m).2)
    .next (s.setKport i { s.kport i with err := ErrWindow.reset })
  else .next s

-- RECEPTION

/-- A frame that fails HCRC or FCRC (KLY_FRAME_CRC_FAIL; R540, R544). -/
def State.klyCrcFail (s : State) (i : Nat) (bs : List Byte) : State :=
  let p := s.kport i
  let w : ErrWindow := if p.err.count = 0 ∨ 25000000 < s.tb.ticks - p.err.tick then { count := 1, tick := s.tb.ticks } else { p.err with count := p.err.count + 1 }
  let s := ((s.bump (kKly i 8)).violation 0x5105 (srcKly i) bs).setKport i { p with nakDue := true, err := w }
  if s.get (fKlyThresh i) < w.count then s.stepDown i else s

/-- A frame discarded as a violation and answered with a NAK (R573). -/
def State.klyNaked (s : State) (i : Nat) (f : KFrame) : State :=
  let s := s.klyViolation i f
  s.setKport i { s.kport i with nakDue := true }

/-- Frames from the oldest unacknowledged one to that which ACKSEQ a names, where a lies in that range (R545). -/
def KPort.ackCount (p : KPort) (a : Nat) : Option Nat :=
  let oldest := match p.replay with
    | r :: _ => r.frame.lseq
    | [] => p.txNext % 4096
  let n := (a % 4096 + 4096 - oldest) % 4096
  if n ≤ p.replay.length then some n else none

/-- The n oldest frames of the replay buffer are acknowledged (R545). -/
def KPort.released (p : KPort) (n : Nat) : KPort :=
  let left := p.replay.drop n
  { p with replay := left, resend := p.resend.bind (fun j => if j - n < left.length then some (j - n) else none) }

/-- What every frame carries beside its own matter: returned lines and, where valid, an acknowledgement (R543, R545, R546). [log 107: DEDUCED, unsafe] -/
def State.klyHeader (s : State) (i : Nat) (f : KFrame) : State :=
  let p := s.kport i
  let p := { p with credit := p.credit + f.credit }
  let p := if 32768 ≤ f.ackseq ∧ f.type ≠ 3 ∧ f.type ≠ 4 then p.released ((p.ackCount f.ackseq).getD 0) else p
  s.setKport i p

/-- Bytes that come in on port i, for the row that treats frames which `mine` picks out: a failed CRC first, then a violation, then the
frame (R544, R573); a port that trains takes TRAIN frames alone, and one that is not in service nothing (R536). -/
def State.klyReceive (s : State) (i : Nat) (bs : List Byte) (mine : Nat → Bool) (f : State → KFrame → State) : Out :=
  if !s.klyUsable i then .next s
  else
    match KFrame.ofBytes bs with
    | none => .next (s.klyCrcFail i bs)
    | some fr =>
      if !mine fr.type || (s.klyTrains i && fr.type != 7) then .next s
      else if fr.bad then .next (s.klyNaked i fr)
      else .next (f (s.klyHeader i fr) fr)

/-- A reliable frame is taken in LSEQ order: a duplicate is discarded silently, and a frame ahead with a NAK (R545, R573). -/
def State.klyInOrder (s : State) (i : Nat) (f : KFrame) (k : State → State) : State :=
  let p := s.kport i
  let d := (f.lseq + 4096 - p.rxNext % 4096) % 4096
  if d = 0 then k (s.setKport i { p with rxNext := (p.rxNext + 1) % 4096, ackDue := true })
  else if d < 2048 then s.klyNaked i f
  else s

/-- Port i has emptied the lines of a frame (R546). -/
def State.klyEmptied (s : State) (i n : Nat) : State := s.setKport i { s.kport i with creditDue := (s.kport i).creditDue + n }

/-- The tracker of a frame's message. -/
def State.trackerOf (s : State) (f : KFrame) : Option Tracker := s.kly.trackers.find? (fun t => t.src == f.src && t.msgId == f.msgId)

/-- The trackers with one message's entry replaced, or taken out. -/
def State.setTracker (s : State) (f : KFrame) (t : Option Tracker) : State :=
  s.setKly { s.kly with trackers := s.kly.trackers.filter (fun x => !(x.src == f.src && x.msgId == f.msgId)) ++ t.toList }

/-- The RACK of a message (R558). -/
def State.rackFor (s : State) (f : KFrame) (error : Bool) : KFrame :=
  { type := 2, flags := if error then 4 else 0, route := routeByte s.device f.src f.part, recvCnt := f.recvCnt, lseq := 0, ackseq := 0, addr := 0,
    msgLen := f.msgLen, msgId := f.msgId, credit := 0, payload := [] }

/-- A DATA frame for this device that holds a tracker, or can take one: its bytes are written, or its message is refused; at the
message's end its counter advances and its RACK is queued (R558, R573). -/
def State.klyDeliver (s : State) (i : Nat) (f : KFrame) : State :=
  let t := (s.trackerOf f).getD { src := f.src, msgId := f.msgId, got := 0, refused := false }
  let put : Bool × State := if t.refused then (true, s) else s.ceWrite f.part (f.flags.testBit 0) f.addr f.payload
  let s := if put.1 then put.2 else s.klyViolation i f
  let t := { t with got := t.got + f.payload.length, refused := t.refused || !put.1 }
  let s := s.klyEmptied i f.lines
  if t.got < f.msgLen then s.setTracker f (some t)
  else
    let s := s.setTracker f none
    let s := if !t.refused && f.flags.testBit 1 then s.cntStep f.recvCnt f.part 0 else s
    s.sendRack (s.rackFor f t.refused)

/-- A tracker is held for the frame's message, or one is free (R558). -/
def State.trackerRoom (s : State) (f : KFrame) : Bool := (s.trackerOf f).isSome || decide (s.kly.trackers.length < 512)

/-- Lines of device memory that the frame's bytes are written to (R516, R517): none where they go to staging or are refused. -/
def State.rxLines (s : State) (f : KFrame) : Nat :=
  if f.flags.testBit 0 || !s.jobOk f.part f.addr f.payload.length true then 0 else linesOf f.addr f.payload.length

/-- A frame with a tracker goes to device memory: its request is admitted. -/
def State.rxGoes (s : State) (i : Nat) (f : KFrame) : Bool := s.rxLines f == 0 || s.dramReady (.message i) f.part (s.rxLines f)

/-- The frame's request goes out, and the frame is delivered. -/
def State.rxTake (s : State) (i : Nat) (f : KFrame) : State :=
  let s := if s.rxLines f = 0 then s else s.dramTake (.message i) f.part (s.rxLines f)
  s.klyDeliver i f

/-- The frame that port i delivers next, of those that wait. -/
def State.rxFirst (s : State) (i : Nat) : Option KFrame := (s.kport i).rxWait.find? s.trackerRoom

/-- Port i delivers a frame that waits, where it can now. -/
def State.rxTry (s : State) (i : Nat) : Option State :=
  match s.rxFirst i with
  | some f => if s.rxGoes i f then some ((s.setKport i { s.kport i with rxWait := (s.kport i).rxWait.erase f }).rxTake i f) else none
  | none => none

/-- The frames that could be delivered but for their request wait for it (R520). -/
def State.rxHold (s : State) : State :=
  (List.range 4).foldl (fun s i =>
    match s.rxFirst i with
    | some f => s.dramWait (.message i) f.part (s.rxLines f)
    | none => s) s

/-- Frames that waited for a tracker, or for their request, are delivered while they find room. -/
def State.rxDrain : (fuel : Nat) → State → State
  | 0, s => s.rxHold
  | n + 1, s =>
    match (List.range 4).findSome? s.rxTry with
    | some s => State.rxDrain n s
    | none => s.rxHold

def State.rxWaiting (s : State) : Nat := ((List.range 4).map (fun i => (s.kport i).rxWait.length)).foldl (· + ·) 0

/-- A DATA frame that has come in order (R517, R534, R546, R558, R571, R573). [log 109: DEDUCED, unsafe] -/
def State.klyData (s : State) (i : Nat) (f : KFrame) : State :=
  let p := s.kport i
  let s := (s.setKport i { p with granted := p.granted - f.lines }).setReg64 (kKly i 0x30) (s.reg64 (kKly i 0x30) + BitVec.ofNat 64 f.payload.length)
  if s.flag fCeFenced then (s.bump (kKly i 0x24)).klyEmptied i f.lines
  else if s.devices ≤ f.dst ∨ s.devices ≤ f.src then (s.klyViolation i f).klyEmptied i f.lines
  else if f.dst ≠ s.device then (s.forward i f).klyEmptied i f.lines
  else if s.trackerRoom f && (s.askOf (.message i)).isNone && s.rxGoes i f then
    let s := s.rxTake i f
    State.rxDrain s.rxWaiting s
  else (s.setKport i { s.kport i with rxWait := (s.kport i).rxWait ++ [f] }).rxHold

/-- KLY_DATA_FRAME: a DATA frame, or one of no valid TYPE, comes in on port i (R534, R544 to R546, R558, R571, R573). -/
def execKlyDataFrame (i : Fin 4) (bytes : List Byte) (s : State) : Out :=
  s.klyReceive i bytes (fun t => t == 1 || t == 0 || decide (7 < t)) (fun s f =>
    if f.lseq = (s.kport i).rxNext % 4096 ∧ (s.kport i).granted < f.lines then s.klyNaked i f
    else s.klyInOrder i f (fun s => s.klyData i f))

/-- A RACK for this device: the message it answers is complete, or refused, which is a job fault (R557, R558, R572, R573). -/
def State.klyRacked (s : State) (i : Nat) (f : KFrame) : State :=
  let t := trigOfMsg f.msgId
  match s.firing t with
  | some x =>
    if x.performed ∧ x.waits.contains f.src ∧ msgIdOf t (s.trig t).fired = f.msgId then
      if f.flags.testBit 2 then (s.setFiring t { x with failed := true }).ceFault 0x5205 t
      else s.setFiring t { x with waits := x.waits.erase f.src }
    else s.klyViolation i f
  | none => s.klyViolation i f

/-- KLY_RACK (R534, R557, R571, R573). -/
def execKlyRack (i : Fin 4) (bytes : List Byte) (s : State) : Out :=
  s.klyReceive i bytes (· == 2) (fun s f =>
    s.klyInOrder i f (fun s =>
      if s.flag fCeFenced then s.bump (kKly i 0x24)
      else if f.dst ≠ s.device then s.forward i f
      else s.klyRacked i f))

/-- KLY_ACK (R545, R573): what the ACKSEQ names as received leaves the replay buffer. -/
def execKlyAck (i : Fin 4) (bytes : List Byte) (s : State) : Out :=
  s.klyReceive i bytes (· == 3) (fun s f =>
    let p := s.kport i
    match p.ackCount f.ackseq with
    | some n => if f.ackseq < 32768 ∨ p.replay = [] then s.klyViolation i f else s.setKport i (p.released n)
    | none => s.klyViolation i f)

/-- KLY_NAK (R545): the frames before the one named are acknowledged, and the others are sent again. -/
def execKlyNak (i : Fin 4) (bytes : List Byte) (s : State) : Out :=
  s.klyReceive i bytes (· == 4) (fun s f =>
    let p := s.kport i
    match p.ackCount f.ackseq with
    | some n =>
      if f.ackseq < 32768 then s.klyViolation i f
      else
        let p := p.released n
        s.setKport i { p with resend := if p.replay = [] then none else some 0 }
    | none => s.klyViolation i f)

/-- KLY_CREDIT: the lines that the CREDIT field returns, which every frame's header may carry (R546). -/
def execKlyCredit (i : Fin 4) (bytes : List Byte) (s : State) : Out := s.klyReceive i bytes (· == 5) (fun s _ => s)

/-- The restart frame number of an ABORT raises the one of the recovery, or is kept for the recovery that it starts (R570). -/
def State.abortFrameIn (s : State) (n : Word) : State :=
  match s.reeve.recovery with
  | some r => { s with reeve := { s.reeve with recovery := some { r with minFrame := some (laterFrame n r.minFrame) } } }
  | none => s.setKly { s.kly with abortFrame := some (laterFrame n s.kly.abortFrame) }

/-- KLY_ABORT (R534, R569 to R571): a new ABORT is forwarded once on the other ring port, its restart frame counts, a sender in HELD
leaves every route set, and 0x5203 is raised. [log 110: DEDUCED, unsafe] -/
def execKlyAbort (i : Fin 4) (bytes : List Byte) (s : State) : Out :=
  s.klyReceive i bytes (· == 6) (fun s f =>
    s.klyInOrder i f (fun s =>
      let s := s.bump kAbortRx
      let key := (f.src, bitsAt f.addr 32 8)
      if s.kly.aborts.contains key ∨ f.src = s.device then s
      else
        let held := f.flags.testBit 3
        let peers := s.kly.heldPeers.filter (· != f.src)
        let s := s.setKly { s.kly with aborts := (key :: s.kly.aborts).take 16, heldPeers := if held then f.src :: peers else peers }
        let s := if s.isRing then s.forward i f else s
        let s := if s.kly.origin.isNone then s.setKly { s.kly with origin := some f.src } else s
        (s.abortFrameIn (BitVec.ofNat 32 f.addr)).jobFault 0x5203 (srcKly i)))

/-- Another SHAPE, another count, or the same index (R36). -/
def State.topoClash (s : State) (topo : Nat) : Bool :=
  bitsAt topo 4 2 != s.get fShape || bitsAt topo 2 2 + 1 != s.devices || bitsAt topo 0 2 == s.device

/-- A TRAIN frame that tells of a peer wired and configured as R531 has it: its masks and its floor count (R537, R541); in UP, a peer
whose floor lies below the mode in force is followed into RETRAIN. -/
def State.klyTrained (s : State) (i : Nat) (f : KFrame) : State :=
  let p := s.kport i
  let p := { p with peerRate := bitsAt f.addr 0 4, peerWidth := bitsAt f.addr 8 3, peerFloor := min (bitsAt f.addr 16 8) 11 }
  let s := ((s.setKport i { p with exchanged := true }).put (fKlyPeerIndex i) (bitsAt f.addr 32 2)).put (fKlyPeerPort i) (bitsAt f.addr 24 8)
  let m := s.get (fKlyMode i)
  if s.klyIsUp i then (if m < p.peerFloor then s.retrain i else s)
  else if m < s.klyStart i ∨ !s.modePermitted i m then
    let s := s.attempt i (s.nextMode i (max m (s.klyStart i)) (s.klyStart i))
    s.setKport i { s.kport i with exchanged := true }
  else s

/-- KLY_TRAIN_FRAME (R36, R537 to R541). -/
def execKlyTrainFrame (i : Fin 4) (bytes : List Byte) (s : State) : Out :=
  s.klyReceive i bytes (· == 7) (fun s f =>
    if s.topoClash (bitsAt f.addr 32 6) then (s.klyDown i klyOut true).violation 0x5101 (srcKly i) f.head
    else if (s.peerOf i).any (fun p => p.2 != bitsAt f.addr 24 8) then (s.klyDown i klyOut true).violation 0x5102 (srcKly i) f.head
    else s.klyTrained i f)

-- TRANSMISSION

/-- A frame leaves on port i, in blocks on its lanes (R542). -/
def State.klyEmit (s : State) (i : Nat) (f : KFrame) : State :=
  let b := s.frameBlocks i f.bytes
  ((s.emit (.klyFrame i f.bytes)).emit (.klyBlocks i b.1)).setKline i b.2

/-- The TRAIN frame of port i (R538, R543). -/
def State.trainFrame (s : State) (i : Nat) : KFrame :=
  { s.control i 7 (s.get (fKlyRates i) + s.get (fKlyWidths i) * 2 ^ 8 + (s.kport i).floor * 2 ^ 16 + i * 2 ^ 24 + bitsAt (s.reg 0x8).toNat 0 6 * 2 ^ 32) 0 with ackseq := 0 }

/-- A new reliable frame can leave: replay room, credit for a DATA frame's lines (R545, R546). -/
def KPort.room (p : KPort) (f : KFrame) : Bool := decide (p.replay.length < 64) && (f.type != 1 || decide (f.lines ≤ p.credit))

/-- The port's regulator admits the frame: DATA is charged by its lines (R522). -/
def State.klyAdmits (s : State) (i : Nat) (f : KFrame) : Bool := f.type != 1 || s.admits (1 + i) f.part

/-- The lines of a frame are charged to the partition that its header names (R522). -/
def State.klyCharge (s : State) (i : Nat) (f : KFrame) : State :=
  if f.type ≠ 1 then s
  else
    let g := s.regSt (1 + i)
    s.setRegSt (1 + i) { g with used := Tbl.put g.used f.part (Tbl.getD g.used f.part 0 + f.lines), last := f.part }

/-- The head of queue q, which has left its queue, is numbered, kept and sent (R545, R568). -/
def State.klySend (s : State) (i q : Nat) (f : KFrame) : State :=
  let s := s.klyCharge i f
  let p := s.kport i
  let f := { f with lseq := p.txNext % 4096, ackseq := p.ackWord }
  let p := { p with txNext := (p.txNext + 1) % 4096, replay := p.replay ++ [{ frame := f, times := 0 }], credit := if f.type = 1 then p.credit - f.lines else p.credit, stalled := p.stalled.filter (· != q), regHeld := p.regHeld.filter (· != q) }
  let s := (s.setKport i p).setReg64 (kKly i 0x28) (s.reg64 (kKly i 0x28) + BitVec.ofNat 64 f.payload.length)
  (if f.type = 6 then s.bump kAbortTx else s).klyEmit i f

/-- The head frame of queue q waits: counted once for credit or replay room, and once for the regulator (R520, R546, limit 2). -/
def State.klyWaits (s : State) (i q : Nat) (f : KFrame) : State :=
  let p := s.kport i
  if !p.room f then (if p.stalled.contains q then s else (s.bump (kKly i 0x18)).setKport i { p with stalled := q :: p.stalled })
  else if p.regHeld.contains q then s
  else (s.bump (kHeld (1 + i) f.part)).setKport i { p with regHeld := q :: p.regHeld }

/-- The port's next new reliable frame: an ABORT, then forwarded DATA and RACKs, then its own DATA, the first that can leave (R547). -/
def State.klyNew (s : State) (i : Nat) : State :=
  let p := s.kport i
  let can (f : KFrame) : Bool := p.room f && s.klyAdmits i f
  match p.aborts, p.fwd, p.own with
  | f :: r, _, _ => if can f then (s.setKport i { p with aborts := r }).klySend i 0 f else s.klyWaits i 0 f
  | [], f :: r, own =>
    if can f then (s.setKport i { p with fwd := r }).klySend i 1 f
    else
      let s := s.klyWaits i 1 f
      match own with
      | g :: r' => if can g then (s.setKport i { s.kport i with own := r' }).klySend i 2 g else s.klyWaits i 2 g
      | [] => s
  | [], [], g :: r => if can g then (s.setKport i { p with own := r }).klySend i 2 g else s.klyWaits i 2 g
  | [], [], [] => s

/-- The frame at an index of the replay buffer is sent again; one resent eight times steps the port down (R540, R545).  Its payload comes
from the replay buffer and its header from the header store (R567, R572). [log 114: DEDUCED, unsafe] -/
def State.klyResend (s : State) (i j : Nat) (ecc : Ecc) (headerOk : Bool) : State :=
  let p := s.kport i
  match p.replay[j]? with
  | some r =>
    if !headerOk then s.ceFault 0x5302 (256 + 64 * i)
    else if ecc = .uncorrectable ∧ r.frame.payload ≠ [] then s.ceFault 0x5301 (256 + 64 * i)
    else
      let s := if ecc = .corrected ∧ r.frame.payload ≠ [] then s.bump kCeEcc else s
      let p := { p with replay := p.replay.set j { r with times := r.times + 1 }, resend := if j + 1 < p.replay.length then some (j + 1) else none }
      let s := ((s.setKport i p).bump (kKly i 0xC)).klyEmit i r.frame
      if 8 ≤ r.times + 1 then s.stepDown i else s
  | none => s.setKport i { p with resend := none }

/-- KLY_FRAME_TRANSMIT (R540, R545 to R548): ACK, NAK, CREDIT and TRAIN first, then frames to be resent, then new ones. [log 108: DEDUCED, unsafe] -/
def execKlyFrameTransmit (i : Fin 4) (ecc : Ecc) (headerOk : Bool) (s : State) : Out :=
  let i := i.val
  let p := s.kport i
  if !s.flag (fKlyLocked i) then .next s
  else if s.klyTrains i then .next (s.klyEmit i (s.trainFrame i))
  else if !s.klyIsUp i then .next s
  else if p.ackDue then .next ((s.setKport i { p with ackDue := false }).klyEmit i (s.control i 3 0 0))
  else if p.nakDue then .next ((s.setKport i { p with nakDue := false }).klyEmit i (s.control i 4 0 0))
  else if p.creditDue ≠ 0 then
    let n := min p.creditDue 0xFFFF
    .next ((s.setKport i { p with creditDue := p.creditDue - n, granted := p.granted + n }).klyEmit i (s.control i 5 0 n))
  else
    match p.resend with
    | some j => .next (s.klyResend i j ecc headerOk)
    | none => .next (s.klyNew i)

/-- KLY_REPLAY_TIMEOUT: 20 µs without an advance of ACKSEQ (R545). -/
def execKlyReplayTimeout (i : Fin 4) (elapsedUs : Nat) (s : State) : Out :=
  let p := s.kport i
  if s.klyIsUp i && s.flag (fKlyLocked i) && p.replay != [] && decide (20 ≤ elapsedUs) then .next (s.setKport i { p with resend := some 0 })
  else .next s

/-- The firings with a frame held on port i, numbered or not (R549). -/
def State.heldFirings (s : State) (i : Nat) : List Nat :=
  let p := s.kport i
  (s.kly.firings.filter (fun x =>
    let id := msgIdOf x.1 (s.trig x.1).fired
    (p.own ++ p.replay.map KRep.frame).any (fun f => f.type == 1 && f.src == s.device && f.msgId == id))).map (·.1)

/-- KLY_LINK_NOT_READY: 2 ms after the first frame was held the channel has not locked (R549). -/
def execKlyLinkNotReady (i : Fin 4) (elapsedUs : Nat) (s : State) : Out :=
  if !s.flag (fKlyLocked i) && (s.kport i).heldFrom.isSome && decide (2000 ≤ elapsedUs) then
    .next ((s.heldFirings i).foldl (fun s t => s.linkFailed t 0x5201) s)
  else .next s

end Sys2Proof.Machine
end

