-- ==== Sys2Proof/Machine/Collective.lean ====
section
/-! DEFINITION. Collective counters, triggered operations and what they do (R550 to R566). -/

namespace Sys2Proof.Machine

/-- COUNTER_WINDOW_WRITE (R551): the oldest write that has come to the window takes effect, or raises 0x5206, or is refused. -/
def execCounterWindowWrite (s : State) : Out :=
  match s.ceWrites with
  | w :: rest =>
    let s1 : State := { s with ceWrites := rest }
    let c := (w.addr - 0x1000800000) / 8
    let v := leNat w.data
    if w.data.length ≠ 8 ∨ w.addr % 8 ≠ 0 ∨ v = 0 ∨ 65535 < v ∨ !s.flag (fCntEn c) then .next (s1.ceFault 0x5206 0)
    else if s.get (fCntPart c) ≠ w.part then .next (s1.refused4301 w.part w.addr)
    else .next (s1.cntAdd c v 0)
  | [] => .next s

-- DESCRIPTORS

/-- The operations allowed in a descriptor's table (R556). -/
def opAllowed (t op : Nat) : Bool := if t < 256 then decide (1 ≤ op) && decide (op ≤ 5) else op == 1 || op == 4

/-- The bits of word w of a descriptor that are not reserved (R13, R552). -/
def trigMask (w : Nat) : Word :=
  if w = 0 then 0xFF077FFF else if w = 1 then 0xFF03FFFF else if w = 12 then 0x000FFFFF else if 14 ≤ w then 0 else 0xFFFFFFFF

/-- A field of the descriptor is out of range (R552). -/
def Trig.outOfRange (d : Trig) : Bool :=
  (d.op == 2 && decide (3 < d.fmt)) || (d.op == 3 && (decide (8 < d.fmt) || d.len * d.elem % 64 != 0)) ||
  ((d.op == 1 || d.op == 2) && (d.len == 0 || decide (16777216 < d.len))) ||
  (d.op != 2 && d.stride != 0) || ((d.op == 1 || d.op == 2) && d.aux != 0) ||
  (d.op == 5 && (bitsAt d.aux 16 8 == 0 || bitsAt d.aux 24 40 != 0)) ||
  d.timeout == 0 || decide (1000000 < d.timeout)

/-- A staging range that the descriptor names lies outside its partition's regions (R553, R567): the sources; and the destination where
it is this device's own staging. -/
def State.stagingBad (s : State) (d : Trig) : Bool :=
  (d.op == 1 && d.srcCeb && !s.stageOk d.part d.src d.len) ||
  (d.op == 1 && d.dstCeb && d.dev == s.device && !s.stageOk d.part d.dst d.len) ||
  (d.op == 2 && (List.range s.devices).any (fun i => !s.stageOk d.part (d.src + i * d.stride) d.len)) ||
  (d.op == 3 && d.dstCeb && !s.stageOk d.part (d.dst + s.device * d.slotLen) d.slotLen)

/-- What R553 finds wrong with a descriptor that becomes VALID. -/
def State.trigBad (s : State) (t : Nat) (d : Trig) : Bool :=
  !opAllowed t d.op || d.outOfRange || !s.cntOwned d.trigCnt d.part || (d.doneEn && !s.cntOwned d.doneCnt d.part) ||
  (d.recvEn && !s.cntOwned d.recvCnt d.part) || decide (s.devices ≤ d.dev) ||
  (decide (256 ≤ t) && d.op == 1 && !s.reachable ((t - 256) / 64) d.dev) || s.stagingBad d

/-- A rejected write to a descriptor's table (R576). -/
def State.trigReject (s : State) (t : Nat) : State := if t < 256 then s.on fCeRejected else s.on fKlyRejected

/-- TRIGGER_DESCRIPTOR_WRITE: a write of word w of a descriptor (R552 to R554, R575): a descriptor that is VALID takes only a write that
clears VALID; one that becomes VALID is checked, and its F starts at 0; FIRED and reserved fields are not written (R13). [log 111: DEDUCED, unsafe] -/
def execTriggerDescriptorWrite (fn : Fn) (t : TrigId) (w : Fin 16) (v : Word) (s : State) : Out :=
  if s.turnsAway fn then .next (s.turnedAway fn) else
  let t := t.val
  let v := v &&& trigMask w
  let valid := v.toNat.testBit 8
  if fn ≠ 0 then .next s
  else if 256 ≤ t ∧ s.blocksOff then .next (s.trigReject t)
  else if (s.trig t).valid then
    if w = 0 ∧ !valid then .next ((s.setReg (kTrig t 0) v).setKly { s.kly with moved := s.kly.moved.filter (· != t) })
    else .next (s.trigReject t)
  else if w = 13 then .next s
  else
    let s1 := s.setReg (kTrig t w) v
    if w = 0 ∧ valid then
      if s.trigBad t (s1.trig t) then .next (s.trigReject t)
      else .next ((s1.setReg (kFired t) 0).setKly { s1.kly with moved := s1.kly.moved.filter (· != t), late := s1.kly.late.filter (· != t) })
    else .next s1

/-- TRIGGERED_OP_FIRE (R554, R571): a valid descriptor, with no firing in progress, whose counter has reached its threshold; a parity
error in what it reads is a job fault (R572). -/
def execTriggeredOpFire (t : TrigId) (parityOk : Bool) (s : State) : Out :=
  let t := t.val
  let d := s.trig t
  if !d.valid || (s.firing t).isSome || s.flag fCeFenced then .next s
  else if !parityOk then .next (s.ceFault 0x5302 t)
  else if d.thresh + d.fired * d.step ≤ (s.reg64 (kCnt d.trigCnt)).toNat then
    .next (s.setKly { s.kly with firings := Tbl.put s.kly.firings t { performed := false, failed := false, waits := [] }, moved := s.kly.moved.filter (· != t) })
  else .next s

/-- The firing of descriptor t, where its operation is op and has still to be carried out. -/
def State.dueFiring (s : State) (t op : Nat) : Bool :=
  (s.trig t).op == op && !s.flag fCeFenced && (match s.firing t with | some x => !x.performed && !x.failed | none => false)

/-- The operation has been carried out, and RACKs of these devices are missing. -/
def State.firedTo (s : State) (t : Nat) (waits : List Nat) : State := s.setFiring t { performed := true, failed := false, waits := waits }

/-- The operation has met an error. -/
def State.firingFails (s : State) (t : Nat) : State := s.setFiring t { performed := true, failed := true, waits := [] }

-- MESSAGES

/-- The payload of a message in frames of 2,048 bytes (R557). -/
def frameChunks : (fuel : Nat) → List Byte → List (List Byte)
  | 0, _ => []
  | n + 1, bs => if bs = [] then [] else bs.take 2048 :: frameChunks n (bs.drop 2048)

/-- The DATA frames of a message to a device (R543, R557). -/
def State.message (s : State) (t dev : Nat) (dst : Nat) (bs : List Byte) : List KFrame :=
  let d := s.trig t
  (numbered (frameChunks (bs.length / 2048 + 1) bs)).map (fun x =>
    { type := 1, flags := b2n d.dstCeb + 2 * b2n d.recvEn, route := routeByte s.device dev d.part, recvCnt := d.recvCnt, lseq := 0, ackseq := 0,
      addr := (dst + 2048 * x.1) % 2 ^ 64, msgLen := bs.length, msgId := msgIdOf t d.fired, credit := 0, payload := x.2 })

/-- A message for the device itself is copied by the Collective Engine, and counts as one received (R557, R558). -/
def State.localMessage (s : State) (t dst : Nat) (bs : List Byte) : Bool × State :=
  let d := s.trig t
  match s.ceWrite d.part d.dstCeb dst bs with
  | (true, s) => (true, if d.recvEn then s.cntStep d.recvCnt d.part t else s)
  | (false, s) => (false, s.ceFault 0x5205 t)

/-- A message goes to a device, itself included; false where no port can take it, or the device refuses its own (R557, limit 7). -/
def State.sendMessage (s : State) (t dev dst : Nat) (bs : List Byte) : Bool × State :=
  if dev = s.device then s.localMessage t dst bs
  else
    let rs := s.routeOf t dev
    if (s.choosePort rs).isNone then (false, s.linkFailed t 0x5202)
    else (true, (s.message t dev dst bs).foldl (fun s f => s.sendOwn rs f) s)

/-- The firing's requests to device memory, of so many lines, go out; without one it goes on at once (R517, R520). -/
def State.firingAsk (s : State) (t lines : Nat) : Bool × State := if lines = 0 then (true, s) else s.dramAsk (.firing t) (s.trig t).part lines

/-- Lines of n bytes at an address, none of staging. -/
def ceLines (ceb : Bool) (a n : Nat) : Nat := if ceb then 0 else linesOf a n

/-- Lines of device memory that a PUT reads, and writes where the device sends to itself. -/
def State.putLines (s : State) (d : Trig) : Nat := ceLines d.srcCeb d.src d.len + (if d.dev = s.device then ceLines d.dstCeb d.dst d.len else 0)

/-- PUT (R517, R557, R558): LEN bytes go to the destination as one message. -/
def execPut (t : TrigId) (ecc : Ecc) (s : State) : Out :=
  let t := t.val
  let d := s.trig t
  if !s.dueFiring t 1 then .next s
  else
    match s.firingAsk t (s.putLines d) with
    | (false, s) => .next s
    | (true, s) =>
    match s.ceRead t d.part d.srcCeb d.src d.len ecc with
    | (none, s) => .next (s.firingFails t)
    | (some bs, s) =>
      match s.sendMessage t d.dev d.dst bs with
      | (true, s) => .next (s.firedTo t (if d.dev = s.device then [] else [d.dev]))
      | (false, s) => if (s.firing t).isSome then .next (s.firingFails t) else .next s

-- REDUCE

/-- Bytes of an element of a REDUCE (R552, FMT). -/
def reduceSize (fmt : Nat) : Nat := if fmt ≤ 1 then 4 else 2

/-- One result element: ((c0 + c1) + c2) + c3, in ascending device index (R559). -/
def reduceElem (fmt : Nat) (cs : List Nat) : Nat :=
  let fl (f : FloatFmt) : List XVal := cs.map f.decode
  let sum (l : List XVal) : Nat := match l with
    | [] => 0
    | x :: r => r.foldl (fun a y => fp32.round ((fp32.decode a).add y)) (fp32.round x)
  if fmt = 0 then cs.foldl (· + ·) 0 % 2 ^ 32
  else if fmt = 1 then sum (fl fp32)
  else if fmt = 2 then fp16.round (fp32.decode (sum (fl fp16)))
  else bf16.round (fp32.decode (sum (fl bf16)))

/-- The results of a REDUCE over contributions of n bytes (R559). -/
def reduceBytes (fmt n : Nat) (cs : List (List Byte)) : List Byte :=
  let w := reduceSize fmt
  (List.range (n / w)).flatMap (fun i => leBytes w (reduceElem fmt (cs.map (fun c => fieldAt c (w * i) w))))

/-- The contributions of a REDUCE, each read from staging. -/
def State.contributions (s : State) (t : Nat) (d : Trig) (ecc : Ecc) : (n i : Nat) → Option (List (List Byte)) × State
  | 0, _ => (some [], s)
  | n + 1, i =>
    match s.ceRead t d.part true (d.src + i * d.stride) d.len (if i = 0 then ecc else .clean) with
    | (none, s) => (none, s)
    | (some b, s) =>
      match s.contributions t d ecc n (i + 1) with
      | (some bs, s) => (some (b :: bs), s)
      | (none, s) => (none, s)

/-- REDUCE (R517, R559, R560): the bytes of a last, incomplete element are free values. -/
def execReduce (t : TrigId) (ecc : Ecc) (s : State) : Out :=
  let t := t.val
  let d := s.trig t
  if !s.dueFiring t 2 then .next s
  else
    match s.firingAsk t (linesOf d.dst d.len) with
    | (false, s) => .next s
    | (true, s) =>
    match s.contributions t d ecc s.devices 0 with
    | (none, s) => .next (s.firingFails t)
    | (some cs, s) =>
      let rest := d.len % reduceSize d.fmt
      match (if rest = 0 then s else s.drawn).ceWrite d.part false d.dst (reduceBytes d.fmt d.len cs ++ leBytes rest s.free) with
      | (true, s) => .next (s.firedTo t [])
      | (false, s) => .next ((s.refused4301 d.part d.dst).firingFails t)

-- EXCHANGE

/-- The slot header, and the padded slot, of a segment of `count` elements (R561, R562). -/
def exchangeSlot (cap elem count index fired : Nat) (seg : List Byte) : List Byte :=
  let n := min count cap
  leBytes 4 n ++ leBytes 4 (count - cap) ++ leBytes 1 index ++ leBytes 3 0 ++ leBytes 4 fired ++ leBytes 48 0 ++
    (seg.take (n * elem) ++ List.replicate ((cap - n) * elem) 0)

/-- One device's part of an EXCHANGE: the segment that its entry of the count table names is read and sent (R561, R562). -/
def State.exchangeOne (s : State) (t dev : Nat) (entry : List Byte) (ecc : Ecc) : Bool × State :=
  let d := s.trig t
  let off := fieldAt entry 0 4
  let count := fieldAt entry 4 4
  let n := min count d.len * d.elem
  let read : Option (List Byte) × State := if n = 0 then (some [], s) else s.ceRead t d.part d.srcCeb (d.src + off) n ecc
  match read with
  | (none, s) => (false, s.firingFails t)
  | (some seg, s) =>
    let s := if count ≤ d.len then s
      else if d.ovfFault then (s.bumpBy kCeDrop (count - d.len)).ceFault 0x5401 t
      else (s.bumpBy kCeDrop (count - d.len)).report 0x5401 (srcKly 4)
    s.sendMessage t dev (d.dst + s.device * d.slotLen) (exchangeSlot d.len d.elem count s.device d.fired seg)

/-- The devices of an EXCHANGE in turn, up to the first that fails. -/
def State.exchangeAll (t : Nat) (table : List Byte) (ecc : Ecc) : List Nat → State → Bool × State
  | [], s => (true, s)
  | dev :: r, s =>
    match s.exchangeOne t dev ((table.drop (8 * dev)).take 8) (if dev = 0 then ecc else .clean) with
    | (true, s) => State.exchangeAll t table ecc r s
    | (false, s) => (false, s)

/-- Lines of device memory that an EXCHANGE touches: its count table, the segments that this names, and the slot that the device sends to itself. -/
def State.exchangeLines (s : State) (d : Trig) : Nat :=
  let entry (i : Nat) (o : Nat) : Nat := leNat ((List.range 4).map (fun j => s.ramByte (d.aux + 8 * i + o + j)))
  linesOf d.aux (8 * s.devices) +
    ((List.range s.devices).map (fun i => ceLines d.srcCeb (d.src + entry i 0) (min (entry i 4) d.len * d.elem))).foldl (· + ·) 0 +
    ceLines d.dstCeb (d.dst + s.device * d.slotLen) d.slotLen

/-- EXCHANGE (R517, R561, R562). -/
def execExchange (t : TrigId) (ecc : Ecc) (s : State) : Out :=
  let t := t.val
  let d := s.trig t
  if !s.dueFiring t 3 then .next s
  else
    match s.firingAsk t (s.exchangeLines d) with
    | (false, s) => .next s
    | (true, s) =>
    match s.ceRead t d.part false d.aux (8 * s.devices) .clean with
    | (none, s) => .next (s.firingFails t)
    | (some table, s) =>
      let devs := List.range s.devices
      match State.exchangeAll t table ecc devs s with
      | (true, s) => .next (s.firedTo t (devs.filter (· != s.device)))
      | (false, s) => if (s.firing t).isSome then .next (s.firingFails t) else .next s

-- FLAG AND DOORBELL

/-- FLAG (R517, R563). -/
def execFlag (t : TrigId) (s : State) : Out :=
  let t := t.val
  let d := s.trig t
  if !s.dueFiring t 4 then .next s
  else
    match s.firingAsk t (linesOf d.dst 8) with
    | (false, s) => .next s
    | (true, s) =>
    match s.ceWrite d.part false d.dst (leBytes 8 d.aux) with
    | (true, s) => .next (s.firedTo t [])
    | (false, s) => .next ((s.refused4301 d.part d.dst).firingFails t)

/-- DOORBELL (R508, R563): PRODUCER of a RING queue of PART advances as an accepted SQ_DB would; else nothing changes, and it is logged as
R452 states and is a job fault.  While PART's partition reset runs, it is ignored. -/
def execDoorbell (t : TrigId) (s : State) : Out :=
  let t := t.val
  let d := s.trig t
  let q := bitsAt d.aux 0 16
  let n := bitsAt d.aux 16 8
  let x := s.queue q
  if !s.dueFiring t 5 then .next s
  else if x.owner = d.part ∧ s.inReset x.owner then .next (s.firedTo t [])
  else
    let bad : Option Nat := if x.owner ≠ d.part then some 0x4101 else s.advanceFault x n
    match bad with
    | some code => .next (((s.qmViolation code (leBytes 8 d.aux)).ceFault 0x5206 t).firingFails t)
    | none => .next ((s.setQueue q (x.advance s.now n none)).firedTo t [])

-- COMPLETION

/-- FIRING_COMPLETE (R554): the operation has been carried out and no RACK is missing. -/
def execFiringComplete (t : TrigId) (s : State) : Out :=
  let t := t.val
  let d := s.trig t
  match s.firing t with
  | some x =>
    if x.performed && !x.failed && x.waits == [] && !s.flag fCeFenced then
      let s := s.endFiring t
      let s := if t < 256 then s.bump kCeOps else s
      .next (if d.doneEn then s.cntStep d.doneCnt d.part t else s)
    else .next s
  | none => .next s

/-- FIRING_TIMEOUT (R555, R622): TIMEOUT_US after its counter first changed the descriptor has not fired, or after its firing that has not
completed. -/
def execFiringTimeout (t : TrigId) (elapsedUs : Nat) (s : State) : Out :=
  let t := t.val
  let d := s.trig t
  let counting := (s.firing t).isSome || (d.valid && s.kly.moved.contains t)
  if counting && decide (d.timeout ≤ elapsedUs) && !s.kly.late.contains t && !s.flag fCeFenced then
    .next (((s.setKly { s.kly with late := t :: s.kly.late }).bump kCeTmo).ceFault 0x5204 t)
  else .next s

end Sys2Proof.Machine
end

