-- ==== Sys2Proof/Machine/CsiPixels.lean ====
section
/-! DEFINITION. CSI-2 pixel compression: the code words of a line and their decoders (R187). [log 150: PRESUMED, unsafe] -/

namespace Sys2Proof.Machine

/-- A difference code of a scheme: its leading bits and how many they are, the bits of its value, which follow a sign, and the difference that the value
stands for: base + step × value. -/
structure DpcmCode where
  lead : Nat
  leadBits : Nat
  valueBits : Nat
  step : Nat
  base : Nat
  deriving DecidableEq, Repr

/-- A scheme: bits of a decoded sample, bits of a code word, and its difference codes; a code word with its top bit set is a plain value. -/
structure DpcmScheme where
  bits : Nat
  code : Nat
  diffs : List DpcmCode
  deriving DecidableEq, Repr

/-- The schemes of SCHEME, in the order of R187. -/
def dpcmScheme (i : Nat) : DpcmScheme :=
  match i with
  | 0 => ⟨10, 8, [⟨0, 2, 5, 1, 0⟩, ⟨2, 3, 4, 2, 32⟩, ⟨3, 3, 4, 4, 65⟩]⟩
  | 1 => ⟨10, 7, [⟨0, 3, 3, 1, 0⟩, ⟨2, 4, 2, 2, 8⟩, ⟨3, 4, 2, 4, 17⟩, ⟨1, 2, 4, 8, 35⟩]⟩
  | 2 => ⟨10, 6, [⟨0, 5, 0, 1, 0⟩, ⟨1, 5, 0, 2, 1⟩, ⟨1, 4, 1, 4, 4⟩, ⟨1, 3, 2, 8, 14⟩, ⟨1, 2, 3, 16, 50⟩]⟩
  | 3 => ⟨12, 8, [⟨0, 4, 3, 1, 0⟩, ⟨3, 3, 4, 2, 8⟩, ⟨2, 3, 4, 4, 41⟩, ⟨1, 3, 4, 8, 107⟩, ⟨1, 4, 3, 16, 239⟩]⟩
  | 4 => ⟨12, 7, [⟨0, 4, 2, 1, 0⟩, ⟨1, 4, 2, 2, 4⟩, ⟨2, 4, 2, 4, 13⟩, ⟨2, 3, 3, 8, 31⟩, ⟨3, 3, 3, 16, 99⟩, ⟨3, 4, 2, 32, 235⟩]⟩
  | 5 => ⟨12, 6, [⟨0, 4, 1, 1, 0⟩, ⟨1, 4, 1, 4, 3⟩, ⟨2, 3, 2, 8, 13⟩, ⟨2, 4, 1, 16, 49⟩, ⟨3, 3, 2, 32, 89⟩, ⟨3, 4, 1, 64, 233⟩]⟩
  | _ => ⟨12, 10, [⟨0, 2, 7, 1, 0⟩, ⟨2, 3, 6, 2, 128⟩, ⟨3, 3, 6, 4, 257⟩]⟩

/-- The sample of a code word that is not predicted. -/
def DpcmScheme.plain (d : DpcmScheme) (w : Nat) : Nat := w * 2 ^ (d.bits - d.code) + 2 ^ (d.bits - d.code - 1)

/-- The sample of a code word with a prediction. -/
def DpcmScheme.predicted (d : DpcmScheme) (pred w : Nat) : Nat :=
  match d.diffs.find? (fun c => w / 2 ^ (d.code - c.leadBits) == c.lead) with
  | some c =>
    let diff := c.base + c.step * (w % 2 ^ c.valueBits)
    if bitAt w c.valueBits then pred - diff else min (pred + diff) (2 ^ d.bits - 1)
  | none =>
    let f := 2 ^ (d.bits - d.code + 1)
    let x := w % 2 ^ (d.code - 1) * f
    if pred < x then x + f / 2 - 1 else x + f / 2

/-- The prediction from the samples before, newest first: none for the first two of a line (predictors 1 and 2). -/
def dpcmPredict (predictor : Nat) (prev : List Nat) : Option Nat :=
  match predictor, prev with
  | _, [] => none
  | _, [_] => none
  | 1, _ :: b :: _ => some b
  | _, [_, b] => some b
  | _, [a, b, c] => some (if (a ≤ b ∧ b ≤ c) ∨ (c ≤ b ∧ b ≤ a) then a else b)
  | _, a :: b :: c :: e :: _ =>
    some (if (a ≤ b ∧ b ≤ c) ∨ (c ≤ b ∧ b ≤ a) then a
      else if (a ≤ c ∧ b ≤ e) ∨ (c ≤ a ∧ e ≤ b) then b
      else (b + e + 1) / 2)

/-- The samples of a line's code words, after those decoded, newest first (R187): the prediction starts anew on every line. -/
def DpcmScheme.line (d : DpcmScheme) (predictor : Nat) : (prev : List Nat) → List Nat → List Nat
  | prev, [] => prev.reverse
  | prev, w :: l =>
    let x := match dpcmPredict predictor prev with
      | some p => d.predicted p w
      | none => d.plain w
    d.line predictor (x :: prev) l

/-- Code words of 6 or 7 bits, the first pixel in the low bits. -/
def unpackLow (bits : Nat) (bs : List Byte) : List Nat := (List.range (8 * bs.length / bits)).map (fun i => bitsAt (leNat bs) (bits * i) bits)

/-- RAW10, and code words of 10 bits: four pixels in five bytes, the low bits together in the fifth. [log 21: PRESUMED, unsafe] -/
def unpack10 : List Byte → List Nat
  | a :: b :: c :: d :: e :: r =>
    (a.toNat * 4 + bitsAt e.toNat 0 2) :: (b.toNat * 4 + bitsAt e.toNat 2 2) :: (c.toNat * 4 + bitsAt e.toNat 4 2) ::
      (d.toNat * 4 + bitsAt e.toNat 6 2) :: unpack10 r
  | _ => []

/-- The samples of a line of compressed pixels (R187). -/
def csiDecompress (scheme predictor : Nat) (bs : List Byte) : List Nat :=
  let d := dpcmScheme scheme
  d.line predictor [] (if d.code = 8 then bs.map (fun b => b.toNat) else if d.code = 10 then unpack10 bs else unpackLow d.code bs)

end Sys2Proof.Machine
end

