-- ==== Sys2Proof/Machine/Jpeg.lean ====
section
/-! DEFINITION. The JPEG decoder up to the dequantised coefficients: the part of ITU-T T.81 baseline decoding that R188 supports
(05_decode_and_steering.md). [log 22: PRESUMED, unsafe] -/

namespace Sys2Proof.Machine

-- THE HEADERS

/-- A component of the frame header: identifier, sampling factors and quantisation table. -/
structure JpegComp where
  id : Nat
  h : Nat
  v : Nat
  tq : Nat
  deriving DecidableEq, Repr

/-- A Huffman table: how many codes there are of each length from 1 to 16, and their symbols in order. -/
structure Huff where
  counts : List Nat
  symbols : List Nat
  deriving DecidableEq, Repr

/-- What the segments before the entropy-coded data say. -/
structure JpegHead where
  width : Nat := 0
  height : Nat := 0
  comps : List JpegComp := []
  /-- Quantisation tables in zigzag order. -/
  quant : List (Nat × List Nat) := []
  /-- Huffman tables by class × 4 + identifier, class 0 for DC and 1 for AC. -/
  huff : List (Nat × Huff) := []
  restart : Nat := 0
  /-- The scan's components: the DC and the AC table of each, in order. -/
  scan : List (Nat × Nat) := []
  /-- The offset of the entropy-coded data in the stream. -/
  dataAt : Nat := 0
  deriving DecidableEq, Repr

/-- A big-endian 16-bit value. -/
def be16 (bs : List Byte) : Nat := beNat (bs.take 2)

/-- The quantisation tables of a DQT segment, of 8-bit entries only. -/
def dqtTables : (fuel : Nat) → List Byte → Option (List (Nat × List Nat))
  | _, [] => some []
  | 0, _ => none
  | f + 1, b :: r =>
    if 16 ≤ b.toNat ∨ 4 ≤ b.toNat % 16 ∨ r.length < 64 then none
    else (dqtTables f (r.drop 64)).map (fun l => (b.toNat % 16, (r.take 64).map (fun x => x.toNat)) :: l)

/-- The Huffman tables of a DHT segment. -/
def dhtTables : (fuel : Nat) → List Byte → Option (List (Nat × Huff))
  | _, [] => some []
  | 0, _ => none
  | f + 1, b :: r =>
    let counts := (r.take 16).map (fun x => x.toNat)
    let n := counts.foldl (· + ·) 0
    if 2 ≤ b.toNat / 16 ∨ 2 ≤ b.toNat % 16 ∨ r.length < 16 + n then none
    else (dhtTables f (r.drop (16 + n))).map (fun l => (b.toNat / 16 * 4 + b.toNat % 16, { counts, symbols := ((r.drop 16).take n).map (fun x => x.toNat) }) :: l)

/-- The components of a frame header's body. -/
def sofComps : (n : Nat) → List Byte → List JpegComp
  | 0, _ => []
  | n + 1, bs =>
    { id := (bs.getD 0 0).toNat, h := (bs.getD 1 0).toNat / 16, v := (bs.getD 1 0).toNat % 16, tq := (bs.getD 2 0).toNat } :: sofComps n (bs.drop 3)

/-- The sampling that R188 supports: the first component 1 × 1, 2 × 1 or 2 × 2, the others 1 × 1. -/
def samplingOk (cs : List JpegComp) : Bool :=
  match cs with
  | [_] => true
  | c :: r => ((c.h == 1 && c.v == 1) || (c.h == 2 && c.v == 1) || (c.h == 2 && c.v == 2)) && r.all (fun x => x.h == 1 && x.v == 1)
  | [] => false

/-- A baseline frame header (SOF0): 8-bit samples, and one component or three. -/
def sofTake (h : JpegHead) (bs : List Byte) : Option JpegHead :=
  let n := (bs.getD 5 0).toNat
  let cs := sofComps n (bs.drop 6)
  if bs.length = 6 + 3 * n ∧ (bs.getD 0 0).toNat = 8 ∧ (n = 1 ∨ n = 3) ∧ 0 < be16 (bs.drop 1) ∧ 0 < be16 (bs.drop 3) ∧ samplingOk cs ∧ h.comps = [] then
    some { h with height := be16 (bs.drop 1), width := be16 (bs.drop 3), comps := cs }
  else none

/-- A scan header (SOS) that names every component of the frame in order, over the whole of the baseline process. -/
def sosTake (h : JpegHead) (bs : List Byte) : Option JpegHead :=
  let n := (bs.getD 0 0).toNat
  let ids := (List.range n).map (fun i => (bs.getD (1 + 2 * i) 0).toNat)
  let tabs := (List.range n).map (fun i => ((bs.getD (2 + 2 * i) 0).toNat / 16, (bs.getD (2 + 2 * i) 0).toNat % 16))
  if bs.length = 4 + 2 * n ∧ h.comps ≠ [] ∧ ids = h.comps.map (fun c => c.id) ∧ (bs.drop (1 + 2 * n)).map (fun b => b.toNat) = [0, 63, 0] then
    some { h with scan := tabs }
  else none

/-- The headers of an interchange stream from a marker on, at an offset: none where the stream uses a feature that R188 does not support, or its
headers cannot be read. -/
def jpegHeaders : (fuel : Nat) → (at_ : Nat) → JpegHead → List Byte → Option JpegHead
  | 0, _, _, _ => none
  | f + 1, o, h, bs =>
    match bs with
    | 0xFF :: m :: r =>
      let k := m.toNat
      if k = 0xFF then jpegHeaders f (o + 1) h (m :: r)
      else if k = 0x01 ∨ (0xD0 ≤ k ∧ k ≤ 0xD8) then jpegHeaders f (o + 2) h r
      else
        let len := be16 r
        let body := (r.drop 2).take (len - 2)
        let on (h' : JpegHead) : Option JpegHead := jpegHeaders f (o + 2 + len) h' (r.drop len)
        if len < 2 ∨ r.length < len then none
        else if (0xE0 ≤ k ∧ k ≤ 0xEF) ∨ k = 0xFE then on h
        else if k = 0xDB then (dqtTables body.length body).bind (fun l => on { h with quant := l.reverse ++ h.quant })
        else if k = 0xC4 then (dhtTables body.length body).bind (fun l => on { h with huff := l.reverse ++ h.huff })
        else if k = 0xC0 then (sofTake h body).bind on
        else if k = 0xDD then (if len = 4 then on { h with restart := be16 body } else none)
        else if k = 0xDA then (sosTake h body).map (fun h' => { h' with dataAt := o + 2 + len })
        else none
    | _ => none

-- THE ENTROPY-CODED DATA

/-- A restart interval's data: each byte with its offset in the stream, the offset of the marker that ends it, and the number of that RST marker,
where it is one. -/
structure JpegInterval where
  bytes : List (Nat × Nat)
  endAt : Nat
  rst : Option Nat
  deriving DecidableEq, Repr

/-- The intervals of the entropy-coded data from an offset on: a zero after FF is stuffing, RST0 to RST7 end an interval, and any other marker, or
the end of the stream, ends the last one. -/
def jpegIntervals : (fuel : Nat) → (at_ : Nat) → (cur : List (Nat × Nat)) → List Byte → List JpegInterval
  | 0, o, cur, _ => [{ bytes := cur.reverse, endAt := o, rst := none }]
  | _, o, cur, [] => [{ bytes := cur.reverse, endAt := o, rst := none }]
  | f + 1, o, cur, b :: r =>
    if b ≠ 0xFF then jpegIntervals f (o + 1) ((o, b.toNat) :: cur) r
    else
      match r with
      | m :: r' =>
        if m = 0 then jpegIntervals f (o + 2) ((o, 0xFF) :: cur) r'
        else if m = 0xFF then jpegIntervals f (o + 1) cur r
        else if 0xD0 ≤ m.toNat ∧ m.toNat ≤ 0xD7 then { bytes := cur.reverse, endAt := o, rst := some (m.toNat - 0xD0) } :: jpegIntervals f (o + 2) [] r'
        else [{ bytes := cur.reverse, endAt := o, rst := none }]
      | [] => [{ bytes := cur.reverse, endAt := o, rst := none }]

/-- The scan ends at a DNL marker, which R188 does not support. -/
def endsAtDnl (bs : List Byte) (ivs : List JpegInterval) : Bool :=
  match ivs.getLast? with
  | some v => bs.getD v.endAt 0 == 0xFF && bs.getD (v.endAt + 1) 0 == 0xDC
  | none => false

/-- A reader of bits: the byte in hand with how many of its bits are left and its offset, and the bytes after it. -/
structure BitSrc where
  cur : Nat
  left : Nat
  at_ : Nat
  rest : List (Nat × Nat)
  deriving DecidableEq, Repr

/-- The next bit. -/
def BitSrc.bit (b : BitSrc) : Option (Nat × BitSrc) :=
  if b.left = 0 then
    match b.rest with
    | (o, x) :: r => some (x / 128, { cur := x, left := 7, at_ := o, rest := r })
    | [] => none
  else some (b.cur / 2 ^ (b.left - 1) % 2, { b with left := b.left - 1 })

/-- The next n bits as a number (RECEIVE). -/
def BitSrc.bits : (n : Nat) → (acc : Nat) → BitSrc → Option (Nat × BitSrc)
  | 0, acc, b => some (acc, b)
  | n + 1, acc, b =>
    match b.bit with
    | some (x, b') => BitSrc.bits n (2 * acc + x) b'
    | none => none

/-- A symbol read by a Huffman table's counts from a length on: the code so far, the first code of the length and the index of its symbol. -/
def huffRead (symbols : List Nat) : (counts : List Nat) → (code first index : Nat) → BitSrc → Option (Nat × BitSrc)
  | [], _, _, _, _ => none
  | n :: l, code, first, index, b =>
    match b.bit with
    | none => none
    | some (x, b') =>
      let c := 2 * code + x
      if first ≤ c ∧ c < first + n then (symbols[index + (c - first)]?).map (fun s => (s, b')) else huffRead symbols l c (2 * (first + n)) (index + n) b'

/-- The next symbol of a table. -/
def Huff.next (t : Huff) (b : BitSrc) : Option (Nat × BitSrc) := huffRead t.symbols t.counts 0 0 0 b

/-- A value of so many additional bits (EXTEND). -/
def jpegExtend (n x : Nat) : Int := if n = 0 then 0 else if x < 2 ^ (n - 1) then (x : Int) - (2 ^ n - 1 : Nat) else x

/-- The place of zigzag position k: 8 × vertical + horizontal frequency. -/
def zigzag : List Nat :=
  [0, 1, 8, 16, 9, 2, 3, 10, 17, 24, 32, 25, 18, 11, 4, 5, 12, 19, 26, 33, 40, 48, 41, 34, 27, 20, 13, 6, 7, 14, 21, 28,
   35, 42, 49, 56, 57, 50, 43, 36, 29, 22, 15, 23, 30, 37, 44, 51, 58, 59, 52, 45, 38, 31, 39, 46, 53, 60, 61, 54, 47, 55, 62, 63]

/-- The place of zigzag position k in a block F[u][v], u, the horizontal frequency, major. -/
def blockPlace (k : Nat) : Nat :=
  let z := zigzag.getD k 0
  8 * (z % 8) + z / 8

/-- The AC coefficients of a block from zigzag position k on. -/
def jpegAc (t : Huff) (q : List Nat) : (fuel : Nat) → (k : Nat) → List Int → BitSrc → Option (List Int × BitSrc)
  | 0, _, blk, b => some (blk, b)
  | f + 1, k, blk, b =>
    if 64 ≤ k then some (blk, b)
    else
      match t.next b with
      | none => none
      | some (rs, b) =>
        let r := rs / 16
        let n := rs % 16
        if n = 0 then (if r = 15 then jpegAc t q f (k + 16) blk b else if r = 0 then some (blk, b) else none)
        else if 64 ≤ k + r ∨ 10 < n then none
        else
          match BitSrc.bits n 0 b with
          | none => none
          | some (x, b) => jpegAc t q f (k + r + 1) (blk.set (blockPlace (k + r)) (jpegExtend n x * q.getD (k + r) 0)) b

/-- One block: its dequantised coefficients and its DC value before dequantisation, given the DC value predicted. -/
def jpegBlock (dc ac : Huff) (q : List Nat) (pred : Int) (b : BitSrc) : Option (List Int × Int × BitSrc) :=
  match dc.next b with
  | none => none
  | some (n, b) =>
    if 11 < n then none
    else
      match BitSrc.bits n 0 b with
      | none => none
      | some (x, b) =>
        let v := pred + jpegExtend n x
        (jpegAc ac q 64 1 ((List.replicate 64 (0 : Int)).set 0 (v * q.getD 0 0)) b).map (fun r => (r.1, v, r.2))

/-- The blocks of an MCU: each with its component. -/
def JpegHead.blocks (h : JpegHead) : List Nat :=
  match h.comps with
  | [_] => [0]
  | c :: _ => List.replicate (c.h * c.v) 0 ++ [1, 2]
  | [] => []

/-- The blocks of one MCU, from the predicted DC values of the components. -/
def jpegMcu (h : JpegHead) : (comps : List Nat) → List Int → BitSrc → Option (List (List Int) × List Int × BitSrc)
  | [], pred, b => some ([], pred, b)
  | c :: l, pred, b =>
    let t := h.scan.getD c (0, 0)
    match h.huff.find? (fun x => x.1 == t.1), h.huff.find? (fun x => x.1 == 4 + t.2), h.quant.find? (fun x => x.1 == (h.comps.getD c ⟨0, 1, 1, 0⟩).tq) with
    | some dc, some ac, some q =>
      match jpegBlock dc.2 ac.2 q.2 (pred.getD c 0) b with
      | some (blk, v, b) => (jpegMcu h l (pred.set c v) b).map (fun r => (blk :: r.1, r.2.1, r.2.2))
      | none => none
    | _, _, _ => none

/-- The MCUs of an interval, at most so many: the blocks of each, and the offset of the last byte it takes bits of. -/
def jpegMcus (h : JpegHead) : (n : Nat) → List Int → BitSrc → List (List (List Int) × Nat)
  | 0, _, _ => []
  | n + 1, pred, b =>
    match jpegMcu h h.blocks pred b with
    | some (blks, pred, b) => (blks, b.at_) :: jpegMcus h n pred b
    | none => []

-- THE IMAGE

/-- A decoded restart interval: its first MCU and how many it should hold, the offsets that bound it, and the MCUs decoded. -/
structure JpegPart where
  first : Nat
  count : Nat
  from_ : Nat
  endAt : Nat
  mcus : List (List (List Int) × Nat)
  deriving DecidableEq, Repr

/-- What decoding makes of an interchange stream (R188). -/
structure JpegScan where
  width : Nat
  height : Nat
  /-- 1 or 3. -/
  components : Nat
  /-- Sampling factors H and V of the first component. -/
  h : Nat
  v : Nat
  /-- The restart interval in MCUs; 0 without one. -/
  restart : Nat
  parts : List JpegPart
  deriving DecidableEq, Repr

/-- MCUs across an image, and down it. -/
def JpegScan.mcusX (j : JpegScan) : Nat := (j.width + 8 * j.h - 1) / (8 * j.h)
def JpegScan.mcusY (j : JpegScan) : Nat := (j.height + 8 * j.v - 1) / (8 * j.v)

/-- The intervals placed in the image: each begins after the RST of the one before, whose number modulo 8 is its index, so a lost RST leaves a
place without an interval. -/
def jpegPlace (h : JpegHead) (all : Nat) : (i from_ : Nat) → List JpegInterval → List JpegPart
  | _, _, [] => []
  | i, o, v :: l =>
    let first := i * h.restart
    if all ≤ first then []
    else
      let count := if h.restart = 0 then all else min h.restart (all - first)
      { first, count, from_ := o, endAt := v.endAt, mcus := jpegMcus h count [0, 0, 0] { cur := 0, left := 0, at_ := o, rest := v.bytes } } ::
        (match v.rst with
         | some n => if h.restart = 0 then [] else jpegPlace h all (i + 1 + (n + 8 - i % 8) % 8) (v.endAt + 2) l
         | none => [])

/-- The decoded image of an interchange stream; none where it uses a feature that R188 does not support, or is larger than 8,192 × 8,192. -/
def jpegScan (bs : List Byte) : Option JpegScan :=
  if bs.take 2 ≠ [0xFF, 0xD8] then none
  else
    match jpegHeaders bs.length 2 {} (bs.drop 2) with
    | none => none
    | some h =>
      let c := match h.comps with
        | [_] => (1, 1)
        | c :: _ => (c.h, c.v)
        | [] => (1, 1)
      let j : JpegScan := { width := h.width, height := h.height, components := h.comps.length, h := c.1, v := c.2, restart := h.restart, parts := [] }
      let ivs := jpegIntervals bs.length h.dataAt [] (bs.drop h.dataAt)
      if 8192 < h.width ∨ 8192 < h.height ∨ endsAtDnl bs ivs then none
      else some { j with parts := jpegPlace h (j.mcusX * j.mcusY) 0 h.dataAt ivs }

/-- The MCU that a byte of the stream belongs to: the first one that takes bits at or after it, or the first that its interval does not give. -/
def JpegScan.mcuAt (j : JpegScan) (offset : Nat) : Nat :=
  match j.parts.find? (fun p => decide (offset ≤ p.endAt)) with
  | some p =>
    match (p.mcus.zipIdx).find? (fun m => decide (offset ≤ m.1.2)) with
    | some m => p.first + m.2
    | none => min (p.first + p.mcus.length) (p.first + p.count - 1)
  | none => j.mcusX * j.mcusY

/-- The MCUs damaged by damage at MCU m: up to the next RST marker, or to the end (R200). -/
def JpegScan.damageFrom (j : JpegScan) (m : Nat) : Nat × Nat :=
  let all := j.mcusX * j.mcusY
  let e := if j.restart = 0 then all else min all ((m / j.restart + 1) * j.restart)
  (m, e - m)

/-- The blocks of an MCU, where the stream gives them. -/
def JpegScan.mcu (j : JpegScan) (m : Nat) : Option (List (List Int)) :=
  match j.parts.find? (fun p => decide (p.first ≤ m) && decide (m < p.first + p.count)) with
  | some p => (p.mcus[m - p.first]?).map (fun x => x.1)
  | none => none

/-- MCUs that the stream does not give: the first one, how many, and the offsets between which the loss lies. -/
structure JpegGap where
  first : Nat
  count : Nat
  from_ : Nat
  to_ : Nat
  deriving DecidableEq, Repr

/-- The MCUs that no interval gives: those after the failure of one, those of a lost one, and those after the last.  The interval before stands
between two offsets. -/
def jpegGaps (all : Nat) : (next from_ to_ : Nat) → List JpegPart → List JpegGap
  | next, a, _, [] => if next < all then [{ first := next, count := all - next, from_ := a, to_ := 2 ^ 32 }] else []
  | next, a, b, p :: l =>
    (if next < p.first then [{ first := next, count := p.first - next, from_ := a, to_ := b }] else []) ++
      (if p.mcus.length < p.count then [{ first := p.first + p.mcus.length, count := p.count - p.mcus.length, from_ := p.from_, to_ := p.endAt }] else []) ++
      jpegGaps all (p.first + p.count) p.from_ p.endAt l

def JpegScan.gaps (j : JpegScan) : List JpegGap := jpegGaps (j.mcusX * j.mcusY) 0 0 0 j.parts

end Sys2Proof.Machine
end

