-- ==== Sys2Proof/Machine/SieveBase.lean ====
section
/-! DEFINITION. What decoding and conversion compute: samples, tensors, row masks and the output slot's layout
(05_decode_and_steering.md). -/

namespace Sys2Proof.Machine

/-- A SIEVE_STRM_ register of stream k. -/
def kSv (k off : Nat) : Nat := 0x21000 + 64 * k + off
def fSieveRejected : Fld := ⟨0x20000, 0, 1⟩
def kSieveOverflow : Nat := 0x20008
def fDamageLimit (k : Nat) : Fld := ⟨kSv k 0, 24, 8⟩
def fFormat (k : Nat) : Fld := ⟨kSv k 0, 16, 3⟩
def fCfa (k : Nat) : Fld := ⟨kSv k 0, 12, 2⟩
def fLayout (k : Nat) : Fld := ⟨kSv k 0, 10, 2⟩
def fPred (k : Nat) : Fld := ⟨kSv k 0, 8, 1⟩
def fScheme (k : Nat) : Fld := ⟨kSv k 0, 4, 4⟩
def fDecode (k : Nat) : Fld := ⟨kSv k 0, 0, 2⟩
def fBlack (k c : Nat) : Fld := ⟨kSv k (4 + 4 * (c / 2)), 16 * (c % 2), 16⟩
def fGain (k c : Nat) : Fld := ⟨kSv k (0xC + 4 * (c / 2)), 16 * (c % 2), 16⟩
def fWfLog2 (k : Nat) : Fld := ⟨kSv k 0x14, 0, 2⟩
def fRoiMax (k : Nat) : Fld := ⟨kSv k 0x18, 27, 5⟩
def fOutH (k : Nat) : Fld := ⟨kSv k 0x18, 16, 11⟩
def fOutW (k : Nat) : Fld := ⟨kSv k 0x18, 0, 11⟩
def kList (k : Nat) : Nat := kSv k 0x1C
def fRangeExp (k : Nat) : Fld := ⟨kSv k 0x24, 16, 8⟩
def fEcho (k : Nat) : Fld := ⟨kSv k 0x24, 8, 3⟩
def fRmode (k : Nat) : Fld := ⟨kSv k 0x24, 0, 2⟩
def fImgRows (k : Nat) : Fld := ⟨kSv k 0x28, 16, 16⟩
def fImgCols (k : Nat) : Fld := ⟨kSv k 0x28, 0, 16⟩
def kAz0 (k : Nat) : Nat := kSv k 0x2C
def kEl0 (k : Nat) : Nat := kSv k 0x30
def fElStep (k : Nat) : Fld := ⟨kSv k 0x34, 16, 16⟩
def fAzStep (k : Nat) : Fld := ⟨kSv k 0x34, 0, 16⟩
def fListSeq (k : Nat) : Fld := ⟨kSv k 0x38, 16, 16⟩
def fListExpired (k : Nat) : Fld := ⟨kSv k 0x38, 8, 1⟩
def fListCount (k : Nat) : Fld := ⟨kSv k 0x38, 0, 8⟩
/-- A Sieve counter of stream k: 0 ROI_DROP, 1 LIST_REJ, 2 CONCEALED, 3 SAT, 4 OUTSIDE. -/
def kSvCnt (k i : Nat) : Nat := 0x22000 + 32 * k + 4 * i

/-- DECODE: 0 RAW, 1 COMPRESSED, 2 JPEG. -/
def State.decodeMode (s : State) (k : Nat) : Nat := s.get (fDecode k)

/-- LAYOUT BAYER4. -/
def State.isBayer (s : State) (k : Nat) : Bool := s.get (fLayout k) == 1

/-- Channels of a layout; a one-component JPEG uses MONO. -/
def channelsOf (layout : Nat) : Nat := if layout = 1 then 4 else if layout = 2 then 3 else 1

/-- Width n of a sample (05, Decoding). -/
def State.sampleBits (s : State) (k : Nat) : Nat :=
  if s.decodeMode k = 1 then (if s.get (fScheme k) < 3 then 10 else 12)
  else if s.decodeMode k = 2 then 8
  else
    match s.get (fSrcDt k) with
    | 0x2B => 10
    | 0x2C => 12
    | 0x2D => 14
    | 0x2E => 16
    | 0x2F => 20
    | _ => 8

/-- Bits of a pixel on the CSI-2 link. -/
def State.lineBits (s : State) (k : Nat) : Nat :=
  if s.decodeMode k = 1 then
    match s.get (fScheme k) with
    | 0 => 8
    | 1 => 7
    | 2 => 6
    | 3 => 8
    | 4 => 7
    | 5 => 6
    | _ => 10
  else if s.get (fSrcDt k) = 0x1E then 16
  else if s.get (fSrcDt k) = 0x24 then 24
  else s.sampleBits k

/-- Payload bytes of a line of the stream's geometry (0x1106). -/
def State.lineBytes (s : State) (k : Nat) : Nat := (s.get (fGeomW k) * s.lineBits k + 7) / 8

-- UNPACKING

/-- RAW12: two pixels in three bytes. -/
def unpack12 : List Byte → List Nat
  | a :: b :: e :: r => (a.toNat * 16 + bitsAt e.toNat 0 4) :: (b.toNat * 16 + bitsAt e.toNat 4 4) :: unpack12 r
  | _ => []

/-- RAW14: four pixels in seven bytes. -/
def unpack14 : List Byte → List Nat
  | a :: b :: c :: d :: e :: f :: g :: r =>
    let low := leNat [e, f, g]
    (a.toNat * 64 + bitsAt low 0 6) :: (b.toNat * 64 + bitsAt low 6 6) :: (c.toNat * 64 + bitsAt low 12 6) ::
      (d.toNat * 64 + bitsAt low 18 6) :: unpack14 r
  | _ => []

/-- YUV422 8-bit: U Y V Y; three samples per pixel, the chroma replicated. -/
def unpackYuv : List Byte → List Nat
  | u :: y0 :: v :: y1 :: r => y0.toNat :: u.toNat :: v.toNat :: y1.toNat :: u.toNat :: v.toNat :: unpackYuv r
  | _ => []

/-- RGB888: bytes B G R; samples R, G, B. -/
def unpackRgb : List Byte → List Nat
  | b :: g :: x :: r => x.toNat :: g.toNat :: b.toNat :: unpackRgb r
  | _ => []

/-- Samples of one pixel in a decoded line. -/
def State.perPixel (s : State) (k : Nat) : Nat :=
  if s.decodeMode k = 0 ∧ (s.get (fSrcDt k) = 0x1E ∨ s.get (fSrcDt k) = 0x24) then 3 else 1

/-- The samples of a camera line (05, Decoding; R187). -/
def State.decodeLine (s : State) (k : Nat) (bs : List Byte) : List Nat :=
  if s.decodeMode k = 1 then csiDecompress (s.get (fScheme k)) (s.get (fPred k) + 1) bs
  else
    match s.get (fSrcDt k) with
    | 0x1E => unpackYuv bs
    | 0x24 => unpackRgb bs
    | 0x2A => bs.map (fun b => b.toNat)
    | 0x2B => unpack10 bs
    | 0x2C => unpack12 bs
    | 0x2D => unpack14 bs
    | dt => Config.csiUnpack dt bs

-- JPEG

/-- m[x][u] of R189. [log 23: DEDUCED, unsafe] -/
def idctM : List (List Int) :=
  [[2896, 4017, 3784, 3406, 2896, 2276, 1567, 799], [2896, 3406, 1567, -799, -2896, -4017, -3784, -2276],
   [2896, 2276, -1567, -4017, -2896, 799, 3784, 3406], [2896, 799, -3784, -2276, 2896, 3406, -1567, -4017],
   [2896, -799, -3784, 2276, 2896, -3406, -1567, 4017], [2896, -2276, -1567, 4017, -2896, -799, 3784, -3406],
   [2896, -3406, 1567, 799, -2896, 4017, -3784, 2276], [2896, -4017, 3784, -3406, 2896, -2276, 1567, -799]]

def idctCoef (x u : Nat) : Int := (idctM.getD x []).getD u 0

/-- The sum of eight terms. -/
def sum8 (f : Nat → Int) : Int := (List.range 8).foldl (fun a i => a + f i) 0

/-- t[x][v] of R189. -/
def idctT (f : List Int) (x v : Nat) : Int := (sum8 (fun u => idctCoef x u * f.getD (8 * u + v) 0) + 256) / 512

/-- sample[x][y] of R189. -/
def idctSample (f : List Int) (x y : Nat) : Nat :=
  let q := (sum8 (fun v => idctCoef y v * idctT f x v) + 65536) / 131072
  (max 0 (min 255 (q + 128))).toNat

/-- The decoded sample of component c at pixel (x, y), chroma replicated (R188). -/
def JpegScan.pixel (j : JpegScan) (c x y : Nat) : Nat :=
  let blks := (j.mcu (y / (8 * j.v) * j.mcusX + x / (8 * j.h))).getD []
  if c = 0 then idctSample (blks.getD (y / 8 % j.v * j.h + x / 8 % j.h) []) (x % 8) (y % 8)
  else idctSample (blks.getD (j.h * j.v + c - 1) []) (x / j.h % 8) (y / j.v % 8)

/-- The sample with damaged MCUs concealed: from the MCU above, 128 in the first MCU row (R200). -/
def JpegScan.concealed (j : JpegScan) (bad : Nat → Bool) (c x : Nat) : (fuel : Nat) → Nat → Nat
  | 0, _ => 128
  | n + 1, y =>
    let my := y / (8 * j.v)
    if bad (my * j.mcusX + x / (8 * j.h)) then (if my = 0 then 128 else j.concealed bad c x n (y - 8 * j.v)) else j.pixel c x y

-- CONVERSION

/-- The sample with black level and gain applied, q and r of R190. -/
def convR (black gain n p : Nat) : Nat := min (((p - black) * gain + 2048) / 4096) (2 ^ n - 1)

/-- r as 16 bits (R190). -/
def conv16 (n r : Nat) : Nat := if n = 20 then r / 16 else r * 2 ^ (16 - n)

/-- The element of a format (R190): 0 UINT8, 1 INT8, 2 FP16, 3 BF16. -/
def convElem (format n r : Nat) : List Byte :=
  let r16 := conv16 n r
  let u8 := min ((r16 + 128) / 256) 255
  match format with
  | 0 => leBytes 1 u8
  | 1 => leBytes 1 ((u8 + 128) % 256)
  | 2 => leBytes 2 (fp16.round (.num false r16 (-16)))
  | _ => leBytes 2 (bf16.round (.num false r16 (-16)))

/-- Bytes of an element of a format. -/
def elemSize (format : Nat) : Nat := if format < 2 then 1 else 2

/-- A decoded camera frame ready for conversion: its lines, their samples per pixel, which lines are concealed. -/
structure Picture where
  lines : List (List Nat)
  per : Nat
  concealed : List Bool
  bits : Nat
  deriving DecidableEq, Repr

/-- Offset in its quad of a channel, R, Gr, Gb, B, in phase cfa. -/
def bayerAt (cfa c : Nat) : Nat × Nat :=
  let rx := cfa % 2
  let ry := cfa / 2
  (if c % 2 = 0 then rx else 1 - rx, if c < 2 then ry else 1 - ry)

/-- The sample of channel c at a grid point; where the frame gives none, one that nothing but the place fixes, so that equal payload, damage,
configuration and list give equal tensors (R192). -/
def Picture.sample (pic : Picture) (layout cfa c x y : Nat) : Nat :=
  let open_ := Config.openSample layout c x y % 2 ^ pic.bits
  let at_ (x y i : Nat) := ((pic.lines.getD y []).getD (x * pic.per + i) open_)
  if layout = 1 then at_ (2 * x + (bayerAt cfa c).1) (2 * y + (bayerAt cfa c).2) 0
  else if layout = 2 then (if c < pic.per then at_ x y c else open_)
  else at_ x y 0

/-- What turns a picture into tensors: the stream's settings. -/
structure Conv where
  layout : Nat
  cfa : Nat
  format : Nat
  /-- Width and height of the grid. -/
  gw : Nat
  gh : Nat
  black : List Nat
  gain : List Nat
  deriving DecidableEq, Repr

/-- The settings of stream k for a frame of W × H pixels (05, Conversion to tensors). -/
def State.conv (s : State) (k : Nat) : Conv :=
  let l := s.get (fLayout k)
  let w := s.get (fGeomW k)
  let h := s.get (fGeomH k)
  { layout := l, cfa := s.get (fCfa k), format := s.get (fFormat k), gw := if l = 1 then w / 2 else w,
    gh := if l = 1 then h / 2 else h, black := (List.range 4).map (fun c => s.get (fBlack k c)),
    gain := (List.range 4).map (fun c => s.get (fGain k c)) }

/-- r at a grid point, positions beyond the last row or column taking its value (R190, R191). -/
def Conv.r (v : Conv) (pic : Picture) (c x y : Nat) : Nat :=
  convR (v.black.getD c 0) (v.gain.getD c 0) pic.bits (pic.sample v.layout v.cfa c (min x (v.gw - 1)) (min y (v.gh - 1)))

/-- The mean of the S × S block at a grid point, S = 2^l (R191). -/
def Conv.mean (v : Conv) (pic : Picture) (l c x y : Nat) : Nat :=
  let n := 2 ^ l
  ((List.range n).foldl (fun a j => (List.range n).foldl (fun a i => a + v.r pic c (x + i) (y + j)) a) 0 + n * n / 2) / (n * n)

/-- Bytes up to the next multiple of m. -/
def alignUp (m a : Nat) : Nat := (a + m - 1) / m * m

/-- Bytes padded with zeros to a multiple of 64 (R185). -/
def padRow (bs : List Byte) : List Byte := bs ++ List.replicate (alignUp 64 bs.length - bs.length) 0

/-- An image output's bytes: channel-planar, rows padded (R185). -/
def Conv.image (v : Conv) (pic : Picture) (l x0 y0 w h : Nat) : List Byte :=
  (List.range (channelsOf v.layout)).flatMap (fun c => (List.range h).flatMap (fun j =>
    padRow ((List.range w).flatMap (fun i => convElem v.format pic.bits (v.mean pic l c (x0 + i * 2 ^ l) (y0 + j * 2 ^ l))))))

/-- Bytes of an image output. -/
def imageSize (channels elem w h : Nat) : Nat := channels * h * alignUp 64 (w * elem)

/-- A grid row takes from a concealed line. -/
def Conv.rowBad (v : Conv) (pic : Picture) (y : Nat) : Bool :=
  let g := min y (v.gh - 1)
  if v.layout = 1 then pic.concealed.getD (2 * g) false || pic.concealed.getD (2 * g + 1) false else pic.concealed.getD g false

/-- Bits as bytes, bit (v mod 8) of byte v / 8. -/
def bitBytes (bits : List Bool) : List Byte :=
  (List.range ((bits.length + 7) / 8)).map (fun i =>
    BitVec.ofNat 8 ((List.range 8).foldl (fun a b => a + b2n (bits.getD (8 * i + b) false) * 2 ^ b) 0))

/-- The row mask's bits (R186). -/
def Conv.rowMask (v : Conv) (pic : Picture) (l y0 h : Nat) : List Bool :=
  (List.range h).map (fun j => (List.range (2 ^ l)).any (fun i => v.rowBad pic (y0 + j * 2 ^ l + i)))

-- THE SLOT

/-- A placed output and its descriptor's fields (R183). -/
structure Placed where
  kind : Nat
  roiId : Nat := 0xFF
  format : Nat
  flags : Nat := 0
  offset : Nat
  w : Nat
  h : Nat
  c : Nat
  scale : Nat := 1
  rangeExp : Nat := 0
  x0 : Nat := 0
  y0 : Nat := 0
  maskOffset : Nat := 0
  tag : Nat := 0
  bytes : List Byte
  mask : List Byte := []
  deriving DecidableEq, Repr

/-- A descriptor's 32 bytes (R183). -/
def Placed.descriptor (p : Placed) : List Byte :=
  leBytes 1 p.kind ++ leBytes 1 p.roiId ++ leBytes 1 p.format ++ leBytes 1 p.flags ++ leBytes 4 p.offset ++ leBytes 2 p.w ++
    leBytes 2 p.h ++ leBytes 2 p.c ++ leBytes 1 p.scale ++ leBytes 1 p.rangeExp ++ leBytes 4 p.x0 ++ leBytes 4 p.y0 ++
    leBytes 4 p.maskOffset ++ leBytes 2 p.tag ++ leBytes 2 0

/-- The first byte after the output and its row mask. -/
def Placed.end_ (p : Placed) : Nat := if p.maskOffset = 0 then p.offset + p.bytes.length else p.maskOffset + p.mask.length

/-- A damage entry's 8 bytes (R202). -/
def Damage.bytes (d : Damage) : List Byte :=
  leBytes 2 d.code ++ leBytes 1 d.kind ++ leBytes 1 d.flags ++ leBytes 2 d.first ++ leBytes 2 d.count

/-- An image output at an offset: the picture's grid from (gx, gy) on, decimated by 2^l to w × h elements (R185, R186). -/
def Conv.place (v : Conv) (pic : Picture) (offset l gx gy w h : Nat) : Placed :=
  let bits := v.rowMask pic l gy h
  let bytes := v.image pic l gx gy w h
  let q := if v.layout = 1 then 2 else 1
  { kind := 1, format := v.format, flags := b2n (bits.any id), offset, w, h, c := channelsOf v.layout, scale := 2 ^ l,
    x0 := q * gx, y0 := q * gy, maskOffset := alignUp 256 (offset + bytes.length), bytes, mask := bitBytes bits }

/-- Elements across a decimated grid. -/
def decimated (n l : Nat) : Nat := (n + 2 ^ l - 1) / 2 ^ l

/-- The whole-frame view (R205). -/
def Conv.whole (v : Conv) (pic : Picture) (l : Nat) : Placed := v.place pic 4096 l 0 0 (decimated v.gw l) (decimated v.gh l)

/-- The first byte after the whole-frame view and its row mask in a slot (R219). -/
def Conv.wholeEnd (v : Conv) (l : Nat) : Nat :=
  alignUp 256 (4096 + imageSize (channelsOf v.layout) (elemSize v.format) (decimated v.gw l) (decimated v.gh l)) +
    (decimated v.gh l + 7) / 8

/-- The top-left grid coordinate of a region, and whether clamping moved it (R214). -/
def clampRegion (centre covered grid : Nat) : Nat × Bool :=
  let t : Int := (centre : Int) - ((covered / 2 : Nat) : Int)
  let c : Int := max 0 (min t ((grid - covered : Nat) : Int))
  (c.toNat, c != t)

/-- What laying out the regions has reached: the end of what is placed, the outputs, the mask of dropped entries, and
whether space has run out (R215, R217). -/
structure Laying where
  at_ : Nat
  outs : List Placed
  dropped : List Nat
  full : Bool
  deriving DecidableEq, Repr

/-- Region i placed, or dropped (R214 to R217). -/
def Conv.layRegion (v : Conv) (pic : Picture) (outW outH slotBytes : Nat) (i : Nat) (reg : Region) (l : Laying) : Laying :=
  let cw := outW * 2 ^ reg.scaleLog2
  let ch := outH * 2 ^ reg.scaleLog2
  if l.full then { l with dropped := l.dropped ++ [i] }
  else if v.gw < cw ∨ v.gh < ch then { l with dropped := l.dropped ++ [i] }
  else
    let q := if v.layout = 1 then 2 else 1
    let x := clampRegion (reg.cx / q) cw v.gw
    let y := clampRegion (reg.cy / q) ch v.gh
    let p := v.place pic (alignUp 256 l.at_) reg.scaleLog2 x.1 y.1 outW outH
    let p := { p with kind := 2, roiId := i, flags := p.flags + 4 * b2n (x.2 || y.2), tag := reg.tag }
    if slotBytes < p.end_ then { l with dropped := l.dropped ++ [i], full := true }
    else { l with at_ := p.end_, outs := l.outs ++ [p] }

/-- The regions of a list, in ascending index. -/
def Conv.layRegions (v : Conv) (pic : Picture) (outW outH slotBytes : Nat) : Nat → List Region → Laying → Laying
  | _, [], l => l
  | i, r :: rs, l => v.layRegions pic outW outH slotBytes (i + 1) rs (v.layRegion pic outW outH slotBytes i r l)

end Sys2Proof.Machine
end

