-- ==== Sys2Proof/Machine/Sieve.lean ====
section
/-! DEFINITION. The decode stage and the Sieve: region lists, decoding a line, completing a frame (05_decode_and_steering.md). -/

namespace Sys2Proof.Machine

-- REGION LISTS

/-- A region of a list's entry (R207). -/
def regionOf (e : List Byte) : Region :=
  { cx := leNat (e.take 4), cy := leNat ((e.drop 4).take 4), scaleLog2 := leNat ((e.drop 8).take 1), tag := leNat ((e.drop 10).take 2) }

/-- Items of n bytes, m of them. -/
def chunks (n : Nat) : Nat → List Byte → List (List Byte)
  | 0, _ => []
  | m + 1, bs => bs.take n :: chunks n m (bs.drop n)

/-- The region list that bytes spell, if its magic, CRC, COUNT, TTL, SCALE_LOG2 and SEQ are valid (R207, R210). -/
def listOf (roiMax : Nat) (bs : List Byte) : Option RegionList :=
  let count := leNat ((bs.drop 8).take 1)
  let ttl := leNat ((bs.drop 9).take 1)
  let seq := leNat ((bs.drop 12).take 4)
  let body := (bs.drop 32).take (16 * count)
  let regions := (chunks 16 count body).map regionOf
  if leNat (bs.take 4) = 0x31494F52 ∧ count ≤ roiMax ∧ 1 ≤ ttl ∧ ttl ≤ 15 ∧ seq ≠ 0 ∧
      leNat ((bs.drop 28).take 4) = crc32c (bs.take 28 ++ body) ∧ regions.all (fun r => decide (r.scaleLog2 ≤ 3)) then
    some { seq, forFrame := BitVec.ofNat 32 (leNat ((bs.drop 4).take 4)), ttl, regions }
  else none

/-- The list in force, if any, applies to frame n: with frames enabled by its age, else for its first TTL frames, of which
this is the one of number `use` (R212). -/
def RegionList.applies (l : RegionList) (framesOn : Bool) (n : Word) (use : Nat) : Bool :=
  if framesOn then decide (0 ≤ (n - l.forFrame).toInt) && decide ((n - l.forFrame).toInt ≤ (l.ttl : Int) - 1)
  else decide (use ≤ l.ttl)

/-- The frame with the region list that applies to it (R208, R212, R213). -/
def State.listFor (s : State) (k : Nat) (f : MFrame) (use : Nat) : MFrame :=
  let st := s.strm k
  let n : Word := BitVec.ofNat 32 f.frameNo
  let l := if s.flag fFrameEn then
      (match st.listAt.find? (fun e => e.1 == n) with
       | some e => e.2
       | none => st.list)
    else st.list
  match l with
  | some r => if r.applies (s.flag fFrameEn) n use then { f with list := some r, listExpired := false }
              else { f with list := none, listExpired := true }
  | none => { f with list := none, listExpired := false }

/-- The frames of the latest boundary that have begun before its read use the list in force after it (R208). -/
def State.rebindLists (s : State) (k : Nat) : State :=
  let st := s.strm k
  let n := s.reg kFrameNum
  let bind (f : MFrame) : MFrame := if !f.closed && BitVec.ofNat 32 f.frameNo == n then s.listFor k f st.listUses else f
  s.setStrm k { st with frames := st.frames.map bind }

/-- The list in force after a read at a boundary is what frames of that boundary use; with frames disabled the frame that has
just begun uses it (R208, R209); SIEVE_STRM_LIST_STATE.EXPIRED is the newest frame's. -/
def State.listInForce (s : State) (k : Nat) : State :=
  let st := s.strm k
  let s := if s.flag fFrameEn then (s.setStrm k { st with listAt := ((s.reg kFrameNum, st.list) :: st.listAt).take 4 }).rebindLists k
    else
      let s := s.setStrm k { st with listDue := false }
      match s.receiving k with
      | some f => s.setReceiving k (s.listFor k f st.listUses)
      | none => s
  match (s.strm k).frames.getLast? with
  | some f => s.put (fListExpired k) (b2n f.listExpired)
  | none => s

/-- A read of the list of stream k is due: once at each boundary, or with frames disabled at each Frame Start (R208, R209). -/
def State.listReadDue (s : State) (k : Nat) : Bool :=
  if s.flag fFrameEn then s.tb.begun && !(s.strm k).listAt.any (fun e => e.1 == s.reg kFrameNum) else (s.strm k).listDue

/-- A valid list read: it replaces the list in force unless it has the same SEQ (R210). -/
def State.listTake (s : State) (k : Nat) (l : RegionList) : State :=
  let st := s.strm k
  let same := match st.list with
    | some o => o.seq == l.seq
    | none => false
  if same then s
  else
    ((s.setStrm k { st with list := some l, listUses := if (s.receiving k).isSome then 1 else 0 }).put (fListSeq k) (l.seq % 65536)).put
      (fListCount k) l.regions.length

/-- An invalid list: rejected, counted, logged (R211, SIEVE_LIST_REJECT). -/
def State.listRejected (s : State) (k : Nat) (bs : List Byte) : State :=
  (s.bump (kSvCnt k 1)).strmViol k 0x1113 1 bs

/-- A list read that gives these bytes, from a part of memory that came poisoned or not (R210, R211). -/
def State.listRead (s : State) (k : Nat) (bs : List Byte) (poisoned : Bool) : State :=
  match listOf (s.get (fRoiMax k)) bs, poisoned with
  | some l, false => (s.listTake k l).listInForce k
  | _, _ => (s.listRejected k (bs.take 16)).listInForce k

/-- SIEVE_LIST_READ: the Sieve reads the region list of an enabled camera stream, at a boundary or a Frame Start, once its request is admitted; a parity
error of its list store is a job fault (R208 to R211, R221, R517). -/
def execSieveListRead (k : Fin 16) (parity : Bool) (s : State) : Out :=
  let k := k.val
  let a := (s.reg64 (kList k)).toNat
  let n := 32 + 16 * s.get (fRoiMax k)
  if !s.flag (fStrmEn k) || !s.listReadDue k then .next s
  else if parity then .next (s.jobFault 0x1304 (srcOf 1 k 1))
  else if !s.winOk s.perc a 32 false then .next ((s.refused4301 s.perc a).listInForce k)
  else
    let hdr := s.ramBytes a 32
    let len := min n (32 + 16 * leNat ((hdr.drop 8).take 1))
    if !s.winOk s.perc a len false then .next ((s.refused4301 s.perc a).listInForce k)
    else
      match s.dramAsk (.list k) s.perc (linesOf a len) with
      | (false, s) => .next s
      | (true, s) =>
        let r := s.ramRead .mill a len
        .next (r.2.2.listRead k r.1 r.2.1)

-- THE SLOT OF A FRAME

/-- The slot header (R182). -/
def slotHeader (f : MFrame) (kind outputs flags seq listSeq dropped used : Nat) : List Byte :=
  let pad (bs : List Byte) : List Byte := (bs ++ List.replicate 16 0).take 16
  leBytes 4 0x544F4C53 ++ leBytes 1 f.stream ++ leBytes 1 kind ++ leBytes 1 outputs ++ leBytes 1 flags ++ leBytes 4 seq ++
    leBytes 4 f.frameNo ++ pad f.captureRec ++ pad f.endRec ++ leBytes 4 listSeq ++ leBytes 2 dropped ++
    leBytes 2 f.damage.length ++ leBytes 4 used ++ List.replicate 68 0

/-- The damage report in the frame's slot (R181, R202). -/
def State.damageWrite (s : State) (f : MFrame) (slot : Nat) : Nat × List Byte :=
  (s.slotAddr f.stream slot + 1024, f.damage.flatMap Damage.bytes)

/-- What the frame's slot receives: the outputs, their descriptors, the damage report and the header (R181 to R184). [log 24: DEDUCED, unsafe] -/
def State.slotWrites (s : State) (f : MFrame) (slot kind flags listSeq dropped : Nat) (outs : List Placed) : List (Nat × List Byte) :=
  let base := s.slotAddr f.stream slot
  let used := outs.foldl (fun m p => max m p.end_) 4096
  outs.flatMap (fun p => [(base + p.offset, p.bytes), (base + p.maskOffset, p.mask)]) ++
    [(base + 128, outs.flatMap Placed.descriptor), s.damageWrite f slot,
     (base, slotHeader f kind outs.length flags (s.strm f.stream).recSeq listSeq dropped used)]

-- CAMERA FRAMES

/-- The line that replaces damaged line i: the nearest good one of its phase above, else below (R199). -/
def concealFrom (good : Nat → Bool) (step h i : Nat) : Option Nat :=
  let up := (List.range (i / step)).map (fun j => i - (j + 1) * step)
  let down := (List.range ((h - 1 - i) / step)).map (fun j => i + (j + 1) * step)
  match up.find? good with
  | some j => some j
  | none => down.find? good

/-- The picture of a RAW or COMPRESSED frame of h lines, damaged lines concealed (R199). -/
def State.linePicture (s : State) (k : Nat) (f : MFrame) (h : Nat) : Picture :=
  let good (i : Nat) : Bool := ((f.lines.getD i ([], false)).2)
  let step := if s.isBayer k then 2 else 1
  let line (i : Nat) : List Nat :=
    if good i then (f.lines.getD i ([], false)).1
    else
      match concealFrom good step h i with
      | some j => (f.lines.getD j ([], false)).1
      | none => []
  { lines := (List.range h).map line, per := s.perPixel k, concealed := (List.range h).map (fun i => !good i), bits := s.sampleBits k }

/-- The packets of a JPEG frame that are damaged: code, and where in the stream their bytes lie (R200). -/
def badPackets (at_ : Nat) : List CamLine → List (Nat × Nat × Nat)
  | [] => []
  | l :: r => (if l.bad = 0 then [] else [(l.bad, at_, at_ + l.payload.length)]) ++ badPackets (at_ + l.payload.length) r

/-- Damaged MCU ranges of a JPEG frame, code, first and count: from packets with an error, up to the next RST marker, then what the stream does not
give, with the code of a damaged packet that lies there, else as corrupt data (R200, 0x1110). -/
def jpegDamage (f : MFrame) (j : JpegScan) : List (Nat × Nat × Nat) :=
  let bad := badPackets 0 f.taken
  bad.map (fun b => (b.1, j.damageFrom (j.mcuAt b.2.1))) ++
    j.gaps.map (fun g => (match bad.find? (fun b => decide (b.2.1 ≤ g.to_) && decide (g.from_ ≤ b.2.2)) with | some b => b.1 | none => 0x1110, g.first, g.count))

/-- An MCU lies in a damaged range. -/
def mcuBad (ranges : List (Nat × Nat × Nat)) (m : Nat) : Bool :=
  ranges.any (fun r => decide (r.2.1 ≤ m) && decide (m < r.2.1 + r.2.2))

/-- The picture of a JPEG frame (R188, R189, R200). -/
def jpegPicture (ranges : List (Nat × Nat × Nat)) (j : JpegScan) : Picture :=
  let per := if j.components = 3 then 3 else 1
  let line (y : Nat) : List Nat :=
    (List.range j.width).flatMap (fun x => (List.range per).map (fun c => j.concealed (mcuBad ranges) c x (y + 1) y))
  { lines := (List.range j.height).map line, per, bits := 8,
    concealed := (List.range j.height).map (fun y => (List.range j.mcusX).any (fun m => mcuBad ranges (y / (8 * j.v) * j.mcusX + m))) }

/-- The embedded data output (R184, R218): placed after the whole-frame view where it fits. -/
def embeddedOut (f : MFrame) (at_ slotBytes : Nat) : Option Placed :=
  if f.embedded = [] ∨ slotBytes < alignUp 256 at_ + f.embedded.length then none
  else some { kind := 5, format := 6, offset := alignUp 256 at_, w := f.embedded.length, h := 1, c := 1, bytes := f.embedded }

/-- The outputs of a camera frame written to its slot, and the frame complete, its counts brought up to date by `count` (FRAME_COMPLETE; R205,
R213 to R218). -/
def State.cameraOutputs (s : State) (k : Nat) (old f : MFrame) (slot : Nat) (pic : Picture) (count : State → State) : State :=
  let v := s.conv k
  let size := s.slotBytes k
  let whole := v.whole pic (s.get (fWfLog2 k))
  let emb := embeddedOut f whole.end_ size
  let start := match emb with
    | some p => p.end_
    | none => whole.end_
  let regions := match f.list with
    | some l => l.regions
    | none => []
  let lay := v.layRegions pic (s.get (fOutW k)) (s.get (fOutH k)) size 0 regions { at_ := start, outs := [], dropped := [], full := false }
  let flags := b2n f.listExpired + 2 * b2n (f.embedded != [] && emb.isNone) + 4 * b2n f.damageOverflow
  let listSeq := match f.list with
    | some l => l.seq
    | none => 0
  let dropped := lay.dropped.foldl (fun a i => a + 2 ^ i) 0
  s.slotWritten k slot (s.slotWrites f slot 1 flags listSeq dropped (whole :: emb.toList ++ lay.outs)) (fun s =>
    ((count s).bumpBy (kSvCnt k 0) lay.dropped.length).endFrame k old { f with reported := true })

/-- A camera frame damaged beyond DAMAGE_LIMIT: its damage report is written, and it closes REJECTED (R201, 0x1114). -/
def State.beyondLimit (s : State) (k : Nat) (old f : MFrame) (slot : Nat) (count : State → State) : State :=
  s.slotWritten k slot [s.damageWrite f slot] (fun s => ((count s).strmViol k 0x1114 1).endFrame k old { f with status := 5, reported := true })

/-- A camera frame whose lines are all decoded and whose Frame End has come: concealment, then its outputs, or REJECTED beyond
DAMAGE_LIMIT (R201, R205). -/
def State.completeCamera (s : State) (k : Nat) (f : MFrame) : State :=
  match f.slot with
  | none => s.endFrame k f f
  | some slot =>
    let h := s.get (fGeomH k)
    let pic := s.linePicture k f h
    let n := (pic.concealed.filter id).length
    let count (s : State) : State := s.bumpBy (kSvCnt k 2) n
    if s.get (fDamageLimit k) * h < n * 256 then s.beyondLimit k f f slot count
    else s.cameraOutputs k f f slot pic count

/-- A JPEG frame whose Frame End has come and whose packets are all taken (R188, R200, R201). -/
def State.completeJpeg (s : State) (k : Nat) (f : MFrame) : State :=
  match f.slot with
  | none => s.endFrame k f f
  | some slot =>
    match jpegScan (f.taken.flatMap (fun l => l.payload)) with
    | none => (s.strmViol k 0x1111 1).rejectFrame k f
    | some j =>
      let ranges := (jpegDamage f j).filter (fun r => r.2.2 != 0)
      let mcus := ((List.range (j.mcusX * j.mcusY)).filter (mcuBad ranges)).length
      let f' := ranges.foldl (fun f r => f.damaged { code := r.1, kind := 2, flags := 1, first := r.2.1 % 65536, count := min r.2.2 65535 } 0) f
      let pic := jpegPicture ranges j
      let rows := (pic.concealed.filter id).length
      let count (s : State) : State := ((ranges.filter (fun r => r.1 == 0x1110)).foldl (fun s _ => s.strmViol k 0x1110 1) s).bumpBy (kSvCnt k 2) mcus
      if s.get (fDamageLimit k) * s.get (fGeomH k) < rows * 256 then s.beyondLimit k f f' slot count
      else s.cameraOutputs k f f' slot pic count

/-- A camera frame is completed once its Frame End has come and no line or packet of it waits. -/
def State.tryComplete (s : State) (k : Nat) (f : MFrame) : State :=
  if !f.ended || f.pend != [] then s
  else if s.decodeMode k = 2 then s.completeJpeg k f
  else s.completeCamera k f

/-- The frame with its oldest pending line decoded, or its oldest JPEG packet taken (R180, R188, 0x1112). -/
def State.decodeNext (s : State) (k : Nat) (f : MFrame) (l : CamLine) : State × MFrame :=
  let rest := f.pend.drop 1
  if s.decodeMode k = 2 then (s, { f with pend := rest, taken := f.taken ++ [l] })
  else if l.bad ≠ 0 then (s, { f with pend := rest, lines := f.lines ++ [([], false)] })
  else
    let samples := s.decodeLine k l.payload
    let want := s.get (fGeomW k) * s.perPixel k
    if s.decodeMode k = 1 ∧ samples.length ≠ want then
      (s.strmViol k 0x1112 1,
        { f with pend := rest, lines := f.lines ++ [([], false)] }.damaged
          { code := 0x1112, kind := 1, flags := 1, first := f.lines.length, count := 1 } 1)
    else (s, { f with pend := rest, lines := f.lines ++ [(samples, true)] })

/-- The oldest frame of stream k with something to decode. -/
def State.decodable (s : State) (k : Nat) : Option MFrame := (s.strm k).frames.find? (fun f => !f.closed && (f.pend != []))

/-- The camera context that the decode stage serves next: the first with pending lines after the one served last (R180). -/
def State.decodeTurn (s : State) : Option Nat := ((List.range 16).map (fun i => (s.mill.turn + 1 + i) % 16)).find? (fun k => (s.decodable k).isSome)

/-- DECODE_LINE: the decode stage takes the oldest pending line of a camera context, if it is that context's turn; ecc is what SECDED finds in the line
buffer, parity a parity error of the coefficient store (R174, R180, R221). -/
def execDecodeLine (k : Fin 16) (ecc : Ecc) (parity : Bool) (s : State) : Out :=
  let k := k.val
  match s.decodable k with
  | none => .next s
  | some f =>
    if s.decodeTurn ≠ some k then .next s
    else if parity then .next (s.jobFault 0x1304 (srcOf 1 k 1))
    else
      let s := s.millBuffer k ecc
      let s := { s with mill := { s.mill with turn := k } }
      match f.pend with
      | l :: _ =>
        let r := s.decodeNext k f l
        let st := r.1.strm k
        let s := r.1.setStrm k { st with frames := st.frames.map (fun x => if x = f then r.2 else x) }
        .next (s.tryComplete k r.2)
      | [] => .next s

-- RANGE FRAMES

/-- A signed field of a point record. -/
def pointField (p : List Byte) (i : Nat) : Int := sgn 32 (leNat ((p.drop (4 * i)).take 4))

/-- The column that the azimuth of a polar point gives, in or outside the image (R194); a CARTESIAN point has none. -/
def State.columnOf (s : State) (k : Nat) (p : List Byte) : Option Int :=
  if bitAt (leNat ((p.drop 14).take 1)) 1 then none else some ((pointField p 1 - sgn 32 (s.reg (kAz0 k)).toNat) / (s.get (fAzStep k) : Int))

/-- The column and row of a polar point, if it lies in the image (R194, R196). -/
def State.cellOf (s : State) (k : Nat) (p : List Byte) : Option (Nat × Nat) :=
  match s.columnOf k p with
  | some c =>
    let r := (pointField p 2 - sgn 32 (s.reg (kEl0 k)).toNat) / (s.get (fElStep k) : Int)
    if c < 0 ∨ (s.get (fImgCols k) : Int) ≤ c ∨ r < 0 ∨ (s.get (fImgRows k) : Int) ≤ r then none else some (c.toNat, r.toNat)
  | none => none

/-- The point carries the selected echo and a known range (R194, R195). -/
def State.echoOk (s : State) (k : Nat) (p : List Byte) : Bool :=
  let b := leNat ((p.drop 14).take 1)
  !bitAt b 0 && (s.get (fEcho k) == 4 || bitsAt b 2 2 == s.get (fEcho k))

/-- The smaller of two ranges, where there may be none yet. -/
def nearer (old : Option Int) (a : Int) : Option Int :=
  match old with
  | none => some a
  | some b => some (min a b)

/-- A column lies among those that lost packets leave unknown (R204). -/
def colUnknown (cols : List (Nat × Nat)) (c : Nat) : Bool := cols.any (fun x => decide (x.1 ≤ c) && decide (c < x.1 + x.2))

/-- The cells of a range image, by row × columns + column: the smallest range of each (R194), none in a column that lost packets leave unknown
(R204). -/
def State.rangeCells (s : State) (k : Nat) (unknown : List (Nat × Nat)) (pts : List (List Byte)) : Tbl Int :=
  pts.foldl (fun m p =>
    match s.cellOf k p with
    | some (c, r) =>
      let i := r * s.get (fImgCols k) + c
      if s.echoOk k p && !colUnknown unknown c then
        (match nearer (Tbl.find m i) (pointField p 0) with
         | some v => Tbl.put m i v
         | none => m)
      else m
    | none => m) []

/-- The RF16 code of a range and whether it saturated: to the largest positive code (R197). -/
def rangeCode (E : Int) (v : Option Int) : Nat × Bool :=
  match v with
  | none => (0x8000, false)
  | some a =>
    let r := rf16Encode E (XVal.ofInt a)
    if r.2 then (0x7FFF, true) else (r.1, false)

/-- The output of a range frame (R193 to R197). -/
def State.rangeOutput (s : State) (k : Nat) (f : MFrame) : Placed × Nat :=
  let tr := 8 * b2n f.truncated
  if s.get (fRmode k) = 0 then
    ({ kind := 3, format := 5, flags := tr, offset := 4096, w := f.points.length, h := 1, c := 1, bytes := f.points.flatMap id }, 0)
  else
    let E := sgn 8 (s.get (fRangeExp k))
    let cols := s.get (fImgCols k)
    let cells := s.rangeCells k f.unknownCols f.points
    let sat := (cells.filter (fun e => (rangeCode E (some e.2)).2)).length
    let bytes := (List.range (s.get (fImgRows k))).flatMap (fun r =>
      padRow ((List.range cols).flatMap (fun c => leBytes 2 (rangeCode E (Tbl.find cells (r * cols + c))).1)))
    ({ kind := 4, format := 4, flags := 2 * b2n (decide (0 < sat)) + tr, offset := 4096, w := cols, h := s.get (fImgRows k), c := 1,
       rangeExp := s.get (fRangeExp k), bytes }, sat)

/-- A sweep closed by SWEEP: its output written, and the range frame complete (R156, R193, R198). -/
def State.completeRange (s : State) (k : Nat) (f : MFrame) : State :=
  match f.slot with
  | none => s.endFrame k f f
  | some slot =>
    let r := s.rangeOutput k f
    s.slotWritten k slot (s.slotWrites f slot 2 (4 * b2n f.damageOverflow) 0 0 [r.1]) (fun s =>
      (s.bumpBy (kSvCnt k 3) r.2).endFrame k f { f with reported := true })

/-- The frames of stream k that are over and whose slot is not written: their request was held, and they are taken up again (R520). -/
def State.slotsAgain (s : State) (k : Nat) : State :=
  ((s.strm k).frames.filter (fun f => f.ended && !f.closed && f.pend == [])).foldl (fun s f =>
    if isRange k then s.completeRange k f else s.tryComplete k f) s

-- ENABLING A STREAM

/-- A region output size is from 32 to 1,024 in steps of 32. -/
def outSizeOk (n : Nat) : Bool := decide (32 ≤ n) && decide (n ≤ 1024) && decide (n % 32 = 0)

/-- The ranges of SIEVE_STRM_DEC and SIEVE_STRM_ROIFMT (05, Registers). -/
def State.sieveCameraOk (s : State) (k : Nat) : Bool :=
  decide (1 ≤ s.get (fDamageLimit k)) && decide (s.get (fFormat k) ≤ 3) && decide (s.get (fLayout k) ≠ 3) &&
    decide (s.get (fScheme k) ≤ 6) && decide (s.decodeMode k ≠ 3) && decide (s.get (fRoiMax k) ≤ 16) &&
    outSizeOk (s.get (fOutH k)) && outSizeOk (s.get (fOutW k)) && decide ((s.reg64 (kList k)).toNat % 64 = 0)

/-- The ranges of the range output's registers. -/
def State.sieveRangeOk (s : State) (k : Nat) : Bool :=
  decide (s.get (fEcho k) ≤ 4) && decide (s.get (fRmode k) ≤ 1) && decide (1 ≤ s.get (fElStep k)) && decide (1 ≤ s.get (fAzStep k)) &&
    (s.get (fRmode k) == 0 ||
      (decide (1 ≤ s.get (fImgRows k)) && decide (s.get (fImgRows k) ≤ 4096) && decide (1 ≤ s.get (fImgCols k)) &&
        decide (s.get (fImgCols k) ≤ 4096)))

/-- What the slot must at least hold (R219). -/
def State.slotNeed (s : State) (k : Nat) : Nat :=
  if isRange k then
    4096 + (if s.get (fRmode k) = 0 then 16 * s.get (fMaxPts k) else imageSize 1 2 (s.get (fImgCols k)) (s.get (fImgRows k)))
  else (s.conv k).wholeEnd (s.get (fWfLog2 k))

/-- Stream k may be enabled (R219). -/
def State.sieveOk (s : State) (k : Nat) : Bool :=
  (if isRange k then s.sieveRangeOk k && s.get (fRoiMax k) == 0 else s.sieveCameraOk k) && decide (s.slotNeed k ≤ s.slotBytes k)

end Sys2Proof.Machine
end

