-- ==== Sys2Proof/Machine/Mill.lean ====
section
/-! DEFINITION. The Mill: ports and their ladder, scripts, camera packets, triggers, groups and posts (04_sensor_intake.md). -/

namespace Sys2Proof.Machine

-- PORTS

/-- The first valid ladder entry of port p from m on (R137). -/
def State.entryFrom (s : State) (p m : Nat) : Option Nat := (List.range 4).find? (fun i => decide (m ≤ i) && s.flag (fModeValid p i))

/-- Every open frame of a port's streams closes REJECTED with MODE_CHANGED (R143). -/
def State.closePortFrames (s : State) (p : Nat) : State := (List.range 4).foldl (fun s i => s.rejectAll (4 * p + i) true) s

/-- Packets of the port's streams are discarded up to the next Frame Start (R144). -/
def State.skipPort (s : State) (p : Nat) : State :=
  (List.range 4).foldl (fun s i => s.setStrm (4 * p + i) { s.strm (4 * p + i) with skip := true }) s

/-- A script starts on a port's master (R147). -/
def State.scriptStart (s : State) (p entry : Nat) (ladder : Bool) : State :=
  (s.setPort p { s.port p with script := some { entry, ladder } }).setReg (0x10090 + 4 * p) 1

/-- The port tries ladder entry m: its script runs, then it waits for lock (R137). -/
def State.portTry (s : State) (p m : Nat) : State :=
  let s := ((s.put (fPortState p) 1).put (fPortEntry p) m).skipPort p
  (s.setPort p { s.port p with good := 0, errors := 0 }).scriptStart p (s.get (fModeScript p m)) true

/-- No entry is left: the port enters FAILED (R139). -/
def State.portFailed (s : State) (p : Nat) : State := ((s.put (fPortState p) 3).bump (kPortErrs p)).portViol p 0x1102

/-- The next valid entry from m on, or FAILED (R137, R139). -/
def State.portFrom (s : State) (p m : Nat) : State :=
  match s.entryFrom p m with
  | some e => s.portTry p e
  | none => s.portFailed p

/-- A port of EN 1 settles from entry 0; a script that runs on its master is dropped (R137). [log 145: DESIGN CHOICE, unsafe] -/
def State.portRestart (s : State) (p : Nat) : State := ((s.put (fLaneOk p) 0).setPort p PortSt.reset).portFrom p 0

/-- A port enabled: its counters clear, and it settles (R137, R179). -/
def State.portSettle (s : State) (p : Nat) : State := ((s.setReg (0x10020 + 4 * p) 0).setReg (kPortErrs p) 0).portRestart p

/-- The ranges of MILL_PORT_CFG. -/
def portCfgOk (p : Nat) (v : Word) : Bool := decide (1 ≤ (fErrThresh p).ofWord v) && decide ((fI2cSpeed p).ofWord v ≠ 3)

/-- MILL_PORT_ENABLE: a write to MILL_PORT_CFG that changes EN from 0 to 1 (R137, R748). -/
def execMillPortEnable (fn : Fn) (p : Fin 4) (v : Word) (s : State) : Out :=
  if s.turnsAway fn then .next (s.turnedAway fn) else
  if s.flag (fPortEn p.val) ∨ (fPortEn p.val).ofWord v = 0 ∨ ¬ s.percOrPf fn then .next s
  else if s.blocksOff || !portCfgOk p.val v then .next s.millReject
  else .next ((s.setReg (0x10010 + 4 * p.val) (v &&& 0x80F0FF03#32)).portSettle p.val)

/-- A port goes down (R143). -/
def State.portDown (s : State) (p : Nat) : State :=
  let s := (s.closePortFrames p).setPort p PortSt.reset
  ((s.put (fPortState p) 0).put (fLaneOk p) 0).put (fPortEntry p) 0

/-- MILL_PORT_DISABLE: a write to MILL_PORT_CFG that clears EN (R143, R748). -/
def execMillPortDisable (fn : Fn) (p : Fin 4) (v : Word) (s : State) : Out :=
  if s.turnsAway fn then .next (s.turnedAway fn) else
  if ¬ s.flag (fPortEn p.val) ∨ (fPortEn p.val).ofWord v = 1 ∨ ¬ s.percOrPf fn then .next s
  else if s.blocksOff || !portCfgOk p.val v then .next s.millReject
  else .next ((s.setReg (0x10010 + 4 * p.val) (v &&& 0x80F0FF03#32)).portDown p.val)

/-- The entry in force fails: the next valid one below it, or FAILED (R139). -/
def State.portEntryFails (s : State) (p : Nat) : State := s.portFrom p (s.get (fPortEntry p) + 1)

/-- PORT_LOCK_TIMEOUT: no lock for so many ms since the entry's script ended (R137, R139). -/
def execPortLockTimeout (p : Fin 4) (elapsedMs : Nat) (s : State) : Out :=
  if s.get (fPortState p.val) = 1 ∧ (s.port p.val).script = none ∧ 200 ≤ elapsedMs then .next (s.portEntryFails p.val)
  else .next s

/-- Lanes or trios of a ladder entry's width, as a mask. -/
def State.lanesOf (s : State) (p m : Nat) : Nat :=
  let w := s.get (fModeWidth p m)
  if s.flag (fModePhy p m) then 2 ^ (w + 1) - 1 else 2 ^ (2 ^ w) - 1

/-- The port steps down past its threshold, or stays UP at its lowest entry (PORT_STEP_DOWN; R140, R141, R143). -/
def State.portStepDown (s : State) (p : Nat) : State :=
  match s.entryFrom p (s.get (fPortEntry p) + 1) with
  | some e => ((s.closePortFrames p).bumpFld (fDowngrades p)).portTry p e
  | none => ((s.setPort p { s.port p with errors := 0 }).bump (kPortErrs p)).portViol p 0x1104

/-- One header, CRC or synchronisation error of an UP port (R140). [log 26: DEDUCED, unsafe] [log 46: DEDUCED, unsafe] -/
def State.portError (s : State) (p : Nat) : State :=
  let st := s.port p
  let fresh := st.errors == 0 || decide (25000000 < s.tb.ticks - st.windowTick)
  let st := if fresh then { st with errors := 1, windowTick := s.tb.ticks } else { st with errors := st.errors + 1 }
  let s := (s.setPort p st).bump (kPortErrs p)
  if s.get (fErrThresh p) < st.errors then s.portStepDown p else s

-- SCRIPTS

/-- A word of the script store; there is none beyond its 2,048. -/
def State.scriptWord (s : State) (i : Nat) : Nat := (s.reg (0x16000 + 4 * i)).toNat

/-- OP of a script entry; an entry beyond the store has none, and fails as an invalid one does (R147). -/
def State.scriptOp (s : State) (e : Nat) : Nat := if e < 1024 then bitsAt (s.scriptWord (2 * e)) 28 4 else 15

/-- The script of a port stands at an entry of this OP. -/
def State.scriptAt (s : State) (p : Nat) (ok : Nat → Bool) : Option ScriptRun :=
  match (s.port p).script with
  | some r => if ok (s.scriptOp r.entry) then some r else none
  | none => none

/-- The script goes on at its next entry. -/
def State.scriptNext (s : State) (p : Nat) (r : ScriptRun) : State := s.setPort p { s.port p with script := some { r with entry := r.entry + 1 } }

/-- The script fails at its entry; a ladder entry fails with it (R139, R147). -/
def State.scriptFail (s : State) (p : Nat) (r : ScriptRun) : State :=
  let s := ((s.setPort p { s.port p with script := none }).put (fI2cState p) 3).put (fI2cFailed p) r.entry
  if r.ladder then s.portEntryFails p else s

/-- A script word's parity error is a job fault (R175). -/
def State.scriptParity (s : State) (p : Nat) : State := s.jobFault 0x1302 (srcOf 1 (32 + p) 0)

/-- I2C_RUN: a write to MILL_I2C_RUN (R147, limit 11 of 04). -/
def execI2cRun (fn : Fn) (p : Fin 4) (v : Word) (s : State) : Out :=
  if s.turnsAway fn then .next (s.turnedAway fn) else
  let busy := (List.range 4).any (fun q => s.get (fPortState q) == 1 || (s.port q).script.isSome)
  if ¬ s.percOrPf fn then .next s
  else if s.blocksOff ∨ busy ∨ (bitAt v.toNat 31 = true ∧ 1024 ≤ bitsAt v.toNat 0 16) then .next s.millReject
  else if bitAt v.toNat 31 = false then .next s
  else .next (s.scriptStart p.val (bitsAt v.toNat 0 16) false)

/-- SCRIPT_WRITE: one I²C write; it fails on a NAK, or on stretching beyond 10 ms (R146, R147). -/
def execScriptWrite (p : Fin 4) (ack : Bool) (stretchUs : Nat) (parity : Bool) (s : State) : Out :=
  match s.scriptAt p.val (· == 1) with
  | none => .next s
  | some r =>
    if parity then .next (s.scriptParity p.val)
    else if ack ∧ stretchUs ≤ 10000 then
      let w := s.scriptWord (2 * r.entry)
      .next ((s.emit (.i2cWrite p.val (bitsAt w 16 7) (bitsAt w 0 16) (bitAt w 27)
        (BitVec.ofNat 8 (s.scriptWord (2 * r.entry + 1))))).scriptNext p.val r)
    else .next (s.scriptFail p.val r)

/-- SCRIPT_WAIT: a pause of so many µs passes (R147). -/
def execScriptWait (p : Fin 4) (parity : Bool) (s : State) : Out :=
  match s.scriptAt p.val (· == 2) with
  | none => .next s
  | some r =>
    if parity then .next (s.scriptParity p.val)
    else .next ((s.reach (s.now + bitsAt (s.scriptWord (2 * r.entry + 1)) 0 24 * 1000)).scriptNext p.val r)

/-- SCRIPT_POLL: one read of the register, so long after the entry began; no match within 100 ms fails (R147). -/
def execScriptPoll (p : Fin 4) (ack : Bool) (value : Byte) (elapsedMs : Nat) (parity : Bool) (s : State) : Out :=
  match s.scriptAt p.val (· == 3) with
  | none => .next s
  | some r =>
    let w0 := s.scriptWord (2 * r.entry)
    let w := s.scriptWord (2 * r.entry + 1)
    if parity then .next (s.scriptParity p.val)
    else
    let s := s.emit (.i2cRead p.val (bitsAt w0 16 7) (bitsAt w0 0 16) (bitAt w0 27))
    if ¬ ack then .next (s.scriptFail p.val r)
    else if value.toNat &&& bitsAt w 8 8 = bitsAt w 0 8 then .next (s.scriptNext p.val r)
    else if 100 ≤ elapsedMs then .next (s.scriptFail p.val r)
    else .next s

/-- SCRIPT_END: the script succeeds (R147). -/
def execScriptEnd (p : Fin 4) (parity : Bool) (s : State) : Out :=
  match s.scriptAt p.val (· == 0) with
  | none => .next s
  | some _ =>
    if parity then .next (s.scriptParity p.val)
    else .next ((s.setPort p.val { s.port p.val with script := none }).put (fI2cState p.val) 2)

/-- SCRIPT_INVALID_OP: an entry of OP 4 to 15 always fails (R147). -/
def execScriptInvalidOp (p : Fin 4) (parity : Bool) (s : State) : Out :=
  match s.scriptAt p.val (fun op => decide (4 ≤ op)) with
  | none => .next s
  | some r => if parity then .next (s.scriptParity p.val) else .next (s.scriptFail p.val r)

-- CAMERA PACKETS

/-- The enabled streams of port p on a virtual channel (R133). -/
def State.camStreams (s : State) (p vc : Nat) : List Nat :=
  ((List.range 4).map (fun i => 4 * p + i)).filter (fun k => s.flag (fStrmEn k) && s.get (fSrcVc k) == vc)

/-- A signed capture offset in ns. -/
def State.captureOffset (s : State) (k : Nat) : Int := (s.reg (kStrmOffset k)).toInt

/-- The open window that a Frame Start falls in: the oldest one without a Frame Start, or the newest where every one has one.
[log 147: DEDUCED, unsafe] -/
def StreamSt.windowAt (st : StreamSt) : Option (Word × Nat × Bool) :=
  match st.windows.find? (fun w => !w.2.2) with
  | some w => some w
  | none => st.windows.getLast?

/-- The capture stamp of a camera frame and its METHOD, for a Frame Start stamped at t (R59, R170): under TRIGGER the edge of the
open window plus the offset, a free value where no edge is open. [log 27: DEDUCED, safe] -/
def State.cameraStamp (s : State) (k t : Nat) : Nat × Nat :=
  if s.get (fStrmMethod k) = 1 ∧ s.flag fFrameEn then
    match (s.strm k).windowAt with
    | some w => (((w.2.1 : Int) + s.captureOffset k).toNat, 1)
    | none => (s.free % 2 ^ 64, 1)
  else (((t : Int) - s.captureOffset k).toNat, 0)

/-- A Frame Start is due: the stream has no trigger, or its window is open (R167, R170). -/
def State.windowOpen (s : State) (k : Nat) : Bool := !s.flag fFrameEn || s.get (fStrmTrig k) == 15 || (s.strm k).windows != []

/-- The window of a Frame Start has it (R167). -/
def StreamSt.windowUsed (st : StreamSt) : StreamSt :=
  { st with windows := st.windows.map (fun w => if st.windowAt = some w then (w.1, w.2.1, true) else w) }

/-- A camera frame begins on stream k with a Frame Start stamped at t (R135, R157, R167, R212). [log 25: DEDUCED, unsafe] -/
def State.cameraBegin (s : State) (k t fsNumber : Nat) : State :=
  let s := match s.receiving k with
    | some f => (s.strmViol k 0x1105 0).rejectFrame k f
    | none => s
  let c := s.cameraStamp k t
  let no := s.frameAt c.1
  if !s.grpFree (s.get (fStrmGroup k)) && (s.strm k).begun.contains no then
    (s.bump (kStrmCnt k 4)).setStrm k { (s.strm k) with skip := true }
  else
    let a := s.allocSlot k
    let s1 := a.2
    let st := (s1.strm k).windowUsed
    let f := s1.listFor k (newFrame k c.1 (s1.stampRecord c.1 c.2) no fsNumber a.1) (st.listUses + 1)
    let s2 := (s1.setStrm k { st with frames := st.frames ++ [f], begun := (no :: st.begun).take 64, skip := false, listUses := st.listUses + 1, listDue := !s1.flag fFrameEn }).put (fListExpired k) (b2n f.listExpired)
    if s.windowOpen k then s2 else (s2.strmViol k 0x1107 0).rejectFrame k f

/-- Header errors of a packet of an UP port: every error counts under R140, an uncorrectable one is logged (R140, R172). -/
def State.portHeader (s : State) (p : Nat) (h : Header) (sync : Bool) (detail : List Byte) : State :=
  let s := if sync then s.portError p else s
  match h with
  | .clean => s
  | .corrected => s.portError p
  | .uncorrectable => (s.portViol p 0x1101 detail).portError p

/-- A packet whose virtual channel and data type no context is bound to (0x1108). -/
def State.unbound (s : State) (p : Nat) (detail : List Byte) : State := (s.bump (kPortErrs p)).portViol p 0x1108 detail

/-- The stamp of an arrival at t: within ±8 ns (R41). -/
def State.arrivalStamp (s : State) (t : Nat) : State × Nat :=
  let s := s.reach t
  (s.drawn, s.stampOf 0)

/-- The stamp of a CSI-2 short packet at t: within ±50 ns (R42). -/
def State.csiStamp (s : State) (t : Nat) : State × Nat :=
  let s := s.reach t
  (s.drawn, s.stampWithin 50 0)

/-- Packets on a virtual channel of an UP port belong to a frame whose Frame Start came while the port was SETTLING: they are discarded, and
nothing is logged or counted for them (R144). [log 148: DEDUCED, unsafe] -/
def State.vcSilent (s : State) (p vc : Nat) : Bool := (s.port p).silent.contains vc

/-- A Frame Start on a virtual channel, during SETTLING or not (R144). -/
def State.vcStart (s : State) (p vc : Nat) (settling : Bool) : State :=
  let rest := (s.port p).silent.filter (· != vc)
  s.setPort p { s.port p with silent := if settling then rest ++ [vc] else rest }

/-- CSI_FRAME_START: a Frame Start packet on a port at Timebase value t; sync: with a start-of-transmission error (R140, R144,
R167). -/
def execCsiFrameStart (p : Fin 4) (vc : Fin 16) (fsNumber : BitVec 16) (header : Header) (sync : Bool) (t : Nat) (s0 : State) : Out :=
  let p := p.val
  let r := s0.csiStamp t
  let s := r.1
  if s.get (fPortState p) = 1 then .next (if header = .uncorrectable then s else s.vcStart p vc.val true)
  else if s.get (fPortState p) ≠ 2 then .next s
  else
    let s := s.portHeader p header sync (leBytes 2 fsNumber.toNat)
    if header = .uncorrectable ∨ s.get (fPortState p) ≠ 2 then .next s
    else
      let s := s.vcStart p vc.val false
      match s.camStreams p vc.val with
      | [] => .next (s.unbound p (leBytes 2 fsNumber.toNat))
      | ks => .next (ks.foldl (fun s k => s.cameraBegin k r.2 fsNumber.toNat) s)

/-- Missing lines at the Frame End are damage (R199). -/
def State.missingLines (s : State) (k : Nat) (f : MFrame) : MFrame :=
  let h := s.get (fGeomH k)
  if s.decodeMode k = 2 ∨ h ≤ f.received then f
  else f.damaged { code := 0x1106, kind := 1, flags := 1, first := f.received, count := h - f.received } (h - f.received)

/-- A Frame End for stream k stamped at t (R172). -/
def State.cameraEnd (s : State) (k t fsNumber : Nat) : State :=
  if (s.strm k).skip then s
  else
    match s.receiving k with
    | none => s.strmViol k 0x1105 0
    | some f =>
      let f1 := { f with endRec := s.stampRecord t 0, ended := true }
      if f.fsNumber ≠ fsNumber then
        ((s.setReceiving k f1).strmViol k 0x1109 0).rejectFrame k f1
      else
        let f2 := s.missingLines k f1
        (s.setReceiving k f2).tryComplete k f2

/-- CSI_FRAME_END: a Frame End packet on a port at Timebase value t (R172). -/
def execCsiFrameEnd (p : Fin 4) (vc : Fin 16) (fsNumber : BitVec 16) (header : Header) (sync : Bool) (t : Nat) (s0 : State) : Out :=
  let p := p.val
  let r := s0.csiStamp t
  let s := r.1
  if s.get (fPortState p) ≠ 2 || s.vcSilent p vc.val then .next s
  else
    let s := s.portHeader p header sync (leBytes 2 fsNumber.toNat)
    if header = .uncorrectable ∨ s.get (fPortState p) ≠ 2 then .next s
    else
      match s.camStreams p vc.val with
      | [] => .next (s.unbound p (leBytes 2 fsNumber.toNat))
      | ks => .next (ks.foldl (fun s k => s.cameraEnd k r.2 fsNumber.toNat) s)

/-- Bytes of line buffer that a stream's pending lines take (05, limit 5). -/
def State.lineBuffered (s : State) (k : Nat) : Nat :=
  (s.strm k).frames.foldl (fun n f => f.pend.foldl (fun n l => n + l.payload.length) n) 0

/-- The frame takes a line of the given payload and damage code, 0 for none. -/
def MFrame.line (f : MFrame) (payload : List Byte) (bad : Nat) : MFrame :=
  let f' := { f with pend := f.pend ++ [{ payload, bad }], received := f.received + 1 }
  if bad = 0 then f' else f'.damaged { code := bad, kind := 1, flags := 1, first := f.received, count := 1 } 1

/-- A long packet of the bound data type reaches stream k; code is its damage, 0x1103 for a CRC mismatch, 0x1101 for a discarded packet, which has no
length, or 0 (R172, R199, limit 5 of 05). -/
def State.cameraLine (s : State) (k : Nat) (payload : List Byte) (code : Nat) : State :=
  match s.receiving k with
  | none => s
  | some f =>
    if (s.strm k).skip then s
    else if f.slot.isNone then s
    else if s.decodeMode k = 2 then
      let f' : MFrame := { f with pend := f.pend ++ [{ payload, bad := code }], damageCount := f.damageCount + b2n (code ≠ 0) }
      if 393216 < s.lineBuffered k + payload.length then ((s.bump kSieveOverflow).strmViol k 0x110A 0) |>.setReceiving k
        { f with pend := f.pend ++ [{ payload := [], bad := 0x110A }], damageCount := f.damageCount + 1 }
      else s.setReceiving k f'
    else if s.get (fGeomH k) ≤ f.received then s.strmViol k 0x1106 0
    else if 393216 < s.lineBuffered k + payload.length then
      ((s.bump kSieveOverflow).strmViol k 0x110A 0).setReceiving k (f.line [] 0x110A)
    else if code = 0x1101 ∨ payload.length = s.lineBytes k then s.setReceiving k (f.line payload code)
    else if s.lineBytes k < payload.length then (s.strmViol k 0x1106 0).setReceiving k (f.line (payload.take (s.lineBytes k)) code)
    else (s.strmViol k 0x1106 0).setReceiving k (f.line payload (if code = 0 then 0x1106 else code))

/-- Embedded data reaches stream k's frame unchanged (R145). -/
def State.cameraEmbedded (s : State) (k : Nat) (payload : List Byte) : State :=
  match s.receiving k with
  | none => s
  | some f => if (s.strm k).skip || f.slot.isNone then s else s.setReceiving k { f with embedded := f.embedded ++ payload }

/-- Lock is reached with a ladder entry (PORT_LOCK; R138). -/
def State.portLock (s : State) (p : Nat) : State := (s.setPort p { s.port p with good := 0, errors := 0 }).put (fPortState p) 2

/-- A long packet while SETTLING serves the lock check alone (R138, R144). -/
def State.portSettling (s : State) (p : Nat) (ok : Bool) : State :=
  if (s.port p).script.isSome then s
  else if !ok then s.setPort p { s.port p with good := 0 }
  else if (s.port p).good + 1 < 8 then s.setPort p { s.port p with good := (s.port p).good + 1 }
  else s.portLock p

/-- CSI_LONG_PACKET: a long packet on a port at Timebase value t, over the lanes that had sync; ecc is what SECDED finds in the
line buffer (R133, R138, R140, R144, R172, R174).  Line Start and Line End, the data types 2 and 3, are accepted and have no effect (R145). -/
def execCsiLongPacket (p : Fin 4) (vc : Fin 16) (dt : BitVec 6) (payload : List Byte) (header : Header) (crcOk sync : Bool)
    (lanes : BitVec 4) (ecc : Ecc) (t : Nat) (s0 : State) : Out :=
  let p := p.val
  let s := s0.reach t
  let all := s.lanesOf p (s.get (fPortEntry p))
  if s.get (fPortState p) = 0 ∨ s.get (fPortState p) = 3 then .next s
  else
    let s := s.put (fLaneOk p) lanes.toNat
    if s.get (fPortState p) = 2 ∧ s.vcSilent p vc.val = true then .next s
    else if dt.toNat = 2 ∨ dt.toNat = 3 then .next (if s.get (fPortState p) = 2 then s.portHeader p header sync (payload.take 16) else s)
    else if s.get (fPortState p) = 1 then
      .next (s.portSettling p (decide (header = .clean) && crcOk && !sync && decide (lanes.toNat &&& all = all)))
    else
      let s := s.portHeader p header sync (payload.take 16)
      let s := if header ≠ .uncorrectable ∧ ¬ crcOk then (s.portViol p 0x1103 (payload.take 16)).portError p else s
      if s.get (fPortState p) ≠ 2 then .next s
      else
        let code := if header = .uncorrectable then 0x1101 else if crcOk then 0 else 0x1103
        let onVc := s.camStreams p vc.val
        let bound := onVc.filter (fun k => s.get (fSrcDt k) == dt.toNat)
        if dt.toNat = 0x26 ∨ dt.toNat = 0x27 then .next (s.unbound p (payload.take 16))
        else if bound ≠ [] then
          .next (bound.foldl (fun s k => (s.millBuffer k ecc).cameraLine k (if header = .uncorrectable then [] else payload) code) s)
        else if dt.toNat = 0x12 ∧ onVc ≠ [] then
          .next (if code = 0x1101 then s else onVc.foldl (fun s k => (s.millBuffer k ecc).cameraEmbedded k payload) s)
        else if header = .uncorrectable then .next s
        else .next (s.unbound p (payload.take 16))

/-- FRAME_ASSEMBLY_TIMEOUT: so many ms since the frame's Frame Start or first packet (R171, 0x1105). -/
def execFrameAssemblyTimeout (k : Fin 24) (elapsedMs : Nat) (s : State) : Out :=
  match s.receiving k.val with
  | some f =>
    if s.get (fFrameTimeout k.val) ≤ elapsedMs then .next ((s.strmViol k.val 0x1105 0).rejectFrame k.val f) else .next s
  | none => .next s

-- TRIGGERS

/-- Enabled streams bound to trigger i (R167). -/
def State.trigStreams (s : State) (i : Nat) : List Nat :=
  (List.range 16).filter (fun k => s.flag (fStrmEn k) && s.get (fStrmTrig k) == i)

/-- The slot of frame n is marked MISSED for a stream (R168). -/
def State.markMissed (s : State) (k : Nat) (n : Word) : State :=
  let g := s.get (fStrmGroup k)
  s.setGrp g { s.grp g with missed := (s.grp g).missed ++ [(k, n)] }

/-- A suppressed pulse (TRIGGER_SUPPRESS; R168, limit 7 of 04). -/
def State.trigSuppress (s : State) (i : Nat) (n : Word) : State :=
  (s.trigStreams i).foldl (fun s k => s.markMissed k n) ((s.bump (kTrigMissed i)).report 0x1401 (srcOf 1 0 0))

/-- A trigger window opens for a stream (R167). -/
def State.openWindow (s : State) (k : Nat) (n : Word) (edge : Nat) : State :=
  s.setStrm k { s.strm k with windows := (s.strm k).windows ++ [(n, edge, false)] }

/-- TRIGGER_FIRE: trigger i is due for the latest frame boundary (R166 to R168). -/
def execTriggerFire (i : Fin 8) (s : State) : Out :=
  let i := i.val
  let n := s.reg kFrameNum
  if s.asleep || !s.flag (fTrigEn i) || !s.flag fFrameEn || !s.tb.begun || decide (n.toNat % (s.get (fTrigDiv i) + 1) ≠ 0) then .next s
  else if s.get fSpll ≠ 2 ∨ s.period ≤ (s.reg (kTrigOffset i)).toNat * 1000 then .next (s.trigSuppress i n)
  else
    let due := s.boundaryAt (s.tb.next - 1) + (s.reg (kTrigOffset i)).toNat * 1000
    let edge := due + s.free % 21 - 10
    let s := (s.reach due).drawn
    let s := (s.bump (kTrigFired i)).emit (.trigOut i true (!s.flag (fTrigPol i)))
    let s := { s with mill := { s.mill with pulses := Tbl.put s.mill.pulses i (edge + s.get (fTrigWidth i) * 1000) } }
    .next ((s.trigStreams i).foldl (fun s k => s.openWindow k n edge) s)

/-- TRIGGER_PULSE_END: a pulse has lasted WIDTH_US from its edge (R166, R169). -/
def execTriggerPulseEnd (i : Fin 8) (s : State) : Out :=
  match Tbl.find s.mill.pulses i.val with
  | some e => .next ((s.reach e).endPulse i.val)
  | none => .next s

/-- TRIGGER_WINDOW_END: the oldest open trigger window of a stream ends, TRIG_WINDOW_US after its edge (R158, R167). -/
def execTriggerWindowEnd (k : Fin 16) (s : State) : Out :=
  let k := k.val
  match (s.strm k).windows with
  | [] => .next s
  | (n, edge, used) :: rest =>
    let s := (s.reach (edge + s.get (fTrigWindow k) * 1000)).setStrm k { s.strm k with windows := rest }
    if used then .next s
    else
      let g := s.get (fStrmGroup k)
      .next (s.setGrp g { s.grp g with absent := (s.grp g).absent ++ [(k, n)] })

-- GROUPS

/-- The members of a group: the enabled streams that name it. -/
def State.members (s : State) (g : Nat) : List Nat := streams.filter (fun k => s.flag (fStrmEn k) && s.get (fStrmGroup k) == g)

/-- Enabled SYNC groups without a next group frame take the boundary's (R157). -/
def State.groupsAtBoundary (s : State) (n : Word) : State :=
  (List.range 8).foldl (fun s g =>
    if s.flag (fGrpEn g) && !s.flag (fGrpFree g) && (s.grp g).next.isNone then s.setGrp g { s.grp g with next := some n } else s) s

/-- The member frame of stream k for group frame n, if it waits. -/
def GroupSt.frameOf (st : GroupSt) (k : Nat) (n : Word) : Option MFrame :=
  st.waiting.find? (fun f => f.stream == k && BitVec.ofNat 32 f.frameNo == n)

/-- The member of stream k is resolved for group frame n (R158). -/
def GroupSt.resolved (st : GroupSt) (k : Nat) (n : Word) : Bool :=
  (st.frameOf k n).isSome || st.missed.contains (k, n) || st.absent.contains (k, n) || st.closedAt.any (fun c => c.frame == n)

/-- GROUP_COLLECT_CLOSE: the collection window of group frame n closes; its members that are not resolved are ABSENT (R158). -/
def execGroupCollectClose (g : Fin 8) (n : Word) (s : State) : Out :=
  let g := g.val
  let st := s.grp g
  let gone := st.closedAt.any (fun c => c.frame == n) || (match st.next with | some m => after m n | none => false)
  if s.grpFree g || !s.flag (fGrpEn g) || gone then .next s
  else
    let s := s.reach (s.boundaryOf n.toNat + s.get (fCollectUs g) * 1000)
    let absent := (s.members g).filter (fun k => !st.resolved k n)
    .next (s.setGrp g { st with closedAt := st.closedAt ++ [{ frame := n, us := s.now / 1000, absent }] })

/-- Age in µs at the post time (R67, R164). -/
def ageUs (now capture : Nat) : Nat := min ((now - capture) / 1000) 0xFFFFFFFF

/-- The status a member frame is posted with (R162). -/
def State.postStatus (s : State) (f : MFrame) : Nat :=
  if f.status = 0 ∧ s.get (fStale f.stream) < ageUs s.now f.capture then 1 else f.status

/-- The counter of a status (R164): stale, missed, absent, no slot, rejected. -/
def statusCounter (status : Nat) : Option Nat :=
  match status with
  | 1 => some 1
  | 2 => some 2
  | 3 => some 3
  | 4 => some 5
  | 5 => some 6
  | _ => none

/-- A frame record's 64 bytes (R164). -/
def frameRecord (k status flags seq age slot damageCount frame : Nat) (capture end_ : List Byte) : List Byte :=
  let pad (bs : List Byte) : List Byte := (bs ++ List.replicate 16 0).take 16
  pad capture ++ pad end_ ++ leBytes 1 1 ++ leBytes 1 k ++ leBytes 1 status ++ leBytes 1 flags ++ leBytes 4 seq ++ leBytes 4 age ++
    leBytes 4 slot ++ leBytes 4 damageCount ++ leBytes 4 frame ++ leBytes 8 0

/-- The record of a member: of its frame, or MISSED or ABSENT without one (R164). -/
def State.memberRecord (s : State) (k frame : Nat) (f : Option MFrame) (missed : Bool) : Nat × List Byte :=
  match f with
  | some f =>
    let status := s.postStatus f
    let flags := b2n (f.reported && f.damage != []) + 2 * b2n f.truncated + 4 * b2n f.modeChanged
    (status, frameRecord k status flags (s.strm k).recSeq (ageUs s.now f.capture) (f.slot.getD 0xFFFFFFFF) f.damageCount frame
      f.captureRec f.endRec)
  | none =>
    let status := if missed then 2 else 3
    (status, frameRecord k status 0 (s.strm k).recSeq 0 0xFFFFFFFF 0 frame [] [])

/-- The group record's 64 bytes (R165). -/
def groupRecord (post frame ok other g records : Nat) : List Byte :=
  leBytes 8 post ++ leBytes 4 frame ++ leBytes 4 ok ++ leBytes 4 other ++ leBytes 12 0 ++ leBytes 1 2 ++ leBytes 1 g ++
    leBytes 1 records ++ leBytes 29 0

/-- A record at the ring entry of a number (R163). -/
def State.writeGroupRecord (s : State) (g i : Nat) (bs : List Byte) : State :=
  s.millWrite ((s.reg64 (kGrpRing g)).toNat + i % (s.reg (kGrpRingSize g)).toNat * 64) bs

/-- A member's record written, its counters, SEQ and slot header brought up to date (R162 to R164, R182). -/
def State.postMember (s : State) (g i k frame : Nat) (f : Option MFrame) (missed : Bool) : State :=
  let r := s.memberRecord k frame f missed
  let s := match f with
    | some f =>
      (match f.slot with
       | some slot => s.millWrite (s.slotAddr k slot + 8) (leBytes 4 (s.strm k).recSeq)
       | none => s)
    | none => s
  let s := match statusCounter r.1 with
    | some c => s.bump (kStrmCnt k c)
    | none => s
  (s.writeGroupRecord g i r.2).setStrm k { s.strm k with recSeq := ((s.strm k).recSeq + 1) % 2 ^ 32 }

/-- A post of members in ascending stream number, then the group record, then the head and the intake event (R162, R163,
R457). -/
def State.post (s : State) (g frame : Nat) (ms : List (Nat × Option MFrame × Bool)) : State :=
  let head := s.reg (kGrpHead g)
  let stat (m : Nat × Option MFrame × Bool) : Nat := (s.memberRecord m.1 frame m.2.1 m.2.2).1
  let mask (ok : Bool) : Nat := ((ms.filter (fun m => (stat m == 0) == ok)).map (fun m => 2 ^ m.1)).foldl (· + ·) 0
  let now := s.now
  let s := (ms.zipIdx).foldl (fun s m => s.postMember g (head.toNat + m.2) m.1.1 frame m.1.2.1 m.1.2.2) s
  let s := s.writeGroupRecord g (head.toNat + ms.length) (groupRecord now frame (mask true) (mask false) g ms.length)
  let s := s.setReg (kGrpHead g) (head + BitVec.ofNat 32 (ms.length + 1))
  s.setGrp g { s.grp g with posts := ({ frame := BitVec.ofNat 32 frame, headBefore := head, time := now } :: (s.grp g).posts).take 16, stalled := false }

/-- The ring has room for so many records (limit 2 of 04). -/
def State.ringRoom (s : State) (g n : Nat) : Bool :=
  decide ((s.reg (kGrpHead g) - s.reg (kGrpTail g)).toNat + n ≤ (s.reg (kGrpRingSize g)).toNat)

/-- A post waits for room, counted once (limit 2 of 04). -/
def State.postStall (s : State) (g : Nat) : State :=
  if (s.grp g).stalled then s else (s.setGrp g { s.grp g with stalled := true }).bump (kGrpStalls g)

/-- Group frame n leaves the group. -/
def State.groupTaken (s : State) (g : Nat) (n : Word) : State :=
  let st := s.grp g
  s.setGrp g { st with next := some (n + 1), waiting := st.waiting.filter (fun f => BitVec.ofNat 32 f.frameNo != n), closedAt := st.closedAt.filter (fun c => c.frame != n), missed := st.missed.filter (fun m => m.2 != n), absent := st.absent.filter (fun m => m.2 != n) }

/-- A post of these frames with so many records: one request for the record ring and the slots' headers, charged to the perception partition (R136,
R517). -/
def State.postAsk (s : State) (g records : Nat) (fs : List MFrame) : Bool × State :=
  s.dramAsk (.records g) s.perc (records + (fs.filter (fun f => f.slot.isSome)).length)

/-- MILL_GROUP_POST in SYNC mode (R159, R162, R163, limit 12 of 04). -/
def State.syncPost (s : State) (g : Nat) (n : Word) : State :=
  let st := s.grp g
  let ms := s.members g
  if after n (s.reg kFrameNum) ∨ ¬ ms.all (fun k => st.resolved k n) then s
  else if s.recovering then (s.groupTaken g n).bump kRecoveryDrops
  else if !s.ringRoom g (ms.length + 1) then s.postStall g
  else
    match s.postAsk g (ms.length + 1) (ms.filterMap (fun k => st.frameOf k n)) with
    | (true, s) => (s.post g n.toNat (ms.map (fun k => (k, st.frameOf k n, st.missed.contains (k, n))))).groupTaken g n
    | (false, s) => s

/-- One frame record, with the capture stamp's FRAME, and one group record without a number (R161, R164, R165). -/
def State.postFree (s : State) (g : Nat) (f : MFrame) : State :=
  let head := s.reg (kGrpHead g)
  let now := s.now
  let ok := s.postStatus f = 0
  let s := s.postMember g head.toNat f.stream f.frameNo (some f) false
  let s := s.writeGroupRecord g (head.toNat + 1)
    (groupRecord now 0xFFFFFFFF (if ok then 2 ^ f.stream else 0) (if ok then 0 else 2 ^ f.stream) g 1)
  let s := s.setReg (kGrpHead g) (head + 2)
  s.setGrp g { s.grp g with posts := ({ frame := 0xFFFFFFFF, headBefore := head, time := now } :: (s.grp g).posts).take 16, stalled := false }

/-- MILL_GROUP_POST in FREE mode: the oldest member frame that waits (R161). -/
def State.freePost (s : State) (g : Nat) : State :=
  let st := s.grp g
  match st.waiting with
  | [] => s
  | f :: rest =>
    let took (s : State) : State := s.setGrp g { s.grp g with waiting := rest, next := none }
    if s.recovering then (took s).bump kRecoveryDrops
    else if !s.ringRoom g 2 then s.postStall g
    else
      match s.postAsk g 2 [f] with
      | (true, s) => took (s.postFree g f)
      | (false, s) => s

/-- MILL_GROUP_POST: the next group frame of a group is posted, if it is resolved and its records have room (R159 to R163). -/
def execMillGroupPost (g : Fin 8) (s : State) : Out :=
  if s.blocksOff || !s.flag (fGrpEn g.val) then .next s
  else if s.grpFree g.val then .next (s.freePost g.val)
  else
    match (s.grp g.val).next with
    | some n => .next (s.syncPost g.val n)
    | none => .next s

/-- SLOT_RELEASE: a consumer's write to MILL_STRM_RELEASE (R135, limit 4 of 04). [log 34: DEDUCED, unsafe] -/
def execSlotRelease (fn : Fn) (k : Fin 24) (v : Word) (s : State) : Out :=
  if s.turnsAway fn then .next (s.turnedAway fn) else
  if ¬ s.percOrPf fn then .next s
  else if s.blocksOff ∨ s.slotsHeld k.val < (v - s.reg (kRelease k.val)).toNat then .next s.millReject
  else .next (s.setReg (kRelease k.val) v)

/-- GROUP_TAIL_WRITE: a consumer's write to MILL_GRP_TAIL; a value beyond HEAD is rejected (04, Registers). -/
def execGroupTailWrite (fn : Fn) (g : Fin 8) (v : Word) (s : State) : Out :=
  if s.turnsAway fn then .next (s.turnedAway fn) else
  if ¬ s.percOrPf fn then .next s
  else if s.blocksOff || after v (s.reg (kGrpHead g.val)) then .next s.millReject
  else .next (s.setReg (kGrpTail g.val) v)

-- STREAM CONTEXTS

/-- The ranges of MILL_STRM_CTRL for stream k. -/
def strmCtrlOk (k : Nat) (v : Word) : Bool :=
  let trig := (fStrmTrig k).ofWord v
  let m := (fStrmMethod k).ofWord v
  let n := (fStrmSlots k).ofWord v
  decide (2 ≤ n) && decide (n ≤ 16) &&
    (if isRange k then decide (trig = 15) && (m == 2 || m == 3) else (decide (trig < 8) || trig == 15) && decide (m ≤ 1))

/-- A stream enabled: its counters clear, its slot ring and record numbering start anew, its parser registers are 0 (R151,
R164, R179); the list in force stays, with the frames that have used it (R212). -/
def State.strmStart (s : State) (k : Nat) : State :=
  let s := (List.range 8).foldl (fun s i => s.setReg (kStrmCnt k i) 0) s
  let s := (List.range 5).foldl (fun s i => s.setReg (kSvCnt k i) 0) s
  (s.setReg (kRelease k) 0).setStrm k { StreamSt.reset with list := (s.strm k).list, listUses := (s.strm k).listUses }

/-- STREAM_ENABLE: a write to MILL_STRM_CTRL that changes EN from 0 to 1 (R219). -/
def execStreamEnable (fn : Fn) (k : Fin 24) (v : Word) (s : State) : Out :=
  if s.turnsAway fn then .next (s.turnedAway fn) else
  let k := k.val
  if s.flag (fStrmEn k) ∨ (fStrmEn k).ofWord v = 0 ∨ ¬ s.percOrPf fn then .next s
  else if s.blocksOff || !strmCtrlOk k v || !s.sieveOk k then .next s.millReject
  else .next ((s.setReg (kStrm k 0) ((v &&& 0xB8F7FF00#32) ||| (if isRange k then 0x40000000#32 else 0))).strmStart k)

end Sys2Proof.Machine
end

