-- ==== Sys2Proof/Machine/Admission.lean ====
section
/-! DEFINITION. The regulators admit what they hold (R518, R520, R522). -/

namespace Sys2Proof.Machine

/-- What waited at the DRAM regulator alone and has no row of its own is taken up again: the slots of the Mill, and messages of the Kelyth
ports. -/
def State.goOn (s : State) : State :=
  let s := streams.foldl State.slotsAgain s
  State.rxDrain s.rxWaiting s

/-- Port i sends the frame that its regulator has held, where nothing else is to be sent before it (R522, R547). -/
def State.admitPort (s : State) (i : Nat) : State :=
  let p := s.kport i
  if s.flag (fKlyLocked i) && s.klyIsUp i && p.regHeld != [] && !p.ackDue && !p.nakDue && p.creditDue == 0 && p.resend.isNone then s.klyNew i else s

/-- REQUEST_ADMIT (R518, R520 to R522): the DRAM regulator, or a port's, admits the requests that it holds, as far as it may. [log 76: DEDUCED, unsafe] -/
def execRequestAdmit (port : Option (Fin 4)) (s : State) : Out :=
  match port with
  | none => .next (State.admitHeld s.part.asks.length s).goOn
  | some i => .next (s.admitPort i)

end Sys2Proof.Machine
end

