-- ==== Sys2Proof/Machine/Parser.lean ====
section
/-! DEFINITION. The range parser's instructions, which the Mill and Hedgerow share (R103, R150 to R156, R171 to R176). -/

namespace Sys2Proof.Machine

/-- The kinds of parser instruction, one for each row of the table. -/
inductive ParserOp where
  | end_ | ld8 | ld16 (big : Bool) | ld32 (big : Bool) | ldi | lui | alu (op : Nat) | shift (op : Nat) | mul (high : Bool)
  | addi | lut | branch (op : Nat) | emit | stamp | sweep | seq | reject | invalid
  deriving DecidableEq, Repr

/-- OP of a parser word (R152); a T-form word whose bits [13:0] are not zero is no instruction. -/
def parserOp (w : Word) : ParserOp :=
  let op := bitsAt w.toNat 26 6
  let t (o : ParserOp) : ParserOp := if bitsAt w.toNat 0 14 = 0 then o else .invalid
  match op with
  | 0x00 => .end_
  | 0x01 => .ld8
  | 0x02 => .ld16 true
  | 0x03 => .ld16 false
  | 0x04 => .ld32 true
  | 0x05 => .ld32 false
  | 0x06 => .ldi
  | 0x07 => .lui
  | 0x08 => t (.alu 0)
  | 0x09 => t (.alu 1)
  | 0x0A => t (.alu 2)
  | 0x0B => t (.alu 3)
  | 0x0C => t (.alu 4)
  | 0x0D => t (.shift 0)
  | 0x0E => t (.shift 1)
  | 0x0F => t (.shift 2)
  | 0x10 => t (.mul false)
  | 0x11 => t (.mul true)
  | 0x12 => .addi
  | 0x13 => .lut
  | 0x14 => .branch 0
  | 0x15 => .branch 1
  | 0x16 => .branch 2
  | 0x17 => .branch 3
  | 0x19 => if bitsAt w.toNat 22 4 ≤ 12 then .emit else .invalid
  | 0x1A => .stamp
  | 0x1B => .sweep
  | 0x1C => .seq
  | 0x1D => .reject
  | _ => .invalid

/-- D, S, T and IMM of a parser word (R152). -/
def pD (w : Word) : Nat := bitsAt w.toNat 22 4
def pS (w : Word) : Nat := bitsAt w.toNat 18 4
def pT (w : Word) : Nat := bitsAt w.toNat 14 4
def pImm (w : Word) : Nat := bitsAt w.toNat 0 18
def pImmS (w : Word) : Int := sgn 18 (pImm w)

/-- What one parser instruction leads to. -/
inductive ParseRes where
  | cont (r : ParserRun)
  | accept (r : ParserRun)
  | reject (code reason : Nat) (r : ParserRun)
  deriving DecidableEq, Repr

/-- A parser register. -/
def ParserRun.reg (r : ParserRun) (i : Nat) : Word := r.g.getD i 0

/-- The run with a register set and the next instruction due. -/
def ParserRun.set (r : ParserRun) (d : Nat) (v : Word) : ParserRun := { r with g := r.g.set d v, pc := r.pc + 1 }

/-- The run with the next instruction due. -/
def ParserRun.next (r : ParserRun) : ParserRun := { r with pc := r.pc + 1 }

/-- ADD, SUB, AND, OR, XOR. -/
def parserAlu (op : Nat) (a b : Word) : Word :=
  match op with
  | 0 => a + b
  | 1 => a - b
  | 2 => a &&& b
  | 3 => a ||| b
  | _ => a ^^^ b

/-- SHL, SHR, SAR by the low five bits of the second register. -/
def parserShift (op : Nat) (a b : Word) : Word :=
  let k := b.toNat % 32
  match op with
  | 0 => a <<< k
  | 1 => a >>> k
  | _ => a.sshiftRight k

/-- The low, or the signed high, 32 bits of the product. -/
def parserMul (high : Bool) (a b : Word) : Word :=
  if high then BitVec.ofInt 32 (a.toInt * b.toInt / 2 ^ 32) else a * b

/-- BEQ, BNE, BLT, BGE: gD compares with gS. -/
def parserTaken (op : Nat) (d s : Word) : Bool :=
  match op with
  | 0 => d == s
  | 1 => d != s
  | 2 => d.slt s
  | _ => !d.slt s

/-- A load of n payload bytes at gS + IMM modulo 2^32, zero-extended; outside the payload the packet is rejected (R172,
0x1203). [log 145: DESIGN CHOICE, unsafe] -/
def parserLoad (n : Nat) (big : Bool) (w : Word) (r : ParserRun) : ParseRes :=
  let a := ((r.reg (pS w)).toNat + pImm w) % 2 ^ 32
  if r.payload.length < a + n then .reject 0x1203 0 r
  else
    let bs := (r.payload.drop a).take n
    .cont (r.set (pD w) (BitVec.ofNat 32 (if big then beNat bs else leNat bs)))

/-- A point record from gD to gD+3 (R153). -/
def pointRec (w : Word) (r : ParserRun) : List Byte :=
  let d := pD w
  let imm := pImm w
  leBytes 4 (r.reg d).toNat ++ leBytes 4 (r.reg (d + 1)).toNat ++ leBytes 4 (r.reg (d + 2)).toNat ++
    leBytes 2 (r.reg (d + 3)).toNat ++
    leBytes 1 (bitsAt imm 1 1 + 2 * bitsAt imm 0 1 + 4 * bitsAt imm 2 2) ++ leBytes 1 0

/-- The sensor time of STAMP in ns; a unit of 3 names none, and its time is the free value given (R152). -/
def stampNs (w : Word) (r : ParserRun) (free : Nat) : Nat :=
  let d := (r.reg (pD w)).toNat
  let g := (r.reg (pS w)).toNat
  match pImm w % 4 with
  | 0 => d * 2 ^ 32 + g
  | 1 => (d * 2 ^ 32 + g) * 1000
  | 2 => d * 1000000000 + g
  | _ => free

/-- SEQ (R155). -/
def parserSeq (w : Word) (r : ParserRun) : ParseRes :=
  let m := 2 ^ (pImm w % 32 + 1)
  let x := (r.reg (pS w)).toNat % m
  let r := { r with number := some x }
  match r.expected with
  | none => .cont { r.next with expected := some ((x + 1) % m) }
  | some e =>
    let d := (x + m - e % m) % m
    if d = 0 then .cont { r.next with expected := some ((x + 1) % m) }
    else if d < m / 2 then .cont { r.next with expected := some ((x + 1) % m), lost := r.lost ++ [(d, e % m)] }
    else .reject 0x1206 0 r

/-- One instruction of a run (R152).  lut answers the table word at an index; free is the value that a table index outside
the table, or a STAMP without a unit, reads as. [log 29: DEDUCED, unsafe] -/
def parserStep (w : Word) (lut : Nat → Option Word) (free : Nat) (r0 : ParserRun) : ParseRes :=
  let r := { r0 with steps := r0.steps + 1 }
  match parserOp w with
  | .end_ => .accept r
  | .ld8 => parserLoad 1 false w r
  | .ld16 big => parserLoad 2 big w r
  | .ld32 big => parserLoad 4 big w r
  | .ldi => .cont (r.set (pD w) (BitVec.ofInt 32 (pImmS w)))
  | .lui => .cont (r.set (pD w) (BitVec.ofNat 32 (pImm w % 65536 * 65536 + (r.reg (pD w)).toNat % 65536)))
  | .alu op => .cont (r.set (pD w) (parserAlu op (r.reg (pS w)) (r.reg (pT w))))
  | .shift op => .cont (r.set (pD w) (parserShift op (r.reg (pS w)) (r.reg (pT w))))
  | .mul high => .cont (r.set (pD w) (parserMul high (r.reg (pS w)) (r.reg (pT w))))
  | .addi => .cont (r.set (pD w) (r.reg (pS w) + BitVec.ofInt 32 (pImmS w)))
  | .lut => .cont (r.set (pD w) ((lut ((r.reg (pS w)).toNat + pImm w)).getD (BitVec.ofNat 32 free)))
  | .branch op =>
    .cont { r with pc := if parserTaken op (r.reg (pD w)) (r.reg (pS w)) then r.pc + pImmS w else r.pc + 1 }
  | .emit => .cont { r.next with effects := r.effects ++ [.point (pointRec w r)] }
  | .stamp => .cont { r.next with effects := r.effects ++ [.stamp (stampNs w r free)] }
  | .sweep => .cont { r.next with effects := r.effects ++ [.sweep] }
  | .seq => parserSeq w r
  | .reject => .reject 0x1205 (pImm w % 256) r
  | .invalid => .reject 0x1303 0 r

/-- A run's start: g0 to g7 are 0, g15 is the payload length, g8 to g14 are kept from the stream's previous packet
(R151). -/
def ParserRun.start (g : List Word) (expected : Option Nat) (start : Nat) (payload : List Byte) : ParserRun :=
  { payload, g := List.replicate 8 0 ++ (List.range 7).map (fun i => g.getD (8 + i) 0) ++ [BitVec.ofNat 32 payload.length],
    pc := start, steps := 0, effects := [], expected, number := none, lost := [] }

/-- The instruction a run stands at; outside the program store there is none. -/
def instrAt (code : Nat → Option Word) (pc : Int) : Option Word := if pc < 0 then none else code pc.toNat

/-- A whole run, at most so many instructions; the run that reaches 65,536 is rejected (R171, R172). -/
def parserRunAll (code lut : Nat → Option Word) (free : Nat) : Nat → ParserRun → ParseRes
  | 0, r => .reject 0x1204 0 r
  | n + 1, r =>
    match instrAt code r.pc with
    | none => .reject 0x1303 0 r
    | some w =>
      match parserStep w lut free r with
      | .cont r' => parserRunAll code lut free n r'
      | done => done

end Sys2Proof.Machine
end

