-- ==== Sys2Proof/Machine/Range.lean ====
section
/-! DEFINITION. Range intake: classifying a packet, the parser's rows, and what an accepted or rejected packet does to its
sweep (04_sensor_intake.md, R134, R148 to R156, R171 to R176). -/

namespace Sys2Proof.Machine

/-- The packet matches the binding of range context k (R134); one whose UDP header cannot be read has no port to compare. [log 145: DESIGN CHOICE,
unsafe] -/
def State.rangeMatch (s : State) (k mac : Nat) (pkt : UdpPacket) : Bool :=
  s.flag (fStrmEn k) && s.get (fSrcMac k) == mac && (s.get (fSrcPort k) == pkt.dstPort.toNat || !pkt.udpHeader) &&
    (s.reg (kStrmIp k) == 0 || s.reg (kStrmIp k) == pkt.srcIp)

/-- The first enabled range context, in ascending number, whose binding matches (R148). -/
def State.classify (s : State) (mac : Nat) (pkt : UdpPacket) : Option Nat :=
  if 1 < pkt.tags then none else ((List.range 8).map (fun i => 16 + i)).find? (fun k => s.rangeMatch k mac pkt)

/-- The damage entries of n lost or rejected packets, 65,535 to an entry (R204): the first lost number's low 16 bits. -/
def packetDamage (code first n : Nat) : List Damage :=
  (List.range ((n + 65534) / 65535)).map (fun i => { code, kind := 3, flags := 2, first := (first + 65535 * i) % 65536, count := min 65535 (n - 65535 * i) })

/-- The frame with damage of as many lines or packets as its entries count. -/
def MFrame.damagedBy (f : MFrame) (ds : List Damage) : MFrame := ds.foldl (fun f d => f.damaged d d.count) f

/-- Packets lost or rejected: damage against the sweep of stream k, or against the next one where none is open, and a gap before the next point
(R204). -/
def State.sweepDamage (s : State) (k code first n : Nat) : State :=
  let ds := packetDamage code first n
  let gap := if (s.strm k).gap = 0 then code else (s.strm k).gap
  match s.receiving k with
  | some f =>
    let s := s.setReceiving k (f.damagedBy ds)
    s.setStrm k { s.strm k with gap }
  | none => s.setStrm k { s.strm k with pendDamage := (s.strm k).pendDamage ++ ds, gap }

/-- A packet of stream k that is dropped or rejected: logged, and damage against the sweep (R172, R204).  The first lost number is
the expected one; where the stream has none it is a free value. -/
def State.packetLost (s : State) (k code : Nat) (detail : List Byte) : State :=
  let first := (s.strm k).expected.getD s.free
  ((s.strmViol k code 0 detail).sweepDamage k code first 1).drawn

/-- A run starts on the oldest waiting packet of a stream whose parser is idle (R150, R151). -/
def State.runStart (s : State) (k : Nat) : State :=
  let st := s.strm k
  match st.run, st.queue with
  | none, p :: rest =>
    s.setStrm k { st with queue := rest, run := some (p, ParserRun.start st.g st.expected (s.get (fParserStart k)) p.payload) }
  | _, _ => s

/-- A packet of stream k passes the intake's checks, or is dropped (R149, R172), one without payload as one of an inconsistent length.
[log 145: DESIGN CHOICE, unsafe] -/
def State.rangeIntake (s : State) (k arrival : Nat) (pkt : UdpPacket) : State :=
  if pkt.fragment || pkt.malformed || !pkt.udpHeader || pkt.payload.isEmpty || decide (8192 < pkt.payload.length) then
    s.packetLost k 0x1202 (pkt.payload.take 16)
  else if !pkt.checksumOk then s.packetLost k 0x1201 (pkt.payload.take 16)
  else (s.setStrm k { s.strm k with queue := (s.strm k).queue ++ [{ arrival, payload := pkt.payload }] }).runStart k

/-- RANGE_PACKET: an IPv4 UDP packet from a sensor MAC at Timebase value t; ecc is what SECDED finds in the packet buffer (R148,
R149, R174). -/
def execRangePacket (mac : Fin 4) (pkt : UdpPacket) (ecc : Ecc) (t : Nat) (s0 : State) : Out :=
  let r := s0.arrivalStamp t
  match r.1.classify mac.val pkt with
  | none => .next r.1
  | some k => .next ((r.1.millBuffer k ecc).rangeIntake k r.2 pkt)

-- SWEEPS

/-- A sweep begins with an accepted packet that arrived at the given stamp (R60, R135). [log 145: DESIGN CHOICE, unsafe]  Under SENSOR its stamp is a free value until a
STAMP gives it. -/
def State.sweepBegin (s : State) (k arrival : Nat) : State :=
  let sensor := s.get (fStrmMethod k) = 3
  let t := if sensor then s.free % 2 ^ 64 else ((arrival : Int) - s.captureOffset k).toNat
  let a := s.drawn.allocSlot k
  let s := a.2
  let f := newFrame k t (s.stampRecord t (if sensor then 3 else 2)) (s.frameAt t) 0 a.1
  let st := s.strm k
  let f := { f with listExpired := false }.damagedBy st.pendDamage
  s.setStrm k { st with frames := st.frames ++ [f], pendDamage := [] }

/-- A sweep is open, begun now where none was. -/
def State.sweepOpen (s : State) (k arrival : Nat) : State := if (s.receiving k).isSome then s else s.sweepBegin k arrival

/-- The first STAMP of a sweep under the SENSOR method (R61, R154). -/
def State.sweepStamp (s : State) (k arrival ns : Nat) : State :=
  match s.receiving k with
  | none => s
  | some f =>
    if f.stamped ∨ s.get (fStrmMethod k) ≠ 3 then s
    else
      let a := ((arrival : Int) - s.captureOffset k).toNat
      let far := decide (s.get (fPlaus k) * 1000 < ((ns : Int) - a).natAbs)
      let t := if far then a else ns
      let s := if far then s.strmViol k 0x1207 0 else s
      s.setReceiving k { f with capture := t, captureRec := s.stampRecord t (if far then 4 else 3), frameNo := s.frameAt t, stamped := true }

/-- The columns strictly between the last point before lost packets and the first one after, those of the image, are unknown, with the code of
the first loss (R204). [log 149: DEDUCED, unsafe] -/
def State.gapColumns (s : State) (k : Nat) (f : MFrame) (p : List Byte) : MFrame :=
  let st := s.strm k
  match st.lastCol, s.columnOf k p with
  | some a, some b =>
    let lo := max 0 (min a b + 1)
    let hi := min (s.get (fImgCols k) : Int) (max a b)
    if s.get (fRmode k) = 1 ∧ st.gap ≠ 0 ∧ lo < hi then
      let first := lo.toNat
      let count := (hi - lo).toNat
      { f with unknownCols := f.unknownCols ++ [(first, count)] }.damaged { code := st.gap, kind := 4, flags := 2, first, count } 0
    else f
  | _, _ => f

/-- A point of the current sweep (R153, R156); in IMAGE mode one outside the grid, or a CARTESIAN one, is counted (R196). [log 28: DEDUCED, unsafe] -/
def State.sweepPoint (s : State) (k : Nat) (p : List Byte) : State :=
  match s.receiving k with
  | none => s
  | some f0 =>
    let f := s.gapColumns k f0 p
    let s := s.setStrm k { s.strm k with gap := 0, lastCol := s.columnOf k p }
    if s.get (fMaxPts k) ≤ f.points.length then
      (if f.truncated then s else s.strmViol k 0x1208 0).setReceiving k { f with truncated := true }
    else
      let s := if s.get (fRmode k) = 1 ∧ s.cellOf k p = none then s.bump (kSvCnt k 4) else s
      s.setReceiving k { f with points := f.points ++ [p] }

/-- The current sweep closes, and is a complete range frame; in SYNC mode a second one of its number is discarded (R156, R157,
R171). -/
def State.sweepClose (s : State) (k arrival : Nat) : State :=
  match s.receiving k with
  | none => s
  | some f =>
    let dup := !s.grpFree (s.get (fStrmGroup k)) && (s.strm k).begun.contains f.frameNo
    let f1 := { f with endRec := s.stampRecord arrival 2, ended := true }
    let st := s.strm k
    if dup then (s.bump (kStrmCnt k 4)).setStrm k { st with frames := st.frames.dropLast, lastCol := none }
    else
      let s := (s.setReceiving k f1)
      let st := s.strm k
      (s.setStrm k { st with begun := (f.frameNo :: st.begun).take 64, lastCol := none }).completeRange k f1

/-- One effect of an accepted packet (R153, R154, R156). -/
def State.parseEffect (s : State) (k arrival : Nat) : ParseEff → State
  | .point p => (s.sweepOpen k arrival).sweepPoint k p
  | .stamp ns => (s.sweepOpen k arrival).sweepStamp k arrival ns
  | .sweep => s.sweepClose k arrival

/-- An effect closes the sweep. -/
def ParseEff.closes : ParseEff → Bool
  | .sweep => true
  | _ => false

/-- The packets that SEQ found lost: damage against the sweep (R155, 0x1206). -/
def State.lostDamage (s : State) (k : Nat) (lost : List (Nat × Nat)) : State :=
  lost.foldl (fun s l => (s.strmViol k 0x1206 0).sweepDamage k 0x1206 l.2 l.1) s

/-- The run of a stream is over; g8 to g14 and the expected number stay with the stream (R151, R155). -/
def State.runOver (s : State) (k : Nat) (r : ParserRun) : State :=
  s.setStrm k { s.strm k with run := none, g := r.g, expected := r.expected }

/-- A packet accepted: its effects in order (R152, END). -/
def State.packetAccepted (s : State) (k arrival : Nat) (r : ParserRun) : State :=
  let s := (s.runOver k r).lostDamage k r.lost
  let s := match r.effects with
    | e :: _ => if e.closes then s else s.sweepOpen k arrival
    | [] => s.sweepOpen k arrival
  (r.effects.foldl (fun s e => s.parseEffect k arrival e) s).runStart k

/-- A packet rejected: none of its effects stands (R172, R173); an invalid instruction is a report (R176).  FIRST of its damage is its own number,
or the expected one where no SEQ has read it. -/
def State.packetRejected (s : State) (k code reason : Nat) (r : ParserRun) : State :=
  let s := (s.runOver k r).lostDamage k r.lost
  let first := r.number.getD (r.expected.getD s.free)
  let s := if code = 0x1303 then s.report 0x1303 (srcOf 1 k 0) else s.strmViol k code 0 (if code = 0x1205 then leBytes 1 reason else r.payload.take 16)
  ((s.sweepDamage k code first 1).drawn).runStart k

-- THE PARSER'S ROWS

/-- A word of the parser code store. -/
def State.pcode (s : State) (i : Nat) : Option Word := if i < 4096 then some (s.reg (0x18000 + 4 * i)) else none

/-- A word of the parser table store. -/
def State.ptab (s : State) (i : Nat) : Option Word := if i < 4096 then some (s.reg (0x1C000 + 4 * i)) else none

/-- The kind of instruction a run stands at; beyond the code store it is an invalid one. -/
def State.parserAt (s : State) (r : ParserRun) : ParserOp :=
  match instrAt s.pcode r.pc with
  | some w => parserOp w
  | none => .invalid

/-- The parser executes the instruction that a range context's run stands at, if it is of the row's kind; a parity error of its
stores is a job fault (R152, R175). -/
def State.parserRow (s : State) (k : Nat) (parity : Bool) (kind : ParserOp → Bool) : State :=
  match (s.strm k).run with
  | none => s
  | some (p, r) =>
    if !kind (s.parserAt r) || decide (65536 ≤ r.steps) then s
    else if parity then s.jobFault 0x1302 (srcOf 1 k 0)
    else
      match instrAt s.pcode r.pc with
      | none => s.packetRejected k 0x1303 0 r
      | some w =>
        match parserStep w (fun i => s.ptab (s.get (fTableBase k) + i)) s.free r with
        | .cont r' => s.drawn.setStrm k { s.strm k with run := some (p, r') }
        | .accept r' => s.packetAccepted k p.arrival r'
        | .reject code reason r' => s.packetRejected k code reason r'

/-- Range context i is stream 16 + i. -/
def rangeStream (i : Fin 8) : Nat := 16 + i.val

/-- PARSER_END (R152). -/
def execParserEnd (i : Fin 8) (parity : Bool) (s : State) : Out := .next (s.parserRow (rangeStream i) parity (fun o => o == .end_))

/-- PARSER_LD8 (R152). -/
def execParserLd8 (i : Fin 8) (parity : Bool) (s : State) : Out := .next (s.parserRow (rangeStream i) parity (fun o => o == .ld8))

/-- PARSER_LD16: LD16B and LD16L (R152). -/
def execParserLd16 (i : Fin 8) (parity : Bool) (s : State) : Out :=
  .next (s.parserRow (rangeStream i) parity (fun o => o == .ld16 true || o == .ld16 false))

/-- PARSER_LD32: LD32B and LD32L (R152). -/
def execParserLd32 (i : Fin 8) (parity : Bool) (s : State) : Out :=
  .next (s.parserRow (rangeStream i) parity (fun o => o == .ld32 true || o == .ld32 false))

/-- PARSER_LDI (R152). -/
def execParserLdi (i : Fin 8) (parity : Bool) (s : State) : Out := .next (s.parserRow (rangeStream i) parity (fun o => o == .ldi))

/-- PARSER_LUI (R152). -/
def execParserLui (i : Fin 8) (parity : Bool) (s : State) : Out := .next (s.parserRow (rangeStream i) parity (fun o => o == .lui))

def ParserOp.isAlu : ParserOp → Bool
  | .alu _ => true
  | _ => false

def ParserOp.isShift : ParserOp → Bool
  | .shift _ => true
  | _ => false

def ParserOp.isMul : ParserOp → Bool
  | .mul _ => true
  | _ => false

def ParserOp.isBranch : ParserOp → Bool
  | .branch _ => true
  | _ => false

/-- PARSER_ALU: ADD, SUB, AND, OR, XOR (R152). -/
def execParserAlu (i : Fin 8) (parity : Bool) (s : State) : Out := .next (s.parserRow (rangeStream i) parity ParserOp.isAlu)

/-- PARSER_SHIFT: SHL, SHR, SAR (R152). -/
def execParserShift (i : Fin 8) (parity : Bool) (s : State) : Out := .next (s.parserRow (rangeStream i) parity ParserOp.isShift)

/-- PARSER_MUL: MUL, MULH (R152). -/
def execParserMul (i : Fin 8) (parity : Bool) (s : State) : Out := .next (s.parserRow (rangeStream i) parity ParserOp.isMul)

/-- PARSER_ADDI (R152). -/
def execParserAddi (i : Fin 8) (parity : Bool) (s : State) : Out := .next (s.parserRow (rangeStream i) parity (fun o => o == .addi))

/-- PARSER_LUT (R152). -/
def execParserLut (i : Fin 8) (parity : Bool) (s : State) : Out := .next (s.parserRow (rangeStream i) parity (fun o => o == .lut))

/-- PARSER_BRANCH: BEQ, BNE, BLT, BGE (R152). -/
def execParserBranch (i : Fin 8) (parity : Bool) (s : State) : Out := .next (s.parserRow (rangeStream i) parity ParserOp.isBranch)

/-- PARSER_EMIT (R153). -/
def execParserEmit (i : Fin 8) (parity : Bool) (s : State) : Out := .next (s.parserRow (rangeStream i) parity (fun o => o == .emit))

/-- PARSER_STAMP (R154). -/
def execParserStamp (i : Fin 8) (parity : Bool) (s : State) : Out := .next (s.parserRow (rangeStream i) parity (fun o => o == .stamp))

/-- PARSER_SWEEP (R156). -/
def execParserSweep (i : Fin 8) (parity : Bool) (s : State) : Out := .next (s.parserRow (rangeStream i) parity (fun o => o == .sweep))

/-- PARSER_SEQ (R155). -/
def execParserSeq (i : Fin 8) (parity : Bool) (s : State) : Out := .next (s.parserRow (rangeStream i) parity (fun o => o == .seq))

/-- PARSER_REJECT (R172). -/
def execParserReject (i : Fin 8) (parity : Bool) (s : State) : Out := .next (s.parserRow (rangeStream i) parity (fun o => o == .reject))

/-- PARSER_INVALID_OP: an invalid opcode, or an EMIT with D above 12 (R176). -/
def execParserInvalidOp (i : Fin 8) (parity : Bool) (s : State) : Out :=
  .next (s.parserRow (rangeStream i) parity (fun o => o == .invalid))

/-- PARSER_RUN_LIMIT: a run that has executed 65,536 instructions ends, its packet rejected (R171, R172). -/
def execParserRunLimit (i : Fin 8) (s : State) : Out :=
  match (s.strm (rangeStream i)).run with
  | some (_, r) => if 65536 ≤ r.steps then .next (s.packetRejected (rangeStream i) 0x1204 0 r) else .next s
  | none => .next s

end Sys2Proof.Machine
end

