-- ==== Sys2Proof/Machine/Eth.lean ====
section
/-! DEFINITION. The Ethernet MACs and the TRIG_IN balls (19_vehicle_interfaces.md). -/

namespace Sys2Proof.Machine

def kEthCfg (m : Nat) : Nat := 0x43000 + 0x100 * m
def fEthEn (m : Nat) : Fld := ⟨kEthCfg m, 31, 1⟩
/-- SPEED_MASK, of ETH4 its three speeds alone. -/
def fSpeedMask (m : Nat) : Fld := ⟨kEthCfg m, 24, if m = 4 then 3 else 5⟩
def fPhyAddr (m : Nat) : Fld := ⟨kEthCfg m, 16, 5⟩
/-- MODE of a sensor MAC: 1 for an SGMII PHY. -/
def fSgmii (m : Nat) : Fld := ⟨kEthCfg m, 30, 1⟩
def fEthThresh (m : Nat) : Fld := ⟨kEthCfg m, 8, 8⟩
def fMcastAll (m : Nat) : Fld := ⟨kEthCfg m, 1, 1⟩
def fArpEn (m : Nat) : Fld := ⟨kEthCfg m, 0, 1⟩
def kEthStatus (m : Nat) : Nat := 0x43004 + 0x100 * m
def fEthLink (m : Nat) : Fld := ⟨kEthStatus m, 31, 1⟩
def fEthSpeed (m : Nat) : Fld := ⟨kEthStatus m, 28, 3⟩
def fEthDown (m : Nat) : Fld := ⟨kEthStatus m, 16, 8⟩
def fEthFloor (m : Nat) : Fld := ⟨kEthStatus m, 8, 5⟩
def fEthRejected : Fld := ⟨0x43800, 0, 1⟩
def kEthIp (m : Nat) : Nat := 0x43010 + 0x100 * m
/-- A MAC's counters: 0 RX_FRAMES, 1 RX_FCS, 2 RX_OVF, 3 RX_OTHER, 4 TX_FRAMES, 5 LINK_DOWN. -/
def kEthCnt (m i : Nat) : Nat := 0x43014 + 0x100 * m + 4 * i

/-- The source of a MAC's event (R613, UNIT 12). -/
def srcEth (m : Nat) : BitVec 16 := srcOf 12 (2 + m) 0

/-- The function may write MAC m's registers (R723). -/
def State.ethMayWrite (s : State) (fn : Fn) (m : Nat) : Bool := fn.val == 0 || (decide (m < 4) && fn.val == s.perc)

/-- The bits of ETH_CFG that MAC m has. -/
def ethCfgBits (m : Nat) : Word := if m = 4 then 0x871FFF03#32 else 0xDF1FFF03#32

/-- The floor at a speed of the mask: every speed of the mask at or below bit b is advertised (R711). -/
def floorMask (mask b : Nat) : Nat := mask % 2 ^ (b + 1)

/-- The highest speed of a mask, as a bit of it. -/
def topBit (mask : Nat) : Nat := Nat.log2 mask

/-- A sensor MAC writes its advertisement to its PHY (R711). -/
def State.ethAdvertise (s : State) (m floor : Nat) : State :=
  if m < 4 then
    if s.flag (fSgmii m) then s.emit (.mdioAdvertise m (s.get (fPhyAddr m)) false [4, 9] floor)
    else s.emit (.mdioAdvertise m (s.get (fPhyAddr m)) true [16, 32] floor)
  else s

/-- A MAC restarts auto-negotiation with a floor: its link is down until the PHY settles (R711). -/
def State.ethNegotiate (s : State) (m floor : Nat) : State :=
  (((s.off (fEthLink m)).put (fEthSpeed m) 0).put (fEthFloor m) floor).ethAdvertise m floor

/-- A MAC enabled: the floor is at the top of the mask (R711, R713). -/
def State.ethStart (s : State) (m : Nat) : State :=
  (s.setVeh { s.veh with ethErr := Tbl.drop s.veh.ethErr m }).ethNegotiate m
    (let k := s.get (fSpeedMask m)
     floorMask k (topBit k))

/-- ETH_ENABLE: a write to ETH_CFG that changes EN from 0 to 1 (R711). -/
def execEthEnable (fn : Fn) (m : Fin 5) (v : Word) (s : State) : Out :=
  if s.turnsAway fn then .next (s.turnedAway fn) else
  let m := m.val
  if s.flag (fEthEn m) ∨ (fEthEn m).ofWord v = 0 ∨ ¬ s.ethMayWrite fn m then .next s
  else if m < 4 ∧ s.blocksOff then .next (s.on fEthRejected)
  else .next ((s.setReg (kEthCfg m) (v &&& ethCfgBits m)).ethStart m)

/-- The SPEED code of a bit of a MAC's speed mask. -/
def speedCode (m b : Nat) : Nat := if m = 4 then (if b = 0 then 6 else b) else b + 1

/-- The bit of the mask of the speed in force. -/
def State.speedBit (s : State) (m : Nat) : Nat :=
  let c := s.get (fEthSpeed m)
  if m = 4 then (if c = 6 then 0 else c) else c - 1

/-- ETH_LINK_UP: the PHY settles at a speed, a bit of the mask (R711). -/
def execEthLinkUp (m : Fin 5) (speed : Fin 5) (fullDuplex : Bool) (s : State) : Out :=
  let m := m.val
  if !s.flag (fEthEn m) ∨ (m < 4 ∧ s.blocksOff) then .next s
  else if fullDuplex ∧ bitAt (s.get (fSpeedMask m)) speed.val then
    .next ((s.on (fEthLink m)).put (fEthSpeed m) (speedCode m speed.val))
  else .next (((s.off (fEthLink m)).put (fEthSpeed m) 0).report 0x7204 (srcEth m))

/-- ETH_LINK_DOWN: a MAC loses its link (R715). -/
def execEthLinkDown (m : Fin 5) (s : State) : Out :=
  let m := m.val
  if !s.flag (fEthLink m) then .next s
  else .next ((((s.off (fEthLink m)).put (fEthSpeed m) 0).bump (kEthCnt m 5)).report 0x7201 (srcEth m))

/-- A MAC steps down past its threshold (ETH_STEP_DOWN; R712). -/
def State.ethStepDown (s : State) (m : Nat) : State :=
  let below := s.get (fSpeedMask m) % 2 ^ (s.speedBit m)
  let s := s.setVeh { s.veh with ethErr := Tbl.drop s.veh.ethErr m }
  if below = 0 then s.report 0x7203 (srcEth m)
  else ((s.bumpFld (fEthDown m)).ethNegotiate m (floorMask below (topBit below))).report 0x7202 (srcEth m)

/-- One FCS or symbol error of an up link (R712). -/
def State.ethError (s : State) (m : Nat) : State :=
  let w := Tbl.getD s.veh.ethErr m ErrWindow.reset
  let w := if w.count = 0 ∨ 25000000 < s.tb.ticks - w.tick then { count := 1, tick := s.tb.ticks } else { w with count := w.count + 1 }
  let s := s.setVeh { s.veh with ethErr := Tbl.put s.veh.ethErr m w }
  if s.get (fEthThresh m) < w.count then s.ethStepDown m else s

/-- The station address of a MAC. -/
def State.stationMac (s : State) (m : Nat) : Nat :=
  (s.reg (0x43008 + 0x100 * m)).toNat + (s.reg (0x4300C + 0x100 * m)).toNat % 65536 * 2 ^ 32

/-- The MAC accepts a destination address (R708). -/
def State.ethAccepts (s : State) (m : Nat) (dst : BitVec 48) : Bool :=
  dst.toNat == s.stationMac m || dst == 0xFFFFFFFFFFFF#48 || dst == 0x011B19000000#48 || dst == 0x0180C200000E#48 ||
    (s.flag (fMcastAll m) && bitAt dst.toNat 40)

/-- Time messages of the MAC belong to the Timebase (R709). -/
def State.timePort (s : State) (m : Nat) : Bool :=
  ((s.get fTbSrc == 1 || s.get fTbSrc == 2) && s.get fTbPort == m) || (decide (m < 4) && bitAt (s.get fServeMask) m)

/-- A frame sent by a MAC (R710). -/
def State.ethSend (s : State) (m : Nat) (bs : List Byte) : State := (s.bump (kEthCnt m 4)).emit (.ethFrame m bs)

/-- An ARP reply (ARP_REPLY; R709, R710). [log 44: PRESUMED, unsafe] -/
def State.arpReply (s : State) (m : Nat) (senderMac : BitVec 48) (senderIp : Word) : State :=
  s.ethSend m (beBytes 6 senderMac.toNat ++ beBytes 6 (s.stationMac m) ++ beBytes 2 0x0806 ++ beBytes 2 1 ++ beBytes 2 0x0800 ++
    beBytes 1 6 ++ beBytes 1 4 ++ beBytes 2 2 ++ beBytes 6 (s.stationMac m) ++ beBytes 4 (s.reg (kEthIp m)).toNat ++
    beBytes 6 senderMac.toNat ++ beBytes 4 senderIp.toNat)

/-- A frame that no consumer but the tap takes (R709, R714). -/
def State.ethOther (s : State) (m : Nat) : State := s.bump (kEthCnt m 3)

/-- ETH_FRAME_RECEIVE: a frame from the PHY; its way to the tap, the Timebase or the Mill is HEDGEROW_PACKET,
DISCIPLINE_MESSAGE or RANGE_PACKET (R708, R709, R712, R714). -/
def execEthFrameReceive (m : Fin 5) (dst : BitVec 48) (kind : EthKind) (fcsOk symbolError overflow : Bool) (s : State) : Out :=
  let m := m.val
  if !s.flag (fEthLink m) then .next s
  else
    let s := if symbolError then s.ethError m else s
    if !fcsOk then .next ((s.bump (kEthCnt m 1)).ethError m)
    else if overflow then .next (s.bump (kEthCnt m 2))
    else if kind = .pause ∨ ¬ s.ethAccepts m dst then .next s
    else
      let s := s.bump (kEthCnt m 0)
      match kind with
      | .time => if s.timePort m then .next s else .next (s.ethOther m)
      | .arp mac ip target =>
        if s.flag (fArpEn m) ∧ target = s.reg (kEthIp m) then .next (s.arpReply m mac ip) else .next (s.ethOther m)
      | .udp pkt => if m < 4 ∧ (s.classify m pkt).isSome then .next s else .next (s.ethOther m)
      | _ => .next (s.ethOther m)

/-- The clockClass that the device serves as a 1588 master (R73, R76). -/
def State.clockClass (s : State) : Nat :=
  if s.get fTbState = tbLocked then 6 else if s.get fTbState = tbHoldover then 7 else 248

/-- The device sends this kind of message on the MAC in this role: a 1588 master on a served sensor MAC; else, on the selected port, an
802.1AS end station or a 1588 slave (R73). -/
def State.timeSends (s : State) (m : Nat) (served : Bool) (kind : TimeKind) : Bool :=
  let peer := kind == .pdelayReq || kind == .pdelayResp || kind == .pdelayFollowUp
  if served then decide (m < 4) && bitAt (s.get fServeMask) m && kind != .delayReq
  else s.get fTbPort == m && ((s.get fTbSrc == 1 && (peer || kind == .announce)) || (s.get fTbSrc == 2 && (peer || kind == .delayReq)))

/-- A message from its common header on, as the protocol fills it, with what R73 fixes in it: a Sync is two-step; an Announce served bears the
clockClass, and one of the end station priority1 255. [log 135: PRESUMED, unsafe] -/
def State.timeMessage (s : State) (served : Bool) (kind : TimeKind) (bytes : List Byte) : List Byte :=
  match kind with
  | .sync => bytes.set 6 (bytes.getD 6 0 ||| 2)
  | .announce => if served then bytes.set 48 (BitVec.ofNat 8 s.clockClass) else bytes.set 47 255
  | _ => bytes

/-- TIME_MESSAGE_TRANSMIT: the Timebase sends an IEEE 802.1AS or IEEE 1588 message, behind the headers of its transport (R73, R76, R710, R714). -/
def execTimeMessageTransmit (m : Fin 5) (served : Bool) (kind : TimeKind) (head bytes : List Byte) (s : State) : Out :=
  if s.flag (fEthLink m.val) && s.timeSends m.val served kind then .next (s.ethSend m.val (head ++ s.timeMessage served kind bytes)) else .next s

/-- TRIG_IN_EDGE: an edge at TRIG_IN[i] whose level has held heldNs by now; an accepted rising one is stamped (R716), and an accepted one of a ball in
PWR_WAKE_SRC asks for a wake (R750). -/
def execTrigInEdge (i : Fin 4) (rising : Bool) (heldNs : Nat) (s : State) : Out :=
  if s.filterAccepts heldNs then
    if rising then
      let s1 := s.drawn.setReg64 (kTrigStamp i.val) (BitVec.ofNat 64 (s.stampOf heldNs))
      if s.flag (fWakeSrc i.val) then .next s1.wakeAsked else .next s1
    else if s.flag (fWakeSrc i.val) then .next (s.filtered heldNs).wakeAsked
    else .next (s.filtered heldNs)
  else .next ((s.filtered heldNs).bump kPinGlitch)

end Sys2Proof.Machine
end

