-- ==== Sys2Proof/Machine/Crash.lean ====
section
/-! DEFINITION. The crash record's layout (R628 to R632). -/

namespace Sys2Proof.Machine

/-- HRT_STATUS of core k (06, Registers): FROZEN until the SEQ reset (R249, R255). -/
def State.hrtStatus (s : State) (k : Nat) : Word :=
  let c := s.core k
  let job := match c.job with
    | some j => 2 ^ 31 + j.dt * 2 ^ 16 + j.part * 2 ^ 8
    | none => 0
  BitVec.ofNat 32 (job + 2 ^ 30 * b2n (c.frozen && !c.thawed.contains 0))

/-- PART_STATUS, with ENABLED (14, Registers). -/
def State.partStatus (s : State) : Word :=
  BitVec.ofNat 32 (((s.reg 0x28004).toNat &&& 0xFFFF00FF) + ((List.range 8).map (fun p => 2 ^ (8 + p) * b2n (s.partEnabled p))).foldl (· + ·) 0)

/-- A queue entry of a peel, with where it stands. -/
structure PeelRec where
  core : Nat
  q : Nat
  ent : PeelEnt
  deriving DecidableEq, Repr

/-- Every entry of every peel's queue: ascending core, LPEEL before SPEEL, oldest first (R632). -/
def State.peelRecs (s : State) : List PeelRec :=
  (List.range s.nCores).flatMap (fun k =>
    (s.core k).lpeelQ.map (fun e => { core := k, q := 0, ent := e }) ++ (s.core k).speelQ.map (fun e => { core := k, q := 1, ent := e }))

/-- The places in the list of records that R632 drops first to last: QUEUED, then those awaiting completion, newest first and from the
highest core down; ISSUING is never dropped. -/
def dropOrder (l : List PeelRec) : List Nat :=
  let r := (numbered l).reverse
  (r.filter (fun x => x.2.ent.st == 0) ++ r.filter (fun x => x.2.ent.st == 2) ++ r.filter (fun x => x.2.ent.st == 3)).map (·.1)

/-- The records that fit in so many bytes (R632). -/
def peelsKept (l : List PeelRec) (room : Nat) : List PeelRec :=
  let out := (dropOrder l).take (l.length - room / 48)
  ((numbered l).filter (fun x => !out.contains x.1)).map (·.2)

/-- The core section of logical core k (R629). -/
def State.coreSection (s : State) (kept : List PeelRec) (parity : BitVec 16) (k : Nat) : List Byte :=
  let c := s.core k
  let recs (q : Nat) : Nat := (kept.filter (fun x => x.core == k && x.q == q)).length
  padTo 128 (
    leBytes 4 (s.hrtStatus k).toNat ++ leBytes 4 (s.engStates k) ++ leBytes 4 (s.reg (kCore k 8)).toNat ++ leBytes 4 (s.reg (kFaultInfo k)).toNat ++
    leBytes 8 c.pc.toNat ++ leBytes 8 c.sig.toNat ++ (List.range 4).flatMap (fun e => leBytes 8 (c.enginePc e).toNat) ++
    leBytes 4 c.twinCrc ++ leBytes 4 c.fill ++ leBytes 4 (s.reg (kTal k 0x180)).toNat ++ leBytes 4 (s.reg (kCore k 0xC30)).toNat ++
    leBytes 8 (s.reg64 (kFaultBundle k)).toNat ++ leBytes 2 (recs 0) ++ leBytes 2 (recs 1) ++ leBytes 1 (b2n (parity.toNat.testBit k))) ++
  c.t.flatMap (fun n => leBytes 6 n) ++ c.tcfg.flatMap (fun w => leBytes 4 w.toNat) ++ c.arrayHead

/-- The state of a Dispatch Table entry in the record: 1 running, 2 pre-empted, 3 retired (R630). -/
def State.dtState (s : State) (e : DtEnt) : Nat :=
  if e.saved.isSome then 2 else if (s.retiredOf e).isSome then 3 else 1

/-- An entry of the Dispatch Table section (R630). -/
def State.dtRecord (s : State) (i : Nat) (e : DtEnt) : List Byte :=
  leBytes 2 i ++ leBytes 2 e.queue ++ leBytes 1 e.part ++ leBytes 1 e.core ++ leBytes 1 (s.dtState e) ++
    leBytes 1 (b2n (e.desc.twinId != 0) + 2 * b2n e.preempted + 4 * b2n e.desc.fdmEn) ++ leBytes 4 e.pos ++ leBytes 4 e.frame.toNat

/-- The queues that own a Dispatch Table entry, ascending. -/
def State.dtQueues (s : State) : List (Nat × QueueSt) := s.qm.queues.filter (fun x => s.qm.dt.any (fun y => y.2.queue == x.1))

/-- An entry of the queue section (R631). -/
def queueRecord (i : Nat) (q : QueueSt) : List Byte :=
  leBytes 2 i ++ leBytes 1 (q.owner + 8 * b2n q.isFrame) ++ leBytes 1 q.state ++ leBytes 2 q.prod ++ leBytes 2 q.cons ++
    leBytes 4 q.disp.toNat ++ leBytes 4 q.recs.toNat

/-- The header of a crash record before its CRC (R628). -/
def crashHeader (h : CrashHead) (length secure restart device cores : Nat) (flags dts qs peels omitted dtOff qOff peelOff : Nat)
    (joined : List (BitVec 16 × BitVec 16)) : List Byte :=
  padTo 252 (
    leBytes 4 0x31445243 ++ leBytes 4 length ++ leBytes 2 h.cause.toNat ++ leBytes 2 h.source.toNat ++ leBytes 2 h.recovery ++ leBytes 1 device ++
    leBytes 1 h.modeBefore ++ leBytes 8 h.detect ++ leBytes 8 secure ++ leBytes 4 h.frame.toNat ++ leBytes 4 restart ++ leBytes 8 h.info.toNat ++
    leBytes 1 flags ++ leBytes 1 (h.originDev.getD 0) ++ leBytes 1 cores ++ leBytes 1 (min joined.length 255) ++
    leBytes 2 dts ++ leBytes 2 qs ++ leBytes 2 peels ++ leBytes 2 omitted ++ leBytes 4 dtOff ++ leBytes 4 qOff ++ leBytes 4 peelOff ++
    padTo 32 ((joined.take 8).flatMap (fun x => leBytes 2 x.1.toNat ++ leBytes 2 x.2.toNat)) ++
    h.status.flatMap (fun w => leBytes 4 w.toNat))

/-- A crash record (R625, R628): the sections, of which the capture has read bytes up to `read`; parity tells which words failed their
check, by core and elsewhere. [log 101: DEDUCED, unsafe] -/
def State.crashRecord (s : State) (h : CrashHead) (r : Recovery) (read : Nat) (parity : Bool) (parityCores : BitVec 16) : List Byte :=
  let n := s.nCores
  let dtOff := 256 + 960 * n
  let dts := s.qm.dt.length
  let qs := s.dtQueues.length
  let qOff := dtOff + 16 * dts
  let peelOff := qOff + 16 * qs
  let all := s.peelRecs
  let kept := peelsKept all (65536 - peelOff)
  let length := peelOff + 48 * kept.length
  let body := (List.range n).flatMap (s.coreSection kept parityCores) ++ s.qm.dt.flatMap (fun x => s.dtRecord x.1 x.2) ++
    s.dtQueues.flatMap (fun x => queueRecord x.1 x.2) ++ kept.flatMap (fun x => x.ent.bytes)
  let content := padTo (length - 256) (body.take (read - 256))
  let omitted := all.length - kept.length
  let flags := b2n (read < length) + 2 * b2n (omitted != 0) + 4 * b2n h.originDev.isSome + 8 * b2n h.heldEntry + 16 * b2n (parity || parityCores != 0)
  let restart := if r.noRestart then 0xFFFFFFFF else (match s.restartFrame r.detect r.minFrame with | some w => w.toNat | none => 0xFFFFFFFF)
  let head := crashHeader h length s.now restart (s.get fDevIndex) n flags dts qs kept.length omitted dtOff qOff peelOff r.joined
  head ++ leBytes 4 (crc32c (head ++ content)) ++ content

end Sys2Proof.Machine
end

