-- ==== Sys2Proof/Machine/Images.lean ====
section
/-! DEFINITION. The boot flash: the selector, the boot configuration block, images and the compatibility manifest (R752 to R760). -/

namespace Sys2Proof.Machine

/-- Bytes from a to b are zero. -/
def zeros (bs : List Byte) (a b : Nat) : Bool := ((bs.drop a).take (b - a)).all (· == 0)

/-- The SEQ and the bank of a selector copy, if it is valid (R753). -/
def selectorOf (bs : List Byte) : Option (Nat × Nat) :=
  if bs.length = 64 ∧ fieldAt bs 0 4 = 0x4C455342 ∧ fieldAt bs 8 1 ≤ 1 ∧ zeros bs 9 60 ∧ fieldAt bs 60 4 = crc32c (bs.take 60) then
    some (fieldAt bs 4 4, fieldAt bs 8 1)
  else none

/-- The selector in force: the copy that holds it, its SEQ and its bank; none where neither copy is valid (R753).  Which of two copies
with one SEQ is taken is open. -/
def Flash.inForce (f : Flash) : Option (Nat × Nat × Nat) :=
  match selectorOf f.sel0, selectorOf f.sel1 with
  | some (a, x), some (b, y) =>
    if b < a then some (0, a, x) else if a < b then some (1, b, y)
    else if Config.selectorTie a then some (1, b, y) else some (0, a, x)
  | some (a, x), none => some (0, a, x)
  | none, some (b, y) => some (1, b, y)
  | none, none => none

/-- The bank in force, A without a valid copy, and its SEQ (R753). -/
def Flash.bank (f : Flash) : Nat := match f.inForce with | some (_, _, b) => b | none => 0
def Flash.seq (f : Flash) : Nat := match f.inForce with | some (_, n, _) => n | none => 0

/-- The bytes of a selector copy (R753). -/
def selectorBytes (seq bank : Nat) : List Byte :=
  let body := leBytes 4 0x4C455342 ++ leBytes 4 seq ++ leBytes 1 bank ++ List.replicate 51 0
  body ++ leBytes 4 (crc32c body)

/-- The slot of an image kind in a bank: 1 Steward, 2 Reeve, 3 manifest, 4 HCB. -/
def slotOf (bank kind : Nat) : Nat := 4 * bank + (kind - 1)

/-- The bytes that a slot holds. -/
def Flash.image (f : Flash) (bank kind : Nat) : List Byte := Tbl.getD f.slots (slotOf bank kind) []

/-- The size of a slot (R752). -/
def slotSize (kind : Nat) : Nat := if kind = 1 then 0x100000 else if kind = 2 then 0x80000 else 0x10000

/-- VERSION and LENGTH of an image's header, and its body (R755). -/
def imageVersion (bs : List Byte) : Nat := fieldAt bs 8 4
def imageLength (bs : List Byte) : Nat := fieldAt bs 12 4
def imageBody (bs : List Byte) : List Byte := (bs.drop 128).take (imageLength bs)

/-- The image is signed, and its body has its digest (R756). -/
def imageSigned (fwk bs : List Byte) : Bool :=
  (bs.drop 96).take 32 == hmac fwk (bs.take 96) && (bs.drop 16).take 32 == sha256 (imageBody bs) && (imageBody bs).length == imageLength bs

/-- The other checks of R756. -/
def imageFormed (kind : Nat) (bs : List Byte) : Bool :=
  decide (128 ≤ bs.length) && fieldAt bs 0 4 == 0x4D495746 && fieldAt bs 4 1 == kind && decide (imageLength bs + 128 ≤ slotSize kind) &&
    zeros bs 5 8 && zeros bs 48 96

/-- The image is valid for the slot of its kind (R756). -/
def imageOk (fwk : List Byte) (kind : Nat) (bs : List Byte) : Bool := imageFormed kind bs && imageSigned fwk bs

/-- A pair entry: STW_VER, REEVE_VER and CLASS; a runtime entry: RT_MIN, RT_MAX, PAIR_INDEX and CLASS (R757). -/
structure Manifest where
  pairs : List (Nat × Nat × Nat)
  runtimes : List (Nat × Nat × Nat × Nat)
  deriving DecidableEq, Repr

/-- No two pair entries name the same pair. -/
def distinctPairs : List (Nat × Nat × Nat) → Bool
  | [] => true
  | x :: l => l.all (fun y => !(y.1 == x.1 && y.2.1 == x.2.1)) && distinctPairs l

/-- The manifest that a body spells, unless R758 makes it invalid. -/
def manifestOf (body : List Byte) : Option Manifest :=
  let np := fieldAt body 0 4
  let nr := fieldAt body 4 4
  if np < 1 ∨ 256 < np ∨ 256 < nr ∨ body.length ≠ 16 + 16 * (np + nr) then none
  else
    let at_ (i : Nat) : List Byte := (body.drop (16 + 16 * i)).take 16
    let pairs := (List.range np).map (fun i => (fieldAt (at_ i) 0 4, fieldAt (at_ i) 4 4, fieldAt (at_ i) 8 1))
    let rts := (List.range nr).map (fun j => (fieldAt (at_ (np + j)) 0 4, fieldAt (at_ (np + j)) 4 4, fieldAt (at_ (np + j)) 8 2, fieldAt (at_ (np + j)) 10 1))
    let class_ (c : Nat) : Bool := c == 1 || c == 2
    let tested (i : Nat) : Bool := match pairs[i]? with | some p => p.2.2 == 1 | none => false
    if zeros body 8 16 && pairs.all (fun p => class_ p.2.2) && (List.range np).all (fun i => zeros (at_ i) 9 16) && distinctPairs pairs &&
        rts.all (fun r => class_ r.2.2.2 && decide (r.1 ≤ r.2.1) && tested r.2.2.1) && (List.range nr).all (fun j => zeros (at_ (np + j)) 11 16) then
      some { pairs, runtimes := rts }
    else none

/-- The manifest of a bank, if its image is valid (R756, R758). -/
def Flash.manifest (f : Flash) (fwk : List Byte) (bank : Nat) : Option Manifest :=
  if imageOk fwk 3 (f.image bank 3) then manifestOf (imageBody (f.image bank 3)) else none

/-- The class of a pair: 0 untested, 1 TESTED, 2 INCOMPATIBLE (R759). -/
def Manifest.pairClass (m : Manifest) (stw reeve : Nat) : Nat :=
  match m.pairs.find? (fun p => p.1 == stw && p.2.1 == reeve) with
  | some p => p.2.2
  | none => 0

/-- The class of a runtime version against a pair, if it is listed (R760). -/
def Manifest.runtimeClass (m : Manifest) (stw reeve v : Nat) : Option Nat :=
  let names (i : Nat) : Bool := match m.pairs[i]? with | some p => p.1 == stw && p.2.1 == reeve | none => false
  (m.runtimes.find? (fun r => names r.2.2.1 && decide (r.1 ≤ v) && decide (v ≤ r.2.1))).map (fun r => r.2.2.2)

/-- The core-and-SRAM ceiling of a grade, in W, at BOOST or not (R808). -/
def Grade.ceiling (g : Grade) (boost : Bool) : Nat :=
  match g, boost with
  | .frw1600, false => 70
  | .frw1600, true => 84
  | .frw1200, false => 52
  | .frw1200, true => 63
  | .frw0800, false => 35
  | .frw0800, true => 42

/-- T_THR and T_PAUSE lie within their ranges (20, Registers). -/
def thermInRange (thr pause : Nat) : Bool := decide (90 ≤ thr) && decide (thr ≤ 117) && decide (thr + 5 ≤ pause) && decide (pause ≤ 122)

/-- The boot configuration block (R754). -/
structure Bcb where
  rate : Nat
  boost : Bool
  limit : Nat
  thr : Nat
  pause : Nat
  deriving DecidableEq, Repr

/-- The block that bytes spell, if it is valid for the part (R754). -/
def bcbOf (g : Grade) (bs : List Byte) : Option Bcb :=
  let b (i : Nat) : Nat := fieldAt bs i 1
  if bs.length = 64 ∧ fieldAt bs 0 4 = 0x31424342 ∧ zeros bs 9 60 ∧ fieldAt bs 60 4 = crc32c (bs.take 60) ∧ b 4 ≤ 2 ∧ b 5 ≤ 1 ∧
      20 ≤ b 6 ∧ b 6 ≤ g.ceiling (b 5 == 1) ∧ thermInRange (b 7) (b 8) then
    some { rate := b 4, boost := b 5 == 1, limit := b 6, thr := b 7, pause := b 8 }
  else none

end Sys2Proof.Machine
end

