-- ==== Sys2Proof/Machine/Hedgerow.lean ====
section
/-! DEFINITION. Hedgerow: its configuration block, occupancy grid, fields and heartbeats, and the Reeve's self-test
(03_safety_concept.md). -/

namespace Sys2Proof.Machine

-- THE HCB

/-- A signed little-endian field. -/
def sFieldAt (bs : List Byte) (off n : Nat) : Int := sgn (8 * n) (fieldAt bs off n)

/-- A coordinate lies inside the grid (R104, R114). -/
def inGrid (v : Int) : Bool := decide (-12800 ≤ v) && decide (v < 12800)

/-- n vertices from an offset on. -/
def verticesAt (bs : List Byte) (off n : Nat) : List (Int × Int) :=
  (List.range n).map (fun i => (sFieldAt bs (off + 4 * i) 2, sFieldAt bs (off + 4 * i + 2) 2))

/-- The little-endian words that bytes spell. -/
def wordsOf : List Byte → List Word
  | a :: b :: c :: d :: r => BitVec.ofNat 32 (leNat [a, b, c, d]) :: wordsOf r
  | _ => []

/-- A stream entry of the HCB (R114). -/
def hcbStreamAt (bs : List Byte) (i : Nat) : HcbStream :=
  let o := 152 + 32 * i
  { stream := fieldAt bs o 1, timeoutMs := fieldAt bs (o + 2) 2,
    mount := (List.range 6).map (fun j => sFieldAt bs (o + 4 + 2 * j) 2),
    prog := wordsOf ((bs.drop (fieldAt bs (o + 16) 4)).take (fieldAt bs (o + 20) 2)) }

/-- A stream entry's fields are in range and its program lies inside the block (R114, R115). -/
def hcbStreamOk (bs : List Byte) (length i : Nat) : Bool :=
  let o := 152 + 32 * i
  let st := fieldAt bs o 1
  let tmo := fieldAt bs (o + 2) 2
  let p := fieldAt bs (o + 16) 4
  decide (16 ≤ st) && decide (st ≤ 23) && fieldAt bs (o + 1) 1 == 0 && decide (20 ≤ tmo) && decide (tmo ≤ 500) &&
    decide (280 ≤ p) && decide (p + fieldAt bs (o + 20) 2 ≤ length - 4) && zeros bs (o + 22) (o + 32)

/-- The HCB that bytes spell, if it is valid (R114, R115). -/
def hcbOf (bs : List Byte) : Option Hcb :=
  let length := fieldAt bs 6 2
  let n := fieldAt bs 8 1
  let minPts := fieldAt bs 9 1
  let zMin := sFieldAt bs 10 2
  let zMax := sFieldAt bs 12 2
  let creep := fieldAt bs 14 2
  let fb := fieldAt bs 16 2
  let rel := fieldAt bs 18 2
  let pfn := fieldAt bs 20 1
  let wfn := fieldAt bs 21 1
  let pf := verticesAt bs 24 pfn
  let wf := verticesAt bs 88 wfn
  let crc := fieldAt bs (length - 4) 4
  if fieldAt bs 0 4 = 0x48434231 ∧ 284 ≤ length ∧ length ≤ bs.length ∧ 1 ≤ n ∧ n ≤ 4 ∧ 1 ≤ minPts ∧ minPts ≤ 16 ∧ zMin < zMax ∧
      5 ≤ creep ∧ creep ≤ 30 ∧ 100 ≤ fb ∧ fb ≤ 10000 ∧ 500 ≤ rel ∧ rel ≤ 10000 ∧ 3 ≤ pfn ∧ pfn ≤ 16 ∧
      (wfn = 0 ∨ 3 ≤ wfn) ∧ wfn ≤ 16 ∧ fieldAt bs 22 2 = 0 ∧
      (pf ++ wf).all (fun v => inGrid v.1 && inGrid v.2) ∧ zeros bs (24 + 4 * pfn) 88 ∧ zeros bs (88 + 4 * wfn) 152 ∧
      (List.range n).all (hcbStreamOk bs length) ∧ zeros bs (152 + 32 * n) 280 ∧ crc32c (bs.take (length - 4)) = crc then
    some { version := fieldAt bs 4 2, length, crc, minPoints := minPts, zMin, zMax, creepSpeed := creep, fallbackMax := fb,
           releaseMs := rel, pf, wf, streams := (List.range n).map (hcbStreamAt bs) }
  else none

/-- HDG_STREAMS: byte i for input i. -/
def hdgStreamsWord (l : List HcbStream) : Nat :=
  ((l.zipIdx).map (fun e => (0x80 + e.1.stream) * 256 ^ e.2)).foldl (· + ·) 0

/-- HEDGEROW_HCB_LOAD: Hedgerow reads the HCB of the bank in force through its own flash port, once; the block then stays until power-on
reset (R114, R115, R753). -/
def execHedgerowHcbLoad (s : State) : Out :=
  if s.hdg.read || !s.boot.begun then .next s
  else
    let s := s.setHdg { s.hdg with read := true }
    match hcbOf (s.boot.flash.image s.boot.flash.bank 4) with
    | some h =>
      let s := s.setHdg { s.hdg with hcb := some h, inputs := [] }
      .next ((((s.on fHcbValid).setReg 0x8004 (BitVec.ofNat 32 (h.version * 65536 + h.length))).setReg 0x8008 (BitVec.ofNat 32 h.crc)).setReg
        0x800C (BitVec.ofNat 32 (hdgStreamsWord h.streams)))
    | none => .next ((s.hdgHeld 0xA305).heldFault 0xA305 (srcOf 8 0 0))

-- THE GRID

/-- A point in the vehicle frame, in mm: an exact translation for an unrotated Cartesian point (R104). -/
def hdgPoint (st : HcbStream) (cart : Bool) (a b c : Int) : Int × Int × Int :=
  let m (i : Nat) : Int := st.mount.getD i 0
  if cart ∧ m 3 = 0 ∧ m 4 = 0 ∧ m 5 = 0 then (a + m 0, b + m 1, c + m 2) else Config.hdgTransform st.mount cart a b c

/-- The cell, 256 × iy + ix, of a point that counts (R104 to R106). -/
def cellAt (h : Hcb) (p : Int × Int × Int) : Option Nat :=
  if inGrid p.1 && inGrid p.2.1 && decide (h.zMin ≤ p.2.2) && decide (p.2.2 ≤ h.zMax) then
    some (((p.2.1 + 12800) / 100).toNat * 256 + ((p.1 + 12800) / 100).toNat)
  else none

/-- The sweep in progress with one more point record; a record marked UNKNOWN counts toward no cell. -/
def HdgInput.point (inp : HdgInput) (h : Hcb) (st : HcbStream) (rec : List Byte) : HdgInput :=
  let fl := fieldAt rec 14 1
  match cellAt h (hdgPoint st (bitAt fl 1) (sFieldAt rec 0 4) (sFieldAt rec 4 4) (sFieldAt rec 8 4)), bitAt fl 0 with
  | some c, false => { inp with cur := Tbl.put inp.cur c (Tbl.getD inp.cur c 0 + 1) }
  | _, _ => inp

/-- A sweep completes: a clean one covers the grid, one with a damaged packet leaves the input unknown (R107, R108). -/
def HdgInput.sweep (inp : HdgInput) : HdgInput :=
  if inp.curDirty then { inp with cur := [], curDirty := false }
  else { inp with counts := inp.cur, cur := [], dirty := false, covered := true }

/-- One effect of an accepted packet on its input. -/
def HdgInput.effect (h : Hcb) (st : HcbStream) (inp : HdgInput) : ParseEff → HdgInput
  | .point rec => inp.point h st rec
  | .stamp _ => inp
  | .sweep => inp.sweep

/-- A damaged packet: every cell of the input is UNKNOWN until it completes a sweep without one (R108). -/
def HdgInput.damaged (inp : HdgInput) : HdgInput := { inp with counts := [], curDirty := true, dirty := true, covered := false }

/-- An input set, and its bit in INPUT_OK. -/
def State.setHdgInput (s : State) (i : Nat) (inp : HdgInput) : State :=
  (s.setHdg { s.hdg with inputs := Tbl.put s.hdg.inputs i inp }).put (fInputOk i) (b2n inp.covered)

/-- A damaged or dropped packet of input i, counted (R108). -/
def State.hdgDamaged (s : State) (i : Nat) : State := (s.setHdgInput i (s.hdgInput i).damaged).bump kHdgInputLoss

/-- The packet's IPv4 and UDP layers are sound (R108, R149). -/
def udpSound (pkt : UdpPacket) : Bool :=
  pkt.checksumOk && !pkt.fragment && !pkt.malformed && pkt.udpHeader && !pkt.payload.isEmpty && decide (pkt.payload.length ≤ 8192)

/-- One tapped packet for one input: parsed by the HCB's program and counted (R103, R107, R108). -/
def State.hdgPacket (s : State) (h : Hcb) (i : Nat) (pkt : UdpPacket) : State :=
  match h.streams[i]? with
  | none => s
  | some st =>
    if !udpSound pkt then s.hdgDamaged i
    else
      let inp := s.hdgInput i
      let code (j : Nat) : Option Word := st.prog[j]?
      match parserRunAll code code s.free 65536 (ParserRun.start inp.g inp.expected 0 pkt.payload) with
      | .accept r =>
        let inp := r.effects.foldl (HdgInput.effect h st) { inp with g := r.g, expected := r.expected }
        (s.setHdgInput i inp).drawn
      | .reject _ _ r => ((s.setHdgInput i { inp with g := r.g, expected := r.expected }).hdgDamaged i).drawn
      | .cont _ => s

/-- A packet that arrives on a MAC belongs to an input with this binding; one without a UDP header belongs to every input of the MAC (R108,
R149). [log 45: DEDUCED, unsafe] -/
def bindingTakes (b : HdgBinding) (mac : Fin 4) (pkt : UdpPacket) : Bool :=
  b.mac == mac && decide (pkt.tags ≤ 1) && (!pkt.udpHeader || (b.port == pkt.dstPort && (b.srcIp == 0 || b.srcIp == pkt.srcIp)))

/-- The inputs that a packet from the tap belongs to (R108). -/
def hdgInputsOf (n : Nat) (binds : List HdgBinding) (mac : Fin 4) (pkt : UdpPacket) : List Nat :=
  (List.range n).filter (fun i => match binds[i]? with | some b => bindingTakes b mac pkt | none => false)

/-- HEDGEROW_PACKET: a packet from the tap of a MAC, attributed to its inputs by the board's bindings; dropped: the offered rate exceeds
what Hedgerow processes (R103, R106 to R108, R111). [log 45: DEDUCED, unsafe] -/
def execHedgerowPacket (binds : List HdgBinding) (mac : Fin 4) (pkt : UdpPacket) (dropped : Bool) (s : State) : Out :=
  match s.hdg.hcb with
  | none => .next s
  | some h =>
    let at_ := hdgInputsOf h.streams.length binds mac pkt
    if !s.hdg.alive then .next s
    else if dropped then .next (at_.foldl State.hdgDamaged (s.bump kHdgOverrun))
    else .next (at_.foldl (fun s i => s.hdgPacket h i pkt) s)

/-- A cell is OCCUPIED (R107). -/
def cellOccupied (h : Hcb) (inputs : Tbl HdgInput) (c : Nat) : Bool :=
  inputs.any (fun e => !e.2.dirty && decide (h.minPoints ≤ Tbl.getD e.2.counts c 0))

/-- Some input has covered the cell by a clean sweep within its timeout: the cell lies where its sensor looks, or has had a point (R107).
[log 139: DESIGN CHOICE, safe] -/
def cellCovered (h : Hcb) (inputs : Tbl HdgInput) (c : Nat) : Bool :=
  inputs.any (fun e => e.2.covered && (decide (0 < Tbl.getD e.2.counts c 0) ||
    (match h.streams[e.1]? with | some st => Config.hdgCovers st.mount st.stream c | none => false)))

/-- A cell's state: 0 FREE, 1 OCCUPIED, 2 UNKNOWN (R107). -/
def cellState (h : Option Hcb) (inputs : Tbl HdgInput) (c : Nat) : Nat :=
  match h with
  | none => 2
  | some h => if cellOccupied h inputs c then 1 else if cellCovered h inputs c then 0 else 2

/-- The edge from a to b is crossed by the ray from (x, y) toward larger x. [log 36: DEDUCED, unsafe] -/
def crosses (x y : Int) (a b : Int × Int) : Bool :=
  (decide (y < a.2) != decide (y < b.2)) &&
    (let d := b.2 - a.2
     let n := (b.1 - a.1) * (y - a.2) - (x - a.1) * d
     if 0 < d then decide (0 < n) else decide (n < 0))

/-- The point lies inside the polygon under the even-odd rule (R109). -/
def insidePoly (poly : List (Int × Int)) (x y : Int) : Bool :=
  match poly with
  | [] => false
  | v :: _ => ((poly.zip (poly.drop 1 ++ [v])).filter (fun e => crosses x y e.1 e.2)).length % 2 == 1

/-- A cell lies in a field: its centre does (R109). -/
def cellIn (poly : List (Int × Int)) (c : Nat) : Bool :=
  insidePoly poly (((c % 256 : Nat) : Int) * 100 - 12750) (((c / 256 : Nat) : Int) * 100 - 12750)

/-- A field is intruded or unknown (R109). -/
def fieldIntruded (h : Hcb) (inputs : Tbl HdgInput) (poly : List (Int × Int)) : Bool :=
  (List.range 65536).any (fun c => cellIn poly c && cellState (some h) inputs c != 0)

/-- A cell of the field has become OCCUPIED or UNKNOWN since the evaluation that saw the inputs `seen` (R110). [log 139: DESIGN CHOICE, safe] -/
def newlyIntruded (h : Hcb) (seen inputs : Tbl HdgInput) (poly : List (Int × Int)) : Bool :=
  (List.range 65536).any (fun c => cellIn poly c && cellState (some h) inputs c != 0 && cellState (some h) inputs c != cellState (some h) seen c)

/-- FIELD_EVALUATION: every 2 ms.  reactUs: the reaction time that Hedgerow's own oscillator gives, recorded where a cell of the protective
field has become OCCUPIED or UNKNOWN; a Safe-Stop with STOP then goes out whatever the command was (R109, R110). -/
def execFieldEvaluation (reactUs : Nat) (s : State) : Out :=
  match s.hdg.hcb with
  | none => .next s
  | some h =>
    if !s.hdg.alive then .next s
    else
      let pf := fieldIntruded h s.hdg.inputs h.pf
      let wf := fieldIntruded h s.hdg.inputs h.wf
      let fresh := newlyIntruded h s.hdg.seen s.hdg.inputs h.pf
      let stopped := s.get fHdgCmd == cmdStop
      let s := if pf && !s.flag fPfIntruded then s.bump kHdgIntrude else s
      let s := if fresh then s.put fReactMax (max (s.get fReactMax) (min reactUs 65535)) else s
      let s := if wf && !s.flag fWfIntruded then s.bump kHdgWarn else s
      let s := s.setHdg { s.hdg with seen := s.hdg.inputs }
      let s := ((s.put fPfIntruded (b2n pf)).put fWfIntruded (b2n wf)).hdgUpdate
      .next (if fresh && stopped then s.hdgFill cmdStop else s)

/-- HEDGEROW_INPUT_TIMEOUT: so many ms without a clean sweep of an input (R107). -/
def execHedgerowInputTimeout (i : Fin 4) (elapsedMs : Nat) (s : State) : Out :=
  match s.hdg.hcb with
  | none => .next s
  | some h =>
    match h.streams[i.val]? with
    | some st =>
      if s.hdg.alive && decide (st.timeoutMs ≤ elapsedMs) && (s.hdgInput i.val).covered then
        .next ((s.setHdgInput i.val { s.hdgInput i.val with covered := false }).bump kHdgInputLoss)
      else .next s
    | none => .next s

/-- HEDGEROW_RELEASE_EXPIRY: the command has not been STOP for so many ms (R85). -/
def execHedgerowReleaseExpiry (elapsedMs : Nat) (s : State) : Out :=
  match s.hdg.hcb with
  | some h =>
    if s.hdg.alive && decide (h.releaseMs ≤ elapsedMs) && s.get fHdgCmd != cmdStop && s.get fHdgMode != 2 then .next (s.off fStopDrive)
    else .next s
  | none => .next s

/-- FALLBACK_MAX_EXPIRY: RECOVERY has lasted so many ms (R94). -/
def execFallbackMaxExpiry (elapsedMs : Nat) (s : State) : Out :=
  match s.hdg.hcb with
  | some h =>
    if s.hdg.alive && s.get fHdgMode == 1 && decide (h.fallbackMax < elapsedMs) then .next ((s.on fFbTimeout).hdgUpdate) else .next s
  | none => .next s

-- HEARTBEATS

/-- HEARTBEAT_SEND: the Reeve, or Hedgerow, sends the other its heartbeat (R113). -/
def execHeartbeatSend (fromReeve : Bool) (s : State) : Out :=
  if fromReeve then (if s.reeve.alive then .next (s.on fReeveOk) else .next s)
  else if s.hdg.alive ∧ s.reeve.alive then .next (s.setReeve { s.reeve with hearsHedgerow := true }) else .next s

/-- The Reeve acts no more (R129). -/
def State.reeveLost (s : State) (code : Nat) : State :=
  let s := (s.off fReeveOk).setReeve { s.reeve with alive := false }
  let s := s.hdgHeld code
  if s.hdg.alive then s.hdgFill cmdStop else s

/-- REEVE_HEARTBEAT_LOSS: Hedgerow has had no Reeve heartbeat for so many ms (R113, R128, R129). -/
def execReeveHeartbeatLoss (elapsedMs : Nat) (s : State) : Out :=
  if s.hdg.alive ∧ s.flag fReeveOk ∧ 3 ≤ elapsedMs then .next ((s.reeveLost 0xA304).heldFault 0xA304 (srcOf 8 0 0))
  else .next s

/-- The failure is one that shows now: three ms of silence, or a mismatch or an error of a Hedgerow that runs (R89). -/
def State.hdgFails (s : State) : HdgLoss → Bool
  | .silent ms => decide (3 ≤ ms)
  | .lockstep => s.hdg.alive
  | .sramEcc => s.hdg.alive

/-- A Hedgerow whose lockstep or SRAM has failed commands no more; its driver stays as it is. [log 140: DEDUCED, unsafe] -/
def State.hdgStops (s : State) : HdgLoss → State
  | .silent _ => s
  | .lockstep => s.setHdg { s.hdg with alive := false }
  | .sramEcc => s.setHdg { s.hdg with alive := false }

/-- HEDGEROW_HEARTBEAT_LOSS: the Reeve has had no Hedgerow heartbeat for so many ms, or Hedgerow's own lockstep or SRAM ECC has failed (R89,
R113, R130). -/
def execHedgerowHeartbeatLoss (loss : HdgLoss) (s : State) : Out :=
  if !s.hdgFails loss then .next s
  else
    let s := s.hdgStops loss
    if s.reeve.alive ∧ s.reeve.hearsHedgerow then
      let s := (s.setReeve { s.reeve with hearsHedgerow := false }).on fDriveOther
      .next ((s.heldFault 0xA303 (srcOf 9 0 0)).reeveFill)
    else .next s

/-- REEVE_LOCKSTEP_MISMATCH: signalled to Hedgerow directly (R113, R128). -/
def execReeveLockstepMismatch (s : State) : Out :=
  if s.reeve.alive then .next ((s.reeveLost 0xA306).heldFault 0xA306 (srcOf 9 0 0)) else .next s

/-- HDG_SUPPLY_FAULT: VDD_HDG has been outside its window for so many µs (R818). -/
def execHdgSupplyFault (elapsedUs : Nat) (s : State) : Out :=
  if s.hdg.alive ∧ 10 ≤ elapsedUs then
    let s := (s.on fStopDrive).hdgFill cmdStop
    .next (s.setHdg { s.hdg with alive := false })
  else .next s

-- SELF-TEST

/-- The source of a self-test's code (R613). -/
def srcReeve : BitVec 16 := srcOf 9 0 0

/-- A core's diagnostics (R116). -/
def coreDiagnostics (k : CoreId) : List Diagnostic := [.checkLane k, .residue k, .decoders (some k), .timeouts k, .signature k]

/-- The diagnostics of one pass: those of every enabled core, and the others (R116). -/
def State.diagnostics (s : State) : List Diagnostic :=
  ((List.range s.nCores).map (fun k => coreDiagnostics (Fin.ofNat 16 k))).flatten ++
    [.decoders none, .twin, .monitors, .hedgerow, .stopDriver true, .stopDriver false]

/-- The core that a diagnostic exercises. -/
def diagnosticCore : Diagnostic → Option CoreId
  | .checkLane k => some k
  | .residue k => some k
  | .decoders c => c
  | .timeouts k => some k
  | .signature k => some k
  | .twin => none
  | .monitors => none
  | .hedgerow => none
  | .stopDriver _ => none

/-- The diagnostic's block is off in Banked, and its tests are skipped (R749). -/
def State.skipsTest (s : State) (d : Diagnostic) : Bool :=
  match diagnosticCore d with
  | some k => s.flag (fIslOff (3 * s.physOf k))
  | none => false

/-- The test has an effect: the Reeve lives, the diagnostic is one of the part's, its block is on, and Hedgerow can report its own. -/
def State.testRuns (s : State) (d : Diagnostic) : Bool :=
  s.reeve.alive && s.diagnostics.contains d && !s.skipsTest d && (d != .hedgerow || s.hdg.alive)

/-- The injection has shown what it must: it was flagged, by a driver's test as the ball reading low, and the decoders have corrected the
single-bit syndrome too (R116). -/
def diagnosticPasses (d : Diagnostic) (flagged corrected : Bool) : Bool :=
  match d with
  | .decoders _ => flagged && corrected
  | _ => flagged

/-- SELF_TEST_RUN: the Reeve exercises a diagnostic by its injection; a failed test is a HELD cause (R116, R117), and the pass that the boot or
a wake awaits is complete once every diagnostic has passed (R749, R751, R761).  The pulse of a SAFE_STOP_N driver is over within 2 µs. -/
def execSelfTestRun (d : Diagnostic) (flagged corrected : Bool) (s : State) : Out :=
  if !s.testRuns d then .next s
  else
    let s := match d with
      | .stopDriver reeve => s.emit (.stopPulse reeve)
      | _ => s
    if !diagnosticPasses d flagged corrected then .next (s.heldFault 0xA121 srcReeve)
    else if s.testsDue && !s.boot.tested.contains d then .next { s with boot := { s.boot with tested := s.boot.tested ++ [d] } }
    else .next s

/-- The window of a diagnostic that Banked has skipped begins again at wake completion (R749). -/
def State.windowSince (s : State) (d : Diagnostic) (elapsedMs : Nat) : Bool :=
  (diagnosticCore d).isNone || (match s.power.wokenAt with | some t => decide (t + elapsedMs * 25000 ≤ s.tb.ticks) | none => true)

/-- SELF_TEST_OVERDUE: a diagnostic's test has not completed for so many ms (R117); one that Banked skips is not overdue (R749). -/
def execSelfTestOverdue (d : Diagnostic) (elapsedMs : Nat) (s : State) : Out :=
  let awake : Bool := (diagnosticCore d).isNone || s.get fPwrState == pwrRun || s.get fPwrState == pwrEntering
  if s.reeve.alive && s.diagnostics.contains d && decide (2000 < elapsedMs) && !s.skipsTest d && awake && s.windowSince d elapsedMs then
    .next (s.heldFault 0xA122 srcReeve)
  else .next s

end Sys2Proof.Machine
end

