-- ==== Sys2Proof/Machine/Recovery.lean ====
section
/-! DEFINITION. What the Reeve does with a fault event: the logs, the start of a recovery, joined codes and HELD
(R505, R612 to R623, R640 to R643). -/

namespace Sys2Proof.Machine

def kRecoveries : Nat := 0x100004
def kJoined : Nat := 0x100008
def kDetect : Nat := 0x100010
def kSweepStep : Nat := 0x10001C
def kCrOverwrite : Nat := 0x10003C
def fCrNext : Fld := ⟨0x100038, 0, 2⟩
def kFlogHead : Nat := 0x100040
def kFlogSuppressed : Nat := 0x100044
def kVlogHead : Nat := 0x100048
def kVlogSuppressed : Nat := 0x10004C
def kVlogDropped : Nat := 0x100050
def kKatFail : Nat := 0x100054
def kPeelRetry : Nat := 0x100058
def kSramCe : Nat := 0x10005C

-- LOGS

/-- An entry of the fault log; DISP is 0 REPORT, 1 CAUSE, 2 JOINED, 3 HELD (FAULT_LOG_WRITE; R640). -/
def State.flogWrite (s : State) (e : FaultEvent) (disp number : Nat) : State :=
  let n := (s.reg kFlogHead).toNat
  let bs := leBytes 8 s.now ++ leBytes 2 e.code.toNat ++ leBytes 2 e.source.toNat ++ leBytes 1 disp ++ leBytes 1 s.mode ++ leBytes 2 number ++
    leBytes 4 (s.reg kFrameNum).toNat ++ leBytes 4 n ++ leBytes 8 e.info.toNat
  (s.setReeve { s.reeve with flog := Tbl.put s.reeve.flog (n % 512) bs }).wrapUp kFlogHead

/-- An entry of this code and source has been logged less than 1 ms before a tick (R641, R643). [log 97: DEDUCED, unsafe] -/
def loggedLately (l : List (Nat × Nat × Nat)) (e : FaultEvent) (tick : Nat) : Bool :=
  l.any (fun x => x.1 == e.code.toNat && x.2.1 == e.source.toNat && decide (tick < x.2.2 + 25000))

/-- The entries logged less than 1 ms before a tick, with a new one. -/
def noteLogged (l : List (Nat × Nat × Nat)) (e : FaultEvent) (tick : Nat) : List (Nat × Nat × Nat) :=
  l.filter (fun x => decide (tick < x.2.2 + 25000)) ++ [(e.code.toNat, e.source.toNat, tick)]

/-- A REPORT event goes to the fault log, one of each code and source in each 1 ms (R619, R641). -/
def State.logReport (s : State) (e : FaultEvent) : State :=
  if loggedLately s.reeve.flogLast e s.tb.ticks then s.bump kFlogSuppressed
  else
    let s := s.flogWrite e 0 0
    s.setReeve { s.reeve with flogLast := noteLogged s.reeve.flogLast e s.tb.ticks }

/-- A VIOLATION event waits for the violation log, or finds its queue full (R619, R643). -/
def State.queueViolation (s : State) (e : FaultEvent) : State :=
  if s.reeve.vqueue.length < 64 then s.setReeve { s.reeve with vqueue := s.reeve.vqueue ++ [(e, s.now, s.tb.ticks)] } else s.bump kVlogDropped

-- THE FREEZE

/-- The dispatch fence closes and every enabled core freezes, by the collector's hardware (R255, R614, R740). -/
def State.freeze (s : State) : State :=
  let s := (List.range s.nCores).foldl (fun s k => if (s.core k).frozen then s else s.setCore k { s.core k with frozen := true, thawed := [] }) (s.on fFenced)
  (s.on fFaultNLow).freezeClocks

/-- Enabled partitions whose partition reset does not run (R503, R515). -/
def State.liveParts (s : State) : List Nat := (List.range 8).filter (fun p => s.partEnabled p && !s.inReset p)

/-- JOB_LOST is due to partitions, with a code and the jobs dispatched or pre-empted (R503, R505). -/
def State.lostTo (s : State) (ps : List Nat) (code : Nat) : State :=
  s.setPartCtl { s.part with lostDue := ps.foldl (fun t p => Tbl.put t p (code, s.dtHeld p)) s.part.lostDue }

/-- What is discarded at D: armed slots, the twin records (limit 9 of 02, limit 7 of 03), and queued local DATA frames (R571). -/
def State.dropFrame (s : State) : State :=
  let s := s.discardSlots
  let s := (s.setQm { s.qm with pairs := [] }).setReeve { s.reeve with twins := [] }
  s.ceFence

/-- The head of the crash record of an event (R628). [log 105: DEDUCED, unsafe] -/
def State.crashHead (s : State) (e : FaultEvent) (number : Nat) (heldEntry : Bool) : CrashHead :=
  { cause := e.code, source := e.source, info := e.info, detect := s.now, recovery := number % 65536, modeBefore := s.mode, frame := s.reg kFrameNum,
    heldEntry := heldEntry, originDev := if e.code = 0x5203#16 then s.kly.origin else none,
    status := [s.reg kHdgStatus, s.reg 0x1004, s.partStatus, BitVec.ofNat 32 s.qm.dt.length, BitVec.ofNat 32 (s.tagsHeld false)], slot := none }

/-- Every partition that is enabled has PART_EVENT.HELD set (R505). -/
def State.heldEvents (s : State) : State := ((List.range 8).filter s.partEnabled).foldl (fun s p => s.partEvent p 3) s

/-- The mode becomes HELD with a cause (R79, R128, R505); what the Reeve does of it, it does while it lives. [log 100: DEDUCED, unsafe] -/
def State.toHeld (s : State) (code : Nat) : State :=
  let was := s.isHeld
  let s := s.heldCause code
  let s := if s.reeve.alive then s.setMode 2 else (s.put fReeveMode 2).on fFaultNLow
  if was then s else s.heldEvents

-- RECOVERIES

/-- The job faults that count under R93, with one at this tick. [log 19: DEDUCED, unsafe] -/
def State.faultsWith (s : State) : List Nat := s.reeve.faultTicks.filter (fun t => decide (s.tb.ticks < t + 250000000)) ++ [s.tb.ticks]

/-- A recovery starts with a cause (RECOVERY_START, ABORT_SEND; R91, R93, R503, R568, R571, R616). -/
def State.startRecovery (s : State) (e : FaultEvent) : State :=
  let code := e.code.toNat
  let ticks := s.faultsWith
  let third := decide (3 ≤ ticks.length)
  let s := s.bump kRecoveries
  let number := (s.reg kRecoveries).toNat
  let head := s.crashHead e number false
  let s := s.flogWrite e (if third then 3 else 1) (if third then 0 else number)
  let s := (s.setReg64 kDetect s.tb.ns).put fLastCause code
  let r : Recovery := { number := number, cause := e.code, source := e.source, info := e.info, detect := s.now, joined := [], noRestart := third || s.isHeld, minFrame := s.kly.abortFrame, heldAtEnd := third, swept := false }
  let s := s.setReeve { s.reeve with recovery := some r, crash := some head, faultTicks := ticks, awaiting := false, sweep := none }
  let s := s.freeze.on fCapturing
  let s := if s.isHeld then s else s.setMode 1
  let live := s.liveParts
  let s := s.lostTo live code
  let s := s.setPartCtl { s.part with recoverDue := live }
  let frame := match s.restartFrame r.detect r.minFrame with
    | some n => n
    | none => 0xFFFFFFFF
  s.dropFrame.sendAborts number frame r.noRestart

/-- A code joins the recovery in progress (FAULT_JOIN; R617). -/
def State.joinRecovery (s : State) (e : FaultEvent) (r : Recovery) : State :=
  let s := (s.bump kJoined).flogWrite e 2 r.number
  if s.reeve.crash.isSome then s.setReeve { s.reeve with recovery := some { r with joined := r.joined ++ [(e.code, e.source)] } } else s

/-- No crash record is written for a HELD with this cause (R626). -/
def noRecordFor (code : Nat) : Bool := code == 0xA304 || code == 0xA306

/-- A HELD event outside a recovery freezes the cores, and the sweep follows its crash record (R505, R626, R633). [log 99: DEDUCED, unsafe] -/
def State.heldOutside (s : State) (e : FaultEvent) : State :=
  let code := e.code.toNat
  let head := s.crashHead e 0 true
  let record := s.reeve.alive && !noRecordFor code
  let s := s.freeze.toHeld code
  let r : Recovery := { number := 0, cause := e.code, source := e.source, info := e.info, detect := s.now, joined := [], noRestart := true, minFrame := none, heldAtEnd := false, swept := false }
  let s := if record then (s.setReeve { s.reeve with recovery := some r, crash := some head, sweep := none }).on fCapturing else s
  let s := s.lostTo (s.liveParts.filter (fun p => s.dtHeld p != 0)) code
  s.dropFrame.sendAborts ((s.reg kRecoveries).toNat + 1) 0xFFFFFFFF true

/-- A HELD event (HELD_ENTRY; R618). -/
def State.heldEvent (s : State) (e : FaultEvent) : State :=
  let s := if s.reeve.alive then (s.flogWrite e 3 0).put fLastCause e.code.toNat else s
  match s.reeve.recovery with
  | some r => (s.toHeld e.code.toNat).setReeve { (s.toHeld e.code.toNat).reeve with recovery := some { r with noRestart := true } }
  | none => if s.isHeld then s.freeze.toHeld e.code.toNat else s.heldOutside e

/-- An event that is to be preferred as the cause: a 0xAxxx code, else the lower code, then the lower source (R616). -/
def FaultEvent.causeBefore (a b : FaultEvent) : Bool :=
  let top (e : FaultEvent) : Bool := bitsAt e.code.toNat 12 4 == 10
  if top a != top b then top a
  else if a.code ≠ b.code then decide (a.code.toNat < b.code.toNat)
  else decide (a.source.toNat ≤ b.source.toNat)

/-- The cause among the job faults of one cycle (R616). -/
def causeOf : List FaultEvent → Option FaultEvent
  | [] => none
  | e :: l =>
    match causeOf l with
    | some c => some (if e.causeBefore c then e else c)
    | none => some e

/-- The job faults of one cycle: the cause of a recovery, or codes that join the one in progress (R616, R617); without the Reeve, the
collector freezes the cores (R614). -/
def State.jobFaults (s : State) (l : List FaultEvent) : State :=
  match causeOf l with
  | none => s
  | some c =>
    if !s.reeve.alive then s.freeze
    else
      match s.reeve.recovery with
      | some _ => l.foldl (fun s e => match s.reeve.recovery with | some r => s.joinRecovery e r | none => s) s
      | none => s.startRecovery c

/-- An event of another disposition (R618, R619). -/
def State.otherEvent (s : State) (e : FaultEvent) : State :=
  match e.disp with
  | .jobFault => s
  | .held => s.heldEvent e
  | .report => if s.reeve.alive then s.logReport e else s
  | .violation => if s.reeve.alive then s.queueViolation e else s

end Sys2Proof.Machine
end

