-- ==== Sys2Proof/Machine/Reeve.lean ====
section
/-! DEFINITION. The Reeve's rows: fault events, the violation log, the crash record and the reset sweep
(17_faults_and_recovery.md). -/

namespace Sys2Proof.Machine

-- EVENTS

/-- An event that arrives with a parity error is 0xA501; its source reads 0xFFFF where that field failed (R644). -/
def FaultEvent.arrived (e : FaultEvent) : Option Bool → FaultEvent
  | none => e
  | some srcFailed => { code := 0xA501, source := if srcFailed then 0xFFFF else e.source, info := 0, disp := .jobFault, detail := [] }

/-- What the Reeve's SRAM reports: a corrected error is counted; an uncorrectable one is a lockstep mismatch (R645). -/
def State.sramEcc (s : State) (ecc : Ecc) : State :=
  match ecc with
  | .clean => s
  | .corrected => if s.reeve.alive then s.bump kSramCe else s
  | .uncorrectable => if s.reeve.alive then (s.reeveLost 0xA306).heldFault 0xA306 (srcOf 9 0 0) else s

/-- FAULT_EVENT_ARRIVAL (R612 to R619, R644, R645): the oldest raised events, as many as the list has entries, reach the collector in one
Reeve cycle; each entry tells of a parity error.  The cycle's job faults come first, then its other events in their order. [log 98: DEDUCED, unsafe] -/
def execFaultEventArrival (parity : List (Option Bool)) (ecc : Ecc) (s : State) : Out :=
  let evs := (s.reeve.events.zip parity).map (fun x => x.1.arrived x.2)
  let s := s.setReeve { s.reeve with events := s.reeve.events.drop parity.length }
  let s := if evs = [] then s else s.sramEcc ecc
  .next (evs.foldl State.otherEvent (s.jobFaults (evs.filter (fun e => e.disp == .jobFault))))

/-- VIOLATION_LOG_WRITE (R642, R643): the oldest waiting event is written, or suppressed. -/
def execViolationLogWrite (s : State) : Out :=
  match s.reeve.vqueue with
  | (e, time, tick) :: rest =>
    if !s.reeve.alive then .next s
    else
      let s := s.setReeve { s.reeve with vqueue := rest }
      if loggedLately s.reeve.vlogLast e tick then .next (s.bump kVlogSuppressed)
      else
        let n := (s.reg kVlogHead).toNat
        let bs := leBytes 8 time ++ leBytes 2 e.code.toNat ++ leBytes 2 e.source.toNat ++ leBytes 4 n ++ padTo 16 (e.detail.take 16)
        .next ((s.setReeve { s.reeve with vlog := Tbl.put s.reeve.vlog (n % 1024) bs, vlogLast := noteLogged s.reeve.vlogLast e tick }).wrapUp kVlogHead)
  | [] => .next s

-- THE CRASH RECORD

/-- CRASH_CAPTURE_START (R624, R625, R627): every enabled core is frozen, and the next slot is taken. -/
def execCrashCaptureStart (s : State) : Out :=
  match s.reeve.crash with
  | some h =>
    if h.slot.isSome || !s.reeve.alive || !(List.range s.nCores).all (fun k => (s.core k).frozen) then .next s
    else
      let n := s.get fCrNext
      let s := if (Tbl.getD s.reeve.slots n CrashSlot.empty).valid then s.bump kCrOverwrite else s
      .next (s.setReeve { s.reeve with crash := some { h with slot := some n }, slots := Tbl.put s.reeve.slots n CrashSlot.empty })
  | none => .next s

/-- REEVE_SWEEP_STEP shows the step, the core and the engine in progress; once supervision has expired it holds (R638). [log 102: DEDUCED, unsafe] -/
def State.showSweep (s : State) (w : Sweep) : State :=
  let e := match w.at_ with
    | .engine e => e.idx
    | .kat => 6
  let s := s.setReeve { s.reeve with sweep := some w }
  if w.expired then s else s.setReg kSweepStep (BitVec.ofNat 32 (e * 65536 + w.core * 256 + w.step))

/-- The sweep starts: its first step finds the fence closed, and the second begins with core 0 (SWEEP_START; R633). -/
def State.startSweep (s : State) : State :=
  (s.showSweep { step := 2, core := 0, at_ := .engine .lpeel, waiting := false, failedOnce := false, started := s.tb.ticks, expired := false }).on fSweeping

/-- CRASH_RECORD_SECURE (R625, R628, R645): the capture has read so many bytes of the record; the record is written with its CRC, the slot
is valid, and the sweep starts.  A record that an uncorrectable SRAM error damages leaves its slot invalid. -/
def execCrashRecordSecure (read : Nat) (parity : Bool) (parityCores : BitVec 16) (ecc : Ecc) (s : State) : Out :=
  match s.reeve.crash, s.reeve.recovery with
  | some h, some r =>
    match h.slot with
    | some n =>
      if !s.reeve.alive then .next s
      else
        let rec_ := s.crashRecord h r read parity parityCores
        let s := s.setReeve { s.reeve with crash := none, slots := Tbl.put s.reeve.slots n { bytes := rec_, valid := ecc != .uncorrectable } }
        let s := ((s.put fCrNext (n + 1)).off fCapturing).sramEcc ecc
        if s.reeve.alive then .next s.startSweep else .next s
    | none => .next s
  | _, _ => .next s

-- THE SWEEP

/-- The engine whose reset the sweep awaits on core k. -/
def State.awaits (s : State) (k : Nat) (e : Engine) : Option Sweep :=
  match s.reeve.sweep with
  | some w => if w.step = 2 ∧ w.core = k ∧ w.at_ = .engine e ∧ s.reeve.alive then some w else none
  | none => none

/-- ENGINE_RESET (R249, R633, R634): the Reeve requests the reset that the sweep comes to next. -/
def execEngineReset (k : CoreId) (e : Engine) (s : State) : Out :=
  match s.awaits k e with
  | some w =>
    if w.waiting then .next s
    else
      let s := if e = .lpeel then s.setE (s.physOf k) 40 else s
      .next (((s.setCore k ((s.core k).resetRequest e.idx)).dropCoreAsks k).showSweep { w with waiting := true })
  | none => .next s

/-- What follows an engine's reset in the sweep: the next engine, or the pool reset and the known-answer test (R402, R633). -/
def State.afterEngine (s : State) (w : Sweep) (e : Engine) : State :=
  match e with
  | .lpeel => s.showSweep { w with at_ := .engine .speel, waiting := false }
  | .speel => s.showSweep { w with at_ := .engine .opa, waiting := false }
  | .opa => s.showSweep { w with at_ := .engine .vec, waiting := false }
  | .vec => s.showSweep { w with at_ := .engine .seq, waiting := false }
  | .seq => (s.poolReset w.core).showSweep { w with at_ := .kat, waiting := false }

/-- The sweep goes on where it awaits this engine. -/
def State.sweepOn (s : State) (k : Nat) (e : Engine) : State :=
  match s.awaits k e with
  | some w => if w.waiting then s.afterEngine w e else s
  | none => s

/-- Nothing keeps the reset of an engine of a core from being done: no request of a peel is outstanding (R249). -/
def CoreSt.drained (c : CoreSt) (e : Engine) : Bool :=
  match e with
  | .lpeel => c.outstanding 0 == 0
  | .speel => c.outstanding 1 == 0
  | _ => true

/-- ENGINE_RESET_DONE (R249, R402, R633): an engine reports its reset done. -/
def execEngineResetDone (k : CoreId) (e : Engine) (s : State) : Out :=
  let c := s.core k
  if c.resetting.contains e.idx && !c.peelRetry.contains e.idx && c.drained e then .next ((s.setCore k (c.resetDone e.idx)).sweepOn k e) else .next s

/-- PEEL_RESET_FAILED (R251, R637, R644): requests of a peel are outstanding so many µs after its reset request.  The first
FAILED is retried; a second in the sweep, or of the same peel in a partition reset, is a HELD cause, and the reset ends there. -/
def execPeelResetFailed (k : CoreId) (q : PeelId) (elapsedUs : Nat) (s : State) : Out :=
  let e := q.engine.idx
  let c := s.core k
  let outstanding := c.outstanding q.idx
  let info := outstanding % 64
  let src := srcOf 0 k e
  if !c.resetting.contains e || c.peelRetry.contains e || outstanding == 0 || decide (elapsedUs < 12) || !s.reeve.alive then .next s
  else
    let sweep := s.awaits k q.engine
    let again : Bool := match sweep with
      | some w => w.failedOnce
      | none => c.peelFailed.contains e
    if again then .next (((s.heldFault 0x2601 src info).setCore k (c.resetDone e)).sweepOn k q.engine)
    else
      let s := (s.report 0x2601 src info).bump kPeelRetry
      let s := s.setCore k { c with peelFailed := c.peelFailed ++ [e], peelRetry := c.peelRetry ++ [e] }
      match sweep with
      | some w => .next (s.setReeve { s.reeve with sweep := some { w with failedOnce := true } })
      | none => .next s

/-- PEEL_RESET_RETRY (R637): so many µs after the first FAILED the reset is requested once more. -/
def execPeelResetRetry (k : CoreId) (q : PeelId) (elapsedUs : Nat) (s : State) : Out :=
  if (s.core k).peelRetry.contains q.engine.idx && decide (40 ≤ elapsedUs) && s.reeve.alive then .next (s.setCore k ((s.core k).resetRequest q.engine.idx))
  else .next s

/-- The sweep leaves a core: the next one follows, or step 3 (R633). -/
def State.nextCore (s : State) (w : Sweep) : State :=
  if w.core + 1 < s.nCores then s.showSweep { w with core := w.core + 1, at_ := .engine .lpeel, waiting := false }
  else s.showSweep { w with step := 3, at_ := .engine .seq, waiting := false }

/-- The test has run on core k: the first 256 KiB of its Granary are zero, and a failure is recorded (R635, R636). -/
def State.tested (s : State) (k : Nat) (pass : Bool) : State :=
  let s := s.grnZero k 0 262144
  if pass then s else (s.put ⟨kKatFail, k, 1⟩ 1).heldFault 0xA402 (srcOf 9 0 0)

/-- The record of a lost job (R466, R484, R623): a retired one keeps its checksum and its time. [log 103: DEDUCED, unsafe] -/
def State.lostRecord (s : State) (i : Nat) (e : DtEnt) (code : Nat) : Rec :=
  match s.retiredOf e with
  | some r => { r with status := 3, code := code }
  | none => { status := 3, code := code, core := e.core, dt := some i, crc := 0, preempted := e.preempted, twin := e.desc.twinId != 0, userTag := e.desc.userTag, elapsedUs := min ((s.now - e.submit) / 1000) 0xFFFFFFFF, cleared := true }

/-- A lost job's record is due, and its RING queue is HALTED (LOST_RECORDS; R484). -/
def State.loseJob (s : State) (code : Nat) (i : Nat) (e : DtEnt) : State :=
  let q := (s.queue e.queue).setJob e.pos (fun j => { j with at_ := .done (s.lostRecord i e code) })
  let s := s.setQueue e.queue (if q.isFrame then q else { q with state := 2, haltCode := code })
  s.setDt i { e with saved := none }

/-- Step 3 (R515, R611, R633): a slot that failed parity is FREE and its number is logged, and every partition reset in progress completes.
[log 160: DEDUCED, unsafe] -/
def State.sweepQueues (s : State) : State :=
  let s := (s.qm.slots.filter (fun x => x.2.bad)).foldl (fun s x => s.violation 0x4604 (srcQm 1) (leBytes 2 x.1)) s
  let ct := s.qm.slots.map (fun (x : Nat × CtSlot) => if x.2.bad then (x.1, CtSlot.reset) else x)
  ((List.range 8).filter s.inReset).foldl State.completeReset (s.setQm { s.qm with slots := ct })

/-- Step 4 (R526, R633): the balances and the counters of the regulators are rewritten; the configuration's shadow holds what the configuration
holds. [log 157: DEDUCED, unsafe] -/
def State.sweepPartitions (s : State) : State :=
  s.setPartCtl { s.part with bal := [], regs := s.part.regs.map (fun (x : Nat × RegSt) => (x.1, { x.2 with used := [] })) }

/-- Step 5 (R633): the freezes are released, and the duration is recorded. -/
def State.sweepEnd (s : State) (w : Sweep) : State :=
  let us := min ((s.tb.ticks - w.started) * 40 / 1000) 65535
  let s := (List.range s.nCores).foldl (fun s k => s.setCore k { s.core k with frozen := false, thawed := [] }) s
  let s := s.setReg 0x100018 (BitVec.ofNat 32 (us + 65536 * max us (bitsAt (s.reg 0x100018).toNat 16 16)))
  let s := if w.expired then s else s.setReg kSweepStep 0
  ((s.setReeve { s.reeve with sweep := none }).off fSweeping).settleAll

/-- SWEEP_COMPLETE (R484, R502, R514, R515, R611, R633; limits 4, 5 and 7 of 17): steps 3 to 5; the LOST records are due, RECOVERED is set
where none is pending, and the third job fault in 10 s ends in HELD. -/
def execSweepComplete (s : State) : Out :=
  match s.reeve.sweep, s.reeve.recovery with
  | some w, some r =>
    if w.step ≠ 3 ∨ !s.reeve.alive then .next s
    else
      let s := s.sweepQueues.sweepPartitions.sweepEnd w
      let s := s.qm.dt.foldl (fun s x => s.loseJob r.cause.toNat x.1 x.2) s
      let s := s.setReeve { s.reeve with recovery := some { r with swept := true } }
      let s := if r.heldAtEnd then s.toHeld r.cause.toNat else s
      let s := s.part.recoverDue.foldl (fun s p => if s.lostPending p then s else s.recovered p) s
      .next (if s.part.recoverDue = [] then s.startHeld else s)
  | _, _ => .next s

/-- SWEEP_SUPERVISION_EXPIRY (R638): so many µs after its start the sweep has not completed. -/
def execSweepSupervisionExpiry (elapsedUs : Nat) (s : State) : Out :=
  match s.reeve.sweep with
  | some w =>
    if w.expired || decide (elapsedUs < 2500) || !s.reeve.alive then .next s
    else .next ((s.heldFault 0xA401 (srcOf 9 0 0)).setReeve { (s.heldFault 0xA401 (srcOf 9 0 0)).reeve with sweep := some { w with expired := true } })
  | none => .next s

end Sys2Proof.Machine
end

