-- ==== Sys2Proof/Machine/Frame.lean ====
section
/-! DEFINITION. Frame boundaries, with what starts at each of them, the restart boundary of a recovery, and frame deadline misses
(R50, R62, R64, R98, R464, R486, R639). -/

namespace Sys2Proof.Machine

-- REPLAYS

/-- Frame numbers of the queue's replays that are not fully dispatched (R465). -/
def QueueSt.openReplays (q : QueueSt) : List Word :=
  (q.jobs.filter QJob.waits).foldl (fun l j => match j.replay with | some n => if l.contains n then l else l ++ [n] | none => l) []

/-- A FRAME queue's replay at boundary n (FRAME_REPLAY; R464, R465). -/
def State.replay (s : State) (q : Nat) (n : Word) (t : Nat) : State :=
  let x := s.queue q
  if x.state ≠ 1 ∨ !x.isFrame ∨ s.inReset x.owner then s
  else if 2 ≤ x.openReplays.length then s.bump kFrameSkip
  else s.setQueue q (x.submit t (List.range x.frameCount) (some n) none)

/-- Every FRAME queue's replay. -/
def State.replays (s : State) (n : Word) (t : Nat) : State := s.qm.queues.foldl (fun s x => s.replay x.1 n t) s

/-- Unfinished replays are discarded: what is not dispatched (R486). -/
def State.dropReplays (s : State) : State :=
  s.setQm { s.qm with queues := s.qm.queues.map (fun (x : Nat × QueueSt) => if x.2.isFrame then (x.1, { x.2 with jobs := x.2.jobs.filter (fun j => !j.waits) }) else x) }

/-- Twin pairs of frames near n are kept; a pair's key comes back only after 2^32 frames. -/
def State.prunePairs (s : State) (n : Word) : State :=
  s.setQm { s.qm with pairs := s.qm.pairs.filter (fun x => decide ((x.frame - n).toInt.natAbs ≤ 16)) }

-- THE RESTART BOUNDARY

/-- The 0x81xx or 0x82xx condition that the clock and supply monitors show: a lost PLL or crystal, a core at 125 °C, or another one that the
command names (R639, R774). -/
def State.monitorCode (s : State) (other : Option (BitVec 16)) : Option Nat :=
  if [0, 1, 2].any (fun i => s.get (fPll i) == 4) then some 0x8102
  else if s.get (fPll 5) = 4 then some 0x8103
  else if s.power.crystalLost then some 0x8105
  else if s.physCores.any (fun i => decide (125 ≤ sgn 8 (s.get (fTemp i)))) then some 0x8202
  else
    match other with
    | some c => if bitsAt c.toNat 8 8 = 0x81 ∨ bitsAt c.toNat 8 8 = 0x82 then some c.toNat else none
    | none => none

/-- The boundary n at t is the restart boundary of the recovery (R92, R570, R639). -/
def Recovery.restartsAt (r : Recovery) (n : Word) (t : Nat) : Bool :=
  !r.noRestart && r.swept && decide (r.detect + 3000000 ≤ t) && (match r.minFrame with | some m => !after m n | none => true)

/-- Every enabled SYNC group resumes with the group frame of the restart boundary (R639; limit 12 of 04). -/
def State.groupsRestart (s : State) (n : Word) : State :=
  (List.range 8).foldl (fun s g =>
    if s.flag (fGrpEn g) && !s.grpFree g then
      let st := s.grp g
      let keep (w : Word) : Bool := !after n w
      s.setGrp g { st with next := some n, waiting := st.waiting.filter (fun f => keep (BitVec.ofNat 32 f.frameNo)), closedAt := st.closedAt.filter (fun c => keep c.frame), missed := st.missed.filter (fun m => keep m.2), absent := st.absent.filter (fun m => keep m.2) }
    else s) s

/-- The restart boundary (RESTART_BOUNDARY; R486, R523, R571, R639): counters, balances, deadlines, posting, replays and dispatch resume. -/
def State.restartAt (s : State) (n : Word) (t : Nat) : State :=
  let s := s.ceRestart
  let s := s.setPartCtl { s.part with bal := [], charged := [] }
  let s := ((s.armSlots n t).groupsRestart n).dropReplays
  let s := s.setReeve { s.reeve with recovery := none, awaiting := true }
  ((s.off fFenced).setReg 0x100020 n).replays n t

/-- What a boundary does while a recovery runs (R483, R639): nothing but at the restart boundary, where the Reeve reads the monitors
first. [log 104: DEDUCED, unsafe] -/
def State.recoveryBoundary (s : State) (r : Recovery) (n : Word) (t : Nat) (monitor : Option (BitVec 16)) : State :=
  if !r.restartsAt n t || !s.reeve.alive then s
  else
    match s.monitorCode monitor with
    | some c => s.heldEvent { code := BitVec.ofNat 16 c, source := srcOf 9 0 0, info := 0, disp := .held, detail := [] }
    | none => s.restartAt n t

/-- FRAME_BOUNDARY (R50, R54, R57, R62, R464, R639; limit 12 of 02): the Timebase reaches the next grid point; monitor is what the clock
and supply monitors show at a restart boundary beside the state's own conditions. -/
def execFrameBoundary (monitor : Option (BitVec 16)) (s : State) : Out :=
  if !s.flag fFrameEn || decide (pwrBanked ≤ s.get fPwrState) then .next s
  else
    let i := s.tb.next
    let t := s.boundaryAt i
    let n : Word := BitVec.ofNat 32 i
    let s := (s.reach t).gridAdvance i t
    match s.reeve.recovery with
    | some r => .next (s.recoveryBoundary r n t monitor)
    | none => .next ((((s.armSlots n t).groupsAtBoundary n).replays n t).prunePairs n)

-- DEADLINE MISSES

/-- Twin pairs of a slot whose second job has not retired (R98). -/
def State.openPairs (s : State) (sl : FdlSlot) : List TwinPair :=
  s.qm.pairs.filter (fun x => x.timer == sl.timer && x.frame == sl.frame && decide (x.retired < 2) && !x.late)

/-- The slot of timer k whose deadline is reached next with something missing: no mark, or a twin (R64, R98). -/
def State.missingSlot (s : State) (k : Nat) : Option FdlSlot :=
  s.tb.slots.find? (fun sl => sl.timer == k && (!sl.satisfied || s.openPairs sl != []))

/-- The lowest TWIN_ID of some pairs. -/
def lowestTwin : List TwinPair → Option Nat
  | [] => none
  | x :: l => some (match lowestTwin l with | some i => min i x.id | none => x.id)

/-- A miss of a slot without a mark (R64, R65). -/
def State.missed (s : State) (sl : FdlSlot) (twin : Bool) : State :=
  let k := sl.timer
  let s := s.slotMissed sl
  if s.fdlFaults k then (if twin then s else s.jobFault 0xA201 (srcTb k) (k + sl.frame.toNat * 2 ^ 32))
  else (s.bump (kFdlMiss k)).partEvent (s.get (fFdlPart k)) 2

/-- FRAME_DEADLINE_MISS (R64, R65, R98): the Timebase reaches the deadline of a slot of timer k that no mark has satisfied, or whose twin
pair is incomplete: 0xA102 takes the place of 0xA201. -/
def execFrameDeadlineMiss (k : Fin 8) (s : State) : Out :=
  match s.missingSlot k.val with
  | some sl =>
    let s := s.reach sl.deadline
    let pairs := s.openPairs sl
    let s := s.setQm { s.qm with pairs := s.qm.pairs.map (fun (x : TwinPair) => if pairs.contains x then { x with late := true } else x) }
    let s := match lowestTwin pairs with
      | some id => s.jobFault 0xA102 (srcOf 9 0 0) (id + sl.frame.toNat * 2 ^ 16)
      | none => s
    .next (if sl.satisfied then s else s.missed sl (pairs != []))
  | none => .next s

end Sys2Proof.Machine
end

