-- ==== Sys2Proof/Machine/Power.lean ====
section
/-! DEFINITION. The power and thermal throttles, the calibration of the SPLL, and the clock and supply monitors
(20_clocks_power_boot.md: R734 to R742, R771, R772). -/

namespace Sys2Proof.Machine

def kPwrNow : Nat := 0x5008
def kPwrPauses : Nat := 0x501C
def kPowerSteps : Nat := 0x5024
def kThermSteps : Nat := 0x5028
def kRailFail : Nat := 0x502C
def kSpllCals : Nat := 0x400C
def kSpllForced : Nat := 0x4010
def fWinStart : Fld := ⟨0x4004, 16, 15⟩
def fWinLen : Fld := ⟨0x4004, 0, 15⟩
def fMonFail (i : Nat) : Fld := ⟨0x4018 + 4 * (i / 32), i % 32, 1⟩
def fRailFail (r : Nat) : Fld := ⟨kRailFail, r, 1⟩

/-- The source of a clock or supply event whose island the spec does not name: any INDEX of UNIT 7 (R613). -/
def State.anyIsland (s : State) : BitVec 16 := srcOf 7 (s.free % 70) 0

/-- The source of an event of physical core i: one of its three islands (R613, R728). -/
def State.coreIsland (s : State) (i : Nat) : BitVec 16 := srcOf 7 (3 * i + s.free % 3) 0

-- THE POWER THROTTLE

/-- Physical places of the planner-only cores: those that the perception partition is not granted (R734). -/
def State.plannerOnly (s : State) : List Nat := ((List.range s.nCores).filter (fun k => !s.granted s.perc k)).map s.physOf

/-- Physical places of the other enabled cores. -/
def State.perceptionCores (s : State) : List Nat := ((List.range s.nCores).filter (fun k => s.granted s.perc k)).map s.physOf

/-- E_POWER falls by 1 on each of some cores that is above 11. -/
def State.lowerPower (s : State) (l : List Nat) : State :=
  l.foldl (fun s i => if 11 < s.get (fEPower i) then s.put (fEPower i) (s.get (fEPower i) - 1) else s) s

/-- E_POWER rises by 1 on each of some cores that is below E_MAX. -/
def State.raisePower (s : State) (l : List Nat) : State :=
  l.foldl (fun s i => if s.get (fEPower i) < s.eMax then s.put (fEPower i) (s.get (fEPower i) + 1) else s) s

/-- The power is above the limit: planner-only cores step down first (R734). -/
def State.powerDown (s : State) : State :=
  let s := s.setPower { s.power with lowFrom := none }
  if s.plannerOnly.any (fun i => decide (11 < s.get (fEPower i))) then (s.lowerPower s.plannerOnly).bump kPowerSteps
  else if s.perceptionCores.any (fun i => decide (11 < s.get (fEPower i))) then (s.lowerPower s.perceptionCores).bump kPowerSteps
  else s

/-- The power has stayed below the limit less 2 W for 100 µs: the cores that are not planner-only step up first (R734). -/
def State.powerUp (s : State) : State :=
  if s.perceptionCores.any (fun i => decide (s.get (fEPower i) < s.eMax)) then s.raisePower s.perceptionCores else s.raisePower s.plannerOnly

/-- POWER_SAMPLE (R734): the power on the core and SRAM rails, in 0.1 W, is compared with PWR_LIMIT. [log 116: DEDUCED, unsafe] -/
def execPowerSample (deciwatts : BitVec 16) (s : State) : Out :=
  let s := s.setReg kPwrNow (deciwatts.setWidth 32)
  let limit := s.get fPwrLimit * 10
  if limit = 0 then .next s
  else if limit < deciwatts.toNat then .next s.powerDown.settleAll
  else if deciwatts.toNat + 20 < limit then
    match s.power.lowFrom with
    | none => .next (s.setPower { s.power with lowFrom := some s.tb.ticks })
    | some t => if t + 2500 ≤ s.tb.ticks then .next s.powerUp.settleAll else .next s
  else .next (s.setPower { s.power with lowFrom := none })

/-- POWER_LIMIT_PERSIST (R735): so many ms the power has stayed above the limit with every enabled core at E_POWER 11. -/
def execPowerLimitPersist (elapsedMs : Nat) (s : State) : Out :=
  if 10 ≤ elapsedMs ∧ s.get fPwrLimit ≠ 0 ∧ s.get fPwrLimit * 10 < (s.reg kPwrNow).toNat ∧ s.physCores.all (fun i => decide (s.get (fEPower i) ≤ 11)) then
    .next (s.report 0x8405 s.anyIsland).drawn
  else .next s

-- THE THERMAL THROTTLE

/-- A core's reading in °C. -/
def State.tempOf (s : State) (i : Nat) : Int := sgn 8 (s.get (fTemp i))

/-- E_THERM follows a reading (R736). -/
def State.thermStep (s : State) (i : Nat) : State :=
  let t := s.tempOf i
  let thr : Int := s.get fTThr
  let x := s.therm i
  if thr ≤ t then
    let s := s.setTherm i { x with coolFrom := none }
    if 11 < s.get (fETherm i) then (s.put (fETherm i) (s.get (fETherm i) - 1)).bump kThermSteps else s
  else if t < thr - 3 then
    match x.coolFrom with
    | none => s.setTherm i { x with coolFrom := some s.tb.ticks }
    | some c =>
      if c + 2500 ≤ s.tb.ticks then
        let s := s.setTherm i { x with coolFrom := some s.tb.ticks }
        if s.get (fETherm i) < s.eMax then s.put (fETherm i) (s.get (fETherm i) + 1) else s
      else s
  else s.setTherm i { x with coolFrom := none }

/-- A pause of physical core i may begin: none runs, the last ended 1 ms ago, and R740 does not hold the core's clock (R737, R740). [log 117: DEDUCED, unsafe] -/
def State.mayPause (s : State) (i : Nat) : Bool :=
  let k := s.logicalOf i
  !s.pausedAt i && !s.flag (fIslOff (3 * i)) && (!s.heldE k || s.underTest k) &&
    (match (s.therm i).pauseEnd with | some t => decide (t + 25000 ≤ s.tb.ticks) | none => true)

/-- A reading at or above T_PAUSE pauses the core (R737). -/
def State.thermPause (s : State) (i : Nat) : State :=
  if decide ((s.get fTPause : Int) ≤ s.tempOf i) && s.mayPause i then
    let s := (((s.setPaused i true).setE i 0).bump kPwrPauses).setTherm i { s.therm i with pausedAt := some s.tb.ticks }
    (s.report 0x8404 (s.coreIsland i)).drawn
  else s

/-- One core's reading (R736, R737, R739); the throttle waits for its thresholds. -/
def State.thermRead (s : State) (i : Nat) (t : BitVec 8) : State :=
  let s := s.put (fTemp i) t.toNat
  let s := if 125 ≤ s.tempOf i then (s.jobFault 0x8202 (s.coreIsland i)).drawn else s
  if s.get fTThr = 0 then s else ((s.thermStep i).thermPause i).settleE i

/-- The reading of a core differs by more than 15 °C from those of both its neighbours, the enabled cores beside it (R774). -/
def State.strayReading (s : State) (i : Nat) : Bool :=
  let far (j : Nat) : Bool := s.physCores.contains j && decide (15 < (s.tempOf i - s.tempOf j).natAbs)
  decide (0 < i) && far (i - 1) && far (i + 1)

/-- THERMAL_SAMPLE (R736, R737, R739, R774): the readings by physical core, and the sensors that read out of range. -/
def execThermalSample (temps : List (BitVec 8)) (outOfRange : BitVec 16) (s : State) : Out :=
  let read := s.physCores.filter (fun i => decide (i < temps.length))
  let s := read.foldl (fun s i => s.thermRead i (temps.getD i 0)) s
  .next (read.foldl (fun s i => if outOfRange.getLsbD i || s.strayReading i then (s.jobFault 0x8203 (s.coreIsland i)).drawn else s) s)

/-- THERMAL_PAUSE_END (R737): 2 ms after a pause began, or once a reading has fallen below T_PAUSE - 3 °C. -/
def execThermalPauseEnd (i : Fin 16) (elapsedUs : Nat) (s : State) : Out :=
  if 2000 ≤ elapsedUs ∨ s.tempOf i < (s.get fTPause : Int) - 3 then .next (s.endPause i) else .next s

-- THE SPLL

/-- A calibration of the SPLL is due from now on (R741, R742). [log 120: DEDUCED, unsafe] -/
def State.calDue (s : State) : State :=
  match s.power.calDue with
  | some _ => s
  | none => s.setPower { s.power with calDue := some s.tb.ticks }

/-- SPLL_CAL_REQUEST (R741, R775): a write to CLK_SPLL_CAL by a function, or, with none, a move of the SPLL's temperature by 20 °C since its
last calibration. -/
def execSpllCalRequest (write : Option (Fn × Word)) (s : State) : Out :=
  match write with
  | some (fn, v) =>
    if s.turnsAway fn then .next (s.turnedAway fn)
    else if fn = 0 ∧ v.getLsbD 0 then .next (s.calDue.setPower { s.calDue.power with calAsked := true }) else .next s
  | none => .next s.calDue

/-- The calibration begins: the trigger channel is invalid until it ends (R741). -/
def State.calStart (s : State) : State := (s.put (fPll 5) 3).setPower { s.power with calDue := none, calAsked := false }

/-- R169 allows a calibration, and one is due of a locked SPLL. -/
def State.calAllowed (s : State) : Bool := s.power.calDue.isSome && s.get (fPll 5) == 2 && s.mill.pulses == []

/-- Now lies in the calibration window after the latest frame boundary, or none is set (R742); at power-on and at wake the SPLL calibrates as
it locks (R741). -/
def State.inCalWindow (s : State) : Bool :=
  if s.get fWinLen = 0 ∨ !s.flag fFrameEn ∨ !s.boot.done ∨ s.get fPwrState = pwrWaking then true
  else if !s.tb.begun || s.tb.next == 0 then false
  else
    let from_ := s.boundaryAt (s.tb.next - 1) + s.get fWinStart * 10000
    decide (from_ ≤ s.now) && decide (s.now < from_ + s.get fWinLen * 10000)

/-- SPLL_CALIBRATION_START (R169, R742). -/
def execSpllCalibrationStart (s : State) : Out := if s.calAllowed && s.inCalWindow then .next s.calStart else .next s

/-- SPLL_CAL_FORCE (R742): so many seconds after it became due the calibration still waits. -/
def execSpllCalForce (elapsedS : Nat) (s : State) : Out :=
  if s.calAllowed && decide (10 ≤ elapsedS) then .next ((s.calStart.bump kSpllForced).report 0x8403 s.anyIsland).drawn else .next s

/-- SPLL_CALIBRATION_DONE (R741). -/
def execSpllCalibrationDone (s : State) : Out := if s.get (fPll 5) = 3 then .next ((s.put (fPll 5) 2).bump kSpllCals) else .next s

-- THE MONITORS

/-- CLOCK_MONITOR_WINDOW (R771, R774): an island's clock, counted over 10 µs, deviates from the commanded rate by so many ppm; its E or its pause
may have changed in the window; and a handshake FIFO of the island may have shown a parity error (R729). -/
def execClockMonitorWindow (island : Fin 64) (ppm : Int) (changed fifoParity : Bool) (s : State) : Out :=
  let i := island.val
  let s := if fifoParity then s.jobFault 0x8107 (srcOf 7 i 0) i else s
  if decide (ppm.natAbs ≤ 50000) || changed || s.flag (fIslPaused i) || s.flag (fIslOff i) then .next s
  else .next ((s.on (fMonFail i)).jobFault 0x8101 (srcOf 7 i 0))

/-- SUPPLY_OUT_OF_WINDOW (R772): a rail has lain outside ±5 % for so many µs; while R796 holds the device in reset nothing reports. -/
def execSupplyOutOfWindow (rail : Fin 6) (elapsedUs : Nat) (s : State) : Out :=
  if elapsedUs < 10 ∨ s.boot.railHold then .next s
  else .next ((s.on (fRailFail rail)).jobFault 0x8201 (srcOf 7 (64 + rail.val) 0) rail.val)

end Sys2Proof.Machine
end

