-- ==== Sys2Proof/Machine/Dram.lean ====
section
/-! DEFINITION. The memory controller: reads, writes, scrub, refresh (01_one_frame_in_the_field.md, R23 to R34, R819 to
R822). -/

namespace Sys2Proof.Machine

/-- The block of an offset is found to hold an uncorrectable error, and keeps it (R821, R822). -/
def State.markBad (s : State) (a : Nat) : State := { s with dramBad := Tbl.put s.dramBad (a / 64) () }

/-- What the inline ECC reports of a block: an error already stored is found again (R821). -/
def State.eccOf (s : State) (a : Nat) (e : Ecc) : Ecc := if s.ramBad a then .uncorrectable else e

/-- DRAM_READ_RETURN: the block that holds the offset comes back, with what its inline ECC reports (R33, R34). -/
def execDramReadReturn (who : Agent) (a : Nat) (ecc : Ecc) (s : State) : Out :=
  if s.dramBytes ≤ a then .next s
  else
    let b := a / 64 * 64
    match s.eccOf a ecc with
    | .clean => .next (s.emit (.dramData who b (s.ramBytes b 64) false))
    | .corrected => .next ((s.bump kCeCount).emit (.dramData who b (s.ramBytes b 64) false))
    | .uncorrectable => .next (((s.markBad a).dramUncorrectable who a).emit (.dramData who b (s.ramBytes b 64) true))

/-- The bytes of one block reach the controller: a whole block replaces what is stored, a part of one is merged with it; ecc is what the merge
read reports (R821). -/
def State.mergeBlock (s : State) (who : Agent) (a : Nat) (bs : List Byte) (ecc : Ecc) : State :=
  if bs.length = 64 ∧ a % 64 = 0 then s.ramWriteBlock who a bs
  else
    match s.eccOf a ecc with
    | .clean => s.ramWriteBlock who a bs
    | .corrected => (s.bump kCeCount).ramWriteBlock who a bs
    | .uncorrectable => (s.markBad a).dramUncorrectable who a

/-- A write of any length, block by block in address order (R821). -/
def State.mergeN (who : Agent) (ecc : Ecc) : (fuel : Nat) → State → Nat → List Byte → State
  | 0, s, _, _ => s
  | n + 1, s, a, bs =>
    let room := 64 - a % 64
    if bs = [] then s
    else State.mergeN who ecc n (s.mergeBlock who a (bs.take room) ecc) (a + room) (bs.drop room)

/-- DRAM_WRITE_COMPLETE: a write reaches the controller's ordering point; ecc is what the merge read of each block written in part
reports (R821). -/
def execDramWriteComplete (who : Agent) (a : Nat) (bytes : List Byte) (ecc : Ecc) (s : State) : Out :=
  if s.dramBytes < a + bytes.length then .next s
  else .next (State.mergeN who ecc (bytes.length + 1) s a bytes)

/-- DRAM_SCRUB_READ: the background scrub reads the block that holds the offset (R29, R34, R822); memory in self-refresh is not scrubbed. [log 136: DEDUCED, unsafe] -/
def execDramScrubRead (a : Nat) (ecc : Ecc) (s : State) : Out :=
  if s.dramBytes ≤ a ∨ s.power.selfRefresh then .next s
  else
    match s.eccOf a ecc with
    | .clean => .next s
    | .corrected => .next (s.bump kCeCount)
    | .uncorrectable => .next (((s.markBad a).bump kUeCount).report 0x3103 (srcOf 6 (channelOf a) 0) (a / 64 * 64 % 2 ^ 48))

/-- MR4_POLL: the controller reads MR4 of a channel and adjusts its refresh to it (R23); a channel in self-refresh refreshes itself. -/
def execMr4Poll (channel : Fin 16) (mr4 : Byte) (s : State) : Out :=
  if s.power.selfRefresh then .next s else .next { s with mr4 := Tbl.put s.mr4 channel.val mr4 }

/-- REFRESH_MANAGEMENT: refresh management goes to a channel's memory device, unless it is in self-refresh (R23). -/
def execRefreshManagement (channel : Fin 16) (s : State) : Out :=
  if s.power.selfRefresh then .next s else .next (s.emit (.refreshManagement channel.val))

end Sys2Proof.Machine
end

