-- ==== Sys2Proof/Machine/PcieLink.lean ====
section
/-! DEFINITION. The PCIe endpoint: configuration space, link training and step-down, link down, and host access to device memory
(18_host_and_sessions.md: R648 to R656, R681 to R684). -/

namespace Sys2Proof.Machine

def kLinkCfg : Nat := 0x2004
def fLinkSpeed : Fld := ⟨0x2000, 0, 4⟩
def fLinkWidth : Fld := ⟨0x2000, 8, 4⟩
def fFloor : Fld := ⟨0x2000, 16, 4⟩
def fLinkDowngrades : Fld := ⟨0x2000, 24, 8⟩
def fLinkRestore : Fld := ⟨kLinkCfg, 31, 1⟩
def fMaxSpeed : Fld := ⟨kLinkCfg, 8, 4⟩
def fMaxWidth : Fld := ⟨kLinkCfg, 16, 4⟩
def fLinkThresh : Fld := ⟨kLinkCfg, 0, 8⟩
def kPcieCe : Nat := 0x2008
def kPcieDowns : Nat := 0x200C
def kPcieMalformed : Nat := 0x2014
def kPciePoison : Nat := 0x2018
def kBar2Refused : Nat := 0x2020
def kPartViol : Nat := 0x2800C

def State.setPcie (s : State) (p : Pcie) : State := { s with pcie := p }

/-- A function's configuration space set. -/
def State.setFn (s : State) (fn : Nat) (c : FnCfg) : State := s.setPcie { s.pcie with fns := Tbl.put s.pcie.fns fn c }

/-- A reset of a function's configuration space, with its MSI-X table and pending bits (R681). [log 86: PRESUMED, unsafe] -/
def State.fnReset (s : State) (fn : Nat) : State :=
  let mine (k : Nat) : Bool := decide (ownN fn 0x78000 ≤ k) && decide (k < ownN fn 0x80000)
  { s with pcie := { s.pcie with fns := Tbl.drop s.pcie.fns fn }, regs := s.regs.filter (fun x => !mine x.1) }

-- CONFIGURATION SPACE

/-- The virtual functions go with VF Enable, and every one of their partitions is reset (R507, R513). -/
def State.vfsGone (s : State) : State :=
  let s := (List.range 7).foldl (fun s i => s.fnReset (i + 1)) (s.setPcie { s.pcie with vfEnable := false })
  (List.range 7).foldl (fun s i => s.requestReset (i + 1) true) s

/-- VF_ENABLE_CLEAR (R507). -/
def execVfEnableClear (s : State) : Out := if s.pcie.vfEnable then .next s.vfsGone else .next s

/-- CONFIG_SPACE_WRITE (R648): NumVFs is taken as VF Enable is set. -/
def execConfigSpaceWrite (fn : Fn) (w : CfgWrite) (s : State) : Out :=
  if !s.present fn then .next s
  else
    let c := s.fnCfg fn
    match w with
    | .vfEnable on n =>
      if fn ≠ 0 then .next s
      else if on then (if s.pcie.vfEnable then .next s else .next (s.setPcie { s.pcie with vfEnable := true, numVfs := n.val }))
      else execVfEnableClear s
    | .busMaster on => .next (s.setFn fn { c with bme := on })
    | .msix en mask => .next (s.setFn fn { c with msixEn := en, msixMask := mask })
    | .power d3 => .next (s.setFn fn { c with d3hot := d3 })
    | .autonomous sp wd => if fn ≠ 0 then .next s else .next (s.setPcie { s.pcie with speedDisable := sp, widthDisable := wd })

/-- FUNCTION_LEVEL_RESET (R507, R510, R513, R688): the function's configuration space and vector registers, and a partition reset of its partition;
of the physical function, of every partition, and VF Enable goes with it. -/
def execFunctionLevelReset (fn : Fn) (s : State) : Out :=
  if !s.present fn then .next s
  else
    let s := (s.fnReset fn).setPartCtl { (s.fnReset fn).part with flr := s.part.flr ++ [fn.val] }
    if fn = 0 then
      let s := (List.range 7).foldl (fun s i => s.fnReset (i + 1)) (s.setPcie { s.pcie with vfEnable := false })
      .next ((List.range 8).foldl (fun s p => s.requestReset p true) s)
    else .next (s.requestReset fn true)

-- TRAINING AND STEP-DOWN

/-- The step-down ladder: speed and width (18, Training and step-down). -/
def linkLadder : List (Nat × Nat) := [(4, 8), (3, 8), (2, 8), (1, 8), (1, 4), (1, 2), (1, 1)]

/-- The first entry of the ladder within a speed and a width. -/
def ladderWithin (speed width : Nat) : Nat := ((List.range 7).find? (fun i => let e := linkLadder.getD i (1, 1); decide (e.1 ≤ speed) && decide (e.2 ≤ width))).getD 6

/-- The speed and the width up to which the link may train: MAX_SPEED and MAX_WIDTH, and the floor where it has been lowered (R653, R655). -/
def State.linkLimit (s : State) : Nat × Nat :=
  let ms := s.get fMaxSpeed
  let mw := s.get fMaxWidth
  if s.get fFloor = ladderWithin ms mw then (ms, mw)
  else
    let e := linkLadder.getD (s.get fFloor) (1, 1)
    (min ms e.1, min mw e.2)

/-- A width that the endpoint supports. -/
def linkWidthOk (w : Nat) : Bool := w == 1 || w == 2 || w == 4 || w == 8

/-- PCIE_LINK_UP (R655): the link trains or retrains to a speed and width within its limits. -/
def execPcieLinkUp (speed : Fin 5) (width : Fin 9) (s : State) : Out :=
  let l := s.linkLimit
  if s.pcie.perst || s.get ⟨0x4000, 12, 3⟩ != 2 || speed.val == 0 || !linkWidthOk width || decide (l.1 < speed.val) || decide (l.2 < width.val) then .next s
  else .next (((s.put fLinkSpeed speed).put fLinkWidth width).on fDlUp)

/-- The next ladder entry below the mode in force, if there is one (R653). -/
def State.stepTo (s : State) : Option Nat :=
  let now := (s.get fLinkSpeed, s.get fLinkWidth)
  (List.range 7).find? (fun i => let e := linkLadder.getD i (1, 1); decide (e.1 ≤ now.1) && decide (e.2 ≤ now.2) && e != now)

/-- A step is due: taken, or forbidden by the host or at Gen1 x1 (R653, R654); RESTORE reads 0 once the floor it raised is lowered again.
[log 89: DEDUCED, unsafe] [log 143: DESIGN CHOICE, unsafe] -/
def State.linkStep (s : State) : State :=
  match s.stepTo with
  | none => s.report 0x6103 (srcHost 0)
  | some i =>
    let e := linkLadder.getD i (1, 1)
    if (e.1 ≠ s.get fLinkSpeed ∧ s.pcie.speedDisable) ∨ (e.2 ≠ s.get fLinkWidth ∧ s.pcie.widthDisable) then s.report 0x6103 (srcHost 0)
    else
      let s := ((((s.put fFloor i).put fLinkSpeed e.1).put fLinkWidth e.2).off fLinkRestore).bumpFld fLinkDowngrades
      (s.setPcie { s.pcie with errors := 0 }).report 0x6101 (srcHost 0)

/-- PCIE_LINK_ERROR (R653): a correctable error is counted; past ERR_THRESH within 1 s of the window's first the link steps down. -/
def execPcieLinkError (s : State) : Out :=
  if !s.flag fDlUp then .next s
  else
    let s := s.bump kPcieCe
    let p := s.pcie
    let s := if p.errors = 0 ∨ p.errTick + 25000000 < s.tb.ticks then s.setPcie { p with errors := 1, errTick := s.tb.ticks } else s.setPcie { p with errors := p.errors + 1 }
    if s.get fLinkThresh < s.pcie.errors then .next s.linkStep else .next s

/-- A physical-function write to PCIE_LINK_CFG: ranges (R687), and RESTORE, which returns the floor to MAX_SPEED and MAX_WIDTH (R655). -/
def State.linkCfgWrite (s : State) (fn : Fn) (v : Word) : State :=
  if fn ≠ 0 then s
  else
    let sp := fMaxSpeed.ofWord v
    if sp = 0 ∨ 4 < sp ∨ !linkWidthOk (fMaxWidth.ofWord v) ∨ fLinkThresh.ofWord v = 0 then s.on (fSecRejected fn)
    else
      let s := s.plainWrite kLinkCfg v
      if v.getLsbD 31 then s.put fFloor (ladderWithin (s.get fMaxSpeed) (s.get fMaxWidth)) else s

/-- PCIE_RESTORE: a write to PCIE_LINK_CFG with RESTORE (R655). -/
def execPcieRestore (fn : Fn) (v : Word) (s : State) : Out :=
  if s.turnsAway fn then .next (s.turnedAway fn) else
  if v.getLsbD 31 then .next (s.linkCfgWrite fn v) else .next s

-- LINK DOWN

/-- DL_Down, a Hot Reset or PERST_N (R649, R662, R678, R681, R685): every configuration space is reset, every session ends, and every partition is
reset. -/
def State.linkDown (s : State) : State :=
  let s := ((s.off fDlUp).bump kPcieDowns).report 0x6102 (srcHost 0)
  let s := (List.range 8).foldl State.fnReset (s.setPcie { s.pcie with vfEnable := false, numVfs := 0, speedDisable := false, widthDisable := false, errors := 0 })
  let s := (List.range 8).foldl State.sessionEnds s
  (List.range 8).foldl (fun s p => s.requestReset p true) s

/-- PCIE_LINK_DOWN: DL_Down, or a Hot Reset, of a link that is up (R681). -/
def execPcieLinkDown (s : State) : Out := if s.flag fDlUp then .next s.linkDown else .next s

/-- PERST: PERST_N is asserted, or released (R649). -/
def execPerst (asserted : Bool) (s : State) : Out :=
  if asserted then (if s.pcie.perst then .next s else .next (s.setPcie { s.pcie with perst := true }).linkDown)
  else .next (s.setPcie { s.pcie with perst := false })

-- HOST REQUESTS

/-- A poisoned write of a function (R683). -/
def State.poisonedWrite (s : State) (fn : Nat) (detail : List Byte) : State := ((s.bump kPciePoison).violation 0x6302 (srcHost fn) detail).emit (.aer fn .poisonedTlp)

/-- A TLP of class 0x6303 of a function (R683). -/
def State.malformed (s : State) (fn : Nat) (detail : List Byte) (e : AerError) : State :=
  ((s.bump kPcieMalformed).violation 0x6303 (srcHost fn) detail).emit (.aer fn e)

/-- PCIE_TLP_VIOLATION (R683, R684): the detail is the offending header. [log 88: DEDUCED, unsafe] [log 161: DEDUCED, safe] -/
def execPcieTlpViolation (fn : Fn) (c : TlpClass) (detail : List Byte) (s : State) : Out :=
  if !s.flag fDlUp then .next s
  else
    match c with
    | .malformed => .next (s.malformed fn detail .malformedTlp)
    | .completion => .next (s.malformed fn detail .unexpectedCompletion)
    | .poisonedWrite => .next (s.poisonedWrite fn detail)
    | .badBar0 => .next (s.unsupported fn detail)
    | .unsupported => .next (s.unsupported fn detail)
    | .vendorType1 => .next s
    | .bufferError transmit =>
      let s := if transmit then s.emit (.poisonedWrite fn) else s
      .next ((s.report 0x6402 (srcHost fn)).emit (.aer fn .uncorrectableInternal))

/-- A refused access to BAR2: discarded, or answered with every byte 0xFF (R499, R652). -/
def State.bar2Refused (s : State) (fn : Fn) (a n : Nat) (read : Bool) : State :=
  let s := s.bump kBar2Refused
  let s := if fn = 0 then s.violation 0x6304 (srcHost fn) (leBytes 8 a) else (s.bump kPartViol).violation 0x4303 (srcOf 3 fn 0) (leBytes 8 a)
  if read then s.emit (.dramData (.host fn) a (List.replicate n 0xFF) false) else s

/-- BAR2_ACCESS (R499, R650 to R652, R683, R821): a request of n bytes at a BAR2 offset; a write carries its bytes.  ecc is what the inline ECC of the
first block reports. -/
def execBar2Access (fn : Fn) (a n : Nat) (write : Option (List Byte)) (poisoned : Bool) (ecc : Ecc) (s : State) : Out :=
  let len := match write with | some bs => bs.length | none => n
  if !s.flag fDlUp || s.pcie.perst || !s.present fn || len == 0 then .next s
  else if (s.fnCfg fn).d3hot || decide (0x1000000000 < a + len) then .next (s.unsupported fn (leBytes 8 a))
  else if write.isSome && poisoned then .next (s.poisonedWrite fn (leBytes 8 a))
  else if s.dramBytes < a + len ∨ (fn ≠ 0 ∧ !s.winOk fn a len write.isSome) then .next (s.bar2Refused fn a len write.isNone)
  else
    let s := if s.eccOf a ecc = .corrected then s.bump kCeCount else s
    let s := if ecc = .uncorrectable ∧ (write.isNone ∨ len < 64 ∨ a % 64 ≠ 0) then s.markBad a else s
    match write with
    | some bs => .next (s.ramWrite (.host fn) a bs)
    | none => let r := s.ramRead (.host fn) a len; .next (r.2.2.emit (.dramData (.host fn) a r.1 r.2.1))

end Sys2Proof.Machine
end

