-- ==== Sys2Proof/Machine/Session.lean ====
section
/-! DEFINITION. Mailboxes, sessions, their commands, and the staging of firmware (18_host_and_sessions.md: R657 to R680;
20_clocks_power_boot.md: R766 to R770). -/

namespace Sys2Proof.Machine

def fMbxBusy (fn : Nat) : Fld := ⟨ownN fn 0x48008, 0, 1⟩
def fMbxDone (fn : Nat) : Fld := ⟨ownN fn 0x48008, 1, 1⟩
def fMbxOverrun (fn : Nat) : Fld := ⟨ownN fn 0x48008, 2, 1⟩
def fMbxVecEn (fn : Nat) : Fld := ⟨ownN fn 0x4800C, 15, 1⟩
def fMbxVec (fn : Nat) : Fld := ⟨ownN fn 0x4800C, 0, 11⟩
def kTagFail (fn : Nat) : Nat := ownN fn 0x48020
def kSecViol (fn : Nat) : Nat := ownN fn 0x48024
def kMbxCmd (fn i : Nat) : Nat := ownN fn (0x48400 + 4 * i)
def kMbxRsp (fn i : Nat) : Nat := ownN fn (0x48800 + 4 * i)
def fIdleS (p : Nat) : Fld := ⟨0x49040 + 4 * p, 0, 10⟩
def kRtVer (p : Nat) : Nat := 0x49080 + 4 * p
def kStwVer : Nat := 0x6004
def kReeveVer : Nat := 0x6008
def kManVer : Nat := 0x600C
def fBootBank : Fld := ⟨0x6000, 4, 1⟩
def kSelSeq : Nat := 0x6018
def kFlashErr : Nat := 0x6108

/-- STATUS codes (R675). -/
def stOk : Nat := 0
def stFormat : Nat := 1
def stAuthFail : Nat := 2
def stReplay : Nat := 3
def stSeqGap : Nat := 4
def stNotPermitted : Nat := 5
def stNoSession : Nat := 6
def stLocked : Nat := 7
def stNoKey : Nat := 8
def stIncompatible : Nat := 9
def stVerifyFail : Nat := 10
def stUnknown : Nat := 11
def stBadKey : Nat := 12
def stRngFail : Nat := 13

-- THE MAILBOX

/-- The command area of a function (R668). -/
def State.cmdBytes (s : State) (fn : Nat) : List Byte := (List.range 256).flatMap (fun i => leBytes 4 (s.reg (kMbxCmd fn i)).toNat)

/-- The payload of the command, of the length that its opcode has. -/
def State.cmdPayload (s : State) (fn : Nat) : List Byte := ((s.cmdBytes fn).drop 32).take (fieldAt (s.cmdBytes fn) 4 4)

def State.cmdOpcode (s : State) (fn : Nat) : Nat := fieldAt (s.cmdBytes fn) 0 2
def State.cmdSeq (s : State) (fn : Nat) : Nat := fieldAt (s.cmdBytes fn) 8 8

/-- The tag of a header and payload under a key (R669). -/
def frameTag (key head payload : List Byte) : List Byte := (hmac key (head ++ payload)).take 16

/-- The response area takes bytes from offset 0 on; what lies beyond them stays. -/
def State.rspWrite (s : State) (fn : Nat) (bs : List Byte) : State :=
  let old := (List.range 256).flatMap (fun i => leBytes 4 (s.reg (kMbxRsp fn i)).toNat)
  let area := bs ++ old.drop bs.length
  (List.range ((bs.length + 3) / 4)).foldl (fun s i => s.setReg (kMbxRsp fn i) (BitVec.ofNat 32 (fieldAt area (4 * i) 4))) s

/-- The mailbox of a function answers with a status and a payload, tagged under a key where the command passed the check of its tag (R668, R669,
R672, R677). -/
def State.answer (s : State) (fn opcode seq status : Nat) (payload : List Byte) (key : Option (List Byte)) : State :=
  let head := leBytes 2 opcode ++ leBytes 2 status ++ leBytes 4 payload.length ++ leBytes 8 seq
  let tag := match key with | some k => frameTag k head payload | none => List.replicate 16 0
  let s := s.rspWrite fn (head ++ tag ++ payload)
  let s := ((s.on (fMbxDone fn)).off (fMbxBusy fn)).setSession fn { s.session fn with started := false }
  if s.flag (fMbxVecEn fn) then s.msix fn (s.get (fMbxVec fn)) else s

/-- The answer to the command in the command area. -/
def State.respond (s : State) (fn status : Nat) (payload : List Byte) (tagged : Bool) : State :=
  s.answer fn (s.cmdOpcode fn) (s.cmdSeq fn) status payload (if tagged then some (s.session fn).kRsp else none)

/-- A command or mailbox violation, counted and logged (R683). -/
def State.mbxViol (s : State) (fn code : Nat) : State :=
  (s.bump (if code = 0x6203 then kTagFail fn else kSecViol fn)).violation code (srcHost fn) (s.cmdBytes fn)

/-- The length of an opcode's payload (R674). -/
def payloadLength (op : Nat) : Option Nat :=
  if op = 0x0001 ∨ op = 0x0002 then some 32
  else if op = 0x0003 then some 40
  else if op = 0x0010 ∨ op = 0x0011 ∨ op = 0x0012 ∨ op = 0x0021 then some 0
  else if op = 0x0020 then some 56
  else none

/-- The opcodes without authentication (R669, R670). -/
def unauthenticated (op : Nat) : Bool := op == 0x0001 || op == 0x0002 || op == 0x0003

/-- Payload fields are zero where they are stated as zero, and in range where a range is stated (R657, R674). -/
def payloadFormed (op : Nat) (pl : List Byte) : Bool :=
  if op = 0x0001 then zeros pl 20 32
  else if op = 0x0003 then zeros pl 1 4
  else if op = 0x0020 then
    zeros pl 1 8 && zeros pl 20 24 && decide (1 ≤ fieldAt pl 0 1) && decide (fieldAt pl 0 1 ≤ 4) && fieldAt pl 8 8 % 64 == 0 &&
      decide (1 ≤ fieldAt pl 16 4) && decide (fieldAt pl 16 4 ≤ 16777216)
  else true

/-- The command is well formed (R670, check 1; R669). -/
def State.cmdFormed (s : State) (fn : Nat) : Bool :=
  let c := s.cmdBytes fn
  let op := s.cmdOpcode fn
  zeros c 2 4 && payloadLength op == some (fieldAt c 4 4) && payloadFormed op (s.cmdPayload fn) &&
    (!unauthenticated op || zeros c 8 32)

/-- A session of function fn is open. -/
def State.sessOpen (s : State) (fn : Nat) : Bool := decide (2 ≤ s.get (fSecState fn))

/-- The tag of the command verifies under K_cmd (R669). -/
def State.cmdTagOk (s : State) (fn : Nat) : Bool :=
  ((s.cmdBytes fn).drop 16).take 16 == frameTag (s.session fn).kCmd ((s.cmdBytes fn).take 16) (s.cmdPayload fn)

/-- The command passes its checks and waits for its effect. -/
def State.cmdStarts (s : State) (fn : Nat) : State := s.setSession fn { s.session fn with started := true }

/-- Checks 4 and 5 of R670 on a command whose tag has verified (R671, R673). -/
def State.cmdSequence (s : State) (fn : Nat) : State :=
  let last := (s.reg64 (kSecSeq fn)).toNat
  let seq := s.cmdSeq fn
  if last + 1 < seq ∨ last = 2 ^ 64 - 1 then (s.mbxViol fn 0x6204).respond fn stSeqGap [] true
  else if seq ≤ last then (s.mbxViol fn 0x6204).respond fn stReplay [] true
  else
    let s := s.setReg64 (kSecSeq fn) (BitVec.ofNat 64 seq)
    let s := s.setSession fn { s.session fn with idleFrom := s.tb.ticks }
    if (s.cmdOpcode fn = 0x0020 ∨ s.cmdOpcode fn = 0x0021) ∧ fn ≠ 0 then (s.mbxViol fn 0x6205).respond fn stNotPermitted [] true
    else s.cmdStarts fn

/-- The checks of R670, in their order; the first that fails answers (COMMAND_CHECK_FAIL). [log 91: DEDUCED, unsafe] -/
def State.cmdCheck (s : State) (fn : Nat) : State :=
  let op := s.cmdOpcode fn
  if payloadLength op = none then (s.mbxViol fn 0x6205).respond fn stUnknown [] false
  else if !s.cmdFormed fn then (s.mbxViol fn 0x6205).respond fn stFormat [] false
  else if op = 0x0001 then s.cmdStarts fn
  else if op = 0x0002 then
    if (s.session fn).pend.isNone then (s.mbxViol fn 0x6205).respond fn stNotPermitted [] false else s.cmdStarts fn
  else if op = 0x0003 then
    if fn ≠ 0 ∨ s.fuse.provClosed then (s.mbxViol fn 0x6205).respond fn stNotPermitted [] false else s.cmdStarts fn
  else if !s.sessOpen fn then (s.mbxViol fn 0x6205).respond fn stNoSession [] false
  else if !s.cmdTagOk fn then (s.mbxViol fn 0x6203).respond fn stAuthFail [] false
  else s.cmdSequence fn

/-- An uncorrectable error in the session unit's SRAM closes the sessions that it touches (R684). -/
def State.sessUpset (s : State) (touched : BitVec 8) : State :=
  let l := (List.range 8).filter (fun p => touched.getLsbD p)
  l.foldl (fun s p => s.sessionEnds p) (if l = [] then s else s.report 0x6401 (srcHost (l.headD 0)))

/-- MAILBOX_DOORBELL (R662, R670, R677, R684): a write to SEC_MBX_DB; touched: sessions whose state an uncorrectable SRAM error has hit. [log 95: DEDUCED, unsafe] -/
def execMailboxDoorbell (fn : Fn) (v : Word) (touched : BitVec 8) (s : State) : Out :=
  if s.turnsAway fn then .next (s.turnedAway fn) else
  if !v.getLsbD 0 || !s.boot.mailboxes then .next s
  else
    let s := s.sessUpset touched
    if s.flag (fMbxBusy fn) then .next ((s.on (fMbxOverrun fn)).mbxViol fn 0x6205)
    else .next (((s.on (fMbxBusy fn)).off (fMbxDone fn)).cmdCheck fn)

/-- The mailbox of fn holds a command of this opcode that has passed its checks. -/
def State.cmdIs (s : State) (fn op : Nat) : Bool := s.flag (fMbxBusy fn) && (s.session fn).started && s.cmdOpcode fn == op

-- OPENING A SESSION

/-- The key of partition p, unless its slot is blank or reads as blank (R659, R684). -/
def State.keyOf (s : State) (p : Nat) : Option (List Byte) := if (s.session p).keyBad then none else Tbl.find s.fuse.psk p

/-- The whole seconds left of a lockout, rounded up (R664). -/
def State.lockLeft (s : State) (p : Nat) : Nat :=
  match (s.session p).lock with
  | some (t, secs) => (secs * 25000000 - (s.tb.ticks - t) + 24999999) / 25000000
  | none => 0

/-- The class of a runtime version against the pair in force, if it is listed (R666, R760). -/
def State.runtimeClass (s : State) (v : Nat) : Option Nat :=
  match s.boot.flash.manifest s.fuse.fwk (s.get fBootBank) with
  | some m => m.runtimeClass (s.reg kStwVer).toNat (s.reg kReeveVer).toNat v
  | none => none

/-- VERDICT of a runtime version that is not INCOMPATIBLE: the lowest row that applies (R666). -/
def State.verdictFor (s : State) (v : Nat) : Nat := if s.boot.limited ≠ 0 then 2 else if s.runtimeClass v = some 1 then 0 else 1

/-- MODE and REASON that go with a VERDICT (R666). -/
def State.modeFor (s : State) (verdict : Nat) : Nat × Nat := if verdict = 2 then (2, s.boot.limited) else if verdict = 1 then (2, 0x6207) else (1, 0)

/-- The device's proof (R660). -/
def deviceProof (psk : List Byte) (p : Nat) (nh nd : List Byte) (stw reeve verdict : Nat) : List Byte :=
  hmac psk (ascii "FRW-DEV1" ++ leBytes 1 p ++ nh ++ nd ++ leBytes 4 stw ++ leBytes 4 reeve ++ leBytes 1 verdict)

/-- The host's proof (R660). -/
def hostProof (psk : List Byte) (p : Nat) (nd nh : List Byte) (runtime : Nat) : List Byte :=
  hmac psk (ascii "FRW-HST1" ++ leBytes 1 p ++ nd ++ nh ++ leBytes 4 runtime)

/-- So many free bytes. [log 93: DESIGN CHOICE, safe] -/
def State.freeBytes (s : State) (n : Nat) : List Byte := (List.range n).map (fun i => BitVec.ofNat 8 (Config.fresh (s.draws + i)))

/-- A read of a partition's key slot may fail: the slot then reads as blank (R684). -/
def State.keyRead (s : State) (p : Nat) (ok : Bool) : State := if ok then s else s.setSession p { s.session p with keyBad := true }

/-- The challenge: a pending open begins (R660, R662). -/
def State.challenge (s : State) (fn : Nat) (psk : List Byte) : State :=
  let pl := s.cmdPayload fn
  let nh := pl.take 16
  let rt := fieldAt pl 16 4
  let verdict := s.verdictFor rt
  let nd := s.freeBytes 16
  let stw := (s.reg kStwVer).toNat
  let reeve := (s.reg kReeveVer).toNat
  let body := nd ++ leBytes 4 stw ++ leBytes 4 reeve ++ leBytes 1 verdict ++ leBytes 1 fn ++ List.replicate 6 0 ++ deviceProof psk fn nh nd stw reeve verdict
  let s := (s.drawnN 16).setSession fn { s.session fn with pend := some { nh, nd, runtime := BitVec.ofNat 32 rt, verdict } }
  let s := if s.get (fSecState fn) = 0 then s.put (fSecState fn) 1 else s
  s.respond fn stOk body false

/-- OPEN_REQ (R659, R660, R662 to R664, R666; limits 2 and 10 of 18): keyOk, the key slot has been read without error; rngOk, the random number
generator passes its health test. [log 90: DEDUCED, unsafe] -/
def execOpenReq (fn : Fn) (keyOk rngOk : Bool) (s : State) : Out :=
  if !s.cmdIs fn 0x0001 then .next s
  else
    let s := if (s.session fn).pend.isSome then s.failedOpen fn else s
    let s := s.keyRead fn keyOk
    if (s.session fn).lock.isSome then .next ((s.violation 0x6202 (srcHost fn)).respond fn stLocked (leBytes 4 (s.lockLeft fn)) false)
    else
      match s.keyOf fn with
      | none => .next (s.respond fn stNoKey [] false)
      | some psk =>
        if s.runtimeClass (fieldAt (s.cmdPayload fn) 16 4) = some 2 then .next ((s.report 0x6208 (srcHost fn)).respond fn stIncompatible [] false)
        else if !rngOk then .next ((s.report 0x6209 (srcHost fn)).respond fn stRngFail [] false)
        else .next (s.challenge fn psk)

/-- A proof that verifies opens the session; one that is open is replaced (R661, R663, R665, R666). -/
def State.opened (s : State) (fn : Nat) (psk : List Byte) (x : PendOpen) : State :=
  let s := s.setSession fn { s.session fn with pend := none }
  let s := if s.sessOpen fn then s.sessionReset fn else s
  let okm := hkdf64 (x.nh ++ x.nd) psk (ascii "FRW-SESS" ++ leBytes 1 fn)
  let mode := (s.modeFor x.verdict).1
  let reason := (s.modeFor x.verdict).2
  let id := s.free % 2 ^ 32
  let s := s.drawn
  let s := s.setSession fn { s.session fn with kCmd := okm.take 32, kRsp := okm.drop 32, mode, verdict := x.verdict, reason, lock := none, idleFrom := s.tb.ticks }
  let s := ((s.put (fSecState fn) (mode + 1)).put (fFails fn) 0).put (fLockLevel fn) 0
  let s := ((s.setReg64 (kSecSeq fn) 0).setReg (kSessId fn) (BitVec.ofNat 32 id)).setReg (kRtVer fn) x.runtime
  let s := if x.verdict = 1 then s.report 0x6207 (srcHost fn) else s
  s.respond fn stOk (leBytes 4 id ++ leBytes 1 mode ++ List.replicate 3 0 ++ leBytes 2 reason ++ List.replicate 6 0) true

/-- OPEN_PROOF (R661, R662). -/
def execOpenProof (fn : Fn) (keyOk : Bool) (s : State) : Out :=
  if !s.cmdIs fn 0x0002 then .next s
  else
    let s := s.keyRead fn keyOk
    match (s.session fn).pend, s.keyOf fn with
    | some x, some psk =>
      if s.cmdPayload fn = hostProof psk fn x.nd x.nh x.runtime.toNat then .next (s.opened fn psk x)
      else .next ((s.failedOpen fn).respond fn stAuthFail [] false)
    | some _, none => .next ((s.failedOpen fn).respond fn stAuthFail [] false)
    | none, _ => .next (s.respond fn stNotPermitted [] false)

/-- KEY_PROVISION (R657). -/
def execKeyProvision (s : State) : Out :=
  if !s.cmdIs 0 0x0003 then .next s
  else
    let pl := s.cmdPayload 0
    let p := fieldAt pl 0 1
    let key := (pl.drop 4).take 32
    if 7 < p ∨ (Tbl.find s.fuse.psk p).isSome ∨ fieldAt pl 36 4 ≠ crc32c key then .next (s.respond 0 stBadKey [] false)
    else .next ({ s with fuse := { s.fuse with psk := Tbl.put s.fuse.psk p key } }.respond 0 stOk [] false)

-- COMMANDS OF A SESSION

/-- KEEPALIVE (R674). -/
def execKeepalive (fn : Fn) (s : State) : Out := if s.cmdIs fn 0x0010 then .next (s.respond fn stOk [] true) else .next s

/-- CLOSE (R674, R678): the answer, then the session reset. -/
def execClose (fn : Fn) (s : State) : Out := if s.cmdIs fn 0x0011 then .next ((s.respond fn stOk [] true).sessionEnds fn) else .next s

/-- SYS_GRADE (R5). -/
def State.sysGrade (s : State) : Nat := s.nCores + 256 * b2n s.fuse.ae

/-- INFO (R674). -/
def execInfo (fn : Fn) (s : State) : Out :=
  if s.cmdIs fn 0x0012 then
    let x := s.session fn
    let w (k : Nat) : List Byte := leBytes 4 (s.reg k).toNat
    .next (s.respond fn stOk (w kStwVer ++ w kReeveVer ++ w kManVer ++ w 0x0 ++ leBytes 4 s.sysGrade ++ leBytes 1 x.mode ++ leBytes 1 x.verdict ++ leBytes 2 x.reason) true)
  else .next s

-- FIRMWARE

/-- The bank that the boot did not use (20, Updating firmware). -/
def State.inactive (s : State) : Nat := 1 - s.get fBootBank

/-- FW_STAGE (R674, R766): the device hashes the image in DRAM, and passes one with the digest stated to the Steward. -/
def execFwStage (s : State) : Out :=
  if !s.cmdIs 0 0x0020 || s.boot.job.isSome then .next s
  else
    let pl := s.cmdPayload 0
    let r := s.ramRead .steward (fieldAt pl 8 8) (fieldAt pl 16 4)
    let s := r.2.2
    if r.2.1 ∨ sha256 r.1 ≠ (pl.drop 24).take 32 then .next (s.respond 0 stVerifyFail [] true)
    else
      let job : StageJob := { kind := fieldAt pl 0 1, image := r.1, seq := s.cmdSeq 0, kRsp := (s.session 0).kRsp, closed := false }
      .next ({ s with boot := { s.boot with job := some job } }.put fUpdateState 1)

/-- The Steward accepts the image for its slot (R767): none, or the code of the check that fails.  Where checks of both kinds fail, which code it
answers is open. -/
def State.stageCode (s : State) (j : StageJob) : Option Nat :=
  if j.kind = 4 then (if (hcbOf j.image).isSome then none else some 0x9202)
  else
    let formed := imageFormed j.kind j.image && decide (j.image.length ≤ slotSize j.kind) && (j.kind != 3 || (manifestOf (imageBody j.image)).isSome)
    let signed := imageSigned s.fuse.fwk j.image
    if formed && signed then none
    else if formed then some 0x9201
    else if signed then some 0x9202
    else some (if s.free % 2 = 0 then 0x9201 else 0x9202)

def State.setFlash (s : State) (f : Flash) : State := s.setBoot { s.boot with flash := f }

/-- A slot written. -/
def State.slotWrite (s : State) (bank kind : Nat) (bs : List Byte) : State :=
  s.setFlash { s.boot.flash with slots := Tbl.put s.boot.flash.slots (slotOf bank kind) bs }

/-- The four slots of the active bank copied into the inactive bank (R766). -/
def State.slotsCopied (s : State) : State :=
  [1, 2, 3, 4].foldl (fun s k => s.slotWrite s.inactive k (s.boot.flash.image (s.get fBootBank) k)) s

/-- Staging fails with a code: the staging set is discarded (R767). -/
def State.stageFails (s : State) (code : Nat) (j : StageJob) : State :=
  let s := ((s.put fUpdateCode code).put fUpdateState 5).put fUpdateKinds 0
  let s := s.setBoot { s.boot with job := none, staged := false, opened := false }
  s.answer 0 0x0020 j.seq stVerifyFail (leBytes 2 code) (some j.kRsp)

/-- FW_STAGE_COMPLETE (R766, R767, R770): the Steward has checked the image, written it and read it back. [log 92: DEDUCED, unsafe] -/
def execFwStageComplete (readBack : Bool) (s : State) : Out :=
  match s.boot.job with
  | none => .next s
  | some j =>
    if j.closed then .next ((s.setBoot { s.boot with job := none }).drawn.answer 0 0x0020 j.seq (s.free % 14) [] (some j.kRsp))
    else
      match s.stageCode j with
      | some code => .next (s.drawn.stageFails code j)
      | none =>
        let s := if s.boot.opened then s else s.slotsCopied
        if !readBack then .next ((((s.slotWrite s.inactive j.kind (s.freeBytes j.image.length)).drawnN j.image.length).bump kFlashErr).stageFails 0x9203 j)
        else
          let s := (s.slotWrite s.inactive j.kind j.image).put fUpdateState 2
          let s := s.put fUpdateKinds (s.get fUpdateKinds ||| 2 ^ (j.kind - 1))
          .next ((s.setBoot { s.boot with job := none, staged := true, opened := true }).answer 0 0x0020 j.seq stOk [] (some j.kRsp))

/-- The class of the pair in the inactive bank, by that bank's manifest (R769). -/
def State.inactiveClass (s : State) : Nat :=
  let f := s.boot.flash
  match f.manifest s.fuse.fwk s.inactive with
  | some m => m.pairClass (imageVersion (f.image s.inactive 1)) (imageVersion (f.image s.inactive 2))
  | none => 0

/-- FW_ACTIVATE answers VERIFY_FAIL with a code; the staging set is kept (R769). -/
def State.activateFails (s : State) (code : Nat) : State := (s.put fUpdateCode code).respond 0 stVerifyFail (leBytes 2 code) true

/-- FW_ACTIVATE (R769; limit 11 of 20). -/
def execFwActivate (s : State) : Out :=
  let b := s.boot
  if !s.cmdIs 0 0x0021 then .next s
  else if !b.staged && !b.activated then .next (s.activateFails 0x9206)
  else if s.inactiveClass = 2 then .next (s.activateFails 0x9204)
  else if s.inactiveClass ≠ 1 then .next (s.activateFails 0x9205)
  else if b.writing then .next (s.respond 0 stOk [] true)
  else if b.activated then .next (((s.setBoot { b with staged := false }).put fUpdateState 4).respond 0 stOk [] true)
  else .next (((s.setBoot { b with writing := true }).put fUpdateState 3).respond 0 stOk [] true)

/-- SELECTOR_WRITE_COMPLETE (R769): the copy that is not in force names the inactive bank, its SEQ one above. -/
def execSelectorWriteComplete (s : State) : Out :=
  let f := s.boot.flash
  if !s.boot.writing then .next s
  else
    let bs := selectorBytes (f.seq + 1) s.inactive
    let first : Bool := match f.inForce with | some (c, _, _) => c == 1 | none => s.free % 2 == 0
    let s := s.drawn.setBoot { s.boot with writing := false, staged := false, activated := true, flash := if first then { f with sel0 := bs } else { f with sel1 := bs } }
    .next ((s.put fUpdateState 4).setReg kSelSeq (BitVec.ofNat 32 (f.seq + 1)))

-- TIMERS AND PROVISIONING

/-- OPEN_PENDING_EXPIRY: so many ms have passed since OPEN_CHAL without OPEN_PROOF (R662). -/
def execOpenPendingExpiry (fn : Fn) (elapsedMs : Nat) (s : State) : Out :=
  if (s.session fn).pend.isSome && decide (1000 ≤ elapsedMs) then .next (s.failedOpen fn) else .next s

/-- LOCKOUT_EXPIRY: so many seconds have passed since the lockout began (R663). -/
def execLockoutExpiry (fn : Fn) (elapsedS : Nat) (s : State) : Out :=
  match (s.session fn).lock with
  | some (_, secs) => if secs ≤ elapsedS then .next (s.setSession fn { s.session fn with lock := none }) else .next s
  | none => .next s

/-- SESSION_IDLE_EXPIRY: so many seconds have passed since the last accepted command (R678). -/
def execSessionIdleExpiry (fn : Fn) (elapsedS : Nat) (s : State) : Out :=
  if s.sessOpen fn && decide (s.get (fIdleS fn) ≤ elapsedS) then .next ((s.report 0x6206 (srcHost fn)).sessionEnds fn) else .next s

/-- SEC_PROV_CLOSE (R658). -/
def execSecProvClose (fn : Fn) (v : Word) (s : State) : Out :=
  if s.turnsAway fn then .next (s.turnedAway fn) else
  if fn = 0 ∧ v.getLsbD 0 then .next { s with fuse := { s.fuse with provClosed := true } } else .next s

end Sys2Proof.Machine
end

