-- ==== Sys2Proof/Machine/Boot.lean ====
section
/-! DEFINITION. Power-on reset and boot, the PLLs, memory training, Banked and the wake
(20_clocks_power_boot.md, 22_electrical_package.md). -/

namespace Sys2Proof.Machine

def fBootCode : Fld := ⟨0x6000, 16, 16⟩
def fFallback : Fld := ⟨0x6000, 0, 1⟩
def fPairClass : Fld := ⟨0x6010, 0, 2⟩
def fBootMs : Fld := ⟨0x6014, 0, 16⟩
def fStwRunning : Fld := ⟨0x6100, 0, 1⟩
def fRomOnly : Fld := ⟨0x6100, 1, 1⟩
def kSysDram : Nat := 0xC
def kPwrBanks : Nat := 0x5030

/-- The source of the Steward's events (R613). -/
def srcStw : BitVec 16 := srcOf 10 0 0

-- POWER-ON RESET

/-- The flash after a reset that may interrupt a selector write: the copy that was being written is the old one or is invalid (R770). -/
def State.flashAfter (s : State) : Flash :=
  let f := s.boot.flash
  if !s.boot.writing || s.free % 2 = 0 then f
  else
    let first : Bool := match f.inForce with | some (c, _, _) => c == 1 | none => s.free / 2 % 2 == 0
    if first then { f with sel0 := [] } else { f with sel1 := [] }

/-- A power-on reset: everything is at its reset value but the fuses, the flash, the test access port, the input PERST_N and a hold by a
main rail, and the DRAM's content is undefined (R620, R784, R819); RESET_N is still low. [log 125: DEDUCED, unsafe] -/
def State.powerOn (s : State) : State :=
  { State.reset with pending := s.pending, fuse := s.fuse, epoch := s.epoch + 1, draws := s.draws + 1, emitted := s.emitted, tap := s.tap, pcie := { Pcie.reset with perst := s.pcie.perst }, boot := { Boot.reset with flash := s.flashAfter, railHold := s.boot.railHold } }

/-- RESET_N_PULSE: a low pulse of so many ns (R800): shorter than 200 ns it is ignored, and below 1 µs it may be. [log 119: DEDUCED, unsafe] -/
def execResetNPulse (ns : Nat) (s : State) : Out :=
  if ns < 200 then .next s
  else if 1000 ≤ ns ∨ s.free % 2 = 1 then .next s.drawn.powerOn
  else .next s.drawn

/-- The register belongs to Hedgerow or to a CAN FD controller. -/
def onHdgRail (k : Nat) : Bool := (decide (0x8000 ≤ k) && decide (k < 0x10000)) || (decide (0x40000 ≤ k) && decide (k < 0x43000))

/-- RAIL_UNDERVOLT_RESET: a main rail is below 90 % of its nominal value (R796): every block but Hedgerow and the CAN FD controllers is in
power-on reset; the test access port loses its supply too. -/
def execRailUndervoltReset (s : State) : Out :=
  let p := s.drawn.powerOn
  let veh : Vehicle := { s.veh with reeveBuf := none, psBuf := none, psSeq := 0, fillDue := false, ethErr := [] }
  .next { p with regs := s.regs.filter (fun (x : Nat × Word) => onHdgRail x.1), hdg := s.hdg, veh := veh, tap := Tap.reset, tb := { p.tb with ticks := s.tb.ticks }, boot := { p.boot with railHold := true } }

-- THE BOOT'S OUTCOMES

/-- The code means fallback-only mode (R765). -/
def fallbackCode (code : Nat) : Bool := code / 4096 == 9 || code == 0x3102

/-- Milliseconds from RESET_N rising, a part of one counted whole. -/
def State.bootMs (s : State) : Nat := min ((s.tb.ticks - s.boot.from_ + 24999) / 25000) 0xFFFF

/-- The boot ends in HELD with a code; a later condition changes nothing (R763, R765, R794, R666).  Where the Reeve is not to start, Hedgerow acts
as one that has lost it (R129). [log 94: DEDUCED, unsafe] -/
def State.bootHeld (s : State) (code : Nat) : State :=
  if s.boot.done then s
  else
    let s := ((s.put fBootCode code).put fFallback (b2n (fallbackCode code))).put fBootMs s.bootMs
    let s := ((s.setBoot { s.boot with done := true, limited := code }).heldCause code).heldEvents
    if s.hdg.alive && !s.boot.reeveOk then s.hdgFill cmdStop else s

/-- Step 3 (R753, R761, R765): the boot ROM checks the Steward image of the bank in force, and else that of the other bank. -/
def State.romCheck (s : State) : State :=
  let f := s.boot.flash
  let fine (b : Nat) : Bool := imageOk s.fuse.fwk 1 (f.image b 1)
  let bank := if fine f.bank then f.bank else 1 - f.bank
  if !fine bank then (s.on fRomOnly).bootHeld 0x9102
  else
    let s := ((s.put fBootStage 1).put fBootBank bank).setReg kSelSeq (BitVec.ofNat 32 f.seq)
    let s := (s.setReg kStwVer (BitVec.ofNat 32 (imageVersion (f.image bank 1)))).on fStwRunning
    s.setBoot { s.boot with stewardFrom := s.tb.ticks }

/-- The flash as a board programmer has left it. -/
def flashOf (c : FlashContent) : Flash :=
  { sel0 := c.sel0, sel1 := c.sel1, bcb := c.bcb, slots := (((List.range 8).map (fun i => (i, c.slots.getD i []))).filter (fun (x : Nat × List Byte) => x.2 != [])) }

/-- Hedgerow starts from its mask ROM: HELD, commanding STOP with its driver on (R761, R795). -/
def State.hdgStart (s : State) : State :=
  ({ s with regs := s.regs.filter (fun (x : Nat × Word) => !(decide (0x8000 ≤ x.1) && decide (x.1 < 0x10000))), hdg := Hedgerow.reset }).on fStopDrive

/-- Every core at E_MAX, before the throttles act (R732). -/
def State.fullE (s : State) : State :=
  ((List.range 16).foldl (fun s i => if s.physCores.contains i then (s.put (fEPower i) s.eMax).put (fETherm i) s.eMax else s) s).settleAll

/-- RESET_N rises: Hedgerow starts, unless it was held out of the reset (R132, R796), and the PLLs begin to lock, or the device is in test
mode (R761, R796, R814). -/
def State.bootStart (s : State) (testEn : Bool) (flash : Flash) : State :=
  let s := if s.boot.railHold then s else s.hdgStart
  let s := s.setBoot { Boot.reset with begun := true, from_ := s.tb.ticks, test := testEn, flash := flash }
  if testEn then s.bootHeld 0x9108
  else ([0, 1, 2, 3, 4, 5].foldl (fun s i => s.put (fPll i) 1) s).fullE

/-- BOOT_START (R761, R794, R796, R814): RESET_N rises with every rail within its window; the flash may have been programmed on the board. -/
def execBootStart (testEn : Bool) (flash : Option FlashContent) (s : State) : Out :=
  if s.boot.begun || s.boot.railHold then .next s
  else .next (s.bootStart testEn (match flash with | some c => flashOf c | none => s.boot.flash))

/-- RAIL_RECOVERY_RELEASE: every main rail has been in its range for so many ms (R796). -/
def execRailRecoveryRelease (inRangeMs : Nat) (testEn : Bool) (s : State) : Out :=
  if !s.boot.railHold || decide (inRangeMs < 10) then .next s else .next (s.bootStart testEn s.boot.flash)

/-- The settings that the boot configuration block gives (R731, R754). -/
def State.bcbTake (s : State) (b : Bcb) : State :=
  let s := ((s.put fOpp (b2n b.boost)).put fPwrLimit b.limit).put fTThr b.thr
  ((s.put fTPause b.pause).setBoot { s.boot with bcbOk := true }).fullE

/-- BOOT_PAIR_CLASSIFY (R754 to R762, R765): step 4. -/
def execBootPairClassify (s : State) : Out :=
  if s.get fBootStage ≠ 1 ∨ s.boot.done then .next s
  else
    let f := s.boot.flash
    let bank := s.get fBootBank
    let bcb := bcbOf s.fuse.grade f.bcb
    let reeve := imageOk s.fuse.fwk 2 (f.image bank 2)
    let man := f.manifest s.fuse.fwk bank
    let version (k : Nat) : Nat := imageVersion (f.image bank k)
    let cls := match man with
      | some m => m.pairClass (version 1) (version 2)
      | none => 3
    let s := match bcb with
      | some b => s.bcbTake b
      | none => s
    let s := ((s.setReg kReeveVer (BitVec.ofNat 32 (version 2))).setReg kManVer (BitVec.ofNat 32 (version 3))).put fPairClass cls
    let s := (s.put fBootStage 2).setBoot { s.boot with mailboxes := true, reeveOk := reeve && cls != 2 }
    if bcb = none then .next (s.bootHeld 0x9107)
    else if !reeve then .next (s.bootHeld 0x9103)
    else if cls = 3 then .next (s.bootHeld 0x9104)
    else if cls = 2 then .next (s.bootHeld 0x9106)
    else if cls = 0 then .next (s.bootHeld 0x9105)
    else .next s

/-- The wake has failed: the device enters HELD in fallback-only mode (R35, R751, R765). -/
def State.wakeFails (s : State) (code : Nat) : State :=
  let s := (s.on fFallback).setBoot { s.boot with limited := code }
  (s.setPower { s.power with wakeAt := none }).heldFault code srcStw

/-- MEMORY_TRAINING_DONE (R24 to R26, R35, R751, R761): training at boot or at wake ends; failed: channels on which it failed. [log 11: DESIGN CHOICE, unsafe] -/
def execMemoryTrainingDone (density : Fin 3) (ranks2 : Bool) (failed : BitVec 16) (s : State) : Out :=
  let boot := s.get fBootStage = 2 ∧ s.boot.bcbOk
  let wake := s.get fPwrState = pwrWaking ∧ s.power.wakeAt.isSome
  if s.boot.trainEnded ∨ ¬ (boot ∨ wake) then .next s
  else
    let s1 := (s.setBoot { s.boot with trainEnded := true, trained := failed == 0 }).setPower { s.power with selfRefresh := false }
    if failed ≠ 0 then (if wake then .next (s1.wakeFails 0x3102) else .next (s1.bootHeld 0x3102))
    else if wake then .next s1
    else
      let rate := match bcbOf s.fuse.grade s.boot.flash.bcb with | some b => b.rate | none => 0
      .next (s1.setReg kSysDram (BitVec.ofNat 32 (15 * 2 ^ density.val * 256 + b2n ranks2 * 16 + density.val * 4 + rate)))

/-- REEVE_START (R761, R765): step 6; the Reeve logs what the boot has found so far. -/
def execReeveStart (s : State) : Out :=
  if s.get fBootStage ≠ 2 ∨ !s.boot.reeveOk ∨ (s.boot.bcbOk ∧ !s.boot.trainEnded) ∨ s.reeve.alive then .next s
  else
    let s := (s.put fBootStage 3).setReeve { s.reeve with alive := true }
    let s := if s.get fBootBank ≠ s.boot.flash.bank then s.report 0x9101 srcStw else s
    .next (if s.boot.limited = 0 then s else s.heldFault s.boot.limited srcStw)

/-- Every enabled core has passed its known-answer test, and the self-test's pass is complete (R751, R761). -/
def State.testsPassed (s : State) : Bool := (List.range s.nCores).all (fun k => s.boot.kats.contains k) && s.diagnostics.all (fun d => s.boot.tested.contains d)

/-- BOOT_COMPLETE (R79, R128, R761, R794): step 8; monitor: a condition that the clock and supply monitors show, beside the state's own. -/
def execBootComplete (monitor : Option (BitVec 16)) (s : State) : Out :=
  let cause := s.get fHdgHeldCause
  if s.get fBootStage ≠ 3 ∨ s.boot.done ∨ !s.reeve.alive then .next s
  else if cause ≠ 0 then .next (s.bootHeld cause)
  else if !s.testsPassed ∨ s.recovering then .next s
  else
    match s.monitorCode monitor with
    | some c => .next ((s.bootHeld c).heldFault c srcStw)
    | none => .next ((((s.put fBootStage 4).put fBootMs s.bootMs).setBoot { s.boot with done := true }).setMode 0)

-- PLLS

/-- The PLL takes the crystal as its reference (R726). -/
def crystalFed (p : Pll) : Bool := p != .ppll

/-- The SPLL and the core and memory PLLs are locked: step 2 of the boot is over (R761, R764). [log 122: DEDUCED, unsafe] -/
def State.bootPllsLocked (s : State) : Bool := [0, 1, 2, 5].all (fun i => s.get (fPll i) == 2 || s.get (fPll i) == 3)

/-- The islands of the cores are powered again (R751). -/
def State.coresUp (s : State) : State := ((List.range 48).foldl (fun s i => s.setReg (0x4100 + 4 * i) 0) s).settleAll

/-- PLL_LOCK (R727, R741, R751, R761): a PLL that is locking, or that had lost its lock, is LOCKED; the SPLL then calibrates at power-on and at
wake; with the last of the boot's PLLs the boot ROM acts. -/
def execPllLock (pll : Pll) (s : State) : Out :=
  let st := s.get (fPll pll.idx)
  if (st ≠ 1 ∧ st ≠ 4) ∨ (crystalFed pll ∧ s.power.crystalLost) then .next s
  else
    let s := s.put (fPll pll.idx) 2
    let s := if s.get fPwrState = pwrWaking ∧ s.flag (fIslOff 0) ∧ [0, 1, 3, 5].all (fun i => s.get (fPll i) == 2 || s.get (fPll i) == 3) then s.coresUp else s
    let s := if pll = .spll ∧ (!s.boot.done ∨ s.get fPwrState = pwrWaking) then s.calDue else s
    if s.boot.begun ∧ !s.boot.test ∧ s.get fBootStage = 0 ∧ !s.boot.done ∧ s.bootPllsLocked then .next s.romCheck else .next s

/-- What the loss of a PLL raises (R681, R773, R774). -/
def State.pllLost (s : State) (pll : Pll) : State :=
  match pll with
  | .cpll0 => (s.jobFault 0x8102 s.anyIsland).drawn
  | .cpll1 => (s.jobFault 0x8102 s.anyIsland).drawn
  | .mpll => ((s.jobFault 0x8102 s.anyIsland).drawn).setReeve { (s.jobFault 0x8102 s.anyIsland).drawn.reeve with alive := false }
  | .spll => (s.jobFault 0x8103 s.anyIsland).drawn
  | .lpll => ((List.range 4).foldl (fun s i => (s.off (fKlyLocked i)).klyHold i) ((s.report 0x8401 s.anyIsland).drawn))
  | .ppll => if s.flag fDlUp then ((s.report 0x8402 s.anyIsland).drawn).linkDown else (s.report 0x8402 s.anyIsland).drawn

/-- PLL_LOSS_OF_LOCK (R727, R774): a LOCKED PLL loses its lock, or its reference is missing; a PLL that is locking waits. -/
def execPllLossOfLock (pll : Pll) (refMissing : Bool) (s : State) : Out :=
  let st := s.get (fPll pll.idx)
  if st = 2 then .next ((s.put (fPll pll.idx) 4).pllLost pll)
  else if st = 3 ∧ refMissing then .next (s.put (fPll pll.idx) 4)
  else .next s

/-- CRYSTAL_LOSS (R773; limit 5 of 22): each locked PLL that the crystal feeds holds its frequency and raises 0x8105; a boot whose PLLs cannot lock
ends in HELD. [log 121: DEDUCED, unsafe] -/
def execCrystalLoss (s : State) : Out :=
  let s := s.setPower { s.power with crystalLost := true }
  if s.boot.begun ∧ !s.boot.done ∧ s.get fBootStage = 0 then .next (s.bootHeld 0x8105)
  else .next (([0, 1, 2, 3, 5].filter (fun i => s.get (fPll i) == 2 || s.get (fPll i) == 3)).foldl (fun s _ => (s.jobFault 0x8105 s.anyIsland).drawn) s)

-- BANKED

/-- BANK_ENTER_REQUEST (R745, R775): a physical-function write of 1 to PWR_BANK.ENTER. -/
def execBankEnterRequest (fn : Fn) (v : Word) (s : State) : Out :=
  if s.turnsAway fn then .next (s.turnedAway fn) else
  if fn ≠ 0 ∨ !v.getLsbD 0 then .next s
  else if s.mode = 1 then .next (s.on fBankPending)
  else .next s.bankTry

/-- The islands that lose their PLL in Banked: the cores', the intake's, the Kelyth ports' and the triggers' (R728, R747). -/
def bankedIslands : List Nat := (List.range 48) ++ [48, 49, 52, 53, 54, 55, 63]

/-- A MAC of the sensors is off: its link is down. -/
def State.macOff (s : State) (m : Nat) : State := (s.off (fEthLink m)).put (fEthSpeed m) 0

/-- The trigger generators and the parsers stop: a pulse ends, and packets in the parsers are dropped (R746, R747). [log 123: DEDUCED, unsafe] -/
def State.intakeStops (s : State) : State :=
  let s := s.mill.pulses.foldl (fun s x => s.endPulse x.1) s
  { s with mill := { s.mill with streams := s.mill.streams.map (fun (x : Nat × StreamSt) => (x.1, { x.2 with queue := [], run := none, windows := [] })) } }

/-- The blocks stop in the order of R746. -/
def State.bankDown (s : State) : State :=
  let s := s.intakeStops
  let s := (List.range 4).foldl State.portDown s
  let s := (List.range 4).foldl (fun s i => if s.flag (fKlyEn i) then s.klyDown i klyDisabled true else s) s
  let s := (List.range 4).foldl State.macOff s
  let s := [5, 3, 0, 1].foldl (fun s i => s.put (fPll i) 0) s
  let s := (List.range 16).foldl (fun s i => s.put (fCoreE i) 0) s
  let s := bankedIslands.foldl (fun s i => s.setReg (0x4100 + 4 * i) 0x800) s
  { s with cores := [], power := { s.power with selfRefresh := true } }

/-- BANK_ENTRY_COMPLETE (R43, R46, R746, R747): the device is BANKED; a held wake request is accepted. -/
def execBankEntryComplete (s : State) : Out :=
  if s.get fPwrState ≠ pwrEntering then .next s
  else
    let s := s.bankDown
    let s := if s.get fTbState = tbLocked ∨ s.get fTbState = tbAcquire then s.tbEnter tbHoldover else s
    let s := (s.put fPwrState pwrBanked).bump kPwrBanks
    .next (if s.power.wakeHeld then s.wakeStart else s)

/-- WAKE_REQUEST (R750, R775): a physical-function write of 1 to PWR_WAKE; an edge on TRIG_IN is TRIG_IN_EDGE's. -/
def execWakeRequest (fn : Fn) (v : Word) (s : State) : Out :=
  if s.turnsAway fn then .next (s.turnedAway fn) else
  if fn = 0 ∧ v.getLsbD 0 then .next s.wakeAsked else .next s

/-- Every step of the wake has completed (R751). -/
def State.wakeDone (s : State) : Bool :=
  [0, 1, 3, 5].all (fun i => s.get (fPll i) == 2) && s.power.calDue.isNone && s.boot.trained && s.testsPassed

/-- The grid points that have passed while no boundary was evaluated: the next boundary is the next grid point, and an apply boundary among
them has taken effect (limit 12 of 02). -/
def State.gridCatchUp (s : State) : State :=
  let due : Option Nat := match s.tb.applyAt with
    | some a => some (s.tb.next + (a - BitVec.ofNat 32 s.tb.next).toNat)
    | none => none
  let s := match due with
    | some n => if s.boundaryAt n < s.now then s.gridAdvance n (s.boundaryAt n) else s
    | none => s
  let e := (s.reg64 kFrameEpoch).toNat
  let first := s.tb.base + (s.now - e + s.period - 1) / s.period
  if s.now ≤ e ∨ first ≤ s.tb.next then s
  else (s.setTb { s.tb with next := first, begun := true }).setReg kFrameNum (BitVec.ofNat 32 (first - 1))

/-- The blocks start again from their first settings (R137, R536, R711, R747, R751). -/
def State.blocksUp (s : State) : State :=
  let s := [48, 49, 52, 53, 54, 55, 63].foldl (fun s i => s.setReg (0x4100 + 4 * i) 0) s
  let s := (List.range 4).foldl (fun s p => if s.flag (fPortEn p) then s.portRestart p else s) s
  let s := (List.range 4).foldl (fun s i => if s.flag (fKlyEn i) then s.klyTrainFirst i else s) s
  (List.range 4).foldl (fun s m => if s.flag (fEthEn m) then s.ethStart m else s) s

/-- KNOWN_ANSWER_TEST (R633 to R636, R751, R761): the known-answer test of a core completes, in the sweep, at boot or in a wake; once every core has
passed in a wake, the blocks start again. -/
def execKnownAnswerTest (k : CoreId) (pass : Bool) (s : State) : Out :=
  let sweep : Option Sweep := match s.reeve.sweep with
    | some w => if w.step = 2 ∧ w.core = k.val ∧ w.at_ = .kat then some w else none
    | none => none
  if !s.reeve.alive || decide (s.nCores ≤ k.val) then .next s
  else
    match sweep with
    | some w => .next (((s.tested k pass).nextCore w).settleE (s.physOf k))
    | none =>
      if !s.testsDue then .next s
      else
        let s := (s.tested k pass).poolReset k
        if !pass then .next (s.setPower { s.power with wakeAt := none })
        else
          let s := s.setBoot { s.boot with kats := if s.boot.kats.contains k.val then s.boot.kats else s.boot.kats ++ [k.val] }
          .next (if s.blocksOff && (List.range s.nCores).all (fun j => s.boot.kats.contains j) then s.blocksUp else s)

/-- WAKE_COMPLETE (R751): 40.000 ms after the request was accepted the device is in RUN, or in HELD with 0x9301. -/
def execWakeComplete (s : State) : Out :=
  match s.power.wakeAt with
  | some t =>
    if s.get fPwrState ≠ pwrWaking then .next s
    else
      let s := s.reachTick (t + 1000000)
      if !s.wakeDone then .next (s.wakeFails 0x9301)
      else
        let s := (s.setPower { s.power with wakeAt := none, wokenAt := some s.tb.ticks }).put fPwrState pwrRun
        .next (if s.flag fFrameEn then s.gridCatchUp else s)
  | none => .next s

end Sys2Proof.Machine
end

