-- ==== Sys2Proof/Machine/Can.lean ====
section
/-! DEFINITION. The two CAN FD controllers and the SAFE_STOP_N readback (19_vehicle_interfaces.md). -/

namespace Sys2Proof.Machine

def kCanCtrl (c : Nat) : Nat := 0x40000 + 0x400 * c
def fCanThresh (c : Nat) : Fld := ⟨kCanCtrl c, 8, 8⟩
def fTec (c : Nat) : Fld := ⟨0x40010 + 0x400 * c, 24, 8⟩
def fRec (c : Nat) : Fld := ⟨0x40010 + 0x400 * c, 16, 8⟩
def fRung (c : Nat) : Fld := ⟨0x40010 + 0x400 * c, 4, 2⟩
def kBusoff (c : Nat) : Nat := 0x40014 + 0x400 * c
def kPassive (c : Nat) : Nat := 0x40018 + 0x400 * c
def kCanRxOther (c : Nat) : Nat := 0x40020 + 0x400 * c
def kCanViol (c : Nat) : Nat := 0x40024 + 0x400 * c
def kFallover : Nat := 0x40428
def fCanRejected : Fld := ⟨0x40800, 0, 1⟩
def kTxb (b off : Nat) : Nat := 0x41000 + 0x50 * b + off
def fTxbStatus (b : Nat) : Fld := ⟨kTxb b 8, 0, 2⟩
/-- REQ and ABORT of a transmit buffer. -/
def fTxbReq (b : Nat) : Fld := ⟨kTxb b 4, 31, 1⟩
def fTxbAbort (b : Nat) : Fld := ⟨kTxb b 4, 30, 1⟩
def fRestore (c : Nat) : Fld := ⟨kCanCtrl c, 30, 1⟩
def fTxbTmo (b : Nat) : Fld := ⟨kTxb b 0xC, 0, 10⟩
def fTxbDlc (b : Nat) : Fld := ⟨kTxb b 4, 16, 4⟩
def kRxfStatus : Nat := 0x42000
def kRxfOvf : Nat := 0x42008
def fLockBit : Fld := fLock

/-- The source of a CAN controller's event (R613, UNIT 12). -/
def srcCan (c : Nat) : BitVec 16 := srcOf 12 c 0

/-- The controller is on the bus. -/
def State.canOn (s : State) (c : Nat) : Bool := s.flag (fCanEn c) && decide (s.get (fCanState c) < 2)

/-- A write that the CAN block rejects (R724). -/
def State.canReject (s : State) : State := s.on fCanRejected

/-- The function may write controller c's registers (R723). -/
def State.canMayWrite (s : State) (fn : Fn) (c : Nat) : Bool := fn.val == 0 || (c == 1 && fn.val == s.perc)

-- FAULT CONFINEMENT

/-- The Reeve's CAN-reason driver turns off once CAN 0 is sound, has sent a Safe-Stop since its last bus-off, and HOLD_MS has
passed (R704). -/
def State.canRelease (s : State) : State :=
  if s.reeve.alive && s.flag fDriveCan && s.get (fCanState 0) == 0 && !s.flag (fCanFailed 0) && s.veh.sentSince && s.veh.holdOver then s.off fDriveCan
  else s

/-- The controller's state by its error counters (ISO 11898-1): error-passive above 127, which is logged as it is entered
(R701). -/
def State.canSettle (s : State) (c : Nat) : State :=
  let passive := decide (127 < s.get (fTec c)) || decide (127 < s.get (fRec c))
  if s.get (fCanState c) = 0 ∧ passive then ((s.put (fCanState c) 1).bump (kPassive c)).report 0x7106 (srcCan c)
  else if s.get (fCanState c) = 1 ∧ ¬ passive then (s.put (fCanState c) 0).canRelease
  else s

/-- A Safe-Stop's bytes with FALLOVER set (R693, R706). -/
def withFallover (bs : List Byte) : List Byte :=
  match bs with
  | b :: r => (b ||| 0x20) :: (r.take 6 ++ leBytes 1 (crc8 ((b ||| 0x20) :: r.take 6)))
  | [] => []

/-- What the Reeve does at a bus-off of CAN 0: its driver on, a STOP on CAN 1 (R702); with the Reeve lost there is no one to do it (19, case 7),
and a Safe-Stop that waits in Hedgerow's buffer is sent on CAN 1 by itself (R703). -/
def State.busoffAct (s : State) : State :=
  if s.reeve.alive then
    let s := s.on fDriveCan
    let s := s.put fSsSeq (s.get fSsSeq + 1)
    s.setVeh { s.veh with fallover := some (s.safeStopBytes false true cmdStop (s.get fSsSeq)) }
  else
    match s.veh.hdgBuf with
    | some h => s.setVeh { s.veh with fallover := some (withFallover h) }
    | none => s

/-- Three bus-offs of CAN 0 within 1 s: FAILED, off the bus, with no recovery (CAN_FAILED; R705). -/
def State.can0Fail (s : State) : State :=
  let now := s.tb.ticks
  if 3 ≤ (s.veh.busoffs.filter (fun t => decide (now - t ≤ 25000000))).length then
    let s := ((s.on (fCanFailed 0)).put (fCanState 0) 3).report 0x7102 (srcCan 0)
    s.setVeh { s.veh with recovering0 := false }
  else s

/-- CAN 0 enters bus-off (CAN_BUS_OFF; R702, R703, R705): its buffers are no longer sent there, and the Reeve starts the recovery.
[log 163: DEDUCED, unsafe] -/
def State.busoff0 (s : State) : State :=
  let s := (((s.put (fTec 0) 255).put (fCanState 0) 2).bump (kBusoff 0)).report 0x7101 (srcCan 0)
  let v := s.veh
  let s := s.setVeh { v with recovering0 := s.reeve.alive, sentSince := false, holdOver := false, busoffs := (s.tb.ticks :: v.busoffs).take 3 }
  let s := s.busoffAct
  (s.setVeh { s.veh with reeveBuf := none, hdgBuf := none, psBuf := none }).can0Fail

/-- CAN 1 enters bus-off (R707). -/
def State.busoff1 (s : State) : State :=
  let s := (((s.put (fTec 1) 255).put (fCanState 1) 2).bump (kBusoff 1)).report 0x7104 (srcCan 1)
  s.setVeh { s.veh with recovering1 := true }

def State.busoff (s : State) (c : Nat) : State := if c = 0 then s.busoff0 else s.busoff1

/-- The error window of a controller with one more data-phase error: over the threshold the rung lowers (CAN_RUNG_LOWER; R692), and RESTORE, which
has had its effect, reads 0 again. [log 143: DESIGN CHOICE, unsafe] -/
def State.canDataError (s : State) (c : Nat) : State :=
  if s.get (fRung c) ≠ 0 then s
  else
    let w := Tbl.getD s.veh.canErr c ErrWindow.reset
    let w := if w.count = 0 ∨ 25000000 < s.tb.ticks - w.tick then { count := 1, tick := s.tb.ticks } else { w with count := w.count + 1 }
    let s := s.setVeh { s.veh with canErr := Tbl.put s.veh.canErr c w }
    if s.get (fCanThresh c) < w.count then
      (((s.setVeh { s.veh with canErr := Tbl.drop s.veh.canErr c }).put (fRung c) 1).off (fRestore c)).report 0x7107 (srcCan c)
    else s

/-- CAN_TX_ERROR: a transmit error of a controller; exempt: one of those for which ISO 11898-1 leaves the transmit error counter
alone (R692, R701, R702, R707). [log 40: PRESUMED, unsafe] -/
def execCanTxError (c : Fin 2) (dataPhase exempt : Bool) (s : State) : Out :=
  let c := c.val
  if !s.canOn c then .next s
  else
    let s := if dataPhase then s.canDataError c else s
    if exempt then .next s
    else if 255 < s.get (fTec c) + 8 then .next (s.busoff c)
    else .next ((s.put (fTec c) (s.get (fTec c) + 8)).canSettle c)

/-- CAN_RECEIVE_ERROR: an error while receiving raises REC by 1, or by 8 where ISO 11898-1 says so (R721). -/
def execCanReceiveError (c : Fin 2) (by8 : Bool) (s : State) : Out :=
  let c := c.val
  if !s.canOn c then .next s
  else .next ((s.put (fRec c) (min 255 (s.get (fRec c) + (if by8 then 8 else 1)))).canSettle c)

/-- CAN_BUSOFF_RECOVERY_DONE: 128 × 11 recessive bits have passed (R690, R704). -/
def execCanBusoffRecoveryDone (c : Fin 2) (s : State) : Out :=
  let going := if c.val = 0 then s.veh.recovering0 else s.veh.recovering1
  if !going then .next s
  else
    let s := s.setVeh (if c.val = 0 then { s.veh with recovering0 := false } else { s.veh with recovering1 := false })
    .next (((s.put (fTec c.val) 0).put (fRec c.val) 0).put (fCanState c.val) 0).canRelease

/-- CAN_HOLD_EXPIRY: so many ms since CAN 0's last bus-off (R704). -/
def execCanHoldExpiry (elapsedMs : Nat) (s : State) : Out :=
  if s.get ⟨0x4080C, 16, 14⟩ ≤ elapsedMs ∧ s.reeve.alive then .next (s.setVeh { s.veh with holdOver := true }).canRelease
  else .next s

/-- SECDED of a controller's message RAM finds an uncorrectable error (R720). -/
def State.canRamError (s : State) (c : Nat) : State :=
  let s := s.report 0x7109 (srcCan c)
  if c = 0 then s.busoff0 else s

/-- A host buffer leaves PENDING with a STATUS, and its REQ reads 0 again (R17, R700). [log 143: DESIGN CHOICE, unsafe] -/
def State.txbDone (s : State) (b status : Nat) : State := (s.put (fTxbStatus b) status).off (fTxbReq b)

-- TRANSMISSION

/-- COMMAND of a Safe-Stop. -/
def commandOfBytes (bs : List Byte) : Nat := (bs.headD 0).toNat % 4

/-- The host buffers of CAN 1 that are pending, by identifier, lowest first. -/
def State.txPending (s : State) : Option Nat :=
  let pend := (List.range 16).filter (fun b => s.get (fTxbStatus b) == 1)
  let id (b : Nat) : Nat := (s.reg (kTxb b 0)).toNat % 2 ^ 29
  pend.foldl (fun best b =>
    match best with
    | none => some b
    | some a => if id b < id a then some b else some a) none

/-- Data bytes of a DLC (ISO 11898-1). -/
def dlcBytes (fdf : Bool) (dlc : Nat) : Nat :=
  if dlc ≤ 8 then dlc
  else if !fdf then 8
  else match dlc with
    | 9 => 12
    | 10 => 16
    | 11 => 20
    | 12 => 24
    | 13 => 32
    | 14 => 48
    | _ => 64

/-- The data bytes of a host buffer. -/
def State.txbBytes (s : State) (b : Nat) : List Byte :=
  ((List.range 16).flatMap (fun i => leBytes 4 (s.reg (kTxb b (0x10 + 4 * i))).toNat)).take
    (dlcBytes (bitAt (s.reg (kTxb b 4)).toNat 9) (s.get (fTxbDlc b)))

/-- A controller sends a frame, an FD one with the error state indicator of an error-passive transmitter, and with BRS at rung 0 only (R690, R692). -/
def State.canEmit (s : State) (c : Nat) (f : CanFrame) : State :=
  s.emit (.canFrame c (f.fdf && s.get (fCanState c) == 1) { f with brs := f.fdf && f.brs && s.get (fRung c) == 0 })

/-- A Safe-Stop as a frame: classical, with the 29-bit identifier of CAN_SS_ID (R693). -/
def State.safeStopFrame (s : State) (bs : List Byte) : CanFrame :=
  { ext := true, id := (s.reg kSsId).setWidth 29, fdf := false, brs := false, remote := false, dlc := 8, data := bs }

/-- A Perception Status as a frame: CAN FD with BRS and 16 data bytes (R697). -/
def State.perceptionFrame (s : State) (bs : List Byte) : CanFrame :=
  { ext := true, id := (s.reg kPsId).setWidth 29, fdf := true, brs := true, remote := false, dlc := 10, data := bs }

/-- A host buffer as a frame (19, Registers). -/
def State.txbFrame (s : State) (b : Nat) : CanFrame :=
  { ext := (s.reg (kTxb b 0)).getLsbD 31, id := (s.reg (kTxb b 0)).setWidth 29, fdf := (s.reg (kTxb b 4)).getLsbD 9,
    brs := (s.reg (kTxb b 4)).getLsbD 8, remote := false, dlc := BitVec.ofNat 4 (s.get (fTxbDlc b)), data := s.txbBytes b }

/-- A frame has gone out: the transmit error counter falls by one. -/
def State.canSent (s : State) (c : Nat) : State := ((s.put (fTec c) (s.get (fTec c) - 1)).put (fCanState c) (s.get (fCanState c))).canSettle c

/-- A Safe-Stop has completed on CAN 0 (R704). -/
def State.safeStopSent (s : State) (bs : List Byte) : State :=
  ((s.canEmit 0 (s.safeStopFrame bs)).setVeh { s.veh with sentSince := true }).canRelease

/-- The frame that CAN 0 sends next: the safety buffer of the larger command, Hedgerow's on a tie, then the Perception Status
(R693, R695). -/
def State.can0Send (s : State) : State :=
  match s.veh.hdgBuf, s.veh.reeveBuf, s.veh.psBuf with
  | some h, some r, _ =>
    if commandOfBytes h < commandOfBytes r then ((s.setVeh { s.veh with reeveBuf := none }).safeStopSent r).canSent 0
    else ((s.setVeh { s.veh with hdgBuf := none }).safeStopSent h).canSent 0
  | some h, none, _ => ((s.setVeh { s.veh with hdgBuf := none }).safeStopSent h).canSent 0
  | none, some r, _ => ((s.setVeh { s.veh with reeveBuf := none }).safeStopSent r).canSent 0
  | none, none, some p => ((s.setVeh { s.veh with psBuf := none }).canEmit 0 (s.perceptionFrame p)).canSent 0
  | none, none, none => s

/-- The frame that CAN 1 sends next: the fallover buffer, then the host buffer of the lowest identifier (R700, R703). -/
def State.can1Send (s : State) : State :=
  match s.veh.fallover with
  | some f => (((s.setVeh { s.veh with fallover := none }).bump kFallover).canEmit 1 (s.safeStopFrame f)).canSent 1
  | none =>
    match s.txPending with
    | some b => ((s.txbDone b 2).canEmit 1 (s.txbFrame b)).canSent 1
    | none => s

/-- The frame of CAN 1 that its message RAM has damaged is discarded; a host buffer's becomes IDLE (R720). [log 143: DESIGN CHOICE, unsafe] -/
def State.can1Discard (s : State) : State :=
  match s.veh.fallover with
  | some _ => s.setVeh { s.veh with fallover := none }
  | none =>
    match s.txPending with
    | some b => s.txbDone b 0
    | none => s

/-- CAN 1 may send: it is neither listening (MON) nor restricted (ISO 11898-1). [log 164: PRESUMED, unsafe] -/
def State.can1Sends (s : State) : Bool := !s.flag ⟨kCanCtrl 1, 29, 1⟩ && !s.flag ⟨kCanCtrl 1, 28, 1⟩

/-- CAN_TX_COMPLETE: the pending frame of a controller wins arbitration and completes; ramError: its message RAM shows an
uncorrectable error instead (R695, R700, R720). -/
def execCanTxComplete (c : Fin 2) (ramError : Bool) (s : State) : Out :=
  if !s.canOn c.val then .next s
  else if c.val = 0 then (if ramError then .next (s.canRamError 0) else .next s.can0Send)
  else if !s.can1Sends then .next s
  else if ramError then .next (s.canRamError 1).can1Discard
  else .next s.can1Send

/-- SAFE_STOP_SUPERVISION_EXPIRY: a Safe-Stop in a CAN 0 safety buffer has waited so many ms (R706). -/
def execSafeStopSupervisionExpiry (hedgerow : Bool) (elapsedMs : Nat) (s : State) : Out :=
  match (if hedgerow then s.veh.hdgBuf else s.veh.reeveBuf), decide (5 ≤ elapsedMs) with
  | some bs, true => .next ((s.setVeh { s.veh with fallover := some (withFallover bs) }).report 0x7103 (srcCan 0))
  | _, _ => .next s

/-- CAN_TX_REQUEST: a write to CAN_TXB_CTL that sets REQ (R17, R700); ABORT of an earlier one reads 0 from here on. [log 143: DESIGN CHOICE, unsafe] -/
def execCanTxRequest (fn : Fn) (b : Fin 16) (v : Word) (s : State) : Out :=
  if s.turnsAway fn then .next (s.turnedAway fn) else
  if bitAt v.toNat 31 ∧ s.canMayWrite fn 1 then
    .next (((s.off (fTxbAbort b.val)).plainWrite (kTxb b.val 4) v).put (fTxbStatus b.val) 1)
  else .next s

/-- CAN_TX_ABORT: a write to CAN_TXB_CTL that sets ABORT; a pending frame is withdrawn (R17, R700). [log 41: DEDUCED, unsafe] -/
def execCanTxAbort (fn : Fn) (b : Fin 16) (v : Word) (s : State) : Out :=
  if s.turnsAway fn then .next (s.turnedAway fn) else
  if bitAt v.toNat 30 ∧ s.canMayWrite fn 1 then
    let s := s.plainWrite (kTxb b.val 4) v
    if s.get (fTxbStatus b.val) = 1 then .next (s.txbDone b.val 0) else .next s
  else .next s

/-- CAN_TX_TIMEOUT: a host buffer has been pending for so many ms (R700). -/
def execCanTxTimeout (b : Fin 16) (elapsedMs : Nat) (s : State) : Out :=
  if s.get (fTxbStatus b.val) = 1 ∧ s.get (fTxbTmo b.val) ≤ elapsedMs then
    .next ((s.txbDone b.val 3).bump (kTxAbandon 1))
  else .next s

-- RECEPTION

/-- The identifier word of a received frame, as a transmit buffer lays it out. -/
def canIdWord (f : CanFrame) : Word := BitVec.ofNat 32 (f.id.toNat + 2 ^ 31 * b2n f.ext)

/-- Its control word. -/
def canCtlWord (f : CanFrame) : Word :=
  BitVec.ofNat 32 (f.dlc.toNat * 2 ^ 16 + 2 ^ 9 * b2n f.fdf + 2 ^ 8 * b2n f.brs)

/-- A frame passes acceptance filter f (19, CAN 1 for the host). -/
def State.filterPasses (s : State) (i : Nat) (f : CanFrame) : Bool :=
  let id := s.reg (0x41800 + 8 * i)
  let m := s.reg (0x41804 + 8 * i)
  bitAt id.toNat 31 && bitAt id.toNat 30 == f.ext && decide ((f.id.toNat &&& m.toNat) % 2 ^ 29 = (id.toNat &&& m.toNat) % 2 ^ 29)

/-- A frame enters CAN 1's FIFO, or is counted where it is full (R700). -/
def State.rxPush (s : State) (e : RxEntry) : State :=
  if 64 ≤ s.veh.rx.length then s.bump kRxfOvf
  else
    let s := s.setVeh { s.veh with rx := s.veh.rx ++ [e] }
    s.setReg kRxfStatus (BitVec.ofNat 32 s.veh.rx.length)

/-- A frame that carries an identifier of the device's own messages (R721). -/
def State.canForged (s : State) (f : CanFrame) : Bool :=
  f.ext && (decide (f.id.toNat = (s.reg kSsId).toNat) || decide (f.id.toNat = (s.reg kPsId).toNat))

/-- CAN_FRAME_RECEIVE: a frame received without error at Timebase value t (R690, R700, R720, R721). -/
def execCanFrameReceive (c : Fin 2) (f : CanFrame) (ramError : Bool) (t : Nat) (s0 : State) : Out :=
  let c := c.val
  let s := s0.reach t
  if !s.canOn c then .next s
  else if ramError then .next (s.canRamError c)
  else
    let s := (s.drawn.put (fRec c) (if 127 < s.get (fRec c) then 119 + s.free % 9 else s.get (fRec c) - 1)).canSettle c
    let s := if s.canForged f then (s.bump (kCanViol c)).violation 0x7105 (srcCan c) (leBytes 4 (canIdWord f).toNat ++ f.data) else s
    if f.remote then .next (s.bump (kCanRxOther c))
    else if c = 0 then .next s
    else if (List.range 16).any (fun i => s.filterPasses i f) then
      .next (s.drawn.rxPush { stamp := s.stampOf 0, id := canIdWord f, ctl := canCtlWord f, data := f.data })
    else .next s

/-- CAN_RXF_POP: a write of 1 removes the head (19, Registers). -/
def execCanRxfPop (fn : Fn) (v : Word) (s : State) : Out :=
  if s.turnsAway fn then .next (s.turnedAway fn) else
  if bitAt v.toNat 0 ∧ s.canMayWrite fn 1 then
    let s := s.setVeh { s.veh with rx := s.veh.rx.drop 1 }
    .next (s.setReg kRxfStatus (BitVec.ofNat 32 s.veh.rx.length))
  else .next s

-- CONTROL

/-- The fields of CAN_CTRL but RESTORE written: EN starts or stops the controller (R692, R724). [log 128: DEDUCED, unsafe] -/
def State.canCtrlWrite (s : State) (c : Nat) (v : Word) : State :=
  if (c = 0 ∧ s.flag fLockBit) ∨ (fCanThresh c).ofWord v = 0 then s.canReject
  else
    let was := s.flag (fCanEn c)
    let s := s.plainWrite (kCanCtrl c) v
    if s.flag (fCanEn c) ∧ ¬ was then
      (if s.flag (fCanFailed c) then s else ((s.put (fTec c) 0).put (fRec c) 0).put (fCanState c) 0)
    else if ¬ s.flag (fCanEn c) ∧ was then s.put (fCanState c) 3
    else s

/-- CAN_RATE_RESTORE: a write of CAN_CTRL with RESTORE; a locked CAN 0 takes nothing else of it (R692, R724). -/
def execCanRateRestore (fn : Fn) (c : Fin 2) (v : Word) (s : State) : Out :=
  if s.turnsAway fn then .next (s.turnedAway fn) else
  if ¬ bitAt v.toNat 30 ∨ ¬ s.canMayWrite fn c.val then .next s
  else
    let s := (s.put (fRung c.val) 0).on (fRestore c.val)
    if c.val = 0 ∧ s.flag fLockBit then .next s else .next (s.canCtrlWrite c.val v)

-- THE BALL

/-- SAFE_STOP_READBACK_FAULT: the ball has read high for so many µs since a driver turned on (R719). -/
def execSafeStopReadbackFault (elapsedUs : Nat) (s : State) : Out :=
  if s.lineDriven ∧ 10 ≤ elapsedUs ∧ s.reeve.alive then .next (s.heldFault 0x7110 (srcCan 0)) else .next s

/-- SAFE_STOP_EXTERNAL_LOW: the ball reads low with both drivers off (R719). -/
def execSafeStopExternalLow (s : State) : Out :=
  if s.lineDriven || !s.reeve.alive then .next s else .next ((s.on fExtLow).report 0x7111 (srcCan 0))

end Sys2Proof.Machine
end

