-- ==== Sys2Proof/Machine/Conversation.lean ====
section
/-! DEFINITION. Conversation timers (R596 to R604). -/

namespace Sys2Proof.Machine

/-- The operation of a window word (R597). -/
def ctOp (w : Nat) : Nat := bitsAt w 60 4

/-- A word is not applied: it is logged and counted, and it is a job fault in a strict partition, an error of the job in any other
(R599, R611). -/
def State.ctInvalid (s : State) (w : WinWrite) : State :=
  let s := s.bump kCtViol
  if s.strict w.part then s.jobFault 0x4603 (srcQm 1)
  else
    let s := s.violation 0x4603 (srcQm 1) w.data
    if s.jobPart w.core = w.part then s.jobError w.core 0x4603 else s

/-- The oldest word that waits at the window, if it is of operation op, or of none: then it is invalid. -/
def State.ctWord (s : State) (op : Nat) (f : State → WinWrite → Nat → Nat → State) : Out :=
  match s.ctWrites with
  | w :: rest =>
    let v := leNat w.data
    let s1 : State := { s with ctWrites := rest }
    if ctOp v = op then .next (f s1 w ((w.addr - 0x1000801000) / 8) v)
    else if ctOp v = 0 ∨ 5 < ctOp v then .next (s1.ctInvalid w)
    else .next s
  | [] => .next s

/-- A RING queue of partition p. -/
def State.ringOf (s : State) (p q : Nat) : Bool := (s.queue q).owner == p && !(s.queue q).isFrame

/-- CT_BIND (R597, R598). [log 79: DEDUCED, unsafe] -/
def execCtBind (s : State) : Out :=
  s.ctWord 1 (fun s w k v =>
    let x := s.slot k
    let d := bitsAt v 48 12
    let fq := bitsAt v 16 16
    let q := bitsAt v 0 16
    if bitsAt v 32 16 ≠ 0 ∨ 3600 < d ∨ x.state = 2 ∨ q = fq ∨ !s.ringOf w.part q ∨ !s.ringOf w.part fq ∨
        s.qm.slots.any (fun y => y.1 != k && y.2.state != 0 && y.2.queue == q) then s.ctInvalid w
    else s.setSlot k { x with state := 1, part := w.part, queue := q, foldQueue := fq, dormS := if d = 0 then 60 else d, dormFrom := some s.tb.ticks, reqFrom := none })

/-- CT_REQUEST (R597). -/
def execCtRequest (s : State) : Out :=
  s.ctWord 2 (fun s w k v =>
    let x := s.slot k
    let t := bitsAt v 0 15
    if bitsAt v 15 45 ≠ 0 ∨ t = 0 ∨ 30000 < t ∨ x.state = 0 then s.ctInvalid w
    else s.setSlot k { x with state := 2, timeoutMs := t, reqFrom := some s.tb.ticks, dormFrom := none, due := false })

/-- CT_DONE (R597): ignored but in ACTIVE. -/
def execCtDone (s : State) : Out :=
  s.ctWord 3 (fun s w k v =>
    let x := s.slot k
    if bitsAt v 0 60 ≠ 0 then s.ctInvalid w
    else if x.state = 2 then s.setSlot k { x with state := 1, reqFrom := none, dormFrom := some s.tb.ticks, due := false }
    else s)

/-- CT_TOUCH (R597): ignored but in IDLE. -/
def execCtTouch (s : State) : Out :=
  s.ctWord 4 (fun s w k v =>
    let x := s.slot k
    if bitsAt v 0 60 ≠ 0 then s.ctInvalid w
    else if x.state = 1 then s.setSlot k { x with dormFrom := some s.tb.ticks }
    else s)

/-- CT_UNBIND (R597, R603). -/
def execCtUnbind (s : State) : Out :=
  s.ctWord 5 (fun s w k v => if bitsAt v 0 60 ≠ 0 then s.ctInvalid w else s.setSlot k CtSlot.reset)

/-- CT_REQUEST_EXPIRY (R600, R601, limit 4 of 16): the request timer of a slot has run elapsed ms. -/
def execCtRequestExpiry (slot : Fin 1024) (elapsedMs : Nat) (s : State) : Out :=
  let x := s.slot slot
  if x.reqFrom.isSome && decide (x.timeoutMs ≤ elapsedMs) && !x.due then
    if (s.queue x.queue).state = 2 then .next (s.setSlot slot { x with due := true }) else .next (s.requestExpired slot)
  else .next s

/-- CT_DORMANCY_EXPIRY (R600, R602, R604): the dormancy timer of a slot has run elapsed s; a fold is submitted, or refused. -/
def execCtDormancyExpiry (slot : Fin 1024) (elapsedS : Nat) (s : State) : Out :=
  let x := s.slot slot
  if x.dormFrom.isSome && decide (x.dormS ≤ elapsedS) then
    let fq := s.queue x.foldQueue
    let dormant := { x with state := 3, dormFrom := none }
    if s.inReset fq.owner || (s.advanceFault fq 1).isSome then
      .next (((s.setSlot slot dormant).violation 0x4602 (srcQm 1)).bump kCtViol)
    else
      let s1 := s.setQueue x.foldQueue (fq.advance s.now 1 (some (slot.val, x.queue, s.now)))
      .next ((s1.setSlot slot { dormant with gate := true, foldSeq := BitVec.ofNat 32 fq.next, foldOf := x.foldQueue }).bump kCtFolds)
  else .next s

end Sys2Proof.Machine
end

