-- ==== Sys2Proof/Machine/RegRead.lean ====
section
/-! DEFINITION. What a register reads as: whose copy it is, who may read it, the read-only fields that show what a block holds, and the
windows of the Reeve (R9, R15, R17, R37, R77, R131, R177, R259, R488, R528, R575, R646, R686, R723, R775, R778 to R780). -/

namespace Sys2Proof.Machine

-- WHOSE REGISTER

/-- Each function has its own copy of the register (R648, R686, R779): its SEC_ block, its MSI-X table and pending bits, QM_STATUS and QM_QSEL
(R488, R489). -/
def ownCopy (off : Nat) : Bool :=
  (decide (0x48000 ≤ off) && decide (off < 0x49000)) || (decide (0x78000 ≤ off) && decide (off < 0x80000)) || off == 0x24000 || off == 0x24100

/-- The key of the register that a function finds at an offset. -/
def regKey (fn : Fn) (off : Nat) : Nat := if ownCopy off then own fn off else off

/-- The offset lies within the function's BAR0 (R778, R779). -/
def inBar0 (fn : Fn) (off : Nat) : Bool := fn == 0 || decide (off < 0x100000)

/-- The offset lies in a function's window of one queue (R488). -/
def qmWindow (off : Nat) : Bool := decide (0x24100 ≤ off) && decide (off < 0x24140)

/-- The block of partition p in PART_. -/
def partBlock (p off : Nat) : Bool := decide (kPart p 0 ≤ off) && decide (off < kPart p 0x80)

/-- The function may read the register at an offset. -/
def State.mayRead (s : State) (fn : Fn) (off : Nat) : Bool :=
  if fn = 0 ∨ off < 0x2000 then true
  else if 0x8000 ≤ off ∧ off < 0x24000 then s.percOrPf fn
  else if 0x40000 ≤ off ∧ off < 0x44000 then s.percOrPf fn
  else if 0x24000 ≤ off ∧ off < 0x25000 then off == 0x24000 || qmWindow off
  else if 0x28000 ≤ off ∧ off < 0x29000 then off == 0x28004 || partBlock fn off
  else ownCopy off

/-- The register of a logical core that the part does not have reads as zero and ignores writes (R9); so does a vector beyond the
function's table (R779, R780). -/
def State.absent (s : State) (fn : Fn) (off : Nat) : Bool :=
  if 0x60000 ≤ off ∧ off < 0x70000 then decide (s.nCores ≤ (off - 0x60000) / 0x1000)
  else if 0x70000 ≤ off ∧ off < 0x74000 then decide (s.nCores ≤ (off - 0x70000) / 0x400)
  else if 0x78000 ≤ off ∧ off < 0x7C000 then decide (vectorsOf fn ≤ (off - 0x78000) / 16)
  else if 0x7C000 ≤ off ∧ off < 0x80000 then decide (vectorsOf fn ≤ (off - 0x7C000) * 8)
  else false

-- WHAT THE BLOCKS SHOW

/-- The two halves of a 64-bit value, by the offset within its pair. -/
def halfAt (v r : Nat) : Nat := if r = 0 then v % 2 ^ 32 else v / 2 ^ 32 % 2 ^ 32

/-- The sum of the 4-byte lanes of a byte list at a word's offset. -/
def wordAt (bs : List Byte) (off : Nat) : Nat := fieldAt bs off 4

/-- The sum of values at rising bit positions. -/
def packed (w : Nat) (l : List Nat) : Nat := ((l.zipIdx).map (fun x => x.1 * 2 ^ (w * x.2))).foldl (· + ·) 0

/-- TB_ registers that show the Timebase (R41, R48). -/
def State.tbShows (s : State) (off : Nat) : Option Nat :=
  match off with
  | 0x1008 => some (halfAt s.tb.ns.toNat 0)
  | 0x100C => some (halfAt s.tb.ns.toNat 4)
  | 0x101C => some s.tb.rateWord.toNat
  | _ =>
    if 0x1100 ≤ off ∧ off < 0x1180 ∧ off % 16 = 0 ∧ s.get ⟨off, 27, 3⟩ = s.perc then some ((Fld.into ⟨off, 30, 1⟩ (s.reg off) 0).toNat)
    else none

/-- HDG_GRID: the cells as the latest evaluation saw them (R107). -/
def State.hdgShows (s : State) (off : Nat) : Option Nat :=
  if 0x9000 ≤ off ∧ off < 0xD000 then
    let i := (off - 0x9000) / 4
    some (packed 2 ((List.range 16).map (fun j => cellState s.hdg.hcb s.hdg.seen (i / 16 * 256 + 16 * (i % 16) + j))))
  else none

/-- MILL_GRP_MEMBERS. -/
def State.millShows (s : State) (off : Nat) : Option Nat :=
  if 0x10200 ≤ off ∧ off < 0x10300 ∧ off % 32 = 0x1C then some (((s.members ((off - 0x10200) / 32)).map (2 ^ ·)).foldl (· + ·) 0) else none

/-- Whole units left of so many Timebase ticks from a start, rounded up; n ticks make a unit. -/
def leftOf (now : Nat) (from_ : Option Nat) (units n : Nat) : Nat :=
  match from_ with
  | some t => (units * n - (now - t) + n - 1) / n
  | none => 0

/-- The conversation slot that QM_CT_SEL names, as its registers show it (16, Registers). -/
def State.ctShows (s : State) (off : Nat) : Option Nat :=
  let x := s.slot (s.get ⟨0x24220, 0, 10⟩)
  match off with
  | 0x24224 => some (x.state + 4 * b2n x.gate + 16 * x.part)
  | 0x24228 => some (x.foldQueue * 65536 + x.queue)
  | 0x2422C => some (x.dormS * 65536 + x.timeoutMs)
  | 0x24230 => some (leftOf s.tb.ticks x.dormFrom x.dormS 25000000 * 65536 + leftOf s.tb.ticks x.reqFrom x.timeoutMs 25000)
  | 0x24234 => some x.foldSeq.toNat
  | _ => none

/-- The queue that a function's QM_QSEL names, as its window shows it; zeros where the function does not reach it (13, Registers; R488). -/
def State.queueShows (s : State) (fn : Fn) (off : Nat) : Option Nat :=
  let q := s.get (fQsel fn)
  let x := s.queue q
  if off = 0x24100 then none
  else if !s.qmMay fn q then some 0
  else
    match off with
    | 0x24108 => some (x.haltCode * 65536 + x.state)
    | 0x2410C => some (x.cons * 65536 + x.prod)
    | 0x24110 => some x.disp.toNat
    | 0x24114 => some x.done.toNat
    | 0x24118 => some x.recs.toNat
    | _ => if 0x24120 ≤ off ∧ off < 0x24138 then some (x.word ((off - 0x24120) / 4)) else some 0

/-- Dispatch Table entries of a partition, and Request Tag Table entries held (R471, R472). -/
def State.qmShows (s : State) (fn : Fn) (off : Nat) : Option Nat :=
  if qmWindow off then s.queueShows fn off
  else if off = 0x24004 then some s.qm.dt.length
  else if off = 0x2400C then some (s.tagsHeld true + s.tagsHeld false)
  else if 0x24060 ≤ off ∧ off < 0x24080 then some (s.dtHeld ((off - 0x24060) / 4))
  else s.ctShows off

/-- PART_STATUS with ENABLED (R492), EN of PART_CFG[0], and GRN_SHARE of the perception partition (R523). [log 77: DEDUCED, unsafe] -/
def State.partShows (s : State) (off : Nat) : Option Nat :=
  if off = 0x28004 then some s.partStatus.toNat
  else if off = kPart 0 0 then some ((Fld.into ⟨off, 31, 1⟩ (s.reg off) 1).toNat)
  else if off = kPart s.perc 0x20 then some 256
  else
    match (List.range 8).find? (fun p => off == kGrnDebt p) with
    | some p => some (max (s.reg off).toNat (s.debtNow p))
    | none => none

/-- CAN_STATUS.SYNC, CAN_SS_STATUS and the head of the receive FIFO (19, Registers; R702 to R704, R719).  With both drivers off the level of the
ball is the board's: a free bit. [log 42: DESIGN CHOICE, safe] [log 43: DEDUCED, unsafe] -/
def State.canShows (s : State) (off : Nat) : Option Nat :=
  let head (n : Nat) : List Byte :=
    match s.veh.rx with
    | e :: _ => (leBytes 8 e.stamp ++ leBytes 4 e.id.toNat ++ leBytes 4 e.ctl.toNat ++ padTo 64 e.data).drop (4 * n)
    | [] => []
  match off with
  | 0x40010 => some ((Fld.into ⟨off, 0, 1⟩ (s.reg off) (b2n (s.canOn 0))).toNat)
  | 0x40410 => some ((Fld.into ⟨off, 0, 1⟩ (s.reg off) (b2n (s.canOn 1))).toNat)
  | 0x40810 => some ((Fld.into ⟨off, 27, 3⟩ (s.reg off) (b2n s.can0Down + 2 * (if s.lineDriven then 0 else s.free % 2) + 4 * b2n (s.flag fStopDrive))).toNat)
  | _ => if 0x42010 ≤ off ∧ off < 0x42060 then some (wordAt (head ((off - 0x42010) / 4)) 0) else none

/-- The milliseconds to the idle expiry of an open session, rounded up (R678). -/
def State.idleLeft (s : State) (p : Nat) : Nat :=
  if s.sessOpen p then leftOf s.tb.ticks (some (s.session p).idleFrom) (s.get (fIdleS p) * 1000) 25000 else 0

/-- SEC_STATUS with the lockout's remaining time (R664). -/
def State.secStatus (s : State) (p : Nat) : Nat := (Fld.into ⟨0, 16, 8⟩ (s.reg (ownN p 0x48000)) (s.lockLeft p)).toNat

/-- The first 4 bytes of HMAC-SHA-256 of a key over a text: its key check value (R656, R756). -/
def keyCheck (key : List Byte) (t : String) : Nat := wordAt (hmac key (ascii t)) 0

/-- SEC_ registers (18, Registers). -/
def State.secShows (s : State) (fn : Fn) (off : Nat) : Option Nat :=
  if off = 0x48000 then some (s.secStatus fn)
  else if off = 0x4801C then some (s.idleLeft fn)
  else if off = 0x49000 then some (2 ^ 31 * b2n s.fuse.provClosed + ((List.range 8).map (fun p => 2 ^ p * b2n (Tbl.find s.fuse.psk p).isSome)).foldl (· + ·) 0)
  else if 0x49020 ≤ off ∧ off < 0x49040 then
    match Tbl.find s.fuse.psk ((off - 0x49020) / 4) with
    | some k => some (keyCheck k "FRW-KCV1")
    | none => some 0
  else if 0x49060 ≤ off ∧ off < 0x49080 then some (s.secStatus ((off - 0x49060) / 4) % 2 ^ 31)
  else none

/-- The Granary's common and per-core registers (10, Registers): STRICT of the perception partition reads 1 (R396). [log 82: DEDUCED, unsafe] -/
def State.grnShows (s : State) (k r : Nat) : Option Nat :=
  let g := (s.core k).grn
  let held := g.recs.filter (fun x => x.2.held)
  if r = 0xE18 then some (held.length + 65536 * (held.filter (fun x => x.2.part == s.perc)).length)
  else if 0xF00 ≤ r ∧ r < 0xF40 then some (s.freeBufs k ((r - 0xF00) / 4)).length
  else none

/-- OPA_STATUS (08, Registers). -/
def CoreSt.opaStatus (c : CoreSt) : Nat := c.mode + 4 * c.fa + 64 * c.fb + 1024 * ((c.openAccs.map (2 ^ ·)).foldl (· + ·) 0) + 16384 * b2n c.drain.isSome

/-- The registers of core k's block that show the core (06 to 10, Registers). -/
def State.coreShows (s : State) (k r : Nat) : Option Nat :=
  let c := s.core k
  match r with
  | 0x0 => some (s.hrtStatus k).toNat
  | 0x4 => some (s.engStates k)
  | 0x10 => some (halfAt c.pc.toNat 0)
  | 0x14 => some (halfAt c.pc.toNat 4)
  | 0x18 => some (halfAt c.sig.toNat 0)
  | 0x1C => some (halfAt c.sig.toNat 4)
  | 0x800 => some c.lpeelQ.length
  | 0x840 => some c.speelQ.length
  | 0xC00 => some c.opaStatus
  | 0xC08 => some (halfAt c.openBits 0)
  | 0xC0C => some (halfAt c.openBits 4)
  | _ => s.grnShows k r

/-- TAL_VALUE and TAL_CFG (12, Registers): zero on an idle core. -/
def State.talShows (s : State) (k r : Nat) : Option Nat :=
  let c := s.core k
  if r < 0x100 then some (if c.job.isSome then halfAt (c.t.getD (r / 8) 0) (r % 8) else 0)
  else if r < 0x180 then some (if c.job.isSome then (c.tcfg.getD ((r - 0x100) / 4) 0).toNat else 0)
  else none

/-- The fused registers (R252, R253) and GRN_CTRL (R396). -/
def State.hrtShows (s : State) (off : Nat) : Option Nat :=
  let phys := s.fuse.physOf.take s.nCores
  match off with
  | 0x50000 => some ((phys.map (2 ^ ·)).foldl (· + ·) 0)
  | 0x50004 => some (packed 4 ((List.range 8).map (fun k => phys.getD k 0xF)))
  | 0x50008 => some (packed 4 ((List.range 8).map (fun k => phys.getD (k + 8) 0xF)))
  | 0x50100 => some ((Fld.into ⟨off, 8 + s.perc, 1⟩ (s.reg off) 1).toNat)
  | _ => none

/-- The crash record slot that REEVE_CR_SEL selects (R627). [log 127: DEDUCED, unsafe] -/
def State.crashSel (s : State) : CrashSlot := Tbl.getD s.reeve.slots (s.get ⟨0x100030, 0, 2⟩) CrashSlot.empty

/-- REEVE_CR_INFO, REEVE_FAULTS_10S and the windows (17, Registers; R627, R628, R640, R642). -/
def State.reeveShows (s : State) (off : Nat) : Option Nat :=
  if off = 0x10000C then some (min 3 (s.reeve.faultTicks.filter (fun t => decide (s.tb.ticks < t + 250000000))).length)
  else if off = 0x100034 then
    let x := s.crashSel
    some (2 ^ 31 * b2n x.valid + fieldAt x.bytes 12 1 * 65536 + fieldAt x.bytes 8 2)
  else if 0x110000 ≤ off ∧ off < 0x120000 then some (wordAt s.crashSel.bytes (off - 0x110000))
  else if 0x120000 ≤ off ∧ off < 0x124000 then some (wordAt (Tbl.getD s.reeve.flog ((off - 0x120000) / 32) []) (off % 32))
  else if 0x130000 ≤ off ∧ off < 0x138000 then some (wordAt (Tbl.getD s.reeve.vlog ((off - 0x130000) / 32) []) (off % 32))
  else none

/-- Seconds since the Steward started (20, Registers). -/
def State.uptime (s : State) : Nat := if s.flag fStwRunning then (s.tb.ticks - s.boot.stewardFrom) / 25000000 else 0

/-- What a block shows at an offset, where that is not simply the register. [log 58: DEDUCED, unsafe] -/
def State.shows (s : State) (fn : Fn) (off : Nat) : Option Nat :=
  if off < 0x1000 then (if off = 4 then some s.sysGrade else none)
  else if off < 0x2000 then s.tbShows off
  else if off = 0x601C then some (keyCheck s.fuse.fwk "FRW-FWK1")
  else if off = 0x6104 then some s.uptime
  else if 0x8000 ≤ off ∧ off < 0x10000 then s.hdgShows off
  else if 0x10000 ≤ off ∧ off < 0x20000 then s.millShows off
  else if 0x24000 ≤ off ∧ off < 0x25000 then s.qmShows fn off
  else if 0x28000 ≤ off ∧ off < 0x29000 then s.partShows off
  else if 0x40000 ≤ off ∧ off < 0x43000 then s.canShows off
  else if 0x48000 ≤ off ∧ off < 0x4A000 then s.secShows fn off
  else if 0x50000 ≤ off ∧ off < 0x51000 then s.hrtShows off
  else if 0x60000 ≤ off ∧ off < 0x70000 then s.coreShows ((off - 0x60000) / 0x1000) (off % 0x1000)
  else if 0x70000 ≤ off ∧ off < 0x74000 then s.talShows ((off - 0x70000) / 0x400) (off % 0x400)
  else if 0x100000 ≤ off then s.reeveShows off
  else none

/-- What a function reads at an offset: zero where it may not read, where nothing lies (R780), and where a core is absent (R9). -/
def State.regValue (s : State) (fn : Fn) (off : Nat) : Word :=
  if !s.mayRead fn off || s.absent fn off || off % 4 != 0 then 0
  else
    match s.shows fn off with
    | some n => BitVec.ofNat 32 n
    | none => if (regAt off).isSome then s.reg (regKey fn off) else 0

-- READING

/-- Reading clears the RC bits of a register that the function may read (R17). -/
def State.readCleared (s : State) (fn : Fn) (off : Nat) : State :=
  match regAt off with
  | some d => if s.mayRead fn off && !s.absent fn off && d.rc != 0 then s.setReg (regKey fn off) (s.reg (regKey fn off) &&& ~~~ d.rc) else s
  | none => s

/-- The _HI half of a pair. -/
def isHalf (h : Half) (off : Nat) : Bool := match regAt off with | some d => d.half == h | none => false

/-- A function's read of an offset: its value, then the effect of the read.  A _HI half whose _LO the function has read gives that snapshot once
(R15); the free level of a ball is drawn. -/
def State.readReg (s : State) (fn : Fn) (off : Nat) : State :=
  let hi : Option Word := if isHalf .hi off then Tbl.find s.hiSnap (own fn off) else none
  let s' : State := { s with rdata := hi.getD (s.regValue fn off), hiSnap := if hi.isSome then Tbl.drop s.hiSnap (own fn off) else s.hiSnap }
  (if off = 0x40810 then s'.drawn else s').readCleared fn off

/-- A read of a _LO half keeps the value of its _HI half for the function's next read of that one (R15). -/
def State.hiCaptured (s : State) (fn : Fn) (off : Nat) : State :=
  if isHalf .lo off then { s with hiSnap := Tbl.put s.hiSnap (own fn (off + 4)) (s.regValue fn (off + 4)) } else s

/-- READ_CLEAR (R13, R15, R17): a read of a register by a function, of whichever kind it is. -/
def execReadClear (fn : Fn) (off : BitVec 25) (s : State) : Out :=
  if s.turnsAway fn || !inBar0 fn off.toNat then .next (s.turnedAway fn) else .next ((s.hiCaptured fn off.toNat).readReg fn off.toNat)

/-- PAIR_LO_READ (R14, R15): a read of _LO; _HI is kept for the function's next read of it. -/
def execPairLoRead (fn : Fn) (off : BitVec 25) (s : State) : Out :=
  if s.turnsAway fn || !inBar0 fn off.toNat then .next (s.turnedAway fn)
  else if isHalf .lo off.toNat then .next ((s.hiCaptured fn off.toNat).readReg fn off.toNat)
  else .next s

end Sys2Proof.Machine
end

