-- ==== Sys2Proof/Machine/RegIntake.lean ====
section
/-! DEFINITION. Writes to a register that no other row serves: the access codes (R13, R17), and the MILL_ and SIEVE_ registers (R178, R179,
R222; limits 10 and 11 of 04, limit 10 of 05). -/

namespace Sys2Proof.Machine

/-- The state after a meaning that goes on. -/
def outState (o : Out) (s : State) : State := match o with | .next t => t | _ => s

/-- The register has bits that software writes. -/
def writable (key : Nat) : Bool := match regAt (key % 0x2000000) with | some d => d.rw != 0 || d.w1c != 0 || d.w1s != 0 | none => false

/-- A write that is accepted, or rejected by its block; one to a read-only register is ignored (R17). [log 33: DEDUCED, unsafe] -/
def State.guarded (s : State) (ok : Bool) (rejected : Fld) (key : Nat) (v : Word) : State :=
  if !writable key then s else if ok then s.plainWrite key v else s.on rejected

/-- A field of a written word lies between two bounds. -/
def fieldIn (v : Word) (lo w a b : Nat) : Bool := decide (a ≤ bitsAt v.toNat lo w) && decide (bitsAt v.toNat lo w ≤ b)

-- THE MILL

/-- Some port is SETTLING, or some script runs (limit 11 of 04). -/
def State.scriptsBusy (s : State) : Bool := (List.range 4).any (fun p => s.get (fPortState p) == 1 || (s.port p).script.isSome)

/-- Some range context is enabled (limit 11 of 04). -/
def State.rangeEnabled (s : State) : Bool := (List.range 8).any (fun i => s.flag (fStrmEn (16 + i)))

/-- The ranges of a ladder entry. -/
def portModeOk (v : Word) : Bool := fieldIn v 28 2 0 2 && fieldIn v 16 12 8 (if v.getLsbD 30 then 600 else 450) && fieldIn v 0 16 0 1023

/-- A power of two from 32 to 4,096. -/
def ringSizeOk (n : Nat) : Bool := n == 32 || n == 64 || n == 128 || n == 256 || n == 512 || n == 1024 || n == 2048 || n == 4096

/-- A write to MILL_PORT_CFG[p]: EN starts or stops the port (R137, R143). -/
def State.portCfgWrite (s : State) (fn : Fn) (p : Fin 4) (v : Word) : State :=
  if s.flag (fPortEn p) then
    (if v.getLsbD 31 then s.guarded (portCfgOk p v) fMillRejected (0x10010 + 4 * p) v else outState (execMillPortDisable fn p v s) s)
  else if v.getLsbD 31 then outState (execMillPortEnable fn p v s) s
  else s.guarded (portCfgOk p v) fMillRejected (0x10010 + 4 * p) v

/-- A write to MILL_TRIG_CFG[i]: its counters clear when the trigger is enabled (R179), and its output is inactive when it is disabled (R717). -/
def State.trigCfgWrite (s : State) (i : Nat) (v : Word) : State :=
  if fieldIn v 0 10 1 1000 then
    let t := s.plainWrite (0x10100 + 16 * i) v
    let t := if !v.getLsbD 31 && (Tbl.find s.mill.pulses i).isSome then t.endPulse i else t
    if v.getLsbD 31 && !s.flag (fTrigEn i) then (t.setReg (kTrigMissed i) 0).setReg (kTrigFired i) 0 else t
  else s.millReject

/-- A group enabled: its ring and its counters start anew, with the next boundary's frame (R157, R179); one disabled, or moved to another
mode, drops what waits. [log 31: DEDUCED, unsafe] -/
def State.grpCfgWrite (s : State) (g : Nat) (v : Word) : State :=
  if fieldIn v 0 24 100 100000 then
    let t := s.plainWrite (0x10200 + 32 * g) v
    let changed := t.flag (fGrpEn g) != s.flag (fGrpEn g) || t.flag (fGrpFree g) != s.flag (fGrpFree g)
    let t1 := if changed then t.setGrp g { GroupSt.reset with posts := (s.grp g).posts } else t
    if t.flag (fGrpEn g) && !s.flag (fGrpEn g) then ((t1.setReg (kGrpHead g) 0).setReg (kGrpTail g) 0).setReg (kGrpStalls g) 0 else t1
  else s.millReject

/-- A write to MILL_STRM_CTRL[k]: an enabled stream takes only a change of EN (limit 10 of 04; R219). [log 32: DEDUCED, unsafe] -/
def State.strmCtrlWrite (s : State) (fn : Fn) (k : Fin 24) (v : Word) : State :=
  let same := decide (v &&& 0x38F7FF00#32 = s.reg (kStrm k 0) &&& 0x38F7FF00#32)
  if s.flag (fStrmEn k) then s.guarded (same && strmCtrlOk k v) fMillRejected (kStrm k 0) v
  else if v.getLsbD 31 then outState (execStreamEnable fn k v s) s
  else s.guarded (strmCtrlOk k v) fMillRejected (kStrm k 0) v

/-- The ranges of a stream context's other registers (04, Registers). -/
def strmRegOk (k r : Nat) (v : Word) : Bool :=
  if r = 0x10 then fieldIn v 0 20 100 1000000
  else if r = 0x14 then fieldIn v 0 16 1 65535
  else if r = 0x18 then fieldIn v 16 16 1 1000 && fieldIn v 0 16 1 65535
  else if r = 0x30 && isRange k then fieldIn v 0 21 1 1048576
  else true

/-- Registers of a stream context that are locked while the stream is enabled (limit 10 of 04). -/
def strmLocked (r : Nat) : Bool := r == 4 || r == 8 || r == 0xC || r == 0x1C || r == 0x28 || r == 0x30

/-- A write to a register of stream context k. -/
def State.strmWrite (s : State) (fn : Fn) (k : Fin 24) (r : Nat) (v : Word) : State :=
  if r = 0 then s.strmCtrlWrite fn k v
  else if r = 0x2C then outState (execSlotRelease fn k v s) s
  else s.guarded (strmRegOk k r v && !(strmLocked r && s.flag (fStrmEn k))) fMillRejected (kStrm k r) v

/-- A write to a MILL_ register (R178, R748). -/
def State.millRegWrite (s : State) (fn : Fn) (off : Nat) (v : Word) : State :=
  let plain (ok : Bool) : State := s.guarded ok fMillRejected off v
  if off = 0x10000 then s.plainWrite off v
  else if s.blocksOff then s.millReject
  else if 0x10010 ≤ off ∧ off < 0x10020 then s.portCfgWrite fn (Fin.ofNat 4 ((off - 0x10010) / 4)) v
  else if 0x10040 ≤ off ∧ off < 0x10080 then plain (!s.flag (fPortEn ((off - 0x10040) / 16)) && portModeOk v)
  else if 0x10080 ≤ off ∧ off < 0x10090 then outState (execI2cRun fn (Fin.ofNat 4 ((off - 0x10080) / 4)) v s) s
  else if 0x10100 ≤ off ∧ off < 0x10180 then
    if off % 16 = 0 then s.trigCfgWrite ((off - 0x10100) / 16) v else plain (decide (bitsAt v.toNat 0 20 * 1000 < s.period))
  else if 0x10200 ≤ off ∧ off < 0x10300 then
    let g := (off - 0x10200) / 32
    if off % 32 = 0 then s.grpCfgWrite g v
    else if off % 32 = 0x14 then outState (execGroupTailWrite fn (Fin.ofNat 8 g) v s) s
    else plain (!s.flag (fGrpEn g) && ringSizeOk (bitsAt v.toNat 0 16))
  else if 0x11000 ≤ off ∧ off < 0x11600 then s.strmWrite fn (Fin.ofNat 24 ((off - 0x11000) / 64)) (off % 64) v
  else if 0x16000 ≤ off ∧ off < 0x18000 then plain !s.scriptsBusy
  else if 0x18000 ≤ off then plain !s.rangeEnabled
  else s

-- THE SIEVE

/-- The ranges of a SIEVE_STRM_ register (05, Registers). -/
def sieveRegOk (r : Nat) (v : Word) : Bool :=
  if r = 0 then fieldIn v 24 8 1 255 && fieldIn v 16 3 0 3 && fieldIn v 10 2 0 2 && fieldIn v 4 4 0 6 && fieldIn v 0 2 0 2
  else if r = 0x18 then
    fieldIn v 27 5 0 16 && fieldIn v 16 11 32 1024 && fieldIn v 0 11 32 1024 && bitsAt v.toNat 16 11 % 32 == 0 && bitsAt v.toNat 0 11 % 32 == 0
  else if r = 0x24 then fieldIn v 8 3 0 4 && fieldIn v 0 2 0 1
  else if r = 0x28 then fieldIn v 16 16 1 4096 && fieldIn v 0 16 1 4096
  else if r = 0x34 then fieldIn v 16 16 1 65535 && fieldIn v 0 16 1 65535
  else true

/-- A write to a SIEVE_ register (R222, R748; limit 10 of 05). -/
def State.sieveRegWrite (s : State) (off : Nat) (v : Word) : State :=
  if off = 0x20000 then s.plainWrite off v
  else if s.blocksOff then s.on fSieveRejected
  else if 0x21000 ≤ off ∧ off < 0x21600 then
    s.guarded (sieveRegOk (off % 64) v && !s.flag (fStrmEn ((off - 0x21000) / 64))) fSieveRejected off v
  else s

-- PAIRS

/-- The pairs of the Mill and the Sieve, written with a 64-bit value (R16, R178, R222): the base of a group's ring, of a stream's slots, and of
its region list. -/
def State.intakePair (s : State) (lo : Nat) (v : DWord) : State :=
  if lo < 0x20000 then
    let enabled := if lo < 0x11000 then s.flag (fGrpEn ((lo - 0x10200) / 32)) else s.flag (fStrmEn ((lo - 0x11000) / 64))
    if s.blocksOff || enabled || v.toNat % 4096 != 0 then s.millReject else s.setReg64 lo v
  else if s.blocksOff || v.toNat % 64 != 0 then s.on fSieveRejected
  else s.setReg64 lo v

end Sys2Proof.Machine
end

