-- ==== Sys2Proof/Machine/RegHost.lean ====
section
/-! DEFINITION. Writes to the registers of the queues and the partitions, of the links and the Collective Engine, of the vehicle interfaces, of the
sessions, of the cores, and of clocks and power (R260, R382, R404, R489, R494, R529, R576, R687, R724, R776). -/

namespace Sys2Proof.Machine

-- THE QUEUE MANAGER

/-- The vector lies in a function's MSI-X table (limit 11 of 18). -/
def vectorOk (fn v : Nat) : Bool := decide (v < vectorsOf fn)

/-- The half of a ring's address that is written, RING_LO or RING_HI, is that of some 4 KiB-aligned address in the owner's device memory; the whole address is
checked when the queue is enabled (R449, R489). [log 159: DEDUCED, unsafe] -/
def State.ringHalfOk (s : State) (p : Nat) (high : Bool) (v : Nat) : Bool :=
  let inside (a : Nat) : Bool := s.jobOk p a 4096 false
  if high then decide (v < 16) && (List.range 2048).any (fun g => inside (v * 2 ^ 32 + g * 2 ^ 21))
  else v % 4096 == 0 && (List.range 16).any (fun h => inside (h * 2 ^ 32 + v))

/-- A write to QM_QCTX[i] of the queue that the function's QM_QSEL names: only while the queue is DISABLED; OWNER and PRIO_MAX are the physical
function's (R449, R488, R489; 13, Registers). -/
def State.ctxWrite (s : State) (fn : Fn) (i : Nat) (v : Word) : State :=
  let q := s.get (fQsel fn)
  let x := s.queue q
  let old := x.ctx.getD i 0
  let v0 : Word := if fn = 0 then v &&& 0x7F0FFFFF#32 else (v &&& 0x400FFFFF#32) ||| (old &&& 0x3F000000#32)
  let w : Word := if i = 0 then v0 else if i = 5 then v &&& 0x03FF87FF#32 else v
  let ok : Bool :=
    if i = 0 then fieldIn w 16 4 4 15 && (!w.getLsbD 30 || fieldIn w 0 16 1 (2 ^ bitsAt w.toNat 16 4))
    else if i = 1 ∨ i = 2 then s.ringHalfOk x.owner (i == 2) w.toNat
    else if i = 3 then bitsAt w.toNat 0 12 == 0
    else if i = 5 then vectorOk x.owner (bitsAt w.toNat 0 11)
    else true
  if !s.qmMay fn q then s
  else if x.state ≠ 0 ∨ !ok then s.qmReject fn
  else s.setQueue q { x with ctx := x.ctx.set i w }

/-- A write to QM_QCTL (13, Registers). -/
def State.qctlWrite (s : State) (fn : Fn) (v : Word) : State :=
  match bitsAt v.toNat 0 3 with
  | 1 => outState (execQueueEnable fn s) s
  | 2 => outState (execQueueDisable fn s) s
  | 3 => outState (execQueueResumeReplay fn s) s
  | 4 => outState (execQueueResumeSkip fn s) s
  | _ => if s.qmMay fn (s.get (fQsel fn)) then s.qmReject fn else s

/-- The sum of RESERVE of QM_PART_DT, with that of partition p taken from v (R472). -/
def State.dtReserveSum (s : State) (p : Nat) (v : Word) : Nat :=
  ((List.range 8).map (fun q => if q = p then bitsAt v.toNat 16 11 else s.get (fDtRes q))).foldl (· + ·) 0

/-- The slots of a written QM_CT_PART. -/
def slotsOf (v : Word) : Nat × Nat := (bitsAt v.toNat 16 10, bitsAt v.toNat 0 11)

/-- A write to QM_CT_PART[p]: no overlap with another partition's range, an end within 1,024, and no slot taken from p that is not FREE (limit 11
of 16). [log 78: DEDUCED, unsafe] -/
def State.ctPartOk (s : State) (p : Nat) (v : Word) : Bool :=
  let new := slotsOf v
  let old := slotsOf (s.reg (0x24200 + 4 * p))
  let keeps (k : Nat) : Bool := v.getLsbD 31 && decide (new.1 ≤ k) && decide (k < new.1 + new.2)
  decide (new.1 + new.2 ≤ 1024) &&
    (List.range 8).all (fun q => q == p || (let r := slotsOf (s.reg (0x24200 + 4 * q)); !overlaps new.1 new.2 r.1 r.2 || new.2 == 0 || r.2 == 0)) &&
    (!(s.reg (0x24200 + 4 * p)).getLsbD 31 ||
      s.qm.slots.all (fun x => x.2.state == 0 || decide (x.1 < old.1) || decide (old.1 + old.2 ≤ x.1) || keeps x.1))

/-- A write to a QM_ register (R488, R489). -/
def State.qmRegWrite (s : State) (fn : Fn) (off : Nat) (v : Word) : State :=
  if off = 0x24000 then s.plainWrite (own fn off) v
  else if off = 0x24100 then (if s.qmMay fn (bitsAt v.toNat 0 16) then s.plainWrite (own fn off) v else s.qmReject fn)
  else if off = 0x24104 then s.qctlWrite fn v
  else if 0x24120 ≤ off ∧ off < 0x24138 then s.ctxWrite fn ((off - 0x24120) / 4) v
  else if 0x24040 ≤ off ∧ off < 0x24060 then
    s.guarded (fieldIn v 0 11 1 1024 && decide (s.dtReserveSum ((off - 0x24040) / 4) v ≤ 1024)) (fQmRejected fn) off v
  else if 0x24200 ≤ off ∧ off < 0x24220 then s.guarded (s.ctPartOk ((off - 0x24200) / 4) v) (fQmRejected fn) off v
  else s.guarded true (fQmRejected fn) off v

-- THE PARTITION CONTROLLER

/-- Cores granted to the perception partition. -/
def State.percGrant (s : State) : Nat := bitsAt (s.reg (kPart s.perc 0)).toNat 0 16

/-- A write to register r of partition p's block is not among those that LOCK rejects (R494). -/
def State.unlocked (s : State) (p r : Nat) (v : Word) : Bool :=
  !s.flag fLock ||
    (!(p == s.perc && r != 0x24 && r != 0x28 && r != 0x2C) && r != 0x20 &&
      !(r == 0 && ((bitsAt v.toNat 0 16 ^^^ bitsAt (s.reg (kPart p 0)).toNat 0 16) &&& s.percGrant) != 0))

/-- A write to register r of the block of partition p (R494, R523, R528, R529; limit 11 of 18). -/
def State.partBlockWrite (s : State) (fn : Fn) (p : Part) (r : Nat) (v : Word) : State :=
  let plain (ok : Bool) : State := s.guarded (ok && s.unlocked p r v) fPartRejected (kPart p r) v
  if 4 ≤ r ∧ r < 0x14 then outState (execPartWinWrite fn p (Fin.ofNat 4 ((r - 4) / 4)) v s) s
  else if r = 0x14 then outState (execDramRegulatorWrite fn (some p) v s) s
  else if r = 0x20 then
    (if p.val = s.perc then (if s.flag fLock then s.partReject else s) else plain (fieldIn v 0 9 0 256))
  else if r = 0x24 then plain (vectorOk p (bitsAt v.toNat 0 11) && vectorOk p (bitsAt v.toNat 16 11))
  else plain true

/-- A write to a PART_ register (R528, R529). -/
def State.partRegWrite (s : State) (fn : Fn) (off : Nat) (v : Word) : State :=
  if off = 0x28000 then s.partCtrlWrite fn v
  else if off = 0x28008 then outState (execPartResetWrite fn v s) s
  else if off = 0x28010 then outState (execDramRegulatorWrite fn none v s) s
  else if off = 0x28014 then s.guarded (!s.flag fLock) fPartRejected off v
  else if 0x28100 ≤ off ∧ off < 0x28500 then s.partBlockWrite fn (Fin.ofNat 8 ((off - 0x28100) / 0x80)) ((off - 0x28100) % 0x80) v
  else s.guarded true fPartRejected off v

-- THE KELYTH LINK AND THE COLLECTIVE ENGINE

/-- A valid descriptor names counter c (R550; 15, Registers). -/
def State.cntNamed (s : State) (c : Nat) : Bool :=
  (List.range 512).any (fun t => let d := s.trig t; d.valid && (d.trigCnt == c || (d.doneEn && d.doneCnt == c) || (d.recvEn && d.recvCnt == c)))

/-- A write to a KLY_ or CE_ register (R575, R576, R748). -/
def State.klyRegWrite (s : State) (fn : Fn) (off : Nat) (v : Word) : State :=
  if off < 0x30400 then (if off % 0x100 = 0 then s.klyCtrlWrite fn ((off - 0x30000) / 0x100) v else s)
  else if 0x31000 ≤ off ∧ off < 0x35000 then
    let e := (off - 0x31000) / 64
    outState (execTriggerDescriptorWrite fn (Fin.ofNat 512 (256 + 64 * (e / 64) + e % 64)) (Fin.ofNat 16 (off % 64 / 4)) v s) s
  else if 0x3C000 ≤ off ∧ off < 0x40000 then
    outState (execTriggerDescriptorWrite fn (Fin.ofNat 512 ((off - 0x3C000) / 64)) (Fin.ofNat 16 (off % 64 / 4)) v s) s
  else if 0x38400 ≤ off ∧ off < 0x38800 then s.guarded (!s.cntNamed ((off - 0x38400) / 4)) fCeRejected off v
  else s.guarded true fCeRejected off v

-- THE VEHICLE INTERFACES

/-- A transmit buffer would carry the Safe-Stop identifier (R699). -/
def State.forgesSafeStop (s : State) (v : Word) : Bool := v.getLsbD 31 && bitsAt v.toNat 0 29 == (s.reg kSsId).toNat

/-- A write to register r of a CAN controller (R692, R724). -/
def State.canCtlRegWrite (s : State) (fn : Fn) (c : Fin 2) (r : Nat) (v : Word) : State :=
  if r = 0 then (if v.getLsbD 30 then outState (execCanRateRestore fn c v s) s else s.canCtrlWrite c v)
  else
    let locked := c == 0 && s.flag fLock
    s.guarded (!locked && !((r == 4 || r == 8 || r == 0xC) && s.flag (fCanEn c))) fCanRejected (kCanCtrl c + r) v

/-- A write to register r of CAN 1's transmit buffer b (R699, R700). -/
def State.txbWrite (s : State) (fn : Fn) (b : Fin 16) (r : Nat) (v : Word) : State :=
  if r = 4 then
    if v.getLsbD 31 then outState (execCanTxRequest fn b v s) s
    else if v.getLsbD 30 then outState (execCanTxAbort fn b v s) s
    else s.plainWrite (kTxb b 4) v
  else if r = 0 then s.guarded (!s.forgesSafeStop v) fCanRejected (kTxb b 0) v
  else if r = 0xC then s.guarded (fieldIn v 0 10 1 1000) fCanRejected (kTxb b r) v
  else s.plainWrite (kTxb b r) v

/-- A write to a CAN_ register (R723, R724).  The identifiers and the timing of the safety messages are CAN 0's. -/
def State.canRegWrite (s : State) (fn : Fn) (off : Nat) (v : Word) : State :=
  let free0 := !s.flag fLock && !s.flag (fCanEn 0)
  if off < 0x40800 then s.canCtlRegWrite fn (if off < 0x40400 then 0 else 1) (off % 0x400) v
  else if off = 0x40804 ∨ off = 0x40808 then s.guarded free0 fCanRejected off v
  else if off = 0x4080C then s.guarded (!s.flag fLock && fieldIn v 16 14 100 10000 && fieldIn v 0 8 10 100) fCanRejected off v
  else if 0x41000 ≤ off ∧ off < 0x41500 then s.txbWrite fn (Fin.ofNat 16 ((off - 0x41000) / 0x50)) ((off - 0x41000) % 0x50) v
  else if off = 0x42004 then outState (execCanRxfPop fn v s) s
  else s.guarded true fCanRejected off v

/-- A write to ETH_CFG[m]: EN 0 to 1 starts the MAC, and 1 to 0 stops it (R711). -/
def State.ethCfgWrite (s : State) (fn : Fn) (m : Fin 5) (v : Word) : State :=
  if v.getLsbD 31 && !s.flag (fEthEn m) then outState (execEthEnable fn m v s) s
  else
    let t := s.setReg (kEthCfg m) (v &&& ethCfgBits m)
    if s.flag (fEthEn m) && !v.getLsbD 31 then (t.off (fEthLink m)).put (fEthSpeed m) 0 else t

/-- A write to an ETH_ register (R723, R748). -/
def State.ethRegWrite (s : State) (fn : Fn) (off : Nat) (v : Word) : State :=
  if off < 0x43400 ∧ s.blocksOff then s.on fEthRejected
  else if off < 0x43500 ∧ off % 0x100 = 0 then s.ethCfgWrite fn (Fin.ofNat 5 ((off - 0x43000) / 0x100)) v
  else s.guarded true fEthRejected off v

-- THE HOST INTERFACE

/-- A write to a SEC_ register (R658, R677, R686, R687; limit 11 of 18). -/
def State.secRegWrite (s : State) (fn : Fn) (off : Nat) (v : Word) : State :=
  if off = 0x48004 then outState (execMailboxDoorbell fn v 0 s) s
  else if off = 0x4800C then s.guarded (vectorOk fn (bitsAt v.toNat 0 11)) (fSecRejected fn) (own fn off) v
  else if 0x48400 ≤ off ∧ off < 0x48800 ∧ s.flag (fMbxBusy fn) then s
  else if off < 0x49000 then s.plainWrite (own fn off) v
  else if off = 0x49004 then outState (execSecProvClose fn v s) s
  else if 0x49040 ≤ off ∧ off < 0x49060 then s.guarded (fieldIn v 0 10 1 600) (fSecRejected fn) off v
  else s

-- THE CORES

/-- An HRT_ write is rejected (R260). -/
def fHrtRejected : Fld := ⟨0x5000C, 0, 1⟩

/-- GRN_CLASS or GRN_CLASS_RSV of class c may take its new values (R382). -/
def State.classOk (s : State) (c : Nat) (cfg rsv : Word) : Bool :=
  let pages (w : Word) : Nat := bitsAt w.toNat 16 11 * 2 ^ bitsAt w.toNat 28 4
  let first (w : Word) : Nat := bitsAt w.toNat 0 10
  !s.flag fPoolEn && fieldIn cfg 28 4 0 10 && decide (first cfg + pages cfg ≤ 1024) && decide (bitsAt rsv.toNat 0 11 ≤ bitsAt cfg.toNat 16 11) &&
    (List.range 16).all (fun q => q == c || (let w := s.reg (0x50140 + 8 * q); bitsAt w.toNat 16 11 == 0 || bitsAt cfg.toNat 16 11 == 0 || !overlaps (first cfg) (pages cfg) (first w) (pages w)))

/-- A write to GRN_CTRL: the STRICT bit of the perception partition takes no write (R396); POOL_EN 0 resets the pools (R404). -/
def State.grnCtrlWrite (s : State) (fn : Fn) (v : Word) : State :=
  if v.getLsbD 31 then s.plainWrite 0x50100 (Fld.into ⟨0x50100, 8 + s.perc, 1⟩ v (s.get ⟨0x50100, 8 + s.perc, 1⟩)) else outState (execPoolDisable fn v s) s

/-- A write to a common register of the cores (R259, R260, R748). -/
def State.hrtRegWrite (s : State) (fn : Fn) (off : Nat) (v : Word) : State :=
  if off = fHrtRejected.key then s.plainWrite off v
  else if s.flag (fIslOff 0) then s.on fHrtRejected
  else if 0x50010 ≤ off ∧ off < 0x50024 then s.guarded (fieldIn v 0 15 1 16384) fHrtRejected off v
  else if off = 0x50030 then s.guarded (fieldIn v 0 15 1 16000) fHrtRejected off v
  else if off = 0x50100 then s.grnCtrlWrite fn v
  else if off = 0x5010C then outState (execGrnOwnClear fn v s) s
  else if 0x50140 ≤ off ∧ off < 0x501C0 then
    let c := (off - 0x50140) / 8
    let key := 0x50140 + 8 * c
    s.guarded (if off % 8 = 0 then s.classOk c v (s.reg (key + 4)) else s.classOk c (s.reg key) v) fHrtRejected off v
  else s.guarded true fHrtRejected off v

-- CLOCKS AND POWER

/-- A write to a CLK_ or PWR_ register (R734, R736, R775, R776). -/
def State.pwrRegWrite (s : State) (fn : Fn) (off : Nat) (v : Word) : State :=
  if off = 0x4008 then outState (execSpllCalRequest (some (fn, v)) s) s
  else if off < 0x5000 then s.guarded true fClkRejected off v
  else if off = 0x5004 then s.guarded (fieldIn v 0 7 20 (s.fuse.grade.ceiling (s.flag fOpp))) fPwrRejected off v
  else if off = 0x500C then s.guarded (thermInRange (bitsAt v.toNat 0 8) (bitsAt v.toNat 8 8)) fPwrRejected off v
  else if off = 0x5010 then outState (execBankEnterRequest fn v s) s
  else if off = 0x5014 then outState (execWakeRequest fn v s) s
  else s.guarded true fPwrRejected off v

end Sys2Proof.Machine
end

