-- ==== Sys2Proof/Machine/Registers.lean ====
section
/-! DEFINITION. Register writes of software: who may write, the block that takes the write, and 64-bit pairs (R13 to R17, R37 to R40, R77, R78,
R647, R780). -/

namespace Sys2Proof.Machine

/-- The function may write the register at an offset (R37, R77, R131, R177, R259, R488, R528, R575, R646, R686, R723, R775).  CAN_GSTATUS and
CAN_SS_STATUS are written by whoever may write CAN 1. -/
def State.mayWrite (s : State) (fn : Fn) (off : Nat) : Bool :=
  if fn = 0 then true
  else if 0x10000 ≤ off ∧ off < 0x24000 then s.percOrPf fn
  else if 0x40000 ≤ off ∧ off < 0x43000 then
    s.percOrPf fn && ((decide (0x40400 ≤ off) && decide (off < 0x40800)) || off == 0x40800 || off == 0x40810 || decide (0x41000 ≤ off))
  else if 0x43000 ≤ off ∧ off < 0x44000 then s.percOrPf fn && !(decide (0x43400 ≤ off) && decide (off < 0x43500))
  else if 0x24000 ≤ off ∧ off < 0x25000 then off == 0x24000 || qmWindow off
  else if 0x28000 ≤ off ∧ off < 0x29000 then off == kPart fn 0x24 || off == kPart fn 0x28 || off == kPart fn 0x2C
  else ownCopy off

-- SYS_TOPO

/-- The shape, the count and the index that a word names are those of a topology (R38, R39). -/
def topoOk (v : Word) : Bool :=
  let shape := bitsAt v.toNat 4 2
  let m := bitsAt v.toNat 2 2
  ((shape == 0 && m == 0) || (shape == 1 && decide (1 ≤ m)) || (shape == 2 && decide (2 ≤ m))) && decide (bitsAt v.toNat 0 2 ≤ m)

/-- A physical-function write to SYS_TOPO (R38 to R40). -/
def State.topoWrite (s : State) (v : Word) : State :=
  if topoOk v && !(List.range 4).any (fun i => s.flag (fKlyEn i)) then s.setReg 8 (v &&& 0x3F#32) else s.on ⟨8, 31, 1⟩

/-- SYS_TOPO_WRITE (R37 to R40): a virtual function's write is ignored. -/
def execSysTopoWrite (fn : Fn) (v : Word) (s : State) : Out :=
  if s.turnsAway fn then .next (s.turnedAway fn) else
  if fn = 0 then .next (s.topoWrite v) else .next s

-- THE TIMEBASE

/-- A physical-function write to a TB_ register (R78). -/
def State.tbRegWrite (s : State) (fn : Fn) (off : Nat) (v : Word) : State :=
  if off = 0x1000 then s.tbCtrlWrite fn v
  else if off = 0x1020 then s.guarded (fieldIn v 0 12 1 3600) fTbRejected off v
  else if off = 0x1030 then s.framePeriodWrite fn v
  else if off = 0x1034 then s.frameApplyWrite fn v
  else if 0x1100 ≤ off ∧ off < 0x1180 ∧ off % 16 = 0 then s.fdlCfgWrite fn (Fin.ofNat 8 ((off - 0x1100) / 16)) v
  else s.guarded true fTbRejected off v

-- ONE WORD

/-- A word written to the register that lies at an offset. [log 83: DEDUCED, safe] -/
def State.regWrite (s : State) (fn : Fn) (off : Nat) (v : Word) : State :=
  if off < 0x1000 then (if off = 8 then s.topoWrite v else s)
  else if off < 0x2000 then s.tbRegWrite fn off v
  else if off < 0x3000 then (if off = 0x2004 then s.linkCfgWrite fn v else s)
  else if off < 0x6000 then s.pwrRegWrite fn off v
  else if off < 0x10000 then s
  else if off < 0x20000 then s.millRegWrite fn off v
  else if off < 0x24000 then s.sieveRegWrite off v
  else if off < 0x28000 then s.qmRegWrite fn off v
  else if off < 0x30000 then s.partRegWrite fn off v
  else if off < 0x40000 then s.klyRegWrite fn off v
  else if off < 0x43000 then s.canRegWrite fn off v
  else if off < 0x48000 then s.ethRegWrite fn off v
  else if off < 0x50000 then s.secRegWrite fn off v
  else if off < 0x60000 then s.hrtRegWrite fn off v
  else if off < 0x78000 then s
  else if off < 0x80000 then s.plainWrite (own fn off) v
  else s.guarded true fReeveRejected off v

/-- A doorbell of queue q (R450): SQ_DB, then CQ_DB, in each 8 bytes of the doorbell region. -/
def State.doorbell (s : State) (fn : Fn) (off : Nat) (v : Word) : State :=
  let q := BitVec.ofNat 16 ((off - 0x80000) / 8)
  if off % 8 = 0 then outState (execSqDb fn q v s) s else outState (execCqDb fn q v s) s

-- PAIRS

/-- The function may write the register, and it is not an absent core's (R9). -/
def State.takesWrite (s : State) (fn : Fn) (off : Nat) : Bool := s.mayWrite fn off && !s.absent fn off && off % 4 == 0

/-- A pair that software writes: its _LO offset has writable bits, or it is TB_SET, which is write-only (R16). -/
def writablePair (lo : Nat) : Bool := isHalf .lo lo && (writable lo || lo == 0x1010)

/-- A 64-bit value written to the pair at a _LO offset (R16). -/
def State.pairWrite (s : State) (lo : Nat) (v : DWord) : State :=
  if lo = 0x1040 then (if s.flag fFrameEn then s.tbReject else s.setReg64 lo v)
  else if 0x43000 ≤ lo ∧ lo < 0x44000 then
    (if lo < 0x43400 ∧ s.blocksOff then s.on fEthRejected else s.setReg64 lo (v &&& 0x0000FFFFFFFFFFFF#64))
  else s.intakePair lo v

/-- A write of a _LO half is held for its function (R16); a breach of a range or condition is found when the _HI write makes the value whole
(R78). [log 134: DEDUCED, unsafe] -/
def State.loWrite (s : State) (fn : Fn) (off : Nat) (v : Word) : State :=
  if s.takesWrite fn off && writablePair off then { s with loHeld := Tbl.put s.loHeld (own fn (off + 4)) v } else s

/-- A write of a _HI half gives the pair its value, with the held _LO word, else with the current one (R16). -/
def State.hiWrite (s : State) (fn : Fn) (off : Nat) (v : Word) : State :=
  if s.takesWrite fn off && writablePair (off - 4) then
    if off = 0x1014 then outState (execTbSet fn v s) s
    else (s.pairWrite (off - 4) (BitVec.append v (s.loFor fn off (s.reg (off - 4))))).loTaken fn off
  else s

-- THE ROWS

/-- A function's write to an offset of BAR0: a half of a pair, a doorbell, or a word; one to a reserved offset is ignored (R780). -/
def State.softWrite (s : State) (fn : Fn) (off : Nat) (v : Word) : State :=
  if 0x80000 ≤ off ∧ off < 0x100000 then (if off % 4 = 0 then s.doorbell fn off v else s)
  else if isHalf .lo off then s.loWrite fn off v
  else if isHalf .hi off then s.hiWrite fn off v
  else if (regAt off).isSome && s.takesWrite fn off then s.regWrite fn off v
  else s

/-- REGISTER_WRITE (R9, R12, R13, R17, R780). -/
def execRegisterWrite (fn : Fn) (off : BitVec 25) (v : Word) (s : State) : Out :=
  if s.turnsAway fn || !inBar0 fn off.toNat then .next (s.turnedAway fn) else .next (s.softWrite fn off.toNat v)

/-- PAIR_LO_WRITE (R16). -/
def execPairLoWrite (fn : Fn) (off : BitVec 25) (v : Word) (s : State) : Out :=
  if s.turnsAway fn || !inBar0 fn off.toNat then .next (s.turnedAway fn) else .next (s.loWrite fn off.toNat v)

/-- PAIR_HI_WRITE (R16). -/
def execPairHiWrite (fn : Fn) (off : BitVec 25) (v : Word) (s : State) : Out :=
  if s.turnsAway fn || !inBar0 fn off.toNat then .next (s.turnedAway fn) else .next (s.hiWrite fn off.toNat v)

end Sys2Proof.Machine
end

