-- ==== Sys2Proof/Machine/Scan.lean ====
section
/-! DEFINITION. Boundary scan: the test access port of IEEE 1149.1 (22_electrical_package.md: R813). -/

namespace Sys2Proof.Machine

/-- The TAP controller's next state on a rising edge of TCK (IEEE 1149.1). [log 124: PRESUMED, unsafe] -/
def TapState.next (t : TapState) (tms : Bool) : TapState :=
  match t, tms with
  | .reset, true => .reset
  | .reset, false => .idle
  | .idle, true => .selectDr
  | .idle, false => .idle
  | .selectDr, true => .selectIr
  | .selectDr, false => .captureDr
  | .captureDr, true => .exit1Dr
  | .captureDr, false => .shiftDr
  | .shiftDr, true => .exit1Dr
  | .shiftDr, false => .shiftDr
  | .exit1Dr, true => .updateDr
  | .exit1Dr, false => .pauseDr
  | .pauseDr, true => .exit2Dr
  | .pauseDr, false => .pauseDr
  | .exit2Dr, true => .updateDr
  | .exit2Dr, false => .shiftDr
  | .updateDr, true => .selectDr
  | .updateDr, false => .idle
  | .selectIr, true => .reset
  | .selectIr, false => .captureIr
  | .captureIr, true => .exit1Ir
  | .captureIr, false => .shiftIr
  | .shiftIr, true => .exit1Ir
  | .shiftIr, false => .shiftIr
  | .exit1Ir, true => .updateIr
  | .exit1Ir, false => .pauseIr
  | .pauseIr, true => .exit2Ir
  | .pauseIr, false => .pauseIr
  | .exit2Ir, true => .updateIr
  | .exit2Ir, false => .shiftIr
  | .updateIr, true => .selectDr
  | .updateIr, false => .idle

/-- The value that IDCODE shifts out on stepping B0 (R813). -/
def idcode : Nat := 0x046D15CB

/-- The instruction of an opcode: BYPASS is all ones (IEEE 1149.1); the other opcodes are open. -/
def tapInstrOf (b : Byte) : TapInstr := if b = 0xFF then .bypass else Config.tapInstr b

/-- The instruction that acts: EXTEST, CLAMP and HIGHZ act as BYPASS outside test mode (R813). -/
def State.tapActs (s : State) : TapInstr :=
  match s.tap.instr with
  | .extest => if s.boot.test then .extest else .bypass
  | .clamp => if s.boot.test then .clamp else .bypass
  | .highz => if s.boot.test then .highz else .bypass
  | i => i

/-- What the selected data register captures: `sample` is what the cells of the chain sample. -/
def tapCapture (i : TapInstr) (sample : List Bool) : List Bool :=
  match i with
  | .idcode => (List.range 32).map (fun j => idcode.testBit j)
  | .sample => sample
  | .extest => sample
  | .bypass => [false]
  | .clamp => [false]
  | .highz => [false]

/-- The boundary register is the selected data register. -/
def TapInstr.onChain : TapInstr → Bool
  | .sample => true
  | .extest => true
  | .bypass => false
  | .idcode => false
  | .clamp => false
  | .highz => false

/-- The bit that TDO shows in a state: the one nearest TDO of the register that shifts. -/
def Tap.out (t : Tap) : Option Bool :=
  match t.st with
  | .shiftDr => t.dr.head?
  | .shiftIr => some (t.ir.getLsbD 0)
  | _ => none

/-- BOUNDARY_SCAN_ACCESS (R813): one cycle of TCK with levels of TRST_N, TMS and TDI; `sample` is what the cells of the chain sample. -/
def execBoundaryScanAccess (trstN tms tdi : Bool) (sample : List Bool) (s : State) : Out :=
  let t := s.tap
  if !trstN then .next { s with tap := { t with st := .reset, instr := .idcode, tdo := none } }
  else
    let shifted : Tap := match t.st with
      | .captureDr => { t with dr := tapCapture s.tapActs sample }
      | .captureIr => { t with ir := BitVec.ofNat 8 (s.free % 64 * 4 + 1) }
      | .shiftDr => { t with dr := t.dr.drop 1 ++ [tdi] }
      | .shiftIr => { t with ir := (t.ir >>> 1) ||| (if tdi then 0x80 else 0) }
      | _ => t
    let moved := { shifted with st := t.st.next tms }
    let updated : Tap := match moved.st with
      | .reset => { moved with instr := .idcode }
      | .updateIr => { moved with instr := tapInstrOf moved.ir }
      | .updateDr => { moved with latch := if s.tapActs.onChain then moved.dr else moved.latch }
      | _ => moved
    let s1 := if t.st = .captureIr then s.drawn else s
    .next { s1 with tap := { updated with tdo := updated.out } }

end Sys2Proof.Machine
end

