-- ==== Sys2Proof/Machine/Dispatch.lean ====
section
/-! DEFINITION. What each command does: one arm per constructor of Instr, each a direct call of its meaning. -/

namespace Sys2Proof.Machine

/-- [log 2: DEDUCED, safe] -/
def exec (i : Instr) (s : State) : Host.Outcome State Fault Refusal :=
  match i with
  | .registerWrite fn off v => Sys2Proof.Machine.execRegisterWrite fn off v s
  | .readClear fn off => Sys2Proof.Machine.execReadClear fn off s
  | .pairLoRead fn off => Sys2Proof.Machine.execPairLoRead fn off s
  | .pairLoWrite fn off v => Sys2Proof.Machine.execPairLoWrite fn off v s
  | .pairHiWrite fn off v => Sys2Proof.Machine.execPairHiWrite fn off v s
  | .sysTopoWrite fn v => Sys2Proof.Machine.execSysTopoWrite fn v s
  | .dramReadReturn who a ecc => Sys2Proof.Machine.execDramReadReturn who a ecc s
  | .dramWriteComplete who a bytes ecc => Sys2Proof.Machine.execDramWriteComplete who a bytes ecc s
  | .dramScrubRead a ecc => Sys2Proof.Machine.execDramScrubRead a ecc s
  | .mr4Poll channel mr4 => Sys2Proof.Machine.execMr4Poll channel mr4 s
  | .refreshManagement channel => Sys2Proof.Machine.execRefreshManagement channel s
  | .memoryTrainingDone density ranks2 failed => Sys2Proof.Machine.execMemoryTrainingDone density ranks2 failed s
  | .timebaseTick => Sys2Proof.Machine.execTimebaseTick s
  | .ppsEdge heldNs => Sys2Proof.Machine.execPpsEdge heldNs s
  | .trigInEdge n rising heldNs => Sys2Proof.Machine.execTrigInEdge n rising heldNs s
  | .disciplineMessage gptp port kind wellFormed seq offset bytes => Sys2Proof.Machine.execDisciplineMessage gptp port kind wellFormed seq offset bytes s
  | .measurementLossExpiry elapsedMs => Sys2Proof.Machine.execMeasurementLossExpiry elapsedMs s
  | .holdoverLimitExpiry elapsedS => Sys2Proof.Machine.execHoldoverLimitExpiry elapsedS s
  | .frameEnable fn v => Sys2Proof.Machine.execFrameEnable fn v s
  | .frameDisable fn v => Sys2Proof.Machine.execFrameDisable fn v s
  | .tbSourceChange fn v => Sys2Proof.Machine.execTbSourceChange fn v s
  | .tbSet fn hi => Sys2Proof.Machine.execTbSet fn hi s
  | .tbFramePeriodWrite fn v => Sys2Proof.Machine.execTbFramePeriodWrite fn v s
  | .tbFrameApplyWrite fn v => Sys2Proof.Machine.execTbFrameApplyWrite fn v s
  | .tbFdlCfgWrite fn k v => Sys2Proof.Machine.execTbFdlCfgWrite fn k v s
  | .frameBoundary monitor => Sys2Proof.Machine.execFrameBoundary monitor s
  | .frameDeadlineMiss k => Sys2Proof.Machine.execFrameDeadlineMiss k s
  | .tbCrosscheckWindow advanceNs => Sys2Proof.Machine.execTbCrosscheckWindow advanceNs s
  | .hedgerowHcbLoad => Sys2Proof.Machine.execHedgerowHcbLoad s
  | .hedgerowPacket binds mac pkt dropped => Sys2Proof.Machine.execHedgerowPacket binds mac pkt dropped s
  | .fieldEvaluation reactUs => Sys2Proof.Machine.execFieldEvaluation reactUs s
  | .hedgerowInputTimeout n elapsedMs => Sys2Proof.Machine.execHedgerowInputTimeout n elapsedMs s
  | .hedgerowReleaseExpiry elapsedMs => Sys2Proof.Machine.execHedgerowReleaseExpiry elapsedMs s
  | .fallbackMaxExpiry elapsedMs => Sys2Proof.Machine.execFallbackMaxExpiry elapsedMs s
  | .heartbeatSend fromReeve => Sys2Proof.Machine.execHeartbeatSend fromReeve s
  | .reeveHeartbeatLoss elapsedMs => Sys2Proof.Machine.execReeveHeartbeatLoss elapsedMs s
  | .hedgerowHeartbeatLoss loss => Sys2Proof.Machine.execHedgerowHeartbeatLoss loss s
  | .reeveLockstepMismatch => Sys2Proof.Machine.execReeveLockstepMismatch s
  | .hdgSupplyFault elapsedUs => Sys2Proof.Machine.execHdgSupplyFault elapsedUs s
  | .reeveClearance dt => Sys2Proof.Machine.execReeveClearance dt s
  | .perceptionStatusSend n => Sys2Proof.Machine.execPerceptionStatusSend n s
  | .safeStopQueue => Sys2Proof.Machine.execSafeStopQueue s
  | .safeStopPeriodic => Sys2Proof.Machine.execSafeStopPeriodic s
  | .selfTestRun d flagged corrected => Sys2Proof.Machine.execSelfTestRun d flagged corrected s
  | .selfTestOverdue d elapsedMs => Sys2Proof.Machine.execSelfTestOverdue d elapsedMs s
  | .millPortEnable fn p v => Sys2Proof.Machine.execMillPortEnable fn p v s
  | .millPortDisable fn p v => Sys2Proof.Machine.execMillPortDisable fn p v s
  | .portLockTimeout p elapsedMs => Sys2Proof.Machine.execPortLockTimeout p elapsedMs s
  | .i2cRun fn p v => Sys2Proof.Machine.execI2cRun fn p v s
  | .scriptWrite p ack stretchUs parity => Sys2Proof.Machine.execScriptWrite p ack stretchUs parity s
  | .scriptWait p parity => Sys2Proof.Machine.execScriptWait p parity s
  | .scriptPoll p ack value elapsedMs parity => Sys2Proof.Machine.execScriptPoll p ack value elapsedMs parity s
  | .scriptEnd p parity => Sys2Proof.Machine.execScriptEnd p parity s
  | .scriptInvalidOp p parity => Sys2Proof.Machine.execScriptInvalidOp p parity s
  | .csiFrameStart p vc fsNumber header sync t => Sys2Proof.Machine.execCsiFrameStart p vc fsNumber header sync t s
  | .csiFrameEnd p vc fsNumber header sync t => Sys2Proof.Machine.execCsiFrameEnd p vc fsNumber header sync t s
  | .csiLongPacket p vc dt payload header crcOk sync lanes ecc t => Sys2Proof.Machine.execCsiLongPacket p vc dt payload header crcOk sync lanes ecc t s
  | .rangePacket mac pkt ecc t => Sys2Proof.Machine.execRangePacket mac pkt ecc t s
  | .parserEnd n parity => Sys2Proof.Machine.execParserEnd n parity s
  | .parserLd8 n parity => Sys2Proof.Machine.execParserLd8 n parity s
  | .parserLd16 n parity => Sys2Proof.Machine.execParserLd16 n parity s
  | .parserLd32 n parity => Sys2Proof.Machine.execParserLd32 n parity s
  | .parserLdi n parity => Sys2Proof.Machine.execParserLdi n parity s
  | .parserLui n parity => Sys2Proof.Machine.execParserLui n parity s
  | .parserAlu n parity => Sys2Proof.Machine.execParserAlu n parity s
  | .parserShift n parity => Sys2Proof.Machine.execParserShift n parity s
  | .parserMul n parity => Sys2Proof.Machine.execParserMul n parity s
  | .parserAddi n parity => Sys2Proof.Machine.execParserAddi n parity s
  | .parserLut n parity => Sys2Proof.Machine.execParserLut n parity s
  | .parserBranch n parity => Sys2Proof.Machine.execParserBranch n parity s
  | .parserEmit n parity => Sys2Proof.Machine.execParserEmit n parity s
  | .parserStamp n parity => Sys2Proof.Machine.execParserStamp n parity s
  | .parserSweep n parity => Sys2Proof.Machine.execParserSweep n parity s
  | .parserSeq n parity => Sys2Proof.Machine.execParserSeq n parity s
  | .parserReject n parity => Sys2Proof.Machine.execParserReject n parity s
  | .parserInvalidOp n parity => Sys2Proof.Machine.execParserInvalidOp n parity s
  | .parserRunLimit n => Sys2Proof.Machine.execParserRunLimit n s
  | .frameAssemblyTimeout k elapsedMs => Sys2Proof.Machine.execFrameAssemblyTimeout k elapsedMs s
  | .triggerFire n => Sys2Proof.Machine.execTriggerFire n s
  | .triggerPulseEnd n => Sys2Proof.Machine.execTriggerPulseEnd n s
  | .triggerWindowEnd k => Sys2Proof.Machine.execTriggerWindowEnd k s
  | .groupCollectClose g n => Sys2Proof.Machine.execGroupCollectClose g n s
  | .millGroupPost g => Sys2Proof.Machine.execMillGroupPost g s
  | .slotRelease fn k v => Sys2Proof.Machine.execSlotRelease fn k v s
  | .streamEnable fn k v => Sys2Proof.Machine.execStreamEnable fn k v s
  | .groupTailWrite fn g v => Sys2Proof.Machine.execGroupTailWrite fn g v s
  | .decodeLine k ecc parity => Sys2Proof.Machine.execDecodeLine k ecc parity s
  | .sieveListRead k parity => Sys2Proof.Machine.execSieveListRead k parity s
  | .jobDispatch k => Sys2Proof.Machine.execJobDispatch k s
  | .tallyCfgLoad k => Sys2Proof.Machine.execTallyCfgLoad k s
  | .instructionFetch k hit parity ecc => Sys2Proof.Machine.execInstructionFetch k hit parity ecc s
  | .saluAlu k slot ecc => Sys2Proof.Machine.execSaluAlu k slot ecc s
  | .saluShift k slot ecc => Sys2Proof.Machine.execSaluShift k slot ecc s
  | .saluMul k slot ecc => Sys2Proof.Machine.execSaluMul k slot ecc s
  | .saluMinmax k slot ecc => Sys2Proof.Machine.execSaluMinmax k slot ecc s
  | .saluCompare k slot ecc => Sys2Proof.Machine.execSaluCompare k slot ecc s
  | .addh k slot ecc => Sys2Proof.Machine.execAddh k slot ecc s
  | .mova k slot ecc => Sys2Proof.Machine.execMova k slot ecc s
  | .movs k slot ecc => Sys2Proof.Machine.execMovs k slot ecc s
  | .adda k slot ecc => Sys2Proof.Machine.execAdda k slot ecc s
  | .li64 k => Sys2Proof.Machine.execLi64 k s
  | .ld k => Sys2Proof.Machine.execLd k s
  | .ldReturn k => Sys2Proof.Machine.execLdReturn k s
  | .st k => Sys2Proof.Machine.execSt k s
  | .storeBufferDrain k => Sys2Proof.Machine.execStoreBufferDrain k s
  | .gld k errs => Sys2Proof.Machine.execGld k errs s
  | .gst k bad => Sys2Proof.Machine.execGst k bad s
  | .branch k => Sys2Proof.Machine.execBranch k s
  | .j k => Sys2Proof.Machine.execJ k s
  | .jr k => Sys2Proof.Machine.execJr k s
  | .jal k => Sys2Proof.Machine.execJal k s
  | .endJob k => Sys2Proof.Machine.execEndJob k s
  | .sigchk k => Sys2Proof.Machine.execSigchk k s
  | .sigchki k => Sys2Proof.Machine.execSigchki k s
  | .sigset k => Sys2Proof.Machine.execSigset k s
  | .tinc k es ps parity => Sys2Proof.Machine.execTinc k es ps parity s
  | .twait k e parity => Sys2Proof.Machine.execTwait k e parity s
  | .tget k parity => Sys2Proof.Machine.execTget k parity s
  | .barc k e => Sys2Proof.Machine.execBarc k e s
  | .balloc k parity => Sys2Proof.Machine.execBalloc k parity s
  | .ballocFillComplete k => Sys2Proof.Machine.execBallocFillComplete k s
  | .bfree k parity => Sys2Proof.Machine.execBfree k parity s
  | .bfreeTagsFree k => Sys2Proof.Machine.execBfreeTagsFree k s
  | .opaCfg k => Sys2Proof.Machine.execOpaCfg k s
  | .mma k => Sys2Proof.Machine.execMma k s
  | .arrayStep k errs parity flip => Sys2Proof.Machine.execArrayStep k errs parity flip s
  | .drain k => Sys2Proof.Machine.execDrain k s
  | .drainComplete k parity bad n => Sys2Proof.Machine.execDrainComplete k parity bad n s
  | .opaZero k => Sys2Proof.Machine.execOpaZero k s
  | .vecArith k ecc upset => Sys2Proof.Machine.execVecArith k ecc upset s
  | .vecUnary k ecc upset => Sys2Proof.Machine.execVecUnary k ecc upset s
  | .vecLogic k ecc upset => Sys2Proof.Machine.execVecLogic k ecc upset s
  | .vecShift k ecc upset => Sys2Proof.Machine.execVecShift k ecc upset s
  | .vcmp k ecc upset => Sys2Proof.Machine.execVcmp k ecc upset s
  | .vsel k ecc upset => Sys2Proof.Machine.execVsel k ecc upset s
  | .vcvt k ecc upset => Sys2Proof.Machine.execVcvt k ecc upset s
  | .vred k ecc upset => Sys2Proof.Machine.execVred k ecc upset s
  | .vlut k ecc upset errs => Sys2Proof.Machine.execVlut k ecc upset errs s
  | .vbc k ecc upset => Sys2Proof.Machine.execVbc k ecc upset s
  | .vld k ecc upset errs => Sys2Proof.Machine.execVld k ecc upset errs s
  | .vst k ecc upset bad => Sys2Proof.Machine.execVst k ecc upset bad s
  | .vpop k ecc upset => Sys2Proof.Machine.execVpop k ecc upset s
  | .vmov k ecc upset => Sys2Proof.Machine.execVmov k ecc upset s
  | .xfer k q => Sys2Proof.Machine.execXfer k q s
  | .peelTransferIssue k q act errs bad => Sys2Proof.Machine.execPeelTransferIssue k q act errs bad s
  | .peelTransferComplete k q => Sys2Proof.Machine.execPeelTransferComplete k q s
  | .peelCompletionTimeout k q elapsedUs => Sys2Proof.Machine.execPeelCompletionTimeout k q elapsedUs s
  | .watchdogExpiry k mask cycles => Sys2Proof.Machine.execWatchdogExpiry k mask cycles s
  | .tallyWaitTimeout k e elapsedUs => Sys2Proof.Machine.execTallyWaitTimeout k e elapsedUs s
  | .jobRetire k => Sys2Proof.Machine.execJobRetire k s
  | .backgroundParityCheck what => Sys2Proof.Machine.execBackgroundParityCheck what s
  | .granaryWriteback k => Sys2Proof.Machine.execGranaryWriteback k s
  | .granaryScrub k bank errs => Sys2Proof.Machine.execGranaryScrub k bank errs s
  | .poolDisable fn v => Sys2Proof.Machine.execPoolDisable fn v s
  | .grnOwnClear fn v => Sys2Proof.Machine.execGrnOwnClear fn v s
  | .sqDb fn q v => Sys2Proof.Machine.execSqDb fn q v s
  | .cqDb fn q v => Sys2Proof.Machine.execCqDb fn q v s
  | .descriptorFetch q ecc => Sys2Proof.Machine.execDescriptorFetch q ecc s
  | .queueEnable fn => Sys2Proof.Machine.execQueueEnable fn s
  | .queueDisable fn => Sys2Proof.Machine.execQueueDisable fn s
  | .queueResumeReplay fn => Sys2Proof.Machine.execQueueResumeReplay fn s
  | .queueResumeSkip fn => Sys2Proof.Machine.execQueueResumeSkip fn s
  | .preemptionRequest k => Sys2Proof.Machine.execPreemptionRequest k s
  | .coreSaveComplete k ns => Sys2Proof.Machine.execCoreSaveComplete k ns s
  | .jobResume k errs => Sys2Proof.Machine.execJobResume k errs s
  | .completionRecordWrite q => Sys2Proof.Machine.execCompletionRecordWrite q s
  | .coalesceExpiry q elapsedUs => Sys2Proof.Machine.execCoalesceExpiry q elapsedUs s
  | .jobDeadlineExpiry q pos elapsedUs => Sys2Proof.Machine.execJobDeadlineExpiry q pos elapsedUs s
  | .partPercWrite fn v => Sys2Proof.Machine.execPartPercWrite fn v s
  | .partLock fn v => Sys2Proof.Machine.execPartLock fn v s
  | .partResetWrite fn v => Sys2Proof.Machine.execPartResetWrite fn v s
  | .partitionResetComplete p => Sys2Proof.Machine.execPartitionResetComplete p s
  | .partWinWrite fn p w v => Sys2Proof.Machine.execPartWinWrite fn p w v s
  | .dramRegulatorWrite fn p v => Sys2Proof.Machine.execDramRegulatorWrite fn p v s
  | .regulatorPeriod => Sys2Proof.Machine.execRegulatorPeriod s
  | .requestAdmit port => Sys2Proof.Machine.execRequestAdmit port s
  | .granaryBalanceRefill => Sys2Proof.Machine.execGranaryBalanceRefill s
  | .jobLostAnnounce => Sys2Proof.Machine.execJobLostAnnounce s
  | .msixSend fn vector => Sys2Proof.Machine.execMsixSend fn vector s
  | .klyPortEnable fn n v => Sys2Proof.Machine.execKlyPortEnable fn n v s
  | .klyPortDisable fn n v => Sys2Proof.Machine.execKlyPortDisable fn n v s
  | .klyPllChannelLock n => Sys2Proof.Machine.execKlyPllChannelLock n s
  | .klyTrainAttemptTimeout n elapsedMs => Sys2Proof.Machine.execKlyTrainAttemptTimeout n elapsedMs s
  | .klyTrainingLimit n elapsedMs => Sys2Proof.Machine.execKlyTrainingLimit n elapsedMs s
  | .klyTrainFrame n bytes => Sys2Proof.Machine.execKlyTrainFrame n bytes s
  | .klyTrainingPass n => Sys2Proof.Machine.execKlyTrainingPass n s
  | .klyDataFrame n bytes => Sys2Proof.Machine.execKlyDataFrame n bytes s
  | .klyRack n bytes => Sys2Proof.Machine.execKlyRack n bytes s
  | .klyAck n bytes => Sys2Proof.Machine.execKlyAck n bytes s
  | .klyNak n bytes => Sys2Proof.Machine.execKlyNak n bytes s
  | .klyCredit n bytes => Sys2Proof.Machine.execKlyCredit n bytes s
  | .klyAbort n bytes => Sys2Proof.Machine.execKlyAbort n bytes s
  | .klyFrameTransmit n ecc headerOk => Sys2Proof.Machine.execKlyFrameTransmit n ecc headerOk s
  | .klyReplayTimeout n elapsedUs => Sys2Proof.Machine.execKlyReplayTimeout n elapsedUs s
  | .klyLinkNotReady n elapsedUs => Sys2Proof.Machine.execKlyLinkNotReady n elapsedUs s
  | .counterWindowWrite => Sys2Proof.Machine.execCounterWindowWrite s
  | .triggerDescriptorWrite fn t w v => Sys2Proof.Machine.execTriggerDescriptorWrite fn t w v s
  | .triggeredOpFire t parityOk => Sys2Proof.Machine.execTriggeredOpFire t parityOk s
  | .put t ecc => Sys2Proof.Machine.execPut t ecc s
  | .reduce t ecc => Sys2Proof.Machine.execReduce t ecc s
  | .exchange t ecc => Sys2Proof.Machine.execExchange t ecc s
  | .flag t => Sys2Proof.Machine.execFlag t s
  | .doorbell t => Sys2Proof.Machine.execDoorbell t s
  | .firingComplete t => Sys2Proof.Machine.execFiringComplete t s
  | .firingTimeout t elapsedUs => Sys2Proof.Machine.execFiringTimeout t elapsedUs s
  | .ctBind => Sys2Proof.Machine.execCtBind s
  | .ctRequest => Sys2Proof.Machine.execCtRequest s
  | .ctDone => Sys2Proof.Machine.execCtDone s
  | .ctTouch => Sys2Proof.Machine.execCtTouch s
  | .ctUnbind => Sys2Proof.Machine.execCtUnbind s
  | .ctRequestExpiry slot elapsedMs => Sys2Proof.Machine.execCtRequestExpiry slot elapsedMs s
  | .ctDormancyExpiry slot elapsedS => Sys2Proof.Machine.execCtDormancyExpiry slot elapsedS s
  | .faultEventArrival parity ecc => Sys2Proof.Machine.execFaultEventArrival parity ecc s
  | .violationLogWrite => Sys2Proof.Machine.execViolationLogWrite s
  | .crashCaptureStart => Sys2Proof.Machine.execCrashCaptureStart s
  | .crashRecordSecure read parity parityCores ecc => Sys2Proof.Machine.execCrashRecordSecure read parity parityCores ecc s
  | .engineReset k e => Sys2Proof.Machine.execEngineReset k e s
  | .engineResetDone k e => Sys2Proof.Machine.execEngineResetDone k e s
  | .peelResetFailed k q elapsedUs => Sys2Proof.Machine.execPeelResetFailed k q elapsedUs s
  | .peelResetRetry k q elapsedUs => Sys2Proof.Machine.execPeelResetRetry k q elapsedUs s
  | .knownAnswerTest k pass => Sys2Proof.Machine.execKnownAnswerTest k pass s
  | .sweepComplete => Sys2Proof.Machine.execSweepComplete s
  | .sweepSupervisionExpiry elapsedUs => Sys2Proof.Machine.execSweepSupervisionExpiry elapsedUs s
  | .bar2Access fn a n write poisoned ecc => Sys2Proof.Machine.execBar2Access fn a n write poisoned ecc s
  | .pcieTlpViolation fn c detail => Sys2Proof.Machine.execPcieTlpViolation fn c detail s
  | .pcieLinkError => Sys2Proof.Machine.execPcieLinkError s
  | .pcieRestore fn v => Sys2Proof.Machine.execPcieRestore fn v s
  | .pcieLinkDown => Sys2Proof.Machine.execPcieLinkDown s
  | .perst asserted => Sys2Proof.Machine.execPerst asserted s
  | .functionLevelReset fn => Sys2Proof.Machine.execFunctionLevelReset fn s
  | .vfEnableClear => Sys2Proof.Machine.execVfEnableClear s
  | .mailboxDoorbell fn v touched => Sys2Proof.Machine.execMailboxDoorbell fn v touched s
  | .openReq fn keyOk rngOk => Sys2Proof.Machine.execOpenReq fn keyOk rngOk s
  | .openProof fn keyOk => Sys2Proof.Machine.execOpenProof fn keyOk s
  | .keyProvision => Sys2Proof.Machine.execKeyProvision s
  | .keepalive fn => Sys2Proof.Machine.execKeepalive fn s
  | .close fn => Sys2Proof.Machine.execClose fn s
  | .info fn => Sys2Proof.Machine.execInfo fn s
  | .fwStage => Sys2Proof.Machine.execFwStage s
  | .fwStageComplete readBack => Sys2Proof.Machine.execFwStageComplete readBack s
  | .fwActivate => Sys2Proof.Machine.execFwActivate s
  | .selectorWriteComplete => Sys2Proof.Machine.execSelectorWriteComplete s
  | .openPendingExpiry fn elapsedMs => Sys2Proof.Machine.execOpenPendingExpiry fn elapsedMs s
  | .lockoutExpiry fn elapsedS => Sys2Proof.Machine.execLockoutExpiry fn elapsedS s
  | .sessionIdleExpiry fn elapsedS => Sys2Proof.Machine.execSessionIdleExpiry fn elapsedS s
  | .secProvClose fn v => Sys2Proof.Machine.execSecProvClose fn v s
  | .canFrameReceive c f ramError t => Sys2Proof.Machine.execCanFrameReceive c f ramError t s
  | .canTxComplete c ramError => Sys2Proof.Machine.execCanTxComplete c ramError s
  | .canTxError c dataPhase exempt => Sys2Proof.Machine.execCanTxError c dataPhase exempt s
  | .canBusoffRecoveryDone c => Sys2Proof.Machine.execCanBusoffRecoveryDone c s
  | .canHoldExpiry elapsedMs => Sys2Proof.Machine.execCanHoldExpiry elapsedMs s
  | .safeStopSupervisionExpiry hedgerow elapsedMs => Sys2Proof.Machine.execSafeStopSupervisionExpiry hedgerow elapsedMs s
  | .canTxRequest fn b v => Sys2Proof.Machine.execCanTxRequest fn b v s
  | .canTxAbort fn b v => Sys2Proof.Machine.execCanTxAbort fn b v s
  | .canTxTimeout b elapsedMs => Sys2Proof.Machine.execCanTxTimeout b elapsedMs s
  | .canRxfPop fn v => Sys2Proof.Machine.execCanRxfPop fn v s
  | .canRateRestore fn c v => Sys2Proof.Machine.execCanRateRestore fn c v s
  | .ethEnable fn m v => Sys2Proof.Machine.execEthEnable fn m v s
  | .ethLinkUp m speed fullDuplex => Sys2Proof.Machine.execEthLinkUp m speed fullDuplex s
  | .ethLinkDown m => Sys2Proof.Machine.execEthLinkDown m s
  | .ethFrameReceive m dst kind fcsOk symbolError overflow => Sys2Proof.Machine.execEthFrameReceive m dst kind fcsOk symbolError overflow s
  | .safeStopReadbackFault elapsedUs => Sys2Proof.Machine.execSafeStopReadbackFault elapsedUs s
  | .safeStopExternalLow => Sys2Proof.Machine.execSafeStopExternalLow s
  | .powerSample deciwatts => Sys2Proof.Machine.execPowerSample deciwatts s
  | .powerLimitPersist elapsedMs => Sys2Proof.Machine.execPowerLimitPersist elapsedMs s
  | .thermalSample temps outOfRange => Sys2Proof.Machine.execThermalSample temps outOfRange s
  | .thermalPauseEnd n elapsedUs => Sys2Proof.Machine.execThermalPauseEnd n elapsedUs s
  | .spllCalRequest write => Sys2Proof.Machine.execSpllCalRequest write s
  | .spllCalibrationStart => Sys2Proof.Machine.execSpllCalibrationStart s
  | .spllCalForce elapsedS => Sys2Proof.Machine.execSpllCalForce elapsedS s
  | .spllCalibrationDone => Sys2Proof.Machine.execSpllCalibrationDone s
  | .pllLock pll => Sys2Proof.Machine.execPllLock pll s
  | .pllLossOfLock pll refMissing => Sys2Proof.Machine.execPllLossOfLock pll refMissing s
  | .clockMonitorWindow island ppm changed fifoParity => Sys2Proof.Machine.execClockMonitorWindow island ppm changed fifoParity s
  | .supplyOutOfWindow rail elapsedUs => Sys2Proof.Machine.execSupplyOutOfWindow rail elapsedUs s
  | .crystalLoss => Sys2Proof.Machine.execCrystalLoss s
  | .bankEnterRequest fn v => Sys2Proof.Machine.execBankEnterRequest fn v s
  | .bankEntryComplete => Sys2Proof.Machine.execBankEntryComplete s
  | .wakeRequest fn v => Sys2Proof.Machine.execWakeRequest fn v s
  | .wakeComplete => Sys2Proof.Machine.execWakeComplete s
  | .bootStart testEn flash => Sys2Proof.Machine.execBootStart testEn flash s
  | .bootPairClassify => Sys2Proof.Machine.execBootPairClassify s
  | .reeveStart => Sys2Proof.Machine.execReeveStart s
  | .bootComplete monitor => Sys2Proof.Machine.execBootComplete monitor s
  | .railUndervoltReset => Sys2Proof.Machine.execRailUndervoltReset s
  | .railRecoveryRelease inRangeMs testEn => Sys2Proof.Machine.execRailRecoveryRelease inRangeMs testEn s
  | .resetNPulse ns => Sys2Proof.Machine.execResetNPulse ns s
  | .configSpaceWrite fn w => Sys2Proof.Machine.execConfigSpaceWrite fn w s
  | .pcieLinkUp speed width => Sys2Proof.Machine.execPcieLinkUp speed width s
  | .timeMessageTransmit m served kind head bytes => Sys2Proof.Machine.execTimeMessageTransmit m served kind head bytes s
  | .canReceiveError c by8 => Sys2Proof.Machine.execCanReceiveError c by8 s
  | .boundaryScanAccess trstN tms tdi sample => Sys2Proof.Machine.execBoundaryScanAccess trstN tms tdi sample s

end Sys2Proof.Machine
end

