-- ==== Sys2Proof/Safety.lean ====
section
/-! DEFINITION. What a state of the block keeps on every run: the canonical form of its register map and of its DRAM,
and how one state may follow another. -/

namespace Sys2Proof.Machine

/-- The register map is canonical: its keys rise strictly, and no register it lists holds its reset value (R784). -/
def regsWf (m : Tbl Word) : Bool := Tbl.wf m && m.all (fun e => decide (e.2 ≠ regReset e.1))

/-- The DRAM is canonical: its offsets rise strictly.  An unwritten byte reads as a free value, so every written byte is listed (R819). -/
def Memory.wf (m : List Host.Cell) : Bool := Tbl.wf m

/-- The canonical form of the whole state: its register map and its DRAM, and a fused core map that names physical cores (R253). -/
structure State.Ok (s : State) : Prop where
  regs : regsWf s.regs = true
  dram : Memory.wf s.dram = true
  phys : s.fuse.physOf.all (fun i => decide (i < 16)) = true

/-- What every command keeps between the state s that it finds and the state t that it leaves: the waiting commands, the
fused part (R5, R8), the canonical forms, and that free values, power-on resets and emissions are only ever added. -/
structure Evolves (s t : State) : Prop where
  pending : t.pending = s.pending
  grade : t.fuse.grade = s.fuse.grade
  ae : t.fuse.ae = s.fuse.ae
  physOf : t.fuse.physOf = s.fuse.physOf
  regs : regsWf s.regs = true → regsWf t.regs = true
  dram : Memory.wf s.dram = true → Memory.wf t.dram = true
  draws : s.draws ≤ t.draws
  epoch : s.epoch ≤ t.epoch

-- FIELDS

/-- A field that lies in its register. -/
def Fld.ok (f : Fld) : Bool := decide (f.lo + f.w ≤ 32)

/-- Two fields share no bit. -/
def Fld.apart (f g : Fld) : Bool := decide (f.key ≠ g.key) || decide (f.lo + f.w ≤ g.lo) || decide (g.lo + g.w ≤ f.lo)

-- FRAMES

/-- Every register but those of the keys listed reads as before. -/
def keepsRegs (s t : State) (ks : List Nat) : Prop := ∀ k, k ∉ ks → t.reg k = s.reg k

/-- Every byte of DRAM reads as before. -/
def keepsRam (s t : State) : Prop := ∀ a, t.ramByte a = s.ramByte a

/-- Nothing changes but the registers of the keys listed. -/
structure OnlyRegs (s t : State) (ks : List Nat) : Prop where
  regs : keepsRegs s t ks
  ram : keepsRam s t
  rest : t = { s with regs := t.regs }

/-- Nothing changes but the registers of the keys listed and the fault events on their way to the Reeve, to which es are added. -/
structure OnlyRegsEvents (s t : State) (ks : List Nat) (es : List FaultEvent) : Prop where
  regs : keepsRegs s t ks
  ram : keepsRam s t
  events : t.reeve = { s.reeve with events := s.reeve.events ++ es }
  rest : t = { s with regs := t.regs, reeve := t.reeve }

-- CORES

/-- Instructions of one kind, of which a bundle holds one at a time outside the SALU (R263). -/
def Op.alike : Op → Op → Bool
  | .smem a .., .smem b .. => a == b
  | .branch .., .branch .. => true
  | .jump _, .jump _ => true
  | .jumpReg _, .jumpReg _ => true
  | .jal .., .jal .. => true
  | .endJob, .endJob => true
  | .sigchk _, .sigchk _ => true
  | .sigchki _, .sigchki _ => true
  | .sigset _, .sigset _ => true
  | .li64 .., .li64 .. => true
  | .tinc a .., .tinc b .. => a == b
  | .twait a .., .twait b .. => a == b
  | .tget .., .tget .. => true
  | .barc a, .barc b => a.testBit 0 == b.testBit 0
  | .balloc .., .balloc .. => true
  | .bfree .., .bfree .. => true
  | .xfer a .., .xfer b .. => a == b
  | _, _ => false

/-- Core k runs and holds the bundle h, whose slot j has the instruction o still to do, the first of its kind. -/
structure SlotHeld (s : State) (k : CoreId) (h : Held) (j : Nat) (o : Op) : Prop where
  runs : s.runs k = true
  held : s.held k = some h
  checked : h.checked = true
  todo : h.todo[j]? = some o
  first : ∀ (i : Nat) (x : Op), i < j → h.todo[i]? = some x → x.alike o = false

/-- The same, of a bundle that has issued (R264, R265). -/
structure SlotReady (s : State) (k : CoreId) (h : Held) (j : Nat) (o : Op) : Prop extends SlotHeld s k h j o where
  issued : h.issued = true

/-- The same, of a bundle that has passed the checks at decode and that no pre-emption stops, where another instruction still holds it
back once o has passed (R264, R283, R287, R289, R391). -/
structure GateReady (s : State) (k : CoreId) (h : Held) (j : Nat) (o : Op) : Prop extends SlotHeld s k h j o where
  waiting : h.issued = false
  going : (s.core k).stopping = false
  another : (h.done j).todo.any Op.gates = true

/-- The same, where o is the last that holds the bundle back: no load that it needs is awaited, the store buffer has room for its store and no queue
is full. -/
structure LastGate (s : State) (k : CoreId) (h : Held) (j : Nat) (o : Op) : Prop extends SlotHeld s k h j o where
  waiting : h.issued = false
  going : (s.core k).stopping = false
  last : (h.done j).todo.any Op.gates = false
  load : (s.core k).awaitsLoad h = false
  room : h.stores = false ∨ (s.core k).sb.length < 16
  queues : (s.core k).fullQueues h = []

/-- The answer is a next state in which core k is c and every other core as before, each counter of the first list has counted one, and
nothing else has changed but the registers of the second. -/
def CoreNext (a : Out) (s : State) (k : CoreId) (c : CoreSt) (counts ks : List Nat) : Prop :=
  ∃ t, a = .next t ∧ t.core k = c ∧ (∀ i, i ≠ k.val → t.core i = s.core i) ∧ (∀ r ∈ counts, t.reg r = (s.bump r).reg r) ∧
    keepsRegs s t (counts ++ ks) ∧ keepsRam s t ∧ t = { s with cores := t.cores, regs := t.regs }

/-- The instruction in slot j of core k's bundle h has executed: core k is c, but for its bundle, from which the slot is struck out; the
last one ends the bundle, which HRT_RETIRED counts. -/
def SlotDone (a : Out) (s : State) (k : CoreId) (h : Held) (j : Nat) (c : CoreSt) (counts : List Nat) : Prop :=
  ((h.done j).todo.any (· ≠ .nop) = true → CoreNext a s k { c with bundle := some (h.done j) } counts []) ∧
  ((h.done j).todo.all (· == .nop) = true → CoreNext a s k { c with bundle := none } counts [kRetired k] ∧
    ∀ t, a = .next t → t.reg (kRetired k) = s.reg (kRetired k) + 1)

/-- The answer is a next state in which core k is c with its engines stopped, every other core is as before, one job fault of this code is
on its way to the Reeve, and nothing else has changed but the registers of ks. -/
def CoreStops (a : Out) (s : State) (k : CoreId) (c : CoreSt) (code : Nat) (ks : List Nat) : Prop :=
  ∃ (t : State) (ev : FaultEvent), a = .next t ∧ t.core k = { c with frozen := true } ∧ (∀ i, i ≠ k.val → t.core i = s.core i) ∧
    ev.code = BitVec.ofNat 16 code ∧ ev.disp = .jobFault ∧ t.reeve = { s.reeve with events := s.reeve.events ++ [ev] } ∧
    keepsRegs s t ks ∧ keepsRam s t ∧ t = { s with cores := t.cores, regs := t.regs, reeve := t.reeve }

/-- What issue of the bundle h makes of core c (R264 to R266, R280, R282, R284, R235): the program counter, the signature, the entries in
OPA's and VEC's queues with the operands they captured, and the values that its slots read. -/
structure IssuedFrom (c c' : CoreSt) (h : Held) : Prop where
  pc : c'.pc = h.addr + 16
  sig : c'.sig = if h.ops.any (fun o => o == .endJob || o.isSigset) then c.sig else sigFold c.sig h.raw
  ended : c'.ended = (c.ended || h.ops.contains .endJob)
  s : c'.s = c.s
  tallies : c'.t = c.t
  opa : ∀ (i : Nat) (o : Op), h.ops[i]? = some o → 1 ∈ o.queues → ∃ q ∈ c'.opaQ, q.op = o ∧ q.bundle = h.addr ∧ q.vals = c.captured o
  vec : ∀ (i : Nat) (o : Op), h.ops[i]? = some o → 2 ∈ o.queues → ∃ q ∈ c'.vecQ, q.op = o ∧ q.bundle = h.addr ∧ q.vals = c.captured o
  bundle : c'.bundle = none ∨ ∃ h' : Held, c'.bundle = some h' ∧ h'.issued = true ∧ h'.addr = h.addr ∧ h'.ops = h.ops ∧ h'.sv = c.s ∧ h'.av = c.a

/-- The answer is a next state in which core k's bundle h has issued, and nothing but core k and the count of bundles retired has changed. -/
def Issues (a : Out) (s : State) (k : CoreId) (c : CoreSt) (h : Held) (ks : List Nat) : Prop :=
  ∃ t, a = .next t ∧ IssuedFrom c (t.core k) h ∧ (∀ i, i ≠ k.val → t.core i = s.core i) ∧ keepsRegs s t (kRetired k :: ks) ∧ keepsRam s t ∧
    t = { s with cores := t.cores, regs := t.regs }

/-- What decode and issue make of a bundle g just fetched, in a state that is s but for core k's c (R256, R257, R264, R304, R831). -/
structure Decodes (a : Out) (s : State) (k : CoreId) (c : CoreSt) (g : Held) : Prop where
  issues : g.fileEcc ≠ .uncorrectable → s.breaches k g = [] → g.ops.any Op.gates = false → (g.stores = false ∨ c.sb.length < 16) → c.fullQueues g = [] →
    Issues a s k c g (if g.fileEcc = .corrected then [kSrfCe k] else [])
  waits : g.fileEcc ≠ .uncorrectable → s.breaches k g = [] → g.ops.any Op.gates = true →
    CoreNext a s k { c with bundle := some { g with checked := true } } (if g.fileEcc = .corrected then [kSrfCe k] else []) []
  breach : ∀ r slot, g.fileEcc = .clean → leastBreach (s.breaches k g) = some (r, slot) → r < 2 ^ 10 → slot < 4 →
    CoreStops a s k { c with bundle := some g } 0x2401 [kCore k 0x40, kCore k 0x44, kCore k 0x48] ∧
    ∀ t, a = .next t → t.reg64 (kCore k 0x40) = g.addr ∧ (t.reg (kCore k 0x48)).toNat = 0x2401 * 2 ^ 16 + slot * 2 ^ 10 + r
  ecc : g.fileEcc = .uncorrectable → CoreStops a s k { c with bundle := some g } 0x2402 []

/-- One increment of tally t by n is applied: it keeps the 48 bits and, where the tally is bounded, its bound (R441, R443). -/
def CoreSt.takes (c : CoreSt) (t n : Nat) : Prop :=
  t < 32 ∧ c.tally t + n < 2 ^ 48 ∧ ∀ p b, c.bound t = some (p, b) → p ≠ t ∧ c.tally t + n ≤ b + c.tally p

/-- It is not, and breaks the one or the other. -/
def CoreSt.overruns (c : CoreSt) (t n : Nat) : Prop :=
  t < 32 ∧ (∀ p b, c.bound t = some (p, b) → p ≠ t) ∧ (2 ^ 48 ≤ c.tally t + n ∨ ∃ p b, c.bound t = some (p, b) ∧ b + c.tally p < c.tally t + n)

/-- The Granary g' is g with the bytes bs at offset a (R416). -/
structure GrnWritten (g g' : Granary) (a : Nat) (bs : List Byte) : Prop where
  bytes : ∀ i b, bs[i]? = some b → Tbl.getD g'.bytes (a + i) 0 = b
  rest : ∀ x, (x < a ∨ a + bs.length ≤ x) → Tbl.getD g'.bytes x 0 = Tbl.getD g.bytes x 0
  recs : g'.recs = g.recs
  tagged : g'.tagged = g.tagged
  scrub : g'.scrub = g.scrub

-- TIMEBASE AND VEHICLE INTERFACES

/-- The Timebase state after a write of v to TB_CTRL (R46). -/
def State.tbStateAfter (s : State) (v : Word) : Nat :=
  if fTbSrc.ofWord v = 0 then tbFree
  else if s.get fTbState = tbFree ∨ (fTbPort.ofWord v = s.get fTbPort ∧ (fTbSrc.ofWord v = s.get fTbSrc ∨ s.get fTbSrc = 0)) then s.get fTbState
  else tbAcquire

/-- The frame that CAN 0 sends next, and its buffers then (R693, R695, R704). -/
def State.can0Next (s : State) : Option (CanFrame × Vehicle) :=
  let hdg (h : List Byte) := (s.safeStopFrame h, { s.veh with hdgBuf := none, sentSince := true })
  let reeve (r : List Byte) := (s.safeStopFrame r, { s.veh with reeveBuf := none, sentSince := true })
  match s.veh.hdgBuf, s.veh.reeveBuf with
  | some h, some r => some (if commandOfBytes h < commandOfBytes r then reeve r else hdg h)
  | some h, none => some (hdg h)
  | none, some r => some (reeve r)
  | none, none => s.veh.psBuf.map (fun p => (s.perceptionFrame p, { s.veh with psBuf := none }))

/-- A frame as controller c puts it on the bus (R690, R692). -/
def State.onBus (s : State) (c : Nat) (f : CanFrame) : Emission :=
  .canFrame c (f.fdf && s.get (fCanState c) == 1) { f with brs := f.fdf && f.brs && s.get (fRung c) == 0 }

/-- A controller's STATE by its error counters, where it was old: passive above 127, active once both have fallen (R701). -/
def canStateBy (old tec rec : Nat) : Nat :=
  if old = 0 ∧ (127 < tec ∨ 127 < rec) then 1 else if old = 1 ∧ tec ≤ 127 ∧ rec ≤ 127 then 0 else old

/-- A consumer other than the tap takes an accepted frame of MAC m (R709). -/
def State.ethTaken (s : State) (m : Nat) : EthKind → Bool
  | .time => s.timePort m
  | .arp _ _ target => s.flag (fArpEn m) && target == s.reg (kEthIp m)
  | .udp pkt => decide (m < 4) && (s.classify m pkt).isSome
  | _ => false

-- THE VECTOR ENGINE

/-- The VEC instruction at the head of core k's queue can execute: the engine may start it, and every vector register has 256 lanes. -/
structure VecReady (s : State) (k : CoreId) (q : QEnt) : Prop where
  head : s.vecHead k = some q
  lanes : ∀ r, ((s.core k).vreg r).length = 256

/-- The head of VEC's queue has retired and vD holds, in each lane of the mask, the value of that lane; its other lanes, the other vector
registers and all else but the counters listed, which have counted one, are as before. -/
def VecDone (a : Out) (s : State) (k : CoreId) (q : QEnt) (d : Nat) (m : BitVec 256) (lane : Nat → Word) (counts : List Nat) : Prop :=
  ∃ t, a = .next t ∧ t.core k = { s.core k with vecQ := (s.core k).vecQ.tail, lastPc := (s.core k).lastPc.set 1 q.bundle, v := (t.core k).v } ∧
    (∀ i, i < 256 → ((t.core k).vreg d).getD i 0 = if m.getLsbD i then lane i else ((s.core k).vreg d).getD i 0) ∧
    (∀ r, r ≠ d → (t.core k).vreg r = (s.core k).vreg r) ∧ (∀ i, i ≠ k.val → t.core i = s.core i) ∧ (∀ r ∈ counts, t.reg r = (s.bump r).reg r) ∧
    keepsRegs s t counts ∧ keepsRam s t ∧ t = { s with cores := t.cores, regs := t.regs }

/-- The head of VEC's queue has retired and predicate d holds m, p0 apart, which keeps its ones; nothing else has changed. -/
def PredDone (a : Out) (s : State) (k : CoreId) (q : QEnt) (d : Nat) (m : BitVec 256) : Prop :=
  ∃ t, a = .next t ∧ t.core k = { s.core k with vecQ := (s.core k).vecQ.tail, lastPc := (s.core k).lastPc.set 1 q.bundle, p := (t.core k).p } ∧
    (t.core k).preg d = (if d = 0 then BitVec.allOnes 256 else m) ∧ (∀ r, r ≠ d → (t.core k).preg r = (s.core k).preg r) ∧
    (∀ i, i ≠ k.val → t.core i = s.core i) ∧ keepsRegs s t [] ∧ keepsRam s t ∧ t = { s with cores := t.cores }

-- THE RANGE PARSER

/-- A parser row has answered a next state in which the run of stream k stands at r' and nothing else has changed, but that one free value
has been drawn. -/
def ParserGoesOn (o : Out) (s : State) (k : Nat) (p : RangePkt) (r' : ParserRun) : Prop :=
  ∃ t, o = .next t ∧ t.strm k = { s.strm k with run := some (p, r') } ∧ (∀ j, j ≠ k → t.strm j = s.strm j) ∧
    t = { s with mill := t.mill, draws := s.draws + 1 }

/-- The register gD of a run is v, one more instruction has been executed, and the next one is due (R152). -/
def ParserRun.wrote (r : ParserRun) (d : Nat) (v : Word) : ParserRun := { r with g := r.g.set d v, pc := r.pc + 1, steps := r.steps + 1 }

-- MAILBOXES

/-- The mailbox of a function has answered a command of this opcode with a status (R669, R675, R677): DONE is set, BUSY is clear, and the
first word of the response area holds opcode and status. -/
structure Answered (t : State) (fn opcode status : Nat) : Prop where
  done : t.flag (fMbxDone fn) = true
  idle : t.flag (fMbxBusy fn) = false
  head : t.reg (kMbxRsp fn 0) = BitVec.ofNat 32 (opcode + status * 65536)
  over_ : (t.session fn).started = false

-- REQUESTS TO DEVICE MEMORY

/-- A user's request of partition p for so many lines needs no admission, or goes out now (R516, R520). -/
def State.goesOut (s : State) (u : DramUser) (p n : Nat) : Bool := n == 0 || s.dramReady u p n

/-- The state once that request has gone out. -/
def State.asked (s : State) (u : DramUser) (p n : Nat) : State := if n = 0 then s else s.dramTake u p n

/-- The command waits for its user's request, which does not go out (R520). -/
def waitsFor (i : Instr) (s : State) (u : DramUser) (p n : Nat) : Prop :=
  n ≠ 0 → s.dramReady u p n = false → exec i s = .next (s.dramWait u p n)

/-- The n bytes at an address of staging, or of device memory. -/
def State.ceBytes (s : State) (ceb : Bool) (a n : Nat) : List Byte := if ceb then s.stageBytes a n else s.ramBytes a n

/-- A partition's firing may read the n bytes, or write them (R496, R567), and none lies in a block with an uncorrectable error. -/
def State.ceMay (s : State) (p : Nat) (ceb : Bool) (a n : Nat) (write : Bool) : Bool :=
  if ceb then s.stageOk p a n else s.jobOk p a n write && (s.badIn a n).isNone

-- LINKS

/-- Port i of the Kelyth Link has gone down to a state, and the firings listed have completed (R536, limit 7). -/
structure WentDown (s t : State) (i st : Nat) (cut : List Nat) : Prop where
  state : t.get (fKlyState i) = st
  locked : t.flag (fKlyLocked i) = false
  port : t.kport i = { KPort.reset with floor := (s.kport i).floor }
  gone : ∀ d ∈ cut, t.firing d = none
  kept : ∀ d, d ∉ cut → t.firing d = s.firing d
  ram : keepsRam s t

/-- The port's state as it goes down, before its firings are looked at. -/
def State.linkOff (s : State) (i st : Nat) : State := (s.put (fKlyState i) st).off (fKlyLocked i)

end Sys2Proof.Machine
end

