-- ==== Sys2Proof/Certificates/Slice0/Obligations.lean ====
section
/-! DEFINITION. The statements for the provers, one definition each. -/

open Sys2Proof Sys2Proof.Machine

/-- For every command c, every queue rest and every state s, one step of s with c at the front of its queue is exec of c on s with that rest
as its queue. With nothing waiting the block idles: the step leaves the state as it is (the idle step is the model's choice, log entry 1). -/
def Obligations.StepRunsTheFrontCommand : Prop :=
  (∀ (s : State) (c : Instr) (rest : List Instr), step { s with pending := c :: rest } = exec c { s with pending := rest }) ∧
    (∀ s : State, step { s with pending := [] } = .next { s with pending := [] })

/-- In the reset state no command waits, no register is listed, so each reads its reset value; the Timebase is 0 and FREE with XCHK_FAIL
clear; TB_FRAME_PERIOD reads 33,333,333, TB_HOLD_LIMIT 60, SYS_ID 0x46D1B001; and the state is canonical. -/
def Obligations.ResetLeavesTheStatedValues : Prop :=
  State.reset.pending = [] ∧ (∀ k, State.reset.reg k = regReset k) ∧ State.reset.tb.ns = 0 ∧ State.reset.get fTbState = tbFree ∧
    State.reset.flag fXchkFail = false ∧ State.reset.reg kFramePeriod = 33333333 ∧ State.reset.reg kHoldLimit = 60 ∧
    State.reset.reg 0 = 0x46D1B001 ∧ State.Ok State.reset

/-- For a canonical state: a field that is put reads the low bits of what was put; a field that shares no bit with it, in the same register or
another, reads as before; nothing but that register changes. Setting a whole register gives it the value and leaves the others. An
emission adds one entry to what the device has put out and changes nothing else; a raised event adds one entry to those on their way to
the Reeve and changes nothing else. -/
def Obligations.NamedUpdatesReachOnlyTheirField : Prop :=
  ∀ s : State, State.Ok s →
    (∀ (f : Fld) (n : Nat), f.ok = true → (s.put f n).get f = n % 2 ^ f.w ∧
      (∀ g : Fld, g.ok = true → f.apart g = true → (s.put f n).get g = s.get g) ∧ OnlyRegs s (s.put f n) [f.key]) ∧
    (∀ (k : Nat) (v : Word), (s.setReg k v).reg k = v ∧ OnlyRegs s (s.setReg k v) [k]) ∧
    (∀ e : Emission, s.emit e = { s with emitted := s.emitted ++ [e] }) ∧
    (∀ e : FaultEvent, OnlyRegsEvents s (s.raise e) [] [e])

/-- Counting one event in a counter register adds 1 unless the register is all ones, when it stays all ones; in a counter field likewise with
the field's own all-ones value; no other register changes (R18). -/
def Obligations.EventCountersHoldAtAllOnes : Prop :=
  ∀ s : State, State.Ok s →
    (∀ k, ((s.bump k).reg k).toNat = (if (s.reg k).toNat = 0xFFFFFFFF then 0xFFFFFFFF else (s.reg k).toNat + 1) ∧ OnlyRegs s (s.bump k) [k]) ∧
    (∀ f : Fld, f.ok = true → (s.bumpFld f).get f = (if s.get f = 2 ^ f.w - 1 then 2 ^ f.w - 1 else s.get f + 1) ∧ OnlyRegs s (s.bumpFld f) [f.key])

/-- A read of a _LO half answers its value, keeps the value of the _HI half for the requester and leaves every register but one whose bits a
read clears. In any later state that still holds that snapshot, the same requester's read of _HI answers it, and the snapshot is gone
(R15). -/
def Obligations.PairReadReturnsTheSnapshotOnce : Prop :=
  ∀ (s : State) (fn : Fn) (off : BitVec 25), s.turnsAway fn = false → inBar0 fn off.toNat = true → isHalf .lo off.toNat = true → isHalf .hi off.toNat = false →
    ∃ t, exec (.pairLoRead fn off) s = .next t ∧ t.rdata = s.regValue fn off.toNat ∧
      Tbl.find t.hiSnap (own fn (off.toNat + 4)) = some (s.regValue fn (off.toNat + 4)) ∧ keepsRegs s t [regKey fn off.toNat] ∧ keepsRam s t ∧
      t = { s with rdata := t.rdata, hiSnap := t.hiSnap, regs := t.regs, draws := t.draws } ∧
      ∀ (u : State) (hi : BitVec 25), hi.toNat = off.toNat + 4 → Tbl.wf u.hiSnap = true → u.turnsAway fn = false → inBar0 fn hi.toNat = true → isHalf .hi hi.toNat = true →
        Tbl.find u.hiSnap (own fn hi.toNat) = some (s.regValue fn (off.toNat + 4)) →
        ∃ w, exec (.readClear fn hi) u = .next w ∧ w.rdata = s.regValue fn (off.toNat + 4) ∧ Tbl.find w.hiSnap (own fn hi.toNat) = none ∧
          keepsRegs u w [regKey fn hi.toNat] ∧ keepsRam u w ∧ w = { u with rdata := w.rdata, hiSnap := w.hiSnap, regs := w.regs, draws := w.draws }

/-- The physical function's read of SYS_DRAM_CE_COUNT answers its value and leaves it 0, and no other register changes. Its read of
TB_FRAME_PERIOD answers the value and changes no register. A read of an offset at which no register lies answers 0 and changes no
register. -/
def Obligations.ReadsAnswerAndClearCounters : Prop :=
  ∀ s : State, State.Ok s → s.turnsAway 0 = false →
    (∃ t, exec (.readClear 0 0x10) s = .next t ∧ t.rdata = s.reg kCeCount ∧ t.reg kCeCount = 0 ∧ keepsRegs s t [kCeCount] ∧ keepsRam s t ∧
      t = { s with rdata := t.rdata, regs := t.regs }) ∧
    exec (.readClear 0 0x1030) s = .next { s with rdata := s.reg kFramePeriod } ∧
    exec (.readClear 0 0x7000) s = .next { s with rdata := 0 }

/-- A physical-function write to TB_HOLD_LIMIT whose low 12 bits lie from 1 to 3,600 sets them whatever the reserved bits say, and any other
sets REJECTED alone. A write to TB_FRAME_EPOCH_LO is held for the requester and changes no register; while frames are off the write to _HI
then sets both halves, with the held word, else with the register's current low word, and the held word is gone. A _HI write to TB_SET
without a held word takes a low word of zero. A write from a virtual function to a TB_ register, and any write to an offset without a
register, changes nothing. -/
def Obligations.WritesFollowTheAccessCodes : Prop :=
  ∀ (s : State) (v : Word), State.Ok s → s.turnsAway 0 = false →
    (1 ≤ v.toNat % 4096 → v.toNat % 4096 ≤ 3600 → ∃ t, exec (.registerWrite 0 0x1020 v) s = .next t ∧ t.get ⟨kHoldLimit, 0, 12⟩ = v.toNat % 4096 ∧
      t.get ⟨kHoldLimit, 12, 20⟩ = s.get ⟨kHoldLimit, 12, 20⟩ ∧ OnlyRegs s t [kHoldLimit]) ∧
    ((v.toNat % 4096 = 0 ∨ 3600 < v.toNat % 4096) → ∃ t, exec (.registerWrite 0 0x1020 v) s = .next t ∧ t.flag fTbRejected = true ∧ OnlyRegs s t [0x1004]) ∧
    exec (.pairLoWrite 0 0x1040 v) s = .next { s with loHeld := Tbl.put s.loHeld 0x1044 v } ∧
    (s.flag fFrameEn = false → ∃ t, exec (.pairHiWrite 0 0x1044 v) s = .next t ∧
      t.reg64 kFrameEpoch = BitVec.append v ((Tbl.find s.loHeld 0x1044).getD (s.reg kFrameEpoch)) ∧ keepsRegs s t [kFrameEpoch, kFrameEpoch + 4] ∧ keepsRam s t ∧
      t = { s with regs := t.regs, loHeld := Tbl.drop s.loHeld 0x1044 }) ∧
    (s.flag fFrameEn = false → Tbl.find s.loHeld 0x1014 = none → ∃ t, exec (.pairHiWrite 0 0x1014 v) s = .next t ∧ t.tb.ns = BitVec.append v 0#32) ∧
    (∀ fn : Fn, fn ≠ 0 → s.turnsAway fn = false → exec (.registerWrite fn 0x1020 v) s = .next s) ∧
    exec (.registerWrite 0 0x7000 v) s = .next s

/-- A physical-function write to SYS_TOPO sets SHAPE, DEV_COUNT_M1 and DEV_INDEX exactly when every Kelyth port is disabled and the value is
SHAPE 0 with count 0, SHAPE 1 with count 1 to 3, or SHAPE 2 with count 2 or 3, and the index is no greater than the count; otherwise it
leaves these fields and sets REJECTED. A virtual function's write changes nothing. -/
def Obligations.TopologyWritesFollowTheirRules : Prop :=
  ∀ (s : State) (v : Word), State.Ok s → s.turnsAway 0 = false →
    (((bitsAt v.toNat 4 2 = 0 ∧ bitsAt v.toNat 2 2 = 0) ∨ (bitsAt v.toNat 4 2 = 1 ∧ 1 ≤ bitsAt v.toNat 2 2) ∨ (bitsAt v.toNat 4 2 = 2 ∧ 2 ≤ bitsAt v.toNat 2 2)) →
      bitsAt v.toNat 0 2 ≤ bitsAt v.toNat 2 2 → (∀ p, p < 4 → s.flag (fKlyEn p) = false) →
      ∃ t, exec (.sysTopoWrite 0 v) s = .next t ∧ t.reg 8 = v &&& 0x3F ∧ OnlyRegs s t [8]) ∧
    ((¬ ((bitsAt v.toNat 4 2 = 0 ∧ bitsAt v.toNat 2 2 = 0) ∨ (bitsAt v.toNat 4 2 = 1 ∧ 1 ≤ bitsAt v.toNat 2 2) ∨ (bitsAt v.toNat 4 2 = 2 ∧ 2 ≤ bitsAt v.toNat 2 2)) ∨
      bitsAt v.toNat 2 2 < bitsAt v.toNat 0 2 ∨ ∃ p, p < 4 ∧ s.flag (fKlyEn p) = true) →
      ∃ t, exec (.sysTopoWrite 0 v) s = .next t ∧ t.flag ⟨8, 31, 1⟩ = true ∧ t.get ⟨8, 0, 6⟩ = s.get ⟨8, 0, 6⟩ ∧ OnlyRegs s t [8]) ∧
    (∀ fn : Fn, fn ≠ 0 → s.turnsAway fn = false → exec (.sysTopoWrite fn v) s = .next s)

/-- Within the usable range, a read whose block holds no error returns the block's 64 bytes and changes no register; a corrected one counts
CE_COUNT besides; an uncorrectable one, newly found or kept from before, returns them poisoned, counts UE_COUNT and raises 0x3101 as a job
fault. A scrub of memory that is not in self-refresh changes nothing where clean, counts CE_COUNT where corrected, and where uncorrectable counts
UE_COUNT and raises 0x3103 as REPORT. No byte of memory changes. -/
def Obligations.MemoryReadsReportTheirErrors : Prop :=
  ∀ (s : State) (who : Agent) (a : Nat), State.Ok s → a < s.dramBytes →
    (s.ramBad a = false →
      exec (.dramReadReturn who a .clean) s = .next (s.emit (.dramData who (a / 64 * 64) (s.ramBytes (a / 64 * 64) 64) false)) ∧
      exec (.dramReadReturn who a .corrected) s = .next ((s.bump kCeCount).emit (.dramData who (a / 64 * 64) (s.ramBytes (a / 64 * 64) 64) false)) ∧
      (s.power.selfRefresh = false → exec (.dramScrubRead a .clean) s = .next s ∧ exec (.dramScrubRead a .corrected) s = .next (s.bump kCeCount))) ∧
    (∀ e : Ecc, (s.ramBad a = true ∨ e = .uncorrectable) →
      (∃ t, exec (.dramReadReturn who a e) s = .next t ∧ t.reg kUeCount = (s.bump kUeCount).reg kUeCount ∧ keepsRegs s t [kUeCount] ∧ keepsRam s t ∧
        t.ramBad a = true ∧ t.emitted = s.emitted ++ [.dramData who (a / 64 * 64) (s.ramBytes (a / 64 * 64) 64) true] ∧
        (∃ ev : FaultEvent, ev.code = 0x3101 ∧ ev.disp = .jobFault ∧ t.reeve = { s.reeve with events := s.reeve.events ++ [ev] }) ∧
        t = { s with regs := t.regs, reeve := t.reeve, dramBad := t.dramBad, emitted := t.emitted }) ∧
      (s.power.selfRefresh = false → ∃ t, exec (.dramScrubRead a e) s = .next t ∧ t.reg kUeCount = (s.bump kUeCount).reg kUeCount ∧ keepsRegs s t [kUeCount] ∧ keepsRam s t ∧
        t.ramBad a = true ∧ (∃ ev : FaultEvent, ev.code = 0x3103 ∧ ev.disp = .report ∧ t.reeve = { s.reeve with events := s.reeve.events ++ [ev] }) ∧
        t = { s with regs := t.regs, reeve := t.reeve, dramBad := t.dramBad }))

/-- A write within one 64-byte block and the usable range, to a block without an error or as the whole block, makes exactly its bytes read as
written and leaves every other byte; a whole block also loses its error. A partial write of a block that holds an uncorrectable error
changes no byte, keeps the error, counts UE_COUNT and raises 0x3101. An MR4 poll stores the channel's value, and a refresh management
command only goes out; in self-refresh neither does anything (log entry 136). -/
def Obligations.MemoryWritesLandWhereTheyShould : Prop :=
  ∀ (s : State) (who : Agent) (a : Nat) (bs : List Byte), State.Ok s → bs ≠ [] → a % 64 + bs.length ≤ 64 → a + bs.length ≤ s.dramBytes →
    ((bs.length = 64 ∨ s.ramBad a = false) → ∃ t, exec (.dramWriteComplete who a bs .clean) s = .next t ∧
      (∀ i (h : i < bs.length), t.ramByte (a + i) = bs[i]) ∧ (∀ j, (j < a ∨ a + bs.length ≤ j) → t.ramByte j = s.ramByte j) ∧
      (bs.length = 64 → Tbl.wf s.dramBad = true → t.ramBad a = false) ∧ t = { s with dram := t.dram, dramBad := t.dramBad }) ∧
    (bs.length < 64 → ∀ e : Ecc, (s.ramBad a = true ∨ e = .uncorrectable) → ∃ t, exec (.dramWriteComplete who a bs e) s = .next t ∧ keepsRam s t ∧ t.ramBad a = true ∧
      t.reg kUeCount = (s.bump kUeCount).reg kUeCount ∧ keepsRegs s t [kUeCount] ∧
      (∃ ev : FaultEvent, ev.code = 0x3101 ∧ ev.disp = .jobFault ∧ t.reeve = { s.reeve with events := s.reeve.events ++ [ev] }) ∧
      t = { s with regs := t.regs, reeve := t.reeve, dramBad := t.dramBad }) ∧
    (∀ (c : Fin 16) (m : Byte), s.power.selfRefresh = false → ∃ t, exec (.mr4Poll c m) s = .next t ∧ Tbl.find t.mr4 c.val = some m ∧
      (∀ j, j ≠ c.val → Tbl.find t.mr4 j = Tbl.find s.mr4 j) ∧ t = { s with mr4 := t.mr4 }) ∧
    (∀ c : Fin 16, s.power.selfRefresh = false → exec (.refreshManagement c) s = .next (s.emit (.refreshManagement c.val))) ∧
    (∀ (c : Fin 16) (m : Byte), s.power.selfRefresh = true → exec (.mr4Poll c m) s = .next s ∧ exec (.refreshManagement c) s = .next s)

/-- Whatever the servo and the slew hold, the correction that one 40 ns tick applies is at most 500 ppm of 40 ns in magnitude, in units of
2^-32 ns (R49). -/
def Obligations.RateCorrectionStaysWithin500Ppm : Prop :=
  ∀ t : Timebase, t.correction.natAbs * 1000000 ≤ 500 * (40 * 2 ^ 32)

/-- A tick adds 40 ns and a correction within 500 ppm to the count and changes no register but TB_STATUS. A PPS edge held 60 ns, while SRC is
not PPS, stores a stamp within 8 ns of the edge in TB_PPS_STAMP; with SRC PPS it is a measurement besides, of which TB_OFFSET and TB_STATUS alone
may change. Any message in sequence that completes a measurement sets TB_OFFSET. A Sync of the selected port that is newer than the last one (in the model's
reading of sequence, log entry 131) and yields no measurement only moves the sequence number on, and one with a measurement sets TB_OFFSET
to it, clamped to 32 bits; the clamp is the model's (log entry 12). A malformed message, or one of another port, is only logged. A loss of
measurements for 3 s in ACQUIRE or LOCKED gives HOLDOVER and raises 0x8301; the holdover limit gives FREE and HOLD_EXPIRED and raises
0x8302. A window that a step or a TB_SET write voided is discarded, and one that is more than 10 us off 5 ms sets XCHK_FAIL and raises
0x8304 as HELD; any other window changes nothing. -/
def Obligations.TimebaseCountsAndIsDisciplined : Prop :=
  ∀ s : State, State.Ok s →
    (∃ t, ∃ c : Int, exec .timebaseTick s = .next t ∧ c.natAbs * 1000000 ≤ 500 * (40 * 2 ^ 32) ∧
      ((t.tb.ns.toNat : Int) * 2 ^ 32 + t.tb.frac) % 2 ^ 96 = ((s.tb.ns.toNat : Int) * 2 ^ 32 + s.tb.frac + 40 * 2 ^ 32 + c) % 2 ^ 96 ∧
      t.tb.ticks = s.tb.ticks + 1 ∧ t.get fSlewing = b2n (t.tb.slew != 0) ∧
      (∀ g : Fld, g.ok = true → g.apart fSlewing = true → t.get g = s.get g) ∧
      t = { s with regs := t.regs, tb := { s.tb with ns := t.tb.ns, frac := t.tb.frac, slew := t.tb.slew, ticks := t.tb.ticks, past := t.tb.past } }) ∧
    (∀ heldNs, 60 ≤ heldNs → s.get fTbSrc ≠ 3 → heldNs + 8 ≤ s.now → s.now + 8 < 2 ^ 64 → ∃ t, exec (.ppsEdge heldNs) s = .next t ∧
      s.now ≤ (t.reg64 kPpsStamp).toNat + heldNs + 8 ∧ (t.reg64 kPpsStamp).toNat + heldNs ≤ s.now + 8 ∧
      keepsRegs s t [kPpsStamp, kPpsStamp + 4] ∧ keepsRam s t ∧ t = { s with regs := t.regs, draws := s.draws + 1 }) ∧
    (∀ gptp port (seq : BitVec 16) bytes, s.get fTbSrc = (if gptp then 1 else 2) → s.get fTbPort = port.val →
      (Tbl.find s.tb.seqs 0 = none ∨ ∃ l : BitVec 16, Tbl.find s.tb.seqs 0 = some l.toNat ∧ 1 ≤ (seq - l).toNat ∧ (seq - l).toNat < 32768) →
      exec (.disciplineMessage gptp port .sync true seq none bytes) s = .next { s with tb := { s.tb with seqs := Tbl.put s.tb.seqs 0 seq.toNat } } ∧
      ∀ off : Int, ∃ t, exec (.disciplineMessage gptp port .sync true seq (some off) bytes) s = .next t ∧
        t.reg kTbOffset = BitVec.ofInt 32 (clamp 2147483647 off) ∧ keepsRegs s t [kTbOffset, 0x1004] ∧ keepsRam s t ∧
        t = { s with regs := t.regs, tb := t.tb, reeve := t.reeve, draws := t.draws }) ∧
    (∀ heldNs, 60 ≤ heldNs → s.get fTbSrc = 3 → heldNs + 8 ≤ s.now → s.now + 8 < 2 ^ 64 → ∃ t, exec (.ppsEdge heldNs) s = .next t ∧
      s.now ≤ (t.reg64 kPpsStamp).toNat + heldNs + 8 ∧ (t.reg64 kPpsStamp).toNat + heldNs ≤ s.now + 8 ∧
      keepsRegs s t [kPpsStamp, kPpsStamp + 4, kTbOffset, 0x1004] ∧ keepsRam s t ∧
      t = { s with regs := t.regs, tb := t.tb, reeve := t.reeve, draws := t.draws }) ∧
    (∀ gptp port kind (seq : BitVec 16) (off : Int) bytes, s.get fTbSrc = (if gptp then 1 else 2) → s.get fTbPort = port.val → s.tb.inSequence kind seq = true →
      ∃ t, exec (.disciplineMessage gptp port kind true seq (some off) bytes) s = .next t ∧ t.reg kTbOffset = BitVec.ofInt 32 (clamp 2147483647 off) ∧
        Tbl.find t.tb.seqs kind.idx = some seq.toNat ∧ keepsRegs s t [kTbOffset, 0x1004] ∧ keepsRam s t ∧
        t = { s with regs := t.regs, tb := t.tb, reeve := t.reeve, draws := t.draws }) ∧
    (∀ gptp port kind wellFormed (seq : BitVec 16) off bytes, (wellFormed = false ∨ s.get fTbSrc ≠ (if gptp then 1 else 2) ∨ s.get fTbPort ≠ port.val) →
      exec (.disciplineMessage gptp port kind wellFormed seq off bytes) s = .next (s.violation 0x8306 (srcTb 15) bytes)) ∧
    (∀ ms, 3000 ≤ ms → (s.get fTbState = tbAcquire ∨ s.get fTbState = tbLocked) → ∃ t, exec (.measurementLossExpiry ms) s = .next t ∧
      t.get fTbState = tbHoldover ∧ keepsRegs s t [0x1004] ∧ keepsRam s t ∧
      t.reeve = { s.reeve with events := s.reeve.events ++ [⟨0x8301, srcTb 15, 0, .report, []⟩] } ∧
      t = { s with regs := t.regs, tb := t.tb, reeve := t.reeve }) ∧
    (∀ sec, (s.reg kHoldLimit).toNat ≤ sec → s.get fTbState = tbHoldover → ∃ t, exec (.holdoverLimitExpiry sec) s = .next t ∧
      t.get fTbState = tbFree ∧ t.flag fHoldExpired = true ∧ keepsRegs s t [0x1004] ∧ keepsRam s t ∧
      t.reeve = { s.reeve with events := s.reeve.events ++ [⟨0x8302, srcTb 15, 0, .report, []⟩] } ∧
      t = { s with regs := t.regs, tb := t.tb, reeve := t.reeve }) ∧
    (∀ adv : Int, s.tb.voidWindow = true → exec (.tbCrosscheckWindow adv) s = .next { s with tb := { s.tb with voidWindow := false } }) ∧
    (∀ adv : Int, s.tb.voidWindow = false → (adv - 5000000).natAbs ≤ 10000 → exec (.tbCrosscheckWindow adv) s = .next s) ∧
    (∀ adv : Int, s.tb.voidWindow = false → 10000 < (adv - 5000000).natAbs → ∃ t, exec (.tbCrosscheckWindow adv) s = .next t ∧
      t.flag fXchkFail = true ∧ (∀ g : Fld, g.ok = true → g.apart fXchkFail = true → t.get g = s.get g) ∧ keepsRegs s t [0x1004] ∧ keepsRam s t ∧
      t.reeve = { s.reeve with events := s.reeve.events ++ [⟨0x8304, srcOf 8 0 0, 0, .held, []⟩] } ∧
      t = { s with regs := t.regs, reeve := t.reeve, tb := { s.tb with past := t.tb.past } })

/-- For a physical function that answers. FRAME_ENABLE with SRC and PORT in range sets TB_CTRL, gives FRAME_BASE 0 and, as next boundary, the
first grid point at or after the later of the epoch and the count. FRAME_DISABLE discards the pending period and the accepted apply and
clears PERIOD_PENDING. A source change in FREE sets TB_CTRL and leaves the state. With each of the three, SRC 0 gives FREE, a change of SRC from
another source or of PORT gives ACQUIRE where the state was not FREE, and anything else leaves the state. A TB_SET while frames are off sets the count to the held
low word and the written high word and voids Hedgerow's window. A period in range is held pending while frames run and no apply is
accepted, and takes effect at once while frames are off and no enabled deadline offset is too long. An apply in range fixes the boundary
of a pending period. A deadline timer with EN 1 takes an offset from 100 us to less than twice the period, its MODE reads 0 in the
perception partition, and one with EN 0 takes any offset. -/
def Obligations.TimebaseWritesTakeEffect : Prop :=
  ∀ (s : State) (v : Word), State.Ok s → s.turnsAway 0 = false →
    (fFrameEn.ofWord v = 1 → s.flag fFrameEn = false → fTbSrc.ofWord v = s.get fTbSrc → fTbPort.ofWord v = s.get fTbPort → fTbSrc.ofWord v ≤ 3 → fTbPort.ofWord v ≤ 4 →
      s.get fTbState = tbFree →
      ∃ t, exec (.frameEnable 0 v) s = .next t ∧ t.reg kTbCtrl = v &&& 0xF177 ∧ t.reg kFrameBase = 0 ∧ t.tb.base = 0 ∧
        (s.reg64 kFrameEpoch).toNat ≤ t.boundaryAt t.tb.next ∧ (0 < s.period → s.now ≤ t.boundaryAt t.tb.next) ∧
        (∀ n, n < t.tb.next → t.boundaryAt n < max s.now ((s.reg64 kFrameEpoch).toNat)) ∧
        keepsRegs s t [kTbCtrl, kFrameBase] ∧ keepsRam s t ∧ t = { s with regs := t.regs, tb := t.tb, mill := t.mill }) ∧
    (fFrameEn.ofWord v = 0 → s.flag fFrameEn = true → fTbSrc.ofWord v = s.get fTbSrc → fTbPort.ofWord v = s.get fTbPort → fTbSrc.ofWord v ≤ 3 → fTbPort.ofWord v ≤ 4 →
      s.get fTbState = tbFree →
      ∃ t, exec (.frameDisable 0 v) s = .next t ∧ t.reg kTbCtrl = v &&& 0xF177 ∧ t.tb.pendPeriod = none ∧ t.tb.applyAt = none ∧ t.tb.slots = [] ∧
        t.flag fPeriodPending = false ∧ t.period = s.period ∧ keepsRegs s t [kTbCtrl, 0x1004] ∧ keepsRam s t ∧
        t = { s with regs := t.regs, tb := t.tb, mill := t.mill }) ∧
    ((fFrameEn.ofWord v = 1 ↔ s.flag fFrameEn = true) → fTbSrc.ofWord v ≠ s.get fTbSrc → 1 ≤ fTbSrc.ofWord v → fTbSrc.ofWord v ≤ 3 →
      fTbPort.ofWord v ≤ 4 → s.get fTbState = tbFree →
      ∃ t, exec (.tbSourceChange 0 v) s = .next t ∧ t.reg kTbCtrl = v &&& 0xF177 ∧ t.get fTbState = tbFree ∧ keepsRegs s t [kTbCtrl] ∧
        keepsRam s t ∧ t = { s with regs := t.regs, tb := { s.tb with seqs := t.tb.seqs } }) ∧
    (fFrameEn.ofWord v = 1 → s.flag fFrameEn = false → fTbSrc.ofWord v ≤ 3 → fTbPort.ofWord v ≤ 4 →
      ∃ t, exec (.frameEnable 0 v) s = .next t ∧ t.reg kTbCtrl = v &&& 0xF177 ∧ t.get fTbState = s.tbStateAfter v ∧ t.reg kFrameBase = 0 ∧ t.tb.base = 0 ∧
        (s.reg64 kFrameEpoch).toNat ≤ t.boundaryAt t.tb.next ∧ (0 < s.period → s.now ≤ t.boundaryAt t.tb.next) ∧
        keepsRegs s t [kTbCtrl, kFrameBase, 0x1004] ∧ keepsRam s t ∧ t = { s with regs := t.regs, tb := t.tb, mill := t.mill }) ∧
    (fFrameEn.ofWord v = 0 → s.flag fFrameEn = true → fTbSrc.ofWord v ≤ 3 → fTbPort.ofWord v ≤ 4 →
      ∃ t, exec (.frameDisable 0 v) s = .next t ∧ t.reg kTbCtrl = v &&& 0xF177 ∧ t.get fTbState = s.tbStateAfter v ∧ t.tb.pendPeriod = none ∧ t.tb.applyAt = none ∧
        t.tb.slots = [] ∧ t.flag fPeriodPending = false ∧ keepsRegs s t [kTbCtrl, 0x1004] ∧ keepsRam s t ∧
        t = { s with regs := t.regs, tb := t.tb, mill := t.mill }) ∧
    ((fFrameEn.ofWord v = 1 ↔ s.flag fFrameEn = true) → (fTbSrc.ofWord v ≠ s.get fTbSrc ∨ fTbPort.ofWord v ≠ s.get fTbPort) → fTbSrc.ofWord v ≤ 3 → fTbPort.ofWord v ≤ 4 →
      ∃ t, exec (.tbSourceChange 0 v) s = .next t ∧ t.reg kTbCtrl = v &&& 0xF177 ∧ t.get fTbState = s.tbStateAfter v ∧ keepsRegs s t [kTbCtrl, 0x1004] ∧ keepsRam s t ∧
        t = { s with regs := t.regs, tb := t.tb }) ∧
    (s.flag fFrameEn = false → ∃ t, exec (.tbSet 0 v) s = .next t ∧ t.tb.ns = BitVec.append v (s.loFor 0 0x1014 0) ∧ t.tb.frac = 0 ∧
        t.tb.voidWindow = true ∧ t = { s with tb := { s.tb with ns := t.tb.ns, frac := 0, voidWindow := true }, loHeld := Tbl.drop s.loHeld 0x1014 }) ∧
    (16666666 ≤ v.toNat → v.toNat ≤ 100000000 → s.flag fFrameEn = true → s.tb.applyAt = none →
      ∃ t, exec (.tbFramePeriodWrite 0 v) s = .next t ∧ t.tb = { s.tb with pendPeriod := some v } ∧ t.flag fPeriodPending = true ∧
        t.period = s.period ∧ keepsRegs s t [0x1004] ∧ keepsRam s t ∧ t = { s with regs := t.regs, tb := t.tb }) ∧
    (16666666 ≤ v.toNat → v.toNat ≤ 100000000 → s.flag fFrameEn = false → (∀ k, k < 8 → s.flag (fFdlEn k) = true → s.get (fFdlOffset k) * 1000 < 2 * v.toNat) →
      ∃ t, exec (.tbFramePeriodWrite 0 v) s = .next t ∧ t.reg kFramePeriod = v ∧ OnlyRegs s t [kFramePeriod]) ∧
    (∀ p : Word, s.tb.applyAt = none → s.tb.pendPeriod = some p → 2 ≤ (v - s.reg kFrameNum).toNat → (v - s.reg kFrameNum).toNat ≤ 1000000 →
      (∀ k, k < 8 → s.flag (fFdlEn k) = true → s.get (fFdlOffset k) * 1000 < 2 * p.toNat) →
      ∃ t, exec (.tbFrameApplyWrite 0 v) s = .next t ∧ t.reg kFrameApply = v ∧ t.tb = { s.tb with applyAt := some v } ∧
        keepsRegs s t [kFrameApply] ∧ keepsRam s t ∧ t = { s with regs := t.regs, tb := t.tb }) ∧
    (∀ k : Fin 8, ((fFdlEn k.val).ofWord v = 1 → 100 ≤ (fFdlOffset k.val).ofWord v ∧ (fFdlOffset k.val).ofWord v * 1000 < 2 * s.period) →
      ∃ t, exec (.tbFdlCfgWrite 0 k v) s = .next t ∧ t.get (fFdlOffset k.val) = (fFdlOffset k.val).ofWord v ∧
        t.get (fFdlEn k.val) = (fFdlEn k.val).ofWord v ∧ t.get (fFdlPart k.val) = (fFdlPart k.val).ofWord v ∧
        t.get (fFdlMode k.val) = (if (fFdlPart k.val).ofWord v = s.perc then 0 else (fFdlMode k.val).ofWord v) ∧
        OnlyRegs s t [0x1100 + 16 * k.val])

/-- For the physical function: a period outside 16,666,666 to 100,000,000, a period while an apply is accepted, a SRC above 3 or a PORT above
4, a TB_SET while frames run, an apply while one is accepted, a holdover limit outside 1 to 3,600, an epoch while frames run, and an
enabled deadline offset below 100 us or not less than twice the period leave every register and the Timebase, and set REJECTED (R78). A
pair's write also consumes the held low word (R16). -/
def Obligations.TimebaseRejectsABreachOfARange : Prop :=
  ∀ (s : State) (v : Word), State.Ok s → s.turnsAway 0 = false →
    ((v.toNat < 16666666 ∨ 100000000 < v.toNat ∨ (s.flag fFrameEn = true ∧ s.tb.applyAt ≠ none)) →
      ∃ t, exec (.tbFramePeriodWrite 0 v) s = .next t ∧ t.flag fTbRejected = true ∧ OnlyRegs s t [0x1004]) ∧
    ((3 < fTbSrc.ofWord v ∨ 4 < fTbPort.ofWord v) → fFrameEn.ofWord v = 1 → s.flag fFrameEn = false →
      ∃ t, exec (.frameEnable 0 v) s = .next t ∧ t.flag fTbRejected = true ∧ OnlyRegs s t [0x1004]) ∧
    (s.flag fFrameEn = true → ∃ t, exec (.tbSet 0 v) s = .next t ∧ t.flag fTbRejected = true ∧ keepsRegs s t [0x1004] ∧ keepsRam s t ∧
      t = { s with regs := t.regs, loHeld := Tbl.drop s.loHeld 0x1014 }) ∧
    (s.tb.applyAt ≠ none → ∃ t, exec (.tbFrameApplyWrite 0 v) s = .next t ∧ t.flag fTbRejected = true ∧ OnlyRegs s t [0x1004]) ∧
    (∀ k : Fin 8, (fFdlEn k.val).ofWord v = 1 → ((fFdlOffset k.val).ofWord v < 100 ∨ 2 * s.period ≤ (fFdlOffset k.val).ofWord v * 1000) →
      ∃ t, exec (.tbFdlCfgWrite 0 k v) s = .next t ∧ t.flag fTbRejected = true ∧ OnlyRegs s t [0x1004]) ∧
    ((v.toNat % 4096 = 0 ∨ 3600 < v.toNat % 4096) → ∃ t, exec (.registerWrite 0 0x1020 v) s = .next t ∧ t.flag fTbRejected = true ∧ OnlyRegs s t [0x1004]) ∧
    (s.flag fFrameEn = true → ∃ t, exec (.pairHiWrite 0 0x1044 v) s = .next t ∧ t.flag fTbRejected = true ∧ keepsRegs s t [0x1004] ∧ keepsRam s t ∧
      t = { s with regs := t.regs, loHeld := Tbl.drop s.loHeld 0x1044 })

/-- With a valid HCB and Hedgerow alive, a field evaluation sets PF_INTRUDED and WF_INTRUDED to whether each field is intruded or unknown; the
command becomes STOP in HELD, for the protective field, and in RECOVERY after FALLBACK_MAX, else CREEP for the warning field and in
RECOVERY, else CLEAR; STOP leaves Hedgerow's driver on; and a rising protective-field intrusion is counted. Nothing changes but the HDG_
registers, Hedgerow's record of what it saw, and the vehicle buffers. -/
def Obligations.HedgerowCommandFollowsModeAndFields : Prop :=
  ∀ (s : State) (us : Nat) (h : Hcb), State.Ok s → s.hdg.hcb = some h → s.hdg.alive = true → ∃ t, exec (.fieldEvaluation us) s = .next t ∧
    t.get fPfIntruded = b2n (fieldIntruded h s.hdg.inputs h.pf) ∧ t.get fWfIntruded = b2n (fieldIntruded h s.hdg.inputs h.wf) ∧
    t.get fHdgCmd = (if s.get fHdgMode = 2 ∨ fieldIntruded h s.hdg.inputs h.pf = true ∨ (s.get fHdgMode = 1 ∧ s.flag fFbTimeout = true) then cmdStop
      else if fieldIntruded h s.hdg.inputs h.wf = true ∨ s.get fHdgMode = 1 then cmdCreep else cmdClear) ∧
    (t.get fHdgCmd = cmdStop → t.flag fStopDrive = true) ∧ (s.flag fStopDrive = true → t.flag fStopDrive = true) ∧
    (fieldIntruded h s.hdg.inputs h.pf = true → s.flag fPfIntruded = false → t.reg kHdgIntrude = (s.bump kHdgIntrude).reg kHdgIntrude) ∧
    t.get fHdgMode = s.get fHdgMode ∧ keepsRegs s t [0x8000, kHdgIntrude, kHdgWarn, 0x8024, kHdgLastStop, kHdgLastStop + 4] ∧ keepsRam s t ∧
    t = { s with regs := t.regs, hdg := { s.hdg with seen := s.hdg.inputs }, veh := t.veh }

/-- The first HCB read after boot begins puts a valid block in force and sets HCB_VALID; an invalid one is a HELD cause. A sound
packet of one input that its program accepts has the program's points and sweeps counted into that input; an IPv4 fragment without a UDP
header damages every input of its MAC; one that the offered rate makes Hedgerow drop counts an overrun and leaves its input without a covered
cell until a clean sweep; one that belongs to no input changes nothing. An input that has had no clean sweep for its timeout loses its coverage and INPUT_OK. After RELEASE_MS without STOP
outside HELD the driver turns off, and no other register changes. RECOVERY beyond FALLBACK_MAX sets FB_TIMEOUT and updates the command. -/
def Obligations.HedgerowInputsAndTimersAct : Prop :=
  ∀ s : State, State.Ok s →
    (∀ h, s.hdg.read = false → s.boot.begun = true → hcbOf (s.boot.flash.image s.boot.flash.bank 4) = some h → ∃ t, exec .hedgerowHcbLoad s = .next t ∧
      t.hdg = { s.hdg with read := true, hcb := some h, inputs := [] } ∧ t.flag fHcbValid = true ∧ t.reg 0x8004 = BitVec.ofNat 32 (h.version * 65536 + h.length) ∧
      t.reg 0x8008 = BitVec.ofNat 32 h.crc ∧ keepsRegs s t [0x8000, 0x8004, 0x8008, 0x800C] ∧ keepsRam s t ∧ t = { s with regs := t.regs, hdg := t.hdg }) ∧
    (s.hdg.read = false → s.boot.begun = true → hcbOf (s.boot.flash.image s.boot.flash.bank 4) = none → ∃ t, exec .hedgerowHcbLoad s = .next t ∧
      (s.hdg.alive = true → t.get fHdgMode = 2) ∧ (s.get fHdgHeldCause = 0 → t.get fHdgHeldCause = 0xA305) ∧
      t.reeve = { s.reeve with events := s.reeve.events ++ [⟨0xA305, srcOf 8 0 0, 0, .held, []⟩] }) ∧
    (∀ h st binds mac pkt r (i : Fin 4), s.hdg.hcb = some h → s.hdg.alive = true → hdgInputsOf h.streams.length binds mac pkt = [i.val] →
      h.streams[i.val]? = some st → udpSound pkt = true →
      parserRunAll (fun j => st.prog[j]?) (fun j => st.prog[j]?) s.free 65536 (ParserRun.start (s.hdgInput i.val).g (s.hdgInput i.val).expected 0 pkt.payload) = .accept r →
      exec (.hedgerowPacket binds mac pkt false) s = .next ((s.setHdgInput i.val (r.effects.foldl (HdgInput.effect h st) { s.hdgInput i.val with g := r.g, expected := r.expected })).drawn)) ∧
    (∀ h binds (mac : Fin 4) pkt (i : Fin 4) b, s.hdg.hcb = some h → s.hdg.alive = true → pkt.udpHeader = false → pkt.fragment = true → pkt.tags ≤ 1 → i.val < h.streams.length →
      binds[i.val]? = some b → b.mac = mac → ∃ t, exec (.hedgerowPacket binds mac pkt false) s = .next t ∧ (t.hdgInput i.val).covered = false ∧
        (t.hdgInput i.val).counts = [] ∧ (t.hdgInput i.val).dirty = true ∧ t.flag (fInputOk i.val) = false) ∧
    (∀ h binds mac pkt, s.hdg.hcb = some h → s.hdg.alive = true → hdgInputsOf h.streams.length binds mac pkt = [0] → ∃ t, exec (.hedgerowPacket binds mac pkt true) s = .next t ∧
      t.flag (fInputOk 0) = false ∧ (t.hdgInput 0).covered = false ∧ (t.hdgInput 0).counts = [] ∧ (t.hdgInput 0).dirty = true ∧
      t.reg kHdgOverrun = (s.bump kHdgOverrun).reg kHdgOverrun ∧ t.reg kHdgInputLoss = (s.bump kHdgInputLoss).reg kHdgInputLoss ∧
      keepsRegs s t [0x8000, kHdgOverrun, kHdgInputLoss] ∧ keepsRam s t ∧ t = { s with regs := t.regs, hdg := t.hdg }) ∧
    (∀ h mac pkt, s.hdg.hcb = some h → s.hdg.alive = true → exec (.hedgerowPacket [] mac pkt false) s = .next s) ∧
    (∀ h (i : Fin 4) st ms, s.hdg.hcb = some h → s.hdg.alive = true → h.streams[i.val]? = some st → st.timeoutMs ≤ ms → (s.hdgInput i.val).covered = true →
      ∃ t, exec (.hedgerowInputTimeout i ms) s = .next t ∧ (t.hdgInput i.val).covered = false ∧ t.flag (fInputOk i.val) = false ∧
        t.reg kHdgInputLoss = (s.bump kHdgInputLoss).reg kHdgInputLoss ∧ keepsRegs s t [0x8000, kHdgInputLoss] ∧ keepsRam s t ∧ t = { s with regs := t.regs, hdg := t.hdg }) ∧
    (∀ h ms, s.hdg.hcb = some h → s.hdg.alive = true → h.releaseMs ≤ ms → s.get fHdgCmd ≠ cmdStop → s.get fHdgMode ≠ 2 →
      ∃ t, exec (.hedgerowReleaseExpiry ms) s = .next t ∧ t.flag fStopDrive = false ∧ t.get fHdgCmd = s.get fHdgCmd ∧ OnlyRegs s t [0x8000]) ∧
    (∀ h ms, s.hdg.hcb = some h → s.hdg.alive = true → s.get fHdgMode = 1 → h.fallbackMax < ms → ∃ t, exec (.fallbackMaxExpiry ms) s = .next t ∧
      t.flag fFbTimeout = true ∧ t.get fHdgCmd = cmdStop ∧ t.flag fStopDrive = true ∧ keepsRegs s t [0x8000, kHdgLastStop, kHdgLastStop + 4] ∧ keepsRam s t ∧
      t = { s with regs := t.regs, veh := t.veh })

/-- The release expiry clears Hedgerow's SAFE_STOP_N driver only where the command has not been STOP, for RELEASE_MS at least, and the mode is
not HELD; in every other case it changes nothing (R85). -/
def Obligations.HedgerowHoldsUntilItMayRelease : Prop :=
  ∀ (s : State) (ms : Nat), State.Ok s → ∃ t, exec (.hedgerowReleaseExpiry ms) s = .next t ∧
    ((s.get fHdgCmd = cmdStop ∨ s.get fHdgMode = 2 ∨ (∀ h, s.hdg.hcb = some h → ms < h.releaseMs)) → t = s) ∧
    (s.flag fStopDrive = true → t.flag fStopDrive = false → s.get fHdgCmd ≠ cmdStop ∧ s.get fHdgMode ≠ 2)

/-- A heartbeat from the Reeve sets REEVE_OK; one from Hedgerow lets the Reeve hear it. Three ms without the Reeve's raise 0xA304, a lockstep
mismatch 0xA306: the Reeve acts no more, Hedgerow enters HELD and drives the line. Three ms without Hedgerow's, or a failure of
Hedgerow's own lockstep or SRAM, raise 0xA303 and turn the Reeve's driver on. A supply fault of 10 us turns Hedgerow's driver on and stops
it. A diagnostic's test that does not show what it must raises 0xA121, an overdue one 0xA122, both as HELD; one that passes counts toward a
pass that is due and changes nothing else but a driver's pulse; a diagnostic of a block that is off in Banked is neither tested nor overdue,
and its window begins again at wake completion. -/
def Obligations.HeartbeatLossesReachTheSafeState : Prop :=
  ∀ s : State, State.Ok s →
    (s.reeve.alive = true → ∃ t, exec (.heartbeatSend true) s = .next t ∧ t.flag fReeveOk = true ∧ OnlyRegs s t [0x8000]) ∧
    (s.reeve.alive = true → s.hdg.alive = true → exec (.heartbeatSend false) s = .next { s with reeve := { s.reeve with hearsHedgerow := true } }) ∧
    (∀ ms, 3 ≤ ms → s.hdg.alive = true → s.flag fReeveOk = true → ∃ t, exec (.reeveHeartbeatLoss ms) s = .next t ∧ t.flag fReeveOk = false ∧
      t.get fHdgMode = 2 ∧ t.get fHdgCmd = cmdStop ∧ t.flag fStopDrive = true ∧
      t.reeve = { s.reeve with alive := false, events := s.reeve.events ++ [⟨0xA304, srcOf 8 0 0, 0, .held, []⟩] } ∧
      keepsRegs s t [0x8000, 0x8030, kHdgLastStop, kHdgLastStop + 4] ∧ keepsRam s t ∧ t = { s with regs := t.regs, reeve := t.reeve, veh := t.veh }) ∧
    (s.reeve.alive = true → s.hdg.alive = true → ∃ t, exec .reeveLockstepMismatch s = .next t ∧ t.flag fReeveOk = false ∧ t.get fHdgMode = 2 ∧
      t.get fHdgCmd = cmdStop ∧ t.flag fStopDrive = true ∧
      t.reeve = { s.reeve with alive := false, events := s.reeve.events ++ [⟨0xA306, srcOf 9 0 0, 0, .held, []⟩] } ∧
      keepsRegs s t [0x8000, 0x8030, kHdgLastStop, kHdgLastStop + 4] ∧ keepsRam s t ∧ t = { s with regs := t.regs, reeve := t.reeve, veh := t.veh }) ∧
    (∀ loss, s.hdgFails loss = true → s.reeve.alive = true → s.reeve.hearsHedgerow = true → ∃ t, exec (.hedgerowHeartbeatLoss loss) s = .next t ∧ t.flag fDriveOther = true ∧
      t.reeve = { s.reeve with hearsHedgerow := false, events := s.reeve.events ++ [⟨0xA303, srcOf 9 0 0, 0, .held, []⟩] } ∧
      (loss = .lockstep ∨ loss = .sramEcc → t.hdg.alive = false) ∧
      keepsRegs s t [0x40810] ∧ keepsRam s t ∧ t = { s with regs := t.regs, reeve := t.reeve, veh := t.veh, hdg := t.hdg }) ∧
    (∀ us, 10 ≤ us → s.hdg.alive = true → ∃ t, exec (.hdgSupplyFault us) s = .next t ∧ t.flag fStopDrive = true ∧ t.hdg = { s.hdg with alive := false } ∧
      keepsRegs s t [0x8000] ∧ keepsRam s t ∧ t = { s with regs := t.regs, hdg := t.hdg, veh := t.veh }) ∧
    (∀ d flagged corrected, s.testRuns d = true → ∃ t, exec (.selfTestRun d flagged corrected) s = .next t ∧
      t.emitted = s.emitted ++ (match d with | .stopDriver reeve => [.stopPulse reeve] | _ => []) ∧
      t.reeve.events = s.reeve.events ++ (if diagnosticPasses d flagged corrected then [] else [⟨0xA121, srcOf 9 0 0, 0, .held, []⟩]) ∧
      (diagnosticPasses d flagged corrected = true → s.testsDue = true → d ∈ t.boot.tested) ∧ (s.testsDue = false → t.boot = s.boot) ∧
      t = { s with emitted := t.emitted, reeve := { s.reeve with events := t.reeve.events }, boot := { s.boot with tested := t.boot.tested } }) ∧
    (∀ d flagged corrected, s.skipsTest d = true → exec (.selfTestRun d flagged corrected) s = .next s) ∧
    (∀ d ms, s.skipsTest d = true → exec (.selfTestOverdue d ms) s = .next s) ∧
    (∀ d ms, 2000 < ms → s.reeve.alive = true → d ∈ s.diagnostics → s.skipsTest d = false → s.get fPwrState = pwrRun → s.power.wokenAt = none →
      exec (.selfTestOverdue d ms) s = .next (s.heldFault 0xA122 (srcOf 9 0 0))) ∧
    (∀ d ms w, diagnosticCore d ≠ none → s.power.wokenAt = some w → s.tb.ticks < w + ms * 25000 → exec (.selfTestOverdue d ms) s = .next s)

/-- A due or periodic Safe-Stop takes the next sequence number and fills the CAN 0 buffer with the Reeve's command, mode, reason and index
under its CRC-8, or the fallover buffer while CAN 0 is down. A Perception Status takes the place of an unsent one, which counts as
abandoned. A completed CAN 0 transmission sends Hedgerow's Safe-Stop where no Reeve one waits, and lowers the transmit error counter; where both
wait, the one of the larger command goes first, Hedgerow's on a tie, and a Perception Status after them. CAN 1 sends the fallover buffer first,
then the pending host frame of the lowest identifier. A host frame of CAN 1 is requested, withdrawn, or abandoned at its timeout through its status; a Safe-Stop that waits 5 ms falls over to CAN
1 and raises 0x7103. -/
def Obligations.SafeStopMessagesAreFilledAndSent : Prop :=
  ∀ s : State, State.Ok s →
    (s.reeve.alive = true → ∃ t, exec .safeStopPeriodic s = .next t ∧ t.get fSsSeq = (s.get fSsSeq + 1) % 256 ∧
      t.veh = (if s.can0Down then { s.veh with fillDue := false, fallover := some (t.safeStopBytes false true (s.safeStopCommand false) (t.get fSsSeq)) }
        else { s.veh with fillDue := false, reeveBuf := some (t.safeStopBytes false false (s.safeStopCommand false) (t.get fSsSeq)) }) ∧
      keepsRegs s t [0x40810] ∧ keepsRam s t ∧ t = { s with regs := t.regs, veh := t.veh }) ∧
    (s.reeve.alive = true → s.veh.fillDue = true → exec .safeStopQueue s = exec .safeStopPeriodic s ∧ ∃ t, exec .safeStopQueue s = .next t ∧ t.veh.fillDue = false) ∧
    (∀ n, s.can0Down = false → s.reeve.alive = true → ∃ t, exec (.perceptionStatusSend n) s = .next t ∧
      t.veh = { s.veh with psBuf := some (s.perceptionStatus (s.verdictOf n)), psSeq := (s.veh.psSeq + 1) % 256 } ∧
      t.reg (kTxAbandon 0) = (if s.veh.psBuf.isSome then (s.bump (kTxAbandon 0)).reg (kTxAbandon 0) else s.reg (kTxAbandon 0)) ∧
      keepsRegs s t [kTxAbandon 0] ∧ keepsRam s t ∧ t = { s with regs := t.regs, veh := t.veh, draws := s.draws + 1 }) ∧
    (∀ bs, s.canOn 0 = true → s.veh.hdgBuf = some bs → s.veh.reeveBuf = none → ∃ t, exec (.canTxComplete 0 false) s = .next t ∧
      t.emitted = s.emitted ++ [.canFrame 0 false (s.safeStopFrame bs)] ∧ t.veh.hdgBuf = none ∧ t.veh.sentSince = true ∧ t.get (fTec 0) = s.get (fTec 0) - 1 ∧
      keepsRegs s t [0x40010, 0x40018, 0x40810] ∧ keepsRam s t ∧
      t = { s with regs := t.regs, emitted := t.emitted, reeve := t.reeve, veh := { s.veh with hdgBuf := none, sentSince := true } }) ∧
    (∀ f veh, s.canOn 0 = true → s.can0Next = some (f, veh) → ∃ t, exec (.canTxComplete 0 false) s = .next t ∧ t.emitted = s.emitted ++ [s.onBus 0 f] ∧ t.veh = veh ∧
      t.get (fTec 0) = s.get (fTec 0) - 1 ∧ keepsRegs s t [0x40010, 0x40018, 0x40810] ∧ keepsRam s t ∧
      t = { s with regs := t.regs, emitted := t.emitted, reeve := t.reeve, veh := veh }) ∧
    (∀ bs, s.canOn 1 = true → s.can1Sends = true → s.veh.fallover = some bs → ∃ t, exec (.canTxComplete 1 false) s = .next t ∧
      t.emitted = s.emitted ++ [s.onBus 1 (s.safeStopFrame bs)] ∧ t.veh = { s.veh with fallover := none } ∧ t.reg kFallover = (s.bump kFallover).reg kFallover ∧
      t.get (fTec 1) = s.get (fTec 1) - 1 ∧ keepsRegs s t [kFallover, 0x40410, 0x40418, 0x40810] ∧ keepsRam s t ∧
      t = { s with regs := t.regs, emitted := t.emitted, reeve := t.reeve, veh := t.veh }) ∧
    (∀ b : Fin 16, s.canOn 1 = true → s.can1Sends = true → s.veh.fallover = none → s.get (fTxbStatus b.val) = 1 →
      (∀ i : Fin 16, i ≠ b → s.get (fTxbStatus i.val) = 1 → (s.reg (kTxb b.val 0)).toNat % 2 ^ 29 < (s.reg (kTxb i.val 0)).toNat % 2 ^ 29) →
      ∃ t, exec (.canTxComplete 1 false) s = .next t ∧ t.emitted = s.emitted ++ [s.onBus 1 (s.txbFrame b.val)] ∧ t.get (fTxbStatus b.val) = 2 ∧
        t.flag (fTxbReq b.val) = false ∧ t.get (fTec 1) = s.get (fTec 1) - 1 ∧ keepsRegs s t [kTxb b.val 4, kTxb b.val 8, 0x40410, 0x40418, 0x40810] ∧ keepsRam s t ∧
        t = { s with regs := t.regs, emitted := t.emitted, reeve := t.reeve }) ∧
    (∀ (fn : Fn) (b : Fin 16) v, s.turnsAway fn = false → (fn = 0 ∨ fn.val = s.perc) → bitAt v.toNat 31 = true →
      ∃ t, exec (.canTxRequest fn b v) s = .next t ∧ t.get (fTxbStatus b.val) = 1 ∧ t.flag (fTxbReq b.val) = true ∧ OnlyRegs s t [kTxb b.val 4, kTxb b.val 8]) ∧
    (∀ (fn : Fn) (b : Fin 16) v, s.turnsAway fn = false → (fn = 0 ∨ fn.val = s.perc) → bitAt v.toNat 30 = true →
      ∃ t, exec (.canTxAbort fn b v) s = .next t ∧ t.get (fTxbStatus b.val) = (if s.get (fTxbStatus b.val) = 1 then 0 else s.get (fTxbStatus b.val)) ∧
        OnlyRegs s t [kTxb b.val 4, kTxb b.val 8]) ∧
    (∀ (b : Fin 16) v, s.turnsAway 0 = false → bitAt v.toNat 31 = true → ∃ t, exec (.canTxRequest 0 b v) s = .next t ∧ t.get (fTxbStatus b.val) = 1 ∧
      t.reg (kTxb b.val 4) = v &&& 0xC00F0300 ∧ OnlyRegs s t [kTxb b.val 4, kTxb b.val 8]) ∧
    (∀ (b : Fin 16) v, s.turnsAway 0 = false → bitAt v.toNat 30 = true → s.get (fTxbStatus b.val) = 1 → ∃ t, exec (.canTxAbort 0 b v) s = .next t ∧
      t.get (fTxbStatus b.val) = 0 ∧ t.flag (fTxbReq b.val) = false ∧ t.flag (fTxbAbort b.val) = true ∧ OnlyRegs s t [kTxb b.val 4, kTxb b.val 8]) ∧
    (∀ (b : Fin 16) ms, s.get (fTxbStatus b.val) = 1 → s.get (fTxbTmo b.val) ≤ ms → ∃ t, exec (.canTxTimeout b ms) s = .next t ∧ t.get (fTxbStatus b.val) = 3 ∧ t.flag (fTxbReq b.val) = false ∧
      t.reg (kTxAbandon 1) = (s.bump (kTxAbandon 1)).reg (kTxAbandon 1) ∧ OnlyRegs s t [kTxb b.val 4, kTxb b.val 8, kTxAbandon 1]) ∧
    (∀ hedgerow bs ms, (if hedgerow then s.veh.hdgBuf else s.veh.reeveBuf) = some bs → 5 ≤ ms →
      exec (.safeStopSupervisionExpiry hedgerow ms) s = .next (({ s with veh := { s.veh with fallover := some (withFallover bs) } } : State).report 0x7103 (srcCan 0)))

/-- A counted transmit error raises TEC by 8 while it stays error-active, and past 255 puts the controller into bus-off, which counts and, for
CAN 0, turns the Reeve's driver on; a receive error raises REC by 1, or by 8. The end of bus-off recovery clears both counters and the
state. HOLD_MS after the last bus-off is noted. A filtered frame enters the FIFO with its identifier, control and data, and a pop removes
the head; a remote frame is counted as other, and one with an identifier of the device's own as a violation 0x7105 besides. The controller's state
follows its counters: passive above 127. Data-phase errors beyond the threshold within 1 s lower the rung with 0x7107. RESTORE returns a
controller to rung 0. A driven line read high for 10 us raises 0x7110 as HELD; an undriven line read low
raises 0x7111 as REPORT. -/
def Obligations.CanErrorsAndReceptionAct : Prop :=
  ∀ s : State, State.Ok s →
    (∀ c : Fin 2, s.canOn c.val = true → s.get (fCanState c.val) = 0 → s.get (fTec c.val) + 8 ≤ 127 → s.get (fRec c.val) ≤ 127 → ∃ t, exec (.canTxError c false false) s = .next t ∧
      t.get (fTec c.val) = s.get (fTec c.val) + 8 ∧ t.get (fCanState c.val) = 0 ∧ OnlyRegs s t [0x40010 + 0x400 * c.val]) ∧
    (s.canOn 0 = true → s.reeve.alive = true → 247 < s.get (fTec 0) → s.veh.busoffs = [] → ∃ t, exec (.canTxError 0 false false) s = .next t ∧ t.get (fCanState 0) = 2 ∧
      t.get (fTec 0) = 255 ∧ t.flag fDriveCan = true ∧ t.reg (kBusoff 0) = (s.bump (kBusoff 0)).reg (kBusoff 0) ∧ t.veh.recovering0 = true ∧ t.veh.fallover.isSome = true ∧
      keepsRegs s t [0x40010, kBusoff 0, 0x40810] ∧ keepsRam s t ∧ t = { s with regs := t.regs, reeve := t.reeve, veh := t.veh }) ∧
    (∀ (c : Fin 2) by8, s.canOn c.val = true → s.get (fCanState c.val) = 0 → s.get (fTec c.val) ≤ 127 → s.get (fRec c.val) + 8 ≤ 127 → ∃ t, exec (.canReceiveError c by8) s = .next t ∧
      t.get (fRec c.val) = s.get (fRec c.val) + (if by8 then 8 else 1) ∧ OnlyRegs s t [0x40010 + 0x400 * c.val]) ∧
    (s.veh.recovering1 = true → s.flag fDriveCan = false → ∃ t, exec (.canBusoffRecoveryDone 1) s = .next t ∧ t.get (fTec 1) = 0 ∧ t.get (fRec 1) = 0 ∧ t.get (fCanState 1) = 0 ∧
      keepsRegs s t [0x40410] ∧ keepsRam s t ∧ t = { s with regs := t.regs, veh := { s.veh with recovering1 := false } }) ∧
    (∀ ms, s.get ⟨0x4080C, 16, 14⟩ ≤ ms → s.reeve.alive = true → ∃ t, exec (.canHoldExpiry ms) s = .next t ∧ t.veh = { s.veh with holdOver := true } ∧
      (s.flag fDriveCan = true → s.get (fCanState 0) = 0 → s.flag (fCanFailed 0) = false → s.veh.sentSince = true → t.flag fDriveCan = false) ∧
      keepsRegs s t [0x40810] ∧ keepsRam s t ∧ t = { s with regs := t.regs, veh := t.veh }) ∧
    (∀ f : CanFrame, s.canOn 1 = true → s.get (fCanState 1) = 0 → s.get (fTec 1) ≤ 127 → s.get (fRec 1) ≤ 127 → f.remote = false → s.canForged f = false →
      (List.range 16).any (fun i => s.filterPasses i f) = true → s.veh.rx.length < 64 → ∃ t e, exec (.canFrameReceive 1 f false s.now) s = .next t ∧
        t.veh = { s.veh with rx := s.veh.rx ++ [e] } ∧ e.id = canIdWord f ∧ e.ctl = canCtlWord f ∧ e.data = f.data ∧ t.get (fRec 1) = s.get (fRec 1) - 1 ∧
        keepsRegs s t [0x40410, kRxfStatus] ∧ keepsRam s t ∧ t = { s with regs := t.regs, veh := t.veh, draws := t.draws }) ∧
    (∀ v, s.turnsAway 0 = false → bitAt v.toNat 0 = true → ∃ t, exec (.canRxfPop 0 v) s = .next t ∧ t.veh = { s.veh with rx := s.veh.rx.drop 1 } ∧
      t.reg kRxfStatus = BitVec.ofNat 32 (s.veh.rx.length - 1) ∧ keepsRegs s t [kRxfStatus] ∧ keepsRam s t ∧ t = { s with regs := t.regs, veh := t.veh }) ∧
    (∀ v, s.turnsAway 0 = false → bitAt v.toNat 30 = true → s.flag fLock = true → ∃ t, exec (.canRateRestore 0 0 v) s = .next t ∧ t.get (fRung 0) = 0 ∧ t.flag (fRestore 0) = true ∧ OnlyRegs s t [0x40000, 0x40010]) ∧
    (∀ c : Fin 2, s.canOn c.val = true → s.get (fTec c.val) + 8 ≤ 255 → ∃ t, exec (.canTxError c false false) s = .next t ∧ t.get (fTec c.val) = s.get (fTec c.val) + 8 ∧
      t.get (fCanState c.val) = canStateBy (s.get (fCanState c.val)) (s.get (fTec c.val) + 8) (s.get (fRec c.val)) ∧
      keepsRegs s t [0x40010 + 0x400 * c.val, kPassive c.val, 0x40810] ∧ keepsRam s t ∧ t = { s with regs := t.regs, reeve := t.reeve }) ∧
    (s.canOn 1 = true → 247 < s.get (fTec 1) → ∃ t, exec (.canTxError 1 false false) s = .next t ∧ t.get (fCanState 1) = 2 ∧ t.get (fTec 1) = 255 ∧
      t.reg (kBusoff 1) = (s.bump (kBusoff 1)).reg (kBusoff 1) ∧ t.veh = { s.veh with recovering1 := true } ∧
      t.reeve = { s.reeve with events := s.reeve.events ++ [⟨0x7104, srcCan 1, 0, .report, []⟩] } ∧ keepsRegs s t [0x40410, kBusoff 1] ∧ keepsRam s t ∧
      t = { s with regs := t.regs, reeve := t.reeve, veh := t.veh }) ∧
    (∀ (c : Fin 2) w, s.canOn c.val = true → s.get (fRung c.val) = 0 → Tbl.find s.veh.canErr c.val = some w → w.count ≠ 0 → s.tb.ticks ≤ w.tick + 25000000 →
      s.get (fCanThresh c.val) ≤ w.count → ∃ t, exec (.canTxError c true true) s = .next t ∧ t.get (fRung c.val) = 1 ∧ t.flag (fRestore c.val) = false ∧
        t.reeve = { s.reeve with events := s.reeve.events ++ [⟨0x7107, srcCan c.val, 0, .report, []⟩] } ∧ keepsRegs s t [0x40010 + 0x400 * c.val, kCanCtrl c.val] ∧
        keepsRam s t ∧ t = { s with regs := t.regs, reeve := t.reeve, veh := { s.veh with canErr := t.veh.canErr } }) ∧
    (∀ (c : Fin 2) by8, s.canOn c.val = true → ∃ t, exec (.canReceiveError c by8) s = .next t ∧ t.get (fRec c.val) = min 255 (s.get (fRec c.val) + (if by8 then 8 else 1)) ∧
      t.get (fCanState c.val) = canStateBy (s.get (fCanState c.val)) (s.get (fTec c.val)) (t.get (fRec c.val)) ∧
      keepsRegs s t [0x40010 + 0x400 * c.val, kPassive c.val, 0x40810] ∧ keepsRam s t ∧ t = { s with regs := t.regs, reeve := t.reeve }) ∧
    (∀ c : Fin 2, (if c = 0 then s.veh.recovering0 else s.veh.recovering1) = true → ∃ t, exec (.canBusoffRecoveryDone c) s = .next t ∧ t.get (fTec c.val) = 0 ∧
      t.get (fRec c.val) = 0 ∧ t.get (fCanState c.val) = 0 ∧ t.veh = (if c = 0 then { s.veh with recovering0 := false } else { s.veh with recovering1 := false }) ∧
      keepsRegs s t [0x40010 + 0x400 * c.val, 0x40810] ∧ keepsRam s t ∧ t = { s with regs := t.regs, veh := t.veh }) ∧
    (∀ (c : Fin 2) (f : CanFrame) tm, s.canOn c.val = true → ∃ t, exec (.canFrameReceive c f false tm) s = .next t ∧
      (s.get (fRec c.val) ≤ 127 → t.get (fRec c.val) = s.get (fRec c.val) - 1) ∧
      (127 < s.get (fRec c.val) → 119 ≤ t.get (fRec c.val) ∧ t.get (fRec c.val) ≤ 127) ∧
      (f.remote = true → t.reg (kCanRxOther c.val) = (s.bump (kCanRxOther c.val)).reg (kCanRxOther c.val)) ∧
      (s.canForged f = true → t.reg (kCanViol c.val) = (s.bump (kCanViol c.val)).reg (kCanViol c.val) ∧ ∃ e ∈ t.reeve.events, e.code = 0x7105 ∧ e.disp = .violation) ∧
      (f.remote = true ∨ c = 0 ∨ (∀ i, i < 16 → s.filterPasses i f = false) → t.veh = s.veh) ∧
      (f.remote = false → c = 1 → (∃ i, i < 16 ∧ s.filterPasses i f = true) →
        (s.veh.rx.length < 64 → ∃ e : RxEntry, t.veh = { s.veh with rx := s.veh.rx ++ [e] } ∧ e.id = canIdWord f ∧ e.ctl = canCtlWord f ∧ e.data = f.data) ∧
        (64 ≤ s.veh.rx.length → t.veh = s.veh ∧ t.reg kRxfOvf = (s.bump kRxfOvf).reg kRxfOvf)) ∧
      keepsRegs s t [0x40010 + 0x400 * c.val, kPassive c.val, 0x40810, kCanRxOther c.val, kCanViol c.val, kRxfStatus, kRxfOvf] ∧ keepsRam s t ∧
      t = { s with regs := t.regs, reeve := t.reeve, veh := t.veh, tb := t.tb, draws := t.draws }) ∧
    (∀ (fn : Fn) v, s.turnsAway fn = false → (fn = 0 ∨ fn.val = s.perc) → bitAt v.toNat 0 = true → ∃ t, exec (.canRxfPop fn v) s = .next t ∧
      t.veh = { s.veh with rx := s.veh.rx.drop 1 } ∧ t.reg kRxfStatus = BitVec.ofNat 32 (s.veh.rx.length - 1) ∧ keepsRegs s t [kRxfStatus] ∧ keepsRam s t ∧
      t = { s with regs := t.regs, veh := t.veh }) ∧
    (∀ (c : Fin 2) v, s.turnsAway 0 = false → bitAt v.toNat 30 = true → (c = 1 ∨ s.flag fLock = false) → (fCanThresh c.val).ofWord v ≠ 0 →
      ∃ t, exec (.canRateRestore 0 c v) s = .next t ∧ t.get (fRung c.val) = 0 ∧ t.flag (fRestore c.val) = true ∧ t.get (fCanThresh c.val) = (fCanThresh c.val).ofWord v ∧
        t.get (fCanEn c.val) = (fCanEn c.val).ofWord v ∧ OnlyRegs s t [kCanCtrl c.val, 0x40010 + 0x400 * c.val]) ∧
    (∀ us, 10 ≤ us → s.lineDriven = true → s.reeve.alive = true → exec (.safeStopReadbackFault us) s = .next (s.heldFault 0x7110 (srcCan 0))) ∧
    (s.lineDriven = false → s.reeve.alive = true → exec .safeStopExternalLow s = .next ((s.on fExtLow).report 0x7111 (srcCan 0)))

/-- Enabling a MAC sets ETH_CFG, leaves the link down and the floor at the whole mask; a full-duplex settle at a speed of the mask brings the
link up at that speed, any other raises 0x7204; a lost link counts and raises 0x7201. On an up link a sound accepted frame counts
RX_FRAMES, one that no consumer takes RX_OTHER besides, an ARP request for the MAC's own address is answered, a frame with a bad FCS counts
RX_FCS, an overflow RX_OVF, and a pause frame nothing. A time message goes out and counts;
an Announce that is served carries clockClass 6 in LOCKED, 7 in HOLDOVER and 248 otherwise, and one of the end station priority1 255, at the
places that IEEE 1588 gives them (log entry 135).
A rising edge held 60 ns is stamped within 8 ns, and wakes a BANKED device from a ball that PWR_WAKE_SRC names; one held under 50 ns counts
as a glitch. -/
def Obligations.EthernetMacsFollowTheirLinks : Prop :=
  ∀ s : State, State.Ok s →
    (∀ (m : Fin 5) v, s.turnsAway 0 = false → s.flag (fEthEn m.val) = false → (fEthEn m.val).ofWord v = 1 → (m.val < 4 → s.blocksOff = false) →
      ∃ t, exec (.ethEnable 0 m v) s = .next t ∧ t.reg (kEthCfg m.val) = v &&& ethCfgBits m.val ∧ t.flag (fEthLink m.val) = false ∧ t.get (fEthSpeed m.val) = 0 ∧
        t.get (fEthFloor m.val) = t.get (fSpeedMask m.val) ∧ keepsRegs s t [kEthCfg m.val, kEthStatus m.val] ∧ keepsRam s t ∧
        t.emitted = s.emitted ++ (if 4 ≤ m.val then [] else
          [.mdioAdvertise m.val ((fPhyAddr m.val).ofWord v) (v.getLsbD 30 == false) (if v.getLsbD 30 then [4, 9] else [16, 32]) ((fSpeedMask m.val).ofWord v)]) ∧
        t = { s with regs := t.regs, emitted := t.emitted, veh := { s.veh with ethErr := Tbl.drop s.veh.ethErr m.val } }) ∧
    (∀ (m : Fin 5) (b : Fin 5), s.flag (fEthEn m.val) = true → (m.val < 4 → s.blocksOff = false) → bitAt (s.get (fSpeedMask m.val)) b.val = true →
      (∃ t, exec (.ethLinkUp m b true) s = .next t ∧ t.flag (fEthLink m.val) = true ∧ t.get (fEthSpeed m.val) = speedCode m.val b.val ∧ OnlyRegs s t [kEthStatus m.val]) ∧
      (∃ t, exec (.ethLinkUp m b false) s = .next t ∧ t.flag (fEthLink m.val) = false ∧ OnlyRegsEvents s t [kEthStatus m.val] [⟨0x7204, srcEth m.val, 0, .report, []⟩])) ∧
    (∀ m : Fin 5, s.flag (fEthLink m.val) = true → ∃ t, exec (.ethLinkDown m) s = .next t ∧ t.flag (fEthLink m.val) = false ∧
      t.reg (kEthCnt m.val 5) = (s.bump (kEthCnt m.val 5)).reg (kEthCnt m.val 5) ∧ OnlyRegsEvents s t [kEthStatus m.val, kEthCnt m.val 5] [⟨0x7201, srcEth m.val, 0, .report, []⟩]) ∧
    (∀ (m : Fin 5) dst, s.flag (fEthLink m.val) = true →
      exec (.ethFrameReceive m dst .pause true false false) s = .next s ∧
      (∃ t, exec (.ethFrameReceive m dst .other true false true) s = .next t ∧ t.reg (kEthCnt m.val 2) = (s.bump (kEthCnt m.val 2)).reg (kEthCnt m.val 2) ∧ OnlyRegs s t [kEthCnt m.val 2]) ∧
      (s.ethAccepts m.val dst = true → ∃ t, exec (.ethFrameReceive m dst .other true false false) s = .next t ∧ t.reg (kEthCnt m.val 0) = (s.bump (kEthCnt m.val 0)).reg (kEthCnt m.val 0) ∧
        t.reg (kEthCnt m.val 3) = (s.bump (kEthCnt m.val 3)).reg (kEthCnt m.val 3) ∧ OnlyRegs s t [kEthCnt m.val 0, kEthCnt m.val 3])) ∧
    (∀ (m : Fin 5) dst kind, s.flag (fEthLink m.val) = true → s.ethAccepts m.val dst = true → kind ≠ .pause →
      ∃ t, exec (.ethFrameReceive m dst kind true false false) s = .next t ∧ t.reg (kEthCnt m.val 0) = (s.bump (kEthCnt m.val 0)).reg (kEthCnt m.val 0) ∧
        t.reg (kEthCnt m.val 3) = (if s.ethTaken m.val kind then s.reg (kEthCnt m.val 3) else (s.bump (kEthCnt m.val 3)).reg (kEthCnt m.val 3)) ∧
        (∀ mac ip target, kind = .arp mac ip target → s.ethTaken m.val kind = true → t.emitted = (s.arpReply m.val mac ip).emitted) ∧
        ((∀ mac ip target, kind ≠ .arp mac ip target) → t.emitted = s.emitted) ∧
        keepsRegs s t [kEthCnt m.val 0, kEthCnt m.val 3, kEthCnt m.val 4] ∧ keepsRam s t ∧ t = { s with regs := t.regs, emitted := t.emitted }) ∧
    (∀ (m : Fin 5) dst kind sym ovf, s.flag (fEthLink m.val) = true → ∃ t, exec (.ethFrameReceive m dst kind false sym ovf) s = .next t ∧
      t.reg (kEthCnt m.val 1) = (s.bump (kEthCnt m.val 1)).reg (kEthCnt m.val 1) ∧ keepsRegs s t [kEthCnt m.val 1, kEthStatus m.val] ∧ keepsRam s t ∧
      t = { s with regs := t.regs, emitted := t.emitted, reeve := t.reeve, veh := { s.veh with ethErr := t.veh.ethErr } }) ∧
    (∀ (m : Fin 5) served kind head bs, s.flag (fEthLink m.val) = true → s.timeSends m.val served kind = true → ∃ t,
      exec (.timeMessageTransmit m served kind head bs) s = .next t ∧ t.emitted = s.emitted ++ [.ethFrame m.val (head ++ s.timeMessage served kind bs)] ∧ t.reg (kEthCnt m.val 4) = (s.bump (kEthCnt m.val 4)).reg (kEthCnt m.val 4) ∧ keepsRegs s t [kEthCnt m.val 4] ∧
      keepsRam s t ∧ t = { s with regs := t.regs, emitted := t.emitted }) ∧
    (∀ bs : List Byte, 64 ≤ bs.length → (s.timeMessage true .announce bs)[48]? = some (BitVec.ofNat 8 (if s.get fTbState = tbLocked then 6 else if s.get fTbState = tbHoldover then 7 else 248)) ∧
      (s.timeMessage false .announce bs)[47]? = some 255) ∧
    (∀ (i : Fin 4) heldNs, 60 ≤ heldNs → s.flag (fWakeSrc i.val) = false → heldNs + 8 ≤ s.now → s.now + 8 < 2 ^ 64 → ∃ t, exec (.trigInEdge i true heldNs) s = .next t ∧
      s.now ≤ (t.reg64 (kTrigStamp i.val)).toNat + heldNs + 8 ∧ (t.reg64 (kTrigStamp i.val)).toNat + heldNs ≤ s.now + 8 ∧
      keepsRegs s t [kTrigStamp i.val, kTrigStamp i.val + 4] ∧ keepsRam s t ∧ t = { s with regs := t.regs, draws := s.draws + 1 }) ∧
    (∀ (i : Fin 4) heldNs, 60 ≤ heldNs → s.flag (fWakeSrc i.val) = true → s.get fPwrState = pwrBanked → heldNs + 8 ≤ s.now → s.now + 8 < 2 ^ 64 →
      ∃ t, exec (.trigInEdge i true heldNs) s = .next t ∧ s.now ≤ (t.reg64 (kTrigStamp i.val)).toNat + heldNs + 8 ∧
        (t.reg64 (kTrigStamp i.val)).toNat + heldNs ≤ s.now + 8 ∧ t.get fPwrState = pwrWaking) ∧
    (∀ (i : Fin 4) rising heldNs, heldNs < 50 → exec (.trigInEdge i rising heldNs) s = .next (s.bump kPinGlitch))

/-- A RESET_N pulse of 1 us or longer puts every register at its reset value, the Timebase at 0, makes the DRAM undefined anew and keeps the
waiting commands, the fuses and what has been emitted; one under 200 ns does nothing. An undervolt reset does the same but keeps
Hedgerow's and the CAN FD controllers' registers and Hedgerow's state, and holds the device. RESET_N rising begins the boot with
Hedgerow's driver on and every PLL locking, or, with TEST_EN, ends it in HELD with 0x9108; a recovered rail starts it the same way after
10 ms. -/
def Obligations.PowerOnResetKeepsWhatItMust : Prop :=
  ∀ s : State, State.Ok s →
    (∀ ns, 1000 ≤ ns → ∃ t, exec (.resetNPulse ns) s = .next t ∧ (∀ k, t.reg k = regReset k) ∧ t.tb = Timebase.reset ∧ t.dram = [] ∧ t.epoch = s.epoch + 1 ∧
      t.pending = s.pending ∧ t.fuse = s.fuse ∧ t.emitted = s.emitted ∧ t.reeve = Reeve.reset ∧ t.hdg = Hedgerow.reset ∧ t.cores = [] ∧ t.qm = Qm.reset ∧ t.tap = s.tap) ∧
    (∀ ns, ns < 200 → exec (.resetNPulse ns) s = .next s) ∧
    (∃ t, exec .railUndervoltReset s = .next t ∧ (∀ k, onHdgRail k = true → t.reg k = s.reg k) ∧ (∀ k, onHdgRail k = false → t.reg k = regReset k) ∧
      t.hdg = s.hdg ∧ t.dram = [] ∧ t.boot.railHold = true ∧ t.pending = s.pending ∧ t.fuse = s.fuse ∧ t.reeve = Reeve.reset ∧ t.cores = []) ∧
    (s.boot.begun = false → s.boot.railHold = false → ∃ t, exec (.bootStart false none) s = .next t ∧ t.boot.begun = true ∧ t.boot.done = false ∧
      t.boot.flash = s.boot.flash ∧ t.flag fStopDrive = true ∧ t.hdg = Hedgerow.reset ∧ (∀ i, i < 6 → t.get (fPll i) = 1) ∧ keepsRam s t) ∧
    (s.boot.begun = false → s.boot.railHold = false → ∃ t, exec (.bootStart true none) s = .next t ∧ t.boot.done = true ∧ t.boot.test = true ∧
      t.get fBootCode = 0x9108 ∧ t.get fHdgHeldCause = 0x9108 ∧ t.flag fStopDrive = true) ∧
    (∀ ms, 10 ≤ ms → s.boot.railHold = true → ∃ t, exec (.railRecoveryRelease ms false) s = .next t ∧ t.boot.begun = true ∧ t.boot.railHold = false ∧
      t.hdg = s.hdg ∧ (∀ k, 0x8000 ≤ k → k < 0x10000 → t.reg k = s.reg k) ∧ (∀ i, i < 6 → t.get (fPll i) = 1) ∧ keepsRam s t)

/-- With a configuration block, a Reeve image and a manifest that all verify and an approved pair, step 4 moves the stage to 2, shows the pair
class and readies the Reeve; without the block it ends the boot in HELD with 0x9107. Training that succeeds makes SYS_DRAM show 15, 30 or
60 GiB by the density; one that fails ends the boot with 0x3102. The Reeve's start moves the stage to 3. A passed known-answer test of an
enabled core is recorded. With tests passed and no cause the boot completes: stage 4 and NORMAL. -/
def Obligations.BootStepsAdvanceOrEndInHeld : Prop :=
  ∀ s : State, State.Ok s →
    (∀ b m, s.get fBootStage = 1 → s.boot.done = false → bcbOf s.fuse.grade s.boot.flash.bcb = some b → imageOk s.fuse.fwk 2 (s.boot.flash.image (s.get fBootBank) 2) = true →
      s.boot.flash.manifest s.fuse.fwk (s.get fBootBank) = some m →
      m.pairClass (imageVersion (s.boot.flash.image (s.get fBootBank) 1)) (imageVersion (s.boot.flash.image (s.get fBootBank) 2)) = 1 →
      ∃ t, exec .bootPairClassify s = .next t ∧ t.get fBootStage = 2 ∧ t.get fPairClass = 1 ∧ t.boot.mailboxes = true ∧ t.boot.reeveOk = true ∧ t.boot.done = false) ∧
    (s.get fBootStage = 1 → s.boot.done = false → bcbOf s.fuse.grade s.boot.flash.bcb = none → ∃ t, exec .bootPairClassify s = .next t ∧ t.get fBootStage = 2 ∧
      t.get fBootCode = 0x9107 ∧ t.flag fFallback = true ∧ t.boot.done = true ∧ t.boot.bcbOk = s.boot.bcbOk) ∧
    (∀ (d : Fin 3) r2, s.get fBootStage = 2 → s.boot.bcbOk = true → s.boot.trainEnded = false → s.get fPwrState ≠ pwrWaking → ∃ t, exec (.memoryTrainingDone d r2 0) s = .next t ∧
      t.get fUsableGib = 15 * 2 ^ d.val ∧ t.boot = { s.boot with trainEnded := true, trained := true } ∧ keepsRegs s t [kSysDram] ∧ keepsRam s t ∧
      t = { s with regs := t.regs, boot := t.boot }) ∧
    (∀ (d : Fin 3) r2 f, f ≠ 0 → s.get fBootStage = 2 → s.boot.bcbOk = true → s.boot.trainEnded = false → s.boot.done = false → s.get fPwrState ≠ pwrWaking →
      ∃ t, exec (.memoryTrainingDone d r2 f) s = .next t ∧ t.get fBootCode = 0x3102 ∧ t.flag fFallback = true ∧ t.boot.done = true ∧ t.boot.limited = 0x3102) ∧
    (s.get fBootStage = 2 → s.boot.reeveOk = true → s.boot.trainEnded = true → s.reeve.alive = false → s.get fBootBank = s.boot.flash.bank → s.boot.limited = 0 →
      ∃ t, exec .reeveStart s = .next t ∧ t.get fBootStage = 3 ∧ t.reeve = { s.reeve with alive := true } ∧ keepsRegs s t [0x6000] ∧ keepsRam s t ∧
        t = { s with regs := t.regs, reeve := t.reeve }) ∧
    (∀ k : CoreId, s.reeve.alive = true → k.val < s.nCores → s.reeve.sweep = none → s.testsDue = true → s.blocksOff = false →
      ∃ t, exec (.knownAnswerTest k true) s = .next t ∧ t.boot.kats.contains k.val = true ∧ (∀ j, s.boot.kats.contains j = true → t.boot.kats.contains j = true)) ∧
    (s.get fBootStage = 3 → s.boot.done = false → s.reeve.alive = true → s.get fHdgHeldCause = 0 → s.testsPassed = true → s.recovering = false → s.monitorCode none = none →
      ∃ t, exec (.bootComplete none) s = .next t ∧ t.get fBootStage = 4 ∧ t.boot.done = true ∧ t.mode = 0 ∧ t.flag fFaultNLow = false)

/-- After boot, in RUN, a locking or lost PLL becomes LOCKED and nothing else changes; before its end the SPLL's calibration is due besides. A lost
core or memory PLL raises 0x8102, the memory PLL with the loss of the Reeve (R774). A locked SPLL that loses its lock is LOST and raises
0x8103; a lost crystal raises 0x8105 once for each locked PLL it feeds, as a job fault. A calibration asked for is due from now on; once
R169 and the window allow it the SPLL calibrates, by force after 10 s with 0x8403 and a count, and its end counts and leaves it LOCKED. -/
def Obligations.PllsLockLoseAndCalibrate : Prop :=
  ∀ s : State, State.Ok s →
    (∀ p : Pll, (s.get (fPll p.idx) = 1 ∨ s.get (fPll p.idx) = 4) → s.power.crystalLost = false → s.boot.done = true → s.get fPwrState = pwrRun →
      ∃ t, exec (.pllLock p) s = .next t ∧ t.get (fPll p.idx) = 2 ∧ OnlyRegs s t [0x4000]) ∧
    (s.get (fPll 5) = 2 → ∃ t ev, exec (.pllLossOfLock .spll false) s = .next t ∧ t.get (fPll 5) = 4 ∧ ev.code = 0x8103 ∧ ev.disp = .jobFault ∧
      t.reeve = { s.reeve with events := s.reeve.events ++ [ev] } ∧ keepsRegs s t [0x4000] ∧ keepsRam s t ∧
      t = { s with regs := t.regs, reeve := t.reeve, draws := s.draws + 1 }) ∧
    (∀ p : Pll, (s.get (fPll p.idx) = 1 ∨ s.get (fPll p.idx) = 4) → s.power.crystalLost = false → s.boot.begun = true → s.boot.done = false → 1 ≤ s.get fBootStage →
      s.get fPwrState = pwrRun → ∃ t, exec (.pllLock p) s = .next t ∧ t.get (fPll p.idx) = 2 ∧ (p = .spll → t.power.calDue.isSome = true) ∧ keepsRegs s t [0x4000] ∧ keepsRam s t ∧
        t = { s with regs := t.regs, power := { s.power with calDue := t.power.calDue } }) ∧
    (∀ p : Pll, p ∈ [Pll.cpll0, .cpll1, .mpll] → s.get (fPll p.idx) = 2 → ∃ t ev, exec (.pllLossOfLock p false) s = .next t ∧ t.get (fPll p.idx) = 4 ∧ ev.code = 0x8102 ∧
      ev.disp = .jobFault ∧ t.reeve.events = s.reeve.events ++ [ev] ∧ t.reeve.alive = (s.reeve.alive && p != .mpll) ∧ keepsRegs s t [0x4000] ∧ keepsRam s t ∧
      t = { s with regs := t.regs, reeve := t.reeve, draws := s.draws + 1 }) ∧
    (s.get (fPll 5) = 3 → exec (.pllLossOfLock .spll true) s = .next (s.put (fPll 5) 4)) ∧
    (∃ t, exec (.spllCalRequest none) s = .next t ∧ t.power.calDue.isSome = true ∧ (∀ d, s.power.calDue = some d → t.power.calDue = some d) ∧
      t = { s with power := { s.power with calDue := t.power.calDue } }) ∧
    (s.boot.done = true → ∃ t es, exec .crystalLoss s = .next t ∧ t.power = { s.power with crystalLost := true } ∧ t.reeve = { s.reeve with events := s.reeve.events ++ es } ∧
      es.length = ([0, 1, 2, 3, 5].filter (fun i => s.get (fPll i) == 2 || s.get (fPll i) == 3)).length ∧ (∀ e ∈ es, e.code = 0x8105 ∧ e.disp = .jobFault) ∧
      t = { s with power := t.power, reeve := t.reeve, draws := t.draws }) ∧
    (∀ v : Word, s.turnsAway 0 = false → v.getLsbD 0 = true → ∃ t, exec (.spllCalRequest (some (0, v))) s = .next t ∧ t.power.calDue.isSome = true ∧ t.power.calAsked = true ∧
      (∀ d, s.power.calDue = some d → t.power.calDue = some d) ∧ t = { s with power := { s.power with calDue := t.power.calDue, calAsked := true } }) ∧
    (s.calAllowed = true → s.inCalWindow = true → ∃ t, exec .spllCalibrationStart s = .next t ∧ t.get (fPll 5) = 3 ∧ keepsRegs s t [0x4000] ∧ keepsRam s t ∧
      t = { s with regs := t.regs, power := { s.power with calDue := none, calAsked := false } }) ∧
    (∀ sec, s.calAllowed = true → 10 ≤ sec → ∃ t ev, exec (.spllCalForce sec) s = .next t ∧ t.get (fPll 5) = 3 ∧ ev.code = 0x8403 ∧ ev.disp = .report ∧
      t.reg kSpllForced = (s.bump kSpllForced).reg kSpllForced ∧ t.reeve = { s.reeve with events := s.reeve.events ++ [ev] } ∧ keepsRegs s t [0x4000, kSpllForced] ∧ keepsRam s t) ∧
    (s.get (fPll 5) = 3 → ∃ t, exec .spllCalibrationDone s = .next t ∧ t.get (fPll 5) = 2 ∧ t.reg kSpllCals = (s.bump kSpllCals).reg kSpllCals ∧ OnlyRegs s t [0x4000, kSpllCals])

/-- A physical-function request in NORMAL, where the conditions of R745 hold, starts the entry; the end of the entry leaves the device BANKED
with no core's state kept. A wake request in BANKED starts the wake: its reference is the Timebase tick, and the cores', memory's and
sensors' PLLs lock again; one that comes during the entry is held until it ends. In RECOVERY a request to enter is pending. 40 ms later a finished wake leaves the device in RUN, an unfinished one raises 0x9301 as HELD and shows
FALLBACK. -/
def Obligations.BankedIsEnteredAndLeft : Prop :=
  ∀ s : State, State.Ok s →
    (∀ v : Word, s.turnsAway 0 = false → v.getLsbD 0 = true → s.mode ≠ 1 → s.bankable = true → ∃ t, exec (.bankEnterRequest 0 v) s = .next t ∧ t.get fPwrState = pwrEntering ∧ OnlyRegs s t [0x5000]) ∧
    (∀ v : Word, s.turnsAway 0 = false → v.getLsbD 0 = true → s.mode ≠ 1 → s.bankable = false → ∃ t, exec (.bankEnterRequest 0 v) s = .next t ∧ t.flag fPwrRejected = true ∧ OnlyRegs s t [0x5000]) ∧
    (s.get fPwrState = pwrEntering → s.power.wakeHeld = false → ∃ t, exec .bankEntryComplete s = .next t ∧ t.get fPwrState = pwrBanked ∧ t.cores = []) ∧
    (∀ v : Word, s.turnsAway 0 = false → v.getLsbD 0 = true → s.get fPwrState = pwrBanked → ∃ t, exec (.wakeRequest 0 v) s = .next t ∧ t.get fPwrState = pwrWaking ∧
      (∀ i, i ∈ [0, 1, 3, 5] → t.get (fPll i) = 1) ∧ t.power.wakeAt = some s.tb.ticks ∧ keepsRegs s t [0x5000, 0x4000] ∧ keepsRam s t ∧
      t = { s with regs := t.regs, power := t.power, boot := { s.boot with trainEnded := false, trained := false, kats := [], tested := [] } }) ∧
    (∀ t0, s.power.wakeAt = some t0 → s.get fPwrState = pwrWaking → (s.reachTick (t0 + 1000000)).wakeDone = true → s.flag fFrameEn = false →
      ∃ t, exec .wakeComplete s = .next t ∧ t.get fPwrState = pwrRun ∧ t.power = { s.power with wakeAt := none, wokenAt := some t.tb.ticks } ∧ keepsRegs s t [0x5000] ∧
        keepsRam s t ∧ t = { s with regs := t.regs, tb := t.tb, power := t.power }) ∧
    (∀ t0, s.power.wakeAt = some t0 → s.get fPwrState = pwrWaking → (s.reachTick (t0 + 1000000)).wakeDone = true →
      ∃ t, exec .wakeComplete s = .next t ∧ t.get fPwrState = pwrRun ∧ t.power.wakeAt = none ∧ t0 + 1000000 ≤ t.tb.ticks ∧ keepsRam s t) ∧
    (s.get fPwrState = pwrEntering → s.power.wakeHeld = true → ∃ t, exec .bankEntryComplete s = .next t ∧ t.get fPwrState = pwrWaking ∧ t.cores = []) ∧
    (∀ v : Word, s.turnsAway 0 = false → v.getLsbD 0 = true → s.get fPwrState = pwrEntering → exec (.wakeRequest 0 v) s = .next { s with power := { s.power with wakeHeld := true } }) ∧
    (∀ v : Word, s.turnsAway 0 = false → v.getLsbD 0 = true → s.mode = 1 → ∃ t, exec (.bankEnterRequest 0 v) s = .next t ∧ t.flag fBankPending = true ∧ OnlyRegs s t [0x5000]) ∧
    (∀ t0, s.power.wakeAt = some t0 → s.get fPwrState = pwrWaking → (s.reachTick (t0 + 1000000)).wakeDone = false →
      ∃ t, exec .wakeComplete s = .next t ∧ t.flag fFallback = true ∧ t.power.wakeAt = none ∧
        t.reeve = { s.reeve with events := s.reeve.events ++ [⟨0x9301, srcStw, 0, .held, []⟩] } ∧ keepsRegs s t [0x6000] ∧ keepsRam s t)

/-- A power sample shows in PWR_NOW; within 2 W below the limit it changes no throttle, and one that has stayed further below it for 100 us lets the
cores step up. A thermal sample shows each enabled core's reading. A power that stays above the limit for 10 ms with
every core at 11 or below raises 0x8405 as REPORT. A reading of 125 degrees or more raises 0x8202 as a job fault. After 2 ms, or with a reading
below T_PAUSE - 3, a pause ends with E_THERM at 11. A clock off by more than 50,000 ppm in an unchanged window sets its CLK_MON_FAIL bit and raises 0x8101, a rail outside
its window for 10 us sets its bit and raises 0x8201; a clock within the bound changes nothing. -/
def Obligations.ThrottlesAndMonitorsReport : Prop :=
  ∀ s : State, State.Ok s →
    (∀ p : BitVec 16, p.toNat ≤ s.get fPwrLimit * 10 → s.get fPwrLimit * 10 ≤ p.toNat + 20 → s.get fPwrLimit ≠ 0 → ∃ t, exec (.powerSample p) s = .next t ∧
      t.reg kPwrNow = p.setWidth 32 ∧ keepsRegs s t [kPwrNow] ∧ keepsRam s t ∧ t = { s with regs := t.regs, power := { s.power with lowFrom := none } }) ∧
    (∀ p : BitVec 16, s.get fPwrLimit ≠ 0 → s.get fPwrLimit * 10 < p.toNat → ∃ t, exec (.powerSample p) s = .next t ∧ t = (s.setReg kPwrNow (p.setWidth 32)).powerDown.settleAll) ∧
    (∀ ms, 10 ≤ ms → s.get fPwrLimit ≠ 0 → s.get fPwrLimit * 10 < (s.reg kPwrNow).toNat → (∀ i ∈ s.physCores, s.get (fEPower i) ≤ 11) →
      ∃ t ev, exec (.powerLimitPersist ms) s = .next t ∧ ev.code = 0x8405 ∧ ev.disp = .report ∧
        t = { s with reeve := { s.reeve with events := s.reeve.events ++ [ev] }, draws := s.draws + 1 }) ∧
    (∀ (l : List (BitVec 8)) oor i, i ∈ s.physCores → i < l.length → i < 16 → 125 ≤ (l.getD i 0).toInt →
      ∃ t, exec (.thermalSample l oor) s = .next t ∧ ∃ e ∈ t.reeve.events, e.code = 0x8202 ∧ e.disp = .jobFault) ∧
    (∀ (i : Fin 16) us, 2000 ≤ us → s.pausedAt i.val = true → ∃ t, exec (.thermalPauseEnd i us) s = .next t ∧ t.pausedAt i.val = false ∧ t.get (fETherm i.val) = 11 ∧
      (t.therm i.val).pausedAt = none ∧ keepsRam s t ∧ t = { s with regs := t.regs, power := t.power }) ∧
    (∀ p : BitVec 16, p.toNat + 20 < s.get fPwrLimit * 10 →
      (s.power.lowFrom = none → ∃ t, exec (.powerSample p) s = .next t ∧ t.reg kPwrNow = p.setWidth 32 ∧ keepsRegs s t [kPwrNow] ∧ keepsRam s t ∧
        t = { s with regs := t.regs, power := { s.power with lowFrom := some s.tb.ticks } }) ∧
      (∀ f, s.power.lowFrom = some f → f + 2500 ≤ s.tb.ticks → exec (.powerSample p) s = .next ((s.setReg kPwrNow (p.setWidth 32)).powerUp.settleAll))) ∧
    (∀ (l : List (BitVec 8)) oor, ∃ t, exec (.thermalSample l oor) s = .next t ∧ (∀ i ∈ s.physCores, i < l.length → t.get (fTemp i) = (l.getD i 0).toNat) ∧
      keepsRam s t ∧ t = { s with regs := t.regs, power := t.power, reeve := t.reeve, draws := t.draws }) ∧
    (∀ (i : Fin 16) us, s.tempOf i.val < (s.get fTPause : Int) - 3 → s.pausedAt i.val = true → ∃ t, exec (.thermalPauseEnd i us) s = .next t ∧ t.pausedAt i.val = false ∧
      t.get (fETherm i.val) = 11 ∧ keepsRam s t ∧ t = { s with regs := t.regs, power := t.power }) ∧
    (∀ (i : Fin 64) (ppm : Int), ppm.natAbs ≤ 50000 → exec (.clockMonitorWindow i ppm false false) s = .next s) ∧
    (∀ (i : Fin 64) (ppm : Int), 50000 < ppm.natAbs → s.flag (fIslPaused i.val) = false → s.flag (fIslOff i.val) = false →
      ∃ t, exec (.clockMonitorWindow i ppm false false) s = .next t ∧ t.flag (fMonFail i.val) = true ∧
        OnlyRegsEvents s t [0x4018 + 4 * (i.val / 32)] [⟨0x8101, srcOf 7 i.val 0, 0, .jobFault, []⟩]) ∧
    (∀ (r : Fin 6) us, 10 ≤ us → s.boot.railHold = false → ∃ t, exec (.supplyOutOfWindow r us) s = .next t ∧ t.flag (fRailFail r) = true ∧
      OnlyRegsEvents s t [kRailFail] [⟨0x8201, srcOf 7 (64 + r.val) 0, BitVec.ofNat 64 r.val, .jobFault, []⟩])

/-- The link comes up at a speed and width within its limits. An error of an up link below the threshold is counted. RESTORE with settings in
range returns the floor to them. A link that goes down, also by PERST, clears DL_UP and counts. A configuration write of a present
function sets what it names, and VF Enable takes NumVFs. A function-level reset of a virtual function or a cleared VF Enable resets that
function's configuration. A TLP of each class of R683 is counted, logged with its code and signalled by Advanced Error Reporting; a
vendor-defined message of type 1 is dropped. Errors beyond the threshold within 1 s step the link down the ladder with 0x6101. -/
def Obligations.PcieLinkAndConfigurationAct : Prop :=
  ∀ s : State, State.Ok s →
    (∀ (sp : Fin 5) (w : Fin 9), s.pcie.perst = false → s.get ⟨0x4000, 12, 3⟩ = 2 → sp.val ≠ 0 → (w.val = 1 ∨ w.val = 2 ∨ w.val = 4 ∨ w.val = 8) → sp.val ≤ s.linkLimit.1 → w.val ≤ s.linkLimit.2 →
      ∃ t, exec (.pcieLinkUp sp w) s = .next t ∧ t.get fLinkSpeed = sp.val ∧ t.get fLinkWidth = w.val ∧ t.flag fDlUp = true ∧ OnlyRegs s t [0x2000]) ∧
    (s.flag fDlUp = true → s.pcie.errors = 0 → 1 ≤ s.get fLinkThresh → ∃ t, exec .pcieLinkError s = .next t ∧ t.reg kPcieCe = (s.bump kPcieCe).reg kPcieCe ∧
      t.pcie = { s.pcie with errors := 1, errTick := s.tb.ticks } ∧ keepsRegs s t [kPcieCe] ∧ keepsRam s t ∧ t = { s with regs := t.regs, pcie := t.pcie }) ∧
    (∀ v : Word, s.turnsAway 0 = false → v.getLsbD 31 = true → 1 ≤ fMaxSpeed.ofWord v → fMaxSpeed.ofWord v ≤ 4 → linkWidthOk (fMaxWidth.ofWord v) = true → fLinkThresh.ofWord v ≠ 0 →
      ∃ t, exec (.pcieRestore 0 v) s = .next t ∧ t.get fMaxSpeed = fMaxSpeed.ofWord v ∧ t.get fMaxWidth = fMaxWidth.ofWord v ∧
        t.get fFloor = ladderWithin (fMaxSpeed.ofWord v) (fMaxWidth.ofWord v) ∧ OnlyRegs s t [kLinkCfg, 0x2000]) ∧
    (s.flag fDlUp = true → ∃ t, exec .pcieLinkDown s = .next t ∧ t.flag fDlUp = false ∧ t.pcie.vfEnable = false ∧ (Tbl.wf s.pcie.fns = true → ∀ fn, fn < 8 → t.fnCfg fn = FnCfg.reset)) ∧
    (s.pcie.perst = false → ∃ t, exec (.perst true) s = .next t ∧ t.pcie.perst = true ∧ t.flag fDlUp = false ∧ t.pcie.vfEnable = false ∧ (Tbl.wf s.pcie.fns = true → ∀ fn, fn < 8 → t.fnCfg fn = FnCfg.reset)) ∧
    exec (.perst false) s = .next { s with pcie := { s.pcie with perst := false } } ∧
    (∀ n : Fin 8, s.pcie.vfEnable = false → exec (.configSpaceWrite 0 (.vfEnable true n)) s = .next { s with pcie := { s.pcie with vfEnable := true, numVfs := n.val } }) ∧
    (∀ (fn : Fn) on, s.present fn.val = true → ∃ t, exec (.configSpaceWrite fn (.busMaster on)) s = .next t ∧ t.fnCfg fn.val = { s.fnCfg fn.val with bme := on } ∧
      t = { s with pcie := { s.pcie with fns := t.pcie.fns } }) ∧
    (s.pcie.vfEnable = true → ∃ t, exec .vfEnableClear s = .next t ∧ t.pcie.vfEnable = false ∧ (∀ fn, 1 ≤ fn → fn ≤ 7 → Tbl.wf s.pcie.fns = true → t.fnCfg fn = FnCfg.reset)) ∧
    (∀ fn : Fn, fn ≠ 0 → s.present fn.val = true → Tbl.wf s.pcie.fns = true → ∃ t, exec (.functionLevelReset fn) s = .next t ∧ t.fnCfg fn.val = FnCfg.reset ∧ t.pcie.vfEnable = s.pcie.vfEnable) ∧
    (∀ (fn : Fn) d, s.flag fDlUp = true → exec (.pcieTlpViolation fn .vendorType1 d) s = .next s ∧
      (∀ (c : TlpClass) k code e, (c, k, code, e) ∈ [(TlpClass.malformed, kPcieMalformed, 0x6303, AerError.malformedTlp), (.completion, kPcieMalformed, 0x6303, .unexpectedCompletion),
          (.poisonedWrite, kPciePoison, 0x6302, .poisonedTlp), (.badBar0, kPcieUr, 0x6301, .unsupportedRequest), (.unsupported, kPcieUr, 0x6301, .unsupportedRequest)] →
        ∃ t, exec (.pcieTlpViolation fn c d) s = .next t ∧ t.reg k = (s.bump k).reg k ∧ t.emitted = s.emitted ++ [.aer fn.val e] ∧
          t.reeve = { s.reeve with events := s.reeve.events ++ [⟨BitVec.ofNat 16 code, srcHost fn.val, 0, .violation, d.take 16⟩] } ∧ keepsRegs s t [k] ∧ keepsRam s t ∧
          t = { s with regs := t.regs, reeve := t.reeve, emitted := t.emitted })) ∧
    (s.flag fDlUp = true → s.pcie.errors ≠ 0 → s.tb.ticks ≤ s.pcie.errTick + 25000000 → s.pcie.errors + 1 ≤ s.get fLinkThresh →
      ∃ t, exec .pcieLinkError s = .next t ∧ t.reg kPcieCe = (s.bump kPcieCe).reg kPcieCe ∧ t.pcie = { s.pcie with errors := s.pcie.errors + 1 } ∧ keepsRegs s t [kPcieCe] ∧
        keepsRam s t ∧ t = { s with regs := t.regs, pcie := t.pcie }) ∧
    (∀ i, s.flag fDlUp = true → s.pcie.errors ≠ 0 → s.tb.ticks ≤ s.pcie.errTick + 25000000 → s.get fLinkThresh ≤ s.pcie.errors → s.stepTo = some i →
      s.pcie.speedDisable = false → s.pcie.widthDisable = false → ∃ t, exec .pcieLinkError s = .next t ∧ t.get fFloor = i ∧ t.get fLinkSpeed = (linkLadder.getD i (1, 1)).1 ∧
        t.get fLinkWidth = (linkLadder.getD i (1, 1)).2 ∧ t.pcie = { s.pcie with errors := 0 } ∧
        t.reeve = { s.reeve with events := s.reeve.events ++ [⟨0x6101, srcHost 0, 0, .report, []⟩] } ∧ keepsRegs s t [kPcieCe, kLinkCfg, 0x2000] ∧ keepsRam s t) ∧
    (∃ t, exec (.functionLevelReset 0) s = .next t ∧ t.pcie.vfEnable = false ∧ (Tbl.wf s.pcie.fns = true → ∀ fn, fn < 8 → t.fnCfg fn = FnCfg.reset))

/-- A physical-function write of at most one block within the usable range makes those bytes read as written and leaves every other byte; its
read of sound memory returns the bytes. An access beyond the usable range is counted as refused, and a read of it answers all ones. TRST_N
low puts the test access port into its reset state with IDCODE selected and nothing shown; TMS held high moves it toward that state;
nothing else of the device changes. -/
def Obligations.HostMemoryAccessAndScanAct : Prop :=
  ∀ s : State, State.Ok s →
    (∀ (a : Nat) (bs : List Byte), s.flag fDlUp = true → s.pcie.perst = false → (s.fnCfg 0).d3hot = false → bs ≠ [] → a % 64 + bs.length ≤ 64 → a + bs.length ≤ s.dramBytes → a + bs.length ≤ 0x1000000000 → s.ramBad a = false →
      ∃ t, exec (.bar2Access 0 a 0 (some bs) false .clean) s = .next t ∧ (∀ i (h : i < bs.length), t.ramByte (a + i) = bs[i]) ∧
        (∀ j, (j < a ∨ a + bs.length ≤ j) → t.ramByte j = s.ramByte j) ∧ t = { s with dram := t.dram, dramBad := t.dramBad }) ∧
    (∀ a n : Nat, s.flag fDlUp = true → s.pcie.perst = false → (s.fnCfg 0).d3hot = false → 0 < n → a + n ≤ s.dramBytes → a + n ≤ 0x1000000000 → s.badIn a n = none →
      exec (.bar2Access 0 a n none false .clean) s = .next (s.emit (.dramData (.host 0) a (s.ramBytes a n) false))) ∧
    (∀ a n : Nat, s.flag fDlUp = true → s.pcie.perst = false → (s.fnCfg 0).d3hot = false → 0 < n → a + n ≤ 0x1000000000 → s.dramBytes < a + n →
      ∃ t, exec (.bar2Access 0 a n none false .clean) s = .next t ∧ t.reg kBar2Refused = (s.bump kBar2Refused).reg kBar2Refused ∧
        t.emitted = s.emitted ++ [.dramData (.host 0) a (List.replicate n 0xFF) false] ∧ keepsRegs s t [kBar2Refused] ∧ keepsRam s t) ∧
    (∀ tms tdi sample, exec (.boundaryScanAccess false tms tdi sample) s = .next { s with tap := { s.tap with st := .reset, instr := .idcode, tdo := none } }) ∧
    (∀ tdi sample, s.tap.st = .shiftDr → ∃ t, exec (.boundaryScanAccess true false tdi sample) s = .next t ∧ t.tap.dr = s.tap.dr.drop 1 ++ [tdi] ∧ t.tap.st = .shiftDr ∧
      t.tap.instr = s.tap.instr ∧ t = { s with tap := t.tap })

/-- On a RUNNING ring queue of its owner with a FULL session, PRODUCER's advance by n that fits submits n descriptors at the next positions
and ring slots, now, and changes no other queue. CONSUMER within the ring frees entries. A doorbell of another function counts QM_VIOL and
logs 0x4101. Enabling a DISABLED queue with a valid context starts it empty; with an invalid one, in another state or without a FULL
session it sets the function's REJECTED alone. Disabling drops what is not dispatched; the queue is DISABLED or DRAINING. The two
resumptions of a HALTED queue submit its lost descriptors again ahead of the rest, or drop them. -/
def Obligations.QueueDoorbellsAndCommandsAct : Prop :=
  ∀ s : State, State.Ok s →
    (∀ (fn : Fn) (q : BitVec 16) (v : Word) (n : Nat), s.turnsAway fn = false → (s.queue q.toNat).owner = fn.val → s.inReset fn.val = false → (s.queue q.toNat).state = 1 →
      (s.queue q.toNat).isFrame = false → s.sessFull fn.val = true → v.toNat < 65536 → (s.queue q.toNat).prod < 65536 →
      n = (v.toNat + 65536 - (s.queue q.toNat).prod) % 65536 → (s.queue q.toNat).span + n ≤ (s.queue q.toNat).size →
      ∃ t js, exec (.sqDb fn q v) s = .next t ∧ (t.queue q.toNat).jobs = (s.queue q.toNat).jobs ++ js ∧ js.length = n ∧
        (∀ i j, js[i]? = some j → j.pos = (s.queue q.toNat).next + i ∧ j.slot = ((s.queue q.toNat).next + i) % (s.queue q.toNat).size ∧ j.submit = s.now ∧ j.at_ = .waiting none) ∧
        t.queue q.toNat = { s.queue q.toNat with jobs := (t.queue q.toNat).jobs, prod := v.toNat, next := (s.queue q.toNat).next + n } ∧
        (∀ p, p ≠ q.toNat → t.queue p = s.queue p) ∧ t = { s with qm := t.qm }) ∧
    (∀ (fn : Fn) (q : BitVec 16) (v : Word), s.turnsAway fn = false → (s.queue q.toNat).owner ≠ fn.val → s.inReset (s.queue q.toNat).owner = false →
      ∃ t ev, exec (.sqDb fn q v) s = .next t ∧ exec (.cqDb fn q v) s = .next t ∧ ev.code = 0x4101 ∧ ev.disp = .violation ∧
        t.reg kQmViol = (s.bump kQmViol).reg kQmViol ∧ OnlyRegsEvents s t [kQmViol] [ev]) ∧
    (∀ (fn : Fn) (q : BitVec 16) (v : Word), s.turnsAway fn = false → (s.queue q.toNat).owner = fn.val → s.inReset fn.val = false → (s.queue q.toNat).state ≠ 0 →
      s.sessFull fn.val = true → v.toNat < 65536 → ((s.queue q.toNat).recs.toNat + 65536 - v.toNat) % 65536 ≤ (s.queue q.toNat).size →
      ∃ t, exec (.cqDb fn q v) s = .next t ∧ t.queue q.toNat = { s.queue q.toNat with cons := v.toNat } ∧ (∀ p, p ≠ q.toNat → t.queue p = s.queue p) ∧
        t = { s with qm := t.qm }) ∧
    (∀ (fn : Fn) (q : Nat), s.turnsAway fn = false → q = s.get (fQsel fn) → s.qmMay fn q = true →
      (s.sessFull fn.val = true → (s.queue q).state = 0 → s.ctxOk (s.queue q) = true → ∃ t, exec (.queueEnable fn) s = .next t ∧
        t.queue q = { QueueSt.reset with ctx := (s.queue q).ctx, state := 1 } ∧ (∀ p, p ≠ q → t.queue p = s.queue p) ∧ t = { s with qm := t.qm }) ∧
      ((s.sessFull fn.val = false ∨ (s.queue q).state ≠ 0 ∨ s.ctxOk (s.queue q) = false) → ∃ t, exec (.queueEnable fn) s = .next t ∧
        t.flag (fQmRejected fn) = true ∧ OnlyRegs s t [own fn 0x24000]) ∧
      ((s.queue q).state ≠ 0 → ∃ t, exec (.queueDisable fn) s = .next t ∧ (t.queue q).jobs = (s.queue q).jobs.filter (fun j => !j.waits) ∧ (t.queue q).lost = [] ∧
        (t.queue q).state = (if (t.queue q).jobs = [] then 0 else 3) ∧ (∀ p, p ≠ q → t.queue p = s.queue p) ∧ t = { s with qm := t.qm }) ∧
      (s.sessFull fn.val = true → (s.queue q).state = 2 → (∀ e ∈ s.qm.slots, e.2.due = false) → ∃ t, exec (.queueResumeReplay fn) s = .next t ∧
        (t.queue q).jobs = (s.queue q).lost.map (fun j => j.again s.now) ++ (s.queue q).jobs ∧
        t.queue q = { s.queue q with state := 1, haltCode := 0, lost := [], jobs := (t.queue q).jobs } ∧ (∀ p, p ≠ q → t.queue p = s.queue p) ∧ t = { s with qm := t.qm }) ∧
      (s.sessFull fn.val = true → (s.queue q).state = 2 → (∀ e ∈ s.qm.slots, e.2.due = false) → (∀ j ∈ (s.queue q).lost, j.fold = none) →
        ∃ t, exec (.queueResumeSkip fn) s = .next t ∧ t.queue q = { s.queue q with state := 1, haltCode := 0, lost := [] } ∧
          (∀ p, p ≠ q → t.queue p = s.queue p) ∧ t = { s with qm := t.qm }))

/-- A readable head descriptor whose request goes out and that passes its checks becomes a candidate, a twin job besides one of its pair; one that
fails is recorded REJECTED with the first code it breaks; a request that may not go out yet waits; an uncorrectable read raises 0x3201
alone. A free, awake core takes the candidate the arbitration picks: a Dispatch Table entry at the lowest free index, the program counter at
PROGRAM, s1 = ARGS, s3 = the core; DISP counts; an intake or fold word stands at ARGS before. A fenced device dispatches nothing.
A finished core with an error retires it with its error code; without error the record is OK; the checksum register takes the final
checksum; while a window write of the job is still to be done it does not retire. The Reeve's clearance marks the record of a perception job cleared, of a twin job only where both
twins have retired with equal checksums. -/
def Obligations.DescriptorsAreFetchedPlacedAndRetired : Prop :=
  ∀ s : State, State.Ok s →
    (∀ (q : BitVec 16) (ecc : Ecc) (x : QueueSt) (j : QJob) (d : Desc), s.queue q.toNat = x → x.head = some j → x.state = 1 → s.inReset x.owner = false → j.at_ = .waiting none →
      ecc ≠ .uncorrectable → s.jobOk x.owner (x.ring + 64 * j.slot) 64 false = true → s.badIn (x.ring + 64 * j.slot) 64 = none →
      d = Desc.ofBytes (s.ramBytes (x.ring + 64 * j.slot) 64) → ∀ u : State, u = s.dramTake (.descriptor q.toNat) x.owner (linesOf (x.ring + 64 * j.slot) 64) →
      s.dramReady (.descriptor q.toNat) x.owner (linesOf (x.ring + 64 * j.slot) 64) = true →
      (u.descFault x j d = none → ∃ t, exec (.descriptorFetch q ecc) s = .next t ∧
        t.queue q.toNat = x.setJob j.pos (fun y => { y with at_ := .waiting (some d) }) ∧ (∀ p, p ≠ q.toNat → t.queue p = s.queue p) ∧
        t.qm.pairs = (u.joinPair x.owner j d).qm.pairs ∧ (s.isTwin x.owner d = false → t.qm.pairs = s.qm.pairs) ∧ t = { u with qm := t.qm }) ∧
      (∀ code, u.descFault x j d = some code → ∃ (t : State) (r : Rec), exec (.descriptorFetch q ecc) s = .next t ∧ r.status = 2 ∧ r.code = code ∧ r.dt = none ∧
        t.queue q.toNat = x.setJob j.pos (fun y => { y with at_ := .done { r with elapsedUs := min ((s.now - y.submit) / 1000) 0xFFFFFFFF } }) ∧
        (∀ p, p ≠ q.toNat → t.queue p = s.queue p) ∧ t = { u with qm := t.qm })) ∧
    (∀ (q : BitVec 16) (ecc : Ecc) (x : QueueSt) (j : QJob), s.queue q.toNat = x → x.head = some j → x.state = 1 → s.inReset x.owner = false → j.at_ = .waiting none →
      ecc ≠ .uncorrectable → s.jobOk x.owner (x.ring + 64 * j.slot) 64 false = true →
      s.dramReady (.descriptor q.toNat) x.owner (linesOf (x.ring + 64 * j.slot) 64) = false →
      exec (.descriptorFetch q ecc) s = .next (s.dramWait (.descriptor q.toNat) x.owner (linesOf (x.ring + 64 * j.slot) 64))) ∧
    (∀ (q : BitVec 16) (j : QJob), (s.queue q.toNat).head = some j → (s.queue q.toNat).state = 1 → s.inReset (s.queue q.toNat).owner = false → j.at_ = .waiting none →
      ∃ t ev, exec (.descriptorFetch q .uncorrectable) s = .next t ∧ ev.code = 0x3201 ∧ ev.disp = .jobFault ∧ OnlyRegsEvents s t [] [ev]) ∧
    (∀ (k : CoreId) (c : Cand) (u : State), s.isHeld = false → s.fenced = false → s.asleep = false → s.coreFree k = true → s.rejectForgotten.pick k = (some c, u) →
      c.pre = none → u.argsWord c = [] → ∃ (t : State) (job : CoreJob) (e : DtEnt), exec (.jobDispatch k) s = .next t ∧ (t.core k).job = some job ∧ job.dt = u.dtFree ∧ job.part = (u.queue c.queue).owner ∧
        job.err = 0 ∧ (t.core k).pc = c.desc.program ∧ getS (t.core k).s 1 = c.desc.args ∧ getS (t.core k).s 3 = BitVec.ofNat 64 k ∧ (t.core k).bundle = none ∧
        Tbl.find t.qm.dt u.dtFree = some e ∧ e.queue = c.queue ∧ e.pos = c.job.pos ∧ e.core = k.val ∧ e.saved = none ∧
        (t.queue c.queue).disp = (u.queue c.queue).disp + 1 ∧ keepsRegs u t [] ∧ keepsRam u t ∧ t.emitted = u.emitted ∧ (∀ i, i ≠ k.val → t.core i = u.core i)) ∧
    (∀ (k : CoreId) (c : Cand) (u : State) (a : Nat), s.isHeld = false → s.fenced = false → s.asleep = false → s.coreFree k = true → s.rejectForgotten.pick k = (some c, u) →
      c.pre = none → a = c.desc.args.toNat → u.argsWord c ≠ [] → u.jobOk (u.candPart c) a 16 true = true → u.badIn a 16 = none →
      u.dramReady (.intake c.queue) (u.candPart c) (linesOf a 16) = true → ∃ (t : State) (job : CoreJob), exec (.jobDispatch k) s = .next t ∧ (t.core k).job = some job ∧
        job.part = (u.queue c.queue).owner ∧ (t.core k).pc = c.desc.program ∧ getS (t.core k).s 1 = c.desc.args ∧
        (∀ i b, (u.argsWord c)[i]? = some b → t.ramByte (a + i) = b) ∧ (∀ x, (x < a ∨ a + 16 ≤ x) → t.ramByte x = u.ramByte x) ∧ (∀ i, i ≠ k.val → t.core i = u.core i)) ∧
    (∀ k, s.isHeld = false → s.fenced = true → exec (.jobDispatch k) s = .next s) ∧
    (∀ (k : CoreId) (job : CoreJob) (e : DtEnt), (s.core k).job = some job → Tbl.find s.qm.dt job.dt = some e → s.runs k = true → (s.core k).finished = true → s.windowsDone k = true →
      (job.err ≠ 0 ∨ (e.desc.fdmEn = false ∧ s.isTwin e.part e.desc = false)) → ∃ (t : State) (r : Rec), exec (.jobRetire k) s = .next t ∧ (t.core k).job = none ∧ (t.core k).ended = false ∧
        t.reg (kCore k 0x20) = BitVec.ofNat 32 ((s.core k).twinCrc ^^^ 0xFFFFFFFF) ∧ r.status = (if job.err = 0 then 0 else 1) ∧ r.code = job.err ∧ r.core = k.val ∧ r.dt = some job.dt ∧
        r.crc = t.reg (kCore k 0x20) ∧ t.queue e.queue = (s.queue e.queue).setJob e.pos (fun y => { y with at_ := .done r }) ∧ keepsRam s t ∧
        t = { s with regs := t.regs, cores := t.cores, qm := t.qm, part := t.part }) ∧
    (∀ (k : CoreId) (job : CoreJob) (e : DtEnt), (s.core k).job = some job → Tbl.find s.qm.dt job.dt = some e → s.runs k = true → (s.core k).finished = true → s.windowsDone k = true →
      ∃ (t : State) (r : Rec), exec (.jobRetire k) s = .next t ∧ (t.core k).job = none ∧ r.status = (if job.err = 0 then 0 else 1) ∧ r.code = job.err ∧ r.dt = some job.dt ∧
        t.queue e.queue = (s.queue e.queue).setJob e.pos (fun y => { y with at_ := .done r }) ∧ (∀ i, i ≠ k.val → t.core i = s.core i) ∧ keepsRam s t ∧
        (job.err = 0 → s.isTwin e.part e.desc = true → ∀ x, s.pairOf e.desc.twinId e.frame = some x →
          (t.pairOf e.desc.twinId e.frame).map TwinPair.retired = some (x.retired + 1)) ∧
        t = { s with regs := t.regs, cores := t.cores, qm := t.qm, part := t.part, tb := t.tb, reeve := t.reeve }) ∧
    (∀ k : CoreId, s.windowsDone k = false → exec (.jobRetire k) s = .next s) ∧
    (∀ (dt : BitVec 10) (e : DtEnt) (r : Rec), Tbl.find s.qm.dt dt.toNat = some e → s.retiredOf e = some r → e.part = s.perc → r.cleared = false → r.status = 0 → e.desc.fdmEn = true →
      s.fenced = false → s.reeve.alive = true → (s.isTwin e.part e.desc = false ∨ ∃ x, s.pairOf e.desc.twinId e.frame = some x ∧ 2 ≤ x.retired ∧ x.same = true) →
      ∃ t, exec (.reeveClearance dt) s = .next t ∧ t.queue e.queue = (s.queue e.queue).setJob e.pos (fun y => { y with at_ := .done { r with cleared := true } }) ∧
        e.desc.timer ∈ (t.verdictOf e.frame).cleared ∧ (s.verdictReady ((s.verdictOf e.frame).take e r) = true → (t.verdictOf e.frame).released = true) ∧ keepsRam s t) ∧
    (∀ (dt : BitVec 10) (e : DtEnt) (r : Rec), Tbl.find s.qm.dt dt.toNat = some e → s.retiredOf e = some r → e.part = s.perc → r.cleared = false → r.status ≠ 3 → s.fenced = false →
      s.reeve.alive = true → (s.isTwin e.part e.desc = false ∨ ∃ x, s.pairOf e.desc.twinId e.frame = some x ∧ 2 ≤ x.retired ∧ x.same = true) → (e.desc.fdmEn = false ∨ r.status ≠ 0) → ∃ t, exec (.reeveClearance dt) s = .next t ∧
        t.queue e.queue = (s.queue e.queue).setJob e.pos (fun y => { y with at_ := .done { r with cleared := true } }) ∧ t = { s with qm := t.qm }) ∧
    (∀ (dt : BitVec 10) (e : DtEnt) (x : TwinPair), Tbl.find s.qm.dt dt.toNat = some e → s.isTwin e.part e.desc = true → s.pairOf e.desc.twinId e.frame = some x → x.same = false →
      exec (.reeveClearance dt) s = .next s)

/-- The oldest descriptor's ready record of a RUNNING queue with a free entry and without an interrupt goes to host memory at the next ring
entry, where the function can write; it leaves the queue, RECS counts, DONE counts where it ran, and its Dispatch Table entry is free.
With the ring full nothing is written. A coalescing window that has lasted its time closes and its message leaves. A job that has not
retired by its deadline raises 0x4201 with its queue and, where it was dispatched, its index, counts the deadline faults and is marked late;
one already late does nothing. -/
def Obligations.RecordsMessagesAndDeadlinesFollow : Prop :=
  ∀ s : State, State.Ok s → Tbl.wf s.qm.dt = true →
    (∀ (q : BitVec 16) (x : QueueSt) (j : QJob) (r : Rec), s.queue q.toNat = x → s.nextRecord q.toNat = some (j, r) → x.state = 1 → x.intEn = false → j.fold = none → r.status ≠ 3 →
      s.hostReachable x.owner = true → ∃ t, exec (.completionRecordWrite q) s = .next t ∧
        t.emitted = s.emitted ++ [.hostWrite x.owner (x.cq + 32 * (x.recs.toNat % x.size)) (recBytes q.toNat x j r)] ∧
        t.queue q.toNat = { x with recs := x.recs + 1, done := if r.status ≤ 1 then x.done + 1 else x.done, jobs := x.jobs.drop 1 } ∧
        (∀ i, r.dt = some i → Tbl.find t.qm.dt i = none) ∧ (∀ i, r.dt ≠ some i → Tbl.find t.qm.dt i = Tbl.find s.qm.dt i) ∧ (∀ p, p ≠ q.toNat → t.queue p = s.queue p) ∧
        t = { s with qm := t.qm, emitted := t.emitted }) ∧
    (∀ (q : BitVec 16) (x : QueueSt) (j : QJob) (r : Rec), s.queue q.toNat = x → s.nextRecord q.toNat = some (j, r) → s.hostReachable x.owner = true →
      ∃ t es, exec (.completionRecordWrite q) s = .next t ∧ t.emitted = s.emitted ++ [.hostWrite x.owner (x.cq + 32 * (x.recs.toNat % x.size)) (recBytes q.toNat x j r)] ++ es ∧
        (t.queue q.toNat).recs = x.recs + 1 ∧ (t.queue q.toNat).jobs = x.jobs.drop 1 ∧ (t.queue q.toNat).done = (if r.status ≤ 1 then x.done + 1 else x.done) ∧
        (t.queue q.toNat).window = (x.window || (x.intEn && decide (x.coalesceUs ≠ 0))) ∧ keepsRam s t) ∧
    (∀ q : BitVec 16, (s.queue q.toNat).ringFull = true → exec (.completionRecordWrite q) s = .next s) ∧
    (∀ (q : BitVec 16) us, (s.queue q.toNat).window = true → (s.queue q.toNat).coalesceUs ≤ us → ∃ t, exec (.coalesceExpiry q us) s = .next t ∧
      t.queue q.toNat = { s.queue q.toNat with window := false } ∧ (∀ p, p ≠ q.toNat → t.queue p = s.queue p) ∧
      (s.inReset (s.queue q.toNat).owner = false → s.msixReady (s.queue q.toNat).owner (s.queue q.toNat).vector = true →
        t.emitted = s.emitted ++ [.msix (s.queue q.toNat).owner (s.queue q.toNat).vector]) ∧ t = { s with qm := t.qm, regs := t.regs, emitted := t.emitted }) ∧
    (∀ (q : BitVec 16) pos us (j : QJob) d i, (s.queue q.toNat).jobAt pos = some j → s.deadlineOf j = some (d, some i) → d ≠ 0 → d ≤ us →
      s.recovering = false →
      (j.late = false → ∃ t ev, exec (.jobDeadlineExpiry q pos us) s = .next t ∧ ev.code = 0x4201 ∧ ev.disp = .jobFault ∧ ev.info = BitVec.ofNat 64 (q.toNat + i * 2 ^ 16) ∧
        t.reg kDeadlineFaults = (s.bump kDeadlineFaults).reg kDeadlineFaults ∧ keepsRegs s t [kDeadlineFaults] ∧ keepsRam s t ∧
        t.reeve = { s.reeve with events := s.reeve.events ++ [ev] } ∧ t.queue q.toNat = (s.queue q.toNat).setJob pos (fun y => { y with late := true }) ∧
        t = { s with regs := t.regs, qm := t.qm, reeve := t.reeve }) ∧
      (j.late = true → exec (.jobDeadlineExpiry q pos us) s = .next s)) ∧
    (∀ (q : BitVec 16) pos us (j : QJob) d, (s.queue q.toNat).jobAt pos = some j → s.deadlineOf j = some (d, none) → d ≠ 0 → d ≤ us → j.late = false →
      ∃ t ev, exec (.jobDeadlineExpiry q pos us) s = .next t ∧ ev.code = 0x4201 ∧ ev.disp = .jobFault ∧ ev.info.toNat % 2 ^ 16 = q.toNat ∧
        t.reg kDeadlineFaults = (s.bump kDeadlineFaults).reg kDeadlineFaults ∧ keepsRegs s t [kDeadlineFaults] ∧ keepsRam s t ∧
        t.reeve = { s.reeve with events := s.reeve.events ++ [ev] } ∧ t.queue q.toNat = (s.queue q.toNat).setJob pos (fun y => { y with late := true }) ∧
        t = { s with regs := t.regs, qm := t.qm, reeve := t.reeve, draws := s.draws + 1 })

/-- Without a save buffer a due pre-emption only counts QM_NO_SAVE; with one, on a core without stores, drain or open pass, the buffer is the
job's and the sequencer stops; closed by the fence it does nothing. Once quiet, the save frees the core, marks the entry pre-empted with
its buffer and counts it, in OPA_SAVES too. The resumption of the pre-empted job that arbitration picks, its image carrying the right marks, puts the job
back on the core with the saved pc and signature and releases the save buffer; a wrong image raises 0x4203. -/
def Obligations.PreemptionSavesAndResumes : Prop :=
  ∀ s : State, State.Ok s →
    (∀ (k : CoreId) (job : CoreJob), (s.core k).job = some job → s.fenced = false → s.isHeld = false → s.paused k = false → s.preemptDue k = true →
      (s.chooseSave k job.part = none → exec (.preemptionRequest k) s = .next (s.bump kNoSave)) ∧
      (∀ b, s.chooseSave k job.part = some b → (s.core k).sb = [] → (s.core k).drain = none → (s.core k).accs = [] → (s.core k).bundle = none →
        ∃ t, exec (.preemptionRequest k) s = .next t ∧ (t.core k).stopping = true ∧ (t.core k).job = some job ∧
          (t.core k).grn.recOf b = { held := true, part := job.part, eng := 5, dt := job.dt } ∧ keepsRegs s t [kCore k 0xC28] ∧ keepsRam s t ∧
          (∀ i, i ≠ k.val → t.core i = s.core i) ∧ t = { s with cores := t.cores, regs := t.regs })) ∧
    (∀ (k : CoreId) (job : CoreJob) b, (s.core k).job = some job → s.fenced = false → s.isHeld = false → s.paused k = false → s.preemptDue k = true → s.chooseSave k job.part = some b →
      ∃ t, exec (.preemptionRequest k) s = .next t ∧ (t.core k).stopping = true ∧ (t.core k).job = some job ∧ (∀ h, (t.core k).bundle = some h → h.issued = true) ∧
        (t.core k).grn.recOf b = { held := true, part := job.part, eng := 5, dt := job.dt } ∧ (∀ i, i ≠ k.val → t.core i = s.core i)) ∧
    (∀ k : CoreId, s.fenced = true → exec (.preemptionRequest k) s = .next s ∧ (∀ e, exec (.jobResume k e) s = .next s)) ∧
    (∀ (k : CoreId) (ns : Nat) (job : CoreJob) (b : Nat) (e : DtEnt), (s.core k).job = some job → s.saveBufOf k job = some b → Tbl.find s.qm.dt job.dt = some e → s.runs k = true →
      (s.core k).stopping = true → (s.core k).quiet = true → s.windowsDone k = true → ∃ (t : State) (x : Saved), exec (.coreSaveComplete k ns) s = .next t ∧
        t.reg (kOpaSaves k) = (s.bump (kOpaSaves k)).reg (kOpaSaves k) ∧ (t.core k).job = none ∧ (t.core k).stopping = false ∧
        Tbl.find t.qm.dt job.dt = some { e with preempted := true, saved := some x } ∧ x.buf = b ∧ x.err = job.err ∧
        t.reg kPreempts = (s.bump kPreempts).reg kPreempts ∧ (∀ i, t.queue i = s.queue i) ∧ keepsRam s t) ∧
    (∀ (k : CoreId) (c : Cand) (u : State) (i : Nat) (e : DtEnt) (x : Saved) (bs h : List Byte), s.isHeld = false → s.fenced = false → s.asleep = false → s.coreFree k = true →
      s.rejectForgotten.pick k = (some c, u) → c.pre = some i → Tbl.find u.qm.dt i = some e → e.saved = some x → bs = u.grnBytes k (u.bufOffset x.buf) 73728 →
      h = u.grnBytes k (u.bufOffset x.buf + 73728) 512 →
      (fieldAt bs 0 4 = 0x53564352 → fieldAt bs 4 2 = i → fieldAt bs 6 1 = e.part → fieldAt bs 7 1 = k.val →
        arrayImageOk h (((restoreQ ((bs.drop 1024).take 512) (bitsAt (fieldAt bs 28 4) 0 6) x.opaFrom).head?.map (fun y => y.vals.getD 2 0)).getD 0) = true →
        ∃ (t : State) (job : CoreJob), exec (.jobResume k []) s = .next t ∧ (t.core k).job = some job ∧ job.dt = i ∧ job.part = e.part ∧ job.err = x.err ∧
          (t.core k).pc = BitVec.ofNat 64 (fieldAt bs 8 8) ∧ (t.core k).sig = BitVec.ofNat 64 (fieldAt bs 16 8) ∧ ((t.core k).grn.recOf x.buf).held = false ∧
          Tbl.find t.qm.dt i = some { e with saved := none } ∧ t.reg (kOpaRestores k) = (u.bump (kOpaRestores k)).reg (kOpaRestores k) ∧
          keepsRegs u t [kOpaRestores k] ∧ keepsRam u t) ∧
      (fieldAt bs 0 4 ≠ 0x53564352 → ∃ t ev, exec (.jobResume k []) s = .next t ∧ ev.code = 0x4203 ∧ ev.disp = .jobFault ∧ OnlyRegsEvents u t [] [ev]))

/-- For a physical function that answers. PERC moves to an enabled partition while every queue is DISABLED and LOCK is clear, else REJECTED;
LOCK is set by a written 1. A window is stored whole while the partition's queues are DISABLED and, where enabled, it is not empty, lies
in the usable DRAM and, without RO, overlaps no other partition's; a locked perception partition's is rejected. CAP and RES/LIM are stored
within their bounds. A reset of partitions with active perception queues is rejected; a reset otherwise stops every core that runs a job
of the partition, with its five engine resets requested. Clearing POOL_EN with no job about frees every buffer. A virtual function's write
to any of these changes nothing. -/
def Obligations.PartitionTableWritesFollowTheirRules : Prop :=
  ∀ (s : State) (v : Word), State.Ok s →
    (s.turnsAway 0 = false →
      (fPerc.ofWord v ≠ s.perc → fLock.ofWord v = 0 → s.anyQueueActive = false → s.flag fLock = false → s.partEnabled (fPerc.ofWord v) = true →
        ∃ t, exec (.partPercWrite 0 v) s = .next t ∧ t.perc = fPerc.ofWord v ∧ OnlyRegs s t [kPartCtrl]) ∧
      (fPerc.ofWord v ≠ s.perc → (s.anyQueueActive = true ∨ s.flag fLock = true ∨ s.partEnabled (fPerc.ofWord v) = false) →
        ∃ t, exec (.partPercWrite 0 v) s = .next t ∧ t.flag fPartRejected = true ∧ OnlyRegs s t [0x28004]) ∧
      (fLock.ofWord v = 1 → fPerc.ofWord v = s.perc → ∃ t, exec (.partLock 0 v) s = .next t ∧ t.flag fLock = true ∧ t.perc = s.perc ∧ OnlyRegs s t [kPartCtrl]) ∧
      (∀ (p : Part) (w : Fin 4), s.queuesActive p = false → (s.flag fLock = false ∨ p.val ≠ s.perc) →
        ((fWinEn p w).ofWord v = 0 ∨ ((fWinSize p w).ofWord v ≠ 0 ∧ (fWinBase p w).ofWord v + (fWinSize p w).ofWord v ≤ s.get fUsableGib * 512 ∧
          ((fWinRo p w).ofWord v = 1 ∨ s.winClash p ((fWinBase p w).ofWord v) ((fWinSize p w).ofWord v) = false))) →
        ∃ t, exec (.partWinWrite 0 p w v) s = .next t ∧ t.reg (kPart p (4 + 4 * w.val)) = v ∧ OnlyRegs s t [kPart p (4 + 4 * w.val)]) ∧
      (∀ (p : Part) (w : Fin 4), (s.queuesActive p = true ∨ (s.flag fLock = true ∧ p.val = s.perc)) →
        ∃ t, exec (.partWinWrite 0 p w v) s = .next t ∧ t.flag fPartRejected = true ∧ OnlyRegs s t [0x28004]) ∧
      (s.flag fLock = false → bitsAt v.toNat 0 13 ≤ s.peakLines → (bitsAt v.toNat 0 13 = 0 ∨ s.resSum none 0 ≤ bitsAt v.toNat 0 13) →
        ∃ t, exec (.dramRegulatorWrite 0 none v) s = .next t ∧ (t.reg kDramCap).toNat = bitsAt v.toNat 0 13 ∧ OnlyRegs s t [kDramCap]) ∧
      (∀ p : Part, (s.flag fLock = false ∨ p.val ≠ s.perc) → resOf v ≤ limOf v → ((s.reg kDramCap).toNat = 0 ∨ s.resSum (some p.val) v ≤ (s.reg kDramCap).toNat) →
        ∃ t, exec (.dramRegulatorWrite 0 (some p) v) s = .next t ∧ resOf (t.reg (kDramReg p)) = resOf v ∧ limOf (t.reg (kDramReg p)) = limOf v ∧ OnlyRegs s t [kDramReg p]) ∧
      (v.toNat.testBit s.perc = true → s.queuesActive s.perc = true → ∃ t, exec (.partResetWrite 0 v) s = .next t ∧ t.flag fPartRejected = true ∧ OnlyRegs s t [0x28004]) ∧
      (∀ p : Part, v = BitVec.ofNat 32 (2 ^ p.val) → (p.val ≠ s.perc ∨ s.queuesActive p = false) → s.flag (fResetting p) = false →
        s.resetsHeld = false → Tbl.wf s.cores = true → ∃ t, exec (.partResetWrite 0 v) s = .next t ∧ t.inReset p = true ∧
          (∀ k j, (s.core k).job = some j → j.part = p.val → (s.core k).resetting = [] →
            (t.core k).job = none ∧ (t.core k).resetting = [0, 1, 2, 3, 4] ∧ (t.core k).resetPart = some p.val) ∧
          (∀ i, t.queue i = s.queue i) ∧ keepsRegs s t [0x28004] ∧ keepsRam s t ∧
          t = { s with regs := t.regs, cores := t.cores, qm := t.qm, part := { s.part with asks := s.part.asks.filter (fun x => x.part != p.val) } }) ∧
      (fPoolEn.ofWord v = 0 → s.flag (fIslOff 0) = false → (∀ e ∈ s.cores, e.2.job = none) → (∀ e ∈ s.qm.dt, e.2.saved = none) →
        ∃ t, exec (.poolDisable 0 v) s = .next t ∧ t.flag fPoolEn = false ∧
          (∀ k i, k < 16 → k < s.nCores → ((t.core k).grn.recOf i).held = false ∧ (t.core k).grn.tagged = []) ∧
          keepsRegs s t [0x50100] ∧ keepsRam s t ∧ t = { s with regs := t.regs, cores := t.cores }) ∧
      (fPoolEn.ofWord v = 0 → (∃ e ∈ s.cores, e.2.job ≠ none) → ∃ t, exec (.poolDisable 0 v) s = .next t ∧ t.flag ⟨0x5000C, 0, 1⟩ = true ∧ OnlyRegs s t [0x5000C])) ∧
    (∀ (fn : Fn) (p : Part) (w : Fin 4) (o : Option Part), fn ≠ 0 → s.turnsAway fn = false → exec (.partPercWrite fn v) s = .next s ∧ exec (.partLock fn v) s = .next s ∧
      exec (.partResetWrite fn v) s = .next s ∧ exec (.partWinWrite fn p w v) s = .next s ∧ exec (.dramRegulatorWrite fn o v) s = .next s ∧ exec (.poolDisable fn v) s = .next s)

/-- A finished partition reset leaves RESETTING clear, the partition's queues DISABLED and empty and its Dispatch Table entries and buffers
gone. A period clears the lines used and puts the written configuration in force. What a regulator holds is admitted until it admits none,
oldest first and in turn, each charged once; a port then sends. A new request is admitted with no cap, its lines charged and counted; past
its limit it waits and is counted. A refill raises each regulated balance of an idle core by G, up to G. JOB_LOST
due to a partition fills its three registers, with the restart frame, and sets its event. A pending message that can be sent leaves and
its bit clears. A parity error raises its code and changes nothing else but a bad conversation slot. -/
def Obligations.RegulatorsAnnouncementsAndResetsAct : Prop :=
  ∀ s : State, State.Ok s →
    (∀ p : Part, s.inReset p = true → s.enginesDone p = true → s.sweepDue = false → s.goneDue p = false → Tbl.wf s.qm.queues = true → ∃ t, exec (.partitionResetComplete p) s = .next t ∧
      t.flag (fResetting p) = false ∧ (∀ q, (s.queue q).owner = p.val → (t.queue q).state = 0 ∧ (t.queue q).jobs = [] ∧ (t.queue q).ctx = (s.queue q).ctx) ∧
      (∀ q, (s.queue q).owner ≠ p.val → t.queue q = s.queue q) ∧ (∀ e ∈ t.qm.dt, e.2.part ≠ p.val) ∧
      (∀ k i, k < 16 → ((t.core k).grn.recOf i).held = true → ((t.core k).grn.recOf i).part ≠ p.val) ∧ keepsRam s t) ∧
    (∀ p : Part, (s.inReset p = false ∨ s.enginesDone p = false ∨ s.sweepDue = true ∨ s.goneDue p = true) → exec (.partitionResetComplete p) s = .next s) ∧
    (∃ t, exec .regulatorPeriod s = .next t ∧ (∀ r, (t.regSt r).used = [] ∧ (t.regSt r).last = (s.regSt r).last) ∧ t.part.asks = s.part.asks ∧
      t.part.cap = s.reg kDramCap ∧ (∀ p, p < 8 → t.part.dramReg.getD p 0 = s.reg (kDramReg p)) ∧ t = { s with part := t.part }) ∧
    (∀ u : State, u = State.admitHeld s.part.asks.length s → exec (.requestAdmit none) s = .next u.goOn ∧ u.nextHeld = none ∧
      u.part.asks.map (fun (x : Ask) => { x with admitted := true }) = s.part.asks.map (fun (x : Ask) => { x with admitted := true }) ∧
      (∀ (j : Nat) (x : Ask), s.part.asks[j]? = some x → x.admitted = true → u.part.asks[j]? = some x) ∧
      (∀ x, s.part.asks = [x] → x.admitted = false → x.part < 8 → s.admits 0 x.part = true → u.part.asks = [{ x with admitted := true }] ∧
        (x.lines ≠ 0 → (u.regSt 0).last = x.part ∧ Tbl.getD (u.regSt 0).used x.part 0 = Tbl.getD (s.regSt 0).used x.part 0 + x.lines ∧
          u.reg (kLines x.part) = (s.bumpBy (kLines x.part) x.lines).reg (kLines x.part))) ∧
      keepsRegs s u ((List.range 8).map kLines) ∧ keepsRam s u ∧ u = { s with regs := u.regs, part := u.part }) ∧
    (∀ i : Fin 4, s.flag (fKlyLocked i) = true → s.klyIsUp i = true → (s.kport i).regHeld ≠ [] → (s.kport i).ackDue = false → (s.kport i).nakDue = false → (s.kport i).creditDue = 0 →
      (s.kport i).resend = none → exec (.requestAdmit (some i)) s = .next (s.klyNew i) ∧
        (∀ f r, (s.kport i).aborts = [] → (s.kport i).fwd = [] → (s.kport i).own = f :: r → f.type = 1 → (s.kport i).room f = true → s.klyAdmits i f = true →
          ∃ (t : State) (g : KFrame), s.klyNew i = t ∧ g = { f with lseq := (s.kport i).txNext % 4096, ackseq := (s.kport i).rxNext % 4096 + 32768 } ∧
            t.emitted = s.emitted ++ [.klyFrame i g.bytes, .klyBlocks i (s.frameBlocks i g.bytes).1] ∧ (t.kport i).own = r ∧
            Tbl.getD (t.regSt (1 + i)).used f.part 0 = Tbl.getD (s.regSt (1 + i)).used f.part 0 + f.lines)) ∧
    (∀ (u : DramUser) (p : Part) (n : Nat), s.askOf u = none → n ≠ 0 →
      (s.part.cap = 0 → (∀ x ∈ s.part.asks, x.part ≠ p.val) → s.askAdmitted u p n = true) ∧
      (s.quiescing u = false → s.admits 0 p = false → s.dramReady u p n = false ∧ (s.dramWait u p n).part.asks = s.part.asks ++ [⟨u, p.val, n, false, false⟩] ∧
        (s.dramWait u p n).reg (kHeld 0 p) = (s.bump (kHeld 0 p)).reg (kHeld 0 p)) ∧
      Tbl.getD ((s.dramTake u p n).regSt 0).used p 0 = Tbl.getD (s.regSt 0).used p 0 + n ∧ (s.dramTake u p n).reg (kLines p) = (s.bumpBy (kLines p) n).reg (kLines p) ∧
      (s.dramTake u p n).askOf u = none) ∧
    ((∀ k j, (s.core k).job = some j → j.part < 8) → ∃ t, exec .granaryBalanceRefill s = .next t ∧
      (∀ k p, k < 16 → p < 8 → (s.core k).job = none → t.balance k p = (if s.regulated k p then min (s.balance k p + s.grnShareNs p) (s.grnShareNs p) else s.balance k p)) ∧
      (∀ k p, k < 16 → p < 8 → s.regulated k p = true → t.balance k p ≤ s.grnShareNs p) ∧ keepsRam s t ∧ t = { s with regs := t.regs, part := t.part }) ∧
    (∀ (p : Part) (code n : Nat) (r : Recovery) (f : Word), s.part.lostDue = [(p.val, code, n)] → s.reeve.recovery = some r → r.noRestart = false →
      s.restartFrame r.detect r.minFrame = some f → code < 65536 → n < 2 ^ 32 → ∃ t, exec .jobLostAnnounce s = .next t ∧
        (t.reg (kPart p 0x30)).toNat = code * 65536 + (bitsAt (s.reg (kPart p 0x30)).toNat 0 8 + 1) % 256 ∧ (t.reg (kPart p 0x34)).toNat = n ∧ t.reg (kPart p 0x38) = f ∧
        t.flag (fPartEvent p 0) = true ∧ t.part = { s.part with lostDue := [] } ∧ keepsRam s t ∧ t = { s with regs := t.regs, part := t.part, emitted := t.emitted }) ∧
    (s.part.lostDue = [] → exec .jobLostAnnounce s = .next s) ∧
    (Tbl.wf s.part.lostDue = true → (∀ e ∈ s.part.lostDue, e.1 < 8 ∧ e.2.1 < 65536 ∧ e.2.2 < 2 ^ 32) → ∃ t, exec .jobLostAnnounce s = .next t ∧ t.part = { s.part with lostDue := [] } ∧
      (∀ e ∈ s.part.lostDue, (t.reg (kPart e.1 0x30)).toNat = e.2.1 * 65536 + (bitsAt (s.reg (kPart e.1 0x30)).toNat 0 8 + 1) % 256 ∧ (t.reg (kPart e.1 0x34)).toNat = e.2.2 ∧
        t.flag (fPartEvent e.1 0) = true ∧
        ∀ r f, s.reeve.recovery = some r → r.noRestart = false → s.restartFrame r.detect r.minFrame = some f → t.reg (kPart e.1 0x38) = f) ∧
      keepsRam s t ∧ t = { s with regs := t.regs, part := t.part, emitted := t.emitted, draws := t.draws }) ∧
    (∀ (fn : Fn) (v : BitVec 7), s.flag (fVecPend fn v.toNat) = true → s.msixReady fn v.toNat = true → s.inReset fn = false → v.toNat < vectorsOf fn → ∃ t,
      exec (.msixSend fn v) s = .next t ∧ t.flag (fVecPend fn v.toNat) = false ∧ t.emitted = s.emitted ++ [.msix fn v.toNat] ∧ keepsRegs s t [(fVecPend fn v.toNat).key] ∧
      keepsRam s t ∧ t = { s with regs := t.regs, emitted := t.emitted }) ∧
    (∀ (k : CoreId) (p : Part), (∃ t ev, exec (.backgroundParityCheck (.tally k)) s = .next t ∧ ev.code = 0x2402 ∧ ev.disp = .jobFault ∧ OnlyRegsEvents s t [] [ev]) ∧
      (∃ t ev, exec (.backgroundParityCheck (.pages k)) s = .next t ∧ ev.code = 0x3202 ∧ ev.disp = .jobFault ∧ OnlyRegsEvents s t [] [ev]) ∧
      (∃ t ev, exec (.backgroundParityCheck .dispatch) s = .next t ∧ ev.code = 0x4202 ∧ ev.disp = .jobFault ∧ OnlyRegsEvents s t [] [ev]) ∧
      (∃ t ev, exec (.backgroundParityCheck (.partition p)) s = .next t ∧ ev.code = 0x4401 ∧ ev.disp = .jobFault ∧ OnlyRegsEvents s t [] [ev])) ∧
    (∀ n, ∃ t ev, exec (.backgroundParityCheck (.slot n)) s = .next t ∧ ev.code = 0x4604 ∧ ev.disp = .jobFault ∧ t.reeve = { s.reeve with events := s.reeve.events ++ [ev] } ∧
      t.slot n = { s.slot n with bad := true } ∧ t = { s with qm := t.qm, reeve := t.reeve })

/-- With frames disabled or the device Banked a boundary does nothing. Otherwise, with no recovery: FRAME_NUM is the grid's number, the next
boundary is one further, the Timebase has reached it, each enabled deadline timer has a slot armed at its offset after it, and each
RUNNING FRAME queue with fewer than two open replays has its descriptors submitted for the frame. At an accepted apply the pending period,
base and epoch change. A deadline without a mark leaves the armed slots: in FAULT mode it raises 0xA201 with timer and frame; in COUNT
mode it counts FDL_MISS and sets event 2 of the timer's partition. -/
def Obligations.FrameBoundariesAndDeadlineMissesAct : Prop :=
  ∀ s : State, State.Ok s →
    (∀ m, (s.flag fFrameEn = false ∨ pwrBanked ≤ s.get fPwrState) → exec (.frameBoundary m) s = .next s) ∧
    (∀ m, s.flag fFrameEn = true → s.get fPwrState < pwrBanked → s.reeve.recovery = none → s.tb.applyAt = none → Tbl.wf s.qm.queues = true → s.boundaryAt s.tb.next < 2 ^ 64 →
      ∃ t, exec (.frameBoundary m) s = .next t ∧ t.reg kFrameNum = BitVec.ofNat 32 s.tb.next ∧ t.tb.next = s.tb.next + 1 ∧ s.boundaryAt s.tb.next ≤ t.now ∧
        (∀ k, k < 8 → s.flag (fFdlEn k) = true →
          FdlSlot.mk k (BitVec.ofNat 32 s.tb.next) (s.boundaryAt s.tb.next + s.get (fFdlOffset k) * 1000) false ∈ t.tb.slots) ∧
        (∀ q, (s.queue q).state = 1 → (s.queue q).isFrame = true → s.inReset (s.queue q).owner = false → (s.queue q).openReplays.length < 2 →
          ∃ js, (t.queue q).jobs = (s.queue q).jobs ++ js ∧ js.length = (s.queue q).frameCount ∧
            ∀ i j, js[i]? = some j → j.pos = (s.queue q).next + i ∧ j.slot = i ∧ j.replay = some (BitVec.ofNat 32 s.tb.next) ∧ j.submit = s.boundaryAt s.tb.next) ∧
        keepsRam s t ∧ t = { s with regs := t.regs, tb := t.tb, mill := t.mill, qm := t.qm }) ∧
    (∀ m (p : Word), s.flag fFrameEn = true → s.get fPwrState < pwrBanked → s.reeve.recovery = none → s.tb.applyAt = some (BitVec.ofNat 32 s.tb.next) →
      s.tb.pendPeriod = some p → s.boundaryAt s.tb.next < 2 ^ 64 → ∃ t, exec (.frameBoundary m) s = .next t ∧ t.reg kFrameNum = BitVec.ofNat 32 s.tb.next ∧
        t.period = p.toNat ∧ t.reg kFrameBase = BitVec.ofNat 32 s.tb.next ∧ t.tb.base = s.tb.next ∧ (t.reg64 kFrameEpoch).toNat = s.boundaryAt s.tb.next ∧
        t.tb.applyAt = none ∧ t.tb.pendPeriod = none ∧ t.flag fPeriodPending = false) ∧
    (∀ (k : Fin 8) (sl : FdlSlot), s.missingSlot k.val = some sl → sl.satisfied = false → s.openPairs sl = [] → sl.timer = k.val →
      (s.fdlFaults k.val = true → ∃ t ev, exec (.frameDeadlineMiss k) s = .next t ∧ ev.code = 0xA201 ∧ ev.disp = .jobFault ∧
        ev.info = BitVec.ofNat 64 (k.val + sl.frame.toNat * 2 ^ 32) ∧ t.reeve = { s.reeve with events := s.reeve.events ++ [ev] } ∧
        t.tb.slots = s.tb.slots.filter (· != sl) ∧ t.tb.missed = s.tb.missed ++ [(k.val, sl.frame)] ∧ keepsRegs s t [] ∧ keepsRam s t) ∧
      (s.fdlFaults k.val = false → ∃ t, exec (.frameDeadlineMiss k) s = .next t ∧ t.reg (kFdlMiss k.val) = (s.bump (kFdlMiss k.val)).reg (kFdlMiss k.val) ∧
        t.flag (fPartEvent (s.get (fFdlPart k.val)) 2) = true ∧ t.tb.slots = s.tb.slots.filter (· != sl) ∧ t.tb.missed = s.tb.missed ++ [(k.val, sl.frame)] ∧
        t.reeve = s.reeve ∧ keepsRam s t)) ∧
    (∀ k : Fin 8, s.missingSlot k.val = none → exec (.frameDeadlineMiss k) s = .next s)

/-- A doorbell to a busy mailbox sets OVERRUN and counts a violation. To an idle one: an unknown opcode answers UNKNOWN; a tag that fails
answers AUTH_FAIL and counts; a well-formed OPEN_REQ, or an authentic command with the next sequence number, starts, the number stored.
OPEN_REQ answers LOCKED during a lockout and NO_KEY without a key; with a listed or unlisted compatible runtime version it answers OK and
a pending open holds its nonce and verdict. A proof that verifies opens the session in the mode of its verdict, ends a lockout and sets
the sequence to 0; another counts a failed open and answers AUTH_FAIL. KEY_PROVISION fuses a key into a blank slot. KEEPALIVE and INFO
answer OK; CLOSE answers OK and closes the session. -/
def Obligations.MailboxCommandsAreCheckedAndAnswered : Prop :=
  ∀ (s : State) (fn : Fn), State.Ok s →
    (∀ v : Word, v.getLsbD 0 = true → s.turnsAway fn = false → s.boot.mailboxes = true →
      (s.flag (fMbxBusy fn) = true → ∃ t ev, exec (.mailboxDoorbell fn v 0) s = .next t ∧ t.flag (fMbxOverrun fn) = true ∧ ev.code = 0x6205 ∧ ev.disp = .violation ∧
        t.reg (kSecViol fn) = (s.bump (kSecViol fn)).reg (kSecViol fn) ∧ OnlyRegsEvents s t [ownN fn 0x48008, kSecViol fn] [ev]) ∧
      (s.flag (fMbxBusy fn) = false →
        (payloadLength (s.cmdOpcode fn) = none → ∃ t, exec (.mailboxDoorbell fn v 0) s = .next t ∧ Answered t fn (s.cmdOpcode fn) stUnknown ∧
          t.reg (kSecViol fn) = (s.bump (kSecViol fn)).reg (kSecViol fn)) ∧
        (s.cmdFormed fn = true → s.cmdOpcode fn = 1 → ∃ t, exec (.mailboxDoorbell fn v 0) s = .next t ∧ (t.session fn).started = true ∧ t.flag (fMbxBusy fn) = true ∧
          t.flag (fMbxDone fn) = false ∧ keepsRegs s t [ownN fn 0x48008] ∧ keepsRam s t ∧ t = { s with regs := t.regs, sess := t.sess }) ∧
        (s.cmdFormed fn = true → (s.cmdOpcode fn = 0x10 ∨ s.cmdOpcode fn = 0x11 ∨ s.cmdOpcode fn = 0x12) → s.sessOpen fn = true →
          (s.cmdTagOk fn = true → s.cmdSeq fn = (s.reg64 (kSecSeq fn)).toNat + 1 → s.cmdSeq fn < 2 ^ 64 → ∃ t, exec (.mailboxDoorbell fn v 0) s = .next t ∧
            (t.session fn).started = true ∧ (t.session fn).idleFrom = s.tb.ticks ∧ (t.reg64 (kSecSeq fn)).toNat = s.cmdSeq fn ∧
            keepsRegs s t [ownN fn 0x48008, kSecSeq fn, kSecSeq fn + 4] ∧ t = { s with regs := t.regs, sess := t.sess }) ∧
          (s.cmdTagOk fn = true → s.cmdSeq fn ≤ (s.reg64 (kSecSeq fn)).toNat → (s.reg64 (kSecSeq fn)).toNat ≠ 2 ^ 64 - 1 →
            ∃ t, exec (.mailboxDoorbell fn v 0) s = .next t ∧ Answered t fn (s.cmdOpcode fn) stReplay ∧ t.reg64 (kSecSeq fn) = s.reg64 (kSecSeq fn)) ∧
          (s.cmdTagOk fn = false → ∃ t, exec (.mailboxDoorbell fn v 0) s = .next t ∧ Answered t fn (s.cmdOpcode fn) stAuthFail ∧
            t.reg (kTagFail fn) = (s.bump (kTagFail fn)).reg (kTagFail fn))))) ∧
    (s.cmdIs fn 1 = true → (s.session fn).pend = none →
      ((s.session fn).lock.isSome = true → ∃ t, exec (.openReq fn true true) s = .next t ∧ Answered t fn 1 stLocked ∧ (t.session fn).pend = none) ∧
      ((s.session fn).lock = none → s.keyOf fn = none → ∃ t, exec (.openReq fn true true) s = .next t ∧ Answered t fn 1 stNoKey ∧ (t.session fn).pend = none) ∧
      (∀ psk, (s.session fn).lock = none → s.keyOf fn = some psk → s.runtimeClass (fieldAt (s.cmdPayload fn) 16 4) ≠ some 2 → ∃ (t : State) (x : PendOpen),
        exec (.openReq fn true true) s = .next t ∧ Answered t fn 1 stOk ∧ (t.session fn).pend = some x ∧ x.nh = (s.cmdPayload fn).take 16 ∧
        x.verdict = s.verdictFor (fieldAt (s.cmdPayload fn) 16 4) ∧ t.get (fSecState fn) = (if s.get (fSecState fn) = 0 then 1 else s.get (fSecState fn)) ∧ t.reeve = s.reeve)) ∧
    (∀ (x : PendOpen) psk, s.cmdIs fn 2 = true → (s.session fn).pend = some x → s.keyOf fn = some psk →
      (s.cmdPayload fn = hostProof psk fn x.nd x.nh x.runtime.toNat → ∃ t, exec (.openProof fn true) s = .next t ∧ Answered t fn 2 stOk ∧
        t.get (fSecState fn) = (s.modeFor x.verdict).1 + 1 ∧ (t.session fn).pend = none ∧ (t.session fn).lock = none ∧ (t.session fn).verdict = x.verdict ∧
        t.reg64 (kSecSeq fn) = 0 ∧ t.reg (kRtVer fn) = x.runtime ∧ t.get (fFails fn) = 0 ∧ t.get (fLockLevel fn) = 0) ∧
      (s.cmdPayload fn ≠ hostProof psk fn x.nd x.nh x.runtime.toNat → ∃ t, exec (.openProof fn true) s = .next t ∧ Answered t fn 2 stAuthFail ∧
        (t.session fn).pend = none ∧ t.reg (kOpenFails fn) = (s.bump (kOpenFails fn)).reg (kOpenFails fn))) ∧
    (∀ p key, s.cmdIs 0 3 = true → p = fieldAt (s.cmdPayload 0) 0 1 → key = ((s.cmdPayload 0).drop 4).take 32 → p ≤ 7 → Tbl.find s.fuse.psk p = none →
      fieldAt (s.cmdPayload 0) 36 4 = crc32c key → ∃ t, exec .keyProvision s = .next t ∧ Answered t 0 3 stOk ∧ Tbl.find t.fuse.psk p = some key ∧
        (∀ q, q ≠ p → Tbl.find t.fuse.psk q = Tbl.find s.fuse.psk q)) ∧
    (s.cmdIs fn 0x10 = true → ∃ t, exec (.keepalive fn) s = .next t ∧ Answered t fn 0x10 stOk ∧ t.get (fSecState fn) = s.get (fSecState fn) ∧
      t = { s with regs := t.regs, sess := t.sess, emitted := t.emitted }) ∧
    (s.cmdIs fn 0x12 = true → ∃ t, exec (.info fn) s = .next t ∧ Answered t fn 0x12 stOk ∧ t.get (fSecState fn) = s.get (fSecState fn) ∧
      t = { s with regs := t.regs, sess := t.sess, emitted := t.emitted }) ∧
    (s.cmdIs fn 0x11 = true → ∃ t, exec (.close fn) s = .next t ∧ Answered t fn 0x11 stOk ∧ t.get (fSecState fn) = 0 ∧ t.reg (kSessId fn) = 0 ∧
      t.reg64 (kSecSeq fn) = 0 ∧ (t.session fn).kCmd = [] ∧ (t.session fn).kRsp = [] ∧ (t.session fn).pend = none)

/-- FW_STAGE with a readable image of the stated digest passes it to the Steward (UPDATE 1), else answers VERIFY_FAIL. The Steward's accepted
image, read back, is in the inactive bank's slot, UPDATE is 2 and the answer OK; a failed check gives UPDATE 5, its code, and VERIFY_FAIL.
FW_ACTIVATE of a staged, listed pair starts the selector's write (UPDATE 3); an incompatible pair answers VERIFY_FAIL with 0x9204. The
selector's write leaves UPDATE 4 and the next sequence number. A pending open of 1 s ends as a failed one; the third in a row locks opens
out for 5 x 2^level s. A lockout ends after its time, an idle session closes with 0x6206, and a written 1 closes provisioning. -/
def Obligations.FirmwareStagingAndSessionTimersAct : Prop :=
  ∀ (s : State) (fn : Fn), State.Ok s →
    (∀ a n, s.cmdIs 0 0x20 = true → s.boot.job = none → a = fieldAt (s.cmdPayload 0) 8 8 → n = fieldAt (s.cmdPayload 0) 16 4 → s.badIn a n = none →
      (sha256 (s.ramBytes a n) = ((s.cmdPayload 0).drop 24).take 32 → ∃ t, exec .fwStage s = .next t ∧ t.get fUpdateState = 1 ∧
        (∃ j : StageJob, t.boot = { s.boot with job := some j } ∧ j.kind = fieldAt (s.cmdPayload 0) 0 1 ∧ j.image = s.ramBytes a n ∧ j.seq = s.cmdSeq 0 ∧ j.closed = false) ∧
        keepsRegs s t [0x6020] ∧ keepsRam s t ∧ t = { s with regs := t.regs, boot := t.boot }) ∧
      (sha256 (s.ramBytes a n) ≠ ((s.cmdPayload 0).drop 24).take 32 → ∃ t, exec .fwStage s = .next t ∧ Answered t 0 0x20 stVerifyFail ∧ t.boot = s.boot)) ∧
    (∀ j : StageJob, s.boot.job = some j → j.closed = false →
      (s.stageCode j = none → s.boot.opened = true → ∃ t, exec (.fwStageComplete true) s = .next t ∧ Answered t 0 0x20 stOk ∧ t.get fUpdateState = 2 ∧
        Tbl.find t.boot.flash.slots (slotOf s.inactive j.kind) = some j.image ∧ t.boot.job = none ∧ t.boot.staged = true) ∧
      (∀ code, s.stageCode j = some code → ∃ t, exec (.fwStageComplete true) s = .next t ∧ Answered t 0 0x20 stVerifyFail ∧ t.get fUpdateState = 5 ∧
        t.get fUpdateCode = code ∧ t.boot.job = none ∧ t.boot.staged = false ∧ t.boot.flash = s.boot.flash)) ∧
    (s.cmdIs 0 0x21 = true → s.boot.staged = true → s.boot.writing = false → s.boot.activated = false →
      (s.inactiveClass = 1 → ∃ t, exec .fwActivate s = .next t ∧ Answered t 0 0x21 stOk ∧ t.get fUpdateState = 3 ∧ t.boot = { s.boot with writing := true }) ∧
      (s.inactiveClass = 2 → ∃ t, exec .fwActivate s = .next t ∧ Answered t 0 0x21 stVerifyFail ∧ t.get fUpdateCode = 0x9204 ∧ t.boot = s.boot)) ∧
    (s.boot.writing = true → ∃ t, exec .selectorWriteComplete s = .next t ∧ t.get fUpdateState = 4 ∧ t.reg kSelSeq = BitVec.ofNat 32 (s.boot.flash.seq + 1) ∧
      t.boot.writing = false ∧ t.boot.staged = false ∧ t.boot.activated = true ∧
      (t.boot.flash.sel0 = selectorBytes (s.boot.flash.seq + 1) s.inactive ∨ t.boot.flash.sel1 = selectorBytes (s.boot.flash.seq + 1) s.inactive) ∧
      keepsRegs s t [0x6020, kSelSeq] ∧ keepsRam s t ∧ t = { s with regs := t.regs, boot := t.boot, draws := s.draws + 1 }) ∧
    (∀ ms, 1000 ≤ ms → (s.session fn).pend.isSome = true → ∃ t ev, exec (.openPendingExpiry fn ms) s = .next t ∧ (t.session fn).pend = none ∧ ev.code = 0x6201 ∧
      ev.disp = .violation ∧ t.reeve = { s.reeve with events := s.reeve.events ++ [ev] } ∧ t.reg (kOpenFails fn) = (s.bump (kOpenFails fn)).reg (kOpenFails fn) ∧
      (s.get (fFails fn) < 2 → t.get (fFails fn) = s.get (fFails fn) + 1 ∧ (t.session fn).lock = (s.session fn).lock) ∧
      (2 ≤ s.get (fFails fn) → t.get (fFails fn) = 0 ∧ (t.session fn).lock = some (s.tb.ticks, 5 * 2 ^ s.get (fLockLevel fn)) ∧
        t.get (fLockLevel fn) = min (s.get (fLockLevel fn) + 1) 5)) ∧
    (∀ sec since secs, (s.session fn).lock = some (since, secs) → secs ≤ sec → ∃ t, exec (.lockoutExpiry fn sec) s = .next t ∧
      t.session fn = { s.session fn with lock := none } ∧ (∀ p, p ≠ fn.val → t.session p = s.session p) ∧ t = { s with sess := t.sess }) ∧
    (∀ sec, s.sessOpen fn = true → s.get (fIdleS fn) ≤ sec → ∃ t, exec (.sessionIdleExpiry fn sec) s = .next t ∧ t.get (fSecState fn) = 0 ∧ t.reg (kSessId fn) = 0 ∧
      (t.session fn).kCmd = [] ∧ (∃ ev ∈ t.reeve.events, ev.code = 0x6206 ∧ ev.disp = .report)) ∧
    (∀ v : Word, s.turnsAway 0 = false → v.getLsbD 0 = true → exec (.secProvClose 0 v) s = .next { s with fuse := { s.fuse with provClosed := true } }) ∧
    (∀ v : Word, s.turnsAway fn = false → fn ≠ 0 → exec (.secProvClose fn v) s = .next s)

/-- Job faults that arrive together in a live device without a recovery, not HELD and not the third in 10 s, start one: the cause is one of
them that R616 prefers to all, RECOVERY is shown, the fence is closed, every enabled core is frozen, D and the cause are recorded, the
recovery is counted. A REPORT writes one fault-log entry, or is suppressed where one of its code and source was logged in the last 1 ms. A
VIOLATION waits for the violation log, or is dropped and counted at 64; written, it takes the next entry. A HELD event in a live device
outside a recovery makes the mode HELD, closes the fence, freezes the cores and sets HELD for every enabled partition. -/
def Obligations.FaultEventsReachTheirLogsAndRecovery : Prop :=
  ∀ s : State, State.Ok s →
    (∀ n, s.reeve.events ≠ [] → n = s.reeve.events.length → (∀ e ∈ s.reeve.events, e.disp = .jobFault) → s.reeve.alive = true → s.reeve.recovery = none → s.isHeld = false →
      s.faultsWith.length < 3 → ∃ t, ∃ r : Recovery, ∃ c ∈ s.reeve.events, exec (.faultEventArrival (List.replicate n none) .clean) s = .next t ∧
        (∀ e ∈ s.reeve.events, c.causeBefore e = true) ∧ t.reeve.recovery = some r ∧ r.cause = c.code ∧ r.source = c.source ∧ r.detect = s.now ∧ r.noRestart = false ∧ r.swept = false ∧
        t.mode = 1 ∧ t.fenced = true ∧ (∀ k, k < s.nCores → (t.core k).frozen = true) ∧ t.reg64 kDetect = s.tb.ns ∧ t.get fLastCause = c.code.toNat ∧
        t.reg kRecoveries = (s.bump kRecoveries).reg kRecoveries ∧ t.flag fCapturing = true ∧ t.tb.slots = [] ∧ t.qm.queues = s.qm.queues ∧ t.qm.dt = s.qm.dt ∧ keepsRam s t) ∧
    (∀ e rest, s.reeve.events = e :: rest → s.reeve.alive = true → e.disp = .report →
      (loggedLately s.reeve.flogLast e s.tb.ticks = false → ∃ t, exec (.faultEventArrival [none] .clean) s = .next t ∧
        Tbl.find t.reeve.flog ((s.reg kFlogHead).toNat % 512) = some (leBytes 8 s.now ++ leBytes 2 e.code.toNat ++ leBytes 2 e.source.toNat ++ leBytes 1 0 ++ leBytes 1 s.mode ++
          leBytes 2 0 ++ leBytes 4 (s.reg kFrameNum).toNat ++ leBytes 4 (s.reg kFlogHead).toNat ++ leBytes 8 e.info.toNat) ∧
        t.reg kFlogHead = s.reg kFlogHead + 1 ∧ keepsRegs s t [kFlogHead] ∧ keepsRam s t ∧
        t = { s with regs := t.regs, reeve := { s.reeve with events := rest, flog := t.reeve.flog, flogLast := t.reeve.flogLast } }) ∧
      (loggedLately s.reeve.flogLast e s.tb.ticks = true → ∃ t, exec (.faultEventArrival [none] .clean) s = .next t ∧
        t.reg kFlogSuppressed = (s.bump kFlogSuppressed).reg kFlogSuppressed ∧ keepsRegs s t [kFlogSuppressed] ∧ keepsRam s t ∧
        t = { s with regs := t.regs, reeve := { s.reeve with events := rest } })) ∧
    (∀ e rest, s.reeve.events = e :: rest → s.reeve.alive = true → e.disp = .violation →
      (s.reeve.vqueue.length < 64 → exec (.faultEventArrival [none] .clean) s =
        .next { s with reeve := { s.reeve with events := rest, vqueue := s.reeve.vqueue ++ [(e, s.now, s.tb.ticks)] } }) ∧
      (64 ≤ s.reeve.vqueue.length → ∃ t, exec (.faultEventArrival [none] .clean) s = .next t ∧ t.reg kVlogDropped = (s.bump kVlogDropped).reg kVlogDropped ∧
        keepsRegs s t [kVlogDropped] ∧ keepsRam s t ∧ t = { s with regs := t.regs, reeve := { s.reeve with events := rest } })) ∧
    (∀ e rest, s.reeve.events = e :: rest → s.reeve.alive = true → e.disp = .held → s.reeve.recovery = none → s.isHeld = false →
      ∃ t, exec (.faultEventArrival [none] .clean) s = .next t ∧ t.mode = 2 ∧ t.fenced = true ∧ t.get fLastCause = e.code.toNat ∧ t.flag fFaultNLow = true ∧
        t.get fHdgHeldCause = (if s.get fHdgHeldCause = 0 then e.code.toNat else s.get fHdgHeldCause) ∧ (∀ k, k < s.nCores → (t.core k).frozen = true) ∧
        (∀ p, p < 8 → s.partEnabled p = true → t.flag (fPartEvent p 3) = true) ∧ keepsRam s t) ∧
    (∀ e time tick rest, s.reeve.vqueue = (e, time, tick) :: rest → s.reeve.alive = true →
      (loggedLately s.reeve.vlogLast e tick = true → ∃ t, exec .violationLogWrite s = .next t ∧ t.reg kVlogSuppressed = (s.bump kVlogSuppressed).reg kVlogSuppressed ∧
        keepsRegs s t [kVlogSuppressed] ∧ keepsRam s t ∧ t = { s with regs := t.regs, reeve := { s.reeve with vqueue := rest } }) ∧
      (loggedLately s.reeve.vlogLast e tick = false → ∃ t, exec .violationLogWrite s = .next t ∧ t.reg kVlogHead = s.reg kVlogHead + 1 ∧
        Tbl.find t.reeve.vlog ((s.reg kVlogHead).toNat % 1024) = some (leBytes 8 time ++ leBytes 2 e.code.toNat ++ leBytes 2 e.source.toNat ++
          leBytes 4 (s.reg kVlogHead).toNat ++ padTo 16 (e.detail.take 16)) ∧ keepsRegs s t [kVlogHead] ∧ keepsRam s t ∧
        t = { s with regs := t.regs, reeve := { s.reeve with vqueue := rest, vlog := t.reeve.vlog, vlogLast := t.reeve.vlogLast } })) ∧
    (s.reeve.vqueue = [] → exec .violationLogWrite s = .next s)

/-- Once every enabled core is frozen the capture takes the next slot, overwriting counted. Securing the record makes the slot valid, moves
CR_NEXT on, and the sweep begins with core 0's LPEEL. The reset the sweep comes to is requested on its core; done, the next engine's turn
comes in the order LPEEL, SPEEL, OPA, VEC, SEQ, then the core's test. A peel's first failure after 12 us is a REPORT of 0x2601, counted,
and its reset is requested again after 40 us; its second, in the sweep or of one partition reset, is HELD and ends the reset. Step 3 with no job in flight ends the sweep: nothing is frozen, SWEEPING is clear and
RECOVERED is set where it is due, balances and regulators are rewritten; a job in flight becomes LOST with the cause, and its ring queue HALTED. A sweep of 2.5 ms raises 0xA401
as HELD, once. -/
def Obligations.CaptureAndSweepRunToTheirEnd : Prop :=
  ∀ s : State, State.Ok s → s.reeve.alive = true →
    (∀ h : CrashHead, s.reeve.crash = some h → h.slot = none → (∀ k, k < s.nCores → (s.core k).frozen = true) → ∃ t, exec .crashCaptureStart s = .next t ∧
      t.reeve = { s.reeve with crash := some { h with slot := some (s.get fCrNext) }, slots := Tbl.put s.reeve.slots (s.get fCrNext) CrashSlot.empty } ∧
      ((Tbl.getD s.reeve.slots (s.get fCrNext) CrashSlot.empty).valid = true → t.reg kCrOverwrite = (s.bump kCrOverwrite).reg kCrOverwrite) ∧
      keepsRegs s t [kCrOverwrite] ∧ keepsRam s t ∧ t = { s with regs := t.regs, reeve := t.reeve }) ∧
    (∀ (h : CrashHead) (r : Recovery) n read parity pc, s.reeve.crash = some h → s.reeve.recovery = some r → h.slot = some n →
      ∃ (t : State) (w : Sweep), exec (.crashRecordSecure read parity pc .clean) s = .next t ∧
        Tbl.find t.reeve.slots n = some { bytes := s.crashRecord h r read parity pc, valid := true } ∧ t.reeve.crash = none ∧ t.get fCrNext = (n + 1) % 4 ∧
        t.flag fCapturing = false ∧ t.flag fSweeping = true ∧ t.reeve.sweep = some w ∧ w.step = 2 ∧ w.core = 0 ∧ w.at_ = .engine .lpeel ∧ w.waiting = false ∧
        t.reeve.recovery = s.reeve.recovery ∧ keepsRegs s t [0x100000, 0x100038, kSweepStep] ∧ keepsRam s t ∧ t = { s with regs := t.regs, reeve := t.reeve }) ∧
    (∀ (k : CoreId) (e : Engine) (w : Sweep), s.awaits k e = some w →
      (w.waiting = false → ∃ t, exec (.engineReset k e) s = .next t ∧ t.core k = (s.core k).resetRequest e.idx ∧ t.reeve.sweep = some { w with waiting := true } ∧
        (∀ i, i ≠ k.val → t.core i = s.core i) ∧ keepsRam s t ∧ t = { s with regs := t.regs, cores := t.cores, reeve := t.reeve, part := { s.part with asks := s.part.asks.filter (fun x => !(x.user.agent == k.val || x.user == .tallyCfg k.val)) } }) ∧
      (w.waiting = true → (s.core k).resetting.contains e.idx = true → (s.core k).peelRetry.contains e.idx = false → (s.core k).drained e = true → ∃ t, exec (.engineResetDone k e) s = .next t ∧
        (t.core k).resetting.contains e.idx = false ∧ (t.core k).thawed.contains e.idx = true ∧
        t.reeve.sweep = some { w with waiting := false, at_ := match e with | .lpeel => .engine .speel | .speel => .engine .opa | .opa => .engine .vec | .vec => .engine .seq | .seq => .kat } ∧
        (∀ i, i ≠ k.val → t.core i = s.core i) ∧ keepsRam s t ∧ t = { s with regs := t.regs, cores := t.cores, reeve := t.reeve })) ∧
    (∀ (k : CoreId) (e : Engine), (s.core k).resetting.contains e.idx = true → (s.core k).peelRetry.contains e.idx = false → (s.core k).drained e = true →
      (∀ w, s.awaits k e = some w → w.waiting = false) → ∃ t, exec (.engineResetDone k e) s = .next t ∧ t.core k = (s.core k).resetDone e.idx ∧
        (∀ i, i ≠ k.val → t.core i = s.core i) ∧ t = { s with cores := t.cores }) ∧
    (∀ (k : CoreId) (q : PeelId) us, (s.core k).resetting.contains q.engine.idx = true → (s.core k).peelRetry.contains q.engine.idx = false → (s.core k).outstanding q.idx ≠ 0 → 12 ≤ us →
      (∀ w, s.awaits k q.engine = some w → w.failedOnce = false → ∃ t ev, exec (.peelResetFailed k q us) s = .next t ∧ ev.code = 0x2601 ∧ ev.disp = .report ∧
        (t.core k).peelRetry.contains q.engine.idx = true ∧ t.reg kPeelRetry = (s.bump kPeelRetry).reg kPeelRetry ∧ keepsRegs s t [kPeelRetry] ∧
        t.reeve = { s.reeve with events := s.reeve.events ++ [ev], sweep := some { w with failedOnce := true } } ∧ t = { s with regs := t.regs, cores := t.cores, reeve := t.reeve }) ∧
      (∀ w, s.awaits k q.engine = some w → w.failedOnce = true → ∃ t ev, exec (.peelResetFailed k q us) s = .next t ∧ ev.code = 0x2601 ∧ ev.disp = .held ∧
        t.core k = (s.core k).resetDone q.engine.idx ∧ t.reeve.events = s.reeve.events ++ [ev] ∧ keepsRam s t) ∧
      (s.awaits k q.engine = none → (s.core k).peelFailed.contains q.engine.idx = true → ∃ t ev, exec (.peelResetFailed k q us) s = .next t ∧ ev.code = 0x2601 ∧ ev.disp = .held ∧
        t.core k = (s.core k).resetDone q.engine.idx ∧ t.reeve = { s.reeve with events := s.reeve.events ++ [ev] } ∧ t = { s with cores := t.cores, reeve := t.reeve })) ∧
    (∀ (k : CoreId) (q : PeelId) us, (s.core k).resetting.contains q.engine.idx = true → (s.core k).outstanding q.idx ≠ 0 → 12 ≤ us → s.awaits k q.engine = none →
      (s.core k).peelRetry.contains q.engine.idx = false → (s.core k).peelFailed.contains q.engine.idx = false → ∃ t ev, exec (.peelResetFailed k q us) s = .next t ∧
        ev.code = 0x2601 ∧ ev.disp = .report ∧ (t.core k).peelRetry.contains q.engine.idx = true ∧ (t.core k).peelFailed.contains q.engine.idx = true ∧
        t.reg kPeelRetry = (s.bump kPeelRetry).reg kPeelRetry ∧ keepsRegs s t [kPeelRetry] ∧ t.reeve = { s.reeve with events := s.reeve.events ++ [ev] } ∧
        t = { s with regs := t.regs, cores := t.cores, reeve := t.reeve }) ∧
    (∀ (k : CoreId) (q : PeelId) us, 40 ≤ us → (s.core k).peelRetry.contains q.engine.idx = true → ∃ t, exec (.peelResetRetry k q us) s = .next t ∧
      (t.core k).peelRetry.contains q.engine.idx = false ∧ (t.core k).resetting.contains q.engine.idx = true ∧ t = { s with cores := t.cores }) ∧
    (∀ (w : Sweep) (r : Recovery), s.reeve.sweep = some w → s.reeve.recovery = some r → w.step = 3 → r.heldAtEnd = false → s.part.heldResets = [] →
      (∀ p, p < 8 → s.inReset p = false) →
      (s.qm.dt = [] → (∀ p, s.lostPending p = false) → (∀ p ∈ s.part.recoverDue, p < 8) → ∃ t, exec .sweepComplete s = .next t ∧ t.reeve.sweep = none ∧
        t.reeve.recovery = some { r with swept := true } ∧ t.flag fSweeping = false ∧ (∀ k, k < s.nCores → (t.core k).frozen = false) ∧
        (∀ p ∈ s.part.recoverDue, t.flag (fPartEvent p 1) = true) ∧ t.part.recoverDue = [] ∧ t.mode = s.mode ∧ keepsRam s t) ∧
      (∀ i e, s.qm.dt = [(i, e)] → s.part.recoverDue = [] → ∃ (t : State) (x : Rec), exec .sweepComplete s = .next t ∧ t.flag fSweeping = false ∧ x.status = 3 ∧ x.code = r.cause.toNat ∧
        (t.queue e.queue).jobs = ((s.queue e.queue).setJob e.pos (fun y => { y with at_ := .done x })).jobs ∧
        (t.queue e.queue).state = (if (s.queue e.queue).isFrame then (s.queue e.queue).state else 2))) ∧
    (∀ (w : Sweep) (r : Recovery), s.reeve.sweep = some w → s.reeve.recovery = some r → w.step = 3 → ∃ t, exec .sweepComplete s = .next t ∧ t.reeve.sweep = none ∧
      t.reeve.recovery = some { r with swept := true } ∧ t.flag fSweeping = false ∧ (∀ k, k < s.nCores → (t.core k).frozen = false) ∧ t.part.bal = [] ∧
      (∀ x ∈ t.part.regs, x.2.used = []) ∧ (r.heldAtEnd = true → t.mode = 2) ∧ keepsRam s t) ∧
    (∀ us (w : Sweep), s.reeve.sweep = some w → w.expired = false → 2500 ≤ us → ∃ t ev, exec (.sweepSupervisionExpiry us) s = .next t ∧ ev.code = 0xA401 ∧ ev.disp = .held ∧
      t = { s with reeve := { s.reeve with events := s.reeve.events ++ [ev], sweep := some { w with expired := true } } } ∧ exec (.sweepSupervisionExpiry us) t = .next t)

/-- The oldest window word of its operation, in range, acts on its slot: BIND to two different ring queues of the job's partition makes it
IDLE with its dormancy time (60 s for 0) running; REQUEST makes it ACTIVE with its timeout running; DONE takes ACTIVE to IDLE; TOUCH
restarts the dormancy timer in IDLE; UNBIND frees it. A word of no operation counts a violation and raises 0x4603, a job fault in a strict
partition. A request that times out makes the slot IDLE, rejects every descriptor of its queue that waits with 0x4601 and counts, unless
the queue is HALTED, when it waits. A dormant slot submits a fold with its gate set and counts it, or, where the fold queue takes none,
logs 0x4602. -/
def Obligations.ConversationTimersFollowTheWindowWords : Prop :=
  ∀ s : State, State.Ok s →
    (∀ (w : WinWrite) rest (v k : Nat), s.ctWrites = w :: rest → v = leNat w.data → k = (w.addr - 0x1000801000) / 8 →
      (∀ q fq d : Nat, ctOp v = 1 → q = bitsAt v 0 16 → fq = bitsAt v 16 16 → d = bitsAt v 48 12 → bitsAt v 32 16 = 0 → d ≤ 3600 → (s.slot k).state ≠ 2 → q ≠ fq →
        s.ringOf w.part q = true → s.ringOf w.part fq = true → (∀ y ∈ s.qm.slots, y.1 ≠ k → y.2.state ≠ 0 → y.2.queue ≠ q) → ∃ t, exec .ctBind s = .next t ∧
          t.slot k = { s.slot k with state := 1, part := w.part, queue := q, foldQueue := fq, dormS := if d = 0 then 60 else d, dormFrom := some s.tb.ticks, reqFrom := none } ∧
          (∀ j, j ≠ k → t.slot j = s.slot j) ∧ (∀ j, t.queue j = s.queue j) ∧ t = { s with ctWrites := rest, qm := t.qm }) ∧
      (ctOp v = 2 → bitsAt v 15 45 = 0 → 1 ≤ bitsAt v 0 15 → bitsAt v 0 15 ≤ 30000 → (s.slot k).state ≠ 0 → ∃ t, exec .ctRequest s = .next t ∧
        t.slot k = { s.slot k with state := 2, timeoutMs := bitsAt v 0 15, reqFrom := some s.tb.ticks, dormFrom := none, due := false } ∧
        (∀ j, j ≠ k → t.slot j = s.slot j) ∧ (∀ j, t.queue j = s.queue j) ∧ t = { s with ctWrites := rest, qm := t.qm }) ∧
      (ctOp v = 3 → bitsAt v 0 60 = 0 → (s.slot k).state = 2 → ∃ t, exec .ctDone s = .next t ∧
        t.slot k = { s.slot k with state := 1, reqFrom := none, dormFrom := some s.tb.ticks, due := false } ∧
        (∀ j, j ≠ k → t.slot j = s.slot j) ∧ (∀ j, t.queue j = s.queue j) ∧ t = { s with ctWrites := rest, qm := t.qm }) ∧
      (ctOp v = 4 → bitsAt v 0 60 = 0 → (s.slot k).state = 1 → ∃ t, exec .ctTouch s = .next t ∧ t.slot k = { s.slot k with dormFrom := some s.tb.ticks } ∧
        (∀ j, j ≠ k → t.slot j = s.slot j) ∧ (∀ j, t.queue j = s.queue j) ∧ t = { s with ctWrites := rest, qm := t.qm }) ∧
      (ctOp v = 5 → bitsAt v 0 60 = 0 → ∃ t, exec .ctUnbind s = .next t ∧ t.slot k = CtSlot.reset ∧
        (∀ j, j ≠ k → t.slot j = s.slot j) ∧ (∀ j, t.queue j = s.queue j) ∧ t = { s with ctWrites := rest, qm := t.qm }) ∧
      ((ctOp v = 0 ∨ 5 < ctOp v) → s.strict w.part = true → ∃ t ev, exec .ctBind s = .next t ∧ exec .ctRequest s = .next t ∧ exec .ctDone s = .next t ∧ exec .ctTouch s = .next t ∧
        exec .ctUnbind s = .next t ∧ ev.code = 0x4603 ∧ ev.disp = .jobFault ∧ t.reg kCtViol = (s.bump kCtViol).reg kCtViol ∧ keepsRegs s t [kCtViol] ∧
        t = { s with ctWrites := rest, regs := t.regs, reeve := { s.reeve with events := s.reeve.events ++ [ev] } })) ∧
    (∀ (k : Fin 1024) ms, (s.slot k).reqFrom.isSome = true → (s.slot k).due = false → (s.slot k).timeoutMs ≤ ms →
      ((s.queue (s.slot k).queue).state ≠ 2 → ∃ t, exec (.ctRequestExpiry k ms) s = .next t ∧
        t.slot k = { s.slot k with state := 1, reqFrom := none, dormFrom := some s.tb.ticks, due := false } ∧
        (∀ j ∈ (t.queue (s.slot k).queue).jobs, j.waits = false) ∧ (t.queue (s.slot k).queue).jobs.map QJob.pos = (s.queue (s.slot k).queue).jobs.map QJob.pos ∧
        (∀ j ∈ (s.queue (s.slot k).queue).jobs, j.waits = true → ∃ r : Rec, r.status = 2 ∧ r.code = 0x4601 ∧ { j with at_ := .done r } ∈ (t.queue (s.slot k).queue).jobs) ∧
        (∀ q, q ≠ (s.slot k).queue → t.queue q = s.queue q) ∧ t.reg kCtReqExp = (s.bump kCtReqExp).reg kCtReqExp ∧ keepsRegs s t [kCtReqExp] ∧ keepsRam s t ∧
        t = { s with regs := t.regs, qm := t.qm }) ∧
      ((s.queue (s.slot k).queue).state = 2 → ∃ t, exec (.ctRequestExpiry k ms) s = .next t ∧ t.slot k = { s.slot k with due := true } ∧
        (∀ j, j ≠ k.val → t.slot j = s.slot j) ∧ t = { s with qm := t.qm })) ∧
    (∀ (k : Fin 1024) sec, (s.slot k).dormFrom.isSome = true → (s.slot k).dormS ≤ sec → s.inReset (s.queue (s.slot k).foldQueue).owner = false →
      (s.advanceFault (s.queue (s.slot k).foldQueue) 1 = none → ∃ (t : State) (j : QJob), exec (.ctDormancyExpiry k sec) s = .next t ∧
        t.slot k = { s.slot k with state := 3, dormFrom := none, gate := true, foldSeq := BitVec.ofNat 32 (s.queue (s.slot k).foldQueue).next, foldOf := (s.slot k).foldQueue } ∧
        (t.queue (s.slot k).foldQueue).jobs = (s.queue (s.slot k).foldQueue).jobs ++ [j] ∧ j.pos = (s.queue (s.slot k).foldQueue).next ∧
        j.fold = some (k.val, (s.slot k).queue, s.now) ∧ j.at_ = .waiting none ∧ t.reg kCtFolds = (s.bump kCtFolds).reg kCtFolds ∧ keepsRegs s t [kCtFolds] ∧ keepsRam s t ∧
        t = { s with regs := t.regs, qm := t.qm }) ∧
      ((s.advanceFault (s.queue (s.slot k).foldQueue) 1).isSome = true → ∃ t ev, exec (.ctDormancyExpiry k sec) s = .next t ∧ ev.code = 0x4602 ∧ ev.disp = .violation ∧
        t.slot k = { s.slot k with state := 3, dormFrom := none } ∧ t.reg kCtViol = (s.bump kCtViol).reg kCtViol ∧ keepsRegs s t [kCtViol] ∧ (∀ q, t.queue q = s.queue q) ∧
        t = { s with regs := t.regs, qm := t.qm, reeve := { s.reeve with events := s.reeve.events ++ [ev] } }))

/-- The physical function's EN of a port with a role and a threshold starts TRAINING, unlocked and without lanes; of one without sets
REJECTED. Clearing EN without firings disables the port. A relocked channel is LOCKED, counted, and its hold time kept. An attempt of 20
ms moves to the next permitted mode; a training of 1 s ends FAILED with 0x5103. A TRAIN frame from the right peer stores its masks and
index; one of another topology takes the port OUT with 0x5101, of a port wired otherwise with 0x5102. A port that goes down completes the
firings it cuts off with 0x5202. A permitted, locked, exchanged attempt brings the port UP with the mode's
lanes. An unacknowledged replay buffer of 20 us is sent again from its oldest. A firing held for 2 ms on an unlocked port ends with
0x5201, its F counted; every other held there does so too. -/
def Obligations.KelythPortsTrainAndFail : Prop :=
  ∀ (s : State) (i : Fin 4), State.Ok s →
    (∀ v : Word, s.turnsAway 0 = false → s.flag (fKlyEn i) = false → (fKlyEn i).ofWord v = 1 → s.blocksOff = false →
      ((fKlyThresh i).ofWord v ≠ 0 → (s.peerOf i).isSome = true → ∃ t, exec (.klyPortEnable 0 i v) s = .next t ∧ t.get (fKlyState i) = klyTraining ∧ t.flag (fKlyLocked i) = false ∧
        t.get (fKlyLanes i) = 0 ∧ t.reg (kKly i 0) = v &&& 0x8F70FF00 ∧ t.kport i = KPort.reset ∧ keepsRegs s t [kKly i 0, kKly i 4] ∧ keepsRam s t ∧
        t = { s with regs := t.regs, kly := t.kly }) ∧
      (((fKlyThresh i).ofWord v = 0 ∨ s.peerOf i = none) → ∃ t, exec (.klyPortEnable 0 i v) s = .next t ∧ t.flag fKlyRejected = true ∧ OnlyRegs s t [0x30400])) ∧
    (∀ v : Word, s.turnsAway 0 = false → s.flag (fKlyEn i) = true → (fKlyEn i).ofWord v = 0 → s.blocksOff = false → (fKlyThresh i).ofWord v ≠ 0 → s.kly.firings = [] →
      v &&& 0x0F70FF00 = s.reg (kKly i 0) &&& 0x7FFFFFFF → ∃ t, exec (.klyPortDisable 0 i v) s = .next t ∧ t.get (fKlyState i) = klyDisabled ∧ t.flag (fKlyLocked i) = false ∧
        t.flag (fKlyEn i) = false ∧ t.kport i = { KPort.reset with floor := (s.kport i).floor } ∧ keepsRegs s t [kKly i 0, kKly i 4] ∧ keepsRam s t ∧
        t = { s with regs := t.regs, kly := t.kly, part := { s.part with asks := s.part.asks.filter (fun x => x.user != .message i) } }) ∧
    (∀ (v : Word) cut, s.turnsAway 0 = false → s.flag (fKlyEn i) = true → (fKlyEn i).ofWord v = 0 → s.blocksOff = false → (fKlyThresh i).ofWord v ≠ 0 →
      v &&& 0x0F70FF00 = s.reg (kKly i 0) &&& 0x7FFFFFFF → cut = ((s.setReg (kKly i 0) (v &&& 0x8F70FF00)).linkOff i klyDisabled).cutOff i false → ∃ t,
        exec (.klyPortDisable 0 i v) s = .next t ∧ WentDown s t i klyDisabled cut ∧ t.reg (kKly i 0) = v &&& 0x8F70FF00 ∧ t.flag (fKlyEn i) = false ∧
        (t.reeve.events.drop s.reeve.events.length).map (fun e => (e.code, e.disp)) = cut.map (fun _ => (0x5202, .jobFault)) ∧
        t = { s with regs := t.regs, kly := t.kly, part := t.part, reeve := t.reeve }) ∧
    (s.klyUsable i = true → s.flag (fKlyLocked i) = false → ∃ t, exec (.klyPllChannelLock i) s = .next t ∧ t.flag (fKlyLocked i) = true ∧ t.kport i = { s.kport i with heldFrom := none } ∧
      t.reg 0x4014 = (s.bump 0x4014).reg 0x4014 ∧
      t.get (fKlyHoldMax i) = (match (s.kport i).heldFrom with | some x => max (s.get (fKlyHoldMax i)) (min ((s.tb.ticks - x) * 40 / 1000) 0xFFFF) | none => s.get (fKlyHoldMax i)) ∧
      keepsRegs s t [kKly i 4, kKly i 0x14, 0x4014] ∧ t = { s with regs := t.regs, kly := t.kly }) ∧
    (s.klyTrains i = true →
      (∀ ms, 20 ≤ ms → ∃ t, exec (.klyTrainAttemptTimeout i ms) s = .next t ∧ t.get (fKlyMode i) = s.nextMode i (s.get (fKlyMode i) + 1) (s.klyStart i) ∧ t.get (fKlyLanes i) = 0 ∧
        (t.kport i).exchanged = false ∧ t.get (fKlyState i) = s.get (fKlyState i) ∧ keepsRegs s t [kKly i 4] ∧ t = { s with regs := t.regs, kly := t.kly }) ∧
      (∀ ms, 1000 ≤ ms → s.kly.firings = [] → ∃ t ev, exec (.klyTrainingLimit i ms) s = .next t ∧ t.get (fKlyState i) = klyFailed ∧ t.flag (fKlyLocked i) = false ∧ ev.code = 0x5103 ∧
        ev.disp = .report ∧ keepsRegs s t [kKly i 4] ∧
        t = { s with regs := t.regs, kly := t.kly, reeve := { s.reeve with events := s.reeve.events ++ [ev] }, part := { s.part with asks := s.part.asks.filter (fun x => x.user != .message i) } }) ∧
      (∀ ms cut, 1000 ≤ ms → cut = (s.linkOff i klyFailed).cutOff i true → ∃ t, exec (.klyTrainingLimit i ms) s = .next t ∧ WentDown s t i klyFailed cut ∧
        (t.reeve.events.drop s.reeve.events.length).map (fun e => (e.code, e.disp)) = cut.map (fun _ => (0x5202, .jobFault)) ++ [(0x5103, .report)] ∧
        t = { s with regs := t.regs, kly := t.kly, part := t.part, reeve := t.reeve }) ∧
      (∀ bs f, KFrame.ofBytes bs = some f → f.type = 7 → f.bad = false →
        (s.topoClash (bitsAt f.addr 32 6) = false → (s.peerOf i).any (fun p => p.2 != bitsAt f.addr 24 8) = false → ∃ t, exec (.klyTrainFrame i bs) s = .next t ∧
          (t.kport i).exchanged = true ∧ (t.kport i).peerRate = bitsAt f.addr 0 4 ∧ (t.kport i).peerWidth = bitsAt f.addr 8 3 ∧
          t.get (fKlyPeerIndex i) = bitsAt f.addr 32 2 ∧ t.get (fKlyState i) = s.get (fKlyState i) ∧ keepsRegs s t [kKly i 4] ∧ t = { s with regs := t.regs, kly := t.kly }) ∧
        (s.topoClash (bitsAt f.addr 32 6) = true → s.kly.firings = [] → ∃ t ev, exec (.klyTrainFrame i bs) s = .next t ∧ t.get (fKlyState i) = klyOut ∧ ev.code = 0x5101 ∧
          ev.disp = .violation ∧ keepsRegs s t [kKly i 4] ∧
          t = { s with regs := t.regs, kly := t.kly, reeve := { s.reeve with events := s.reeve.events ++ [ev] }, part := { s.part with asks := s.part.asks.filter (fun x => x.user != .message i) } }) ∧
        (∀ cut, (s.topoClash (bitsAt f.addr 32 6) = true ∨ (s.peerOf i).any (fun p => p.2 != bitsAt f.addr 24 8) = true) → cut = ((s.klyHeader i f).linkOff i klyOut).cutOff i true →
          ∃ t, exec (.klyTrainFrame i bs) s = .next t ∧ WentDown s t i klyOut cut ∧ (t.reeve.events.drop s.reeve.events.length).map (fun e => (e.code, e.disp)) =
            cut.map (fun _ => (0x5202, .jobFault)) ++ [(if s.topoClash (bitsAt f.addr 32 6) then 0x5101 else 0x5102, .violation)] ∧
          t = { s with regs := t.regs, kly := t.kly, part := t.part, reeve := t.reeve })) ∧
      (s.flag (fKlyLocked i) = true → (s.kport i).exchanged = true → s.modePermitted i (s.get (fKlyMode i)) = true → ∃ t, exec (.klyTrainingPass i) s = .next t ∧
        t.get (fKlyState i) = klyUp ∧ t.get (fKlyLanes i) = lanesOf (ladderAt (s.get (fKlyMode i))).2 ∧ t.get (fKlyMode i) = s.get (fKlyMode i) ∧
        keepsRegs s t [kKly i 4] ∧ t = { s with regs := t.regs, kly := t.kly })) ∧
    (∀ us, 20 ≤ us → s.klyIsUp i = true → s.flag (fKlyLocked i) = true → (s.kport i).replay ≠ [] → ∃ t, exec (.klyReplayTimeout i us) s = .next t ∧
      t.kport i = { s.kport i with resend := some 0 } ∧ (∀ j, j ≠ i.val → t.kport j = s.kport j) ∧ t = { s with kly := t.kly }) ∧
    (∀ us d, 2000 ≤ us → s.flag (fKlyLocked i) = false → (s.kport i).heldFrom.isSome = true → s.heldFirings i = [d] → Tbl.wf s.kly.firings = true → d < 512 →
      ∃ t ev, exec (.klyLinkNotReady i us) s = .next t ∧ ev.code = 0x5201 ∧ ev.disp = .jobFault ∧ t.reeve = { s.reeve with events := s.reeve.events ++ [ev] } ∧ t.firing d = none ∧
        t.reg (kFired d) = s.reg (kFired d) + 1 ∧ keepsRam s t ∧ t = { s with regs := t.regs, kly := t.kly, part := t.part, reeve := t.reeve }) ∧
    (∀ us, 2000 ≤ us → s.flag (fKlyLocked i) = false → (s.kport i).heldFrom.isSome = true → ∃ t, exec (.klyLinkNotReady i us) s = .next t ∧
      (∀ d ∈ s.heldFirings i, t.firing d = none) ∧ (∀ d, d ∉ s.heldFirings i → t.firing d = s.firing d) ∧
      (t.reeve.events.drop s.reeve.events.length).map (fun e => (e.code, e.disp)) = (s.heldFirings i).map (fun _ => (0x5201, .jobFault)) ∧ keepsRam s t ∧
      t = { s with regs := t.regs, kly := t.kly, part := t.part, reeve := t.reeve })

/-- On a port in service, bytes that fail a CRC count, log 0x5105 and are answered with a NAK. On an UP port: an ACK releases the frames it
names, a NAK releases those before it and has the others resent, a CREDIT returns lines. A DATA frame in order for this device, its
message whole and within its partition's windows, is written to device memory, acknowledged and its lines returned; with the engine fenced
it is discarded and counted; of a longer message its tracker counts the bytes, and at the end the counter it names advances; for another
device it leaves on the other ring port; with its request held it waits. A RACK in order completes its firing's wait, or is the fault
0x5205, or is forwarded. A new ABORT in order counts, is remembered and raises 0x5203. A
locked port sends TRAIN while it trains; UP, an acknowledgement first, and a new frame of its own with the next sequence number, kept for
replay; each leaves in blocks that unscrambling restores, dealt to the active lanes in turn. -/
def Obligations.KelythFramesAreTakenAndSent : Prop :=
  ∀ (s : State) (i : Fin 4), State.Ok s →
    (∀ bs, s.klyUsable i = true → KFrame.ofBytes bs = none → (s.kport i).err.count + 1 ≤ s.get (fKlyThresh i) → ∃ t ev, ev.code = 0x5105 ∧ ev.disp = .violation ∧
      exec (.klyDataFrame i bs) s = .next t ∧ exec (.klyRack i bs) s = .next t ∧ exec (.klyAck i bs) s = .next t ∧ exec (.klyNak i bs) s = .next t ∧
      exec (.klyCredit i bs) s = .next t ∧ exec (.klyAbort i bs) s = .next t ∧ exec (.klyTrainFrame i bs) s = .next t ∧ (t.kport i).nakDue = true ∧
      t.reg (kKly i 8) = (s.bump (kKly i 8)).reg (kKly i 8) ∧ keepsRegs s t [kKly i 8] ∧ t = { s with regs := t.regs, kly := t.kly, reeve := { s.reeve with events := s.reeve.events ++ [ev] } }) ∧
    (∀ bs f, s.klyIsUp i = true → KFrame.ofBytes bs = some f → f.bad = false →
      (∀ n, f.type = 3 → 32768 ≤ f.ackseq → (s.kport i).replay ≠ [] → (s.kport i).ackCount f.ackseq = some n → ∃ t, exec (.klyAck i bs) s = .next t ∧
        (t.kport i).replay = (s.kport i).replay.drop n ∧ (t.kport i).credit = (s.kport i).credit + f.credit ∧ (∀ j, j ≠ i.val → t.kport j = s.kport j) ∧ t = { s with kly := t.kly }) ∧
      (∀ n, f.type = 4 → 32768 ≤ f.ackseq → (s.kport i).ackCount f.ackseq = some n → ∃ t, exec (.klyNak i bs) s = .next t ∧ (t.kport i).replay = (s.kport i).replay.drop n ∧
        (t.kport i).resend = (if (s.kport i).replay.length ≤ n then none else some 0) ∧ (∀ j, j ≠ i.val → t.kport j = s.kport j) ∧ t = { s with kly := t.kly }) ∧
      (f.type = 5 → f.ackseq < 32768 → ∃ t, exec (.klyCredit i bs) s = .next t ∧ t.kport i = { s.kport i with credit := (s.kport i).credit + f.credit } ∧
        (∀ j, j ≠ i.val → t.kport j = s.kport j) ∧ t = { s with kly := t.kly }) ∧
      (f.type = 1 → f.lseq = (s.kport i).rxNext % 4096 → f.lines ≤ (s.kport i).granted → f.ackseq < 32768 →
        (s.flag fCeFenced = false → f.dst = s.device → f.dst < s.devices → f.src < s.devices → s.trackerOf f = none → s.kly.trackers.length < 512 → f.flags.testBit 0 = false →
          f.flags.testBit 1 = false → f.payload.length = f.msgLen → s.jobOk f.part f.addr f.payload.length true = true → s.dramBad = [] → (∀ j, j < 4 → (s.kport j).rxWait = []) →
          s.askOf (.message i) = none → s.rxGoes i f = true → ∃ t, exec (.klyDataFrame i bs) s = .next t ∧ (∀ j (h : j < f.payload.length), t.ramByte (f.addr + j) = f.payload[j]) ∧
            (∀ a, (a < f.addr ∨ f.addr + f.payload.length ≤ a) → t.ramByte a = s.ramByte a) ∧ (t.kport i).rxNext = ((s.kport i).rxNext + 1) % 4096 ∧ (t.kport i).ackDue = true ∧
            (t.kport i).creditDue = (s.kport i).creditDue + f.lines ∧ t.trackerOf f = none ∧ keepsRegs s t [kKly i 0x30, kKly i 0x34, kLines f.part] ∧
            t = { s with regs := t.regs, kly := t.kly, dram := t.dram, dramBad := t.dramBad, part := t.part }) ∧
        (s.flag fCeFenced = true → ∃ t, exec (.klyDataFrame i bs) s = .next t ∧ t.reg (kKly i 0x24) = (s.bump (kKly i 0x24)).reg (kKly i 0x24) ∧
          (t.kport i).creditDue = (s.kport i).creditDue + f.lines ∧ (t.kport i).ackDue = true ∧ keepsRegs s t [kKly i 0x24, kKly i 0x30, kKly i 0x34] ∧
          t = { s with regs := t.regs, kly := t.kly })) ∧
      (f.type = 1 → f.lseq = (s.kport i).rxNext % 4096 → f.lines ≤ (s.kport i).granted → (∀ j, j < 4 → (s.kport j).rxWait = []) →
        (∀ tr : Tracker, s.flag fCeFenced = false → f.dst = s.device → f.dst < s.devices → f.src < s.devices → s.trackerRoom f = true → s.askOf (.message i) = none → s.rxGoes i f = true →
          tr = (s.trackerOf f).getD { src := f.src, msgId := f.msgId, got := 0, refused := false } → tr.refused = false →
          s.ceMay f.part (f.flags.testBit 0) f.addr f.payload.length true = true → ∃ t, exec (.klyDataFrame i bs) s = .next t ∧
            t.ceBytes (f.flags.testBit 0) f.addr f.payload.length = f.payload ∧ (f.flags.testBit 0 = true → keepsRam s t) ∧
            (∀ a, (a < f.addr ∨ f.addr + f.payload.length ≤ a) → t.ramByte a = s.ramByte a) ∧ (t.kport i).rxNext = ((s.kport i).rxNext + 1) % 4096 ∧ (t.kport i).ackDue = true ∧
            (t.kport i).creditDue = (s.kport i).creditDue + f.lines ∧
            (tr.got + f.payload.length < f.msgLen → t.trackerOf f = some { tr with got := tr.got + f.payload.length } ∧ keepsRegs s t [kKly i 0x30, kKly i 0x34, kLines f.part]) ∧
            (f.msgLen ≤ tr.got + f.payload.length → t.trackerOf f = none ∧
              (f.flags.testBit 1 = true → s.cntOwned f.recvCnt f.part = true → (s.reg64 (kCnt f.recvCnt)).toNat + 1 < 2 ^ 48 →
                (t.reg64 (kCnt f.recvCnt)).toNat = (s.reg64 (kCnt f.recvCnt)).toNat + 1))) ∧
        (s.flag fCeFenced = false → f.dst = s.device → f.dst < s.devices → f.src < s.devices → s.askOf (.message i) = none → s.trackerRoom f = true → s.rxGoes i f = false →
          ∃ t, exec (.klyDataFrame i bs) s = .next t ∧ (t.kport i).rxWait = [f] ∧ (t.askOf (.message i)).isSome = true ∧ (t.kport i).ackDue = true ∧
            (t.kport i).creditDue = (s.kport i).creditDue ∧ keepsRam s t) ∧
        (s.flag fCeFenced = false → f.dst ≠ s.device → f.dst < s.devices → f.src < s.devices → s.isRing = true → i.val ≤ 1 → s.klyUsable (1 - i.val) = true →
          ∃ t, exec (.klyDataFrame i bs) s = .next t ∧ (t.kport (1 - i.val)).fwd = (s.kport (1 - i.val)).fwd ++ [f] ∧ (t.kport i).ackDue = true ∧
            t.reg (kKly i 0x1C) = (s.bump (kKly i 0x1C)).reg (kKly i 0x1C) ∧ keepsRam s t ∧ t = { s with regs := t.regs, kly := t.kly })) ∧
      (f.type = 2 → f.lseq = (s.kport i).rxNext % 4096 →
        (s.flag fCeFenced = true → ∃ t, exec (.klyRack i bs) s = .next t ∧ t.reg (kKly i 0x24) = (s.bump (kKly i 0x24)).reg (kKly i 0x24) ∧ (t.kport i).ackDue = true ∧
          keepsRegs s t [kKly i 0x24] ∧ t = { s with regs := t.regs, kly := t.kly }) ∧
        (∀ (x : Firing) d, s.flag fCeFenced = false → f.dst = s.device → d = trigOfMsg f.msgId → s.firing d = some x → x.performed = true → x.waits.contains f.src = true →
          msgIdOf d (s.trig d).fired = f.msgId →
          (f.flags.testBit 2 = false → ∃ t, exec (.klyRack i bs) s = .next t ∧ t.firing d = some { x with waits := x.waits.erase f.src } ∧ (t.kport i).ackDue = true ∧
            t = { s with kly := t.kly }) ∧
          (f.flags.testBit 2 = true → ∃ t ev, exec (.klyRack i bs) s = .next t ∧ t.firing d = some { x with failed := true } ∧ ev.code = 0x5205 ∧ ev.disp = .jobFault ∧
            t.reeve = { s.reeve with events := s.reeve.events ++ [ev] } ∧ keepsRegs s t [kCeFaultInfo] ∧ t = { s with regs := t.regs, kly := t.kly, reeve := t.reeve })) ∧
        (s.flag fCeFenced = false → f.dst ≠ s.device → s.isRing = true → i.val ≤ 1 → s.klyUsable (1 - i.val) = true → ∃ t, exec (.klyRack i bs) s = .next t ∧
          (t.kport (1 - i.val)).fwd = (s.kport (1 - i.val)).fwd ++ [f] ∧ keepsRegs s t [kKly i 0x1C] ∧ t = { s with regs := t.regs, kly := t.kly })) ∧
      (f.type = 5 → ∃ t, exec (.klyCredit i bs) s = .next t ∧ (t.kport i).credit = (s.kport i).credit + f.credit ∧ (∀ j, j ≠ i.val → t.kport j = s.kport j) ∧
        t = { s with kly := t.kly }) ∧
      (∀ (x : Firing) d, f.type = 2 → f.lseq = (s.kport i).rxNext % 4096 → f.ackseq < 32768 → s.flag fCeFenced = false → f.dst = s.device → d = trigOfMsg f.msgId → s.firing d = some x →
        x.performed = true → x.waits.contains f.src = true → msgIdOf d (s.trig d).fired = f.msgId → f.flags.testBit 2 = false → ∃ t, exec (.klyRack i bs) s = .next t ∧
          t.firing d = some { x with waits := x.waits.erase f.src } ∧ (t.kport i).ackDue = true ∧ t = { s with kly := t.kly }) ∧
      (f.type = 6 → f.lseq = (s.kport i).rxNext % 4096 → f.src ≠ s.device → s.kly.aborts.contains (f.src, bitsAt f.addr 32 8) = false → ∃ t ev, exec (.klyAbort i bs) s = .next t ∧
        ev.code = 0x5203 ∧ ev.disp = .jobFault ∧ t.reeve.events = s.reeve.events ++ [ev] ∧ t.reg kAbortRx = (s.bump kAbortRx).reg kAbortRx ∧
        t.kly.aborts.contains (f.src, bitsAt f.addr 32 8) = true ∧ (∀ j, j ≠ f.src → t.kly.heldPeers.contains j = s.kly.heldPeers.contains j) ∧
        t.kly.heldPeers.contains f.src = f.flags.testBit 3 ∧ keepsRam s t)) ∧
    (∀ e h, s.flag (fKlyLocked i) = true →
      (s.klyTrains i = true → exec (.klyFrameTransmit i e h) s = .next (s.klyEmit i (s.trainFrame i))) ∧
      (s.klyIsUp i = true → (s.kport i).ackDue = true → ∃ t, exec (.klyFrameTransmit i e h) s = .next t ∧ t.kport i = { s.kport i with ackDue := false } ∧
        t.emitted = s.emitted ++ [.klyFrame i (s.control i 3 0 0).bytes, .klyBlocks i (s.frameBlocks i (s.control i 3 0 0).bytes).1] ∧ t = { s with kly := t.kly, emitted := t.emitted }) ∧
      (∀ (f : KFrame) r, s.klyIsUp i = true → (s.kport i).ackDue = false → (s.kport i).nakDue = false → (s.kport i).creditDue = 0 → (s.kport i).resend = none →
        (s.kport i).aborts = [] → (s.kport i).fwd = [] → (s.kport i).own = f :: r → f.type = 1 → (s.kport i).room f = true → s.klyAdmits i f = true →
        ∃ (t : State) (g : KFrame), exec (.klyFrameTransmit i e h) s = .next t ∧ g = { f with lseq := (s.kport i).txNext % 4096, ackseq := (s.kport i).rxNext % 4096 + 32768 } ∧
          t.emitted = s.emitted ++ [.klyFrame i g.bytes, .klyBlocks i (s.frameBlocks i g.bytes).1] ∧ (t.kport i).own = r ∧ (t.kport i).replay.map KRep.frame = (s.kport i).replay.map KRep.frame ++ [g] ∧
          (t.kport i).credit = (s.kport i).credit - f.lines ∧ (t.kport i).txNext = ((s.kport i).txNext + 1) % 4096 ∧ keepsRegs s t [kKly i 0x28, kKly i 0x2C] ∧ keepsRam s t)) ∧
    (∀ st bits, unscramble st (scramble st bits).1 = bits) ∧ (∀ n ws (l : KLine), 1 ≤ n → n ≤ 4 → l.next < n → l.dealt + ws.length < 16384 * n →
      (KLine.deal n ws l).1.map (fun b => (b.lane, b.sync)) = (List.range ws.length).map (fun j => ((l.next + j) % n, 1)))

/-- A window write of 1 to 65,535 to an enabled counter of the job's partition adds it. A descriptor word is stored while VALID is clear,
FIRED and reserved bits apart; a word 0 that sets VALID starts F at 0 or is rejected; a VALID one takes only a write that clears VALID. A VALID descriptor
whose counter has reached its threshold fires, and its operation then acts, once its requests to device memory go out: a local PUT copies
the bytes, a remote one queues its frames and waits for its RACK, a REDUCE writes the combination of its whole elements, an EXCHANGE sends
to the other devices and writes its own slot, FLAG its 8 bytes, DOORBELL advances the queue.
A completed firing counts F and the device's operations, clears VALID without REARM, and steps its done counter. A late one counts and
raises 0x5204. -/
def Obligations.CollectiveOperationsAct : Prop :=
  ∀ s : State, State.Ok s →
    (∀ (w : WinWrite) rest (c v : Nat), s.ceWrites = w :: rest → c = (w.addr - 0x1000800000) / 8 → c < 256 → v = leNat w.data → w.data.length = 8 → w.addr % 8 = 0 → 1 ≤ v → v ≤ 65535 →
      s.flag (fCntEn c) = true → s.get (fCntPart c) = w.part → (s.reg64 (kCnt c)).toNat + v < 2 ^ 48 → ∃ t, exec .counterWindowWrite s = .next t ∧
        (t.reg64 (kCnt c)).toNat = (s.reg64 (kCnt c)).toNat + v ∧ keepsRegs s t [kCnt c, kCnt c + 4] ∧ keepsRam s t ∧ t = { s with ceWrites := rest, regs := t.regs, kly := t.kly }) ∧
    (∀ (d : TrigId) (w : Fin 16) (v : Word), s.turnsAway 0 = false → (d.val < 256 ∨ s.blocksOff = false) →
      ((s.trig d).valid = false → w ≠ 0 → w ≠ 13 → ∃ t, exec (.triggerDescriptorWrite 0 d w v) s = .next t ∧ t.reg (kTrig d w) = v &&& trigMask w ∧ OnlyRegs s t [kTrig d w]) ∧
      ((s.trig d).valid = false → exec (.triggerDescriptorWrite 0 d 13 v) s = .next s) ∧
      ((s.trig d).valid = false → v.getLsbD 8 = false → ∃ t, exec (.triggerDescriptorWrite 0 d 0 v) s = .next t ∧ t.reg (kTrig d 0) = v &&& trigMask 0 ∧ OnlyRegs s t [kTrig d 0]) ∧
      ((s.trig d).valid = false → v.getLsbD 8 = true → s.trigBad d ((s.setReg (kTrig d 0) (v &&& trigMask 0)).trig d) = true → ∃ t, exec (.triggerDescriptorWrite 0 d 0 v) s = .next t ∧
        OnlyRegs s t [0x38000, 0x30400] ∧ t.flag (if d.val < 256 then fCeRejected else fKlyRejected) = true) ∧
      ((s.trig d).valid = false → v.getLsbD 8 = true → s.trigBad d ((s.setReg (kTrig d 0) (v &&& trigMask 0)).trig d) = false → ∃ t, exec (.triggerDescriptorWrite 0 d 0 v) s = .next t ∧
        t.reg (kTrig d 0) = v &&& trigMask 0 ∧ t.reg (kFired d) = 0 ∧ (t.trig d).valid = true ∧ keepsRegs s t [kTrig d 0, kFired d] ∧ keepsRam s t ∧ t = { s with regs := t.regs, kly := t.kly }) ∧
      ((s.trig d).valid = true → v.getLsbD 8 = false → ∃ t, exec (.triggerDescriptorWrite 0 d 0 v) s = .next t ∧ t.reg (kTrig d 0) = v &&& trigMask 0 ∧ keepsRegs s t [kTrig d 0] ∧
        t = { s with regs := t.regs, kly := t.kly }) ∧
      ((s.trig d).valid = true → w ≠ 0 → ∃ t, exec (.triggerDescriptorWrite 0 d w v) s = .next t ∧ OnlyRegs s t [0x38000, 0x30400])) ∧
    (∀ d : TrigId, (s.trig d).valid = true → s.firing d = none → s.flag fCeFenced = false →
      (s.trig d).thresh + (s.trig d).fired * (s.trig d).step ≤ (s.reg64 (kCnt (s.trig d).trigCnt)).toNat → ∃ t, exec (.triggeredOpFire d true) s = .next t ∧
        t.firing d = some { performed := false, failed := false, waits := [] } ∧ (∀ e, e ≠ d.val → t.firing e = s.firing e) ∧ t = { s with kly := t.kly }) ∧
    (∀ (d : TrigId) (x : Trig) (u : State), x = s.trig d →
      (s.dueFiring d 1 = true → u = s.asked (.firing d) x.part (s.putLines x) → waitsFor (.put d .clean) s (.firing d) x.part (s.putLines x) ∧
        (∀ ecc, s.goesOut (.firing d) x.part (s.putLines x) = true → s.ceMay x.part x.srcCeb x.src x.len false = true → ecc ≠ .uncorrectable →
          (x.dev = s.device → s.ceMay x.part x.dstCeb x.dst x.len true = true →
            (x.recvEn = true → s.cntOwned x.recvCnt x.part = true ∧ (s.reg64 (kCnt x.recvCnt)).toNat + 1 < 2 ^ 48) → ∃ t, exec (.put d ecc) s = .next t ∧
              t.firing d = some { performed := true, failed := false, waits := [] } ∧ t.ceBytes x.dstCeb x.dst x.len = s.ceBytes x.srcCeb x.src x.len ∧
              (x.dstCeb = true → keepsRam s t) ∧ (∀ a, (a < x.dst ∨ x.dst + x.len ≤ a) → t.ramByte a = s.ramByte a) ∧
              (x.recvEn = true → (t.reg64 (kCnt x.recvCnt)).toNat = (s.reg64 (kCnt x.recvCnt)).toNat + 1) ∧
              keepsRegs u t (if x.recvEn then [kCeEcc, kCnt x.recvCnt, kCnt x.recvCnt + 4] else [kCeEcc]) ∧ t.part = u.part) ∧
          (x.dev ≠ s.device → (s.choosePort (s.routeOf d x.dev)).isSome = true → ∃ t, exec (.put d ecc) s = .next t ∧
            t.firing d = some { performed := true, failed := false, waits := [x.dev] } ∧
            (∀ f ∈ s.message d x.dev x.dst (s.ceBytes x.srcCeb x.src x.len), ∃ i ∈ s.routeOf d x.dev, f ∈ (t.kport i).own) ∧ keepsRegs u t [kCeEcc] ∧ keepsRam s t ∧
            t = { u with regs := t.regs, kly := t.kly }))) ∧
      (s.dueFiring d 2 = true → u = s.asked (.firing d) x.part (linesOf x.dst x.len) → waitsFor (.reduce d .clean) s (.firing d) x.part (linesOf x.dst x.len) ∧
        (∀ ecc n, s.goesOut (.firing d) x.part (linesOf x.dst x.len) = true → ecc ≠ .uncorrectable → n = x.len / reduceSize x.fmt * reduceSize x.fmt →
          (∀ i, i < s.devices → s.stageOk x.part (x.src + i * x.stride) x.len = true) → s.ceMay x.part false x.dst x.len true = true →
          ∃ t, exec (.reduce d ecc) s = .next t ∧ t.firing d = some { performed := true, failed := false, waits := [] } ∧
            t.ramBytes x.dst n = reduceBytes x.fmt x.len ((List.range s.devices).map (fun i => s.stageBytes (x.src + i * x.stride) x.len)) ∧
            (∀ a, (a < x.dst ∨ x.dst + x.len ≤ a) → t.ramByte a = s.ramByte a) ∧ keepsRegs u t [kCeEcc] ∧ t.part = u.part)) ∧
      (∀ entry : Nat → Nat → Nat, entry = (fun i o => fieldAt (s.ramBytes x.aux (8 * s.devices)) (8 * i + o) 4) → s.dueFiring d 3 = true →
        u = s.asked (.firing d) x.part (s.exchangeLines x) → waitsFor (.exchange d .clean) s (.firing d) x.part (s.exchangeLines x) ∧
        (∀ own, s.goesOut (.firing d) x.part (s.exchangeLines x) = true → s.device < s.devices → s.ceMay x.part false x.aux (8 * s.devices) false = true →
          (∀ i, i < s.devices → entry i 4 ≤ x.len ∧ (1 ≤ entry i 4 * x.elem → s.ceMay x.part x.srcCeb (x.src + entry i 0) (entry i 4 * x.elem) false = true) ∧
            (i ≠ s.device → (s.choosePort (s.routeOf d i)).isSome = true)) →
          s.ceMay x.part x.dstCeb (x.dst + s.device * x.slotLen) x.slotLen true = true →
          (x.recvEn = true → s.cntOwned x.recvCnt x.part = true ∧ (s.reg64 (kCnt x.recvCnt)).toNat + 1 < 2 ^ 48) → own = entry s.device →
          ∃ t, exec (.exchange d .clean) s = .next t ∧
            t.firing d = some { performed := true, failed := false, waits := (List.range s.devices).filter (· != s.device) } ∧
            t.ceBytes x.dstCeb (x.dst + s.device * x.slotLen) x.slotLen =
              exchangeSlot x.len x.elem (own 4) s.device x.fired (s.ceBytes x.srcCeb (x.src + own 0) (own 4 * x.elem)) ∧
            keepsRegs u t (if x.recvEn then [kCnt x.recvCnt, kCnt x.recvCnt + 4] else []) ∧ t.part = u.part)) ∧
      (s.dueFiring d 4 = true → u = s.asked (.firing d) x.part (linesOf x.dst 8) → waitsFor (.flag d) s (.firing d) x.part (linesOf x.dst 8) ∧
        (s.goesOut (.firing d) x.part (linesOf x.dst 8) = true → s.ceMay x.part false x.dst 8 true = true → ∃ t, exec (.flag d) s = .next t ∧
          t.firing d = some { performed := true, failed := false, waits := [] } ∧ t.ramBytes x.dst 8 = leBytes 8 x.aux ∧
          (∀ a, (a < x.dst ∨ x.dst + 8 ≤ a) → t.ramByte a = s.ramByte a) ∧ keepsRegs u t [] ∧ t.part = u.part)) ∧
      (∀ q, s.dueFiring d 5 = true → q = bitsAt x.aux 0 16 → (s.queue q).owner = x.part →
        (s.inReset x.part = true → exec (.doorbell d) s = .next (s.firedTo d [])) ∧
        (s.inReset x.part = false → s.advanceFault (s.queue q) (bitsAt x.aux 16 8) = none → ∃ t, exec (.doorbell d) s = .next t ∧
          t.firing d = some { performed := true, failed := false, waits := [] } ∧ (t.queue q).next = (s.queue q).next + bitsAt x.aux 16 8 ∧
          (t.queue q).prod = ((s.queue q).prod + bitsAt x.aux 16 8) % 65536 ∧ (∀ r, r ≠ q → t.queue r = s.queue r) ∧ t = { s with qm := t.qm, kly := t.kly }))) ∧
    (∀ (d : TrigId) (x : Firing), Tbl.wf s.kly.firings = true → s.firing d = some x → x.performed = true → x.failed = false → x.waits = [] → s.flag fCeFenced = false →
      ((s.trig d).doneEn = true → s.cntOwned (s.trig d).doneCnt (s.trig d).part = true ∧ (s.reg64 (kCnt (s.trig d).doneCnt)).toNat + 1 < 2 ^ 48) →
      ∃ t, exec (.firingComplete d) s = .next t ∧ t.firing d = none ∧ t.reg (kFired d) = s.reg (kFired d) + 1 ∧ ((s.trig d).rearm = false → t.flag (fTrigValid d) = false) ∧
        ((s.trig d).rearm = true → t.flag (fTrigValid d) = s.flag (fTrigValid d)) ∧ (d.val < 256 → t.reg kCeOps = (s.bump kCeOps).reg kCeOps) ∧
        ((s.trig d).doneEn = true → (t.reg64 (kCnt (s.trig d).doneCnt)).toNat = (s.reg64 (kCnt (s.trig d).doneCnt)).toNat + 1) ∧ keepsRam s t ∧
        t = { s with regs := t.regs, kly := t.kly, part := { s.part with asks := s.part.asks.filter (fun y => y.user != .firing d) } }) ∧
    (∀ (d : TrigId) us, (s.firing d).isSome = true → (s.trig d).timeout ≤ us → s.kly.late.contains d.val = false → s.flag fCeFenced = false → ∃ t ev,
      exec (.firingTimeout d us) s = .next t ∧ ev.code = 0x5204 ∧ ev.disp = .jobFault ∧ t.kly = { s.kly with late := d.val :: s.kly.late } ∧
      t.reg kCeTmo = (s.bump kCeTmo).reg kCeTmo ∧ keepsRegs s t [kCeTmo, kCeFaultInfo] ∧ t.reeve = { s.reeve with events := s.reeve.events ++ [ev] } ∧
      t = { s with regs := t.regs, kly := t.kly, reeve := t.reeve })

/-- By the physical function or perception's. EN with a threshold and a speed in range clears the port's counters and tries the first valid
ladder entry: SETTLING, its script started; without a valid entry the port is FAILED with 0x1102; out of range is REJECTED. Clearing EN
closes the port. No lock 200 ms after the script moves to the next valid entry or FAILED. A manual run starts a script on an idle device;
while a port settles or a script runs any write is REJECTED. WRITE puts its bytes on the bus and goes on, failing on a NAK, a ladder
script with its entry; WAIT passes its time; POLL reads its register, goes on at a match and fails at 100 ms; END succeeds; another OP fails. A manual script that fails shows FAILED and its entry. -/
def Obligations.MillPortsAndScriptsAct : Prop :=
  ∀ (s : State) (fn : Fn) (p : Fin 4), State.Ok s →
    (∀ v : Word, s.turnsAway fn = false → s.percOrPf fn = true → s.blocksOff = false →
      (s.flag (fPortEn p.val) = false → (fPortEn p.val).ofWord v = 1 → portCfgOk p.val v = true →
        (∀ e, s.entryFrom p.val 0 = some e → ∃ t, exec (.millPortEnable fn p v) s = .next t ∧ t.get (fPortState p.val) = 1 ∧ t.get (fPortEntry p.val) = e ∧
          t.flag (fPortEn p.val) = true ∧ (t.port p.val).script = some { entry := s.get (fModeScript p.val e), ladder := true } ∧ t.reg (kPortErrs p.val) = 0 ∧
          t.get (fI2cState p.val) = 1 ∧ keepsRam s t ∧ t = { s with regs := t.regs, mill := t.mill }) ∧
        (s.entryFrom p.val 0 = none → ∃ t ev, exec (.millPortEnable fn p v) s = .next t ∧ t.get (fPortState p.val) = 3 ∧ ev.code = 0x1102 ∧ ev.disp = .violation ∧
          t = { s with regs := t.regs, mill := t.mill, reeve := { s.reeve with events := s.reeve.events ++ [ev] } })) ∧
      (s.flag (fPortEn p.val) = false → (fPortEn p.val).ofWord v = 1 → portCfgOk p.val v = false → ∃ t, exec (.millPortEnable fn p v) s = .next t ∧
        t.flag fMillRejected = true ∧ OnlyRegs s t [0x10000]) ∧
      (s.flag (fPortEn p.val) = true → (fPortEn p.val).ofWord v = 0 → portCfgOk p.val v = true → ∃ t, exec (.millPortDisable fn p v) s = .next t ∧
        t.get (fPortState p.val) = 0 ∧ t.flag (fPortEn p.val) = false ∧ t.port p.val = PortSt.reset ∧ keepsRam s t ∧
        t = { s with regs := t.regs, mill := t.mill, part := { s.part with asks := t.part.asks } }) ∧
      (v.getLsbD 31 = true → bitsAt v.toNat 0 16 < 1024 → (∀ q, q < 4 → s.get (fPortState q) ≠ 1 ∧ (s.port q).script = none) → ∃ t, exec (.i2cRun fn p v) s = .next t ∧
        (t.port p.val).script = some { entry := bitsAt v.toNat 0 16, ladder := false } ∧ t.get (fI2cState p.val) = 1 ∧ keepsRegs s t [0x10090 + 4 * p.val] ∧
        t = { s with regs := t.regs, mill := t.mill }) ∧
      ((∃ q, q < 4 ∧ (s.get (fPortState q) = 1 ∨ (s.port q).script.isSome = true)) → ∃ t, exec (.i2cRun fn p v) s = .next t ∧ t.flag fMillRejected = true ∧ OnlyRegs s t [0x10000]) ∧
      (v.getLsbD 31 = true → (∃ q, q < 4 ∧ (s.port q).script.isSome = true) → ∃ t, exec (.i2cRun fn p v) s = .next t ∧ t.flag fMillRejected = true ∧ OnlyRegs s t [0x10000])) ∧
    (∀ ms, s.get (fPortState p.val) = 1 → (s.port p.val).script = none → 200 ≤ ms →
      (∀ e, s.entryFrom p.val (s.get (fPortEntry p.val) + 1) = some e → ∃ t, exec (.portLockTimeout p ms) s = .next t ∧ t.get (fPortState p.val) = 1 ∧ t.get (fPortEntry p.val) = e ∧
        (t.port p.val).script = some { entry := s.get (fModeScript p.val e), ladder := true } ∧ keepsRam s t ∧ t = { s with regs := t.regs, mill := t.mill }) ∧
      (s.entryFrom p.val (s.get (fPortEntry p.val) + 1) = none → ∃ t ev, exec (.portLockTimeout p ms) s = .next t ∧ t.get (fPortState p.val) = 3 ∧ ev.code = 0x1102 ∧
        t.reg (kPortErrs p.val) = (s.bump (kPortErrs p.val)).reg (kPortErrs p.val) ∧ OnlyRegsEvents s t [0x10020 + 4 * p.val, kPortErrs p.val] [ev])) ∧
    (∀ r : ScriptRun, (s.port p.val).script = some r →
      (∀ us, s.scriptOp r.entry = 1 → us ≤ 10000 → ∃ t, exec (.scriptWrite p true us false) s = .next t ∧ t.port p.val = { s.port p.val with script := some { r with entry := r.entry + 1 } } ∧
        t.emitted = s.emitted ++ [.i2cWrite p.val (bitsAt (s.scriptWord (2 * r.entry)) 16 7) (bitsAt (s.scriptWord (2 * r.entry)) 0 16) (bitAt (s.scriptWord (2 * r.entry)) 27)
          (BitVec.ofNat 8 (s.scriptWord (2 * r.entry + 1)))] ∧ t = { s with mill := t.mill, emitted := t.emitted }) ∧
      (∀ us, s.scriptOp r.entry = 1 → r.ladder = false → r.entry < 65536 → ∃ t, exec (.scriptWrite p false us false) s = .next t ∧ (t.port p.val).script = none ∧
        t.get (fI2cState p.val) = 3 ∧ t.get (fI2cFailed p.val) = r.entry ∧ keepsRegs s t [0x10090 + 4 * p.val] ∧ t = { s with regs := t.regs, mill := t.mill }) ∧
      (s.scriptOp r.entry = 2 → s.now + bitsAt (s.scriptWord (2 * r.entry + 1)) 0 24 * 1000 < 2 ^ 64 → ∃ t, exec (.scriptWait p false) s = .next t ∧
        t.now = s.now + bitsAt (s.scriptWord (2 * r.entry + 1)) 0 24 * 1000 ∧ t.port p.val = { s.port p.val with script := some { r with entry := r.entry + 1 } } ∧
        t = { s with tb := t.tb, mill := t.mill }) ∧
      (∀ (x : Byte) ms (e : Emission), s.scriptOp r.entry = 3 → e = .i2cRead p.val (bitsAt (s.scriptWord (2 * r.entry)) 16 7) (bitsAt (s.scriptWord (2 * r.entry)) 0 16) (bitAt (s.scriptWord (2 * r.entry)) 27) →
        (x.toNat &&& bitsAt (s.scriptWord (2 * r.entry + 1)) 8 8 = bitsAt (s.scriptWord (2 * r.entry + 1)) 0 8 → ∃ t, exec (.scriptPoll p true x ms false) s = .next t ∧
          t.port p.val = { s.port p.val with script := some { r with entry := r.entry + 1 } } ∧ t = { s with mill := t.mill, emitted := s.emitted ++ [e] }) ∧
        (x.toNat &&& bitsAt (s.scriptWord (2 * r.entry + 1)) 8 8 ≠ bitsAt (s.scriptWord (2 * r.entry + 1)) 0 8 → ms < 100 →
          exec (.scriptPoll p true x ms false) s = .next { s with emitted := s.emitted ++ [e] }) ∧
        (x.toNat &&& bitsAt (s.scriptWord (2 * r.entry + 1)) 8 8 ≠ bitsAt (s.scriptWord (2 * r.entry + 1)) 0 8 → 100 ≤ ms → r.ladder = false → ∃ t,
          exec (.scriptPoll p true x ms false) s = .next t ∧ (t.port p.val).script = none ∧ t.get (fI2cState p.val) = 3 ∧
          t = { s with regs := t.regs, mill := t.mill, emitted := s.emitted ++ [e] })) ∧
      (∀ us e, s.scriptOp r.entry = 1 → r.ladder = true → s.entryFrom p.val (s.get (fPortEntry p.val) + 1) = some e → ∃ t, exec (.scriptWrite p false us false) s = .next t ∧
        (t.port p.val).script = some { entry := s.get (fModeScript p.val e), ladder := true } ∧ t.get (fPortState p.val) = 1 ∧ t.get (fPortEntry p.val) = e ∧
        t = { s with regs := t.regs, mill := t.mill }) ∧
      (s.scriptOp r.entry = 0 → ∃ t, exec (.scriptEnd p false) s = .next t ∧ t.port p.val = { s.port p.val with script := none } ∧ t.get (fI2cState p.val) = 2 ∧
        keepsRegs s t [0x10090 + 4 * p.val] ∧ t = { s with regs := t.regs, mill := t.mill }) ∧
      (4 ≤ s.scriptOp r.entry → r.ladder = false → r.entry < 65536 → ∃ t, exec (.scriptInvalidOp p false) s = .next t ∧ (t.port p.val).script = none ∧
        t.get (fI2cState p.val) = 3 ∧ t.get (fI2cFailed p.val) = r.entry ∧ t = { s with regs := t.regs, mill := t.mill }))

/-- On an UP port that takes the packet: a Frame Start stamped within 50 ns opens, on every stream of the channel without an open frame and
with its window open, a frame with the next free slot, or without one as NO_SLOT, its capture the stamp less the offset, or the edge plus
it; a second one of a number is counted LATE. A long packet of the bound type is the next line of each bound stream's frame, cut to the
line's length or marked short, or its next JPEG packet; data type 0x12 is embedded data; Line Start and Line End have no effect. A Frame
End of the frame's number ends it, and of another number logs 0x1109. An unbound channel logs 0x1108. Good packets of a settling port
count, and the eighth locks it. An accepted range packet of a matching context starts its parser's run or waits for it, and one with a bad
checksum logs 0x1201. A frame not assembled in time logs 0x1105. The decode stage turns the oldest good line of the context whose turn it
is into its samples. A valid region list with a new SEQ replaces the list in force, once for a boundary and once its request goes out; an
invalid one is counted and logs 0x1113. -/
def Obligations.CameraAndRangePacketsBuildFrames : Prop :=
  ∀ s : State, State.Ok s →
    (∀ (p : Fin 4) (vc : Fin 16) (n : BitVec 16) (h : Header) (sync : Bool) (tm : Nat) (u : State), s.get (fPortState p.val) = 2 → h ≠ .uncorrectable →
      u = (s.csiStamp tm).1.portHeader p.val h sync (leBytes 2 n.toNat) → u.get (fPortState p.val) = 2 →
      (s.camStreams p.val vc.val ≠ [] → s.now ≤ tm → 50 ≤ tm → tm + 50 < 2 ^ 64 → ∃ (t : State) (w : Nat), exec (.csiFrameStart p vc n h sync tm) s = .next t ∧ tm ≤ w + 50 ∧ w ≤ tm + 50 ∧
        (t.port p.val).silent.contains vc.val = false ∧ keepsRam s t ∧ ∀ k ∈ s.camStreams p.val vc.val, s.receiving k = none → s.windowOpen k = true →
          ∀ c, ((s.get (fStrmMethod k) ≠ 1 ∨ s.flag fFrameEn = false) ∧ c = ((w : Int) - s.captureOffset k).toNat ∨
              ∃ m e used, s.get (fStrmMethod k) = 1 ∧ s.flag fFrameEn = true ∧ (s.strm k).windowAt = some (m, e, used) ∧ c = ((e : Int) + s.captureOffset k).toNat) →
            (s.grpFree (s.get (fStrmGroup k)) = true ∨ (s.strm k).begun.contains (u.frameAt c) = false → ∃ f : MFrame, (t.strm k).frames = (s.strm k).frames ++ [f] ∧ f.stream = k ∧
              f.capture = c ∧ f.frameNo = u.frameAt c ∧ f.fsNumber = n.toNat ∧ f.ended = false ∧ f.closed = false ∧ f.lines = [] ∧ f.received = 0 ∧ (t.strm k).skip = false ∧
              (s.slotsHeld k < s.get (fStrmSlots k) → f.slot = some (s.strm k).slotNext ∧ f.status = 0 ∧ t.reg (kStrmCnt k 0) = s.reg (kStrmCnt k 0) + 1 ∧
                (t.strm k).slotNext = ((s.strm k).slotNext + 1) % s.get (fStrmSlots k)) ∧
              (s.get (fStrmSlots k) ≤ s.slotsHeld k → f.slot = none ∧ f.status = 4 ∧ t.reg (kStrmCnt k 0) = s.reg (kStrmCnt k 0))) ∧
            (s.grpFree (s.get (fStrmGroup k)) = false → (s.strm k).begun.contains (u.frameAt c) = true → (t.strm k).frames = (s.strm k).frames ∧ (t.strm k).skip = true ∧
              t.reg (kStrmCnt k 4) = (s.bump (kStrmCnt k 4)).reg (kStrmCnt k 4))) ∧
      (s.camStreams p.val vc.val ≠ [] → s.vcSilent p.val vc.val = false → ∃ t, exec (.csiFrameEnd p vc n h sync tm) s = .next t ∧
        ∀ k ∈ s.camStreams p.val vc.val, ∀ f, s.receiving k = some f → (s.strm k).skip = false → (∀ x ∈ (s.strm k).frames.dropLast, (x.ended || x.closed) = true) →
          t.receiving k = none ∧ (f.fsNumber = n.toNat → f.pend ≠ [] → ∃ g, (t.strm k).frames.getLast? = some g ∧ g.ended = true ∧ g.slot = f.slot ∧ g.pend = f.pend ∧ g.status = f.status ∧
            g.endRec ≠ []) ∧
          (f.fsNumber ≠ n.toNat → t.reg (kStrmCnt k 7) = (s.bump (kStrmCnt k 7)).reg (kStrmCnt k 7) ∧ ∃ ev ∈ t.reeve.events, ev.code = 0x1109 ∧ ev.disp = .violation))) ∧
    (∀ (p : Fin 4) (vc : Fin 16) (n : BitVec 16) (tm k : Nat) f, s.get (fPortState p.val) = 2 → s.vcSilent p.val vc.val = false → s.camStreams p.val vc.val = [k] →
      s.receiving k = some f → (s.strm k).skip = false →
      (f.fsNumber = n.toNat → f.pend ≠ [] → ∃ t, exec (.csiFrameEnd p vc n .clean false tm) s = .next t ∧ keepsRegs s t [] ∧ keepsRam s t ∧
        t = { s with tb := t.tb, mill := t.mill, draws := s.draws + 1 }) ∧
      (f.fsNumber ≠ n.toNat → ∃ t ev, exec (.csiFrameEnd p vc n .clean false tm) s = .next t ∧ ev.code = 0x1109 ∧ ev.disp = .violation ∧
        t.reeve = { s.reeve with events := s.reeve.events ++ [ev] } ∧ keepsRam s t)) ∧
    (∀ (p : Fin 4) (vc : Fin 16) (dt : BitVec 6) (bs : List Byte) (h : Header) (sync : Bool) (lanes : BitVec 4) (ecc : Ecc) (tm : Nat) (u : State), s.get (fPortState p.val) = 2 →
      s.vcSilent p.val vc.val = false → h ≠ .uncorrectable → dt.toNat ≠ 2 → dt.toNat ≠ 3 → dt.toNat ≠ 0x26 → dt.toNat ≠ 0x27 →
      u = ((s.reach tm).put (fLaneOk p.val) lanes.toNat).portHeader p.val h sync (bs.take 16) → u.get (fPortState p.val) = 2 → ∃ t, exec (.csiLongPacket p vc dt bs h true sync lanes ecc tm) s = .next t ∧
        keepsRam s t ∧ ∀ k ∈ s.camStreams p.val vc.val, ∀ f, s.receiving k = some f → (s.strm k).skip = false → f.slot.isSome = true →
          (s.get (fSrcDt k) = dt.toNat → s.lineBuffered k + bs.length ≤ 393216 →
            (s.decodeMode k = 2 → t.receiving k = some { f with pend := f.pend ++ [{ payload := bs, bad := 0 }] }) ∧
            (s.decodeMode k ≠ 2 → f.received < s.get (fGeomH k) →
              (bs.length = s.lineBytes k → t.receiving k = some { f with pend := f.pend ++ [{ payload := bs, bad := 0 }], received := f.received + 1 }) ∧
              (s.lineBytes k < bs.length → t.receiving k = some { f with pend := f.pend ++ [{ payload := bs.take (s.lineBytes k), bad := 0 }], received := f.received + 1 } ∧
                t.reg (kStrmCnt k 7) = (s.bump (kStrmCnt k 7)).reg (kStrmCnt k 7)) ∧
              (bs.length < s.lineBytes k → ∃ g, t.receiving k = some g ∧ g.pend = f.pend ++ [{ payload := bs, bad := 0x1106 }] ∧ g.received = f.received + 1 ∧
                g.damageCount = f.damageCount + 1 ∧ t.reg (kStrmCnt k 7) = (s.bump (kStrmCnt k 7)).reg (kStrmCnt k 7)))) ∧
          (dt.toNat = 0x12 → (∀ j ∈ s.camStreams p.val vc.val, s.get (fSrcDt j) ≠ 0x12) → t.receiving k = some { f with embedded := f.embedded ++ bs })) ∧
    (∀ (p : Fin 4) (vc : Fin 16) (tm k : Nat), s.get (fPortState p.val) = 2 → s.vcSilent p.val vc.val = false → s.camStreams p.val vc.val = [k] →
      (∀ f bs lanes, s.receiving k = some f → (s.strm k).skip = false → f.slot.isSome = true → s.decodeMode k ≠ 2 → f.received < s.get (fGeomH k) →
        s.lineBuffered k + bs.length ≤ 393216 → bs.length = s.lineBytes k → s.get (fSrcDt k) ≠ 0x26 → s.get (fSrcDt k) ≠ 0x27 → s.get (fSrcDt k) ≠ 2 → s.get (fSrcDt k) ≠ 3 → ∃ t,
          exec (.csiLongPacket p vc (BitVec.ofNat 6 (s.get (fSrcDt k))) bs .clean true false lanes .clean tm) s = .next t ∧ keepsRegs s t [0x10020 + 4 * p.val] ∧
          t = { s with regs := t.regs, tb := t.tb, mill := t.mill })) ∧
    (∀ (p : Fin 4) (vc : Fin 16) (dt : BitVec 6) bs (lanes : BitVec 4) tm, (s.get (fPortState p.val) = 1 ∨ s.get (fPortState p.val) = 2) → (dt = 2 ∨ dt = 3) → ∃ t,
      exec (.csiLongPacket p vc dt bs .clean true false lanes .clean tm) s = .next t ∧ t.get (fLaneOk p.val) = lanes.toNat ∧ keepsRegs s t [0x10020 + 4 * p.val] ∧
      t = { s with regs := t.regs, tb := t.tb }) ∧
    (∀ (p : Fin 4) (vc : Fin 16) (n : BitVec 16) tm, s.get (fPortState p.val) = 2 → s.camStreams p.val vc.val = [] → ∃ ev : FaultEvent, ev.code = 0x1108 ∧ ev.disp = .violation ∧
      (∃ t, exec (.csiFrameStart p vc n .clean false tm) s = .next t ∧ t.reg (kPortErrs p.val) = (s.bump (kPortErrs p.val)).reg (kPortErrs p.val) ∧ keepsRegs s t [kPortErrs p.val] ∧
        t = { s with regs := t.regs, tb := t.tb, mill := t.mill, draws := s.draws + 1, reeve := { s.reeve with events := s.reeve.events ++ [ev] } }) ∧
      (s.vcSilent p.val vc.val = false → ∃ t, exec (.csiFrameEnd p vc n .clean false tm) s = .next t ∧ t.reg (kPortErrs p.val) = (s.bump (kPortErrs p.val)).reg (kPortErrs p.val) ∧
        keepsRegs s t [kPortErrs p.val] ∧ t = { s with regs := t.regs, tb := t.tb, draws := s.draws + 1, reeve := { s.reeve with events := s.reeve.events ++ [ev] } }) ∧
      (s.vcSilent p.val vc.val = true → ∃ t, exec (.csiFrameEnd p vc n .clean false tm) s = .next t ∧ t = { s with tb := t.tb, draws := s.draws + 1 })) ∧
    (∀ (p : Fin 4) vc (dt : BitVec 6) bs tm, s.get (fPortState p.val) = 1 → (s.port p.val).script = none → dt ≠ 2 → dt ≠ 3 → s.lanesOf p.val (s.get (fPortEntry p.val)) ≤ 15 → ∃ t,
      exec (.csiLongPacket p vc dt bs .clean true false 15 .clean tm) s = .next t ∧ ((s.port p.val).good < 7 → (t.port p.val).good = (s.port p.val).good + 1 ∧ t.get (fPortState p.val) = 1) ∧
      (7 ≤ (s.port p.val).good → t.get (fPortState p.val) = 2) ∧ keepsRam s t) ∧
    (∀ (mac : Fin 4) (pkt : UdpPacket) tm k, s.classify mac.val pkt = some k → pkt.fragment = false → pkt.malformed = false → pkt.udpHeader = true → pkt.payload ≠ [] →
      pkt.payload.length ≤ 8192 → s.now ≤ tm → 8 ≤ tm → tm < 2 ^ 64 →
      (pkt.checksumOk = true → (s.strm k).run = none → (s.strm k).queue = [] → ∃ (t : State) (q : RangePkt), exec (.rangePacket mac pkt .clean tm) s = .next t ∧ q.payload = pkt.payload ∧
        tm ≤ q.arrival + 8 ∧ q.arrival ≤ tm + 8 ∧
        (t.strm k).run = some (q, ParserRun.start (s.strm k).g (s.strm k).expected (s.get (fParserStart k)) pkt.payload) ∧ keepsRegs s t [] ∧ keepsRam s t ∧
        t = { s with tb := t.tb, mill := t.mill, draws := s.draws + 1 }) ∧
      (∀ ecc, pkt.checksumOk = true → ∃ (t : State) (q : RangePkt), exec (.rangePacket mac pkt ecc tm) s = .next t ∧ q.payload = pkt.payload ∧ tm ≤ q.arrival + 8 ∧ q.arrival ≤ tm + 8 ∧
        ((s.strm k).run.isSome = true → (t.strm k).run = (s.strm k).run ∧ (t.strm k).queue = (s.strm k).queue ++ [q]) ∧
        (∀ p rest, (s.strm k).run = none → (s.strm k).queue ++ [q] = p :: rest → (t.strm k).queue = rest ∧
          (t.strm k).run = some (p, ParserRun.start (s.strm k).g (s.strm k).expected (s.get (fParserStart k)) p.payload)) ∧
        (∀ j, j ≠ k → t.strm j = s.strm j) ∧ keepsRegs s t [kMillCe] ∧ t = { s with regs := t.regs, tb := t.tb, mill := t.mill, draws := s.draws + 1, reeve := t.reeve }) ∧
      (pkt.checksumOk = false → ∃ t ev, exec (.rangePacket mac pkt .clean tm) s = .next t ∧ ev.code = 0x1201 ∧ ev.disp = .violation ∧
        t.reg (kStrmCnt k 7) = (s.bump (kStrmCnt k 7)).reg (kStrmCnt k 7) ∧ t.reeve = { s.reeve with events := s.reeve.events ++ [ev] } ∧ (t.strm k).run = (s.strm k).run ∧
        (t.strm k).gap ≠ 0 ∧ keepsRegs s t [kStrmCnt k 7])) ∧
    (∀ (k : Fin 24) ms f, s.receiving k.val = some f → s.get (fFrameTimeout k.val) ≤ ms → ∃ t ev, exec (.frameAssemblyTimeout k ms) s = .next t ∧ ev.code = 0x1105 ∧ ev.disp = .violation ∧
      t.reeve = { s.reeve with events := s.reeve.events ++ [ev] } ∧ t.reg (kStrmCnt k.val 7) = (s.bump (kStrmCnt k.val 7)).reg (kStrmCnt k.val 7) ∧ (t.strm k.val).skip = true ∧ keepsRam s t) ∧
    (∀ (k : Fin 16) (f : MFrame) l rest ecc, s.decodable k.val = some f → f.pend = l :: rest →
      (s.decodeTurn ≠ some k.val → exec (.decodeLine k ecc false) s = .next s) ∧
      (∀ g : MFrame, s.decodeTurn = some k.val → (f.ended = false ∨ rest ≠ []) →
        (s.decodeMode k.val = 2 → g = { f with pend := rest, taken := f.taken ++ [l] }) →
        (s.decodeMode k.val ≠ 2 → (s.decodeMode k.val = 1 → l.bad = 0 → (s.decodeLine k.val l.payload).length = s.get (fGeomW k.val) * s.perPixel k.val) ∧
          g = { f with pend := rest, lines := f.lines ++ [if l.bad = 0 then (s.decodeLine k.val l.payload, true) else ([], false)] }) →
        ∃ t, exec (.decodeLine k ecc false) s = .next t ∧ (t.strm k.val).frames = (s.strm k.val).frames.map (fun x => if x = f then g else x) ∧ t.mill.turn = k.val ∧
          (∀ j, j ≠ k.val → t.strm j = s.strm j) ∧ keepsRegs s t [kMillCe] ∧ (ecc = .clean → t = { s with mill := t.mill }))) ∧
    (∀ (k : Fin 16) a n (u : State), s.flag (fStrmEn k.val) = true → a = (s.reg64 (kList k.val)).toNat → n = min (32 + 16 * s.get (fRoiMax k.val)) (32 + 16 * (s.ramByte (a + 8)).toNat) →
      s.winOk s.perc a 32 false = true → s.winOk s.perc a n false = true → s.badIn a n = none → u = s.asked (.list k.val) s.perc (linesOf a n) →
      (s.listReadDue k.val = false → exec (.sieveListRead k false) s = .next s) ∧ (s.listReadDue k.val = true → waitsFor (.sieveListRead k false) s (.list k.val) s.perc (linesOf a n) ∧
        (s.goesOut (.list k.val) s.perc (linesOf a n) = true →
          (∀ l o, listOf (s.get (fRoiMax k.val)) (s.ramBytes a n) = some l → (s.strm k.val).list = o → (∀ x, o = some x → x.seq ≠ l.seq) → ∃ t, exec (.sieveListRead k false) s = .next t ∧
            (t.strm k.val).list = some l ∧ t.get (fListSeq k.val) = l.seq % 65536 ∧ t.get (fListCount k.val) = l.regions.length % 256 ∧ t.listReadDue k.val = false ∧ keepsRam s t ∧
            (s.flag fFrameEn = true → ∀ x ∈ (t.strm k.val).frames, x.closed = false → BitVec.ofNat 32 x.frameNo = s.reg kFrameNum →
              x.list = (if l.applies true (s.reg kFrameNum) 0 then some l else none) ∧ x.listExpired = !l.applies true (s.reg kFrameNum) 0) ∧
            t = { u with regs := t.regs, mill := t.mill }) ∧
          (listOf (s.get (fRoiMax k.val)) (s.ramBytes a n) = none → ∃ t ev, exec (.sieveListRead k false) s = .next t ∧ ev.code = 0x1113 ∧ ev.disp = .violation ∧
            t.reg (kSvCnt k.val 1) = (s.bump (kSvCnt k.val 1)).reg (kSvCnt k.val 1) ∧ (t.strm k.val).list = (s.strm k.val).list ∧ t.listReadDue k.val = false ∧
            t.reeve = { s.reeve with events := s.reeve.events ++ [ev] } ∧ keepsRegs u t [kSvCnt k.val 1, kStrmCnt k.val 7, (fListExpired k.val).key]))))

/-- A due trigger with the SPLL locked drives its pin, counts, and opens its streams' windows within 10 ns of its time; with the SPLL not
locked it is suppressed: counted, 0x1401, its streams MISSED. A pulse ends low. A window without a Frame Start leaves its stream ABSENT
for the frame. A collection window's close is noted. A resolved group frame with room is posted: HEAD rises by a record for each member
and one more, once their request goes out, and the next frame is due; without room it stalls, counted once; during a recovery it is dropped. A FREE group posts its
oldest frame. RELEASE and TAIL are stored within what is held, else REJECTED. A stream that may be enabled starts with its counters 0 and
no frame. -/
def Obligations.TriggersGroupsAndRingsAct : Prop :=
  ∀ s : State, State.Ok s →
    (∀ i : Fin 8, s.asleep = false → s.flag (fTrigEn i.val) = true → s.flag fFrameEn = true → s.tb.begun = true → (s.reg kFrameNum).toNat % (s.get (fTrigDiv i.val) + 1) = 0 →
      (s.get fSpll = 2 → (s.reg (kTrigOffset i.val)).toNat * 1000 < s.period → 10 ≤ s.boundaryAt (s.tb.next - 1) + (s.reg (kTrigOffset i.val)).toNat * 1000 → ∃ t,
        exec (.triggerFire i) s = .next t ∧ t.emitted = s.emitted ++ [.trigOut i.val true (!s.flag (fTrigPol i.val))] ∧ t.reg (kTrigFired i.val) = (s.bump (kTrigFired i.val)).reg (kTrigFired i.val) ∧
        (Tbl.find t.mill.pulses i.val).isSome = true ∧ keepsRegs s t [kTrigFired i.val] ∧ keepsRam s t ∧
        (∀ k ∈ s.trigStreams i.val, ∃ e, (t.strm k).windows = (s.strm k).windows ++ [(s.reg kFrameNum, e, false)] ∧
          s.boundaryAt (s.tb.next - 1) + (s.reg (kTrigOffset i.val)).toNat * 1000 ≤ e + 10 ∧ e ≤ s.boundaryAt (s.tb.next - 1) + (s.reg (kTrigOffset i.val)).toNat * 1000 + 10) ∧
        t = { s with regs := t.regs, tb := t.tb, mill := t.mill, draws := s.draws + 1, emitted := t.emitted }) ∧
      (s.get fSpll ≠ 2 → ∃ t ev, exec (.triggerFire i) s = .next t ∧ ev.code = 0x1401 ∧ ev.disp = .report ∧
        t.reg (kTrigMissed i.val) = (s.bump (kTrigMissed i.val)).reg (kTrigMissed i.val) ∧ keepsRegs s t [kTrigMissed i.val] ∧
        (∀ k ∈ s.trigStreams i.val, (t.grp (s.get (fStrmGroup k))).missed.contains (k, s.reg kFrameNum) = true) ∧
        t = { s with regs := t.regs, mill := t.mill, reeve := { s.reeve with events := s.reeve.events ++ [ev] } })) ∧
    (∀ i : Fin 8, (Tbl.find s.mill.pulses i.val).isSome = true → Tbl.wf s.mill.pulses = true → ∃ t, exec (.triggerPulseEnd i) s = .next t ∧ Tbl.find t.mill.pulses i.val = none ∧
      t.emitted = s.emitted ++ [.trigOut i.val false (s.flag (fTrigPol i.val))] ∧ t = { s with tb := t.tb, mill := t.mill, emitted := t.emitted }) ∧
    (∀ (k : Fin 16) n e (u : Bool) rest, (s.strm k.val).windows = (n, e, u) :: rest → ∃ t, exec (.triggerWindowEnd k) s = .next t ∧ (t.strm k.val).windows = rest ∧
      (t.grp (s.get (fStrmGroup k.val))).absent = (s.grp (s.get (fStrmGroup k.val))).absent ++ (if u then [] else [(k.val, n)]) ∧ t = { s with tb := t.tb, mill := t.mill }) ∧
    (∀ (g : Fin 8) n, s.grpFree g.val = false → s.flag (fGrpEn g.val) = true → (s.grp g.val).closedAt.all (fun c => c.frame != n) = true →
      (∀ m, (s.grp g.val).next = some m → after m n = false) → ∃ t, exec (.groupCollectClose g n) s = .next t ∧
      s.boundaryOf n.toNat + s.get (fCollectUs g.val) * 1000 ≤ max t.now (2 ^ 64) ∧
      t.grp g.val = { s.grp g.val with closedAt := (s.grp g.val).closedAt ++
        [{ frame := n, us := t.now / 1000, absent := (s.members g.val).filter (fun k => !(s.grp g.val).resolved k n) }] } ∧ t = { s with tb := t.tb, mill := t.mill }) ∧
    (∀ g : Fin 8, s.blocksOff = false → s.flag (fGrpEn g.val) = true →
      (∀ n, s.grpFree g.val = false → (s.grp g.val).next = some n → after n (s.reg kFrameNum) = false → (∀ k ∈ s.members g.val, (s.grp g.val).resolved k n = true) →
        (∀ m, s.recovering = false → s.ringRoom g.val ((s.members g.val).length + 1) = true →
          m = (s.members g.val).length + 1 + (((s.members g.val).filterMap (fun k => (s.grp g.val).frameOf k n)).filter (fun f => f.slot.isSome)).length →
          waitsFor (.millGroupPost g) s (.records g.val) s.perc m) ∧
        (s.recovering = false → s.ringRoom g.val ((s.members g.val).length + 1) = true →
          s.dramReady (.records g.val) s.perc ((s.members g.val).length + 1 + (((s.members g.val).filterMap (fun k => (s.grp g.val).frameOf k n)).filter (fun f => f.slot.isSome)).length) = true →
          ∃ t, exec (.millGroupPost g) s = .next t ∧
          t.reg (kGrpHead g.val) = s.reg (kGrpHead g.val) + BitVec.ofNat 32 ((s.members g.val).length + 1) ∧ (t.grp g.val).next = some (n + 1) ∧
          (∃ x, (t.grp g.val).posts.head? = some x ∧ x.frame = n ∧ x.headBefore = s.reg (kGrpHead g.val) ∧ x.time = s.now) ∧ (t.grp g.val).stalled = false) ∧
        (s.recovering = false → s.ringRoom g.val ((s.members g.val).length + 1) = false → (s.grp g.val).stalled = false → ∃ t, exec (.millGroupPost g) s = .next t ∧
          t.reg (kGrpStalls g.val) = (s.bump (kGrpStalls g.val)).reg (kGrpStalls g.val) ∧ t.grp g.val = { s.grp g.val with stalled := true } ∧ keepsRegs s t [kGrpStalls g.val] ∧
          t = { s with regs := t.regs, mill := t.mill }) ∧
        (s.recovering = true → ∃ t, exec (.millGroupPost g) s = .next t ∧ (t.grp g.val).next = some (n + 1) ∧
          t.reg kRecoveryDrops = (s.bump kRecoveryDrops).reg kRecoveryDrops ∧ keepsRegs s t [kRecoveryDrops] ∧ t = { s with regs := t.regs, mill := t.mill })) ∧
      (∀ f rest, s.grpFree g.val = true → (s.grp g.val).waiting = f :: rest → s.recovering = false → s.ringRoom g.val 2 = true →
        s.dramReady (.records g.val) s.perc (2 + ([f].filter (fun f => f.slot.isSome)).length) = true → ∃ t, exec (.millGroupPost g) s = .next t ∧
        t.reg (kGrpHead g.val) = s.reg (kGrpHead g.val) + 2 ∧ (t.grp g.val).waiting = rest)) ∧
    (∀ (fn : Fn) (k : Fin 24) (g : Fin 8) (v : Word), s.turnsAway fn = false → s.percOrPf fn = true → s.blocksOff = false →
      ((v - s.reg (kRelease k.val)).toNat ≤ s.slotsHeld k.val → ∃ t, exec (.slotRelease fn k v) s = .next t ∧ t.reg (kRelease k.val) = v ∧ OnlyRegs s t [kRelease k.val]) ∧
      (s.slotsHeld k.val < (v - s.reg (kRelease k.val)).toNat → ∃ t, exec (.slotRelease fn k v) s = .next t ∧ t.flag fMillRejected = true ∧ OnlyRegs s t [0x10000]) ∧
      (after v (s.reg (kGrpHead g.val)) = false → ∃ t, exec (.groupTailWrite fn g v) s = .next t ∧ t.reg (kGrpTail g.val) = v ∧ OnlyRegs s t [kGrpTail g.val]) ∧
      (after v (s.reg (kGrpHead g.val)) = true → ∃ t, exec (.groupTailWrite fn g v) s = .next t ∧ t.flag fMillRejected = true ∧ OnlyRegs s t [0x10000]) ∧
      (s.flag (fStrmEn k.val) = false → (fStrmEn k.val).ofWord v = 1 → strmCtrlOk k.val v = true → s.sieveOk k.val = true → ∃ t, exec (.streamEnable fn k v) s = .next t ∧
        t.flag (fStrmEn k.val) = true ∧ (∀ i, i < 8 → t.reg (kStrmCnt k.val i) = 0) ∧ t.reg (kRelease k.val) = 0 ∧ t.strm k.val = { StreamSt.reset with list := (s.strm k.val).list, listUses := (s.strm k.val).listUses } ∧
        keepsRam s t ∧ t = { s with regs := t.regs, mill := t.mill }) ∧
      (s.flag (fStrmEn k.val) = false → (fStrmEn k.val).ofWord v = 1 → (strmCtrlOk k.val v = false ∨ s.sieveOk k.val = false) → ∃ t, exec (.streamEnable fn k v) s = .next t ∧
        t.flag fMillRejected = true ∧ OnlyRegs s t [0x10000]))

/-- For a range context whose run stands, below the limit, at a word of its kind: loads take payload bytes at gS + IMM, big- or little-endian;
LDI, LUI, the ALU operations, shifts, multiplications, ADDI and a table read write gD; a branch moves by IMM where it is taken; EMIT,
STAMP and SWEEP add their effect; SEQ makes the number after gS's the expected one, packets skipped being lost, and rejects an old one. Each
executes one instruction. A run that ends or is rejected keeps its registers, and the next waiting packet's starts; its points go to the
open sweep, or it opens one. With nothing else waiting: END without effects and losses in an open sweep ends the run and keeps g and the expected number; a load outside the payload,
REJECT, and an invalid word end the run, keep g, and raise 0x1203, 0x1205 and (as a report) 0x1303. A run of 65,536 instructions is
rejected with 0x1204. -/
def Obligations.ParserInstructionsAct : Prop :=
  ∀ (s : State) (i : Fin 8) (p : RangePkt) (r : ParserRun) (w : Word) (k a : Nat), State.Ok s → k = 16 + i.val → (s.strm k).run = some (p, r) → r.steps < 65536 →
    instrAt s.pcode r.pc = some w → a = ((r.reg (pS w)).toNat + pImm w) % 2 ^ 32 →
    (parserOp w = .ld8 → a + 1 ≤ r.payload.length →
      ParserGoesOn (exec (.parserLd8 i false) s) s k p (r.wrote (pD w) (BitVec.ofNat 32 (r.payload.getD a 0).toNat))) ∧
    (parserOp w = .ld16 true → a + 2 ≤ r.payload.length →
      ParserGoesOn (exec (.parserLd16 i false) s) s k p (r.wrote (pD w) (BitVec.ofNat 32 ((r.payload.getD a 0).toNat * 256 + (r.payload.getD (a + 1) 0).toNat)))) ∧
    (parserOp w = .ld16 false → a + 2 ≤ r.payload.length →
      ParserGoesOn (exec (.parserLd16 i false) s) s k p (r.wrote (pD w) (BitVec.ofNat 32 ((r.payload.getD a 0).toNat + (r.payload.getD (a + 1) 0).toNat * 256)))) ∧
    (parserOp w = .ld32 true → a + 4 ≤ r.payload.length →
      ParserGoesOn (exec (.parserLd32 i false) s) s k p (r.wrote (pD w) (BitVec.ofNat 32 (beNat ((r.payload.drop a).take 4))))) ∧
    (parserOp w = .ld32 false → a + 4 ≤ r.payload.length →
      ParserGoesOn (exec (.parserLd32 i false) s) s k p (r.wrote (pD w) (BitVec.ofNat 32 (leNat ((r.payload.drop a).take 4))))) ∧
    (parserOp w = .ldi → ParserGoesOn (exec (.parserLdi i false) s) s k p (r.wrote (pD w) (BitVec.ofInt 32 (pImmS w)))) ∧
    (parserOp w = .lui → ParserGoesOn (exec (.parserLui i false) s) s k p (r.wrote (pD w) (BitVec.append (BitVec.ofNat 16 (pImm w)) ((r.reg (pD w)).setWidth 16)))) ∧
    (∀ o, parserOp w = .alu o → ParserGoesOn (exec (.parserAlu i false) s) s k p (r.wrote (pD w) (parserAlu o (r.reg (pS w)) (r.reg (pT w))))) ∧
    (∀ o, parserOp w = .shift o → ParserGoesOn (exec (.parserShift i false) s) s k p (r.wrote (pD w) (parserShift o (r.reg (pS w)) (r.reg (pT w))))) ∧
    (parserOp w = .mul false → ParserGoesOn (exec (.parserMul i false) s) s k p (r.wrote (pD w) (r.reg (pS w) * r.reg (pT w)))) ∧
    (parserOp w = .mul true → ParserGoesOn (exec (.parserMul i false) s) s k p
      (r.wrote (pD w) (BitVec.ofInt 32 ((r.reg (pS w)).toInt * (r.reg (pT w)).toInt / 2 ^ 32)))) ∧
    (parserOp w = .addi → ParserGoesOn (exec (.parserAddi i false) s) s k p (r.wrote (pD w) (r.reg (pS w) + BitVec.ofInt 32 (pImmS w)))) ∧
    (parserOp w = .lut → s.get (fTableBase k) + (r.reg (pS w)).toNat + pImm w < 4096 →
      ParserGoesOn (exec (.parserLut i false) s) s k p (r.wrote (pD w) (s.reg (0x1C000 + 4 * (s.get (fTableBase k) + (r.reg (pS w)).toNat + pImm w))))) ∧
    (∀ o, parserOp w = .branch o → ParserGoesOn (exec (.parserBranch i false) s) s k p
      { r with pc := r.pc + (if parserTaken o (r.reg (pD w)) (r.reg (pS w)) then pImmS w else 1), steps := r.steps + 1 }) ∧
    (parserOp w = .emit → ParserGoesOn (exec (.parserEmit i false) s) s k p { r with pc := r.pc + 1, steps := r.steps + 1, effects := r.effects ++ [.point (pointRec w r)] }) ∧
    (parserOp w = .stamp → pImm w % 4 ≠ 3 → ParserGoesOn (exec (.parserStamp i false) s) s k p
      { r with pc := r.pc + 1, steps := r.steps + 1, effects := r.effects ++ [.stamp (stampNs w r 0)] }) ∧
    (parserOp w = .stamp → pImm w % 4 = 3 → ∃ ns, ParserGoesOn (exec (.parserStamp i false) s) s k p { r with pc := r.pc + 1, steps := r.steps + 1, effects := r.effects ++ [.stamp ns] }) ∧
    (parserOp w = .lut → 4096 ≤ s.get (fTableBase k) + (r.reg (pS w)).toNat + pImm w → ∃ v, ParserGoesOn (exec (.parserLut i false) s) s k p (r.wrote (pD w) v)) ∧
    (∀ m x e d, parserOp w = .seq → m = 2 ^ (pImm w % 32 + 1) → x = (r.reg (pS w)).toNat % m → r.expected = some e → d = (x + m - e % m) % m → d ≠ 0 → d < m / 2 →
      ParserGoesOn (exec (.parserSeq i false) s) s k p
        { r with pc := r.pc + 1, steps := r.steps + 1, expected := some ((x + 1) % m), number := some x, lost := r.lost ++ [(d, e % m)] }) ∧
    (∀ next : ParserRun → Option (RangePkt × ParserRun), next = (fun u => match (s.strm k).queue with | [] => none | q :: _ => some (q, ParserRun.start u.g u.expected (s.get (fParserStart k)) q.payload)) →
      (parserOp w = .end_ → ∃ t, exec (.parserEnd i false) s = .next t ∧ (t.strm k).run = next r ∧ (t.strm k).g = r.g ∧ (t.strm k).expected = r.expected ∧
        (∀ f pts, r.lost = [] → r.effects = pts.map .point → s.receiving k = some f → s.get (fRmode k) = 0 → f.points.length + pts.length ≤ s.get (fMaxPts k) →
          t.receiving k = some { f with points := f.points ++ pts }) ∧
        (r.lost = [] → r.effects = [] → s.receiving k = none → ∃ f, t.receiving k = some f ∧ f.stream = k ∧ f.points = [] ∧
          f.slot = (if s.slotsHeld k < s.get (fStrmSlots k) then some (s.strm k).slotNext else none))) ∧
      (parserOp w = .reject → ∃ t ev, exec (.parserReject i false) s = .next t ∧ (t.strm k).run = next r ∧ (t.strm k).g = r.g ∧ ev ∈ t.reeve.events ∧ ev.code = 0x1205 ∧
        ev.disp = .violation ∧ (t.strm k).gap ≠ 0) ∧
      (parserOp w = .invalid → ∃ t ev, exec (.parserInvalidOp i false) s = .next t ∧ (t.strm k).run = next r ∧ (t.strm k).g = r.g ∧ ev ∈ t.reeve.events ∧ ev.code = 0x1303 ∧ ev.disp = .report) ∧
      (∀ m x e d, parserOp w = .seq → m = 2 ^ (pImm w % 32 + 1) → x = (r.reg (pS w)).toNat % m → r.expected = some e → d = (x + m - e % m) % m → m / 2 ≤ d → ∃ t ev,
        exec (.parserSeq i false) s = .next t ∧ (t.strm k).run = next r ∧ (t.strm k).g = r.g ∧ ev ∈ t.reeve.events ∧ ev.code = 0x1206 ∧ ev.disp = .violation) ∧
      (∀ u : ParserRun, 65536 ≤ u.steps → ∃ t ev, exec (.parserRunLimit i) (s.setStrm k { s.strm k with run := some (p, u) }) = .next t ∧ (t.strm k).run = next u ∧ (t.strm k).g = u.g ∧
        ev ∈ t.reeve.events ∧ ev.code = 0x1204 ∧ ev.disp = .violation)) ∧
    (parserOp w = .sweep → ParserGoesOn (exec (.parserSweep i false) s) s k p { r with pc := r.pc + 1, steps := r.steps + 1, effects := r.effects ++ [.sweep] }) ∧
    (parserOp w = .seq → (r.expected = none ∨ ∃ e, r.expected = some e ∧ (r.reg (pS w)).toNat % 2 ^ (pImm w % 32 + 1) = e % 2 ^ (pImm w % 32 + 1)) →
      ParserGoesOn (exec (.parserSeq i false) s) s k p
        { r with pc := r.pc + 1, steps := r.steps + 1, expected := some (((r.reg (pS w)).toNat + 1) % 2 ^ (pImm w % 32 + 1)), number := some ((r.reg (pS w)).toNat % 2 ^ (pImm w % 32 + 1)) }) ∧
    ((s.strm k).queue = [] → r.lost = [] →
      (∀ f, parserOp w = .end_ → r.effects = [] → s.receiving k = some f → ∃ t, exec (.parserEnd i false) s = .next t ∧
        t.strm k = { s.strm k with run := none, g := r.g, expected := r.expected } ∧ (∀ j, j ≠ k → t.strm j = s.strm j) ∧ t = { s with mill := t.mill }) ∧
      (parserOp w = .ld8 → r.payload.length < a + 1 → ∃ t ev, exec (.parserLd8 i false) s = .next t ∧ ev.code = 0x1203 ∧ ev.disp = .violation ∧ (t.strm k).run = none ∧
        (t.strm k).g = r.g ∧ t.reg (kStrmCnt k 7) = (s.bump (kStrmCnt k 7)).reg (kStrmCnt k 7) ∧ keepsRegs s t [kStrmCnt k 7] ∧
        t = { s with regs := t.regs, mill := t.mill, draws := s.draws + 1, reeve := { s.reeve with events := s.reeve.events ++ [ev] } }) ∧
      (parserOp w = .reject → ∃ t ev, exec (.parserReject i false) s = .next t ∧ ev.code = 0x1205 ∧ ev.disp = .violation ∧ ev.detail = [BitVec.ofNat 8 (pImm w)] ∧ (t.strm k).run = none ∧
        (t.strm k).g = r.g ∧ t.reg (kStrmCnt k 7) = (s.bump (kStrmCnt k 7)).reg (kStrmCnt k 7) ∧ keepsRegs s t [kStrmCnt k 7] ∧
        t = { s with regs := t.regs, mill := t.mill, draws := s.draws + 1, reeve := { s.reeve with events := s.reeve.events ++ [ev] } }) ∧
      (parserOp w = .invalid → ∃ t ev, exec (.parserInvalidOp i false) s = .next t ∧ ev.code = 0x1303 ∧ ev.disp = .report ∧ (t.strm k).run = none ∧
        (t.strm k).g = r.g ∧ t = { s with mill := t.mill, draws := s.draws + 1, reeve := { s.reeve with events := s.reeve.events ++ [ev] } })) ∧
    (∀ u : ParserRun, (s.strm k).queue = [] → u.lost = [] → 65536 ≤ u.steps → ∃ t ev, exec (.parserRunLimit i) (s.setStrm k { s.strm k with run := some (p, u) }) = .next t ∧
      ev.code = 0x1204 ∧ ev.disp = .violation ∧ (t.strm k).run = none ∧ (t.strm k).g = u.g ∧ t.reg (kStrmCnt k 7) = (s.bump (kStrmCnt k 7)).reg (kStrmCnt k 7) ∧
      t.reeve = { s.reeve with events := s.reeve.events ++ [ev] } ∧ keepsRegs s t [kStrmCnt k 7] ∧ keepsRam s t)

/-- For a SALU instruction in any slot of an issued bundle, with x = sA and y = IMM20 or sB as they stood at issue: OP 0 to 17 give sD the
sum, difference, and, or, xor, shift, product (low, high signed, high unsigned), minimum, maximum or comparison; ADDH adds IMM20 shifted
up 20 bits; MOVA gives aD the low half of sA; MOVS gives sD aA; ADDA gives aD aA + IMM20; LI64 gives sD its immediate. s0 keeps its value
and reads 0. A corrected register error is counted besides; an uncorrectable one raises 0x2402 and writes nothing. Nothing else changes
but the bundle, from which the slot is struck out. -/
def Obligations.ScalarInstructionsWriteTheirRegister : Prop :=
  ∀ (s : State) (k : CoreId) (h : Held), State.Ok s →
    (∀ (j : Fin 3) (op : Nat) (i : Bool) (d a b imm : Nat) (ecc : Ecc) (c : CoreSt) (x y z : DWord) (n : List Nat),
      SlotReady s k h j (.salu op i d a b imm) → c = s.core k → n = (if ecc = .corrected then [kCore k 0x2C] else []) → z = BitVec.ofInt 64 (sgn 20 imm) →
      x = (if a = 0 then 0 else h.sv.getD a 0) → y = (if i then z else if b = 0 then 0 else h.sv.getD b 0) → ecc ≠ .uncorrectable →
      (op ≤ 4 → SlotDone (exec (.saluAlu k j ecc) s) s k h j { c with s := setS c.s d (match op with | 0 => x + y | 1 => x - y | 2 => x &&& y | 3 => x ||| y | _ => x ^^^ y) } n) ∧
      (5 ≤ op → op ≤ 7 → SlotDone (exec (.saluShift k j ecc) s) s k h j
        { c with s := setS c.s d (match op with | 5 => x <<< (y.toNat % 64) | 6 => x >>> (y.toNat % 64) | _ => x.sshiftRight (y.toNat % 64)) } n) ∧
      (8 ≤ op → op ≤ 10 → SlotDone (exec (.saluMul k j ecc) s) s k h j
        { c with s := setS c.s d (match op with | 8 => x * y | 9 => BitVec.ofInt 64 (x.toInt * y.toInt / 2 ^ 64) | _ => BitVec.ofNat 64 (x.toNat * y.toNat / 2 ^ 64)) } n) ∧
      (11 ≤ op → op ≤ 14 → SlotDone (exec (.saluMinmax k j ecc) s) s k h j
        { c with s := setS c.s d (match op with | 11 => if x.slt y then x else y | 12 => if x.slt y then y else x | 13 => if x.ult y then x else y | _ => if x.ult y then y else x) } n) ∧
      (15 ≤ op → op ≤ 17 → SlotDone (exec (.saluCompare k j ecc) s) s k h j
        { c with s := setS c.s d (BitVec.ofNat 64 (b2n (match op with | 15 => x.slt y | 16 => x.ult y | _ => decide (x = y)))) } n) ∧
      (op = 18 → SlotDone (exec (.addh k j ecc) s) s k h j { c with s := setS c.s d (x + z <<< 20) } n) ∧
      (op = 19 → SlotDone (exec (.mova k j ecc) s) s k h j { c with a := c.a.set (d % 16) (x.setWidth 32) } n) ∧
      (op = 20 → SlotDone (exec (.movs k j ecc) s) s k h j { c with s := setS c.s d ((h.av.getD (a % 16) 0).setWidth 64) } n) ∧
      (op = 21 → SlotDone (exec (.adda k j ecc) s) s k h j { c with a := c.a.set (d % 16) (h.av.getD (a % 16) 0 + z.setWidth 32) } n)) ∧
    (∀ (j : Fin 3) (op : Nat) (i : Bool) (d a b imm : Nat), SlotReady s k h j (.salu op i d a b imm) →
      (op ≤ 4 → CoreStops (exec (.saluAlu k j .uncorrectable) s) s k (s.core k) 0x2402 []) ∧
      (op = 19 → CoreStops (exec (.mova k j .uncorrectable) s) s k (s.core k) 0x2402 [])) ∧
    (∀ j d imm, SlotReady s k h j (.li64 d imm) → SlotDone (exec (.li64 k) s) s k h j { s.core k with s := setS (s.core k).s d (BitVec.ofNat 64 imm) } []) ∧
    (∀ (l : List DWord) (d e : Nat) (v : DWord), getS (setS l 0 v) e = getS l e ∧ getS l 0 = 0 ∧ (1 ≤ d → d < l.length → getS (setS l d v) e = if e = d then v else getS l e))

/-- An LD that its partition may make waits for its request to go out, then takes the store buffer's bytes and awaits its data; the return writes sR
with each byte from the store buffer where it held one, else from DRAM, extended as SX says, and the held bundle goes on; poisoned data raises
0x3101. An ST that it may make enters its bytes into the store buffer, where they are what a load forwards; any other access raises
0x4301 and stops the core. The oldest entry of the store buffer drains as one masked write once its request goes out: exactly the bytes it
holds change, or, in the conversation timer window, the words it covers are handed on; a part of a block with an uncorrectable error
raises 0x3101. A GLD or GST inside its partition's pages reads or writes exactly its Granary bytes, a corrected word counted and queued for
its write-back, an uncorrectable one counted and 0x3201; another raises 0x4302. Nothing else changes but what the request itself does. -/
def Obligations.LoadsAndStoresReachTheirMemory : Prop :=
  ∀ (s : State) (k : CoreId) (h : Held), State.Ok s →
    (∀ (j size r base imm addr n : Nat) (sx : Bool) (u : State), SlotReady s k h j (.smem 0 size sx r base imm) → addr = smemAddr (getS h.sv base) imm →
      n = (if inDram addr then linesOf addr size else 0) → u = s.dramTake (.load k) (s.jobPart k) n →
      (s.jobOk (s.jobPart k) addr size false = true ∨ inCtWindow addr = true → s.dramReady (.load k) (s.jobPart k) n = true →
        SlotDone (exec (.ld k) s) u k h j { s.core k with load := some { r := r, addr := addr, size := size, sx := sx, fwd := (s.core k).forwarded addr size } } []) ∧
      (s.jobOk (s.jobPart k) addr size false = true ∨ inCtWindow addr = true → s.dramReady (.load k) (s.jobPart k) n = false →
        exec (.ld k) s = .next (s.dramWait (.load k) (s.jobPart k) n)) ∧
      (s.jobOk (s.jobPart k) addr size false = false → inCtWindow addr = false → CoreStops (exec (.ld k) s) s k (s.core k) 0x4301 [])) ∧
    (∀ (l : PendLoad) (bs : List Byte) (c : CoreSt), s.runs k = true → (s.core k).load = some l → (inDram l.addr = false ∨ s.ramBad l.addr = false ∨ l.size ≤ l.fwd.length) →
      bs.length = l.size → (∀ i, i < l.size → bs[i]? = some ((Tbl.find l.fwd (l.addr + i)).getD (if inDram l.addr then s.ramByte (l.addr + i) else 0))) →
      c = { s.core k with load := none, s := setS (s.core k).s l.r (if l.sx then BitVec.ofInt 64 (sgn (8 * l.size) (leNat bs)) else BitVec.ofNat 64 (leNat bs)) } →
      exec (.ldReturn k) s = .next (State.advance (s.setCore k c) k) ∧
      ((∀ g, (s.core k).bundle = some g → g.checked = true ∧ g.issued = true) → CoreNext (exec (.ldReturn k) s) s k c [] [])) ∧
    (∀ l : PendLoad, s.runs k = true → (s.core k).load = some l → inDram l.addr = true → s.ramBad l.addr = true → l.fwd.length < l.size →
      CoreStops (exec (.ldReturn k) s) s k { s.core k with load := none } 0x3101 [kUeCount]) ∧
    (∀ (j size r base imm addr : Nat) (sx : Bool), SlotReady s k h j (.smem 1 size sx r base imm) → addr = smemAddr (getS h.sv base) imm → size ≤ 8 → addr % 64 + size ≤ 64 →
      (s.jobOk (s.jobPart k) addr size true = true ∨ s.ctOk (s.jobPart k) addr size = true → ∃ sb : List SbEnt,
        SlotDone (exec (.st k) s) s k h j { s.core k with sb := sb } [] ∧
        (∀ i, i < size → Tbl.find (({ s.core k with sb := sb } : CoreSt).forwarded (addr + i) 1) (addr + i) = some (BitVec.ofNat 8 ((getS h.sv r).toNat / 256 ^ i))) ∧
        (∀ a, (a < addr ∨ addr + size ≤ a) → ({ s.core k with sb := sb } : CoreSt).forwarded a 1 = (s.core k).forwarded a 1)) ∧
      (s.jobOk (s.jobPart k) addr size true = false → s.ctOk (s.jobPart k) addr size = false → CoreStops (exec (.st k) s) s k (s.core k) 0x4301 [])) ∧
    (∀ (e : SbEnt) (rest : List SbEnt), s.runs k = true → (s.core k).sb = e :: rest → Tbl.wf e.bytes = true → (∀ x ∈ e.bytes, x.1 < 64) →
      (∀ u, inCtWindow (64 * e.line) = false → u = s.dramTake (.store k) (s.jobPart k) 1 →
        (s.dramReady (.store k) (s.jobPart k) 1 = false → exec (.storeBufferDrain k) s = .next (s.dramWait (.store k) (s.jobPart k) 1)) ∧
        (s.dramReady (.store k) (s.jobPart k) 1 = true → e.bytes.length = 64 ∨ s.ramBad (64 * e.line) = false →
          ∃ t, exec (.storeBufferDrain k) s = .next t ∧ t.core k = { s.core k with sb := rest } ∧ (∀ i, i ≠ k.val → t.core i = s.core i) ∧
          (∀ i b, Tbl.find e.bytes i = some b → t.ramByte (64 * e.line + i) = b) ∧
          (∀ a, (a / 64 = e.line → Tbl.find e.bytes (a % 64) = none) → t.ramByte a = s.ramByte a) ∧ (∀ a, a / 64 ≠ e.line → t.ramBad a = s.ramBad a) ∧
          keepsRegs u t [] ∧ t = { u with cores := t.cores, dram := t.dram, dramBad := t.dramBad }) ∧
        (s.dramReady (.store k) (s.jobPart k) 1 = true → e.bytes.length ≠ 64 → s.ramBad (64 * e.line) = true →
          CoreStops (exec (.storeBufferDrain k) s) u k { s.core k with sb := rest } 0x3101 [kUeCount])) ∧
      (inCtWindow (64 * e.line) = true → (∀ i, i < 8 → (Tbl.find e.bytes i).isSome = true) → (∀ x ∈ e.bytes, x.1 < 8) → ∃ t, exec (.storeBufferDrain k) s = .next t ∧
        t.ctWrites = s.ctWrites ++ [{ core := k.val, part := s.jobPart k, addr := 64 * e.line, data := e.bytes.map (·.2) }] ∧ t.core k = { s.core k with sb := rest } ∧
        t = { s with cores := t.cores, ctWrites := t.ctWrites })) ∧
    (∀ (j size r base imm addr : Nat) (sx : Bool) (errs : GrnErrs) (v : DWord), SlotReady s k h j (.smem 2 size sx r base imm) → addr = grnAddr (getA h.av base) imm →
      v = (if sx then BitVec.ofInt 64 (sgn (8 * size) (leNat (s.grnBytes k addr size))) else BitVec.ofNat 64 (leNat (s.grnBytes k addr size))) →
      (s.grnOk k (s.jobPart k) addr size = true → errsIn errs addr size = [] → SlotDone (exec (.gld k errs) s) s k h j { s.core k with s := setS (s.core k).s r v } []) ∧
      (∀ w, s.grnOk k (s.jobPart k) addr size = true → errsIn errs addr size = [(w, false)] → (s.core k).grn.wb.contains w = false → SlotDone (exec (.gld k errs) s) s k h j
        { s.core k with s := setS (s.core k).s r v, grn := { (s.core k).grn with wb := (s.core k).grn.wb ++ [w] } } [kCore k 0xE00]) ∧
      (s.grnOk k (s.jobPart k) addr size = true → (errsIn errs addr size).any (·.2) = true → CoreStops (exec (.gld k errs) s) s k (s.core k) 0x3201 [kCore k 0xE04]) ∧
      (s.grnOk k (s.jobPart k) addr size = false → CoreStops (exec (.gld k errs) s) s k (s.core k) 0x4302 [])) ∧
    (∀ (j size r base imm addr : Nat) (sx : Bool) (bad : List Nat), SlotReady s k h j (.smem 3 size sx r base imm) → addr = grnAddr (getA h.av base) imm → Tbl.wf (s.core k).grn.bytes = true →
      (s.grnOk k (s.jobPart k) addr size = true → bad.any (partWord addr size) = false → ∃ g : Granary, SlotDone (exec (.gst k bad) s) s k h j { s.core k with grn := g } [] ∧
        GrnWritten (s.core k).grn g addr (leBytes size (getS h.sv r).toNat)) ∧
      (s.grnOk k (s.jobPart k) addr size = true → bad.any (partWord addr size) = true → CoreStops (exec (.gst k bad) s) s k (s.core k) 0x3201 [kCore k 0xE04]) ∧
      (s.grnOk k (s.jobPart k) addr size = false → CoreStops (exec (.gst k bad) s) s k (s.core k) 0x4302 []))

/-- With no bundle held, a fetch is served by the instruction cache without a request, or, once its request goes out, by device memory, and its
bundle is cached; a parity error of the cached line is counted and refetched, an uncorrectable block raises 0x3101, an address outside the
partition's windows 0x4301. A bundle without breach, gate or full queue issues: the pc moves 16 bytes on, the signature folds, entries are
queued with their operands; one with an instruction that gates it waits, checked; one with a breach raises 0x2401 with its slot and
reason and its address recorded; a corrected register is counted, an uncorrectable one raises 0x2402. In an issued bundle a branch taken, J, JR and JAL set the pc and count a transfer, an
untaken branch nothing, JAL also writes its link, and SIGSET sets the signature. SIGCHK and SIGCHKI pass on equality, else raise 0xA111
with the expected value recorded; END passes on the job's signature, and its bundle's issue ends fetching. -/
def Obligations.FetchIssueAndControlFollowTheBundle : Prop :=
  ∀ (s : State) (k : CoreId) (h : Held), State.Ok s →
    (∀ (c : CoreSt) (ecc : Ecc) (raw n : Nat) (g : Held) (u : State) (par : Bool), c = s.core k → s.fetches k = true → g = Held.ofRaw c.pc raw ecc → c.awaitsLoad g = false → n = linesOf c.pc.toNat 16 →
      u = s.dramTake (.fetch k) (s.jobPart k) n →
      (s.jobOk (s.jobPart k) c.pc.toNat 16 false = false → CoreStops (exec (.instructionFetch k false par ecc) s) s k c 0x4301 []) ∧
      (s.jobOk (s.jobPart k) c.pc.toNat 16 false = true →
        (Tbl.find c.icache c.pc.toNat = some raw → Decodes (exec (.instructionFetch k true false ecc) s) s k c g ∧
          exec (.instructionFetch k true true ecc) s = exec (.instructionFetch k false false ecc) (s.bump (kIcachePerr k))) ∧
        (∀ hit, hit = false ∨ Tbl.find c.icache c.pc.toNat = none →
          (s.dramReady (.fetch k) (s.jobPart k) n = false → exec (.instructionFetch k hit par ecc) s = .next (s.dramWait (.fetch k) (s.jobPart k) n)) ∧
          (s.dramReady (.fetch k) (s.jobPart k) n = true → s.badIn c.pc.toNat 16 = none → raw = leNat (s.ramBytes c.pc.toNat 16) →
            Decodes (exec (.instructionFetch k hit par ecc) s) u k (c.cacheBundle c.pc.toNat raw) g) ∧
          (s.dramReady (.fetch k) (s.jobPart k) n = true → (s.badIn c.pc.toNat 16).isSome = true → CoreStops (exec (.instructionFetch k hit par ecc) s) u k c 0x3101 [kUeCount])))) ∧
    (∀ j cond a b off, SlotReady s k h j (.branch cond a b off) →
      (branchTaken cond (getS h.sv a) (getS h.sv b) = true → SlotDone (exec (.branch k) s) s k h j { s.core k with pc := h.addr + BitVec.ofInt 64 (16 * sgn 22 off) } [kCore k 0x5C]) ∧
      (branchTaken cond (getS h.sv a) (getS h.sv b) = false → SlotDone (exec (.branch k) s) s k h j (s.core k) [])) ∧
    (∀ x y : DWord, branchTaken 0 x y = decide (x = y) ∧ branchTaken 1 x y = decide (x ≠ y) ∧ branchTaken 2 x y = x.slt y ∧ branchTaken 3 x y = !x.slt y ∧
      branchTaken 4 x y = x.ult y ∧ branchTaken 5 x y = !x.ult y) ∧
    (∀ j off, SlotReady s k h j (.jump off) → SlotDone (exec (.j k) s) s k h j { s.core k with pc := h.addr + BitVec.ofInt 64 (16 * sgn 32 off) } [kCore k 0x5C]) ∧
    (∀ j a, SlotReady s k h j (.jumpReg a) → SlotDone (exec (.jr k) s) s k h j { s.core k with pc := getS h.sv a } [kCore k 0x5C]) ∧
    (∀ j d off, SlotReady s k h j (.jal d off) → SlotDone (exec (.jal k) s) s k h j
      { s.core k with pc := h.addr + BitVec.ofInt 64 (16 * sgn 27 off), s := setS (s.core k).s d (h.addr + 16) } [kCore k 0x5C]) ∧
    (∀ j a, SlotReady s k h j (.sigset a) → SlotDone (exec (.sigset k) s) s k h j { s.core k with sig := getS h.sv a } []) ∧
    (∀ j a, (GateReady s k h j (.sigchk a) → (s.core k).sig = getS (s.core k).s a → CoreNext (exec (.sigchk k) s) s k { s.core k with bundle := some (h.done j) } [] []) ∧
      (LastGate s k h j (.sigchk a) → (s.core k).sig = getS (s.core k).s a → Issues (exec (.sigchk k) s) s k (s.core k) h []) ∧
      (LastGate s k h j (.sigchk a) → (s.core k).sig ≠ getS (s.core k).s a →
        CoreStops (exec (.sigchk k) s) s k (s.core k) 0xA111 [kCore k 0x40, kCore k 0x44, kCore k 0x48, kCore k 0x50, kCore k 0x54] ∧
        ∀ t, exec (.sigchk k) s = .next t → t.reg64 (kCore k 0x50) = getS (s.core k).s a ∧ t.reg64 (kCore k 0x40) = h.addr)) ∧
    (∀ j v, (GateReady s k h j (.sigchki v) → (s.core k).sig = BitVec.ofNat 64 v → CoreNext (exec (.sigchki k) s) s k { s.core k with bundle := some (h.done j) } [] []) ∧
      (LastGate s k h j (.sigchki v) → (s.core k).sig = BitVec.ofNat 64 v → Issues (exec (.sigchki k) s) s k (s.core k) h []) ∧
      (LastGate s k h j (.sigchki v) → (s.core k).sig ≠ BitVec.ofNat 64 v →
        CoreStops (exec (.sigchki k) s) s k (s.core k) 0xA111 [kCore k 0x40, kCore k 0x44, kCore k 0x48, kCore k 0x50, kCore k 0x54])) ∧
    (∀ (j : Nat) (job : CoreJob), LastGate s k h j .endJob → (s.core k).job = some job → h.todo.any Op.isSigchk = false → h.ops.contains .endJob = true →
      ((s.core k).sig = job.sigEnd → Issues (exec (.endJob k) s) s k (s.core k) h [] ∧ ∀ t, exec (.endJob k) s = .next t → (t.core k).ended = true ∧ (t.core k).sig = (s.core k).sig) ∧
      ((s.core k).sig ≠ job.sigEnd → CoreStops (exec (.endJob k) s) s k (s.core k) 0xA111 [kCore k 0x40, kCore k 0x44, kCore k 0x48, kCore k 0x50, kCore k 0x54]))

/-- A legal tally configuration block is loaded once its request goes out, another raises 0x2304. TINC adds N within the bound and the 48 bits and
beyond them raises 0x2303 and adds nothing, on every engine, the sequencer's last in its bundle with its writes done and not while a full
queue holds its bundle; increments of one cycle are one update of their tally, and a bound is held against what its partner takes in that
cycle. TWAIT passes at or above its value and otherwise starts its wait; BARC passes once the engine's writes are done; TGET reads the
tally as its bundle issued. A parity error of a tally raises 0x2402, of an owner record 0x3202. A wait past its timeout raises 0x2302. BALLOC takes the lowest buffer the
reserve rule allows or answers 0xFFFFFFFF; its fill zeroes the buffer, records the owner and gives aD its base. BFREE by the owner frees
it, its tags later; a BFREE of a buffer that is FREE counts and logs an ownership event. -/
def Obligations.TalliesBarriersAndBuffersAct : Prop :=
  ∀ (s : State) (k : CoreId) (h : Held) (c : CoreSt), State.Ok s → c = s.core k →
    (∀ (j : CoreJob) (ws : List Word) (m : Nat) (u : State), s.runs k = true → c.loaded = false → c.job = some j → s.jobOk j.part j.tallyCfg.toNat 128 false = true →
      m = linesOf j.tallyCfg.toNat 128 → u = s.dramTake (.tallyCfg k) j.part m →
      (s.dramReady (.tallyCfg k) j.part m = false → exec (.tallyCfgLoad k) s = .next (s.dramWait (.tallyCfg k) j.part m)) ∧
      (s.dramReady (.tallyCfg k) j.part m = true → (s.badIn j.tallyCfg.toNat 128).isSome = true → CoreStops (exec (.tallyCfgLoad k) s) u k c 0x3101 [kUeCount]) ∧
      (s.dramReady (.tallyCfg k) j.part m = true → s.badIn j.tallyCfg.toNat 128 = none → ws.length = 32 →
        (∀ n, n < 32 → ws[n]? = some (BitVec.ofNat 32 (leNat (s.ramBytes (j.tallyCfg.toNat + 4 * n) 4)))) →
        ((∀ (n : Nat) (w : Word), ws[n]? = some w → bitsAt w.toNat 29 2 = 0 ∧ bitsAt w.toNat 16 8 = 0 ∧ (w.getLsbD 31 = true → bitsAt w.toNat 24 5 ≠ n)) →
          CoreNext (exec (.tallyCfgLoad k) s) u k { c with tcfg := ws, loaded := true } [] []) ∧
        (∀ (n : Nat) (w : Word), ws[n]? = some w → w.getLsbD 31 = true → bitsAt w.toNat 24 5 = n →
          CoreStops (exec (.tallyCfgLoad k) s) u k c 0x2304 [kTal k 0x180, kTal k 0x184, kTal k 0x188, kTal k 0x18C, kTal k 0x190]))) ∧
    (∀ (t n : Nat) (u : CoreSt), u = { c with t := c.t.set t (c.tally t + n) } →
      (∀ j, c.takes t n → LastGate s k h j (.tinc 0 t n) → c.sb = [] → s.windowsDone k = true → Issues (exec (.tinc k [.seq] [] false) s) s k u h [kTal k 0x1A0] ∧
        ∀ z, exec (.tinc k [.seq] [] false) s = .next z → (z.core k).t = u.t ∧ z.reg (kTal k 0x1A0) = (s.bump (kTal k 0x1A0)).reg (kTal k 0x1A0)) ∧
      (∀ j, SlotHeld s k h j (.tinc 0 t n) → h.issued = false → c.fullQueues h ≠ [] → ∃ z, exec (.tinc k [.seq] [] false) s = .next z ∧ (z.core k).t = c.t ∧ (z.core k).bundle.isSome = true) ∧
      (∀ q e, s.opaHead k = some q → q.op = .tinc e t n → c.drain = none →
        (c.takes t n → CoreNext (exec (.tinc k [.opa] [] false) s) s k { u with opaQ := c.opaQ.tail, lastPc := c.lastPc.set 0 q.bundle } [kTal k 0x1A0] []) ∧
        (c.overruns t n → CoreStops (exec (.tinc k [.opa] [] false) s) s k c 0x2303 [kTal k 0x180, kTal k 0x184, kTal k 0x188, kTal k 0x18C, kTal k 0x190]) ∧
        (t < 32 → CoreStops (exec (.tinc k [.opa] [] true) s) s k c 0x2402 [])) ∧
      (∀ q e, c.takes t n → s.vecHead k = some q → q.op = .tinc e t n →
        CoreNext (exec (.tinc k [.vec] [] false) s) s k { u with vecQ := c.vecQ.tail, lastPc := c.lastPc.set 1 q.bundle } [kTal k 0x1A0] []) ∧
      (∀ (x : PeelEnt) (rest : List PeelEnt), c.takes t n → s.starts k = true → c.lpeelQ = x :: rest → x.kind = 1 → x.tally = t → x.len = n →
        CoreNext (exec (.tinc k [.lpeel] [] false) s) s k { u with lpeelQ := rest, lastPc := c.lastPc.set 2 x.bundle } [kTal k 0x1A0] []) ∧
      (∀ (x : PeelEnt) (rest : List PeelEnt), c.takes t n → s.starts k = true → c.speelQ = x :: rest → x.kind = 1 → x.tally = t → x.len = n →
        CoreNext (exec (.tinc k [.speel] [] false) s) s k { u with speelQ := rest, lastPc := c.lastPc.set 3 x.bundle } [kTal k 0x1A0] [])) ∧
    (∀ (t t' n m : Nat) (q q' : QEnt) (e e' : Nat), s.opaHead k = some q → q.op = .tinc e t n → c.drain = none → s.vecHead k = some q' → q'.op = .tinc e' t' m →
      (t = t' → c.takes t (n + m) → CoreNext (exec (.tinc k [.opa, .vec] [] false) s) s k
        { c with t := c.t.set t (c.tally t + (n + m)), opaQ := c.opaQ.tail, vecQ := c.vecQ.tail, lastPc := (c.lastPc.set 0 q.bundle).set 1 q'.bundle } [kTal k 0x1A0] []) ∧
      (∀ b, t ≠ t' → t < 32 → t' < 32 → c.t.length = 32 → c.bound t = some (t', b) → c.bound t' = none → c.tally t' + m < 2 ^ 48 → c.tally t + n < 2 ^ 48 → c.tally t + n ≤ b + (c.tally t' + m) →
        ∃ z, exec (.tinc k [.opa, .vec] [] false) s = .next z ∧ (z.core k).tally t = c.tally t + n ∧ (z.core k).tally t' = c.tally t' + m ∧ (z.core k).opaQ = c.opaQ.tail ∧
          (z.core k).vecQ = c.vecQ.tail ∧ z.reg (kTal k 0x1A0) = (s.bumpBy (kTal k 0x1A0) 2).reg (kTal k 0x1A0) ∧ keepsRegs s z [kTal k 0x1A0] ∧ z = { s with cores := z.cores, regs := z.regs })) ∧
    (∀ j t v tmo, LastGate s k h j (.twait 0 t v tmo) → Tbl.find c.waits 0 = none →
      ((getS c.s v).toNat % 2 ^ 48 ≤ c.tally t → Issues (exec (.twait k .seq false) s) s k c h []) ∧
      (c.tally t < (getS c.s v).toNat % 2 ^ 48 → CoreNext (exec (.twait k .seq false) s) s k { c with waits := Tbl.put c.waits 0 s.tb.ticks } [kTal k 0x1A4] []) ∧
      CoreStops (exec (.twait k .seq true) s) s k c 0x2402 []) ∧
    (∀ (e : Engine) t v tmo, s.starts k = true → s.waitAt k e.idx = some (t, v, tmo) → Tbl.find c.waits e.idx = none →
      (e = .opa → v ≤ c.tally t → ∃ lp, CoreNext (exec (.twait k e false) s) s k { c with opaQ := c.opaQ.tail, lastPc := lp } [] []) ∧
      (e = .vec → v ≤ c.tally t → ∃ lp, CoreNext (exec (.twait k e false) s) s k { c with vecQ := c.vecQ.tail, lastPc := lp } [] []) ∧
      (∀ x rest done, e = .lpeel → v ≤ c.tally t → splitPeel c.lpeelQ = (done, x :: rest) →
        CoreNext (exec (.twait k e false) s) s k { c with lpeelQ := done ++ rest, lastPc := c.lastPc.set 2 x.bundle } [] []) ∧
      (e ≠ .seq → c.tally t < v → CoreNext (exec (.twait k e false) s) s k { c with waits := Tbl.put c.waits e.idx s.tb.ticks } [kTal k 0x1A4] []) ∧
      (e ≠ .seq → CoreStops (exec (.twait k e true) s) s k c 0x2402 [])) ∧
    (∀ t v tmo t0, s.starts k = true → s.waitAt k 1 = some (t, v, tmo) → Tbl.find c.waits 1 = some t0 → Tbl.wf c.waits = true → v ≤ c.tally t → ∃ lp w,
      CoreNext (exec (.twait k .opa false) s) s k { c with opaQ := c.opaQ.tail, lastPc := lp, waits := w } [] [kTal k 0x1A8] ∧ Tbl.find w 1 = none) ∧
    (∀ (e : Engine) t v tmo us, s.timed k = true → s.waitAt k e.idx = some (t, v, tmo) → (Tbl.find c.waits e.idx).isSome = true → c.tally t < v → tmo ≤ us →
      CoreStops (exec (.tallyWaitTimeout k e us) s) s k c 0x2302 [kTal k 0x180, kTal k 0x184, kTal k 0x188, kTal k 0x18C, kTal k 0x190]) ∧
    (∀ j t d, SlotReady s k h j (.tget t d) → SlotDone (exec (.tget k false) s) s k h j { c with s := setS c.s d (BitVec.ofNat 64 (h.tv.getD t 0)) } [] ∧
      CoreStops (exec (.tget k true) s) s k c 0x2402 []) ∧
    (∀ m, (∀ j, m.testBit 0 = true → LastGate s k h j (.barc m) → c.sb = [] → s.windowsDone k = true → Issues (exec (.barc k .seq) s) s k c h []) ∧
      (∀ q, s.opaHead k = some q → q.op = .barc m → c.drain = none → CoreNext (exec (.barc k .opa) s) s k { c with opaQ := c.opaQ.tail, lastPc := c.lastPc.set 0 q.bundle } [] []) ∧
      (∀ q, s.vecHead k = some q → q.op = .barc m → CoreNext (exec (.barc k .vec) s) s k { c with vecQ := c.vecQ.tail, lastPc := c.lastPc.set 1 q.bundle } [] [])) ∧
    (∀ (x : PeelEnt) (rest : List PeelEnt), s.starts k = true → x.kind = 2 →
      (c.lpeelQ = x :: rest → CoreNext (exec (.barc k .lpeel) s) s k { c with lpeelQ := rest, lastPc := c.lastPc.set 2 x.bundle } [] []) ∧
      (c.speelQ = x :: rest → CoreNext (exec (.barc k .speel) s) s k { c with speelQ := rest, lastPc := c.lastPc.set 3 x.bundle } [] [])) ∧
    (∀ (j d e n : Nat) (job : CoreJob), LastGate s k h j (.balloc d e n) → c.job = some job →
      (h.alloc = none → h.othersPassed j = true → (∀ i, s.chooseBuf k job.part n = some i → CoreNext (exec (.balloc k false) s) s k { c with bundle := some { h with alloc := some (i, false) } } [] []) ∧
        (s.chooseBuf k job.part n = none → Issues (exec (.balloc k false) s) s k c h [kCore k 0xE0C] ∧ ∀ t, exec (.balloc k false) s = .next t → (t.core k).a = c.a.set (d % 16) 0xFFFFFFFF) ∧
        CoreStops (exec (.balloc k true) s) s k c 0x3202 []) ∧
      (∀ i, h.alloc = some (i, false) → Issues (exec (.ballocFillComplete k) s) s k c h [] ∧ ∀ t, exec (.ballocFillComplete k) s = .next t →
        (t.core k).a = c.a.set (d % 16) (BitVec.ofNat 32 (s.bufOffset i)) ∧ (t.core k).grn.recOf i = { held := true, part := job.part, eng := e, dt := job.dt } ∧
        (∀ x, s.bufOffset i ≤ x → x < s.bufOffset i + 4096 * s.bufPages (s.classOfBuf i) → Tbl.getD (t.core k).grn.bytes x 0 = 0) ∧
        (∀ x, (x < s.bufOffset i ∨ s.bufOffset i + 4096 * s.bufPages (s.classOfBuf i) ≤ x) → Tbl.getD (t.core k).grn.bytes x 0 = Tbl.getD c.grn.bytes x 0))) ∧
    (∀ i n, s.chooseBuf k (s.jobPart k) n = some i → s.reserveOk k (s.jobPart k) n = true ∧ i ∈ s.freeBufs k n ∧
      ∀ i' ∈ s.freeBufs k n, c.grn.tagged.contains i' = false → (s.filling k).contains i' = false → i ≤ i') ∧
    (∀ (j a e n i : Nat) (job : CoreJob) (r : BufRec), SlotReady s k h j (.bfree a e) → c.job = some job → s.bufAtBase (getA h.av a).toNat = some (n, i) → n ≠ 15 → r = c.grn.recOf i →
      (r = { held := true, part := job.part, eng := e, dt := job.dt } → ∃ g : Granary, SlotDone (exec (.bfree k false) s) s k h j { c with grn := g } [] ∧
        g.recOf i = { r with held := false } ∧ (∀ i', i' ≠ i → g.recOf i' = c.grn.recOf i') ∧ g.tagged = c.grn.tagged ++ [i] ∧ g.bytes = c.grn.bytes) ∧
      (r.held = false → s.strict job.part = true → ∃ (t : State) (ev : FaultEvent), exec (.bfree k false) s = .next t ∧ ev.code = 0x3301 ∧ ev.disp = .jobFault ∧ t.reeve.events = s.reeve.events ++ [ev] ∧
        (t.core k).frozen = true ∧ (t.core k).grn = c.grn ∧ t.reg 0x50104 = (s.bump 0x50104).reg 0x50104)) ∧
    (∀ (j a e : Nat) (job : CoreJob), SlotReady s k h j (.bfree a e) → c.job = some job → CoreStops (exec (.bfree k true) s) s k c 0x3202 []) ∧
    (∀ (i : Nat) (rest : List Nat), c.grn.tagged = i :: rest → (s.paused k = false → CoreNext (exec (.bfreeTagsFree k) s) s k { c with grn := { c.grn with tagged := rest } } [] []) ∧
      (s.paused k = true → exec (.bfreeTagsFree k) s = .next s))

/-- At the head of OPA's queue CFG sets mode and formats, ZERO opens a zero pass on each named sub-array, MMA begins its steps. A step of two
non-MX formats adds to every register of each named sub-array the product of its row's and column's elements (mod 2^32 for integers,
rounded product and sum for floats), advances the pass, keeps every other accumulator and counts; the last step retires the MMA; integer
check lanes add the operand sums' products; a step waits for the DRAIN before it; a parity error raises 0x2103, an uncorrectable record
0x3201. DRAIN moves tiles to the drain buffer and closes their passes; once every row and column sum matches, their bytes are written in
order, up to an aligned word at a time, and with the last one the DRAIN has retired; else it raises 0x2101 (or 0x2102 for a non-finite
element where NF_FAULT is set), writes nothing and is not finished. -/
def Obligations.ArrayInstructionsAccumulateCheckAndDrain : Prop :=
  ∀ (s : State) (k : CoreId) (c : CoreSt), State.Ok s → c = s.core k →
    (∀ (q : QEnt) (u : CoreSt), s.opaHead k = some q → u = { c with opaQ := c.opaQ.tail, lastPc := c.lastPc.set 0 q.bundle } →
      (∀ m fa fb, q.op = .cfg m fa fb → CoreNext (exec (.opaCfg k) s) s k { u with mode := m, fa := fa, fb := fb } [] []) ∧
      (∀ acc mask, q.op = .zero acc mask → ∃ a : Tbl AccSt, CoreNext (exec (.opaZero k) s) s k { u with accs := a } [] [] ∧
        ∀ i, Tbl.find a i = if (maskSubs mask).any (fun m => i == 16 * acc + m) then some (AccSt.zero (modeWidth c.mode)) else Tbl.find c.accs i) ∧
      (∀ acc a b kr mask, q.op = .mma acc a b kr mask → c.mmaDone = none → CoreNext (exec (.mma k) s) s k { c with mmaDone := some 0 } [] []) ∧
      (∀ acc mask d, q.op = .drain acc d mask → ∀ dst, q.vals = [dst] → c.drain = none → Tbl.wf c.accs = true → ∃ (a : Tbl AccSt) (b : DrainBuf),
        CoreNext (exec (.drain k) s) s k { c with opaQ := c.opaQ.tail, accs := a, drain := some b } [] [] ∧ b.acc = acc ∧ b.w = modeWidth c.mode ∧ b.dest = dst ∧ b.floating = !c.integer ∧
        b.bundle = q.bundle ∧ b.passed = false ∧ b.written = 0 ∧
        b.subs = (maskSubs mask).map (fun m => (m, Tbl.getD c.accs (16 * acc + m) (AccSt.zero (modeWidth c.mode)))) ∧
        ∀ i, Tbl.find a i = if (maskSubs mask).any (fun m => i == 16 * acc + m) then none else Tbl.find c.accs i)) ∧
    (∀ (q : QEnt) (acc ra rb kr mask t aB bB n w ns la lb : Nat), s.opaHead k = some q → q.op = .mma acc ra rb kr mask → c.mmaDone = some t → q.vals = [aB, bB, n] →
      w = modeWidth c.mode → ns = (maskSubs mask).length → la = recordLen w ns c.fa → lb = recordLen w ns c.fb → isMx c.fa = false → isMx c.fb = false →
      s.grnOk k (s.jobPart k) (aB + t * la) la = true → s.grnOk k (s.jobPart k) (bB + t * lb) lb = true →
      (c.drain.isSome = true → ∀ errs par flip, exec (.arrayStep k errs par flip) s = .next s) ∧
      (c.drain = none → ∀ errs flip, CoreStops (exec (.arrayStep k errs true flip) s) s k c 0x2103 [kCore k 0xC4C] ∧
        ((errsIn errs (aB + t * la) la).any (·.2) = true → CoreStops (exec (.arrayStep k errs false flip) s) s k c 0x3201 [kCore k 0xE04])) ∧
      (c.drain = none → ∃ z : State, exec (.arrayStep k [] false none) s = .next z ∧ z.reg64 (kCore k 0xC10) = s.reg64 (kCore k 0xC10) + BitVec.ofNat 64 ns ∧
        keepsRegs s z [kCore k 0xC10, kCore k 0xC14] ∧ keepsRam s z ∧ z = { s with cores := z.cores, regs := z.regs } ∧ (∀ i, i ≠ k.val → z.core i = s.core i) ∧
        (t + 1 = n → z.core k = { c with opaQ := c.opaQ.tail, lastPc := c.lastPc.set 0 q.bundle, mmaDone := none, accs := (z.core k).accs }) ∧
        (t + 1 ≠ n → z.core k = { c with mmaDone := some (t + 1), accs := (z.core k).accs }) ∧
        (∀ i, (∀ m, m < 16 → mask.testBit m = true → i ≠ 16 * acc + m) → Tbl.find (z.core k).accs i = Tbl.find c.accs i) ∧
        (∀ (i m : Nat) (x y : AccSt), (maskSubs mask)[i]? = some m → x = Tbl.getD c.accs (16 * acc + m) (AccSt.zero w) → Tbl.find (z.core k).accs (16 * acc + m) = some y →
          x.tile.length = w * w → y.k = x.k + 1 ∧
          (c.integer = true → ∀ (ea eb : Nat → Int), (∀ e, ea e = intElem c.fa (elemAt (leNat (s.grnBytes k (aB + t * la) la)) (fmtWidth c.fa) e)) →
            (∀ e, eb e = intElem c.fb (elemAt (leNat (s.grnBytes k (bB + t * lb) lb)) (fmtWidth c.fb) e)) →
            (∀ r j, r < w → j < w → y.tile.getD (w * r + j) 0 = x.tile.getD (w * r + j) 0 + BitVec.ofInt 32 (ea (i * w + r) * eb (i * w + j))) ∧
            (x.cr.length = w → ∀ j, j < w → y.cr.getD j 0 = x.cr.getD j 0 + BitVec.ofInt 32 (((List.range w).map (fun r => ea (i * w + r))).sum * eb (i * w + j))) ∧
            (x.cc.length = w → ∀ r, r < w → y.cc.getD r 0 = x.cc.getD r 0 + BitVec.ofInt 32 (ea (i * w + r) * ((List.range w).map (fun j => eb (i * w + j))).sum))) ∧
          (c.integer = false → ∀ r j, r < w → j < w → y.tile.getD (w * r + j) 0 = rnd32 ((f32 (x.tile.getD (w * r + j) 0)).add (f32 (rnd32
            ((fltElem c.fa (elemAt (leNat (s.grnBytes k (aB + t * la) la)) (fmtWidth c.fa) (i * w + r)) 0).mul
              (fltElem c.fb (elemAt (leNat (s.grnBytes k (bB + t * lb) lb)) (fmtWidth c.fb) (i * w + j)) 0))))))))) ∧
    (∀ (q : QEnt) (acc ra rb kr mask t aB bB n ns : Nat), s.opaHead k = some q → q.op = .mma acc ra rb kr mask → c.mmaDone = some t → q.vals = [aB, bB, n] → ns = (maskSubs mask).length →
      c.drain = none → (s.readRecords k aB bB ns t []).1 = true → ∃ z : State, exec (.arrayStep k [] false none) s = .next z ∧
        z.reg64 (kCore k 0xC10) = s.reg64 (kCore k 0xC10) + BitVec.ofNat 64 ns ∧ keepsRegs s z [kCore k 0xC10, kCore k 0xC14] ∧ keepsRam s z ∧
        z = { s with cores := z.cores, regs := z.regs } ∧ (∀ i, i ≠ k.val → z.core i = s.core i) ∧ (z.core k).mmaDone = (if t + 1 = n then none else some (t + 1)) ∧
        (∀ i m, (maskSubs mask)[i]? = some m → Tbl.find (z.core k).accs (16 * acc + m) = some (s.stepSub k acc aB bB ns t i m))) ∧
    (∀ (d : DrainBuf) (bs part : List Byte) (n : Nat) (bad : List Nat), s.runs k = true → c.drain = some d → bs = d.subs.flatMap (fun x => x.2.tile.flatMap (fun v => leBytes 4 v.toNat)) →
      part = (bs.drop d.written).take ((n + 7) / 8 * 8) →
      CoreStops (exec (.drainComplete k true bad n) s) s k c 0x2103 [kCore k 0xC4C] ∧
      (Tbl.wf c.grn.bytes = true → s.grnOk k (s.jobPart k) d.dest bs.length = true → s.grnOk k (s.jobPart k) (d.dest + d.written) part.length = true →
        bad.any (partWord (d.dest + d.written) part.length) = false →
        (d.passed = true ∨
          (d.floating = false ∧ ∀ x ∈ d.subs, ∀ j, j < d.w → ((List.range d.w).map (fun r => x.2.tile.getD (d.w * r + j) 0)).sum = x.2.cr.getD j 0 ∧ ((x.2.tile.drop (d.w * j)).take d.w).sum = x.2.cc.getD j 0) ∨
          (d.floating = true ∧ (∀ x ∈ d.subs, ∀ y ∈ x.2.comparisons true d.w, y.ok = true ∧ y.skipped = false) ∧ (∀ x ∈ d.subs, ∀ v ∈ x.2.tile, v.toNat / 2 ^ 23 % 256 ≠ 255))) →
        ∃ g : Granary, GrnWritten c.grn g (d.dest + d.written) part ∧
          (d.written + part.length = bs.length → CoreNext (exec (.drainComplete k false bad n) s) s k { c with drain := none, grn := g, lastPc := c.lastPc.set 0 d.bundle } [kCore k 0xC20] []) ∧
          (d.written + part.length ≠ bs.length → CoreNext (exec (.drainComplete k false bad n) s) s k
            { c with drain := some { d with passed := true, written := d.written + part.length }, grn := g } [] [])) ∧
      (∀ x ∈ d.subs, ∀ j, d.passed = false → d.floating = false → j < d.w → ((List.range d.w).map (fun r => x.2.tile.getD (d.w * r + j) 0)).sum ≠ x.2.cr.getD j 0 →
        CoreStops (exec (.drainComplete k false bad n) s) s k c 0x2101 [kCore k 0xC24, kCore k 0xC30, kCore k 0xC34, kCore k 0xC38, kCore k 0xC3C, kCore k 0xC40]) ∧
      (∀ x ∈ d.subs, ∀ y ∈ x.2.comparisons d.floating d.w, d.passed = false → y.ok = false →
        CoreStops (exec (.drainComplete k false bad n) s) s k c 0x2101 [kCore k 0xC24, kCore k 0xC28, kCore k 0xC30, kCore k 0xC34, kCore k 0xC38, kCore k 0xC3C, kCore k 0xC40] ∧
        ∀ t, exec (.drainComplete k false bad n) s = .next t → t.reg (kCore k 0xC28) = (s.bumpBy (kCore k 0xC28) (skips d.floating d.w d.subs)).reg (kCore k 0xC28)) ∧
      (d.passed = false → firstFail d.floating d.w d.subs = none → s.flag (fNfFault (s.jobPart k)) = false → Tbl.wf c.grn.bytes = true → d.written = 0 → bs.length ≤ (n + 7) / 8 * 8 →
        s.grnOk k (s.jobPart k) d.dest bs.length = true → bad.any (partWord d.dest bs.length) = false → ∃ g : Granary, GrnWritten c.grn g d.dest bs ∧
        CoreNext (exec (.drainComplete k false bad n) s) s k { c with drain := none, grn := g, lastPc := c.lastPc.set 0 d.bundle } [kCore k 0xC20] [kCore k 0xC28, kCore k 0xC2C] ∧
        ∀ t, exec (.drainComplete k false bad n) s = .next t → t.reg (kCore k 0xC28) = (s.bumpBy (kCore k 0xC28) (skips d.floating d.w d.subs)).reg (kCore k 0xC28) ∧
          t.reg (kCore k 0xC2C) = (s.bumpBy (kCore k 0xC2C) (if d.floating then nonfinite d.subs else 0)).reg (kCore k 0xC2C)) ∧
      (d.passed = false → firstFail d.floating d.w d.subs = none → d.floating = true → (∃ x ∈ d.subs, ∃ v ∈ x.2.tile, v.toNat / 2 ^ 23 % 256 = 255) → s.flag (fNfFault (s.jobPart k)) = true →
        CoreStops (exec (.drainComplete k false bad n) s) s k c 0x2102 [kCore k 0xC28, kCore k 0xC2C]))

/-- A lane-wise VEC instruction at the head of VEC's queue writes each lane of vD that its predicate names and leaves the others: VADD to
VMAX, VABS and VNEG their result for the type (for INT32 addition, subtraction, multiplication and so on modulo 2^32; for FP32 the exact
result rounded once), VAND to VXOR and the shifts their 32-bit result, VSEL vA or vB by pX, VBC the captured scalar, VMOV vA, VCVT the
converted element with saturations and NaNs counted, VLUT its interpolation where LO lies below HI (elsewhere a free value of the table and the
operand: the spec states none, and the model's form of it is its own, log entry 156). A corrected error is counted; an uncorrectable one raises
0x2202 and writes nothing; a wrong result of an active lane that its residue shows stands in vD and raises 0x2201, and a lane that is not
active is not checked. -/
def Obligations.VectorLaneInstructionsAct : Prop :=
  ∀ (s : State) (k : CoreId) (q : QEnt) (c : CoreSt) (ecc : Ecc) (cnt : List Nat) (op d a b p ty x : Nat) (la lb ld : Nat → Word), State.Ok s → c = s.core k → VecReady s k q →
    q.op = .vec op d a b p ty x → ecc ≠ .uncorrectable → cnt = (if ecc = .corrected then [kCore k 0x400] else []) →
    (∀ i, la i = (c.vreg a).getD i 0) → (∀ i, lb i = (c.vreg b).getD i 0) → (∀ i, ld i = (c.vreg d).getD i 0) →
    (op ≤ 5 → VecDone (exec (.vecArith k ecc none) s) s k q d (c.preg p) (fun i => arithLane op ty (la i) (lb i) (ld i)) cnt ∧
      CoreStops (exec (.vecArith k .uncorrectable none) s) s k c 0x2202 [] ∧
      ∀ (i : Fin 256) (u v : Word), v = arithLane op ty (la i) (lb i) (ld i) →
        ((c.preg p).getLsbD i = true → v.toNat % 3 ≠ (v ^^^ u).toNat % 3 → ∃ z : CoreSt, z.vecQ = c.vecQ.tail ∧ (z.vreg d).getD i 0 = v ^^^ u ∧
          CoreStops (exec (.vecArith k .clean (some (i, u))) s) s k z 0x2201 [kCore k 0x404]) ∧
        ((c.preg p).getLsbD i = false → VecDone (exec (.vecArith k ecc (some (i, u))) s) s k q d (c.preg p) (fun i => arithLane op ty (la i) (lb i) (ld i)) cnt)) ∧
    (6 ≤ op → op ≤ 7 → VecDone (exec (.vecUnary k ecc none) s) s k q d (c.preg p) (fun i => arithLane op ty (la i) (lb i) (ld i)) cnt) ∧
    (∀ u v w : Word, arithLane 0 5 u v w = u + v ∧ arithLane 1 5 u v w = u - v ∧ arithLane 2 5 u v w = u * v ∧ arithLane 3 5 u v w = w + u * v ∧
      arithLane 4 5 u v w = (if u.slt v then u else v) ∧ arithLane 5 5 u v w = (if u.slt v then v else u) ∧ arithLane 6 5 u v w = (if u.slt 0 then -u else u) ∧ arithLane 7 5 u v w = -u ∧
      arithLane 0 10 u v w = rnd32 ((f32 u).add (f32 v)) ∧ arithLane 2 10 u v w = rnd32 ((f32 u).mul (f32 v)) ∧ arithLane 3 10 u v w = rnd32 ((f32 w).add ((f32 u).mul (f32 v)))) ∧
    (op = 0x08 → VecDone (exec (.vecLogic k ecc none) s) s k q d (c.preg p) (fun i => la i &&& lb i) cnt) ∧
    (op = 0x09 → VecDone (exec (.vecLogic k ecc none) s) s k q d (c.preg p) (fun i => la i ||| lb i) cnt) ∧
    (op = 0x0A → VecDone (exec (.vecLogic k ecc none) s) s k q d (c.preg p) (fun i => la i ^^^ lb i) cnt) ∧
    (op = 0x0B → VecDone (exec (.vecShift k ecc none) s) s k q d (c.preg p) (fun i => la i <<< x) cnt) ∧
    (op = 0x0C → VecDone (exec (.vecShift k ecc none) s) s k q d (c.preg p) (fun i => la i >>> x) cnt) ∧
    (op = 0x0D → VecDone (exec (.vecShift k ecc none) s) s k q d (c.preg p) (fun i => (la i).sshiftRight x) cnt) ∧
    (op = 0x0F → VecDone (exec (.vsel k ecc none) s) s k q d (c.preg p) (fun i => if (c.preg (x % 8)).getLsbD i then la i else lb i) cnt) ∧
    (op = 0x10 → (∀ i, i < 256 → (c.preg p).getLsbD i = true → (cvtLane ty (x % 16) (decide (16 ≤ x)) (la i) (lb i)).2 = (false, false)) →
      VecDone (exec (.vcvt k ecc none) s) s k q d (c.preg p) (fun i => (cvtLane ty (x % 16) (decide (16 ≤ x)) (la i) (lb i)).1) cnt) ∧
    (op = 0x10 → ∃ t, exec (.vcvt k .clean none) s = .next t ∧ (t.core k).vecQ = c.vecQ.tail ∧
      t.reg (kCore k 0x40C) = (s.bumpBy (kCore k 0x40C) ((List.range 256).filter (fun i => (c.preg p).getLsbD i && (cvtLane ty (x % 16) (decide (16 ≤ x)) (la i) (lb i)).2.1)).length).reg (kCore k 0x40C) ∧
      t.reg (kCore k 0x410) = (s.bumpBy (kCore k 0x410) ((List.range 256).filter (fun i => (c.preg p).getLsbD i && (cvtLane ty (x % 16) (decide (16 ≤ x)) (la i) (lb i)).2.2)).length).reg (kCore k 0x410) ∧
      (∀ i, i < 256 → ((t.core k).vreg d).getD i 0 = if (c.preg p).getLsbD i then (cvtLane ty (x % 16) (decide (16 ≤ x)) (la i) (lb i)).1 else ld i) ∧
      keepsRegs s t [kCore k 0x40C, kCore k 0x410] ∧ t = { s with cores := t.cores, regs := t.regs }) ∧
    (op = 0x12 → ∀ (base : Nat) (at_ : Nat → Word) (r : Word), q.vals = [base] → s.grnOk k (s.jobPart k) base 1036 = true →
      (∀ i, i < 259 → at_ i = BitVec.ofNat 32 (leNat (s.grnBytes k (base + 4 * i) 4))) → (f32 (at_ 0)).lt (f32 (at_ 1)) = true →
      r = rnd32 (divX (XVal.ofInt 256) (f32 (rnd32 ((f32 (at_ 1)).add (f32 (at_ 0)).neg)))) →
      VecDone (exec (.vlut k ecc none []) s) s k q d (c.preg p) (fun i => lutLane (at_ 0) (at_ 1) (fun j => at_ (j + 2)) r (la i)) cnt) ∧
    (op = 0x12 → ∀ (base : Nat) (bs : List Byte), q.vals = [base] → s.grnOk k (s.jobPart k) base 1036 = true → bs = s.grnBytes k base 1036 →
      (f32 (BitVec.ofNat 32 (leNat (bs.take 4)))).lt (f32 (BitVec.ofNat 32 (leNat ((bs.drop 4).take 4)))) = false →
      VecDone (exec (.vlut k ecc none []) s) s k q d (c.preg p) (fun i => Config.lutOpen (leNat bs) (la i)) cnt) ∧
    (op = 0x13 → ∀ v, q.vals = [v] → VecDone (exec (.vbc k ecc none) s) s k q d (c.preg p) (fun _ => BitVec.ofNat 32 v) cnt) ∧
    (op = 0x17 → VecDone (exec (.vmov k ecc none) s) s k q d (c.preg p) la cnt)

/-- VCMP writes predicate D whole: an active lane's comparison of vA and vB, 0 in an inactive lane; VPOP combines two predicates in the active
lanes; p0 keeps its ones. VRED leaves the reduction of the active lanes in lane 0 and 0 in every other (an INT32 sum is the sum modulo
2^32). VLD writes each active lane with its packed element, widened; VST writes the Granary bytes of its elements, an active lane's low
bits in its own place, an inactive lane's stored bits kept; either outside the partition's pages raises 0x4302. Nothing else changes. -/
def Obligations.VectorPredicatesReductionAndMemoryAct : Prop :=
  ∀ (s : State) (k : CoreId) (q : QEnt) (c : CoreSt) (op d a b p ty x : Nat) (m : BitVec 256), State.Ok s → c = s.core k → VecReady s k q → q.op = .vec op d a b p ty x → m = c.preg p →
    (op = 0x0E → ∀ g : BitVec 256, (∀ i, i < 256 → g.getLsbD i = (m.getLsbD i && cmpLane (x % 8) ty ((c.vreg a).getD i 0) ((c.vreg b).getD i 0))) →
      PredDone (exec (.vcmp k .clean none) s) s k q d g) ∧
    (∀ u v : Word, cmpLane 0 5 u v = decide (u = v) ∧ cmpLane 1 5 u v = decide (u ≠ v) ∧ cmpLane 2 5 u v = u.slt v ∧ cmpLane 3 5 u v = !v.slt u ∧ cmpLane 4 5 u v = v.slt u ∧ cmpLane 5 5 u v = !u.slt v) ∧
    (op = 0x16 → ∀ u v g : BitVec 256, u = c.preg (a % 8) → v = c.preg (b % 8) → g = (match x % 4 with | 0 => u &&& v | 1 => u ||| v | 2 => u ^^^ v | _ => u &&& ~~~ v) →
      PredDone (exec (.vpop k .clean none) s) s k q (d % 8) ((g &&& m) ||| (c.preg (d % 8) &&& ~~~ m))) ∧
    (op = 0x11 → VecDone (exec (.vred k .clean none) s) s k q d (BitVec.allOnes 256) (fun i => if i = 0 then
      reduce (x % 4) ty ((List.range 256).map (fun j => if m.getLsbD j then (c.vreg a).getD j 0 else redIdentity (x % 4) ty)) else 0) []) ∧
    (∀ l : List Word, l.length = 256 → reduce 0 5 l = l.sum) ∧
    (op = 0x14 → ∀ base, q.vals = [base] → (s.grnOk k (s.jobPart k) base (vecBytes ty) = true →
        VecDone (exec (.vld k .clean none []) s) s k q d m (fun i => widen ty (bitsAt (leNat (s.grnBytes k base (vecBytes ty))) (fmtWidth ty * i) (fmtWidth ty))) []) ∧
      (s.grnOk k (s.jobPart k) base (vecBytes ty) = false → CoreStops (exec (.vld k .clean none []) s) s k c 0x4302 [])) ∧
    (op = 0x15 → ∀ base w, q.vals = [base] → w = fmtWidth ty → Tbl.wf c.grn.bytes = true → (s.grnOk k (s.jobPart k) base (vecBytes ty) = true →
        ∃ (t : State) (bs : List Byte), exec (.vst k .clean none []) s = .next t ∧
          t.core k = { c with vecQ := c.vecQ.tail, lastPc := c.lastPc.set 1 q.bundle, grn := (t.core k).grn } ∧ bs.length = vecBytes ty ∧ GrnWritten c.grn (t.core k).grn base bs ∧
          (∀ i, i < 256 → bitsAt (leNat bs) (w * i) w = if m.getLsbD i then ((c.vreg d).getD i 0).toNat % 2 ^ w else bitsAt (leNat (s.grnBytes k base (vecBytes ty))) (w * i) w) ∧
          keepsRegs s t [] ∧ t = { s with cores := t.cores }) ∧
      (s.grnOk k (s.jobPart k) base (vecBytes ty) = false → CoreStops (exec (.vst k .clean none []) s) s k c 0x4302 []))

/-- XFER queues the transfer its registers name or raises 0x2502 on an illegal length or count. Issue of a peel's next transfer raises 0x2303
where its tally's bound could be overrun, 0x2503 where a run leaves the Granary, 0x4301 where a run is refused; else it asks, within one run, for as
many bytes as are named, whole words where it can. A request to DRAM waits until it goes out. An LPEEL read holds it until its data comes, which
is then at the run's destination; zeros, LOCAL copies and SPEEL's bytes are at theirs at once, and nothing else is written; the byte counter
grows, and the transfer whose last byte has been asked for awaits completion. A request's return frees it; during the peel's reset its data is
discarded; data from an uncorrectable block raises 0x3101. An 8-byte store to the counter window is handed on. Completion, with no request out
and no window write waiting, adds the tally within its bound, else raises 0x2303, and counts; a transfer past the time limit raises 0x2501. -/
def Obligations.PeelTransfersMoveTheirBytes : Prop :=
  ∀ (s : State) (k : CoreId) (q : PeelId) (c : CoreSt) (p : Nat), State.Ok s → c = s.core k → p = s.jobPart k →
    (∀ (h : Held) (j ra rd g t : Nat) (zf loc en : Bool) (r : Nat → Nat), SlotReady s k h j (.xfer q.idx zf loc ra rd g en t) → (∀ i, r i = (getS h.sv i).toNat) →
      (r g % 2 ^ 32 = 0 ∨ 1048576 < r g % 2 ^ 32 ∨ bitsAt (r g) 32 16 = 0 ∨ bitsAt (r g) 48 16 = 0 → CoreStops (exec (.xfer k q) s) s k c (0x2502) []) ∧
      (1 ≤ r g % 2 ^ 32 → r g % 2 ^ 32 ≤ 1048576 → 1 ≤ bitsAt (r g) 32 16 → 1 ≤ bitsAt (r g) 48 16 → ∃ e : PeelEnt,
        SlotDone (exec (.xfer k q) s) s k h j (c.setPeelQ q.idx (c.peelQ q.idx ++ [e])) [] ∧ e.kind = 0 ∧ e.st = 0 ∧ e.issued = 0 ∧ e.src = getS h.sv ra ∧ e.dst = getS h.sv rd ∧
        e.len = r g % 2 ^ 32 ∧ e.cnt1 = bitsAt (r g) 32 16 ∧ e.cnt2 = bitsAt (r g) 48 16 ∧ e.ss1 = r (g + 1) % 2 ^ 32 ∧ e.ss2 = r (g + 1) / 2 ^ 32 ∧ e.ds1 = r (g + 2) % 2 ^ 32 ∧
        e.ds2 = r (g + 2) / 2 ^ 32 ∧ e.en = en ∧ e.tally = t ∧ e.zf = zf ∧ e.loc = loc ∧ e.bundle = h.addr)) ∧
    (∀ (done rest : List PeelEnt) (e : PeelEnt) (act : PeelAct) (errs : GrnErrs) (bad : List Nat) (bytes : Nat), splitPeel (c.peelQ q.idx) = (done, e :: rest) → act = .ask bytes → s.starts k = true →
      e.kind = 0 → e.st = 0 →
      (∀ p' b, e.en = true → c.bound e.tally = some (p', b) → b + c.tally p' < c.tally e.tally + owed done e.tally + 1 → CoreStops (exec (.peelTransferIssue k q act errs bad) s) s k c 0x2303
        [kTal k 0x180, kTal k 0x184, kTal k 0x188, kTal k 0x18C, kTal k 0x190]) ∧
      (e.en = false ∨ c.bound e.tally = none → e.leavesGrn q.idx = true → CoreStops (exec (.peelTransferIssue k q act errs bad) s) s k c 0x2503 []) ∧
      (e.en = false ∨ c.bound e.tally = none → e.leavesGrn q.idx = false → (s.refusedRun p q.idx e).isSome = true → CoreStops (exec (.peelTransferIssue k q act errs bad) s) s k c 0x4301 [])) ∧
    (∀ (done rest : List PeelEnt) (e e1 e2 : PeelEnt) (bytes i r o n m : Nat) (c1 c2 : CoreSt), splitPeel (c.peelQ q.idx) = (done, e :: rest) → s.starts k = true → e.kind = 0 → e.out = [] →
      (e.st = 0 → (∀ p' b, e.en = true → c.bound e.tally = some (p', b) → c.tally e.tally + owed done e.tally + 1 ≤ b + c.tally p') ∧ e.leavesGrn q.idx = false ∧ s.refusedRun p q.idx e = none) →
      e.st ≤ 1 → 1 ≤ e.len → i = e.issued → i < e.total → r = i / e.len → o = i % e.len → n = e.chunk r o bytes → 1 ≤ bytes →
      e1 = (if e.st = 0 then { e with st := 1, since := s.tb.ticks } else e) → c1 = c.setPeelQ q.idx (done ++ e1 :: rest) →
      e2 = { e1 with issued := i + n, st := if i + n = e.total then 2 else 1 } →
      (q = .lpeel → e.zf = false → e.loc = false → m = linesOf (devAddr ((e.runAt r).1 + o)) n →
        c2 = c.setPeelQ q.idx (done ++ { e2 with reqs := e.reqs ++ [(i, n)] } :: rest) →
        (s.dramReady (.peel k q.idx) p m = false → CoreNext (exec (.peelTransferIssue k q (.ask bytes) [] []) s) (s.dramWait (.peel k q.idx) p m) k c1 [] []) ∧
        (s.dramReady (.peel k q.idx) p m = true → CoreNext (exec (.peelTransferIssue k q (.ask bytes) [] []) s) (s.dramTake (.peel k q.idx) p m) k c2 [] [])) ∧
      (q = .lpeel → e.zf = true → Tbl.wf c.grn.bytes = true → s.grnOk k p ((e.runAt r).2 + o).toNat n = true → ∃ g : Granary,
        GrnWritten c.grn g ((e.runAt r).2 + o).toNat (List.replicate n 0) ∧
        CoreNext (exec (.peelTransferIssue k q (.ask bytes) [] []) s) s k { c.setPeelQ q.idx (done ++ e2 :: rest) with grn := g } [] [kPeel k 0 8, kPeel k 0 12] ∧
        ∀ t, exec (.peelTransferIssue k q (.ask bytes) [] []) s = .next t → t.reg64 (kPeel k 0 8) = s.reg64 (kPeel k 0 8) + BitVec.ofNat 64 n) ∧
      (e.loc = true → e.zf = false → Tbl.wf c.grn.bytes = true → s.grnOk k p ((e.runAt r).1 + o).toNat n = true → s.grnOk k p ((e.runAt r).2 + o).toNat n = true → ∃ g : Granary,
        GrnWritten c.grn g ((e.runAt r).2 + o).toNat (s.grnBytes k ((e.runAt r).1 + o).toNat n) ∧
        CoreNext (exec (.peelTransferIssue k q (.ask bytes) [] []) s) s k { c.setPeelQ q.idx (done ++ e2 :: rest) with grn := g } [] [kPeel k q.idx 8, kPeel k q.idx 12] ∧
        ∀ t, exec (.peelTransferIssue k q (.ask bytes) [] []) s = .next t → t.reg64 (kPeel k q.idx 8) = s.reg64 (kPeel k q.idx 8) + BitVec.ofNat 64 n) ∧
      (q = .speel → e.zf = false → e.loc = false → inDram (devAddr (e.runAt r).2) = true → inDram (devAddr ((e.runAt r).2 + o)) = true → m = linesOf (devAddr ((e.runAt r).2 + o)) n →
        s.grnOk k p ((e.runAt r).1 + o).toNat n = true → (s.badIn (devAddr ((e.runAt r).2 + o)) n).isNone = true →
        (s.dramReady (.peel k q.idx) p m = false → CoreNext (exec (.peelTransferIssue k q (.ask bytes) [] []) s) (s.dramWait (.peel k q.idx) p m) k c1 [] []) ∧
        (s.dramReady (.peel k q.idx) p m = true → ∃ (t : State) (e' : PeelEnt), exec (.peelTransferIssue k q (.ask bytes) [] []) s = .next t ∧
          e' = { e2 with reqs := e.reqs ++ [(i, n)], out := e'.out } ∧ (t.core k).speelQ = done ++ e' :: rest ∧
          t.core k = { c.setPeelQ q.idx (t.core k).speelQ with twinCrc := (t.core k).twinCrc } ∧ (∀ j, j ≠ k.val → t.core j = s.core j) ∧
          (∀ j b, (s.grnBytes k ((e.runAt r).1 + o).toNat n)[j]? = some b → t.ramByte (devAddr ((e.runAt r).2 + o) + j) = b) ∧
          (∀ a, (a < devAddr ((e.runAt r).2 + o) ∨ devAddr ((e.runAt r).2 + o) + n ≤ a) → t.ramByte a = s.ramByte a) ∧
          t.reg64 (kPeel k 1 8) = s.reg64 (kPeel k 1 8) + BitVec.ofNat 64 n ∧ keepsRegs (s.dramTake (.peel k q.idx) p m) t [kPeel k 1 8, kPeel k 1 12] ∧
          t = { s.dramTake (.peel k q.idx) p m with cores := t.cores, regs := t.regs, dram := t.dram, dramBad := t.dramBad })) ∧
      (q = .speel → e.zf = false → e.loc = false → e.cnt1 = 1 → e.cnt2 = 1 → e.len = 8 → i = 0 → 8 ≤ bytes → inCeWindow e.dst.toNat = true → s.grnOk k p e.src.toNat 8 = true → ∃ t : State,
        exec (.peelTransferIssue k q (.ask bytes) [] []) s = .next t ∧ t.ceWrites = s.ceWrites ++ [{ core := k.val, part := p, addr := e.dst.toNat, data := s.grnBytes k e.src.toNat 8 }] ∧
        (t.core k).speelQ = done ++ { e2 with out := [] } :: rest ∧ keepsRam s t ∧ t = { s with cores := t.cores, regs := t.regs, ceWrites := t.ceWrites })) ∧
    (∀ (e : PeelEnt) (r o n left : Nat), o < e.len → 1 ≤ n → left = e.len - o → 1 ≤ e.chunk r o n ∧ e.chunk r o n ≤ left ∧
      (e.chunk r o n = left ∨ (((e.runAt r).2 + o + e.chunk r o n) % 8 = 0 ∧ (e.zf = true ∨ ((e.runAt r).1 + o + e.chunk r o n) % 8 = 0)))) ∧
    (∀ (i b n r o : Nat) (e : PeelEnt) (l : List PeelEnt) (u : CoreSt), takeReq (c.peelQ q.idx) i = some (l, e, b, n) → u = c.setPeelQ q.idx l → r = b / e.len → o = b % e.len →
      (∀ errs bad, (c.resetting.contains (3 + q.idx) = true ∨ (s.runs k = true ∧ e.loads q.idx = false)) → CoreNext (exec (.peelTransferIssue k q (.back i) errs bad) s) s k u [] []) ∧
      (c.resetting.contains (3 + q.idx) = false → s.runs k = true → e.loads q.idx = true → (s.badIn (devAddr ((e.runAt r).1 + o)) n).isSome = true →
        CoreStops (exec (.peelTransferIssue k q (.back i) [] []) s) s k u 0x3101 [kUeCount]) ∧
      (q = .lpeel → c.resetting.contains 3 = false → s.runs k = true → e.loads 0 = true → s.badIn (devAddr ((e.runAt r).1 + o)) n = none → Tbl.wf c.grn.bytes = true →
        s.grnOk k p ((e.runAt r).2 + o).toNat n = true → ∃ g : Granary,
        GrnWritten c.grn g ((e.runAt r).2 + o).toNat (s.ramBytes (devAddr ((e.runAt r).1 + o)) n) ∧
        CoreNext (exec (.peelTransferIssue k q (.back i) [] []) s) s k { u with grn := g } [] [kPeel k 0 8, kPeel k 0 12] ∧
        ∀ t, exec (.peelTransferIssue k q (.back i) [] []) s = .next t → t.reg64 (kPeel k 0 8) = s.reg64 (kPeel k 0 8) + BitVec.ofNat 64 n)) ∧
    (∀ (e : PeelEnt) (rest : List PeelEnt) (i : Nat) (x : Nat × Nat), e.reqs[i]? = some x → takeReq (e :: rest) i = some ({ e with reqs := e.reqs.eraseIdx i } :: rest, e, x)) ∧
    (∀ (e : PeelEnt) (rest : List PeelEnt), c.peelQ q.idx = e :: rest → s.runs k = true → e.kind = 0 → e.st = 2 →
      (e.reqs ≠ [] ∨ s.windowsDone k = false → CoreNext (exec (.peelTransferComplete k q) s) s k c [] [kTal k 0x1A0]) ∧
      (e.reqs = [] → s.windowsDone k = true → e.en = true → c.overruns e.tally 1 → CoreStops (exec (.peelTransferComplete k q) s) s k c 0x2303
        [kTal k 0x180, kTal k 0x184, kTal k 0x188, kTal k 0x18C, kTal k 0x190]) ∧
      (e.reqs = [] → s.windowsDone k = true → (e.en = true → c.takes e.tally 1) →
      ∃ (t : State) (u : CoreSt), u = { c with t := if e.en then c.t.set e.tally (c.tally e.tally + 1) else c.t, lastPc := c.lastPc.set (2 + q.idx) e.bundle } ∧
        exec (.peelTransferComplete k q) s = .next t ∧ t.core k = u.setPeelQ q.idx rest ∧ (∀ i, i ≠ k.val → t.core i = s.core i) ∧
        t.reg (kPeel k q.idx 4) = (s.bump (kPeel k q.idx 4)).reg (kPeel k q.idx 4) ∧ (e.en = true → t.reg (kTal k 0x1A0) = (s.bump (kTal k 0x1A0)).reg (kTal k 0x1A0)) ∧
        t.get ⟨kPeel k q.idx 0x14, 0, 16⟩ = min (max (s.get ⟨kPeel k q.idx 0x14, 0, 16⟩) (((s.tb.ticks - e.since) * 40 + 999) / 1000)) 0xFFFF ∧
        keepsRegs s t [kPeel k q.idx 4, kPeel k q.idx 0x14, kTal k 0x1A0] ∧ keepsRam s t ∧ t = { s with cores := t.cores, regs := t.regs })) ∧
    (∀ (us : Nat), s.timed k = true → (∃ e ∈ c.peelQ q.idx, e.kind = 0 ∧ (e.st = 1 ∨ e.st = 2)) → c.peelTmo < us → CoreStops (exec (.peelCompletionTimeout k q us) s) s k c 0x2501 [])

/-- An engine of the mask that is not idle and has made no progress for its window expires: one 0x2301, HRT_WDOG_LAST's engine bits recorded,
and the core stops. A write-back takes the word that has waited longest off the list. With none waiting a bank's scrub moves to its next
row; a corrected word is counted and waits for its write-back; an uncorrectable one is counted and raises 0x3201 as a job fault where the page
has an owner, and zeroes its 64 bytes where it has none. Neither works while the core's islands are paused. A write of 1 by the PF empties the ownership log; any other write changes nothing. -/
def Obligations.WatchdogsAndGranaryUpkeepAct : Prop :=
  ∀ (s : State) (k : CoreId) (c : CoreSt), State.Ok s → c = s.core k →
    (∀ (mask : BitVec 5) (cycles e : Nat), s.runs k = true → e < 5 → mask.getLsbD e = true → c.idle e = false → c.wdog.getD e 0 ≤ cycles →
      CoreStops (exec (.watchdogExpiry k mask cycles) s) s k c 0x2301 [kCore k 8] ∧
      ∀ t, exec (.watchdogExpiry k mask cycles) s = .next t → ∀ i, i < 5 → (t.reg (kCore k 8)).getLsbD (20 + i) = (mask.getLsbD i && !c.idle i && decide (c.wdog.getD i 0 ≤ cycles))) ∧
    (∀ (w : Nat) (rest : List Nat), c.grn.wb = w :: rest → (s.paused k = false → CoreNext (exec (.granaryWriteback k) s) s k { c with grn := { c.grn with wb := rest } } [] []) ∧
      (s.paused k = true → exec (.granaryWriteback k) s = .next s)) ∧
    (∀ (bank : Fin 32) (row a w : Nat) (g : Granary) (errs : GrnErrs), c.grn.wb = [] → s.paused k = false → k.val < s.nCores → row = Tbl.getD c.grn.scrub bank 0 % 2048 →
      a = row * 2048 + (bank.val ^^^ row % 32) * 64 → g = { c.grn with scrub := Tbl.put c.grn.scrub bank (Tbl.getD c.grn.scrub bank 0 + 1) } →
      (errsIn errs a 64 = [] → CoreNext (exec (.granaryScrub k bank errs) s) s k { c with grn := g } [] [kCore k 0xE08]) ∧
      (errsIn errs a 64 = [(w, false)] → CoreNext (exec (.granaryScrub k bank errs) s) s k { c with grn := { g with wb := [w] } } [kCore k 0xE00] [kCore k 0xE08]) ∧
      ((s.pageOwner k (a / 4096)).isSome = true → errsIn errs a 64 = [(w, true)] → ∃ (t : State) (ev : FaultEvent), exec (.granaryScrub k bank errs) s = .next t ∧ ev.code = 0x3201 ∧ ev.disp = .jobFault ∧
        t.core k = { c with grn := g } ∧ t.reg (kCore k 0xE04) = (s.bump (kCore k 0xE04)).reg (kCore k 0xE04) ∧ t.reeve = { s.reeve with events := s.reeve.events ++ [ev] } ∧
        keepsRegs s t [kCore k 0xE04, kCore k 0xE08] ∧ t = { s with cores := t.cores, regs := t.regs, reeve := t.reeve }) ∧
      (s.pageOwner k (a / 4096) = none → errsIn errs a 64 = [(w, true)] → ∃ z : List Host.Cell, CoreNext (exec (.granaryScrub k bank errs) s) s k { c with grn := { g with bytes := z } } [kCore k 0xE04] [kCore k 0xE08] ∧
        (∀ x, a ≤ x → x < a + 64 → Tbl.getD z x 0 = 0) ∧ (∀ x, (x < a ∨ a + 64 ≤ x) → Tbl.getD z x 0 = Tbl.getD c.grn.bytes x 0))) ∧
    (∀ v : Word, s.turnsAway 0 = false → s.flag (fIslOff 0) = false →
      (v.getLsbD 0 = true → ∃ t, exec (.grnOwnClear 0 v) s = .next t ∧ t.get fOwnValid = 0 ∧ (∀ i, i < 64 → t.reg (0x50200 + 4 * i) = 0) ∧
        (∀ key, key ≠ 0x50110 → (key < 0x50200 ∨ 0x50300 ≤ key ∨ key % 4 ≠ 0) → t.reg key = s.reg key) ∧ keepsRam s t ∧ t = { s with regs := t.regs }) ∧
      (v.getLsbD 0 = false → exec (.grnOwnClear 0 v) s = .next s))

/-- For every register access, doorbell or control write of a function: where the function is absent the command changes nothing; where it is
present and in D3hot the command has no effect of its own, PCIE_UR counts one, AER reports the unsupported request and a 0x6301 violation is raised (its header bytes are free
values: the spec does not lay them out, and the model's taking it for every such request is its own, log entry 96). No other register, no
memory and no other part changes. -/
def Obligations.AccessesToAnAbsentOrSleepingFunctionActOnNothing : Prop :=
  ∀ (s : State) (fn : Fn) (c : Instr) (v : Word) (off : BitVec 25) (q : BitVec 16), State.Ok s →
    c ∈ ([.readClear fn off, .pairLoRead fn off, .registerWrite fn off v, .pairLoWrite fn off v, .pairHiWrite fn off v, .sysTopoWrite fn v, .tbSet fn v, .tbSourceChange fn v,
      .tbFramePeriodWrite fn v, .frameEnable fn v, .frameDisable fn v, .sqDb fn q v, .cqDb fn q v, .queueEnable fn, .queueDisable fn, .queueResumeReplay fn, .queueResumeSkip fn,
      .partPercWrite fn v, .partLock fn v, .partResetWrite fn v, .poolDisable fn v, .pcieRestore fn v, .mailboxDoorbell fn v 0, .secProvClose fn v, .bankEnterRequest fn v, .wakeRequest fn v,
      .canRxfPop fn v, .canTxRequest fn 0 v, .ethEnable fn 0 v, .klyPortEnable fn 0 v, .millPortEnable fn 0 v, .i2cRun fn 0 v, .slotRelease fn 0 v, .streamEnable fn 0 v,
      .triggerDescriptorWrite fn 0 0 v, .grnOwnClear fn v, .spllCalRequest (some (fn, v))] : List Instr) →
    (s.present fn = false → exec c s = .next s) ∧
    (s.present fn = true → (s.fnCfg fn).d3hot = true → ∃ (t : State) (ev : FaultEvent), exec c s = .next t ∧ ev.code = 0x6301 ∧ ev.disp = .violation ∧
      t.reg 0x2010 = (s.bump 0x2010).reg 0x2010 ∧ keepsRegs s t [0x2010] ∧ keepsRam s t ∧ t.reeve = { s.reeve with events := s.reeve.events ++ [ev] } ∧
      t.emitted = s.emitted ++ [.aer fn.val .unsupportedRequest] ∧ t = { s with regs := t.regs, reeve := t.reeve, draws := t.draws, emitted := t.emitted })

/-- In any state whose register map and DRAM are canonical (keys rise strictly, no register is listed at its reset value) and whose fused core
map names only physical cores 0 to 15, whatever step answers as the next state is such a state again. It covers every command of the
table, the power-on reset among them, and the idle step. -/
def Obligations.EveryStepKeepsTheCanonicalForms : Prop :=
  ∀ s t : State, State.Ok s → step s = .next t → State.Ok t

/-- Whatever the front command is and whatever the state, where step answers a next state: the waiting commands are those behind the front one
(none where none waited); the grade, the AE marking and the fused map of logical to physical cores are as before; and neither the count of
free values drawn nor the count of power-on resets has fallen, so no free value is ever drawn twice. -/
def Obligations.EveryStepTakesOneCommandAndKeepsTheFuses : Prop :=
  ∀ s t : State, step s = .next t → t.pending = s.pending.tail ∧ t.fuse.grade = s.fuse.grade ∧ t.fuse.ae = s.fuse.ae ∧ t.fuse.physOf = s.fuse.physOf ∧
    s.draws ≤ t.draws ∧ s.epoch ≤ t.epoch

/-- In every state, whatever command stands at the front, step answers a next state, never a fault and never a refusal: the spec gives every
row of the table its effect, and a row whose precondition does not hold leaves the state as it is (log entry 2). -/
def Obligations.EveryCommandCompletes : Prop :=
  ∀ s : State, ∃ t : State, step s = .next t
end

