-- ==== Sys2Proof/Laws/Tbl.lean ====
section
/-! SUPPORT. What a table answers after a put and after a drop, and that both keep its keys rising. -/

namespace Sys2Proof.Machine

variable {α : Type}

theorem Tbl.above_mono {b c : Nat} (hbc : b ≤ c) : ∀ {m : Tbl α}, Tbl.above c m = true → Tbl.above b m = true
  | [], _ => rfl
  | (k, v) :: m, h => by
    simp only [Tbl.above, Bool.and_eq_true, decide_eq_true_eq] at h ⊢
    exact ⟨by omega, h.2⟩

/-- Nothing is listed at or below a key that the whole table is above. -/
theorem Tbl.find_of_above {b k : Nat} (hk : k ≤ b) : ∀ {m : Tbl α}, Tbl.above b m = true → Tbl.find m k = none
  | [], _ => rfl
  | (k', v) :: m, h => by
    simp only [Tbl.above, Bool.and_eq_true, decide_eq_true_eq] at h
    rw [Tbl.find, if_neg (by omega)]
    exact Tbl.find_of_above (by omega) h.2

@[simp] theorem Tbl.find_put_same (k : Nat) (v : α) : ∀ m : Tbl α, Tbl.find (Tbl.put m k v) k = some v
  | [] => by simp [Tbl.put, Tbl.find]
  | (k', v') :: m => by
    unfold Tbl.put
    split
    · simp [Tbl.find]
    · split
      · simp [Tbl.find]
      · rw [Tbl.find, if_neg (by omega)]; exact Tbl.find_put_same k v m

theorem Tbl.find_put_ne {k j : Nat} (h : j ≠ k) (v : α) : ∀ m : Tbl α, Tbl.find (Tbl.put m k v) j = Tbl.find m j
  | [] => by simp [Tbl.put, Tbl.find, Ne.symm h]
  | (k', v') :: m => by
    unfold Tbl.put
    split
    · rw [Tbl.find, if_neg (Ne.symm h)]
    · split
      · subst k; rw [Tbl.find, Tbl.find, if_neg (Ne.symm h), if_neg (Ne.symm h)]
      · rw [Tbl.find, Tbl.find]; split
        · rfl
        · exact Tbl.find_put_ne h v m

theorem Tbl.find_drop_ne {k j : Nat} (h : j ≠ k) : ∀ m : Tbl α, Tbl.find (Tbl.drop m k) j = Tbl.find m j
  | [] => rfl
  | (k', v') :: m => by
    unfold Tbl.drop
    split
    · subst k; rw [Tbl.find, if_neg (Ne.symm h)]
    · rw [Tbl.find, Tbl.find]; split
      · rfl
      · exact Tbl.find_drop_ne h m

theorem Tbl.find_drop_above {b : Nat} (k : Nat) : ∀ {m : Tbl α}, Tbl.above b m = true → Tbl.find (Tbl.drop m k) k = none
  | [], _ => rfl
  | (k', v') :: m, h => by
    simp only [Tbl.above, Bool.and_eq_true, decide_eq_true_eq] at h
    unfold Tbl.drop
    split
    · subst k; exact Tbl.find_of_above (Nat.le_refl _) h.2
    · next hne => rw [Tbl.find, if_neg hne]; exact Tbl.find_drop_above k h.2

theorem Tbl.above_of_wf {k : Nat} {v : α} {m : Tbl α} (h : Tbl.wf ((k, v) :: m) = true) : Tbl.above k m = true := h

theorem Tbl.wf_of_above {b : Nat} : ∀ {m : Tbl α}, Tbl.above b m = true → Tbl.wf m = true
  | [], _ => rfl
  | (k, v) :: m, h => by
    simp only [Tbl.above, Bool.and_eq_true] at h; exact h.2

theorem Tbl.find_drop_same {m : Tbl α} (h : Tbl.wf m = true) (k : Nat) : Tbl.find (Tbl.drop m k) k = none := by
  cases m with
  | nil => rfl
  | cons e m =>
    obtain ⟨k', v⟩ := e
    unfold Tbl.drop
    split
    · subst k; exact Tbl.find_of_above (Nat.le_refl _) (Tbl.above_of_wf h)
    · next hne => rw [Tbl.find, if_neg hne]; exact Tbl.find_drop_above k (Tbl.above_of_wf h)

theorem Tbl.above_put {b k : Nat} (hb : b < k) (v : α) : ∀ {m : Tbl α}, Tbl.above b m = true → Tbl.above b (Tbl.put m k v) = true
  | [], _ => by simp [Tbl.put, Tbl.above, hb]
  | (k', v') :: m, h => by
    simp only [Tbl.above, Bool.and_eq_true, decide_eq_true_eq] at h
    unfold Tbl.put
    split
    · simp [Tbl.above, hb, h.2]; omega
    · split
      · subst k; simp [Tbl.above, hb, h.2]
      · next h1 h2 => simp [Tbl.above, h.1, Tbl.above_put (by omega : k' < k) v h.2]

theorem Tbl.above_drop {b : Nat} (k : Nat) : ∀ {m : Tbl α}, Tbl.above b m = true → Tbl.above b (Tbl.drop m k) = true
  | [], _ => rfl
  | (k', v') :: m, h => by
    simp only [Tbl.above, Bool.and_eq_true, decide_eq_true_eq] at h
    unfold Tbl.drop
    split
    · exact Tbl.above_mono (by omega) h.2
    · simp [Tbl.above, h.1, Tbl.above_drop k h.2]

theorem Tbl.wf_put {m : Tbl α} (h : Tbl.wf m = true) (k : Nat) (v : α) : Tbl.wf (Tbl.put m k v) = true := by
  cases m with
  | nil => rfl
  | cons e m =>
    obtain ⟨k', v'⟩ := e
    have h' := Tbl.above_of_wf h
    unfold Tbl.put
    split
    · next hlt => simp [Tbl.wf, Tbl.above, hlt, h']
    · split
      · subst k; exact h'
      · exact Tbl.above_put (by omega) v h'

theorem Tbl.wf_drop {m : Tbl α} (h : Tbl.wf m = true) (k : Nat) : Tbl.wf (Tbl.drop m k) = true := by
  cases m with
  | nil => rfl
  | cons e m =>
    obtain ⟨k', v'⟩ := e
    unfold Tbl.drop
    split
    · exact Tbl.wf_of_above (Tbl.above_of_wf h)
    · exact Tbl.above_drop k (Tbl.above_of_wf h)

theorem Tbl.above_filter {b : Nat} (p : Nat × α → Bool) : ∀ {m : Tbl α}, Tbl.above b m = true → Tbl.above b (m.filter p) = true
  | [], _ => rfl
  | (k, v) :: m, h => by
    simp only [Tbl.above, Bool.and_eq_true, decide_eq_true_eq] at h
    simp only [List.filter_cons]
    split
    · simp [Tbl.above, h.1, Tbl.above_filter p h.2]
    · exact Tbl.above_mono (by omega) (Tbl.above_filter p h.2)

theorem Tbl.wf_filter {m : Tbl α} (h : Tbl.wf m = true) (p : Nat × α → Bool) : Tbl.wf (m.filter p) = true := by
  cases m with
  | nil => rfl
  | cons e m =>
    have h' := Tbl.above_filter p (Tbl.above_of_wf h)
    simp only [List.filter_cons]
    split
    · exact h'
    · exact Tbl.wf_of_above h'

theorem Tbl.mem_put {k : Nat} {v : α} {e : Nat × α} : ∀ {m : Tbl α}, e ∈ Tbl.put m k v → e = (k, v) ∨ e ∈ m
  | [], h => by simpa [Tbl.put] using h
  | (k', v') :: m, h => by
    unfold Tbl.put at h
    split at h
    · simpa using h
    · split at h
      · simp only [List.mem_cons] at h ⊢; tauto
      · simp only [List.mem_cons] at h ⊢
        rcases h with h | h
        · tauto
        · rcases Tbl.mem_put h with h | h <;> tauto

theorem Tbl.mem_drop {k : Nat} {e : Nat × α} : ∀ {m : Tbl α}, e ∈ Tbl.drop m k → e ∈ m
  | [], h => h
  | (k', v') :: m, h => by
    unfold Tbl.drop at h
    split at h
    · simp [h]
    · simp only [List.mem_cons] at h ⊢
      rcases h with h | h
      · exact .inl h
      · exact .inr (Tbl.mem_drop h)

@[simp] theorem Tbl.getD_put_same (m : Tbl α) (k : Nat) (v d : α) : Tbl.getD (Tbl.put m k v) k d = v := by
  simp [Tbl.getD]

theorem Tbl.getD_put_ne {k j : Nat} (h : j ≠ k) (m : Tbl α) (v d : α) : Tbl.getD (Tbl.put m k v) j d = Tbl.getD m j d := by
  simp [Tbl.getD, Tbl.find_put_ne h]

end Sys2Proof.Machine
end

