-- ==== Sys2Proof/Laws/Fields.lean ====
section
/-! SUPPORT. What a register and a field read after a register or a field is set. -/

namespace Sys2Proof.Machine

@[simp] theorem State.reg_setReg_same (s : State) (k : Nat) (v : Word) (h : Tbl.wf s.regs = true) : (s.setReg k v).reg k = v := by
  unfold State.setReg State.reg Tbl.getD
  split
  · next hv => simp [Tbl.find_drop_same h, hv]
  · simp

theorem State.reg_setReg_ne (s : State) {k j : Nat} (hkj : j ≠ k) (v : Word) : (s.setReg k v).reg j = s.reg j := by
  unfold State.setReg State.reg Tbl.getD
  split
  · simp [Tbl.find_drop_ne hkj]
  · simp [Tbl.find_put_ne hkj]

theorem Fld.mask_bit (f : Fld) (hf : f.ok = true) (i : Nat) : f.mask.getLsbD i = (decide (f.lo ≤ i) && decide (i < f.lo + f.w)) := by
  simp only [Fld.ok, decide_eq_true_eq] at hf
  simp only [Fld.mask, BitVec.getLsbD_ofNat, Nat.testBit_mul_two_pow, Nat.testBit_two_pow_sub_one]
  by_cases h1 : f.lo ≤ i <;> by_cases h2 : i < f.lo + f.w <;> simp [h1, h2] <;> omega

theorem Fld.into_bit (f : Fld) (hf : f.ok = true) (v : Word) (n i : Nat) : (f.into v n).getLsbD i =
    if f.lo ≤ i ∧ i < f.lo + f.w then n.testBit (i - f.lo) else v.getLsbD i := by
  simp only [Fld.ok, decide_eq_true_eq] at hf
  simp only [Fld.into, BitVec.getLsbD_or, BitVec.getLsbD_and, BitVec.getLsbD_not, Fld.mask_bit f (by simpa [Fld.ok] using hf),
    BitVec.getLsbD_shiftLeft, BitVec.getLsbD_ofNat, Nat.testBit_mod_two_pow]
  have hv : ¬ i < 32 → v.getLsbD i = false := fun h => by simp [Nat.not_lt.mp h]
  rcases Nat.lt_or_ge i f.lo with h1 | h1
  · by_cases h32 : i < 32 <;> simp [h1, Nat.not_le.mpr h1, h32, hv]
  · rcases Nat.lt_or_ge i (f.lo + f.w) with h2 | h2
    · simp [h1, h2, Nat.not_lt.mpr h1, show i < 32 by omega, show i - f.lo < 32 by omega, show i - f.lo < f.w by omega]
    · by_cases h32 : i < 32 <;> simp [h1, h32, hv, show ¬ i < f.lo + f.w by omega, show ¬ i - f.lo < f.w by omega]

theorem Fld.ofWord_bit (f : Fld) (v : Word) (i : Nat) : (f.ofWord v).testBit i = (decide (i < f.w) && v.getLsbD (f.lo + i)) := by
  simp only [Fld.ofWord, bitsAt, Nat.testBit_mod_two_pow, Nat.testBit_div_two_pow, BitVec.getLsbD, Nat.add_comm]

/-- A field reads as the low bits of what was put into it. -/
theorem Fld.ofWord_into (f : Fld) (hf : f.ok = true) (v : Word) (n : Nat) : f.ofWord (f.into v n) = n % 2 ^ f.w := by
  apply Nat.eq_of_testBit_eq
  intro i
  rw [Fld.ofWord_bit f, Fld.into_bit f hf, Nat.testBit_mod_two_pow]
  by_cases h : i < f.w <;> simp [h]

/-- A field that shares no bit with the one put reads as before. -/
theorem Fld.ofWord_into_apart (f g : Fld) (hf : f.ok = true) (ha : f.lo + f.w ≤ g.lo ∨ g.lo + g.w ≤ f.lo) (v : Word)
    (n : Nat) : g.ofWord (f.into v n) = g.ofWord v := by
  apply Nat.eq_of_testBit_eq
  intro i
  rw [Fld.ofWord_bit g, Fld.ofWord_bit g, Fld.into_bit f hf]
  by_cases h : i < g.w
  · rw [if_neg (by omega)]
  · simp [h]

theorem State.get_put_same (s : State) (f : Fld) (n : Nat) (hs : Tbl.wf s.regs = true) (hf : f.ok = true) :
    (s.put f n).get f = n % 2 ^ f.w := by
  simp only [State.put, State.get, State.reg_setReg_same s f.key _ hs, Fld.ofWord_into f hf]

theorem State.get_put_apart (s : State) (f g : Fld) (n : Nat) (hs : Tbl.wf s.regs = true) (hf : f.ok = true)
    (ha : f.apart g = true) : (s.put f n).get g = s.get g := by
  simp only [Fld.apart, Bool.or_eq_true, decide_eq_true_eq] at ha
  by_cases hk : f.key = g.key
  · rw [State.put, State.get, State.get, ← hk, State.reg_setReg_same s f.key _ hs]
    exact Fld.ofWord_into_apart f g hf (by tauto) _ n
  · rw [State.put, State.get, State.get, State.reg_setReg_ne s (Ne.symm hk)]

/-- A put leaves every register but the field's own. -/
theorem State.reg_put_ne (s : State) (f : Fld) (n : Nat) {j : Nat} (h : j ≠ f.key) : (s.put f n).reg j = s.reg j :=
  State.reg_setReg_ne s h _

theorem regsWf_setReg {s : State} (h : regsWf s.regs = true) (k : Nat) (v : Word) : regsWf (s.setReg k v).regs = true := by
  simp only [regsWf, Bool.and_eq_true, List.all_eq_true, decide_eq_true_eq] at h ⊢
  unfold State.setReg
  split
  · exact ⟨Tbl.wf_drop h.1 k, fun e he => h.2 e (Tbl.mem_drop he)⟩
  · next hv =>
    refine ⟨Tbl.wf_put h.1 k v, fun e he => ?_⟩
    rcases Tbl.mem_put he with rfl | he
    · exact hv
    · exact h.2 e he

theorem regsWf_filter {m : Tbl Word} (h : regsWf m = true) (p : Nat × Word → Bool) : regsWf (m.filter p) = true := by
  simp only [regsWf, Bool.and_eq_true, List.all_eq_true, decide_eq_true_eq] at h ⊢
  exact ⟨Tbl.wf_filter h.1 p, fun e he => h.2 e (List.mem_of_mem_filter he)⟩

theorem regsWf.wf {m : Tbl Word} (h : regsWf m = true) : Tbl.wf m = true := by
  simp only [regsWf, Bool.and_eq_true] at h; exact h.1

theorem wf_putBytes : ∀ (bs : List Byte) {m : List Host.Cell} (a : Nat), Memory.wf m = true → Memory.wf (putBytes m a bs) = true
  | [], _, _, h => h
  | b :: bs, _, a, h => wf_putBytes bs (a + 1) (Tbl.wf_put h a b)

/-- A byte outside the bytes put reads as before. -/
theorem find_putBytes_ne : ∀ (bs : List Byte) (m : List Host.Cell) (a j : Nat), (j < a ∨ a + bs.length ≤ j) →
    Tbl.find (putBytes m a bs) j = Tbl.find m j
  | [], _, _, _, _ => rfl
  | b :: bs, m, a, j, h => by
    rw [putBytes, find_putBytes_ne bs _ (a + 1) j (by simp at h; omega), Tbl.find_put_ne (by simp at h; omega)]

/-- A byte put reads as put. -/
theorem find_putBytes_in : ∀ (bs : List Byte) (m : List Host.Cell) (a i : Nat) (h : i < bs.length),
    Tbl.find (putBytes m a bs) (a + i) = some bs[i]
  | b :: bs, m, a, 0, _ => by
    show Tbl.find (putBytes (Tbl.put m a b) (a + 1) bs) a = some b
    rw [find_putBytes_ne bs _ (a + 1) a (by omega)]; simp
  | b :: bs, m, a, i + 1, h => by
    rw [putBytes, show a + (i + 1) = (a + 1) + i by omega, find_putBytes_in bs _ (a + 1) i (by simpa using h)]; simp

end Sys2Proof.Machine
end

