-- ==== Sys2Proof/Laws/State.lean ====
section
/-! SUPPORT. What every named update of the state leaves in every field, and every register, that it does not touch. -/

namespace Sys2Proof.Machine

variable (s : State)

-- setReg
@[simp] theorem State.setReg_pending (k : Nat) (v : Word) : (s.setReg k v).pending = s.pending := rfl
@[simp] theorem State.setReg_loHeld (k : Nat) (v : Word) : (s.setReg k v).loHeld = s.loHeld := rfl
@[simp] theorem State.setReg_hiSnap (k : Nat) (v : Word) : (s.setReg k v).hiSnap = s.hiSnap := rfl
@[simp] theorem State.setReg_rdata (k : Nat) (v : Word) : (s.setReg k v).rdata = s.rdata := rfl
@[simp] theorem State.setReg_dram (k : Nat) (v : Word) : (s.setReg k v).dram = s.dram := rfl
@[simp] theorem State.setReg_dramBad (k : Nat) (v : Word) : (s.setReg k v).dramBad = s.dramBad := rfl
@[simp] theorem State.setReg_mr4 (k : Nat) (v : Word) : (s.setReg k v).mr4 = s.mr4 := rfl
@[simp] theorem State.setReg_epoch (k : Nat) (v : Word) : (s.setReg k v).epoch = s.epoch := rfl
@[simp] theorem State.setReg_draws (k : Nat) (v : Word) : (s.setReg k v).draws = s.draws := rfl
@[simp] theorem State.setReg_emitted (k : Nat) (v : Word) : (s.setReg k v).emitted = s.emitted := rfl
@[simp] theorem State.setReg_fuse (k : Nat) (v : Word) : (s.setReg k v).fuse = s.fuse := rfl
@[simp] theorem State.setReg_tb (k : Nat) (v : Word) : (s.setReg k v).tb = s.tb := rfl
@[simp] theorem State.setReg_reeve (k : Nat) (v : Word) : (s.setReg k v).reeve = s.reeve := rfl
@[simp] theorem State.setReg_pcie (k : Nat) (v : Word) : (s.setReg k v).pcie = s.pcie := rfl
@[simp] theorem State.setReg_mill (k : Nat) (v : Word) : (s.setReg k v).mill = s.mill := rfl
@[simp] theorem State.setReg_hdg (k : Nat) (v : Word) : (s.setReg k v).hdg = s.hdg := rfl
@[simp] theorem State.setReg_veh (k : Nat) (v : Word) : (s.setReg k v).veh = s.veh := rfl
@[simp] theorem State.setReg_cores (k : Nat) (v : Word) : (s.setReg k v).cores = s.cores := rfl
@[simp] theorem State.setReg_ceWrites (k : Nat) (v : Word) : (s.setReg k v).ceWrites = s.ceWrites := rfl
@[simp] theorem State.setReg_ctWrites (k : Nat) (v : Word) : (s.setReg k v).ctWrites = s.ctWrites := rfl
@[simp] theorem State.setReg_qm (k : Nat) (v : Word) : (s.setReg k v).qm = s.qm := rfl
@[simp] theorem State.setReg_part (k : Nat) (v : Word) : (s.setReg k v).part = s.part := rfl
@[simp] theorem State.setReg_sess (k : Nat) (v : Word) : (s.setReg k v).sess = s.sess := rfl
@[simp] theorem State.setReg_kly (k : Nat) (v : Word) : (s.setReg k v).kly = s.kly := rfl
@[simp] theorem State.setReg_power (k : Nat) (v : Word) : (s.setReg k v).power = s.power := rfl
@[simp] theorem State.setReg_boot (k : Nat) (v : Word) : (s.setReg k v).boot = s.boot := rfl
@[simp] theorem State.setReg_tap (k : Nat) (v : Word) : (s.setReg k v).tap = s.tap := rfl
-- put
@[simp] theorem State.put_pending (f : Fld) (n : Nat) : (s.put f n).pending = s.pending := rfl
@[simp] theorem State.put_loHeld (f : Fld) (n : Nat) : (s.put f n).loHeld = s.loHeld := rfl
@[simp] theorem State.put_hiSnap (f : Fld) (n : Nat) : (s.put f n).hiSnap = s.hiSnap := rfl
@[simp] theorem State.put_rdata (f : Fld) (n : Nat) : (s.put f n).rdata = s.rdata := rfl
@[simp] theorem State.put_dram (f : Fld) (n : Nat) : (s.put f n).dram = s.dram := rfl
@[simp] theorem State.put_dramBad (f : Fld) (n : Nat) : (s.put f n).dramBad = s.dramBad := rfl
@[simp] theorem State.put_mr4 (f : Fld) (n : Nat) : (s.put f n).mr4 = s.mr4 := rfl
@[simp] theorem State.put_epoch (f : Fld) (n : Nat) : (s.put f n).epoch = s.epoch := rfl
@[simp] theorem State.put_draws (f : Fld) (n : Nat) : (s.put f n).draws = s.draws := rfl
@[simp] theorem State.put_emitted (f : Fld) (n : Nat) : (s.put f n).emitted = s.emitted := rfl
@[simp] theorem State.put_fuse (f : Fld) (n : Nat) : (s.put f n).fuse = s.fuse := rfl
@[simp] theorem State.put_tb (f : Fld) (n : Nat) : (s.put f n).tb = s.tb := rfl
@[simp] theorem State.put_reeve (f : Fld) (n : Nat) : (s.put f n).reeve = s.reeve := rfl
@[simp] theorem State.put_pcie (f : Fld) (n : Nat) : (s.put f n).pcie = s.pcie := rfl
@[simp] theorem State.put_mill (f : Fld) (n : Nat) : (s.put f n).mill = s.mill := rfl
@[simp] theorem State.put_hdg (f : Fld) (n : Nat) : (s.put f n).hdg = s.hdg := rfl
@[simp] theorem State.put_veh (f : Fld) (n : Nat) : (s.put f n).veh = s.veh := rfl
@[simp] theorem State.put_cores (f : Fld) (n : Nat) : (s.put f n).cores = s.cores := rfl
@[simp] theorem State.put_ceWrites (f : Fld) (n : Nat) : (s.put f n).ceWrites = s.ceWrites := rfl
@[simp] theorem State.put_ctWrites (f : Fld) (n : Nat) : (s.put f n).ctWrites = s.ctWrites := rfl
@[simp] theorem State.put_qm (f : Fld) (n : Nat) : (s.put f n).qm = s.qm := rfl
@[simp] theorem State.put_part (f : Fld) (n : Nat) : (s.put f n).part = s.part := rfl
@[simp] theorem State.put_sess (f : Fld) (n : Nat) : (s.put f n).sess = s.sess := rfl
@[simp] theorem State.put_kly (f : Fld) (n : Nat) : (s.put f n).kly = s.kly := rfl
@[simp] theorem State.put_power (f : Fld) (n : Nat) : (s.put f n).power = s.power := rfl
@[simp] theorem State.put_boot (f : Fld) (n : Nat) : (s.put f n).boot = s.boot := rfl
@[simp] theorem State.put_tap (f : Fld) (n : Nat) : (s.put f n).tap = s.tap := rfl
-- on
@[simp] theorem State.on_pending (f : Fld) : (s.on f).pending = s.pending := rfl
@[simp] theorem State.on_loHeld (f : Fld) : (s.on f).loHeld = s.loHeld := rfl
@[simp] theorem State.on_hiSnap (f : Fld) : (s.on f).hiSnap = s.hiSnap := rfl
@[simp] theorem State.on_rdata (f : Fld) : (s.on f).rdata = s.rdata := rfl
@[simp] theorem State.on_dram (f : Fld) : (s.on f).dram = s.dram := rfl
@[simp] theorem State.on_dramBad (f : Fld) : (s.on f).dramBad = s.dramBad := rfl
@[simp] theorem State.on_mr4 (f : Fld) : (s.on f).mr4 = s.mr4 := rfl
@[simp] theorem State.on_epoch (f : Fld) : (s.on f).epoch = s.epoch := rfl
@[simp] theorem State.on_draws (f : Fld) : (s.on f).draws = s.draws := rfl
@[simp] theorem State.on_emitted (f : Fld) : (s.on f).emitted = s.emitted := rfl
@[simp] theorem State.on_fuse (f : Fld) : (s.on f).fuse = s.fuse := rfl
@[simp] theorem State.on_tb (f : Fld) : (s.on f).tb = s.tb := rfl
@[simp] theorem State.on_reeve (f : Fld) : (s.on f).reeve = s.reeve := rfl
@[simp] theorem State.on_pcie (f : Fld) : (s.on f).pcie = s.pcie := rfl
@[simp] theorem State.on_mill (f : Fld) : (s.on f).mill = s.mill := rfl
@[simp] theorem State.on_hdg (f : Fld) : (s.on f).hdg = s.hdg := rfl
@[simp] theorem State.on_veh (f : Fld) : (s.on f).veh = s.veh := rfl
@[simp] theorem State.on_cores (f : Fld) : (s.on f).cores = s.cores := rfl
@[simp] theorem State.on_ceWrites (f : Fld) : (s.on f).ceWrites = s.ceWrites := rfl
@[simp] theorem State.on_ctWrites (f : Fld) : (s.on f).ctWrites = s.ctWrites := rfl
@[simp] theorem State.on_qm (f : Fld) : (s.on f).qm = s.qm := rfl
@[simp] theorem State.on_part (f : Fld) : (s.on f).part = s.part := rfl
@[simp] theorem State.on_sess (f : Fld) : (s.on f).sess = s.sess := rfl
@[simp] theorem State.on_kly (f : Fld) : (s.on f).kly = s.kly := rfl
@[simp] theorem State.on_power (f : Fld) : (s.on f).power = s.power := rfl
@[simp] theorem State.on_boot (f : Fld) : (s.on f).boot = s.boot := rfl
@[simp] theorem State.on_tap (f : Fld) : (s.on f).tap = s.tap := rfl
-- off
@[simp] theorem State.off_pending (f : Fld) : (s.off f).pending = s.pending := rfl
@[simp] theorem State.off_loHeld (f : Fld) : (s.off f).loHeld = s.loHeld := rfl
@[simp] theorem State.off_hiSnap (f : Fld) : (s.off f).hiSnap = s.hiSnap := rfl
@[simp] theorem State.off_rdata (f : Fld) : (s.off f).rdata = s.rdata := rfl
@[simp] theorem State.off_dram (f : Fld) : (s.off f).dram = s.dram := rfl
@[simp] theorem State.off_dramBad (f : Fld) : (s.off f).dramBad = s.dramBad := rfl
@[simp] theorem State.off_mr4 (f : Fld) : (s.off f).mr4 = s.mr4 := rfl
@[simp] theorem State.off_epoch (f : Fld) : (s.off f).epoch = s.epoch := rfl
@[simp] theorem State.off_draws (f : Fld) : (s.off f).draws = s.draws := rfl
@[simp] theorem State.off_emitted (f : Fld) : (s.off f).emitted = s.emitted := rfl
@[simp] theorem State.off_fuse (f : Fld) : (s.off f).fuse = s.fuse := rfl
@[simp] theorem State.off_tb (f : Fld) : (s.off f).tb = s.tb := rfl
@[simp] theorem State.off_reeve (f : Fld) : (s.off f).reeve = s.reeve := rfl
@[simp] theorem State.off_pcie (f : Fld) : (s.off f).pcie = s.pcie := rfl
@[simp] theorem State.off_mill (f : Fld) : (s.off f).mill = s.mill := rfl
@[simp] theorem State.off_hdg (f : Fld) : (s.off f).hdg = s.hdg := rfl
@[simp] theorem State.off_veh (f : Fld) : (s.off f).veh = s.veh := rfl
@[simp] theorem State.off_cores (f : Fld) : (s.off f).cores = s.cores := rfl
@[simp] theorem State.off_ceWrites (f : Fld) : (s.off f).ceWrites = s.ceWrites := rfl
@[simp] theorem State.off_ctWrites (f : Fld) : (s.off f).ctWrites = s.ctWrites := rfl
@[simp] theorem State.off_qm (f : Fld) : (s.off f).qm = s.qm := rfl
@[simp] theorem State.off_part (f : Fld) : (s.off f).part = s.part := rfl
@[simp] theorem State.off_sess (f : Fld) : (s.off f).sess = s.sess := rfl
@[simp] theorem State.off_kly (f : Fld) : (s.off f).kly = s.kly := rfl
@[simp] theorem State.off_power (f : Fld) : (s.off f).power = s.power := rfl
@[simp] theorem State.off_boot (f : Fld) : (s.off f).boot = s.boot := rfl
@[simp] theorem State.off_tap (f : Fld) : (s.off f).tap = s.tap := rfl
-- bumpBy
@[simp] theorem State.bumpBy_pending (k n : Nat) : (s.bumpBy k n).pending = s.pending := rfl
@[simp] theorem State.bumpBy_loHeld (k n : Nat) : (s.bumpBy k n).loHeld = s.loHeld := rfl
@[simp] theorem State.bumpBy_hiSnap (k n : Nat) : (s.bumpBy k n).hiSnap = s.hiSnap := rfl
@[simp] theorem State.bumpBy_rdata (k n : Nat) : (s.bumpBy k n).rdata = s.rdata := rfl
@[simp] theorem State.bumpBy_dram (k n : Nat) : (s.bumpBy k n).dram = s.dram := rfl
@[simp] theorem State.bumpBy_dramBad (k n : Nat) : (s.bumpBy k n).dramBad = s.dramBad := rfl
@[simp] theorem State.bumpBy_mr4 (k n : Nat) : (s.bumpBy k n).mr4 = s.mr4 := rfl
@[simp] theorem State.bumpBy_epoch (k n : Nat) : (s.bumpBy k n).epoch = s.epoch := rfl
@[simp] theorem State.bumpBy_draws (k n : Nat) : (s.bumpBy k n).draws = s.draws := rfl
@[simp] theorem State.bumpBy_emitted (k n : Nat) : (s.bumpBy k n).emitted = s.emitted := rfl
@[simp] theorem State.bumpBy_fuse (k n : Nat) : (s.bumpBy k n).fuse = s.fuse := rfl
@[simp] theorem State.bumpBy_tb (k n : Nat) : (s.bumpBy k n).tb = s.tb := rfl
@[simp] theorem State.bumpBy_reeve (k n : Nat) : (s.bumpBy k n).reeve = s.reeve := rfl
@[simp] theorem State.bumpBy_pcie (k n : Nat) : (s.bumpBy k n).pcie = s.pcie := rfl
@[simp] theorem State.bumpBy_mill (k n : Nat) : (s.bumpBy k n).mill = s.mill := rfl
@[simp] theorem State.bumpBy_hdg (k n : Nat) : (s.bumpBy k n).hdg = s.hdg := rfl
@[simp] theorem State.bumpBy_veh (k n : Nat) : (s.bumpBy k n).veh = s.veh := rfl
@[simp] theorem State.bumpBy_cores (k n : Nat) : (s.bumpBy k n).cores = s.cores := rfl
@[simp] theorem State.bumpBy_ceWrites (k n : Nat) : (s.bumpBy k n).ceWrites = s.ceWrites := rfl
@[simp] theorem State.bumpBy_ctWrites (k n : Nat) : (s.bumpBy k n).ctWrites = s.ctWrites := rfl
@[simp] theorem State.bumpBy_qm (k n : Nat) : (s.bumpBy k n).qm = s.qm := rfl
@[simp] theorem State.bumpBy_part (k n : Nat) : (s.bumpBy k n).part = s.part := rfl
@[simp] theorem State.bumpBy_sess (k n : Nat) : (s.bumpBy k n).sess = s.sess := rfl
@[simp] theorem State.bumpBy_kly (k n : Nat) : (s.bumpBy k n).kly = s.kly := rfl
@[simp] theorem State.bumpBy_power (k n : Nat) : (s.bumpBy k n).power = s.power := rfl
@[simp] theorem State.bumpBy_boot (k n : Nat) : (s.bumpBy k n).boot = s.boot := rfl
@[simp] theorem State.bumpBy_tap (k n : Nat) : (s.bumpBy k n).tap = s.tap := rfl
-- bump
@[simp] theorem State.bump_pending (k : Nat) : (s.bump k).pending = s.pending := rfl
@[simp] theorem State.bump_loHeld (k : Nat) : (s.bump k).loHeld = s.loHeld := rfl
@[simp] theorem State.bump_hiSnap (k : Nat) : (s.bump k).hiSnap = s.hiSnap := rfl
@[simp] theorem State.bump_rdata (k : Nat) : (s.bump k).rdata = s.rdata := rfl
@[simp] theorem State.bump_dram (k : Nat) : (s.bump k).dram = s.dram := rfl
@[simp] theorem State.bump_dramBad (k : Nat) : (s.bump k).dramBad = s.dramBad := rfl
@[simp] theorem State.bump_mr4 (k : Nat) : (s.bump k).mr4 = s.mr4 := rfl
@[simp] theorem State.bump_epoch (k : Nat) : (s.bump k).epoch = s.epoch := rfl
@[simp] theorem State.bump_draws (k : Nat) : (s.bump k).draws = s.draws := rfl
@[simp] theorem State.bump_emitted (k : Nat) : (s.bump k).emitted = s.emitted := rfl
@[simp] theorem State.bump_fuse (k : Nat) : (s.bump k).fuse = s.fuse := rfl
@[simp] theorem State.bump_tb (k : Nat) : (s.bump k).tb = s.tb := rfl
@[simp] theorem State.bump_reeve (k : Nat) : (s.bump k).reeve = s.reeve := rfl
@[simp] theorem State.bump_pcie (k : Nat) : (s.bump k).pcie = s.pcie := rfl
@[simp] theorem State.bump_mill (k : Nat) : (s.bump k).mill = s.mill := rfl
@[simp] theorem State.bump_hdg (k : Nat) : (s.bump k).hdg = s.hdg := rfl
@[simp] theorem State.bump_veh (k : Nat) : (s.bump k).veh = s.veh := rfl
@[simp] theorem State.bump_cores (k : Nat) : (s.bump k).cores = s.cores := rfl
@[simp] theorem State.bump_ceWrites (k : Nat) : (s.bump k).ceWrites = s.ceWrites := rfl
@[simp] theorem State.bump_ctWrites (k : Nat) : (s.bump k).ctWrites = s.ctWrites := rfl
@[simp] theorem State.bump_qm (k : Nat) : (s.bump k).qm = s.qm := rfl
@[simp] theorem State.bump_part (k : Nat) : (s.bump k).part = s.part := rfl
@[simp] theorem State.bump_sess (k : Nat) : (s.bump k).sess = s.sess := rfl
@[simp] theorem State.bump_kly (k : Nat) : (s.bump k).kly = s.kly := rfl
@[simp] theorem State.bump_power (k : Nat) : (s.bump k).power = s.power := rfl
@[simp] theorem State.bump_boot (k : Nat) : (s.bump k).boot = s.boot := rfl
@[simp] theorem State.bump_tap (k : Nat) : (s.bump k).tap = s.tap := rfl
-- bumpFld
@[simp] theorem State.bumpFld_pending (f : Fld) : (s.bumpFld f).pending = s.pending := rfl
@[simp] theorem State.bumpFld_loHeld (f : Fld) : (s.bumpFld f).loHeld = s.loHeld := rfl
@[simp] theorem State.bumpFld_hiSnap (f : Fld) : (s.bumpFld f).hiSnap = s.hiSnap := rfl
@[simp] theorem State.bumpFld_rdata (f : Fld) : (s.bumpFld f).rdata = s.rdata := rfl
@[simp] theorem State.bumpFld_dram (f : Fld) : (s.bumpFld f).dram = s.dram := rfl
@[simp] theorem State.bumpFld_dramBad (f : Fld) : (s.bumpFld f).dramBad = s.dramBad := rfl
@[simp] theorem State.bumpFld_mr4 (f : Fld) : (s.bumpFld f).mr4 = s.mr4 := rfl
@[simp] theorem State.bumpFld_epoch (f : Fld) : (s.bumpFld f).epoch = s.epoch := rfl
@[simp] theorem State.bumpFld_draws (f : Fld) : (s.bumpFld f).draws = s.draws := rfl
@[simp] theorem State.bumpFld_emitted (f : Fld) : (s.bumpFld f).emitted = s.emitted := rfl
@[simp] theorem State.bumpFld_fuse (f : Fld) : (s.bumpFld f).fuse = s.fuse := rfl
@[simp] theorem State.bumpFld_tb (f : Fld) : (s.bumpFld f).tb = s.tb := rfl
@[simp] theorem State.bumpFld_reeve (f : Fld) : (s.bumpFld f).reeve = s.reeve := rfl
@[simp] theorem State.bumpFld_pcie (f : Fld) : (s.bumpFld f).pcie = s.pcie := rfl
@[simp] theorem State.bumpFld_mill (f : Fld) : (s.bumpFld f).mill = s.mill := rfl
@[simp] theorem State.bumpFld_hdg (f : Fld) : (s.bumpFld f).hdg = s.hdg := rfl
@[simp] theorem State.bumpFld_veh (f : Fld) : (s.bumpFld f).veh = s.veh := rfl
@[simp] theorem State.bumpFld_cores (f : Fld) : (s.bumpFld f).cores = s.cores := rfl
@[simp] theorem State.bumpFld_ceWrites (f : Fld) : (s.bumpFld f).ceWrites = s.ceWrites := rfl
@[simp] theorem State.bumpFld_ctWrites (f : Fld) : (s.bumpFld f).ctWrites = s.ctWrites := rfl
@[simp] theorem State.bumpFld_qm (f : Fld) : (s.bumpFld f).qm = s.qm := rfl
@[simp] theorem State.bumpFld_part (f : Fld) : (s.bumpFld f).part = s.part := rfl
@[simp] theorem State.bumpFld_sess (f : Fld) : (s.bumpFld f).sess = s.sess := rfl
@[simp] theorem State.bumpFld_kly (f : Fld) : (s.bumpFld f).kly = s.kly := rfl
@[simp] theorem State.bumpFld_power (f : Fld) : (s.bumpFld f).power = s.power := rfl
@[simp] theorem State.bumpFld_boot (f : Fld) : (s.bumpFld f).boot = s.boot := rfl
@[simp] theorem State.bumpFld_tap (f : Fld) : (s.bumpFld f).tap = s.tap := rfl
-- maxReg
@[simp] theorem State.maxReg_pending (k n : Nat) : (s.maxReg k n).pending = s.pending := rfl
@[simp] theorem State.maxReg_loHeld (k n : Nat) : (s.maxReg k n).loHeld = s.loHeld := rfl
@[simp] theorem State.maxReg_hiSnap (k n : Nat) : (s.maxReg k n).hiSnap = s.hiSnap := rfl
@[simp] theorem State.maxReg_rdata (k n : Nat) : (s.maxReg k n).rdata = s.rdata := rfl
@[simp] theorem State.maxReg_dram (k n : Nat) : (s.maxReg k n).dram = s.dram := rfl
@[simp] theorem State.maxReg_dramBad (k n : Nat) : (s.maxReg k n).dramBad = s.dramBad := rfl
@[simp] theorem State.maxReg_mr4 (k n : Nat) : (s.maxReg k n).mr4 = s.mr4 := rfl
@[simp] theorem State.maxReg_epoch (k n : Nat) : (s.maxReg k n).epoch = s.epoch := rfl
@[simp] theorem State.maxReg_draws (k n : Nat) : (s.maxReg k n).draws = s.draws := rfl
@[simp] theorem State.maxReg_emitted (k n : Nat) : (s.maxReg k n).emitted = s.emitted := rfl
@[simp] theorem State.maxReg_fuse (k n : Nat) : (s.maxReg k n).fuse = s.fuse := rfl
@[simp] theorem State.maxReg_tb (k n : Nat) : (s.maxReg k n).tb = s.tb := rfl
@[simp] theorem State.maxReg_reeve (k n : Nat) : (s.maxReg k n).reeve = s.reeve := rfl
@[simp] theorem State.maxReg_pcie (k n : Nat) : (s.maxReg k n).pcie = s.pcie := rfl
@[simp] theorem State.maxReg_mill (k n : Nat) : (s.maxReg k n).mill = s.mill := rfl
@[simp] theorem State.maxReg_hdg (k n : Nat) : (s.maxReg k n).hdg = s.hdg := rfl
@[simp] theorem State.maxReg_veh (k n : Nat) : (s.maxReg k n).veh = s.veh := rfl
@[simp] theorem State.maxReg_cores (k n : Nat) : (s.maxReg k n).cores = s.cores := rfl
@[simp] theorem State.maxReg_ceWrites (k n : Nat) : (s.maxReg k n).ceWrites = s.ceWrites := rfl
@[simp] theorem State.maxReg_ctWrites (k n : Nat) : (s.maxReg k n).ctWrites = s.ctWrites := rfl
@[simp] theorem State.maxReg_qm (k n : Nat) : (s.maxReg k n).qm = s.qm := rfl
@[simp] theorem State.maxReg_part (k n : Nat) : (s.maxReg k n).part = s.part := rfl
@[simp] theorem State.maxReg_sess (k n : Nat) : (s.maxReg k n).sess = s.sess := rfl
@[simp] theorem State.maxReg_kly (k n : Nat) : (s.maxReg k n).kly = s.kly := rfl
@[simp] theorem State.maxReg_power (k n : Nat) : (s.maxReg k n).power = s.power := rfl
@[simp] theorem State.maxReg_boot (k n : Nat) : (s.maxReg k n).boot = s.boot := rfl
@[simp] theorem State.maxReg_tap (k n : Nat) : (s.maxReg k n).tap = s.tap := rfl
-- setReg64
@[simp] theorem State.setReg64_pending (k : Nat) (v : DWord) : (s.setReg64 k v).pending = s.pending := rfl
@[simp] theorem State.setReg64_loHeld (k : Nat) (v : DWord) : (s.setReg64 k v).loHeld = s.loHeld := rfl
@[simp] theorem State.setReg64_hiSnap (k : Nat) (v : DWord) : (s.setReg64 k v).hiSnap = s.hiSnap := rfl
@[simp] theorem State.setReg64_rdata (k : Nat) (v : DWord) : (s.setReg64 k v).rdata = s.rdata := rfl
@[simp] theorem State.setReg64_dram (k : Nat) (v : DWord) : (s.setReg64 k v).dram = s.dram := rfl
@[simp] theorem State.setReg64_dramBad (k : Nat) (v : DWord) : (s.setReg64 k v).dramBad = s.dramBad := rfl
@[simp] theorem State.setReg64_mr4 (k : Nat) (v : DWord) : (s.setReg64 k v).mr4 = s.mr4 := rfl
@[simp] theorem State.setReg64_epoch (k : Nat) (v : DWord) : (s.setReg64 k v).epoch = s.epoch := rfl
@[simp] theorem State.setReg64_draws (k : Nat) (v : DWord) : (s.setReg64 k v).draws = s.draws := rfl
@[simp] theorem State.setReg64_emitted (k : Nat) (v : DWord) : (s.setReg64 k v).emitted = s.emitted := rfl
@[simp] theorem State.setReg64_fuse (k : Nat) (v : DWord) : (s.setReg64 k v).fuse = s.fuse := rfl
@[simp] theorem State.setReg64_tb (k : Nat) (v : DWord) : (s.setReg64 k v).tb = s.tb := rfl
@[simp] theorem State.setReg64_reeve (k : Nat) (v : DWord) : (s.setReg64 k v).reeve = s.reeve := rfl
@[simp] theorem State.setReg64_pcie (k : Nat) (v : DWord) : (s.setReg64 k v).pcie = s.pcie := rfl
@[simp] theorem State.setReg64_mill (k : Nat) (v : DWord) : (s.setReg64 k v).mill = s.mill := rfl
@[simp] theorem State.setReg64_hdg (k : Nat) (v : DWord) : (s.setReg64 k v).hdg = s.hdg := rfl
@[simp] theorem State.setReg64_veh (k : Nat) (v : DWord) : (s.setReg64 k v).veh = s.veh := rfl
@[simp] theorem State.setReg64_cores (k : Nat) (v : DWord) : (s.setReg64 k v).cores = s.cores := rfl
@[simp] theorem State.setReg64_ceWrites (k : Nat) (v : DWord) : (s.setReg64 k v).ceWrites = s.ceWrites := rfl
@[simp] theorem State.setReg64_ctWrites (k : Nat) (v : DWord) : (s.setReg64 k v).ctWrites = s.ctWrites := rfl
@[simp] theorem State.setReg64_qm (k : Nat) (v : DWord) : (s.setReg64 k v).qm = s.qm := rfl
@[simp] theorem State.setReg64_part (k : Nat) (v : DWord) : (s.setReg64 k v).part = s.part := rfl
@[simp] theorem State.setReg64_sess (k : Nat) (v : DWord) : (s.setReg64 k v).sess = s.sess := rfl
@[simp] theorem State.setReg64_kly (k : Nat) (v : DWord) : (s.setReg64 k v).kly = s.kly := rfl
@[simp] theorem State.setReg64_power (k : Nat) (v : DWord) : (s.setReg64 k v).power = s.power := rfl
@[simp] theorem State.setReg64_boot (k : Nat) (v : DWord) : (s.setReg64 k v).boot = s.boot := rfl
@[simp] theorem State.setReg64_tap (k : Nat) (v : DWord) : (s.setReg64 k v).tap = s.tap := rfl
-- emit
@[simp] theorem State.emit_pending (e : Emission) : (s.emit e).pending = s.pending := rfl
@[simp] theorem State.emit_regs (e : Emission) : (s.emit e).regs = s.regs := rfl
@[simp] theorem State.emit_loHeld (e : Emission) : (s.emit e).loHeld = s.loHeld := rfl
@[simp] theorem State.emit_hiSnap (e : Emission) : (s.emit e).hiSnap = s.hiSnap := rfl
@[simp] theorem State.emit_rdata (e : Emission) : (s.emit e).rdata = s.rdata := rfl
@[simp] theorem State.emit_dram (e : Emission) : (s.emit e).dram = s.dram := rfl
@[simp] theorem State.emit_dramBad (e : Emission) : (s.emit e).dramBad = s.dramBad := rfl
@[simp] theorem State.emit_mr4 (e : Emission) : (s.emit e).mr4 = s.mr4 := rfl
@[simp] theorem State.emit_epoch (e : Emission) : (s.emit e).epoch = s.epoch := rfl
@[simp] theorem State.emit_draws (e : Emission) : (s.emit e).draws = s.draws := rfl
@[simp] theorem State.emit_fuse (e : Emission) : (s.emit e).fuse = s.fuse := rfl
@[simp] theorem State.emit_tb (e : Emission) : (s.emit e).tb = s.tb := rfl
@[simp] theorem State.emit_reeve (e : Emission) : (s.emit e).reeve = s.reeve := rfl
@[simp] theorem State.emit_pcie (e : Emission) : (s.emit e).pcie = s.pcie := rfl
@[simp] theorem State.emit_mill (e : Emission) : (s.emit e).mill = s.mill := rfl
@[simp] theorem State.emit_hdg (e : Emission) : (s.emit e).hdg = s.hdg := rfl
@[simp] theorem State.emit_veh (e : Emission) : (s.emit e).veh = s.veh := rfl
@[simp] theorem State.emit_cores (e : Emission) : (s.emit e).cores = s.cores := rfl
@[simp] theorem State.emit_ceWrites (e : Emission) : (s.emit e).ceWrites = s.ceWrites := rfl
@[simp] theorem State.emit_ctWrites (e : Emission) : (s.emit e).ctWrites = s.ctWrites := rfl
@[simp] theorem State.emit_qm (e : Emission) : (s.emit e).qm = s.qm := rfl
@[simp] theorem State.emit_part (e : Emission) : (s.emit e).part = s.part := rfl
@[simp] theorem State.emit_sess (e : Emission) : (s.emit e).sess = s.sess := rfl
@[simp] theorem State.emit_kly (e : Emission) : (s.emit e).kly = s.kly := rfl
@[simp] theorem State.emit_power (e : Emission) : (s.emit e).power = s.power := rfl
@[simp] theorem State.emit_boot (e : Emission) : (s.emit e).boot = s.boot := rfl
@[simp] theorem State.emit_tap (e : Emission) : (s.emit e).tap = s.tap := rfl
@[simp] theorem State.emit_reg (e : Emission) (j : Nat) : (s.emit e).reg j = s.reg j := rfl
@[simp] theorem State.emit_get (e : Emission) (g : Fld) : (s.emit e).get g = s.get g := rfl
@[simp] theorem State.emit_flag (e : Emission) (g : Fld) : (s.emit e).flag g = s.flag g := rfl
-- drawn
@[simp] theorem State.drawn_pending : (s.drawn).pending = s.pending := rfl
@[simp] theorem State.drawn_regs : (s.drawn).regs = s.regs := rfl
@[simp] theorem State.drawn_loHeld : (s.drawn).loHeld = s.loHeld := rfl
@[simp] theorem State.drawn_hiSnap : (s.drawn).hiSnap = s.hiSnap := rfl
@[simp] theorem State.drawn_rdata : (s.drawn).rdata = s.rdata := rfl
@[simp] theorem State.drawn_dram : (s.drawn).dram = s.dram := rfl
@[simp] theorem State.drawn_dramBad : (s.drawn).dramBad = s.dramBad := rfl
@[simp] theorem State.drawn_mr4 : (s.drawn).mr4 = s.mr4 := rfl
@[simp] theorem State.drawn_epoch : (s.drawn).epoch = s.epoch := rfl
@[simp] theorem State.drawn_emitted : (s.drawn).emitted = s.emitted := rfl
@[simp] theorem State.drawn_fuse : (s.drawn).fuse = s.fuse := rfl
@[simp] theorem State.drawn_tb : (s.drawn).tb = s.tb := rfl
@[simp] theorem State.drawn_reeve : (s.drawn).reeve = s.reeve := rfl
@[simp] theorem State.drawn_pcie : (s.drawn).pcie = s.pcie := rfl
@[simp] theorem State.drawn_mill : (s.drawn).mill = s.mill := rfl
@[simp] theorem State.drawn_hdg : (s.drawn).hdg = s.hdg := rfl
@[simp] theorem State.drawn_veh : (s.drawn).veh = s.veh := rfl
@[simp] theorem State.drawn_cores : (s.drawn).cores = s.cores := rfl
@[simp] theorem State.drawn_ceWrites : (s.drawn).ceWrites = s.ceWrites := rfl
@[simp] theorem State.drawn_ctWrites : (s.drawn).ctWrites = s.ctWrites := rfl
@[simp] theorem State.drawn_qm : (s.drawn).qm = s.qm := rfl
@[simp] theorem State.drawn_part : (s.drawn).part = s.part := rfl
@[simp] theorem State.drawn_sess : (s.drawn).sess = s.sess := rfl
@[simp] theorem State.drawn_kly : (s.drawn).kly = s.kly := rfl
@[simp] theorem State.drawn_power : (s.drawn).power = s.power := rfl
@[simp] theorem State.drawn_boot : (s.drawn).boot = s.boot := rfl
@[simp] theorem State.drawn_tap : (s.drawn).tap = s.tap := rfl
@[simp] theorem State.drawn_reg (j : Nat) : (s.drawn).reg j = s.reg j := rfl
@[simp] theorem State.drawn_get (g : Fld) : (s.drawn).get g = s.get g := rfl
@[simp] theorem State.drawn_flag (g : Fld) : (s.drawn).flag g = s.flag g := rfl
-- drawnN
@[simp] theorem State.drawnN_pending (n : Nat) : (s.drawnN n).pending = s.pending := rfl
@[simp] theorem State.drawnN_regs (n : Nat) : (s.drawnN n).regs = s.regs := rfl
@[simp] theorem State.drawnN_loHeld (n : Nat) : (s.drawnN n).loHeld = s.loHeld := rfl
@[simp] theorem State.drawnN_hiSnap (n : Nat) : (s.drawnN n).hiSnap = s.hiSnap := rfl
@[simp] theorem State.drawnN_rdata (n : Nat) : (s.drawnN n).rdata = s.rdata := rfl
@[simp] theorem State.drawnN_dram (n : Nat) : (s.drawnN n).dram = s.dram := rfl
@[simp] theorem State.drawnN_dramBad (n : Nat) : (s.drawnN n).dramBad = s.dramBad := rfl
@[simp] theorem State.drawnN_mr4 (n : Nat) : (s.drawnN n).mr4 = s.mr4 := rfl
@[simp] theorem State.drawnN_epoch (n : Nat) : (s.drawnN n).epoch = s.epoch := rfl
@[simp] theorem State.drawnN_emitted (n : Nat) : (s.drawnN n).emitted = s.emitted := rfl
@[simp] theorem State.drawnN_fuse (n : Nat) : (s.drawnN n).fuse = s.fuse := rfl
@[simp] theorem State.drawnN_tb (n : Nat) : (s.drawnN n).tb = s.tb := rfl
@[simp] theorem State.drawnN_reeve (n : Nat) : (s.drawnN n).reeve = s.reeve := rfl
@[simp] theorem State.drawnN_pcie (n : Nat) : (s.drawnN n).pcie = s.pcie := rfl
@[simp] theorem State.drawnN_mill (n : Nat) : (s.drawnN n).mill = s.mill := rfl
@[simp] theorem State.drawnN_hdg (n : Nat) : (s.drawnN n).hdg = s.hdg := rfl
@[simp] theorem State.drawnN_veh (n : Nat) : (s.drawnN n).veh = s.veh := rfl
@[simp] theorem State.drawnN_cores (n : Nat) : (s.drawnN n).cores = s.cores := rfl
@[simp] theorem State.drawnN_ceWrites (n : Nat) : (s.drawnN n).ceWrites = s.ceWrites := rfl
@[simp] theorem State.drawnN_ctWrites (n : Nat) : (s.drawnN n).ctWrites = s.ctWrites := rfl
@[simp] theorem State.drawnN_qm (n : Nat) : (s.drawnN n).qm = s.qm := rfl
@[simp] theorem State.drawnN_part (n : Nat) : (s.drawnN n).part = s.part := rfl
@[simp] theorem State.drawnN_sess (n : Nat) : (s.drawnN n).sess = s.sess := rfl
@[simp] theorem State.drawnN_kly (n : Nat) : (s.drawnN n).kly = s.kly := rfl
@[simp] theorem State.drawnN_power (n : Nat) : (s.drawnN n).power = s.power := rfl
@[simp] theorem State.drawnN_boot (n : Nat) : (s.drawnN n).boot = s.boot := rfl
@[simp] theorem State.drawnN_tap (n : Nat) : (s.drawnN n).tap = s.tap := rfl
@[simp] theorem State.drawnN_reg (n : Nat) (j : Nat) : (s.drawnN n).reg j = s.reg j := rfl
@[simp] theorem State.drawnN_get (n : Nat) (g : Fld) : (s.drawnN n).get g = s.get g := rfl
@[simp] theorem State.drawnN_flag (n : Nat) (g : Fld) : (s.drawnN n).flag g = s.flag g := rfl
-- raise
@[simp] theorem State.raise_pending (e : FaultEvent) : (s.raise e).pending = s.pending := rfl
@[simp] theorem State.raise_regs (e : FaultEvent) : (s.raise e).regs = s.regs := rfl
@[simp] theorem State.raise_loHeld (e : FaultEvent) : (s.raise e).loHeld = s.loHeld := rfl
@[simp] theorem State.raise_hiSnap (e : FaultEvent) : (s.raise e).hiSnap = s.hiSnap := rfl
@[simp] theorem State.raise_rdata (e : FaultEvent) : (s.raise e).rdata = s.rdata := rfl
@[simp] theorem State.raise_dram (e : FaultEvent) : (s.raise e).dram = s.dram := rfl
@[simp] theorem State.raise_dramBad (e : FaultEvent) : (s.raise e).dramBad = s.dramBad := rfl
@[simp] theorem State.raise_mr4 (e : FaultEvent) : (s.raise e).mr4 = s.mr4 := rfl
@[simp] theorem State.raise_epoch (e : FaultEvent) : (s.raise e).epoch = s.epoch := rfl
@[simp] theorem State.raise_draws (e : FaultEvent) : (s.raise e).draws = s.draws := rfl
@[simp] theorem State.raise_emitted (e : FaultEvent) : (s.raise e).emitted = s.emitted := rfl
@[simp] theorem State.raise_fuse (e : FaultEvent) : (s.raise e).fuse = s.fuse := rfl
@[simp] theorem State.raise_tb (e : FaultEvent) : (s.raise e).tb = s.tb := rfl
@[simp] theorem State.raise_pcie (e : FaultEvent) : (s.raise e).pcie = s.pcie := rfl
@[simp] theorem State.raise_mill (e : FaultEvent) : (s.raise e).mill = s.mill := rfl
@[simp] theorem State.raise_hdg (e : FaultEvent) : (s.raise e).hdg = s.hdg := rfl
@[simp] theorem State.raise_veh (e : FaultEvent) : (s.raise e).veh = s.veh := rfl
@[simp] theorem State.raise_cores (e : FaultEvent) : (s.raise e).cores = s.cores := rfl
@[simp] theorem State.raise_ceWrites (e : FaultEvent) : (s.raise e).ceWrites = s.ceWrites := rfl
@[simp] theorem State.raise_ctWrites (e : FaultEvent) : (s.raise e).ctWrites = s.ctWrites := rfl
@[simp] theorem State.raise_qm (e : FaultEvent) : (s.raise e).qm = s.qm := rfl
@[simp] theorem State.raise_part (e : FaultEvent) : (s.raise e).part = s.part := rfl
@[simp] theorem State.raise_sess (e : FaultEvent) : (s.raise e).sess = s.sess := rfl
@[simp] theorem State.raise_kly (e : FaultEvent) : (s.raise e).kly = s.kly := rfl
@[simp] theorem State.raise_power (e : FaultEvent) : (s.raise e).power = s.power := rfl
@[simp] theorem State.raise_boot (e : FaultEvent) : (s.raise e).boot = s.boot := rfl
@[simp] theorem State.raise_tap (e : FaultEvent) : (s.raise e).tap = s.tap := rfl
@[simp] theorem State.raise_reg (e : FaultEvent) (j : Nat) : (s.raise e).reg j = s.reg j := rfl
@[simp] theorem State.raise_get (e : FaultEvent) (g : Fld) : (s.raise e).get g = s.get g := rfl
@[simp] theorem State.raise_flag (e : FaultEvent) (g : Fld) : (s.raise e).flag g = s.flag g := rfl
-- report
@[simp] theorem State.report_pending (c : Nat) (src : BitVec 16) (i : Nat) : (s.report c src i).pending = s.pending := rfl
@[simp] theorem State.report_regs (c : Nat) (src : BitVec 16) (i : Nat) : (s.report c src i).regs = s.regs := rfl
@[simp] theorem State.report_loHeld (c : Nat) (src : BitVec 16) (i : Nat) : (s.report c src i).loHeld = s.loHeld := rfl
@[simp] theorem State.report_hiSnap (c : Nat) (src : BitVec 16) (i : Nat) : (s.report c src i).hiSnap = s.hiSnap := rfl
@[simp] theorem State.report_rdata (c : Nat) (src : BitVec 16) (i : Nat) : (s.report c src i).rdata = s.rdata := rfl
@[simp] theorem State.report_dram (c : Nat) (src : BitVec 16) (i : Nat) : (s.report c src i).dram = s.dram := rfl
@[simp] theorem State.report_dramBad (c : Nat) (src : BitVec 16) (i : Nat) : (s.report c src i).dramBad = s.dramBad := rfl
@[simp] theorem State.report_mr4 (c : Nat) (src : BitVec 16) (i : Nat) : (s.report c src i).mr4 = s.mr4 := rfl
@[simp] theorem State.report_epoch (c : Nat) (src : BitVec 16) (i : Nat) : (s.report c src i).epoch = s.epoch := rfl
@[simp] theorem State.report_draws (c : Nat) (src : BitVec 16) (i : Nat) : (s.report c src i).draws = s.draws := rfl
@[simp] theorem State.report_emitted (c : Nat) (src : BitVec 16) (i : Nat) : (s.report c src i).emitted = s.emitted := rfl
@[simp] theorem State.report_fuse (c : Nat) (src : BitVec 16) (i : Nat) : (s.report c src i).fuse = s.fuse := rfl
@[simp] theorem State.report_tb (c : Nat) (src : BitVec 16) (i : Nat) : (s.report c src i).tb = s.tb := rfl
@[simp] theorem State.report_pcie (c : Nat) (src : BitVec 16) (i : Nat) : (s.report c src i).pcie = s.pcie := rfl
@[simp] theorem State.report_mill (c : Nat) (src : BitVec 16) (i : Nat) : (s.report c src i).mill = s.mill := rfl
@[simp] theorem State.report_hdg (c : Nat) (src : BitVec 16) (i : Nat) : (s.report c src i).hdg = s.hdg := rfl
@[simp] theorem State.report_veh (c : Nat) (src : BitVec 16) (i : Nat) : (s.report c src i).veh = s.veh := rfl
@[simp] theorem State.report_cores (c : Nat) (src : BitVec 16) (i : Nat) : (s.report c src i).cores = s.cores := rfl
@[simp] theorem State.report_ceWrites (c : Nat) (src : BitVec 16) (i : Nat) : (s.report c src i).ceWrites = s.ceWrites := rfl
@[simp] theorem State.report_ctWrites (c : Nat) (src : BitVec 16) (i : Nat) : (s.report c src i).ctWrites = s.ctWrites := rfl
@[simp] theorem State.report_qm (c : Nat) (src : BitVec 16) (i : Nat) : (s.report c src i).qm = s.qm := rfl
@[simp] theorem State.report_part (c : Nat) (src : BitVec 16) (i : Nat) : (s.report c src i).part = s.part := rfl
@[simp] theorem State.report_sess (c : Nat) (src : BitVec 16) (i : Nat) : (s.report c src i).sess = s.sess := rfl
@[simp] theorem State.report_kly (c : Nat) (src : BitVec 16) (i : Nat) : (s.report c src i).kly = s.kly := rfl
@[simp] theorem State.report_power (c : Nat) (src : BitVec 16) (i : Nat) : (s.report c src i).power = s.power := rfl
@[simp] theorem State.report_boot (c : Nat) (src : BitVec 16) (i : Nat) : (s.report c src i).boot = s.boot := rfl
@[simp] theorem State.report_tap (c : Nat) (src : BitVec 16) (i : Nat) : (s.report c src i).tap = s.tap := rfl
@[simp] theorem State.report_reg (c : Nat) (src : BitVec 16) (i : Nat) (j : Nat) : (s.report c src i).reg j = s.reg j := rfl
@[simp] theorem State.report_get (c : Nat) (src : BitVec 16) (i : Nat) (g : Fld) : (s.report c src i).get g = s.get g := rfl
@[simp] theorem State.report_flag (c : Nat) (src : BitVec 16) (i : Nat) (g : Fld) : (s.report c src i).flag g = s.flag g := rfl
-- jobFault
@[simp] theorem State.jobFault_pending (c : Nat) (src : BitVec 16) (i : Nat) : (s.jobFault c src i).pending = s.pending := rfl
@[simp] theorem State.jobFault_regs (c : Nat) (src : BitVec 16) (i : Nat) : (s.jobFault c src i).regs = s.regs := rfl
@[simp] theorem State.jobFault_loHeld (c : Nat) (src : BitVec 16) (i : Nat) : (s.jobFault c src i).loHeld = s.loHeld := rfl
@[simp] theorem State.jobFault_hiSnap (c : Nat) (src : BitVec 16) (i : Nat) : (s.jobFault c src i).hiSnap = s.hiSnap := rfl
@[simp] theorem State.jobFault_rdata (c : Nat) (src : BitVec 16) (i : Nat) : (s.jobFault c src i).rdata = s.rdata := rfl
@[simp] theorem State.jobFault_dram (c : Nat) (src : BitVec 16) (i : Nat) : (s.jobFault c src i).dram = s.dram := rfl
@[simp] theorem State.jobFault_dramBad (c : Nat) (src : BitVec 16) (i : Nat) : (s.jobFault c src i).dramBad = s.dramBad := rfl
@[simp] theorem State.jobFault_mr4 (c : Nat) (src : BitVec 16) (i : Nat) : (s.jobFault c src i).mr4 = s.mr4 := rfl
@[simp] theorem State.jobFault_epoch (c : Nat) (src : BitVec 16) (i : Nat) : (s.jobFault c src i).epoch = s.epoch := rfl
@[simp] theorem State.jobFault_draws (c : Nat) (src : BitVec 16) (i : Nat) : (s.jobFault c src i).draws = s.draws := rfl
@[simp] theorem State.jobFault_emitted (c : Nat) (src : BitVec 16) (i : Nat) : (s.jobFault c src i).emitted = s.emitted := rfl
@[simp] theorem State.jobFault_fuse (c : Nat) (src : BitVec 16) (i : Nat) : (s.jobFault c src i).fuse = s.fuse := rfl
@[simp] theorem State.jobFault_tb (c : Nat) (src : BitVec 16) (i : Nat) : (s.jobFault c src i).tb = s.tb := rfl
@[simp] theorem State.jobFault_pcie (c : Nat) (src : BitVec 16) (i : Nat) : (s.jobFault c src i).pcie = s.pcie := rfl
@[simp] theorem State.jobFault_mill (c : Nat) (src : BitVec 16) (i : Nat) : (s.jobFault c src i).mill = s.mill := rfl
@[simp] theorem State.jobFault_hdg (c : Nat) (src : BitVec 16) (i : Nat) : (s.jobFault c src i).hdg = s.hdg := rfl
@[simp] theorem State.jobFault_veh (c : Nat) (src : BitVec 16) (i : Nat) : (s.jobFault c src i).veh = s.veh := rfl
@[simp] theorem State.jobFault_cores (c : Nat) (src : BitVec 16) (i : Nat) : (s.jobFault c src i).cores = s.cores := rfl
@[simp] theorem State.jobFault_ceWrites (c : Nat) (src : BitVec 16) (i : Nat) : (s.jobFault c src i).ceWrites = s.ceWrites := rfl
@[simp] theorem State.jobFault_ctWrites (c : Nat) (src : BitVec 16) (i : Nat) : (s.jobFault c src i).ctWrites = s.ctWrites := rfl
@[simp] theorem State.jobFault_qm (c : Nat) (src : BitVec 16) (i : Nat) : (s.jobFault c src i).qm = s.qm := rfl
@[simp] theorem State.jobFault_part (c : Nat) (src : BitVec 16) (i : Nat) : (s.jobFault c src i).part = s.part := rfl
@[simp] theorem State.jobFault_sess (c : Nat) (src : BitVec 16) (i : Nat) : (s.jobFault c src i).sess = s.sess := rfl
@[simp] theorem State.jobFault_kly (c : Nat) (src : BitVec 16) (i : Nat) : (s.jobFault c src i).kly = s.kly := rfl
@[simp] theorem State.jobFault_power (c : Nat) (src : BitVec 16) (i : Nat) : (s.jobFault c src i).power = s.power := rfl
@[simp] theorem State.jobFault_boot (c : Nat) (src : BitVec 16) (i : Nat) : (s.jobFault c src i).boot = s.boot := rfl
@[simp] theorem State.jobFault_tap (c : Nat) (src : BitVec 16) (i : Nat) : (s.jobFault c src i).tap = s.tap := rfl
@[simp] theorem State.jobFault_reg (c : Nat) (src : BitVec 16) (i : Nat) (j : Nat) : (s.jobFault c src i).reg j = s.reg j := rfl
@[simp] theorem State.jobFault_get (c : Nat) (src : BitVec 16) (i : Nat) (g : Fld) : (s.jobFault c src i).get g = s.get g := rfl
@[simp] theorem State.jobFault_flag (c : Nat) (src : BitVec 16) (i : Nat) (g : Fld) : (s.jobFault c src i).flag g = s.flag g := rfl
-- heldFault
@[simp] theorem State.heldFault_pending (c : Nat) (src : BitVec 16) (i : Nat) : (s.heldFault c src i).pending = s.pending := rfl
@[simp] theorem State.heldFault_regs (c : Nat) (src : BitVec 16) (i : Nat) : (s.heldFault c src i).regs = s.regs := rfl
@[simp] theorem State.heldFault_loHeld (c : Nat) (src : BitVec 16) (i : Nat) : (s.heldFault c src i).loHeld = s.loHeld := rfl
@[simp] theorem State.heldFault_hiSnap (c : Nat) (src : BitVec 16) (i : Nat) : (s.heldFault c src i).hiSnap = s.hiSnap := rfl
@[simp] theorem State.heldFault_rdata (c : Nat) (src : BitVec 16) (i : Nat) : (s.heldFault c src i).rdata = s.rdata := rfl
@[simp] theorem State.heldFault_dram (c : Nat) (src : BitVec 16) (i : Nat) : (s.heldFault c src i).dram = s.dram := rfl
@[simp] theorem State.heldFault_dramBad (c : Nat) (src : BitVec 16) (i : Nat) : (s.heldFault c src i).dramBad = s.dramBad := rfl
@[simp] theorem State.heldFault_mr4 (c : Nat) (src : BitVec 16) (i : Nat) : (s.heldFault c src i).mr4 = s.mr4 := rfl
@[simp] theorem State.heldFault_epoch (c : Nat) (src : BitVec 16) (i : Nat) : (s.heldFault c src i).epoch = s.epoch := rfl
@[simp] theorem State.heldFault_draws (c : Nat) (src : BitVec 16) (i : Nat) : (s.heldFault c src i).draws = s.draws := rfl
@[simp] theorem State.heldFault_emitted (c : Nat) (src : BitVec 16) (i : Nat) : (s.heldFault c src i).emitted = s.emitted := rfl
@[simp] theorem State.heldFault_fuse (c : Nat) (src : BitVec 16) (i : Nat) : (s.heldFault c src i).fuse = s.fuse := rfl
@[simp] theorem State.heldFault_tb (c : Nat) (src : BitVec 16) (i : Nat) : (s.heldFault c src i).tb = s.tb := rfl
@[simp] theorem State.heldFault_pcie (c : Nat) (src : BitVec 16) (i : Nat) : (s.heldFault c src i).pcie = s.pcie := rfl
@[simp] theorem State.heldFault_mill (c : Nat) (src : BitVec 16) (i : Nat) : (s.heldFault c src i).mill = s.mill := rfl
@[simp] theorem State.heldFault_hdg (c : Nat) (src : BitVec 16) (i : Nat) : (s.heldFault c src i).hdg = s.hdg := rfl
@[simp] theorem State.heldFault_veh (c : Nat) (src : BitVec 16) (i : Nat) : (s.heldFault c src i).veh = s.veh := rfl
@[simp] theorem State.heldFault_cores (c : Nat) (src : BitVec 16) (i : Nat) : (s.heldFault c src i).cores = s.cores := rfl
@[simp] theorem State.heldFault_ceWrites (c : Nat) (src : BitVec 16) (i : Nat) : (s.heldFault c src i).ceWrites = s.ceWrites := rfl
@[simp] theorem State.heldFault_ctWrites (c : Nat) (src : BitVec 16) (i : Nat) : (s.heldFault c src i).ctWrites = s.ctWrites := rfl
@[simp] theorem State.heldFault_qm (c : Nat) (src : BitVec 16) (i : Nat) : (s.heldFault c src i).qm = s.qm := rfl
@[simp] theorem State.heldFault_part (c : Nat) (src : BitVec 16) (i : Nat) : (s.heldFault c src i).part = s.part := rfl
@[simp] theorem State.heldFault_sess (c : Nat) (src : BitVec 16) (i : Nat) : (s.heldFault c src i).sess = s.sess := rfl
@[simp] theorem State.heldFault_kly (c : Nat) (src : BitVec 16) (i : Nat) : (s.heldFault c src i).kly = s.kly := rfl
@[simp] theorem State.heldFault_power (c : Nat) (src : BitVec 16) (i : Nat) : (s.heldFault c src i).power = s.power := rfl
@[simp] theorem State.heldFault_boot (c : Nat) (src : BitVec 16) (i : Nat) : (s.heldFault c src i).boot = s.boot := rfl
@[simp] theorem State.heldFault_tap (c : Nat) (src : BitVec 16) (i : Nat) : (s.heldFault c src i).tap = s.tap := rfl
@[simp] theorem State.heldFault_reg (c : Nat) (src : BitVec 16) (i : Nat) (j : Nat) : (s.heldFault c src i).reg j = s.reg j := rfl
@[simp] theorem State.heldFault_get (c : Nat) (src : BitVec 16) (i : Nat) (g : Fld) : (s.heldFault c src i).get g = s.get g := rfl
@[simp] theorem State.heldFault_flag (c : Nat) (src : BitVec 16) (i : Nat) (g : Fld) : (s.heldFault c src i).flag g = s.flag g := rfl
-- violation
@[simp] theorem State.violation_pending (c : Nat) (src : BitVec 16) (d : List Byte) : (s.violation c src d).pending = s.pending := rfl
@[simp] theorem State.violation_regs (c : Nat) (src : BitVec 16) (d : List Byte) : (s.violation c src d).regs = s.regs := rfl
@[simp] theorem State.violation_loHeld (c : Nat) (src : BitVec 16) (d : List Byte) : (s.violation c src d).loHeld = s.loHeld := rfl
@[simp] theorem State.violation_hiSnap (c : Nat) (src : BitVec 16) (d : List Byte) : (s.violation c src d).hiSnap = s.hiSnap := rfl
@[simp] theorem State.violation_rdata (c : Nat) (src : BitVec 16) (d : List Byte) : (s.violation c src d).rdata = s.rdata := rfl
@[simp] theorem State.violation_dram (c : Nat) (src : BitVec 16) (d : List Byte) : (s.violation c src d).dram = s.dram := rfl
@[simp] theorem State.violation_dramBad (c : Nat) (src : BitVec 16) (d : List Byte) : (s.violation c src d).dramBad = s.dramBad := rfl
@[simp] theorem State.violation_mr4 (c : Nat) (src : BitVec 16) (d : List Byte) : (s.violation c src d).mr4 = s.mr4 := rfl
@[simp] theorem State.violation_epoch (c : Nat) (src : BitVec 16) (d : List Byte) : (s.violation c src d).epoch = s.epoch := rfl
@[simp] theorem State.violation_draws (c : Nat) (src : BitVec 16) (d : List Byte) : (s.violation c src d).draws = s.draws := rfl
@[simp] theorem State.violation_emitted (c : Nat) (src : BitVec 16) (d : List Byte) : (s.violation c src d).emitted = s.emitted := rfl
@[simp] theorem State.violation_fuse (c : Nat) (src : BitVec 16) (d : List Byte) : (s.violation c src d).fuse = s.fuse := rfl
@[simp] theorem State.violation_tb (c : Nat) (src : BitVec 16) (d : List Byte) : (s.violation c src d).tb = s.tb := rfl
@[simp] theorem State.violation_pcie (c : Nat) (src : BitVec 16) (d : List Byte) : (s.violation c src d).pcie = s.pcie := rfl
@[simp] theorem State.violation_mill (c : Nat) (src : BitVec 16) (d : List Byte) : (s.violation c src d).mill = s.mill := rfl
@[simp] theorem State.violation_hdg (c : Nat) (src : BitVec 16) (d : List Byte) : (s.violation c src d).hdg = s.hdg := rfl
@[simp] theorem State.violation_veh (c : Nat) (src : BitVec 16) (d : List Byte) : (s.violation c src d).veh = s.veh := rfl
@[simp] theorem State.violation_cores (c : Nat) (src : BitVec 16) (d : List Byte) : (s.violation c src d).cores = s.cores := rfl
@[simp] theorem State.violation_ceWrites (c : Nat) (src : BitVec 16) (d : List Byte) : (s.violation c src d).ceWrites = s.ceWrites := rfl
@[simp] theorem State.violation_ctWrites (c : Nat) (src : BitVec 16) (d : List Byte) : (s.violation c src d).ctWrites = s.ctWrites := rfl
@[simp] theorem State.violation_qm (c : Nat) (src : BitVec 16) (d : List Byte) : (s.violation c src d).qm = s.qm := rfl
@[simp] theorem State.violation_part (c : Nat) (src : BitVec 16) (d : List Byte) : (s.violation c src d).part = s.part := rfl
@[simp] theorem State.violation_sess (c : Nat) (src : BitVec 16) (d : List Byte) : (s.violation c src d).sess = s.sess := rfl
@[simp] theorem State.violation_kly (c : Nat) (src : BitVec 16) (d : List Byte) : (s.violation c src d).kly = s.kly := rfl
@[simp] theorem State.violation_power (c : Nat) (src : BitVec 16) (d : List Byte) : (s.violation c src d).power = s.power := rfl
@[simp] theorem State.violation_boot (c : Nat) (src : BitVec 16) (d : List Byte) : (s.violation c src d).boot = s.boot := rfl
@[simp] theorem State.violation_tap (c : Nat) (src : BitVec 16) (d : List Byte) : (s.violation c src d).tap = s.tap := rfl
@[simp] theorem State.violation_reg (c : Nat) (src : BitVec 16) (d : List Byte) (j : Nat) : (s.violation c src d).reg j = s.reg j := rfl
@[simp] theorem State.violation_get (c : Nat) (src : BitVec 16) (d : List Byte) (g : Fld) : (s.violation c src d).get g = s.get g := rfl
@[simp] theorem State.violation_flag (c : Nat) (src : BitVec 16) (d : List Byte) (g : Fld) : (s.violation c src d).flag g = s.flag g := rfl
@[simp] theorem State.emit_emitted (e : Emission) : (s.emit e).emitted = s.emitted ++ [e] := rfl
@[simp] theorem State.drawn_draws : s.drawn.draws = s.draws + 1 := rfl
@[simp] theorem State.drawnN_draws (n : Nat) : (s.drawnN n).draws = s.draws + n := rfl
@[simp] theorem State.raise_reeve (e : FaultEvent) : (s.raise e).reeve = { s.reeve with events := s.reeve.events ++ [e] } := rfl

end Sys2Proof.Machine
end

