-- ==== Sys2Proof/Laws/Evolves.lean ====
section
/-! SUPPORT. How one state may follow another, for the operations that every meaning is made of: the waiting commands and the
fused part stay, the canonical forms are kept, free values and power-on resets only count up. -/

namespace Sys2Proof.Machine

theorem Evolves.refl (s : State) : Evolves s s := ⟨rfl, rfl, rfl, rfl, id, id, Nat.le_refl _, Nat.le_refl _⟩

theorem Evolves.trans {r s t : State} (h : Evolves r s) (g : Evolves s t) : Evolves r t :=
  ⟨g.pending.trans h.pending, g.grade.trans h.grade, g.ae.trans h.ae, g.physOf.trans h.physOf, fun x => g.regs (h.regs x),
    fun x => g.dram (h.dram x), Nat.le_trans h.draws g.draws, Nat.le_trans h.epoch g.epoch⟩

/-- What a meaning answers is a next state that follows the state r. -/
def outEvolves (r : State) : Out → Prop
  | .next t => Evolves r t
  | .fault _ => False
  | .refused _ => False

theorem outEvolves_cases {r : State} {o : Out} (h : outEvolves r o) : ∃ t, o = .next t ∧ Evolves r t := by
  cases o with
  | next t => exact ⟨t, rfl, h⟩
  | fault f => exact h.elim
  | refused f => exact h.elim

theorem outEvolves_next {r t : State} (h : Evolves r t) : outEvolves r (.next t) := h

theorem ev_ite {r a b : State} {c : Prop} [Decidable c] (ha : Evolves r a) (hb : Evolves r b) : Evolves r (if c then a else b) := by
  split <;> assumption

theorem outEvolves_ite {r : State} {a b : Out} {c : Prop} [Decidable c] (ha : outEvolves r a) (hb : outEvolves r b) :
    outEvolves r (if c then a else b) := by
  split <;> assumption

theorem Evolves.of_snd {α : Type} {r t : State} {a : α} {p : α × State} (h : p = (a, t)) (g : Evolves r p.2) : Evolves r t := by
  rw [h] at g; exact g

theorem ev_foldl {α : Type} {r : State} {f : State → α → State} (hf : ∀ x a, Evolves x (f x a)) (l : List α) {s : State}
    (h : Evolves r s) : Evolves r (l.foldl f s) := by
  induction l generalizing s with
  | nil => exact h
  | cons a l ih => exact ih (h.trans (hf s a))

/-- A state that another gives the queue, the registers, the DRAM, the counts and the fuses follows whatever that one follows. -/
theorem ev_with {r x : State} {a1 a2 a3 a4 a5 a6 a7 a8 a9 a10 a11 a12 a13 a14 a15 a16 a17 a18 a19 a20 a21 a22} (h : Evolves r x) :
    Evolves r ⟨x.pending, x.regs, a1, a2, a3, x.dram, a4, a5, x.epoch, x.draws, a6, x.fuse, a7, a8, a9, a10, a11, a12, a13, a14, a15, a16,
      a17, a18, a19, a20, a21, a22⟩ :=
  ⟨h.pending, h.grade, h.ae, h.physOf, h.regs, h.dram, h.draws, h.epoch⟩

theorem ev_setReg {r s : State} (h : Evolves r s) (k : Nat) (v : Word) : Evolves r (s.setReg k v) :=
  ⟨h.pending, h.grade, h.ae, h.physOf, fun x => regsWf_setReg (h.regs x) k v, h.dram, h.draws, h.epoch⟩

theorem ev_drawnN {r s : State} (h : Evolves r s) (n : Nat) : Evolves r (s.drawnN n) :=
  ⟨h.pending, h.grade, h.ae, h.physOf, h.regs, h.dram, Nat.le_trans h.draws (Nat.le_add_right _ _), h.epoch⟩

theorem ev_drawn {r s : State} (h : Evolves r s) : Evolves r s.drawn := ev_drawnN h 1

theorem ev_putBytes {r s : State} (h : Evolves r s) (a : Nat) (bs : List Byte) (d : Tbl Unit) :
    Evolves r { s with dram := putBytes s.dram a bs, dramBad := d } :=
  ⟨h.pending, h.grade, h.ae, h.physOf, h.regs, fun x => wf_putBytes bs a (h.dram x), h.draws, h.epoch⟩

end Sys2Proof.Machine
end

