-- ==== Sys2Proof/Laws/Core.lean ====
section
/-! SUPPORT. What the shared operations of a core do once their instruction is there: slots, gates, faults, queues. -/

namespace Sys2Proof.Machine

-- CORES

@[simp] theorem State.core_setCore_same (s : State) (k : Nat) (c : CoreSt) : (s.setCore k c).core k = c := by
  simp [State.core, State.setCore]

theorem State.core_setCore_ne (s : State) {k i : Nat} (h : i ≠ k) (c : CoreSt) : (s.setCore k c).core i = s.core i := by
  simp [State.core, State.setCore, Tbl.getD_put_ne h]

@[simp] theorem State.reg_setCore (s : State) (k : Nat) (c : CoreSt) (r : Nat) : (s.setCore k c).reg r = s.reg r := rfl

@[simp] theorem State.ramByte_setCore (s : State) (k : Nat) (c : CoreSt) (a : Nat) : (s.setCore k c).ramByte a = s.ramByte a := rfl

@[simp] theorem State.core_setReg (s : State) (r : Nat) (v : Word) (i : Nat) : (s.setReg r v).core i = s.core i := rfl

/-- A core that runs is not frozen. -/
theorem State.runs_thawed {s : State} {k : Nat} (h : s.runs k = true) : (s.core k).frozen = false := by
  simp [State.runs] at h; simp [h]

/-- A fault of a core stops it and raises one job fault. -/
theorem coreFault_stops (s : State) (k : CoreId) (code : Nat) (u : CoreUnit) (info : Nat) :
    CoreStops (.next (s.coreFault k code u info)) s k (s.core k) code [] :=
  ⟨_, _, rfl, by simp [State.coreFault, State.jobFault, State.raise, State.core, State.setCore],
    fun i hi => by simp [State.coreFault, State.jobFault, State.raise, State.core, State.setCore, Tbl.getD_put_ne hi],
    rfl, rfl, rfl, fun _ _ => rfl, fun _ => rfl, rfl⟩

-- SLOTS

/-- The first entry of a list of slots that satisfies a test, by its number. -/
theorem find_numbered {l : List Op} {j : Nat} {o : Op} (p : Nat → Op → Bool) (h : l[j]? = some o) (hp : p j o = true)
    (hf : ∀ i x, i < j → l[i]? = some x → p i x = false) : (numbered l).find? (fun x => p x.1 x.2) = some (j, o) := by
  rw [List.find?_eq_some_iff_getElem]
  have hj : j < l.length := by
    by_contra hc
    simp [List.getElem?_eq_none (by omega : l.length ≤ j)] at h
  have hl : l[j] = o := by simpa [List.getElem?_eq_getElem hj] using h
  refine ⟨hp, j, by simp [numbered, hj], by simp [numbered, hl], fun i hi => ?_⟩
  simp only [numbered, List.getElem_zip, List.getElem_range, Bool.not_eq_true']
  exact hf i _ hi (by simp [List.getElem?_eq_getElem (by omega : i < l.length)])

/-- An instruction of an issued bundle has its effect, and its slot is done where the effect says so. -/
theorem slotOp_ready {s : State} {k : CoreId} {h : Held} {j : Nat} {o : Op} (r : SlotReady s k h j o) (p : Nat → Op → Bool)
    (f : State → Held → Op → Bool × State) (hp : p j o = true) (hf : ∀ i x, i < j → h.todo[i]? = some x → p i x = false) :
    s.slotOp k p f = .next (if (f s h o).1 then (f s h o).2.slotDone k j else (f s h o).2) := by
  have hz := State.runs_thawed r.runs
  have ha : s.advance k = s := by
    simp only [State.advance, State.checkBundle, r.held, r.checked, Bool.true_or, if_true, hz, State.issueBundle]
    have hb : (s.core k).bundle = some h := r.held
    simp [hb, r.checked, r.issued]
  simp [State.slotOp, r.held, find_numbered p r.todo hp hf, r.runs, ha, r.issued, hz]

/-- A slot done, in a state t that differs from s only in registers and in core k, which still holds the bundle h. -/
theorem slotDone_done {s t : State} {k : CoreId} {h : Held} {c : CoreSt} {counts : List Nat} (j : Nat) (hw : Tbl.wf t.regs = true)
    (hc : t.core k = c) (hh : c.bundle = some h) (ho : ∀ i, i ≠ k.val → t.core i = s.core i)
    (hb : ∀ r ∈ counts, t.reg r = (s.bump r).reg r) (hr : keepsRegs s t counts) (hk : kRetired k ∉ counts)
    (ht : t = { s with cores := t.cores, regs := t.regs }) : SlotDone (.next (t.slotDone k j)) s k h j c counts := by
  have hm : keepsRam s t := by intro a; rw [ht]; rfl
  have hb' : t.held k = some h := by simp [State.held, hc, hh]
  constructor
  · intro hn
    have he : ((h.done j).todo.all (· == .nop)) = false := by
      rw [← Bool.not_eq_true]
      simp only [List.any_eq_true, decide_eq_true_eq, List.all_eq_true, beq_iff_eq] at hn ⊢
      obtain ⟨x, hx, hx'⟩ := hn
      exact fun hall => hx' (hall x hx)
    refine ⟨_, rfl, ?_, fun i hi => ?_, fun r hr' => ?_, fun r hr' => ?_, fun a => ?_, ?_⟩ <;>
      simp only [State.slotDone, hb', State.retireBundle, he, State.setHeld, Bool.false_eq_true, if_false]
    · simp [hc]
    · rw [State.core_setCore_ne _ hi, ho i hi]
    · exact hb r hr'
    · exact hr r (by simpa using hr')
    · exact hm a
    · rw [ht]; rfl
  · intro he
    have e : t.slotDone k j = (t.setCore k { c with bundle := none }).wrapUp (kRetired k) := by
      simp only [State.slotDone, hb', State.retireBundle, he, if_true, hc]
    rw [e]
    refine ⟨⟨_, rfl, ?_, fun i hi => ?_, fun r hr' => ?_, fun r hr' => ?_, fun a => ?_, ?_⟩, fun u hu => ?_⟩
    · simp [State.wrapUp]
    · simp [State.wrapUp, State.core_setCore_ne _ hi, ho i hi]
    · have : r ≠ kRetired k := fun h => hk (h ▸ hr')
      simpa [State.wrapUp, State.reg_setReg_ne _ this] using hb r hr'
    · simp only [List.mem_append, List.mem_singleton, not_or] at hr'
      simpa [State.wrapUp, State.reg_setReg_ne _ hr'.2] using hr r hr'.1
    · exact hm a
    · rw [ht]; rfl
    · injection hu with hu
      subst hu
      rw [State.wrapUp, State.reg_setReg_same (t.setCore k _) _ _ hw, State.reg_setCore, hr _ hk]

/-- A state that differs from s in core k alone. -/
theorem slotDone_setCore {s : State} {k : CoreId} {h : Held} (hs : State.Ok s) (j : Nat) (c : CoreSt) (hh : c.bundle = some h) :
    SlotDone (.next ((s.setCore k c).slotDone k j)) s k h j c [] :=
  slotDone_done j (regsWf.wf hs.regs) (by simp) hh (fun i hi => State.core_setCore_ne _ hi _) (by simp) (fun _ _ => rfl) (by simp) rfl

/-- The same with one counter that has counted. -/
theorem slotDone_bump {s : State} {k : CoreId} {h : Held} (hs : State.Ok s) (j : Nat) (c : CoreSt) (hh : c.bundle = some h) (r : Nat)
    (hr : r ≠ kRetired k) : SlotDone (.next (((s.bump r).setCore k c).slotDone k j)) s k h j c [r] :=
  slotDone_done j (regsWf.wf (ev_setReg (Evolves.refl s) r _ |>.regs hs.regs)) (by simp) hh
    (fun i hi => by rw [State.core_setCore_ne _ hi]; rfl) (by intro x hx; simp only [List.mem_singleton] at hx; subst hx; rfl)
    (fun x hx => by simp only [List.mem_singleton] at hx; exact State.reg_setReg_ne _ hx _) (by simpa using hr.symm) rfl

-- THE VECTOR ENGINE

/-- The instruction at the head of VEC's queue, of an OP from lo to hi, no lane of it upset, has its effect f and retires where f completes. -/
theorem vecOp_ready {s : State} {k : CoreId} {q : QEnt} {op d a b p ty x lo hi : Nat} (hq : s.vecHead k = some q) (ho : q.op = .vec op d a b p ty x)
    (hl : lo ≤ op) (hh : op ≤ hi) (f) : s.vecOp k lo hi .clean none f =
      .next (if (f s op d a b p ty x q.vals).1.isSome then (f s op d a b p ty x q.vals).2.setCore k ((f s op d a b p ty x q.vals).2.core k).vecPop
        else (f s op d a b p ty x q.vals).2) := by
  have hn : ¬(op < lo ∨ hi < op) := by omega
  simp only [State.vecOp, hq, ho]
  rw [if_neg (by simpa using hn)]
  rcases hf : f s op d a b p ty x q.vals with ⟨_ | dest, t⟩
  · simp [hf]
  · cases dest <;> simp [hf, State.upsetLane]

end Sys2Proof.Machine
end

