-- ==== Sys2Proof/Laws/Parts.lean ====
section
/-! SUPPORT. What an update of one of the state's parts leaves in every other part. -/

namespace Sys2Proof.Machine

variable (s : State)

-- setTb
@[simp] theorem State.setTb_pending (x : Timebase) : (s.setTb x).pending = s.pending := rfl
@[simp] theorem State.setTb_regs (x : Timebase) : (s.setTb x).regs = s.regs := rfl
@[simp] theorem State.setTb_loHeld (x : Timebase) : (s.setTb x).loHeld = s.loHeld := rfl
@[simp] theorem State.setTb_hiSnap (x : Timebase) : (s.setTb x).hiSnap = s.hiSnap := rfl
@[simp] theorem State.setTb_rdata (x : Timebase) : (s.setTb x).rdata = s.rdata := rfl
@[simp] theorem State.setTb_dram (x : Timebase) : (s.setTb x).dram = s.dram := rfl
@[simp] theorem State.setTb_dramBad (x : Timebase) : (s.setTb x).dramBad = s.dramBad := rfl
@[simp] theorem State.setTb_mr4 (x : Timebase) : (s.setTb x).mr4 = s.mr4 := rfl
@[simp] theorem State.setTb_epoch (x : Timebase) : (s.setTb x).epoch = s.epoch := rfl
@[simp] theorem State.setTb_draws (x : Timebase) : (s.setTb x).draws = s.draws := rfl
@[simp] theorem State.setTb_emitted (x : Timebase) : (s.setTb x).emitted = s.emitted := rfl
@[simp] theorem State.setTb_fuse (x : Timebase) : (s.setTb x).fuse = s.fuse := rfl
@[simp] theorem State.setTb_reeve (x : Timebase) : (s.setTb x).reeve = s.reeve := rfl
@[simp] theorem State.setTb_pcie (x : Timebase) : (s.setTb x).pcie = s.pcie := rfl
@[simp] theorem State.setTb_mill (x : Timebase) : (s.setTb x).mill = s.mill := rfl
@[simp] theorem State.setTb_hdg (x : Timebase) : (s.setTb x).hdg = s.hdg := rfl
@[simp] theorem State.setTb_veh (x : Timebase) : (s.setTb x).veh = s.veh := rfl
@[simp] theorem State.setTb_cores (x : Timebase) : (s.setTb x).cores = s.cores := rfl
@[simp] theorem State.setTb_ceWrites (x : Timebase) : (s.setTb x).ceWrites = s.ceWrites := rfl
@[simp] theorem State.setTb_ctWrites (x : Timebase) : (s.setTb x).ctWrites = s.ctWrites := rfl
@[simp] theorem State.setTb_qm (x : Timebase) : (s.setTb x).qm = s.qm := rfl
@[simp] theorem State.setTb_part (x : Timebase) : (s.setTb x).part = s.part := rfl
@[simp] theorem State.setTb_sess (x : Timebase) : (s.setTb x).sess = s.sess := rfl
@[simp] theorem State.setTb_kly (x : Timebase) : (s.setTb x).kly = s.kly := rfl
@[simp] theorem State.setTb_power (x : Timebase) : (s.setTb x).power = s.power := rfl
@[simp] theorem State.setTb_boot (x : Timebase) : (s.setTb x).boot = s.boot := rfl
@[simp] theorem State.setTb_tap (x : Timebase) : (s.setTb x).tap = s.tap := rfl
@[simp] theorem State.setTb_reg (x : Timebase) (j : Nat) : (s.setTb x).reg j = s.reg j := rfl
@[simp] theorem State.setTb_ramByte (x : Timebase) (a : Nat) : (s.setTb x).ramByte a = s.ramByte a := rfl
-- setReeve
@[simp] theorem State.setReeve_pending (x : Reeve) : (s.setReeve x).pending = s.pending := rfl
@[simp] theorem State.setReeve_regs (x : Reeve) : (s.setReeve x).regs = s.regs := rfl
@[simp] theorem State.setReeve_loHeld (x : Reeve) : (s.setReeve x).loHeld = s.loHeld := rfl
@[simp] theorem State.setReeve_hiSnap (x : Reeve) : (s.setReeve x).hiSnap = s.hiSnap := rfl
@[simp] theorem State.setReeve_rdata (x : Reeve) : (s.setReeve x).rdata = s.rdata := rfl
@[simp] theorem State.setReeve_dram (x : Reeve) : (s.setReeve x).dram = s.dram := rfl
@[simp] theorem State.setReeve_dramBad (x : Reeve) : (s.setReeve x).dramBad = s.dramBad := rfl
@[simp] theorem State.setReeve_mr4 (x : Reeve) : (s.setReeve x).mr4 = s.mr4 := rfl
@[simp] theorem State.setReeve_epoch (x : Reeve) : (s.setReeve x).epoch = s.epoch := rfl
@[simp] theorem State.setReeve_draws (x : Reeve) : (s.setReeve x).draws = s.draws := rfl
@[simp] theorem State.setReeve_emitted (x : Reeve) : (s.setReeve x).emitted = s.emitted := rfl
@[simp] theorem State.setReeve_fuse (x : Reeve) : (s.setReeve x).fuse = s.fuse := rfl
@[simp] theorem State.setReeve_tb (x : Reeve) : (s.setReeve x).tb = s.tb := rfl
@[simp] theorem State.setReeve_pcie (x : Reeve) : (s.setReeve x).pcie = s.pcie := rfl
@[simp] theorem State.setReeve_mill (x : Reeve) : (s.setReeve x).mill = s.mill := rfl
@[simp] theorem State.setReeve_hdg (x : Reeve) : (s.setReeve x).hdg = s.hdg := rfl
@[simp] theorem State.setReeve_veh (x : Reeve) : (s.setReeve x).veh = s.veh := rfl
@[simp] theorem State.setReeve_cores (x : Reeve) : (s.setReeve x).cores = s.cores := rfl
@[simp] theorem State.setReeve_ceWrites (x : Reeve) : (s.setReeve x).ceWrites = s.ceWrites := rfl
@[simp] theorem State.setReeve_ctWrites (x : Reeve) : (s.setReeve x).ctWrites = s.ctWrites := rfl
@[simp] theorem State.setReeve_qm (x : Reeve) : (s.setReeve x).qm = s.qm := rfl
@[simp] theorem State.setReeve_part (x : Reeve) : (s.setReeve x).part = s.part := rfl
@[simp] theorem State.setReeve_sess (x : Reeve) : (s.setReeve x).sess = s.sess := rfl
@[simp] theorem State.setReeve_kly (x : Reeve) : (s.setReeve x).kly = s.kly := rfl
@[simp] theorem State.setReeve_power (x : Reeve) : (s.setReeve x).power = s.power := rfl
@[simp] theorem State.setReeve_boot (x : Reeve) : (s.setReeve x).boot = s.boot := rfl
@[simp] theorem State.setReeve_tap (x : Reeve) : (s.setReeve x).tap = s.tap := rfl
@[simp] theorem State.setReeve_reg (x : Reeve) (j : Nat) : (s.setReeve x).reg j = s.reg j := rfl
@[simp] theorem State.setReeve_ramByte (x : Reeve) (a : Nat) : (s.setReeve x).ramByte a = s.ramByte a := rfl
-- setPcie
@[simp] theorem State.setPcie_pending (x : Pcie) : (s.setPcie x).pending = s.pending := rfl
@[simp] theorem State.setPcie_regs (x : Pcie) : (s.setPcie x).regs = s.regs := rfl
@[simp] theorem State.setPcie_loHeld (x : Pcie) : (s.setPcie x).loHeld = s.loHeld := rfl
@[simp] theorem State.setPcie_hiSnap (x : Pcie) : (s.setPcie x).hiSnap = s.hiSnap := rfl
@[simp] theorem State.setPcie_rdata (x : Pcie) : (s.setPcie x).rdata = s.rdata := rfl
@[simp] theorem State.setPcie_dram (x : Pcie) : (s.setPcie x).dram = s.dram := rfl
@[simp] theorem State.setPcie_dramBad (x : Pcie) : (s.setPcie x).dramBad = s.dramBad := rfl
@[simp] theorem State.setPcie_mr4 (x : Pcie) : (s.setPcie x).mr4 = s.mr4 := rfl
@[simp] theorem State.setPcie_epoch (x : Pcie) : (s.setPcie x).epoch = s.epoch := rfl
@[simp] theorem State.setPcie_draws (x : Pcie) : (s.setPcie x).draws = s.draws := rfl
@[simp] theorem State.setPcie_emitted (x : Pcie) : (s.setPcie x).emitted = s.emitted := rfl
@[simp] theorem State.setPcie_fuse (x : Pcie) : (s.setPcie x).fuse = s.fuse := rfl
@[simp] theorem State.setPcie_tb (x : Pcie) : (s.setPcie x).tb = s.tb := rfl
@[simp] theorem State.setPcie_reeve (x : Pcie) : (s.setPcie x).reeve = s.reeve := rfl
@[simp] theorem State.setPcie_mill (x : Pcie) : (s.setPcie x).mill = s.mill := rfl
@[simp] theorem State.setPcie_hdg (x : Pcie) : (s.setPcie x).hdg = s.hdg := rfl
@[simp] theorem State.setPcie_veh (x : Pcie) : (s.setPcie x).veh = s.veh := rfl
@[simp] theorem State.setPcie_cores (x : Pcie) : (s.setPcie x).cores = s.cores := rfl
@[simp] theorem State.setPcie_ceWrites (x : Pcie) : (s.setPcie x).ceWrites = s.ceWrites := rfl
@[simp] theorem State.setPcie_ctWrites (x : Pcie) : (s.setPcie x).ctWrites = s.ctWrites := rfl
@[simp] theorem State.setPcie_qm (x : Pcie) : (s.setPcie x).qm = s.qm := rfl
@[simp] theorem State.setPcie_part (x : Pcie) : (s.setPcie x).part = s.part := rfl
@[simp] theorem State.setPcie_sess (x : Pcie) : (s.setPcie x).sess = s.sess := rfl
@[simp] theorem State.setPcie_kly (x : Pcie) : (s.setPcie x).kly = s.kly := rfl
@[simp] theorem State.setPcie_power (x : Pcie) : (s.setPcie x).power = s.power := rfl
@[simp] theorem State.setPcie_boot (x : Pcie) : (s.setPcie x).boot = s.boot := rfl
@[simp] theorem State.setPcie_tap (x : Pcie) : (s.setPcie x).tap = s.tap := rfl
@[simp] theorem State.setPcie_reg (x : Pcie) (j : Nat) : (s.setPcie x).reg j = s.reg j := rfl
@[simp] theorem State.setPcie_ramByte (x : Pcie) (a : Nat) : (s.setPcie x).ramByte a = s.ramByte a := rfl
-- setHdg
@[simp] theorem State.setHdg_pending (x : Hedgerow) : (s.setHdg x).pending = s.pending := rfl
@[simp] theorem State.setHdg_regs (x : Hedgerow) : (s.setHdg x).regs = s.regs := rfl
@[simp] theorem State.setHdg_loHeld (x : Hedgerow) : (s.setHdg x).loHeld = s.loHeld := rfl
@[simp] theorem State.setHdg_hiSnap (x : Hedgerow) : (s.setHdg x).hiSnap = s.hiSnap := rfl
@[simp] theorem State.setHdg_rdata (x : Hedgerow) : (s.setHdg x).rdata = s.rdata := rfl
@[simp] theorem State.setHdg_dram (x : Hedgerow) : (s.setHdg x).dram = s.dram := rfl
@[simp] theorem State.setHdg_dramBad (x : Hedgerow) : (s.setHdg x).dramBad = s.dramBad := rfl
@[simp] theorem State.setHdg_mr4 (x : Hedgerow) : (s.setHdg x).mr4 = s.mr4 := rfl
@[simp] theorem State.setHdg_epoch (x : Hedgerow) : (s.setHdg x).epoch = s.epoch := rfl
@[simp] theorem State.setHdg_draws (x : Hedgerow) : (s.setHdg x).draws = s.draws := rfl
@[simp] theorem State.setHdg_emitted (x : Hedgerow) : (s.setHdg x).emitted = s.emitted := rfl
@[simp] theorem State.setHdg_fuse (x : Hedgerow) : (s.setHdg x).fuse = s.fuse := rfl
@[simp] theorem State.setHdg_tb (x : Hedgerow) : (s.setHdg x).tb = s.tb := rfl
@[simp] theorem State.setHdg_reeve (x : Hedgerow) : (s.setHdg x).reeve = s.reeve := rfl
@[simp] theorem State.setHdg_pcie (x : Hedgerow) : (s.setHdg x).pcie = s.pcie := rfl
@[simp] theorem State.setHdg_mill (x : Hedgerow) : (s.setHdg x).mill = s.mill := rfl
@[simp] theorem State.setHdg_veh (x : Hedgerow) : (s.setHdg x).veh = s.veh := rfl
@[simp] theorem State.setHdg_cores (x : Hedgerow) : (s.setHdg x).cores = s.cores := rfl
@[simp] theorem State.setHdg_ceWrites (x : Hedgerow) : (s.setHdg x).ceWrites = s.ceWrites := rfl
@[simp] theorem State.setHdg_ctWrites (x : Hedgerow) : (s.setHdg x).ctWrites = s.ctWrites := rfl
@[simp] theorem State.setHdg_qm (x : Hedgerow) : (s.setHdg x).qm = s.qm := rfl
@[simp] theorem State.setHdg_part (x : Hedgerow) : (s.setHdg x).part = s.part := rfl
@[simp] theorem State.setHdg_sess (x : Hedgerow) : (s.setHdg x).sess = s.sess := rfl
@[simp] theorem State.setHdg_kly (x : Hedgerow) : (s.setHdg x).kly = s.kly := rfl
@[simp] theorem State.setHdg_power (x : Hedgerow) : (s.setHdg x).power = s.power := rfl
@[simp] theorem State.setHdg_boot (x : Hedgerow) : (s.setHdg x).boot = s.boot := rfl
@[simp] theorem State.setHdg_tap (x : Hedgerow) : (s.setHdg x).tap = s.tap := rfl
@[simp] theorem State.setHdg_reg (x : Hedgerow) (j : Nat) : (s.setHdg x).reg j = s.reg j := rfl
@[simp] theorem State.setHdg_ramByte (x : Hedgerow) (a : Nat) : (s.setHdg x).ramByte a = s.ramByte a := rfl
-- setVeh
@[simp] theorem State.setVeh_pending (x : Vehicle) : (s.setVeh x).pending = s.pending := rfl
@[simp] theorem State.setVeh_regs (x : Vehicle) : (s.setVeh x).regs = s.regs := rfl
@[simp] theorem State.setVeh_loHeld (x : Vehicle) : (s.setVeh x).loHeld = s.loHeld := rfl
@[simp] theorem State.setVeh_hiSnap (x : Vehicle) : (s.setVeh x).hiSnap = s.hiSnap := rfl
@[simp] theorem State.setVeh_rdata (x : Vehicle) : (s.setVeh x).rdata = s.rdata := rfl
@[simp] theorem State.setVeh_dram (x : Vehicle) : (s.setVeh x).dram = s.dram := rfl
@[simp] theorem State.setVeh_dramBad (x : Vehicle) : (s.setVeh x).dramBad = s.dramBad := rfl
@[simp] theorem State.setVeh_mr4 (x : Vehicle) : (s.setVeh x).mr4 = s.mr4 := rfl
@[simp] theorem State.setVeh_epoch (x : Vehicle) : (s.setVeh x).epoch = s.epoch := rfl
@[simp] theorem State.setVeh_draws (x : Vehicle) : (s.setVeh x).draws = s.draws := rfl
@[simp] theorem State.setVeh_emitted (x : Vehicle) : (s.setVeh x).emitted = s.emitted := rfl
@[simp] theorem State.setVeh_fuse (x : Vehicle) : (s.setVeh x).fuse = s.fuse := rfl
@[simp] theorem State.setVeh_tb (x : Vehicle) : (s.setVeh x).tb = s.tb := rfl
@[simp] theorem State.setVeh_reeve (x : Vehicle) : (s.setVeh x).reeve = s.reeve := rfl
@[simp] theorem State.setVeh_pcie (x : Vehicle) : (s.setVeh x).pcie = s.pcie := rfl
@[simp] theorem State.setVeh_mill (x : Vehicle) : (s.setVeh x).mill = s.mill := rfl
@[simp] theorem State.setVeh_hdg (x : Vehicle) : (s.setVeh x).hdg = s.hdg := rfl
@[simp] theorem State.setVeh_cores (x : Vehicle) : (s.setVeh x).cores = s.cores := rfl
@[simp] theorem State.setVeh_ceWrites (x : Vehicle) : (s.setVeh x).ceWrites = s.ceWrites := rfl
@[simp] theorem State.setVeh_ctWrites (x : Vehicle) : (s.setVeh x).ctWrites = s.ctWrites := rfl
@[simp] theorem State.setVeh_qm (x : Vehicle) : (s.setVeh x).qm = s.qm := rfl
@[simp] theorem State.setVeh_part (x : Vehicle) : (s.setVeh x).part = s.part := rfl
@[simp] theorem State.setVeh_sess (x : Vehicle) : (s.setVeh x).sess = s.sess := rfl
@[simp] theorem State.setVeh_kly (x : Vehicle) : (s.setVeh x).kly = s.kly := rfl
@[simp] theorem State.setVeh_power (x : Vehicle) : (s.setVeh x).power = s.power := rfl
@[simp] theorem State.setVeh_boot (x : Vehicle) : (s.setVeh x).boot = s.boot := rfl
@[simp] theorem State.setVeh_tap (x : Vehicle) : (s.setVeh x).tap = s.tap := rfl
@[simp] theorem State.setVeh_reg (x : Vehicle) (j : Nat) : (s.setVeh x).reg j = s.reg j := rfl
@[simp] theorem State.setVeh_ramByte (x : Vehicle) (a : Nat) : (s.setVeh x).ramByte a = s.ramByte a := rfl
-- setQm
@[simp] theorem State.setQm_pending (x : Qm) : (s.setQm x).pending = s.pending := rfl
@[simp] theorem State.setQm_regs (x : Qm) : (s.setQm x).regs = s.regs := rfl
@[simp] theorem State.setQm_loHeld (x : Qm) : (s.setQm x).loHeld = s.loHeld := rfl
@[simp] theorem State.setQm_hiSnap (x : Qm) : (s.setQm x).hiSnap = s.hiSnap := rfl
@[simp] theorem State.setQm_rdata (x : Qm) : (s.setQm x).rdata = s.rdata := rfl
@[simp] theorem State.setQm_dram (x : Qm) : (s.setQm x).dram = s.dram := rfl
@[simp] theorem State.setQm_dramBad (x : Qm) : (s.setQm x).dramBad = s.dramBad := rfl
@[simp] theorem State.setQm_mr4 (x : Qm) : (s.setQm x).mr4 = s.mr4 := rfl
@[simp] theorem State.setQm_epoch (x : Qm) : (s.setQm x).epoch = s.epoch := rfl
@[simp] theorem State.setQm_draws (x : Qm) : (s.setQm x).draws = s.draws := rfl
@[simp] theorem State.setQm_emitted (x : Qm) : (s.setQm x).emitted = s.emitted := rfl
@[simp] theorem State.setQm_fuse (x : Qm) : (s.setQm x).fuse = s.fuse := rfl
@[simp] theorem State.setQm_tb (x : Qm) : (s.setQm x).tb = s.tb := rfl
@[simp] theorem State.setQm_reeve (x : Qm) : (s.setQm x).reeve = s.reeve := rfl
@[simp] theorem State.setQm_pcie (x : Qm) : (s.setQm x).pcie = s.pcie := rfl
@[simp] theorem State.setQm_mill (x : Qm) : (s.setQm x).mill = s.mill := rfl
@[simp] theorem State.setQm_hdg (x : Qm) : (s.setQm x).hdg = s.hdg := rfl
@[simp] theorem State.setQm_veh (x : Qm) : (s.setQm x).veh = s.veh := rfl
@[simp] theorem State.setQm_cores (x : Qm) : (s.setQm x).cores = s.cores := rfl
@[simp] theorem State.setQm_ceWrites (x : Qm) : (s.setQm x).ceWrites = s.ceWrites := rfl
@[simp] theorem State.setQm_ctWrites (x : Qm) : (s.setQm x).ctWrites = s.ctWrites := rfl
@[simp] theorem State.setQm_part (x : Qm) : (s.setQm x).part = s.part := rfl
@[simp] theorem State.setQm_sess (x : Qm) : (s.setQm x).sess = s.sess := rfl
@[simp] theorem State.setQm_kly (x : Qm) : (s.setQm x).kly = s.kly := rfl
@[simp] theorem State.setQm_power (x : Qm) : (s.setQm x).power = s.power := rfl
@[simp] theorem State.setQm_boot (x : Qm) : (s.setQm x).boot = s.boot := rfl
@[simp] theorem State.setQm_tap (x : Qm) : (s.setQm x).tap = s.tap := rfl
@[simp] theorem State.setQm_reg (x : Qm) (j : Nat) : (s.setQm x).reg j = s.reg j := rfl
@[simp] theorem State.setQm_ramByte (x : Qm) (a : Nat) : (s.setQm x).ramByte a = s.ramByte a := rfl
-- setPartCtl
@[simp] theorem State.setPartCtl_pending (x : PartCtl) : (s.setPartCtl x).pending = s.pending := rfl
@[simp] theorem State.setPartCtl_regs (x : PartCtl) : (s.setPartCtl x).regs = s.regs := rfl
@[simp] theorem State.setPartCtl_loHeld (x : PartCtl) : (s.setPartCtl x).loHeld = s.loHeld := rfl
@[simp] theorem State.setPartCtl_hiSnap (x : PartCtl) : (s.setPartCtl x).hiSnap = s.hiSnap := rfl
@[simp] theorem State.setPartCtl_rdata (x : PartCtl) : (s.setPartCtl x).rdata = s.rdata := rfl
@[simp] theorem State.setPartCtl_dram (x : PartCtl) : (s.setPartCtl x).dram = s.dram := rfl
@[simp] theorem State.setPartCtl_dramBad (x : PartCtl) : (s.setPartCtl x).dramBad = s.dramBad := rfl
@[simp] theorem State.setPartCtl_mr4 (x : PartCtl) : (s.setPartCtl x).mr4 = s.mr4 := rfl
@[simp] theorem State.setPartCtl_epoch (x : PartCtl) : (s.setPartCtl x).epoch = s.epoch := rfl
@[simp] theorem State.setPartCtl_draws (x : PartCtl) : (s.setPartCtl x).draws = s.draws := rfl
@[simp] theorem State.setPartCtl_emitted (x : PartCtl) : (s.setPartCtl x).emitted = s.emitted := rfl
@[simp] theorem State.setPartCtl_fuse (x : PartCtl) : (s.setPartCtl x).fuse = s.fuse := rfl
@[simp] theorem State.setPartCtl_tb (x : PartCtl) : (s.setPartCtl x).tb = s.tb := rfl
@[simp] theorem State.setPartCtl_reeve (x : PartCtl) : (s.setPartCtl x).reeve = s.reeve := rfl
@[simp] theorem State.setPartCtl_pcie (x : PartCtl) : (s.setPartCtl x).pcie = s.pcie := rfl
@[simp] theorem State.setPartCtl_mill (x : PartCtl) : (s.setPartCtl x).mill = s.mill := rfl
@[simp] theorem State.setPartCtl_hdg (x : PartCtl) : (s.setPartCtl x).hdg = s.hdg := rfl
@[simp] theorem State.setPartCtl_veh (x : PartCtl) : (s.setPartCtl x).veh = s.veh := rfl
@[simp] theorem State.setPartCtl_cores (x : PartCtl) : (s.setPartCtl x).cores = s.cores := rfl
@[simp] theorem State.setPartCtl_ceWrites (x : PartCtl) : (s.setPartCtl x).ceWrites = s.ceWrites := rfl
@[simp] theorem State.setPartCtl_ctWrites (x : PartCtl) : (s.setPartCtl x).ctWrites = s.ctWrites := rfl
@[simp] theorem State.setPartCtl_qm (x : PartCtl) : (s.setPartCtl x).qm = s.qm := rfl
@[simp] theorem State.setPartCtl_sess (x : PartCtl) : (s.setPartCtl x).sess = s.sess := rfl
@[simp] theorem State.setPartCtl_kly (x : PartCtl) : (s.setPartCtl x).kly = s.kly := rfl
@[simp] theorem State.setPartCtl_power (x : PartCtl) : (s.setPartCtl x).power = s.power := rfl
@[simp] theorem State.setPartCtl_boot (x : PartCtl) : (s.setPartCtl x).boot = s.boot := rfl
@[simp] theorem State.setPartCtl_tap (x : PartCtl) : (s.setPartCtl x).tap = s.tap := rfl
@[simp] theorem State.setPartCtl_reg (x : PartCtl) (j : Nat) : (s.setPartCtl x).reg j = s.reg j := rfl
@[simp] theorem State.setPartCtl_ramByte (x : PartCtl) (a : Nat) : (s.setPartCtl x).ramByte a = s.ramByte a := rfl
-- setKly
@[simp] theorem State.setKly_pending (x : Kelyth) : (s.setKly x).pending = s.pending := rfl
@[simp] theorem State.setKly_regs (x : Kelyth) : (s.setKly x).regs = s.regs := rfl
@[simp] theorem State.setKly_loHeld (x : Kelyth) : (s.setKly x).loHeld = s.loHeld := rfl
@[simp] theorem State.setKly_hiSnap (x : Kelyth) : (s.setKly x).hiSnap = s.hiSnap := rfl
@[simp] theorem State.setKly_rdata (x : Kelyth) : (s.setKly x).rdata = s.rdata := rfl
@[simp] theorem State.setKly_dram (x : Kelyth) : (s.setKly x).dram = s.dram := rfl
@[simp] theorem State.setKly_dramBad (x : Kelyth) : (s.setKly x).dramBad = s.dramBad := rfl
@[simp] theorem State.setKly_mr4 (x : Kelyth) : (s.setKly x).mr4 = s.mr4 := rfl
@[simp] theorem State.setKly_epoch (x : Kelyth) : (s.setKly x).epoch = s.epoch := rfl
@[simp] theorem State.setKly_draws (x : Kelyth) : (s.setKly x).draws = s.draws := rfl
@[simp] theorem State.setKly_emitted (x : Kelyth) : (s.setKly x).emitted = s.emitted := rfl
@[simp] theorem State.setKly_fuse (x : Kelyth) : (s.setKly x).fuse = s.fuse := rfl
@[simp] theorem State.setKly_tb (x : Kelyth) : (s.setKly x).tb = s.tb := rfl
@[simp] theorem State.setKly_reeve (x : Kelyth) : (s.setKly x).reeve = s.reeve := rfl
@[simp] theorem State.setKly_pcie (x : Kelyth) : (s.setKly x).pcie = s.pcie := rfl
@[simp] theorem State.setKly_mill (x : Kelyth) : (s.setKly x).mill = s.mill := rfl
@[simp] theorem State.setKly_hdg (x : Kelyth) : (s.setKly x).hdg = s.hdg := rfl
@[simp] theorem State.setKly_veh (x : Kelyth) : (s.setKly x).veh = s.veh := rfl
@[simp] theorem State.setKly_cores (x : Kelyth) : (s.setKly x).cores = s.cores := rfl
@[simp] theorem State.setKly_ceWrites (x : Kelyth) : (s.setKly x).ceWrites = s.ceWrites := rfl
@[simp] theorem State.setKly_ctWrites (x : Kelyth) : (s.setKly x).ctWrites = s.ctWrites := rfl
@[simp] theorem State.setKly_qm (x : Kelyth) : (s.setKly x).qm = s.qm := rfl
@[simp] theorem State.setKly_part (x : Kelyth) : (s.setKly x).part = s.part := rfl
@[simp] theorem State.setKly_sess (x : Kelyth) : (s.setKly x).sess = s.sess := rfl
@[simp] theorem State.setKly_power (x : Kelyth) : (s.setKly x).power = s.power := rfl
@[simp] theorem State.setKly_boot (x : Kelyth) : (s.setKly x).boot = s.boot := rfl
@[simp] theorem State.setKly_tap (x : Kelyth) : (s.setKly x).tap = s.tap := rfl
@[simp] theorem State.setKly_reg (x : Kelyth) (j : Nat) : (s.setKly x).reg j = s.reg j := rfl
@[simp] theorem State.setKly_ramByte (x : Kelyth) (a : Nat) : (s.setKly x).ramByte a = s.ramByte a := rfl
-- setPower
@[simp] theorem State.setPower_pending (x : Power) : (s.setPower x).pending = s.pending := rfl
@[simp] theorem State.setPower_regs (x : Power) : (s.setPower x).regs = s.regs := rfl
@[simp] theorem State.setPower_loHeld (x : Power) : (s.setPower x).loHeld = s.loHeld := rfl
@[simp] theorem State.setPower_hiSnap (x : Power) : (s.setPower x).hiSnap = s.hiSnap := rfl
@[simp] theorem State.setPower_rdata (x : Power) : (s.setPower x).rdata = s.rdata := rfl
@[simp] theorem State.setPower_dram (x : Power) : (s.setPower x).dram = s.dram := rfl
@[simp] theorem State.setPower_dramBad (x : Power) : (s.setPower x).dramBad = s.dramBad := rfl
@[simp] theorem State.setPower_mr4 (x : Power) : (s.setPower x).mr4 = s.mr4 := rfl
@[simp] theorem State.setPower_epoch (x : Power) : (s.setPower x).epoch = s.epoch := rfl
@[simp] theorem State.setPower_draws (x : Power) : (s.setPower x).draws = s.draws := rfl
@[simp] theorem State.setPower_emitted (x : Power) : (s.setPower x).emitted = s.emitted := rfl
@[simp] theorem State.setPower_fuse (x : Power) : (s.setPower x).fuse = s.fuse := rfl
@[simp] theorem State.setPower_tb (x : Power) : (s.setPower x).tb = s.tb := rfl
@[simp] theorem State.setPower_reeve (x : Power) : (s.setPower x).reeve = s.reeve := rfl
@[simp] theorem State.setPower_pcie (x : Power) : (s.setPower x).pcie = s.pcie := rfl
@[simp] theorem State.setPower_mill (x : Power) : (s.setPower x).mill = s.mill := rfl
@[simp] theorem State.setPower_hdg (x : Power) : (s.setPower x).hdg = s.hdg := rfl
@[simp] theorem State.setPower_veh (x : Power) : (s.setPower x).veh = s.veh := rfl
@[simp] theorem State.setPower_cores (x : Power) : (s.setPower x).cores = s.cores := rfl
@[simp] theorem State.setPower_ceWrites (x : Power) : (s.setPower x).ceWrites = s.ceWrites := rfl
@[simp] theorem State.setPower_ctWrites (x : Power) : (s.setPower x).ctWrites = s.ctWrites := rfl
@[simp] theorem State.setPower_qm (x : Power) : (s.setPower x).qm = s.qm := rfl
@[simp] theorem State.setPower_part (x : Power) : (s.setPower x).part = s.part := rfl
@[simp] theorem State.setPower_sess (x : Power) : (s.setPower x).sess = s.sess := rfl
@[simp] theorem State.setPower_kly (x : Power) : (s.setPower x).kly = s.kly := rfl
@[simp] theorem State.setPower_boot (x : Power) : (s.setPower x).boot = s.boot := rfl
@[simp] theorem State.setPower_tap (x : Power) : (s.setPower x).tap = s.tap := rfl
@[simp] theorem State.setPower_reg (x : Power) (j : Nat) : (s.setPower x).reg j = s.reg j := rfl
@[simp] theorem State.setPower_ramByte (x : Power) (a : Nat) : (s.setPower x).ramByte a = s.ramByte a := rfl
-- setBoot
@[simp] theorem State.setBoot_pending (x : Boot) : (s.setBoot x).pending = s.pending := rfl
@[simp] theorem State.setBoot_regs (x : Boot) : (s.setBoot x).regs = s.regs := rfl
@[simp] theorem State.setBoot_loHeld (x : Boot) : (s.setBoot x).loHeld = s.loHeld := rfl
@[simp] theorem State.setBoot_hiSnap (x : Boot) : (s.setBoot x).hiSnap = s.hiSnap := rfl
@[simp] theorem State.setBoot_rdata (x : Boot) : (s.setBoot x).rdata = s.rdata := rfl
@[simp] theorem State.setBoot_dram (x : Boot) : (s.setBoot x).dram = s.dram := rfl
@[simp] theorem State.setBoot_dramBad (x : Boot) : (s.setBoot x).dramBad = s.dramBad := rfl
@[simp] theorem State.setBoot_mr4 (x : Boot) : (s.setBoot x).mr4 = s.mr4 := rfl
@[simp] theorem State.setBoot_epoch (x : Boot) : (s.setBoot x).epoch = s.epoch := rfl
@[simp] theorem State.setBoot_draws (x : Boot) : (s.setBoot x).draws = s.draws := rfl
@[simp] theorem State.setBoot_emitted (x : Boot) : (s.setBoot x).emitted = s.emitted := rfl
@[simp] theorem State.setBoot_fuse (x : Boot) : (s.setBoot x).fuse = s.fuse := rfl
@[simp] theorem State.setBoot_tb (x : Boot) : (s.setBoot x).tb = s.tb := rfl
@[simp] theorem State.setBoot_reeve (x : Boot) : (s.setBoot x).reeve = s.reeve := rfl
@[simp] theorem State.setBoot_pcie (x : Boot) : (s.setBoot x).pcie = s.pcie := rfl
@[simp] theorem State.setBoot_mill (x : Boot) : (s.setBoot x).mill = s.mill := rfl
@[simp] theorem State.setBoot_hdg (x : Boot) : (s.setBoot x).hdg = s.hdg := rfl
@[simp] theorem State.setBoot_veh (x : Boot) : (s.setBoot x).veh = s.veh := rfl
@[simp] theorem State.setBoot_cores (x : Boot) : (s.setBoot x).cores = s.cores := rfl
@[simp] theorem State.setBoot_ceWrites (x : Boot) : (s.setBoot x).ceWrites = s.ceWrites := rfl
@[simp] theorem State.setBoot_ctWrites (x : Boot) : (s.setBoot x).ctWrites = s.ctWrites := rfl
@[simp] theorem State.setBoot_qm (x : Boot) : (s.setBoot x).qm = s.qm := rfl
@[simp] theorem State.setBoot_part (x : Boot) : (s.setBoot x).part = s.part := rfl
@[simp] theorem State.setBoot_sess (x : Boot) : (s.setBoot x).sess = s.sess := rfl
@[simp] theorem State.setBoot_kly (x : Boot) : (s.setBoot x).kly = s.kly := rfl
@[simp] theorem State.setBoot_power (x : Boot) : (s.setBoot x).power = s.power := rfl
@[simp] theorem State.setBoot_tap (x : Boot) : (s.setBoot x).tap = s.tap := rfl
@[simp] theorem State.setBoot_reg (x : Boot) (j : Nat) : (s.setBoot x).reg j = s.reg j := rfl
@[simp] theorem State.setBoot_ramByte (x : Boot) (a : Nat) : (s.setBoot x).ramByte a = s.ramByte a := rfl
-- setCore
@[simp] theorem State.setCore_pending (k : Nat) (x : CoreSt) : (s.setCore k x).pending = s.pending := rfl
@[simp] theorem State.setCore_regs (k : Nat) (x : CoreSt) : (s.setCore k x).regs = s.regs := rfl
@[simp] theorem State.setCore_loHeld (k : Nat) (x : CoreSt) : (s.setCore k x).loHeld = s.loHeld := rfl
@[simp] theorem State.setCore_hiSnap (k : Nat) (x : CoreSt) : (s.setCore k x).hiSnap = s.hiSnap := rfl
@[simp] theorem State.setCore_rdata (k : Nat) (x : CoreSt) : (s.setCore k x).rdata = s.rdata := rfl
@[simp] theorem State.setCore_dram (k : Nat) (x : CoreSt) : (s.setCore k x).dram = s.dram := rfl
@[simp] theorem State.setCore_dramBad (k : Nat) (x : CoreSt) : (s.setCore k x).dramBad = s.dramBad := rfl
@[simp] theorem State.setCore_mr4 (k : Nat) (x : CoreSt) : (s.setCore k x).mr4 = s.mr4 := rfl
@[simp] theorem State.setCore_epoch (k : Nat) (x : CoreSt) : (s.setCore k x).epoch = s.epoch := rfl
@[simp] theorem State.setCore_draws (k : Nat) (x : CoreSt) : (s.setCore k x).draws = s.draws := rfl
@[simp] theorem State.setCore_emitted (k : Nat) (x : CoreSt) : (s.setCore k x).emitted = s.emitted := rfl
@[simp] theorem State.setCore_fuse (k : Nat) (x : CoreSt) : (s.setCore k x).fuse = s.fuse := rfl
@[simp] theorem State.setCore_tb (k : Nat) (x : CoreSt) : (s.setCore k x).tb = s.tb := rfl
@[simp] theorem State.setCore_reeve (k : Nat) (x : CoreSt) : (s.setCore k x).reeve = s.reeve := rfl
@[simp] theorem State.setCore_pcie (k : Nat) (x : CoreSt) : (s.setCore k x).pcie = s.pcie := rfl
@[simp] theorem State.setCore_mill (k : Nat) (x : CoreSt) : (s.setCore k x).mill = s.mill := rfl
@[simp] theorem State.setCore_hdg (k : Nat) (x : CoreSt) : (s.setCore k x).hdg = s.hdg := rfl
@[simp] theorem State.setCore_veh (k : Nat) (x : CoreSt) : (s.setCore k x).veh = s.veh := rfl
@[simp] theorem State.setCore_ceWrites (k : Nat) (x : CoreSt) : (s.setCore k x).ceWrites = s.ceWrites := rfl
@[simp] theorem State.setCore_ctWrites (k : Nat) (x : CoreSt) : (s.setCore k x).ctWrites = s.ctWrites := rfl
@[simp] theorem State.setCore_qm (k : Nat) (x : CoreSt) : (s.setCore k x).qm = s.qm := rfl
@[simp] theorem State.setCore_part (k : Nat) (x : CoreSt) : (s.setCore k x).part = s.part := rfl
@[simp] theorem State.setCore_sess (k : Nat) (x : CoreSt) : (s.setCore k x).sess = s.sess := rfl
@[simp] theorem State.setCore_kly (k : Nat) (x : CoreSt) : (s.setCore k x).kly = s.kly := rfl
@[simp] theorem State.setCore_power (k : Nat) (x : CoreSt) : (s.setCore k x).power = s.power := rfl
@[simp] theorem State.setCore_boot (k : Nat) (x : CoreSt) : (s.setCore k x).boot = s.boot := rfl
@[simp] theorem State.setCore_tap (k : Nat) (x : CoreSt) : (s.setCore k x).tap = s.tap := rfl
@[simp] theorem State.setCore_reg (k : Nat) (x : CoreSt) (j : Nat) : (s.setCore k x).reg j = s.reg j := rfl
@[simp] theorem State.setCore_ramByte (k : Nat) (x : CoreSt) (a : Nat) : (s.setCore k x).ramByte a = s.ramByte a := rfl
-- setStrm
@[simp] theorem State.setStrm_pending (k : Nat) (x : StreamSt) : (s.setStrm k x).pending = s.pending := rfl
@[simp] theorem State.setStrm_regs (k : Nat) (x : StreamSt) : (s.setStrm k x).regs = s.regs := rfl
@[simp] theorem State.setStrm_loHeld (k : Nat) (x : StreamSt) : (s.setStrm k x).loHeld = s.loHeld := rfl
@[simp] theorem State.setStrm_hiSnap (k : Nat) (x : StreamSt) : (s.setStrm k x).hiSnap = s.hiSnap := rfl
@[simp] theorem State.setStrm_rdata (k : Nat) (x : StreamSt) : (s.setStrm k x).rdata = s.rdata := rfl
@[simp] theorem State.setStrm_dram (k : Nat) (x : StreamSt) : (s.setStrm k x).dram = s.dram := rfl
@[simp] theorem State.setStrm_dramBad (k : Nat) (x : StreamSt) : (s.setStrm k x).dramBad = s.dramBad := rfl
@[simp] theorem State.setStrm_mr4 (k : Nat) (x : StreamSt) : (s.setStrm k x).mr4 = s.mr4 := rfl
@[simp] theorem State.setStrm_epoch (k : Nat) (x : StreamSt) : (s.setStrm k x).epoch = s.epoch := rfl
@[simp] theorem State.setStrm_draws (k : Nat) (x : StreamSt) : (s.setStrm k x).draws = s.draws := rfl
@[simp] theorem State.setStrm_emitted (k : Nat) (x : StreamSt) : (s.setStrm k x).emitted = s.emitted := rfl
@[simp] theorem State.setStrm_fuse (k : Nat) (x : StreamSt) : (s.setStrm k x).fuse = s.fuse := rfl
@[simp] theorem State.setStrm_tb (k : Nat) (x : StreamSt) : (s.setStrm k x).tb = s.tb := rfl
@[simp] theorem State.setStrm_reeve (k : Nat) (x : StreamSt) : (s.setStrm k x).reeve = s.reeve := rfl
@[simp] theorem State.setStrm_pcie (k : Nat) (x : StreamSt) : (s.setStrm k x).pcie = s.pcie := rfl
@[simp] theorem State.setStrm_hdg (k : Nat) (x : StreamSt) : (s.setStrm k x).hdg = s.hdg := rfl
@[simp] theorem State.setStrm_veh (k : Nat) (x : StreamSt) : (s.setStrm k x).veh = s.veh := rfl
@[simp] theorem State.setStrm_cores (k : Nat) (x : StreamSt) : (s.setStrm k x).cores = s.cores := rfl
@[simp] theorem State.setStrm_ceWrites (k : Nat) (x : StreamSt) : (s.setStrm k x).ceWrites = s.ceWrites := rfl
@[simp] theorem State.setStrm_ctWrites (k : Nat) (x : StreamSt) : (s.setStrm k x).ctWrites = s.ctWrites := rfl
@[simp] theorem State.setStrm_qm (k : Nat) (x : StreamSt) : (s.setStrm k x).qm = s.qm := rfl
@[simp] theorem State.setStrm_part (k : Nat) (x : StreamSt) : (s.setStrm k x).part = s.part := rfl
@[simp] theorem State.setStrm_sess (k : Nat) (x : StreamSt) : (s.setStrm k x).sess = s.sess := rfl
@[simp] theorem State.setStrm_kly (k : Nat) (x : StreamSt) : (s.setStrm k x).kly = s.kly := rfl
@[simp] theorem State.setStrm_power (k : Nat) (x : StreamSt) : (s.setStrm k x).power = s.power := rfl
@[simp] theorem State.setStrm_boot (k : Nat) (x : StreamSt) : (s.setStrm k x).boot = s.boot := rfl
@[simp] theorem State.setStrm_tap (k : Nat) (x : StreamSt) : (s.setStrm k x).tap = s.tap := rfl
@[simp] theorem State.setStrm_reg (k : Nat) (x : StreamSt) (j : Nat) : (s.setStrm k x).reg j = s.reg j := rfl
@[simp] theorem State.setStrm_ramByte (k : Nat) (x : StreamSt) (a : Nat) : (s.setStrm k x).ramByte a = s.ramByte a := rfl
-- setGrp
@[simp] theorem State.setGrp_pending (g : Nat) (x : GroupSt) : (s.setGrp g x).pending = s.pending := rfl
@[simp] theorem State.setGrp_regs (g : Nat) (x : GroupSt) : (s.setGrp g x).regs = s.regs := rfl
@[simp] theorem State.setGrp_loHeld (g : Nat) (x : GroupSt) : (s.setGrp g x).loHeld = s.loHeld := rfl
@[simp] theorem State.setGrp_hiSnap (g : Nat) (x : GroupSt) : (s.setGrp g x).hiSnap = s.hiSnap := rfl
@[simp] theorem State.setGrp_rdata (g : Nat) (x : GroupSt) : (s.setGrp g x).rdata = s.rdata := rfl
@[simp] theorem State.setGrp_dram (g : Nat) (x : GroupSt) : (s.setGrp g x).dram = s.dram := rfl
@[simp] theorem State.setGrp_dramBad (g : Nat) (x : GroupSt) : (s.setGrp g x).dramBad = s.dramBad := rfl
@[simp] theorem State.setGrp_mr4 (g : Nat) (x : GroupSt) : (s.setGrp g x).mr4 = s.mr4 := rfl
@[simp] theorem State.setGrp_epoch (g : Nat) (x : GroupSt) : (s.setGrp g x).epoch = s.epoch := rfl
@[simp] theorem State.setGrp_draws (g : Nat) (x : GroupSt) : (s.setGrp g x).draws = s.draws := rfl
@[simp] theorem State.setGrp_emitted (g : Nat) (x : GroupSt) : (s.setGrp g x).emitted = s.emitted := rfl
@[simp] theorem State.setGrp_fuse (g : Nat) (x : GroupSt) : (s.setGrp g x).fuse = s.fuse := rfl
@[simp] theorem State.setGrp_tb (g : Nat) (x : GroupSt) : (s.setGrp g x).tb = s.tb := rfl
@[simp] theorem State.setGrp_reeve (g : Nat) (x : GroupSt) : (s.setGrp g x).reeve = s.reeve := rfl
@[simp] theorem State.setGrp_pcie (g : Nat) (x : GroupSt) : (s.setGrp g x).pcie = s.pcie := rfl
@[simp] theorem State.setGrp_hdg (g : Nat) (x : GroupSt) : (s.setGrp g x).hdg = s.hdg := rfl
@[simp] theorem State.setGrp_veh (g : Nat) (x : GroupSt) : (s.setGrp g x).veh = s.veh := rfl
@[simp] theorem State.setGrp_cores (g : Nat) (x : GroupSt) : (s.setGrp g x).cores = s.cores := rfl
@[simp] theorem State.setGrp_ceWrites (g : Nat) (x : GroupSt) : (s.setGrp g x).ceWrites = s.ceWrites := rfl
@[simp] theorem State.setGrp_ctWrites (g : Nat) (x : GroupSt) : (s.setGrp g x).ctWrites = s.ctWrites := rfl
@[simp] theorem State.setGrp_qm (g : Nat) (x : GroupSt) : (s.setGrp g x).qm = s.qm := rfl
@[simp] theorem State.setGrp_part (g : Nat) (x : GroupSt) : (s.setGrp g x).part = s.part := rfl
@[simp] theorem State.setGrp_sess (g : Nat) (x : GroupSt) : (s.setGrp g x).sess = s.sess := rfl
@[simp] theorem State.setGrp_kly (g : Nat) (x : GroupSt) : (s.setGrp g x).kly = s.kly := rfl
@[simp] theorem State.setGrp_power (g : Nat) (x : GroupSt) : (s.setGrp g x).power = s.power := rfl
@[simp] theorem State.setGrp_boot (g : Nat) (x : GroupSt) : (s.setGrp g x).boot = s.boot := rfl
@[simp] theorem State.setGrp_tap (g : Nat) (x : GroupSt) : (s.setGrp g x).tap = s.tap := rfl
@[simp] theorem State.setGrp_reg (g : Nat) (x : GroupSt) (j : Nat) : (s.setGrp g x).reg j = s.reg j := rfl
@[simp] theorem State.setGrp_ramByte (g : Nat) (x : GroupSt) (a : Nat) : (s.setGrp g x).ramByte a = s.ramByte a := rfl
-- setPort
@[simp] theorem State.setPort_pending (p : Nat) (x : PortSt) : (s.setPort p x).pending = s.pending := rfl
@[simp] theorem State.setPort_regs (p : Nat) (x : PortSt) : (s.setPort p x).regs = s.regs := rfl
@[simp] theorem State.setPort_loHeld (p : Nat) (x : PortSt) : (s.setPort p x).loHeld = s.loHeld := rfl
@[simp] theorem State.setPort_hiSnap (p : Nat) (x : PortSt) : (s.setPort p x).hiSnap = s.hiSnap := rfl
@[simp] theorem State.setPort_rdata (p : Nat) (x : PortSt) : (s.setPort p x).rdata = s.rdata := rfl
@[simp] theorem State.setPort_dram (p : Nat) (x : PortSt) : (s.setPort p x).dram = s.dram := rfl
@[simp] theorem State.setPort_dramBad (p : Nat) (x : PortSt) : (s.setPort p x).dramBad = s.dramBad := rfl
@[simp] theorem State.setPort_mr4 (p : Nat) (x : PortSt) : (s.setPort p x).mr4 = s.mr4 := rfl
@[simp] theorem State.setPort_epoch (p : Nat) (x : PortSt) : (s.setPort p x).epoch = s.epoch := rfl
@[simp] theorem State.setPort_draws (p : Nat) (x : PortSt) : (s.setPort p x).draws = s.draws := rfl
@[simp] theorem State.setPort_emitted (p : Nat) (x : PortSt) : (s.setPort p x).emitted = s.emitted := rfl
@[simp] theorem State.setPort_fuse (p : Nat) (x : PortSt) : (s.setPort p x).fuse = s.fuse := rfl
@[simp] theorem State.setPort_tb (p : Nat) (x : PortSt) : (s.setPort p x).tb = s.tb := rfl
@[simp] theorem State.setPort_reeve (p : Nat) (x : PortSt) : (s.setPort p x).reeve = s.reeve := rfl
@[simp] theorem State.setPort_pcie (p : Nat) (x : PortSt) : (s.setPort p x).pcie = s.pcie := rfl
@[simp] theorem State.setPort_hdg (p : Nat) (x : PortSt) : (s.setPort p x).hdg = s.hdg := rfl
@[simp] theorem State.setPort_veh (p : Nat) (x : PortSt) : (s.setPort p x).veh = s.veh := rfl
@[simp] theorem State.setPort_cores (p : Nat) (x : PortSt) : (s.setPort p x).cores = s.cores := rfl
@[simp] theorem State.setPort_ceWrites (p : Nat) (x : PortSt) : (s.setPort p x).ceWrites = s.ceWrites := rfl
@[simp] theorem State.setPort_ctWrites (p : Nat) (x : PortSt) : (s.setPort p x).ctWrites = s.ctWrites := rfl
@[simp] theorem State.setPort_qm (p : Nat) (x : PortSt) : (s.setPort p x).qm = s.qm := rfl
@[simp] theorem State.setPort_part (p : Nat) (x : PortSt) : (s.setPort p x).part = s.part := rfl
@[simp] theorem State.setPort_sess (p : Nat) (x : PortSt) : (s.setPort p x).sess = s.sess := rfl
@[simp] theorem State.setPort_kly (p : Nat) (x : PortSt) : (s.setPort p x).kly = s.kly := rfl
@[simp] theorem State.setPort_power (p : Nat) (x : PortSt) : (s.setPort p x).power = s.power := rfl
@[simp] theorem State.setPort_boot (p : Nat) (x : PortSt) : (s.setPort p x).boot = s.boot := rfl
@[simp] theorem State.setPort_tap (p : Nat) (x : PortSt) : (s.setPort p x).tap = s.tap := rfl
@[simp] theorem State.setPort_reg (p : Nat) (x : PortSt) (j : Nat) : (s.setPort p x).reg j = s.reg j := rfl
@[simp] theorem State.setPort_ramByte (p : Nat) (x : PortSt) (a : Nat) : (s.setPort p x).ramByte a = s.ramByte a := rfl
-- setQueue
@[simp] theorem State.setQueue_pending (q : Nat) (x : QueueSt) : (s.setQueue q x).pending = s.pending := rfl
@[simp] theorem State.setQueue_regs (q : Nat) (x : QueueSt) : (s.setQueue q x).regs = s.regs := rfl
@[simp] theorem State.setQueue_loHeld (q : Nat) (x : QueueSt) : (s.setQueue q x).loHeld = s.loHeld := rfl
@[simp] theorem State.setQueue_hiSnap (q : Nat) (x : QueueSt) : (s.setQueue q x).hiSnap = s.hiSnap := rfl
@[simp] theorem State.setQueue_rdata (q : Nat) (x : QueueSt) : (s.setQueue q x).rdata = s.rdata := rfl
@[simp] theorem State.setQueue_dram (q : Nat) (x : QueueSt) : (s.setQueue q x).dram = s.dram := rfl
@[simp] theorem State.setQueue_dramBad (q : Nat) (x : QueueSt) : (s.setQueue q x).dramBad = s.dramBad := rfl
@[simp] theorem State.setQueue_mr4 (q : Nat) (x : QueueSt) : (s.setQueue q x).mr4 = s.mr4 := rfl
@[simp] theorem State.setQueue_epoch (q : Nat) (x : QueueSt) : (s.setQueue q x).epoch = s.epoch := rfl
@[simp] theorem State.setQueue_draws (q : Nat) (x : QueueSt) : (s.setQueue q x).draws = s.draws := rfl
@[simp] theorem State.setQueue_emitted (q : Nat) (x : QueueSt) : (s.setQueue q x).emitted = s.emitted := rfl
@[simp] theorem State.setQueue_fuse (q : Nat) (x : QueueSt) : (s.setQueue q x).fuse = s.fuse := rfl
@[simp] theorem State.setQueue_tb (q : Nat) (x : QueueSt) : (s.setQueue q x).tb = s.tb := rfl
@[simp] theorem State.setQueue_reeve (q : Nat) (x : QueueSt) : (s.setQueue q x).reeve = s.reeve := rfl
@[simp] theorem State.setQueue_pcie (q : Nat) (x : QueueSt) : (s.setQueue q x).pcie = s.pcie := rfl
@[simp] theorem State.setQueue_mill (q : Nat) (x : QueueSt) : (s.setQueue q x).mill = s.mill := rfl
@[simp] theorem State.setQueue_hdg (q : Nat) (x : QueueSt) : (s.setQueue q x).hdg = s.hdg := rfl
@[simp] theorem State.setQueue_veh (q : Nat) (x : QueueSt) : (s.setQueue q x).veh = s.veh := rfl
@[simp] theorem State.setQueue_cores (q : Nat) (x : QueueSt) : (s.setQueue q x).cores = s.cores := rfl
@[simp] theorem State.setQueue_ceWrites (q : Nat) (x : QueueSt) : (s.setQueue q x).ceWrites = s.ceWrites := rfl
@[simp] theorem State.setQueue_ctWrites (q : Nat) (x : QueueSt) : (s.setQueue q x).ctWrites = s.ctWrites := rfl
@[simp] theorem State.setQueue_part (q : Nat) (x : QueueSt) : (s.setQueue q x).part = s.part := rfl
@[simp] theorem State.setQueue_sess (q : Nat) (x : QueueSt) : (s.setQueue q x).sess = s.sess := rfl
@[simp] theorem State.setQueue_kly (q : Nat) (x : QueueSt) : (s.setQueue q x).kly = s.kly := rfl
@[simp] theorem State.setQueue_power (q : Nat) (x : QueueSt) : (s.setQueue q x).power = s.power := rfl
@[simp] theorem State.setQueue_boot (q : Nat) (x : QueueSt) : (s.setQueue q x).boot = s.boot := rfl
@[simp] theorem State.setQueue_tap (q : Nat) (x : QueueSt) : (s.setQueue q x).tap = s.tap := rfl
@[simp] theorem State.setQueue_reg (q : Nat) (x : QueueSt) (j : Nat) : (s.setQueue q x).reg j = s.reg j := rfl
@[simp] theorem State.setQueue_ramByte (q : Nat) (x : QueueSt) (a : Nat) : (s.setQueue q x).ramByte a = s.ramByte a := rfl
-- setDt
@[simp] theorem State.setDt_pending (i : Nat) (x : DtEnt) : (s.setDt i x).pending = s.pending := rfl
@[simp] theorem State.setDt_regs (i : Nat) (x : DtEnt) : (s.setDt i x).regs = s.regs := rfl
@[simp] theorem State.setDt_loHeld (i : Nat) (x : DtEnt) : (s.setDt i x).loHeld = s.loHeld := rfl
@[simp] theorem State.setDt_hiSnap (i : Nat) (x : DtEnt) : (s.setDt i x).hiSnap = s.hiSnap := rfl
@[simp] theorem State.setDt_rdata (i : Nat) (x : DtEnt) : (s.setDt i x).rdata = s.rdata := rfl
@[simp] theorem State.setDt_dram (i : Nat) (x : DtEnt) : (s.setDt i x).dram = s.dram := rfl
@[simp] theorem State.setDt_dramBad (i : Nat) (x : DtEnt) : (s.setDt i x).dramBad = s.dramBad := rfl
@[simp] theorem State.setDt_mr4 (i : Nat) (x : DtEnt) : (s.setDt i x).mr4 = s.mr4 := rfl
@[simp] theorem State.setDt_epoch (i : Nat) (x : DtEnt) : (s.setDt i x).epoch = s.epoch := rfl
@[simp] theorem State.setDt_draws (i : Nat) (x : DtEnt) : (s.setDt i x).draws = s.draws := rfl
@[simp] theorem State.setDt_emitted (i : Nat) (x : DtEnt) : (s.setDt i x).emitted = s.emitted := rfl
@[simp] theorem State.setDt_fuse (i : Nat) (x : DtEnt) : (s.setDt i x).fuse = s.fuse := rfl
@[simp] theorem State.setDt_tb (i : Nat) (x : DtEnt) : (s.setDt i x).tb = s.tb := rfl
@[simp] theorem State.setDt_reeve (i : Nat) (x : DtEnt) : (s.setDt i x).reeve = s.reeve := rfl
@[simp] theorem State.setDt_pcie (i : Nat) (x : DtEnt) : (s.setDt i x).pcie = s.pcie := rfl
@[simp] theorem State.setDt_mill (i : Nat) (x : DtEnt) : (s.setDt i x).mill = s.mill := rfl
@[simp] theorem State.setDt_hdg (i : Nat) (x : DtEnt) : (s.setDt i x).hdg = s.hdg := rfl
@[simp] theorem State.setDt_veh (i : Nat) (x : DtEnt) : (s.setDt i x).veh = s.veh := rfl
@[simp] theorem State.setDt_cores (i : Nat) (x : DtEnt) : (s.setDt i x).cores = s.cores := rfl
@[simp] theorem State.setDt_ceWrites (i : Nat) (x : DtEnt) : (s.setDt i x).ceWrites = s.ceWrites := rfl
@[simp] theorem State.setDt_ctWrites (i : Nat) (x : DtEnt) : (s.setDt i x).ctWrites = s.ctWrites := rfl
@[simp] theorem State.setDt_part (i : Nat) (x : DtEnt) : (s.setDt i x).part = s.part := rfl
@[simp] theorem State.setDt_sess (i : Nat) (x : DtEnt) : (s.setDt i x).sess = s.sess := rfl
@[simp] theorem State.setDt_kly (i : Nat) (x : DtEnt) : (s.setDt i x).kly = s.kly := rfl
@[simp] theorem State.setDt_power (i : Nat) (x : DtEnt) : (s.setDt i x).power = s.power := rfl
@[simp] theorem State.setDt_boot (i : Nat) (x : DtEnt) : (s.setDt i x).boot = s.boot := rfl
@[simp] theorem State.setDt_tap (i : Nat) (x : DtEnt) : (s.setDt i x).tap = s.tap := rfl
@[simp] theorem State.setDt_reg (i : Nat) (x : DtEnt) (j : Nat) : (s.setDt i x).reg j = s.reg j := rfl
@[simp] theorem State.setDt_ramByte (i : Nat) (x : DtEnt) (a : Nat) : (s.setDt i x).ramByte a = s.ramByte a := rfl
-- setSlot
@[simp] theorem State.setSlot_pending (k : Nat) (x : CtSlot) : (s.setSlot k x).pending = s.pending := rfl
@[simp] theorem State.setSlot_regs (k : Nat) (x : CtSlot) : (s.setSlot k x).regs = s.regs := rfl
@[simp] theorem State.setSlot_loHeld (k : Nat) (x : CtSlot) : (s.setSlot k x).loHeld = s.loHeld := rfl
@[simp] theorem State.setSlot_hiSnap (k : Nat) (x : CtSlot) : (s.setSlot k x).hiSnap = s.hiSnap := rfl
@[simp] theorem State.setSlot_rdata (k : Nat) (x : CtSlot) : (s.setSlot k x).rdata = s.rdata := rfl
@[simp] theorem State.setSlot_dram (k : Nat) (x : CtSlot) : (s.setSlot k x).dram = s.dram := rfl
@[simp] theorem State.setSlot_dramBad (k : Nat) (x : CtSlot) : (s.setSlot k x).dramBad = s.dramBad := rfl
@[simp] theorem State.setSlot_mr4 (k : Nat) (x : CtSlot) : (s.setSlot k x).mr4 = s.mr4 := rfl
@[simp] theorem State.setSlot_epoch (k : Nat) (x : CtSlot) : (s.setSlot k x).epoch = s.epoch := rfl
@[simp] theorem State.setSlot_draws (k : Nat) (x : CtSlot) : (s.setSlot k x).draws = s.draws := rfl
@[simp] theorem State.setSlot_emitted (k : Nat) (x : CtSlot) : (s.setSlot k x).emitted = s.emitted := rfl
@[simp] theorem State.setSlot_fuse (k : Nat) (x : CtSlot) : (s.setSlot k x).fuse = s.fuse := rfl
@[simp] theorem State.setSlot_tb (k : Nat) (x : CtSlot) : (s.setSlot k x).tb = s.tb := rfl
@[simp] theorem State.setSlot_reeve (k : Nat) (x : CtSlot) : (s.setSlot k x).reeve = s.reeve := rfl
@[simp] theorem State.setSlot_pcie (k : Nat) (x : CtSlot) : (s.setSlot k x).pcie = s.pcie := rfl
@[simp] theorem State.setSlot_mill (k : Nat) (x : CtSlot) : (s.setSlot k x).mill = s.mill := rfl
@[simp] theorem State.setSlot_hdg (k : Nat) (x : CtSlot) : (s.setSlot k x).hdg = s.hdg := rfl
@[simp] theorem State.setSlot_veh (k : Nat) (x : CtSlot) : (s.setSlot k x).veh = s.veh := rfl
@[simp] theorem State.setSlot_cores (k : Nat) (x : CtSlot) : (s.setSlot k x).cores = s.cores := rfl
@[simp] theorem State.setSlot_ceWrites (k : Nat) (x : CtSlot) : (s.setSlot k x).ceWrites = s.ceWrites := rfl
@[simp] theorem State.setSlot_ctWrites (k : Nat) (x : CtSlot) : (s.setSlot k x).ctWrites = s.ctWrites := rfl
@[simp] theorem State.setSlot_part (k : Nat) (x : CtSlot) : (s.setSlot k x).part = s.part := rfl
@[simp] theorem State.setSlot_sess (k : Nat) (x : CtSlot) : (s.setSlot k x).sess = s.sess := rfl
@[simp] theorem State.setSlot_kly (k : Nat) (x : CtSlot) : (s.setSlot k x).kly = s.kly := rfl
@[simp] theorem State.setSlot_power (k : Nat) (x : CtSlot) : (s.setSlot k x).power = s.power := rfl
@[simp] theorem State.setSlot_boot (k : Nat) (x : CtSlot) : (s.setSlot k x).boot = s.boot := rfl
@[simp] theorem State.setSlot_tap (k : Nat) (x : CtSlot) : (s.setSlot k x).tap = s.tap := rfl
@[simp] theorem State.setSlot_reg (k : Nat) (x : CtSlot) (j : Nat) : (s.setSlot k x).reg j = s.reg j := rfl
@[simp] theorem State.setSlot_ramByte (k : Nat) (x : CtSlot) (a : Nat) : (s.setSlot k x).ramByte a = s.ramByte a := rfl
-- setKport
@[simp] theorem State.setKport_pending (i : Nat) (x : KPort) : (s.setKport i x).pending = s.pending := rfl
@[simp] theorem State.setKport_regs (i : Nat) (x : KPort) : (s.setKport i x).regs = s.regs := rfl
@[simp] theorem State.setKport_loHeld (i : Nat) (x : KPort) : (s.setKport i x).loHeld = s.loHeld := rfl
@[simp] theorem State.setKport_hiSnap (i : Nat) (x : KPort) : (s.setKport i x).hiSnap = s.hiSnap := rfl
@[simp] theorem State.setKport_rdata (i : Nat) (x : KPort) : (s.setKport i x).rdata = s.rdata := rfl
@[simp] theorem State.setKport_dram (i : Nat) (x : KPort) : (s.setKport i x).dram = s.dram := rfl
@[simp] theorem State.setKport_dramBad (i : Nat) (x : KPort) : (s.setKport i x).dramBad = s.dramBad := rfl
@[simp] theorem State.setKport_mr4 (i : Nat) (x : KPort) : (s.setKport i x).mr4 = s.mr4 := rfl
@[simp] theorem State.setKport_epoch (i : Nat) (x : KPort) : (s.setKport i x).epoch = s.epoch := rfl
@[simp] theorem State.setKport_draws (i : Nat) (x : KPort) : (s.setKport i x).draws = s.draws := rfl
@[simp] theorem State.setKport_emitted (i : Nat) (x : KPort) : (s.setKport i x).emitted = s.emitted := rfl
@[simp] theorem State.setKport_fuse (i : Nat) (x : KPort) : (s.setKport i x).fuse = s.fuse := rfl
@[simp] theorem State.setKport_tb (i : Nat) (x : KPort) : (s.setKport i x).tb = s.tb := rfl
@[simp] theorem State.setKport_reeve (i : Nat) (x : KPort) : (s.setKport i x).reeve = s.reeve := rfl
@[simp] theorem State.setKport_pcie (i : Nat) (x : KPort) : (s.setKport i x).pcie = s.pcie := rfl
@[simp] theorem State.setKport_mill (i : Nat) (x : KPort) : (s.setKport i x).mill = s.mill := rfl
@[simp] theorem State.setKport_hdg (i : Nat) (x : KPort) : (s.setKport i x).hdg = s.hdg := rfl
@[simp] theorem State.setKport_veh (i : Nat) (x : KPort) : (s.setKport i x).veh = s.veh := rfl
@[simp] theorem State.setKport_cores (i : Nat) (x : KPort) : (s.setKport i x).cores = s.cores := rfl
@[simp] theorem State.setKport_ceWrites (i : Nat) (x : KPort) : (s.setKport i x).ceWrites = s.ceWrites := rfl
@[simp] theorem State.setKport_ctWrites (i : Nat) (x : KPort) : (s.setKport i x).ctWrites = s.ctWrites := rfl
@[simp] theorem State.setKport_qm (i : Nat) (x : KPort) : (s.setKport i x).qm = s.qm := rfl
@[simp] theorem State.setKport_part (i : Nat) (x : KPort) : (s.setKport i x).part = s.part := rfl
@[simp] theorem State.setKport_sess (i : Nat) (x : KPort) : (s.setKport i x).sess = s.sess := rfl
@[simp] theorem State.setKport_power (i : Nat) (x : KPort) : (s.setKport i x).power = s.power := rfl
@[simp] theorem State.setKport_boot (i : Nat) (x : KPort) : (s.setKport i x).boot = s.boot := rfl
@[simp] theorem State.setKport_tap (i : Nat) (x : KPort) : (s.setKport i x).tap = s.tap := rfl
@[simp] theorem State.setKport_reg (i : Nat) (x : KPort) (j : Nat) : (s.setKport i x).reg j = s.reg j := rfl
@[simp] theorem State.setKport_ramByte (i : Nat) (x : KPort) (a : Nat) : (s.setKport i x).ramByte a = s.ramByte a := rfl
-- setFiring
@[simp] theorem State.setFiring_pending (t : Nat) (x : Firing) : (s.setFiring t x).pending = s.pending := rfl
@[simp] theorem State.setFiring_regs (t : Nat) (x : Firing) : (s.setFiring t x).regs = s.regs := rfl
@[simp] theorem State.setFiring_loHeld (t : Nat) (x : Firing) : (s.setFiring t x).loHeld = s.loHeld := rfl
@[simp] theorem State.setFiring_hiSnap (t : Nat) (x : Firing) : (s.setFiring t x).hiSnap = s.hiSnap := rfl
@[simp] theorem State.setFiring_rdata (t : Nat) (x : Firing) : (s.setFiring t x).rdata = s.rdata := rfl
@[simp] theorem State.setFiring_dram (t : Nat) (x : Firing) : (s.setFiring t x).dram = s.dram := rfl
@[simp] theorem State.setFiring_dramBad (t : Nat) (x : Firing) : (s.setFiring t x).dramBad = s.dramBad := rfl
@[simp] theorem State.setFiring_mr4 (t : Nat) (x : Firing) : (s.setFiring t x).mr4 = s.mr4 := rfl
@[simp] theorem State.setFiring_epoch (t : Nat) (x : Firing) : (s.setFiring t x).epoch = s.epoch := rfl
@[simp] theorem State.setFiring_draws (t : Nat) (x : Firing) : (s.setFiring t x).draws = s.draws := rfl
@[simp] theorem State.setFiring_emitted (t : Nat) (x : Firing) : (s.setFiring t x).emitted = s.emitted := rfl
@[simp] theorem State.setFiring_fuse (t : Nat) (x : Firing) : (s.setFiring t x).fuse = s.fuse := rfl
@[simp] theorem State.setFiring_tb (t : Nat) (x : Firing) : (s.setFiring t x).tb = s.tb := rfl
@[simp] theorem State.setFiring_reeve (t : Nat) (x : Firing) : (s.setFiring t x).reeve = s.reeve := rfl
@[simp] theorem State.setFiring_pcie (t : Nat) (x : Firing) : (s.setFiring t x).pcie = s.pcie := rfl
@[simp] theorem State.setFiring_mill (t : Nat) (x : Firing) : (s.setFiring t x).mill = s.mill := rfl
@[simp] theorem State.setFiring_hdg (t : Nat) (x : Firing) : (s.setFiring t x).hdg = s.hdg := rfl
@[simp] theorem State.setFiring_veh (t : Nat) (x : Firing) : (s.setFiring t x).veh = s.veh := rfl
@[simp] theorem State.setFiring_cores (t : Nat) (x : Firing) : (s.setFiring t x).cores = s.cores := rfl
@[simp] theorem State.setFiring_ceWrites (t : Nat) (x : Firing) : (s.setFiring t x).ceWrites = s.ceWrites := rfl
@[simp] theorem State.setFiring_ctWrites (t : Nat) (x : Firing) : (s.setFiring t x).ctWrites = s.ctWrites := rfl
@[simp] theorem State.setFiring_qm (t : Nat) (x : Firing) : (s.setFiring t x).qm = s.qm := rfl
@[simp] theorem State.setFiring_part (t : Nat) (x : Firing) : (s.setFiring t x).part = s.part := rfl
@[simp] theorem State.setFiring_sess (t : Nat) (x : Firing) : (s.setFiring t x).sess = s.sess := rfl
@[simp] theorem State.setFiring_power (t : Nat) (x : Firing) : (s.setFiring t x).power = s.power := rfl
@[simp] theorem State.setFiring_boot (t : Nat) (x : Firing) : (s.setFiring t x).boot = s.boot := rfl
@[simp] theorem State.setFiring_tap (t : Nat) (x : Firing) : (s.setFiring t x).tap = s.tap := rfl
@[simp] theorem State.setFiring_reg (t : Nat) (x : Firing) (j : Nat) : (s.setFiring t x).reg j = s.reg j := rfl
@[simp] theorem State.setFiring_ramByte (t : Nat) (x : Firing) (a : Nat) : (s.setFiring t x).ramByte a = s.ramByte a := rfl
-- setSession
@[simp] theorem State.setSession_pending (p : Nat) (x : Sess) : (s.setSession p x).pending = s.pending := rfl
@[simp] theorem State.setSession_regs (p : Nat) (x : Sess) : (s.setSession p x).regs = s.regs := rfl
@[simp] theorem State.setSession_loHeld (p : Nat) (x : Sess) : (s.setSession p x).loHeld = s.loHeld := rfl
@[simp] theorem State.setSession_hiSnap (p : Nat) (x : Sess) : (s.setSession p x).hiSnap = s.hiSnap := rfl
@[simp] theorem State.setSession_rdata (p : Nat) (x : Sess) : (s.setSession p x).rdata = s.rdata := rfl
@[simp] theorem State.setSession_dram (p : Nat) (x : Sess) : (s.setSession p x).dram = s.dram := rfl
@[simp] theorem State.setSession_dramBad (p : Nat) (x : Sess) : (s.setSession p x).dramBad = s.dramBad := rfl
@[simp] theorem State.setSession_mr4 (p : Nat) (x : Sess) : (s.setSession p x).mr4 = s.mr4 := rfl
@[simp] theorem State.setSession_epoch (p : Nat) (x : Sess) : (s.setSession p x).epoch = s.epoch := rfl
@[simp] theorem State.setSession_draws (p : Nat) (x : Sess) : (s.setSession p x).draws = s.draws := rfl
@[simp] theorem State.setSession_emitted (p : Nat) (x : Sess) : (s.setSession p x).emitted = s.emitted := rfl
@[simp] theorem State.setSession_fuse (p : Nat) (x : Sess) : (s.setSession p x).fuse = s.fuse := rfl
@[simp] theorem State.setSession_tb (p : Nat) (x : Sess) : (s.setSession p x).tb = s.tb := rfl
@[simp] theorem State.setSession_reeve (p : Nat) (x : Sess) : (s.setSession p x).reeve = s.reeve := rfl
@[simp] theorem State.setSession_pcie (p : Nat) (x : Sess) : (s.setSession p x).pcie = s.pcie := rfl
@[simp] theorem State.setSession_mill (p : Nat) (x : Sess) : (s.setSession p x).mill = s.mill := rfl
@[simp] theorem State.setSession_hdg (p : Nat) (x : Sess) : (s.setSession p x).hdg = s.hdg := rfl
@[simp] theorem State.setSession_veh (p : Nat) (x : Sess) : (s.setSession p x).veh = s.veh := rfl
@[simp] theorem State.setSession_cores (p : Nat) (x : Sess) : (s.setSession p x).cores = s.cores := rfl
@[simp] theorem State.setSession_ceWrites (p : Nat) (x : Sess) : (s.setSession p x).ceWrites = s.ceWrites := rfl
@[simp] theorem State.setSession_ctWrites (p : Nat) (x : Sess) : (s.setSession p x).ctWrites = s.ctWrites := rfl
@[simp] theorem State.setSession_qm (p : Nat) (x : Sess) : (s.setSession p x).qm = s.qm := rfl
@[simp] theorem State.setSession_part (p : Nat) (x : Sess) : (s.setSession p x).part = s.part := rfl
@[simp] theorem State.setSession_kly (p : Nat) (x : Sess) : (s.setSession p x).kly = s.kly := rfl
@[simp] theorem State.setSession_power (p : Nat) (x : Sess) : (s.setSession p x).power = s.power := rfl
@[simp] theorem State.setSession_boot (p : Nat) (x : Sess) : (s.setSession p x).boot = s.boot := rfl
@[simp] theorem State.setSession_tap (p : Nat) (x : Sess) : (s.setSession p x).tap = s.tap := rfl
@[simp] theorem State.setSession_reg (p : Nat) (x : Sess) (j : Nat) : (s.setSession p x).reg j = s.reg j := rfl
@[simp] theorem State.setSession_ramByte (p : Nat) (x : Sess) (a : Nat) : (s.setSession p x).ramByte a = s.ramByte a := rfl
-- setFn
@[simp] theorem State.setFn_pending (f : Nat) (x : FnCfg) : (s.setFn f x).pending = s.pending := rfl
@[simp] theorem State.setFn_regs (f : Nat) (x : FnCfg) : (s.setFn f x).regs = s.regs := rfl
@[simp] theorem State.setFn_loHeld (f : Nat) (x : FnCfg) : (s.setFn f x).loHeld = s.loHeld := rfl
@[simp] theorem State.setFn_hiSnap (f : Nat) (x : FnCfg) : (s.setFn f x).hiSnap = s.hiSnap := rfl
@[simp] theorem State.setFn_rdata (f : Nat) (x : FnCfg) : (s.setFn f x).rdata = s.rdata := rfl
@[simp] theorem State.setFn_dram (f : Nat) (x : FnCfg) : (s.setFn f x).dram = s.dram := rfl
@[simp] theorem State.setFn_dramBad (f : Nat) (x : FnCfg) : (s.setFn f x).dramBad = s.dramBad := rfl
@[simp] theorem State.setFn_mr4 (f : Nat) (x : FnCfg) : (s.setFn f x).mr4 = s.mr4 := rfl
@[simp] theorem State.setFn_epoch (f : Nat) (x : FnCfg) : (s.setFn f x).epoch = s.epoch := rfl
@[simp] theorem State.setFn_draws (f : Nat) (x : FnCfg) : (s.setFn f x).draws = s.draws := rfl
@[simp] theorem State.setFn_emitted (f : Nat) (x : FnCfg) : (s.setFn f x).emitted = s.emitted := rfl
@[simp] theorem State.setFn_fuse (f : Nat) (x : FnCfg) : (s.setFn f x).fuse = s.fuse := rfl
@[simp] theorem State.setFn_tb (f : Nat) (x : FnCfg) : (s.setFn f x).tb = s.tb := rfl
@[simp] theorem State.setFn_reeve (f : Nat) (x : FnCfg) : (s.setFn f x).reeve = s.reeve := rfl
@[simp] theorem State.setFn_mill (f : Nat) (x : FnCfg) : (s.setFn f x).mill = s.mill := rfl
@[simp] theorem State.setFn_hdg (f : Nat) (x : FnCfg) : (s.setFn f x).hdg = s.hdg := rfl
@[simp] theorem State.setFn_veh (f : Nat) (x : FnCfg) : (s.setFn f x).veh = s.veh := rfl
@[simp] theorem State.setFn_cores (f : Nat) (x : FnCfg) : (s.setFn f x).cores = s.cores := rfl
@[simp] theorem State.setFn_ceWrites (f : Nat) (x : FnCfg) : (s.setFn f x).ceWrites = s.ceWrites := rfl
@[simp] theorem State.setFn_ctWrites (f : Nat) (x : FnCfg) : (s.setFn f x).ctWrites = s.ctWrites := rfl
@[simp] theorem State.setFn_qm (f : Nat) (x : FnCfg) : (s.setFn f x).qm = s.qm := rfl
@[simp] theorem State.setFn_part (f : Nat) (x : FnCfg) : (s.setFn f x).part = s.part := rfl
@[simp] theorem State.setFn_sess (f : Nat) (x : FnCfg) : (s.setFn f x).sess = s.sess := rfl
@[simp] theorem State.setFn_kly (f : Nat) (x : FnCfg) : (s.setFn f x).kly = s.kly := rfl
@[simp] theorem State.setFn_power (f : Nat) (x : FnCfg) : (s.setFn f x).power = s.power := rfl
@[simp] theorem State.setFn_boot (f : Nat) (x : FnCfg) : (s.setFn f x).boot = s.boot := rfl
@[simp] theorem State.setFn_tap (f : Nat) (x : FnCfg) : (s.setFn f x).tap = s.tap := rfl
@[simp] theorem State.setFn_reg (f : Nat) (x : FnCfg) (j : Nat) : (s.setFn f x).reg j = s.reg j := rfl
@[simp] theorem State.setFn_ramByte (f : Nat) (x : FnCfg) (a : Nat) : (s.setFn f x).ramByte a = s.ramByte a := rfl
-- setRegSt
@[simp] theorem State.setRegSt_pending (r : Nat) (x : RegSt) : (s.setRegSt r x).pending = s.pending := rfl
@[simp] theorem State.setRegSt_regs (r : Nat) (x : RegSt) : (s.setRegSt r x).regs = s.regs := rfl
@[simp] theorem State.setRegSt_loHeld (r : Nat) (x : RegSt) : (s.setRegSt r x).loHeld = s.loHeld := rfl
@[simp] theorem State.setRegSt_hiSnap (r : Nat) (x : RegSt) : (s.setRegSt r x).hiSnap = s.hiSnap := rfl
@[simp] theorem State.setRegSt_rdata (r : Nat) (x : RegSt) : (s.setRegSt r x).rdata = s.rdata := rfl
@[simp] theorem State.setRegSt_dram (r : Nat) (x : RegSt) : (s.setRegSt r x).dram = s.dram := rfl
@[simp] theorem State.setRegSt_dramBad (r : Nat) (x : RegSt) : (s.setRegSt r x).dramBad = s.dramBad := rfl
@[simp] theorem State.setRegSt_mr4 (r : Nat) (x : RegSt) : (s.setRegSt r x).mr4 = s.mr4 := rfl
@[simp] theorem State.setRegSt_epoch (r : Nat) (x : RegSt) : (s.setRegSt r x).epoch = s.epoch := rfl
@[simp] theorem State.setRegSt_draws (r : Nat) (x : RegSt) : (s.setRegSt r x).draws = s.draws := rfl
@[simp] theorem State.setRegSt_emitted (r : Nat) (x : RegSt) : (s.setRegSt r x).emitted = s.emitted := rfl
@[simp] theorem State.setRegSt_fuse (r : Nat) (x : RegSt) : (s.setRegSt r x).fuse = s.fuse := rfl
@[simp] theorem State.setRegSt_tb (r : Nat) (x : RegSt) : (s.setRegSt r x).tb = s.tb := rfl
@[simp] theorem State.setRegSt_reeve (r : Nat) (x : RegSt) : (s.setRegSt r x).reeve = s.reeve := rfl
@[simp] theorem State.setRegSt_pcie (r : Nat) (x : RegSt) : (s.setRegSt r x).pcie = s.pcie := rfl
@[simp] theorem State.setRegSt_mill (r : Nat) (x : RegSt) : (s.setRegSt r x).mill = s.mill := rfl
@[simp] theorem State.setRegSt_hdg (r : Nat) (x : RegSt) : (s.setRegSt r x).hdg = s.hdg := rfl
@[simp] theorem State.setRegSt_veh (r : Nat) (x : RegSt) : (s.setRegSt r x).veh = s.veh := rfl
@[simp] theorem State.setRegSt_cores (r : Nat) (x : RegSt) : (s.setRegSt r x).cores = s.cores := rfl
@[simp] theorem State.setRegSt_ceWrites (r : Nat) (x : RegSt) : (s.setRegSt r x).ceWrites = s.ceWrites := rfl
@[simp] theorem State.setRegSt_ctWrites (r : Nat) (x : RegSt) : (s.setRegSt r x).ctWrites = s.ctWrites := rfl
@[simp] theorem State.setRegSt_qm (r : Nat) (x : RegSt) : (s.setRegSt r x).qm = s.qm := rfl
@[simp] theorem State.setRegSt_sess (r : Nat) (x : RegSt) : (s.setRegSt r x).sess = s.sess := rfl
@[simp] theorem State.setRegSt_kly (r : Nat) (x : RegSt) : (s.setRegSt r x).kly = s.kly := rfl
@[simp] theorem State.setRegSt_power (r : Nat) (x : RegSt) : (s.setRegSt r x).power = s.power := rfl
@[simp] theorem State.setRegSt_boot (r : Nat) (x : RegSt) : (s.setRegSt r x).boot = s.boot := rfl
@[simp] theorem State.setRegSt_tap (r : Nat) (x : RegSt) : (s.setRegSt r x).tap = s.tap := rfl
@[simp] theorem State.setRegSt_reg (r : Nat) (x : RegSt) (j : Nat) : (s.setRegSt r x).reg j = s.reg j := rfl
@[simp] theorem State.setRegSt_ramByte (r : Nat) (x : RegSt) (a : Nat) : (s.setRegSt r x).ramByte a = s.ramByte a := rfl
-- setAsks
@[simp] theorem State.setAsks_pending (l : List Ask) : (s.setAsks l).pending = s.pending := rfl
@[simp] theorem State.setAsks_regs (l : List Ask) : (s.setAsks l).regs = s.regs := rfl
@[simp] theorem State.setAsks_loHeld (l : List Ask) : (s.setAsks l).loHeld = s.loHeld := rfl
@[simp] theorem State.setAsks_hiSnap (l : List Ask) : (s.setAsks l).hiSnap = s.hiSnap := rfl
@[simp] theorem State.setAsks_rdata (l : List Ask) : (s.setAsks l).rdata = s.rdata := rfl
@[simp] theorem State.setAsks_dram (l : List Ask) : (s.setAsks l).dram = s.dram := rfl
@[simp] theorem State.setAsks_dramBad (l : List Ask) : (s.setAsks l).dramBad = s.dramBad := rfl
@[simp] theorem State.setAsks_mr4 (l : List Ask) : (s.setAsks l).mr4 = s.mr4 := rfl
@[simp] theorem State.setAsks_epoch (l : List Ask) : (s.setAsks l).epoch = s.epoch := rfl
@[simp] theorem State.setAsks_draws (l : List Ask) : (s.setAsks l).draws = s.draws := rfl
@[simp] theorem State.setAsks_emitted (l : List Ask) : (s.setAsks l).emitted = s.emitted := rfl
@[simp] theorem State.setAsks_fuse (l : List Ask) : (s.setAsks l).fuse = s.fuse := rfl
@[simp] theorem State.setAsks_tb (l : List Ask) : (s.setAsks l).tb = s.tb := rfl
@[simp] theorem State.setAsks_reeve (l : List Ask) : (s.setAsks l).reeve = s.reeve := rfl
@[simp] theorem State.setAsks_pcie (l : List Ask) : (s.setAsks l).pcie = s.pcie := rfl
@[simp] theorem State.setAsks_mill (l : List Ask) : (s.setAsks l).mill = s.mill := rfl
@[simp] theorem State.setAsks_hdg (l : List Ask) : (s.setAsks l).hdg = s.hdg := rfl
@[simp] theorem State.setAsks_veh (l : List Ask) : (s.setAsks l).veh = s.veh := rfl
@[simp] theorem State.setAsks_cores (l : List Ask) : (s.setAsks l).cores = s.cores := rfl
@[simp] theorem State.setAsks_ceWrites (l : List Ask) : (s.setAsks l).ceWrites = s.ceWrites := rfl
@[simp] theorem State.setAsks_ctWrites (l : List Ask) : (s.setAsks l).ctWrites = s.ctWrites := rfl
@[simp] theorem State.setAsks_qm (l : List Ask) : (s.setAsks l).qm = s.qm := rfl
@[simp] theorem State.setAsks_sess (l : List Ask) : (s.setAsks l).sess = s.sess := rfl
@[simp] theorem State.setAsks_kly (l : List Ask) : (s.setAsks l).kly = s.kly := rfl
@[simp] theorem State.setAsks_power (l : List Ask) : (s.setAsks l).power = s.power := rfl
@[simp] theorem State.setAsks_boot (l : List Ask) : (s.setAsks l).boot = s.boot := rfl
@[simp] theorem State.setAsks_tap (l : List Ask) : (s.setAsks l).tap = s.tap := rfl
@[simp] theorem State.setAsks_reg (l : List Ask) (j : Nat) : (s.setAsks l).reg j = s.reg j := rfl
@[simp] theorem State.setAsks_ramByte (l : List Ask) (a : Nat) : (s.setAsks l).ramByte a = s.ramByte a := rfl
-- READ-BACK
@[simp] theorem State.strm_setStrm_same (k : Nat) (x : StreamSt) : (s.setStrm k x).strm k = x := by simp [State.strm, State.setStrm]
theorem State.strm_setStrm_ne {k i : Nat} (h : i ≠ k) (x : StreamSt) : (s.setStrm k x).strm i = s.strm i := by simp [State.strm, State.setStrm, Tbl.getD_put_ne h]
@[simp] theorem State.grp_setGrp_same (k : Nat) (x : GroupSt) : (s.setGrp k x).grp k = x := by simp [State.grp, State.setGrp]
theorem State.grp_setGrp_ne {k i : Nat} (h : i ≠ k) (x : GroupSt) : (s.setGrp k x).grp i = s.grp i := by simp [State.grp, State.setGrp, Tbl.getD_put_ne h]
@[simp] theorem State.port_setPort_same (k : Nat) (x : PortSt) : (s.setPort k x).port k = x := by simp [State.port, State.setPort]
theorem State.port_setPort_ne {k i : Nat} (h : i ≠ k) (x : PortSt) : (s.setPort k x).port i = s.port i := by simp [State.port, State.setPort, Tbl.getD_put_ne h]
@[simp] theorem State.queue_setQueue_same (k : Nat) (x : QueueSt) : (s.setQueue k x).queue k = x := by simp [State.queue, State.setQueue, State.setQm]
theorem State.queue_setQueue_ne {k i : Nat} (h : i ≠ k) (x : QueueSt) : (s.setQueue k x).queue i = s.queue i := by simp [State.queue, State.setQueue, State.setQm, Tbl.getD_put_ne h]
@[simp] theorem State.slot_setSlot_same (k : Nat) (x : CtSlot) : (s.setSlot k x).slot k = x := by simp [State.slot, State.setSlot, State.setQm]
theorem State.slot_setSlot_ne {k i : Nat} (h : i ≠ k) (x : CtSlot) : (s.setSlot k x).slot i = s.slot i := by simp [State.slot, State.setSlot, State.setQm, Tbl.getD_put_ne h]
@[simp] theorem State.kport_setKport_same (k : Nat) (x : KPort) : (s.setKport k x).kport k = x := by simp [State.kport, State.setKport, State.setKly]
theorem State.kport_setKport_ne {k i : Nat} (h : i ≠ k) (x : KPort) : (s.setKport k x).kport i = s.kport i := by simp [State.kport, State.setKport, State.setKly, Tbl.getD_put_ne h]
@[simp] theorem State.regSt_setRegSt_same (k : Nat) (x : RegSt) : (s.setRegSt k x).regSt k = x := by simp [State.regSt, State.setRegSt, State.setPartCtl]
theorem State.regSt_setRegSt_ne {k i : Nat} (h : i ≠ k) (x : RegSt) : (s.setRegSt k x).regSt i = s.regSt i := by simp [State.regSt, State.setRegSt, State.setPartCtl, Tbl.getD_put_ne h]

end Sys2Proof.Machine
end

