-- ==== Sys2Proof/Laws/Requests.lean ====
section
/-! SUPPORT. What a charged request to device memory does: it goes out, charged once, or it waits; either way only the regulators' state and their
counters change (R471 to R473, R516 to R521). -/

namespace Sys2Proof.Machine

variable (s : State)

/-- Lines charged change the partition's own use and its line counter. -/
theorem State.charge_eq (p n : Nat) : ∃ regs part, s.charge p n = { s with regs, part } := by
  unfold State.charge; split
  · exact ⟨_, _, rfl⟩
  · exact ⟨_, _, rfl⟩

theorem State.tagWait_eq (u : DramUser) : ∃ regs part, s.tagWait u = { s with regs, part } := by
  unfold State.tagWait; split
  · exact ⟨_, _, rfl⟩
  · exact ⟨_, _, rfl⟩

/-- A request that goes out changes registers and the regulators' state, and nothing else. -/
theorem State.dramTake_eq (u : DramUser) (p n : Nat) : ∃ regs part, s.dramTake u p n = { s with regs, part } := by
  obtain ⟨r, c, h⟩ := s.charge_eq p n
  unfold State.dramTake State.setPartCtl; split
  · exact ⟨_, _, rfl⟩
  · rw [h]; exact ⟨_, _, rfl⟩

/-- So does one that waits. -/
theorem State.dramWait_eq (u : DramUser) (p n : Nat) : ∃ regs part, s.dramWait u p n = { s with regs, part } := by
  unfold State.dramWait
  split
  · split
    · obtain ⟨r, c, h⟩ := (s.setAsks _).tagWait_eq u; rw [h]; exact ⟨_, _, rfl⟩
    · exact ⟨_, _, rfl⟩
  · split
    · obtain ⟨r, c, h⟩ := s.charge_eq p n
      rw [h]
      obtain ⟨r', c', h'⟩ := (({ s with regs := r, part := c } : State).setAsks _).tagWait_eq u; rw [h']; exact ⟨_, _, rfl⟩
    · exact ⟨_, _, rfl⟩

/-- A request goes out where its regulator and the Request Tag Table let it, and waits otherwise. -/
theorem State.dramAsk_ready {u : DramUser} {p n : Nat} (h : s.dramReady u p n = true) : s.dramAsk u p n = (true, s.dramTake u p n) := by
  simp [State.dramAsk, h]

theorem State.dramAsk_waits {u : DramUser} {p n : Nat} (h : s.dramReady u p n = false) : s.dramAsk u p n = (false, s.dramWait u p n) := by
  simp [State.dramAsk, h]

/-- A request that has gone out waits no more. -/
theorem State.askOf_dramTake (u : DramUser) (p n : Nat) : (s.dramTake u p n).askOf u = none := by
  simp [State.dramTake, State.askOf, State.setPartCtl]

-- dramTake
@[simp] theorem State.dramTake_pending (u : DramUser) (p n : Nat) : (s.dramTake u p n).pending = s.pending := by obtain ⟨_, _, h⟩ := s.dramTake_eq u p n; rw [h]
@[simp] theorem State.dramTake_loHeld (u : DramUser) (p n : Nat) : (s.dramTake u p n).loHeld = s.loHeld := by obtain ⟨_, _, h⟩ := s.dramTake_eq u p n; rw [h]
@[simp] theorem State.dramTake_hiSnap (u : DramUser) (p n : Nat) : (s.dramTake u p n).hiSnap = s.hiSnap := by obtain ⟨_, _, h⟩ := s.dramTake_eq u p n; rw [h]
@[simp] theorem State.dramTake_rdata (u : DramUser) (p n : Nat) : (s.dramTake u p n).rdata = s.rdata := by obtain ⟨_, _, h⟩ := s.dramTake_eq u p n; rw [h]
@[simp] theorem State.dramTake_dram (u : DramUser) (p n : Nat) : (s.dramTake u p n).dram = s.dram := by obtain ⟨_, _, h⟩ := s.dramTake_eq u p n; rw [h]
@[simp] theorem State.dramTake_dramBad (u : DramUser) (p n : Nat) : (s.dramTake u p n).dramBad = s.dramBad := by obtain ⟨_, _, h⟩ := s.dramTake_eq u p n; rw [h]
@[simp] theorem State.dramTake_mr4 (u : DramUser) (p n : Nat) : (s.dramTake u p n).mr4 = s.mr4 := by obtain ⟨_, _, h⟩ := s.dramTake_eq u p n; rw [h]
@[simp] theorem State.dramTake_epoch (u : DramUser) (p n : Nat) : (s.dramTake u p n).epoch = s.epoch := by obtain ⟨_, _, h⟩ := s.dramTake_eq u p n; rw [h]
@[simp] theorem State.dramTake_draws (u : DramUser) (p n : Nat) : (s.dramTake u p n).draws = s.draws := by obtain ⟨_, _, h⟩ := s.dramTake_eq u p n; rw [h]
@[simp] theorem State.dramTake_emitted (u : DramUser) (p n : Nat) : (s.dramTake u p n).emitted = s.emitted := by obtain ⟨_, _, h⟩ := s.dramTake_eq u p n; rw [h]
@[simp] theorem State.dramTake_fuse (u : DramUser) (p n : Nat) : (s.dramTake u p n).fuse = s.fuse := by obtain ⟨_, _, h⟩ := s.dramTake_eq u p n; rw [h]
@[simp] theorem State.dramTake_tb (u : DramUser) (p n : Nat) : (s.dramTake u p n).tb = s.tb := by obtain ⟨_, _, h⟩ := s.dramTake_eq u p n; rw [h]
@[simp] theorem State.dramTake_reeve (u : DramUser) (p n : Nat) : (s.dramTake u p n).reeve = s.reeve := by obtain ⟨_, _, h⟩ := s.dramTake_eq u p n; rw [h]
@[simp] theorem State.dramTake_pcie (u : DramUser) (p n : Nat) : (s.dramTake u p n).pcie = s.pcie := by obtain ⟨_, _, h⟩ := s.dramTake_eq u p n; rw [h]
@[simp] theorem State.dramTake_mill (u : DramUser) (p n : Nat) : (s.dramTake u p n).mill = s.mill := by obtain ⟨_, _, h⟩ := s.dramTake_eq u p n; rw [h]
@[simp] theorem State.dramTake_hdg (u : DramUser) (p n : Nat) : (s.dramTake u p n).hdg = s.hdg := by obtain ⟨_, _, h⟩ := s.dramTake_eq u p n; rw [h]
@[simp] theorem State.dramTake_veh (u : DramUser) (p n : Nat) : (s.dramTake u p n).veh = s.veh := by obtain ⟨_, _, h⟩ := s.dramTake_eq u p n; rw [h]
@[simp] theorem State.dramTake_cores (u : DramUser) (p n : Nat) : (s.dramTake u p n).cores = s.cores := by obtain ⟨_, _, h⟩ := s.dramTake_eq u p n; rw [h]
@[simp] theorem State.dramTake_ceWrites (u : DramUser) (p n : Nat) : (s.dramTake u p n).ceWrites = s.ceWrites := by obtain ⟨_, _, h⟩ := s.dramTake_eq u p n; rw [h]
@[simp] theorem State.dramTake_ctWrites (u : DramUser) (p n : Nat) : (s.dramTake u p n).ctWrites = s.ctWrites := by obtain ⟨_, _, h⟩ := s.dramTake_eq u p n; rw [h]
@[simp] theorem State.dramTake_qm (u : DramUser) (p n : Nat) : (s.dramTake u p n).qm = s.qm := by obtain ⟨_, _, h⟩ := s.dramTake_eq u p n; rw [h]
@[simp] theorem State.dramTake_sess (u : DramUser) (p n : Nat) : (s.dramTake u p n).sess = s.sess := by obtain ⟨_, _, h⟩ := s.dramTake_eq u p n; rw [h]
@[simp] theorem State.dramTake_kly (u : DramUser) (p n : Nat) : (s.dramTake u p n).kly = s.kly := by obtain ⟨_, _, h⟩ := s.dramTake_eq u p n; rw [h]
@[simp] theorem State.dramTake_power (u : DramUser) (p n : Nat) : (s.dramTake u p n).power = s.power := by obtain ⟨_, _, h⟩ := s.dramTake_eq u p n; rw [h]
@[simp] theorem State.dramTake_boot (u : DramUser) (p n : Nat) : (s.dramTake u p n).boot = s.boot := by obtain ⟨_, _, h⟩ := s.dramTake_eq u p n; rw [h]
@[simp] theorem State.dramTake_tap (u : DramUser) (p n : Nat) : (s.dramTake u p n).tap = s.tap := by obtain ⟨_, _, h⟩ := s.dramTake_eq u p n; rw [h]
@[simp] theorem State.dramTake_ramByte (u : DramUser) (p n a : Nat) : (s.dramTake u p n).ramByte a = s.ramByte a := by obtain ⟨_, _, h⟩ := s.dramTake_eq u p n; rw [h]; rfl
-- dramWait
@[simp] theorem State.dramWait_pending (u : DramUser) (p n : Nat) : (s.dramWait u p n).pending = s.pending := by obtain ⟨_, _, h⟩ := s.dramWait_eq u p n; rw [h]
@[simp] theorem State.dramWait_loHeld (u : DramUser) (p n : Nat) : (s.dramWait u p n).loHeld = s.loHeld := by obtain ⟨_, _, h⟩ := s.dramWait_eq u p n; rw [h]
@[simp] theorem State.dramWait_hiSnap (u : DramUser) (p n : Nat) : (s.dramWait u p n).hiSnap = s.hiSnap := by obtain ⟨_, _, h⟩ := s.dramWait_eq u p n; rw [h]
@[simp] theorem State.dramWait_rdata (u : DramUser) (p n : Nat) : (s.dramWait u p n).rdata = s.rdata := by obtain ⟨_, _, h⟩ := s.dramWait_eq u p n; rw [h]
@[simp] theorem State.dramWait_dram (u : DramUser) (p n : Nat) : (s.dramWait u p n).dram = s.dram := by obtain ⟨_, _, h⟩ := s.dramWait_eq u p n; rw [h]
@[simp] theorem State.dramWait_dramBad (u : DramUser) (p n : Nat) : (s.dramWait u p n).dramBad = s.dramBad := by obtain ⟨_, _, h⟩ := s.dramWait_eq u p n; rw [h]
@[simp] theorem State.dramWait_mr4 (u : DramUser) (p n : Nat) : (s.dramWait u p n).mr4 = s.mr4 := by obtain ⟨_, _, h⟩ := s.dramWait_eq u p n; rw [h]
@[simp] theorem State.dramWait_epoch (u : DramUser) (p n : Nat) : (s.dramWait u p n).epoch = s.epoch := by obtain ⟨_, _, h⟩ := s.dramWait_eq u p n; rw [h]
@[simp] theorem State.dramWait_draws (u : DramUser) (p n : Nat) : (s.dramWait u p n).draws = s.draws := by obtain ⟨_, _, h⟩ := s.dramWait_eq u p n; rw [h]
@[simp] theorem State.dramWait_emitted (u : DramUser) (p n : Nat) : (s.dramWait u p n).emitted = s.emitted := by obtain ⟨_, _, h⟩ := s.dramWait_eq u p n; rw [h]
@[simp] theorem State.dramWait_fuse (u : DramUser) (p n : Nat) : (s.dramWait u p n).fuse = s.fuse := by obtain ⟨_, _, h⟩ := s.dramWait_eq u p n; rw [h]
@[simp] theorem State.dramWait_tb (u : DramUser) (p n : Nat) : (s.dramWait u p n).tb = s.tb := by obtain ⟨_, _, h⟩ := s.dramWait_eq u p n; rw [h]
@[simp] theorem State.dramWait_reeve (u : DramUser) (p n : Nat) : (s.dramWait u p n).reeve = s.reeve := by obtain ⟨_, _, h⟩ := s.dramWait_eq u p n; rw [h]
@[simp] theorem State.dramWait_pcie (u : DramUser) (p n : Nat) : (s.dramWait u p n).pcie = s.pcie := by obtain ⟨_, _, h⟩ := s.dramWait_eq u p n; rw [h]
@[simp] theorem State.dramWait_mill (u : DramUser) (p n : Nat) : (s.dramWait u p n).mill = s.mill := by obtain ⟨_, _, h⟩ := s.dramWait_eq u p n; rw [h]
@[simp] theorem State.dramWait_hdg (u : DramUser) (p n : Nat) : (s.dramWait u p n).hdg = s.hdg := by obtain ⟨_, _, h⟩ := s.dramWait_eq u p n; rw [h]
@[simp] theorem State.dramWait_veh (u : DramUser) (p n : Nat) : (s.dramWait u p n).veh = s.veh := by obtain ⟨_, _, h⟩ := s.dramWait_eq u p n; rw [h]
@[simp] theorem State.dramWait_cores (u : DramUser) (p n : Nat) : (s.dramWait u p n).cores = s.cores := by obtain ⟨_, _, h⟩ := s.dramWait_eq u p n; rw [h]
@[simp] theorem State.dramWait_ceWrites (u : DramUser) (p n : Nat) : (s.dramWait u p n).ceWrites = s.ceWrites := by obtain ⟨_, _, h⟩ := s.dramWait_eq u p n; rw [h]
@[simp] theorem State.dramWait_ctWrites (u : DramUser) (p n : Nat) : (s.dramWait u p n).ctWrites = s.ctWrites := by obtain ⟨_, _, h⟩ := s.dramWait_eq u p n; rw [h]
@[simp] theorem State.dramWait_qm (u : DramUser) (p n : Nat) : (s.dramWait u p n).qm = s.qm := by obtain ⟨_, _, h⟩ := s.dramWait_eq u p n; rw [h]
@[simp] theorem State.dramWait_sess (u : DramUser) (p n : Nat) : (s.dramWait u p n).sess = s.sess := by obtain ⟨_, _, h⟩ := s.dramWait_eq u p n; rw [h]
@[simp] theorem State.dramWait_kly (u : DramUser) (p n : Nat) : (s.dramWait u p n).kly = s.kly := by obtain ⟨_, _, h⟩ := s.dramWait_eq u p n; rw [h]
@[simp] theorem State.dramWait_power (u : DramUser) (p n : Nat) : (s.dramWait u p n).power = s.power := by obtain ⟨_, _, h⟩ := s.dramWait_eq u p n; rw [h]
@[simp] theorem State.dramWait_boot (u : DramUser) (p n : Nat) : (s.dramWait u p n).boot = s.boot := by obtain ⟨_, _, h⟩ := s.dramWait_eq u p n; rw [h]
@[simp] theorem State.dramWait_tap (u : DramUser) (p n : Nat) : (s.dramWait u p n).tap = s.tap := by obtain ⟨_, _, h⟩ := s.dramWait_eq u p n; rw [h]
@[simp] theorem State.dramWait_ramByte (u : DramUser) (p n a : Nat) : (s.dramWait u p n).ramByte a = s.ramByte a := by obtain ⟨_, _, h⟩ := s.dramWait_eq u p n; rw [h]; rfl

-- REGISTERS

theorem State.charge_keepsRegs (p n : Nat) : keepsRegs s (s.charge p n) [kLines p] := by
  intro j hj
  have hne : j ≠ kLines p := fun e => hj (by simp [e])
  unfold State.charge
  split
  · rfl
  · show ((s.setRegSt 0 _).bumpBy (kLines p) n).reg j = s.reg j
    rw [State.bumpBy, State.reg_setReg_ne _ hne]; rfl

/-- A request that goes out counts its partition's lines alone. -/
theorem State.dramTake_keepsRegs (u : DramUser) (p n : Nat) : keepsRegs s (s.dramTake u p n) [kLines p] := by
  intro j hj
  unfold State.dramTake
  split
  · rfl
  · exact s.charge_keepsRegs p n j hj

theorem ev_charge {r s : State} (h : Evolves r s) (p n : Nat) : Evolves r (s.charge p n) := by
  unfold State.charge; split
  · exact h
  · have h2 := ev_setReg (Evolves.trans h (⟨rfl, rfl, rfl, rfl, id, id, Nat.le_refl _, Nat.le_refl _⟩ : Evolves s (s.setRegSt 0 { used := Tbl.put (s.regSt 0).used p (Tbl.getD (s.regSt 0).used p 0 + n), last := p }))) (kLines p)
    exact h2 _

theorem ev_tagWait {r s : State} (h : Evolves r s) (u : DramUser) : Evolves r (s.tagWait u) := ev_ite (ev_setReg h _ _) (ev_setReg h _ _)

theorem ev_asks {r s : State} (h : Evolves r s) (l : List Ask) : Evolves r (s.setAsks l) :=
  Evolves.trans h ⟨rfl, rfl, rfl, rfl, id, id, Nat.le_refl _, Nat.le_refl _⟩

theorem ev_dramTake {r s : State} (h : Evolves r s) (u : DramUser) (p n : Nat) : Evolves r (s.dramTake u p n) := by
  unfold State.dramTake
  exact Evolves.trans (ev_ite h (ev_charge h p n)) ⟨rfl, rfl, rfl, rfl, id, id, Nat.le_refl _, Nat.le_refl _⟩

theorem ev_dramWait {r s : State} (h : Evolves r s) (u : DramUser) (p n : Nat) : Evolves r (s.dramWait u p n) := by
  unfold State.dramWait
  split
  · exact ev_ite (ev_tagWait (ev_asks h _) u) h
  · exact ev_ite (ev_tagWait (ev_asks (ev_charge h p n) _) u) (ev_setReg (ev_asks h _) _ _)

/-- Whether it goes out or waits, the state evolves. -/
theorem ev_dramAsk {r s : State} (h : Evolves r s) (u : DramUser) (p n : Nat) : Evolves r (s.dramAsk u p n).2 := by
  unfold State.dramAsk; split
  · exact ev_dramTake h u p n
  · exact ev_dramWait h u p n

end Sys2Proof.Machine
end

