-- ==== Sys2Proof/WellFormed.lean ====
section
/-! DEFINITION. Which commands an interface of the device can carry: the bounds of operands that are lists or numbers.  The meanings are total and
do not ask for it. -/

namespace Sys2Proof

/-- A register access is aligned (R12). -/
def alignedOff (off : BitVec 25) : Bool := off.toNat % 4 == 0

/-- The payload of an IPv4 UDP packet. -/
def UdpPacket.wellFormed (p : UdpPacket) : Bool := decide (p.payload.length ≤ 65507)

/-- A CAN FD frame carries at most 64 bytes, and a remote frame none. -/
def CanFrame.wellFormed (f : CanFrame) : Bool := decide (f.data.length ≤ 64) && (!f.remote || f.data.isEmpty)

/-- A Kelyth Link frame has its 32-byte header (R543). -/
def klyWellFormed (bytes : List Byte) : Bool := decide (32 ≤ bytes.length)

/-- The operands of a command are such as its interface carries. -/
def Instr.wellFormed : Instr → Bool
  | .registerWrite _ off _ => alignedOff off
  | .readClear _ off => alignedOff off
  | .pairLoRead _ off => alignedOff off
  | .pairLoWrite _ off _ => alignedOff off
  | .pairHiWrite _ off _ => alignedOff off
  | .dramWriteComplete _ _ bytes _ => !bytes.isEmpty
  | .csiLongPacket _ _ _ payload _ _ _ _ _ _ => decide (payload.length < 65536)
  | .rangePacket _ pkt _ _ => pkt.wellFormed
  | .hedgerowPacket binds _ pkt _ => decide (binds.length ≤ 4) && pkt.wellFormed
  | .canFrameReceive _ f _ _ => f.wellFormed
  | .tinc _ es _ _ => !es.isEmpty
  | .klyTrainFrame _ bytes => klyWellFormed bytes
  | .klyDataFrame _ bytes => klyWellFormed bytes
  | .klyRack _ bytes => klyWellFormed bytes
  | .klyAck _ bytes => klyWellFormed bytes
  | .klyNak _ bytes => klyWellFormed bytes
  | .klyCredit _ bytes => klyWellFormed bytes
  | .klyAbort _ bytes => klyWellFormed bytes
  | .timeMessageTransmit _ _ kind _ bytes => decide ((if kind = .announce then 64 else 44) ≤ bytes.length)
  | .thermalSample temps _ => temps.length == 16
  | .pcieTlpViolation _ _ detail => decide (detail.length ≤ 16)
  | .bar2Access _ _ n write _ _ => (match write with | some bs => bs.length == n && !bs.isEmpty | none => decide (1 ≤ n) && decide (n ≤ 4096))
  | _ => true

end Sys2Proof
end

