-- ==== Sys2Proof/Tests/Slice0.lean ====
section
/-! SUPPORT. The model's own tests: for every statement, states and operands that meet the hypotheses of its clauses together (and what the
command then answers there), the worked values of the spec, and an ill-formed command for each check of WellFormed. -/

namespace Sys2Proof.Tests

open Sys2Proof Sys2Proof.Machine

-- One test at a time: the kernel evaluates whole states, and several at once take too much memory.
set_option Elab.async false

/-- The state after reset with these registers set. -/
def st (l : List (Nat × Nat)) : State := l.foldl (fun s kv => s.setReg kv.1 (BitVec.ofNat 32 kv.2)) State.reset

/-- The canonical forms, as a Bool. -/
def okB (s : State) : Bool := regsWf s.regs && Memory.wf s.dram && s.fuse.physOf.all (fun i => decide (i < 16))

theorem ok_of {s : State} (h : okB s = true) : State.Ok s := by
  simp only [okB, Bool.and_eq_true] at h
  exact ⟨h.1.1, h.1.2, h.2⟩

/-- The command answers a next state of which p holds. -/
def goes (o : Out) (p : State → Bool) : Bool :=
  match o with
  | .next t => p t
  | _ => false

/-- The last event on its way to the Reeve has this code and disposition. -/
def raised (t : State) (code : BitVec 16) (d : Disp) : Bool :=
  match t.reeve.events.getLast? with
  | some e => e.code == code && e.disp == d
  | none => false

/-- 24 GiB of DRAM are usable (R26). -/
def ram : State := st [(0xC, 0x1800)]

/-- The same with a block at 64 that holds an uncorrectable error. -/
def ramBadly : State := { ram with dramBad := [(1, ())] }

/-- A function that is present and not physical: VF Enable has brought about seven (R492). -/
def withVf : State := { State.reset with pcie := { Pcie.reset with vfEnable := true, numVfs := 7 } }

-- THE QUEUE, THE REGISTERS AND THE MEMORY

theorem wit_step : (goes (step { State.reset with pending := [.timebaseTick, .timebaseTick] }) (fun t => t.pending.length == 1 && t.tb.ns == 40)) = true := by
  decide +kernel

theorem wit_reset_ok : State.Ok State.reset := ok_of (by decide +kernel)

theorem wit_fields : okB (st [(0x1000, 5)]) = true ∧ fTbSrc.ok = true ∧ fFrameEn.ok = true ∧ fTbSrc.apart fFrameEn = true ∧
    ((st [(0x1000, 5)]).put fFrameEn 1).get fTbSrc = 5 := by decide +kernel

theorem wit_counters : okB (st [(0x10, 0xFFFFFFFF)]) = true ∧ ((st [(0x10, 0xFFFFFFFF)]).bump 0x10).reg 0x10 = 0xFFFFFFFF ∧
    ((st []).bump 0x10).reg 0x10 = 1 ∧ (⟨0x1000, 0, 3⟩ : Fld).ok = true := by decide +kernel

/-- TB_TIME is read as a pair, low half first (R15). -/
theorem wit_pair_read : State.reset.turnsAway 0 = false ∧ inBar0 0 0x1008 = true ∧ isHalf .lo 0x1008 = true ∧ isHalf .hi 0x1008 = false ∧
    goes (exec (.pairLoRead 0 0x1008) { State.reset with tb := { Timebase.reset with ns := 0x500000007 } }) (fun t => t.rdata == 7 &&
      goes (exec (.readClear 0 0x100C) { t with tb := { Timebase.reset with ns := 0x600000001 } }) (fun u => u.rdata == 5 && Tbl.find u.hiSnap 0x100C == none)) = true := by
  decide +kernel

theorem wit_read_clear : okB (st [(0x10, 3)]) = true ∧ (st [(0x10, 3)]).turnsAway 0 = false ∧
    goes (exec (.readClear 0 0x10) (st [(0x10, 3)])) (fun t => t.rdata == 3 && t.reg 0x10 == 0) = true := by decide +kernel

theorem wit_hold_limit : goes (exec (.registerWrite 0 0x1020 0xFFFFF001) State.reset) (fun t => t.reg 0x1020 == 1) = true ∧
    goes (exec (.registerWrite 0 0x1020 3600) State.reset) (fun t => t.reg 0x1020 == 3600) = true ∧
    goes (exec (.registerWrite 0 0x1020 3601) State.reset) (fun t => t.reg 0x1020 == 60 && t.flag fTbRejected) = true ∧
    goes (exec (.registerWrite 0 0x1020 0x1000) State.reset) (fun t => t.reg 0x1020 == 60 && t.flag fTbRejected) = true := by decide +kernel

theorem wit_vf : okB withVf = true ∧ withVf.turnsAway 1 = false ∧ withVf.turnsAway 7 = false ∧
    goes (exec (.registerWrite 1 0x1020 5) withVf) (fun t => t.regs == []) = true ∧ goes (exec (.sysTopoWrite 7 0x15) withVf) (fun t => t.regs == []) = true := by decide +kernel

theorem wit_pair_write : goes (exec (.pairLoWrite 0 0x1040 9) State.reset) (fun t => Tbl.find t.loHeld 0x1044 == some 9 &&
    goes (exec (.pairHiWrite 0 0x1044 1) t) (fun u => u.reg64 kFrameEpoch == 0x100000009 && u.loHeld == [])) = true ∧
    (st [(0x1000, 0)]).flag fFrameEn = false ∧ Tbl.find State.reset.loHeld 0x1014 = none ∧
    goes (exec (.pairHiWrite 0 0x1014 2) State.reset) (fun t => t.tb.ns == 0x200000000) = true := by decide +kernel

/-- SHAPE 1 with DEV_COUNT_M1 1 and 3, SHAPE 2 with 2; each with its highest index (R39). -/
theorem wit_topology : goes (exec (.sysTopoWrite 0 0x15) State.reset) (fun t => t.reg 8 == 0x15) = true ∧
    goes (exec (.sysTopoWrite 0 0x1F) State.reset) (fun t => t.reg 8 == 0x1F) = true ∧
    goes (exec (.sysTopoWrite 0 0x2A) State.reset) (fun t => t.reg 8 == 0x2A) = true ∧
    goes (exec (.sysTopoWrite 0 0x24) State.reset) (fun t => t.flag ⟨8, 31, 1⟩ && t.get ⟨8, 0, 6⟩ == 0) = true ∧
    goes (exec (.sysTopoWrite 0 0x16) State.reset) (fun t => t.flag ⟨8, 31, 1⟩) = true ∧
    goes (exec (.sysTopoWrite 0 0x15) (State.reset.on (fKlyEn 3))) (fun t => t.flag ⟨8, 31, 1⟩ && t.get ⟨8, 0, 6⟩ == 0) = true := by decide +kernel

theorem wit_dram_read : okB ramBadly = true ∧ 64 < ramBadly.dramBytes ∧ ramBadly.ramBad 64 = true ∧ ram.ramBad 64 = false ∧
    goes (exec (.dramReadReturn .mill 64 .clean) ramBadly) (fun t => raised t 0x3101 .jobFault && t.reg kUeCount == 1) = true ∧
    goes (exec (.dramScrubRead 0 .uncorrectable) ram) (fun t => raised t 0x3103 .report && t.ramBad 0) = true ∧
    goes (exec (.dramScrubRead 0 .corrected) ram) (fun t => t.reg kCeCount == 1) = true := by decide +kernel

theorem wit_dram_write : 64 % 64 + 64 ≤ 64 ∧ 64 + 64 ≤ ram.dramBytes ∧ 63 % 64 + 1 ≤ 64 ∧
    goes (exec (.dramWriteComplete .mill 63 [7] .clean) ram) (fun t => t.ramByte 63 == 7) = true ∧
    goes (exec (.dramWriteComplete .mill 64 (List.replicate 64 1) .clean) ramBadly) (fun t => t.ramByte 69 == 1 && !t.ramBad 64) = true ∧
    goes (exec (.dramWriteComplete .mill 3 [1, 2] .uncorrectable) ram) (fun t => t.ramBad 3 && t.dram == [] && raised t 0x3101 .jobFault) = true := by decide +kernel

theorem test_mr4 : goes (exec (.mr4Poll 3 0x85) State.reset) (fun t => Tbl.find t.mr4 3 == some 0x85) = true ∧
    goes (exec (.refreshManagement 3) State.reset) (fun t => t.emitted.length == 1) = true := by decide +kernel

-- THE TIMEBASE

theorem test_rate_bound : ({ Timebase.reset with servo := 900000000, slew := 900000000 } : Timebase).correction = maxCorrection := by decide +kernel

theorem wit_pps : 60 ≤ 60 ∧ State.reset.get fTbSrc ≠ 3 ∧
    60 + 8 ≤ ({ State.reset with tb := { Timebase.reset with ns := 1000 } } : State).now ∧ ({ State.reset with tb := { Timebase.reset with ns := 1000 } } : State).now + 8 < 2 ^ 64 := by
  decide +kernel

theorem wit_message : okB (st [(0x1000, 0x31)]) = true ∧ (st [(0x1000, 0x31)]).get fTbSrc = 1 ∧ (st [(0x1000, 0x31)]).get fTbPort = 3 ∧ Tbl.find (st []).tb.seqs 0 = none ∧
    goes (exec (.disciplineMessage true 3 .sync true 9 none []) (st [(0x1000, 0x31)])) (fun t => t.tb.seqs == [(0, 9)]) = true ∧
    goes (exec (.disciplineMessage true 3 .followUp true 9 (some 4) []) { st [(0x1000, 0x31)] with tb := { Timebase.reset with seqs := [(0, 9)] } })
      (fun t => t.reg kTbOffset == 4 && t.reeve.events.isEmpty) = true ∧
    goes (exec (.disciplineMessage true 3 .sync true 340 (some 16400) []) { st [(0x1000, 0x31)] with tb := { Timebase.reset with seqs := [(0, 9)] } })
      (fun t => t.reg kTbOffset == 0x4010) = true ∧
    goes (exec (.disciplineMessage true 3 .sync true 9 (some 4) []) { st [(0x1000, 0x31)] with tb := { Timebase.reset with seqs := [(0, 9)] } })
      (fun t => raised t 0x8306 .violation) = true ∧
    (st [(0x1000, 0x02)]).get fTbSrc = 2 := by decide +kernel

theorem wit_loss : (st [(0x1004, 2)]).get fTbState = tbLocked ∧ (st [(0x1004, 1)]).get fTbState = tbAcquire ∧
    goes (exec (.measurementLossExpiry 3000) (st [(0x1004, 2)])) (fun t => t.get fTbState == tbHoldover && raised t 0x8301 .report) = true ∧
    (State.reset.reg kHoldLimit).toNat ≤ 60 ∧ (st [(0x1004, 3)]).get fTbState = tbHoldover ∧
    goes (exec (.holdoverLimitExpiry 60) (st [(0x1004, 3)])) (fun t => t.get fTbState == tbFree && t.flag fHoldExpired && raised t 0x8302 .report) = true := by decide +kernel

theorem wit_crosscheck : goes (exec (.tbCrosscheckWindow 5010000) State.reset) (fun t => !t.flag fXchkFail) = true ∧
    goes (exec (.tbCrosscheckWindow 5010001) State.reset) (fun t => t.flag fXchkFail && raised t 0x8304 .held) = true ∧
    goes (exec (.tbCrosscheckWindow 4989999) State.reset) (fun t => t.flag fXchkFail) = true ∧
    goes (exec (.tbCrosscheckWindow 0) { State.reset with tb := { Timebase.reset with voidWindow := true } }) (fun t => !t.flag fXchkFail && !t.tb.voidWindow) = true := by decide +kernel

theorem wit_frame_enable : fFrameEn.ofWord 0x100 = 1 ∧ State.reset.flag fFrameEn = false ∧ State.reset.get fTbState = tbFree ∧ 0 < State.reset.period ∧
    goes (exec (.frameEnable 0 0x100) { State.reset with tb := { Timebase.reset with ns := 5 } }) (fun t => t.flag fFrameEn && t.tb.next == 1) = true ∧
    goes (exec (.frameEnable 0 0x104) State.reset) (fun t => t.flag fTbRejected && !t.flag fFrameEn) = true ∧
    goes (exec (.frameEnable 0 0x150) State.reset) (fun t => t.flag fTbRejected) = true := by decide +kernel

/-- Frames run. -/
def framesOn : State := { st [(0x1000, 0x100)] with tb := { Timebase.reset with pendPeriod := some 20000000 } }

theorem wit_frame_disable : okB framesOn = true ∧ framesOn.flag fFrameEn = true ∧ fFrameEn.ofWord 0 = 0 ∧
    goes (exec (.frameDisable 0 0) framesOn) (fun t => t.tb.pendPeriod == none && !t.flag fFrameEn) = true := by decide +kernel

theorem wit_source_change : (fFrameEn.ofWord 0x03 = 1 ↔ State.reset.flag fFrameEn = true) ∧ fTbSrc.ofWord 3 ≠ State.reset.get fTbSrc ∧
    goes (exec (.tbSourceChange 0 3) State.reset) (fun t => t.get fTbSrc == 3 && t.get fTbState == tbFree) = true := by decide +kernel

theorem wit_tb_set : goes (exec (.tbSet 0 1) { State.reset with loHeld := [(0x1014, 5)] }) (fun t => t.tb.ns == 0x100000005 && t.tb.voidWindow) = true ∧
    framesOn.flag fFrameEn = true ∧ goes (exec (.tbSet 0 1) framesOn) (fun t => t.flag fTbRejected && t.tb.ns == 0) = true := by decide +kernel

theorem wit_period : goes (exec (.tbFramePeriodWrite 0 16666666) State.reset) (fun t => t.reg kFramePeriod == 16666666) = true ∧
    goes (exec (.tbFramePeriodWrite 0 100000000) framesOn) (fun t => t.tb.pendPeriod == some 100000000 && t.reg kFramePeriod == 33333333) = true ∧
    goes (exec (.tbFramePeriodWrite 0 16666665) State.reset) (fun t => t.flag fTbRejected && t.reg kFramePeriod == 33333333) = true ∧
    goes (exec (.tbFramePeriodWrite 0 100000001) State.reset) (fun t => t.flag fTbRejected) = true ∧
    (∀ k, k < 8 → State.reset.flag (fFdlEn k) = true → State.reset.get (fFdlOffset k) * 1000 < 2 * 16666666) := by decide +kernel

theorem wit_apply : framesOn.tb.applyAt = none ∧ framesOn.tb.pendPeriod = some 20000000 ∧ 2 ≤ (2 - framesOn.reg kFrameNum).toNat ∧
    goes (exec (.tbFrameApplyWrite 0 2) framesOn) (fun t => t.tb.applyAt == some 2 && t.reg kFrameApply == 2) = true ∧
    goes (exec (.tbFrameApplyWrite 0 1000000) framesOn) (fun t => t.tb.applyAt == some 1000000) = true ∧
    goes (exec (.tbFrameApplyWrite 0 1) framesOn) (fun t => t.flag fTbRejected && t.tb.applyAt == none) = true ∧
    goes (exec (.tbFrameApplyWrite 0 5) { framesOn with tb := { framesOn.tb with applyAt := some 9 } }) (fun t => t.flag fTbRejected) = true := by decide +kernel

/-- Offsets from 100 us to less than twice the period of 33.333333 ms (R65). -/
theorem wit_fdl : (fFdlEn 7).ofWord 0x80000064 = 1 ∧ (fFdlOffset 7).ofWord 0x80000064 = 100 ∧
    goes (exec (.tbFdlCfgWrite 0 7 0x80000064) State.reset) (fun t => t.get (fFdlOffset 7) == 100 && t.flag (fFdlEn 7)) = true ∧
    goes (exec (.tbFdlCfgWrite 0 0 (0x80000000 + 66666)) State.reset) (fun t => t.get (fFdlOffset 0) == 66666) = true ∧
    goes (exec (.tbFdlCfgWrite 0 0 (0x80000000 + 66667)) State.reset) (fun t => t.flag fTbRejected) = true ∧
    goes (exec (.tbFdlCfgWrite 0 0 0x80000063) State.reset) (fun t => t.flag fTbRejected) = true ∧
    goes (exec (.tbFdlCfgWrite 0 0 0x63) State.reset) (fun t => t.get (fFdlOffset 0) == 0x63) = true := by decide +kernel

theorem wit_epoch_rejected : goes (exec (.pairHiWrite 0 0x1044 1) framesOn) (fun t => t.flag fTbRejected && t.reg kFrameEpoch == 0) = true := by decide +kernel

-- HEDGEROW

/-- A block with one input, stream 16, and protective and warning fields ahead of the vehicle (R114). -/
def hcbBytes : List Byte :=
  let body := leBytes 4 0x48434231 ++ leBytes 2 1 ++ leBytes 2 284 ++ [1, 2] ++ leBytes 2 100 ++ leBytes 2 2000 ++ leBytes 2 20 ++ leBytes 2 1000 ++ leBytes 2 1000 ++ [3, 0, 0, 0] ++
    leBytes 2 0 ++ leBytes 2 0 ++ leBytes 2 1000 ++ leBytes 2 0 ++ leBytes 2 0 ++ leBytes 2 1000 ++ List.replicate 52 0 ++ List.replicate 64 0 ++
    [16, 0] ++ leBytes 2 100 ++ List.replicate 12 0 ++ leBytes 4 280 ++ leBytes 2 0 ++ List.replicate 10 0 ++ List.replicate 96 0
  body ++ leBytes 4 1517852467

def hcb : Hcb :=
  { version := 1, length := 284, crc := 0, minPoints := 2, zMin := 100, zMax := 2000, creepSpeed := 20, fallbackMax := 1000, releaseMs := 1000,
    pf := [(0, 0), (1000, 0), (0, 1000)], wf := [], streams := [{ stream := 16, timeoutMs := 100, mount := [0, 0, 0, 0, 0, 0], prog := [] }] }

/-- The input's coverage of the whole grid, without points. -/
def clean : HdgInput := { HdgInput.reset with covered := true }

/-- Hedgerow with the block in force and its input clean. -/
def hdg : State := { (State.reset.put fHdgMode 0).put fHdgCmd 0 with hdg := { hcb := some hcb, inputs := [(0, clean)], seen := [], read := true, alive := true } }

/-- The same, with no input covered. -/
def hdgBlind : State := { hdg with hdg := { hdg.hdg with inputs := [] } }

set_option maxRecDepth 100000 in
theorem wit_hcb_valid : ((hcbOf hcbBytes).map (fun h => { h with crc := 0 })) = some hcb := by decide +kernel

theorem wit_field_evaluation : okB hdg = true ∧ hdg.hdg.hcb = some hcb ∧ hdg.hdg.alive = true ∧
    okB hdgBlind = true ∧ hdgBlind.hdg.alive = true ∧ hdg.get fHdgMode = 0 := by decide +kernel

/-- The boot has begun and bank A holds the block in its HCB slot, or nothing. -/
def hdgBoot (bs : List Byte) : State :=
  { State.reset with boot := { Boot.reset with begun := true, flash := { Flash.erased with slots := [(3, bs)] } } }

set_option maxRecDepth 100000 in
theorem wit_hcb_load : (hdgBoot hcbBytes).hdg.read = false ∧ (hdgBoot hcbBytes).boot.begun = true ∧
    (hcbOf ((hdgBoot hcbBytes).boot.flash.image (hdgBoot hcbBytes).boot.flash.bank 4)).isSome = true ∧
    goes (exec .hedgerowHcbLoad (hdgBoot hcbBytes)) (fun t => t.flag fHcbValid && t.hdg.hcb.isSome && t.reg 0x8004 == 0x1011C) = true ∧
    hcbOf ((hdgBoot []).boot.flash.image (hdgBoot []).boot.flash.bank 4) = none ∧
    goes (exec .hedgerowHcbLoad (hdgBoot [])) (fun t => t.get fHdgMode == 2 && raised t 0xA305 .held) = true := by decide +kernel

/-- A packet for Hedgerow, of no input. -/
def udp : UdpPacket := { srcIp := 0, dstPort := 0, payload := [], checksumOk := true, fragment := false, udpHeader := true, malformed := false, tags := 0 }

/-- The board binds input 0 to MAC 1, port 7. -/
def bind : List HdgBinding := [{ mac := 1, port := 7, srcIp := 0 }]

/-- A packet for input 0, and a fragment without a UDP header. -/
def pkt7 : UdpPacket := { udp with dstPort := 7, payload := [1] }
def frag : UdpPacket := { udp with fragment := true, udpHeader := false }

/-- The block's program accepts every packet. -/
def hdgEnd : State := { hdg with hdg := { hdg.hdg with hcb := some { hcb with streams := [{ stream := 16, timeoutMs := 100, mount := [0, 0, 0, 0, 0, 0], prog := [0] }] } } }

theorem wit_hdg_packet : hdg.hdg.hcb = some hcb ∧ hdgInputsOf 1 bind 1 pkt7 = [0] ∧ hdgInputsOf 1 bind 0 pkt7 = [] ∧ udpSound pkt7 = true ∧
    hdgInputsOf 1 bind 1 { pkt7 with dstPort := 8 } = [] ∧
    goes (exec (.hedgerowPacket bind 1 pkt7 false) hdgEnd) (fun t => (t.hdgInput 0).covered && t.draws == 1 && !(t.hdgInput 0).dirty) = true ∧
    goes (exec (.hedgerowPacket bind 1 { pkt7 with checksumOk := false } false) hdgEnd) (fun t => !(t.hdgInput 0).covered && t.reg kHdgInputLoss == 1) = true ∧
    goes (exec (.hedgerowPacket bind 1 frag false) hdg) (fun t => !(t.hdgInput 0).covered && (t.hdgInput 0).dirty && t.reg kHdgInputLoss == 1) = true ∧
    goes (exec (.hedgerowPacket bind 1 pkt7 true) hdg) (fun t => !(t.hdgInput 0).covered && t.reg kHdgOverrun == 1 && !t.flag (fInputOk 0)) = true ∧
    goes (exec (.hedgerowPacket [] 1 pkt7 false) hdg) (fun t => (t.hdgInput 0).covered) = true := by decide +kernel

theorem wit_hdg_timers : hcb.streams[0]?.isSome = true ∧ (hdg.hdgInput 0).covered = true ∧
    goes (exec (.hedgerowInputTimeout 0 100) hdg) (fun t => !(t.hdgInput 0).covered && t.reg kHdgInputLoss == 1) = true ∧
    (hdg.on fStopDrive).get fHdgCmd ≠ cmdStop ∧ (hdg.on fStopDrive).get fHdgMode ≠ 2 ∧
    goes (exec (.hedgerowReleaseExpiry 1000) (hdg.on fStopDrive)) (fun t => !t.flag fStopDrive) = true ∧
    goes (exec (.hedgerowReleaseExpiry 999) (hdg.on fStopDrive)) (fun t => t.flag fStopDrive) = true ∧
    goes (exec (.hedgerowReleaseExpiry 1000) ((hdg.on fStopDrive).put fHdgMode 2)) (fun t => t.flag fStopDrive) = true ∧
    goes (exec (.fallbackMaxExpiry 1001) (hdg.put fHdgMode 1)) (fun t => t.flag fFbTimeout && t.get fHdgCmd == cmdStop) = true ∧
    goes (exec (.fallbackMaxExpiry 1000) (hdg.put fHdgMode 1)) (fun t => !t.flag fFbTimeout) = true := by decide +kernel

/-- The Reeve runs. -/
def alive : State := { hdg with reeve := { Reeve.reset with alive := true } }

theorem wit_heartbeats : okB alive = true ∧ alive.reeve.alive = true ∧ alive.hdg.alive = true ∧ alive.reeve.hearsHedgerow = true ∧
    goes (exec (.heartbeatSend true) alive) (fun t => t.flag fReeveOk) = true ∧ goes (exec (.heartbeatSend false) alive) (fun t => t.reeve.hearsHedgerow) = true ∧
    goes (exec (.reeveHeartbeatLoss 3) (alive.on fReeveOk)) (fun t => t.get fHdgMode == 2 && !t.reeve.alive && raised t 0xA304 .held) = true ∧
    goes (exec .reeveLockstepMismatch alive) (fun t => t.get fHdgMode == 2 && t.flag fStopDrive && raised t 0xA306 .held) = true ∧
    goes (exec (.hedgerowHeartbeatLoss (.silent 3)) alive) (fun t => t.flag fDriveOther && raised t 0xA303 .held) = true ∧
    alive.hdgFails .lockstep = true ∧ goes (exec (.hedgerowHeartbeatLoss .lockstep) alive) (fun t => !t.hdg.alive && raised t 0xA303 .held) = true ∧
    goes (exec (.hdgSupplyFault 10) alive) (fun t => t.flag fStopDrive && !t.hdg.alive) = true := by decide +kernel

/-- The same in Banked: the island of core 0's array is off. -/
def aliveOff : State := alive.on (fIslOff 0)

theorem wit_self_test : alive.testsDue = false ∧ alive.testRuns (.checkLane 0) = true ∧ alive.testRuns (.stopDriver true) = true ∧ Diagnostic.twin ∈ alive.diagnostics ∧
    alive.get fPwrState = pwrRun ∧ alive.power.wokenAt = none ∧ alive.skipsTest .twin = false ∧ aliveOff.skipsTest (.checkLane 0) = true ∧
    goes (exec (.selfTestRun .twin true false) alive) (fun t => t.reeve.events == []) = true ∧
    goes (exec (.selfTestRun (.stopDriver true) true false) alive) (fun t => t.emitted == [.stopPulse true]) = true ∧
    goes (exec (.selfTestRun (.decoders none) true false) alive) (fun t => raised t 0xA121 .held) = true ∧
    goes (exec (.selfTestRun (.checkLane 0) false true) aliveOff) (fun t => t.reeve.events == []) = true ∧
    goes (exec (.selfTestOverdue .twin 2001) alive) (fun t => raised t 0xA122 .held) = true ∧
    goes (exec (.selfTestOverdue (.residue 0) 2001) { alive with power := { alive.power with wokenAt := some 0 } }) (fun t => t.reeve.events == []) = true := by decide +kernel

/-- With the Reeve in RECOVERY and a HELD cause at Hedgerow. -/
def heldHdg : State := (alive.put fHdgMode 2).put fHdgHeldCause 0xA305

theorem test_held_is_kept : (heldHdg.hdgSetMode 0).get fHdgMode = 2 ∧ (((alive.put fHdgMode 2).hdgSetMode 0).get fHdgMode = 0) := by decide +kernel

-- THE VEHICLE INTERFACES

theorem wit_safe_stop : goes (exec .safeStopPeriodic alive) (fun t => t.get fSsSeq == 1 && (t.veh.reeveBuf.map (·.length)) == some 8) = true ∧
    goes (exec .safeStopQueue { alive with veh := { Vehicle.reset with fillDue := true } }) (fun t => t.get fSsSeq == 1 && !t.veh.fillDue) = true ∧
    ({ alive with veh := { Vehicle.reset with fillDue := true } } : State).veh.fillDue = true ∧ alive.can0Down = false ∧
    goes (exec .safeStopPeriodic (alive.put (fCanState 0) 2)) (fun t => t.veh.reeveBuf == none && t.veh.fallover.isSome) = true ∧
    goes (exec (.perceptionStatusSend 5) { alive with veh := { Vehicle.reset with psBuf := some [] } }) (fun t => t.veh.psSeq == 1 && t.reg (kTxAbandon 0) == 1) = true := by decide +kernel

/-- CAN 0 and CAN 1 are enabled and the Reeve runs. -/
def can : State := (((alive.on (fCanEn 0)).on (fCanEn 1)).put (fCanState 0) 0).put (fCanState 1) 0

theorem wit_can_send : okB can = true ∧ can.canOn 0 = true ∧ can.canOn 1 = true ∧
    goes (exec (.canTxComplete 0 false) { can.put (fTec 0) 3 with veh := { Vehicle.reset with hdgBuf := some [1] } }) (fun t => t.veh.hdgBuf == none && t.get (fTec 0) == 2 && t.emitted.length == 1) = true ∧
    bitAt (0x80000000 : Word).toNat 31 = true ∧ goes (exec (.canTxRequest 0 15 0x80050300) can) (fun t => t.get (fTxbStatus 15) == 1 && t.reg (kTxb 15 4) == 0x80050300) = true ∧
    goes (exec (.canTxAbort 0 15 0x40000000) (can.put (fTxbStatus 15) 1)) (fun t => t.get (fTxbStatus 15) == 0) = true ∧
    goes (exec (.canTxTimeout 2 100) ((can.put (fTxbStatus 2) 1).put (fTxbTmo 2) 100)) (fun t => t.get (fTxbStatus 2) == 3 && t.reg (kTxAbandon 1) == 1) = true ∧
    goes (exec (.safeStopSupervisionExpiry true 5) { can with veh := { Vehicle.reset with hdgBuf := some [0, 1, 2, 3, 4, 5, 6, 7] } }) (fun t => t.veh.fallover.isSome && raised t 0x7103 .report) = true ∧
    goes (exec (.safeStopSupervisionExpiry false 5) { can with veh := { Vehicle.reset with reeveBuf := some [0, 1, 2, 3, 4, 5, 6, 7] } }) (fun t => raised t 0x7103 .report) = true := by decide +kernel

theorem wit_can_errors : can.get (fCanState 1) = 0 ∧ (can.put (fTec 1) 119).get (fTec 1) + 8 ≤ 127 ∧
    goes (exec (.canTxError 1 false false) (can.put (fTec 1) 119)) (fun t => t.get (fTec 1) == 127 && t.get (fCanState 1) == 0) = true ∧
    goes (exec (.canTxError 0 false false) (can.put (fTec 0) 248)) (fun t => t.get (fCanState 0) == 2 && t.flag fDriveCan && t.reg (kBusoff 0) == 1) = true ∧
    goes (exec (.canReceiveError 0 true) (can.put (fRec 0) 119)) (fun t => t.get (fRec 0) == 127) = true ∧
    goes (exec (.canReceiveError 0 false) can) (fun t => t.get (fRec 0) == 1) = true ∧
    goes (exec (.canBusoffRecoveryDone 1) { can.put (fCanState 1) 2 with veh := { Vehicle.reset with recovering1 := true } }) (fun t => t.get (fCanState 1) == 0 && !t.veh.recovering1) = true ∧
    (can.put ⟨0x4080C, 16, 14⟩ 100).get ⟨0x4080C, 16, 14⟩ ≤ 100 ∧
    goes (exec (.canHoldExpiry 100) ((can.put ⟨0x4080C, 16, 14⟩ 100).on fDriveCan)) (fun t => t.veh.holdOver && !t.flag fDriveCan) = true := by decide +kernel

/-- Filter 0 passes every standard frame. -/
def canRx : State := can.setReg 0x41800 0x80000000

def frame : CanFrame := { ext := false, id := 5, fdf := true, brs := true, remote := false, dlc := 2, data := [1, 2] }

theorem wit_can_receive : canRx.canForged frame = false ∧ (List.range 16).any (fun i => canRx.filterPasses i frame) = true ∧ canRx.veh.rx.length < 64 ∧
    canRx.get (fTec 1) ≤ 127 ∧ canRx.get (fRec 1) ≤ 127 ∧
    goes (exec (.canRxfPop 0 1) { can with veh := { Vehicle.reset with rx := [⟨0, 5, 0, [1]⟩, ⟨1, 6, 0, [2]⟩] } }) (fun t => t.veh.rx == [⟨1, 6, 0, [2]⟩] && t.reg kRxfStatus == 1) = true ∧
    goes (exec (.canRateRestore 0 0 0x40000000) ((can.on fLock).put (fRung 0) 2)) (fun t => t.get (fRung 0) == 0) = true := by decide +kernel

theorem wit_read_back : (can.on fStopDrive).lineDriven = true ∧ can.lineDriven = false ∧
    goes (exec (.safeStopReadbackFault 10) (can.on fStopDrive)) (fun t => raised t 0x7110 .held) = true ∧
    goes (exec .safeStopExternalLow can) (fun t => t.flag fExtLow && raised t 0x7111 .report) = true := by decide +kernel

/-- MAC 4 is enabled with every speed of its mask, and its link is up. -/
def eth : State := (State.reset.setReg (kEthCfg 4) 0x87000000).on (fEthLink 4)

theorem wit_eth_link : okB eth = true ∧ eth.flag (fEthEn 4) = true ∧ (fEthEn 0).ofWord 0x9F000000 = 1 ∧ State.reset.blocksOff = false ∧
    goes (exec (.ethEnable 0 0 0x9F000000) State.reset) (fun t => t.flag (fEthEn 0) && t.get (fEthFloor 0) == 0x1F) = true ∧
    bitAt (eth.get (fSpeedMask 4)) 2 = true ∧ goes (exec (.ethLinkUp 4 2 true) eth) (fun t => t.flag (fEthLink 4)) = true ∧
    goes (exec (.ethLinkUp 4 2 false) eth) (fun t => !t.flag (fEthLink 4) && raised t 0x7204 .report) = true ∧
    goes (exec (.ethLinkDown 4) eth) (fun t => !t.flag (fEthLink 4) && raised t 0x7201 .report) = true := by decide +kernel

theorem wit_eth_frames : goes (exec (.ethFrameReceive 4 5 .pause true false false) eth) (fun t => t.reg (kEthCnt 4 0) == 0) = true ∧
    goes (exec (.ethFrameReceive 4 5 .other true false true) eth) (fun t => t.reg (kEthCnt 4 2) == 1) = true ∧ eth.ethAccepts 4 0xFFFFFFFFFFFF = true ∧
    goes (exec (.ethFrameReceive 4 0xFFFFFFFFFFFF .other true false false) eth) (fun t => t.reg (kEthCnt 4 0) == 1 && t.reg (kEthCnt 4 3) == 1) = true ∧
    (eth.setReg 0x1000 0x41).timeSends 4 false .announce = true ∧
    goes (exec (.timeMessageTransmit 4 false .announce [] (List.replicate 64 0)) (eth.setReg 0x1000 0x41))
      (fun t => t.emitted == [.ethFrame 4 (List.replicate 47 0 ++ [255] ++ List.replicate 16 0)] && t.reg (kEthCnt 4 4) == 1) = true := by
  decide +kernel

theorem wit_trigger_edge : State.reset.flag (fWakeSrc 3) = false ∧ goes (exec (.trigInEdge 3 true 49) State.reset) (fun t => t.reg kPinGlitch == 1) = true ∧
    60 + 8 ≤ ({ State.reset with tb := { Timebase.reset with ns := 68 } } : State).now := by decide +kernel

-- POWER, BOOT, HOST

/-- A boot configuration block, a Steward, a Reeve and a manifest image that verify, and list the pair 5, 7 as TESTED (R754 to R758). -/
def bcbImage : List Byte := leBytes 64 0x181849ac000000000000000000000000000000000000000000000000000000000000000000000000000000000000000000000000000000786e3c000031424342
def stwImage : List Byte := leBytes 132 0x64777473a5c3c7b877db6a7d8803278c42b34e203395adeeeb640bc808c15aeec49754a0000000000000000000000000000000000000000000000000000000000000000000000000000000000000000000000000a75a8a67f8a74040349e88bed122aa39e9ecfff26e9752c56366b7f22531f3590000000400000005000000014d495746
def reeveImage : List Byte := leBytes 132 0x76656572be94ee570d2280b0da2173987be19b7100810b969bed3bf26fc37c85186426bb000000000000000000000000000000000000000000000000000000000000000000000000000000000000000000000000bde180b5dca943be67addc8b5ebfcde617873de589ba13877212e25fb182b4710000000400000007000000024d495746
def manImage : List Byte := leBytes 160 0x10000000700000005000000000000000000000000000000011d6f4ef20470aa8dcc1c33ea6cee6e6ef81b681b277d996b0fd979eb1532e30100000000000000000000000000000000000000000000000000000000000000000000000000000000000000000000000080434f059d49dde8308dab9c05d015edc3d5af35762c7bb4c34c0e274ff333e40000002000000009000000034d495746

/-- The boot has begun, and the boot ROM has started the Steward from bank A. -/
def booting : State :=
  { st [(0x6000, 0x100)] with boot := { Boot.reset with begun := true, flash := { Flash.erased with bcb := bcbImage, slots := [(0, stwImage), (1, reeveImage), (2, manImage)] } } }

/-- Step 4 is over. -/
def staged : State := { (st [(0x6000, 0x200)]) with boot := { booting.boot with bcbOk := true, reeveOk := true, mailboxes := true } }

/-- Every core is tested, and the Reeve runs at stage 3. -/
def tested : State :=
  { (st [(0x6000, 0x300)]) with boot := { staged.boot with trainEnded := true, trained := true, kats := List.range 16, tested := staged.diagnostics }, reeve := { Reeve.reset with alive := true }, hdg := alive.hdg }

/-- The device has booted and is in NORMAL. -/
def running : State :=
  { (((st [(0xC, 0x1800), (0x6000, 0x400), (0x4000, 0x12492)]).put fReeveMode 0).put fHdgMode 0).put fHdgCmd 0 with boot := { tested.boot with done := true }, reeve := { Reeve.reset with alive := true }, hdg := alive.hdg }

theorem wit_power_on : State.reset.boot.begun = false ∧ State.reset.boot.railHold = false ∧
    ({ State.reset with boot := { Boot.reset with railHold := true } } : State).boot.railHold = true ∧
    goes (exec (.resetNPulse 1000) running) (fun t => t.reg 0xC == regReset 0xC && t.boot.begun == false) = true ∧
    goes (exec (.resetNPulse 199) running) (fun t => t == running) = true ∧
    goes (exec .railUndervoltReset running) (fun t => t.boot.railHold && t.hdg == running.hdg && t.reg 0xC == 0) = true ∧
    goes (exec (.bootStart false none) State.reset) (fun t => t.boot.begun && t.get (fPll 5) == 1) = true ∧
    goes (exec (.bootStart true none) State.reset) (fun t => t.boot.test && t.get fBootCode == 0x9108) = true ∧
    goes (exec (.railRecoveryRelease 10 false) { State.reset with boot := { Boot.reset with railHold := true } }) (fun t => t.boot.begun) = true := by decide +kernel

set_option maxRecDepth 100000 in
theorem wit_boot_images : (bcbOf .frw1600 bcbImage) = some ⟨0, false, 60, 110, 120⟩ ∧ imageOk (List.replicate 32 0) 2 (booting.boot.flash.image (booting.get fBootBank) 2) = true ∧
    ((booting.boot.flash.manifest (List.replicate 32 0) (booting.get fBootBank)).map (fun m => m.pairClass 5 7)) = some 1 ∧
    imageVersion (booting.boot.flash.image 0 1) = 5 ∧ imageVersion (booting.boot.flash.image 0 2) = 7 ∧ booting.get fBootStage = 1 ∧ booting.boot.done = false := by decide +kernel

theorem wit_boot_steps : bcbOf (hdgBoot []).fuse.grade [] = none ∧ booting.fuse.grade = .frw1600 ∧
    staged.get fBootStage = 2 ∧ staged.boot.bcbOk = true ∧ staged.boot.trainEnded = false ∧ staged.boot.done = false ∧ staged.get fPwrState ≠ pwrWaking ∧
    goes (exec (.memoryTrainingDone 2 false 1) staged) (fun t => t.get fBootCode == 0x3102 && t.boot.limited == 0x3102) = true ∧
    ({ staged with boot := { staged.boot with trainEnded := true } } : State).get fBootBank = 0 ∧ staged.boot.flash.bank = 0 ∧ staged.boot.limited = 0 ∧
    goes (exec .reeveStart { staged with boot := { staged.boot with trainEnded := true } }) (fun t => t.reeve.alive && t.get fBootStage == 3) = true ∧
    tested.reeve.sweep = none ∧ tested.testsDue = true ∧ tested.blocksOff = false ∧ 15 < tested.nCores ∧
    goes (exec (.knownAnswerTest 15 true) { tested with boot := { tested.boot with kats := [0] } }) (fun t => t.boot.kats == [0, 15]) = true ∧
    tested.get fBootStage = 3 ∧ tested.boot.done = false ∧ tested.reeve.alive = true ∧ tested.testsPassed = true ∧ tested.recovering = false ∧ tested.monitorCode none = none ∧
    tested.get fHdgHeldCause = 0 ∧ goes (exec (.bootComplete none) tested) (fun t => t.boot.done && t.mode == 0) = true := by decide +kernel

set_option maxRecDepth 100000 in
theorem wit_memory_training : goes (exec (.memoryTrainingDone 2 false 0) staged) (fun t => t.get fUsableGib == 60 && t.boot.trained) = true := by decide +kernel

theorem wit_plls : okB running = true ∧ running.boot.done = true ∧ running.get fPwrState = pwrRun ∧ running.power.crystalLost = false ∧
    goes (exec (.pllLock .lpll) (running.put (fPll 3) 4)) (fun t => t.get (fPll 3) == 2) = true ∧ (running.put (fPll 3) 4).get (fPll Pll.lpll.idx) = 4 ∧
    running.get (fPll 5) = 2 ∧ goes (exec (.pllLossOfLock .spll false) running) (fun t => t.get (fPll 5) == 4 && raised t 0x8103 .jobFault) = true ∧
    goes (exec .crystalLoss running) (fun t => t.power.crystalLost && t.reeve.events.length == 5) = true ∧ running.turnsAway 0 = false ∧
    goes (exec (.spllCalRequest (some (0, 1))) running) (fun t => t.power.calDue.isSome && t.power.calAsked) = true ∧
    ({ running with power := { Power.reset with calDue := some 0 } } : State).calAllowed = true ∧ ({ running with power := { Power.reset with calDue := some 0 } } : State).inCalWindow = true ∧
    goes (exec .spllCalibrationStart { running with power := { Power.reset with calDue := some 0 } }) (fun t => t.get (fPll 5) == 3) = true ∧
    goes (exec (.spllCalForce 10) { running with power := { Power.reset with calDue := some 0 } }) (fun t => t.reg kSpllForced == 1 && raised t 0x8403 .report) = true ∧
    goes (exec .spllCalibrationDone (running.put (fPll 5) 3)) (fun t => t.get (fPll 5) == 2 && t.reg kSpllCals == 1) = true := by decide +kernel

/-- The device is BANKED; a wake has been asked for. -/
def banked : State := running.put fPwrState pwrBanked
def waking : State := { running.put fPwrState pwrWaking with power := { Power.reset with wakeAt := some 0 } }

theorem wit_banked : running.mode ≠ 1 ∧ running.bankable = true ∧ (running.put fReeveMode 2).mode ≠ 1 ∧ (running.put fReeveMode 2).bankable = false ∧
    goes (exec (.bankEnterRequest 0 1) running) (fun t => t.get fPwrState == pwrEntering) = true ∧ goes (exec (.bankEnterRequest 0 1) (running.put fReeveMode 2)) (fun t => t.flag fPwrRejected) = true ∧
    (running.put fPwrState pwrEntering).power.wakeHeld = false ∧ banked.turnsAway 0 = false ∧
    goes (exec .bankEntryComplete (running.put fPwrState pwrEntering)) (fun t => t.get fPwrState == pwrBanked && t.blocksOff) = true ∧
    goes (exec (.wakeRequest 0 1) banked) (fun t => t.get fPwrState == pwrWaking && t.power.wakeAt == some 0) = true ∧
    okB waking = true ∧ (waking.reachTick 1000000).wakeDone = true ∧ waking.flag fFrameEn = false ∧ ((waking.put (fPll 0) 1).reachTick 1000000).wakeDone = false ∧
    goes (exec .wakeComplete waking) (fun t => t.get fPwrState == pwrRun && t.now == 40000000) = true ∧
    goes (exec .wakeComplete (waking.put (fPll 0) 1)) (fun t => t.flag fFallback && raised t 0x9301 .held) = true := by decide +kernel

/-- The limits of a configuration block are in force: 60 W, 110 °C, 120 °C. -/
def limits : State := (running.setReg 0x5004 60).setReg 0x500C 0x786E

theorem wit_throttles : okB limits = true ∧ limits.get fPwrLimit = 60 ∧
    goes (exec (.powerSample 600) limits) (fun t => t.reg kPwrNow == 600) = true ∧ goes (exec (.powerSample 580) limits) (fun t => t.power.lowFrom == none) = true ∧
    goes (exec (.powerSample 579) limits) (fun t => t.power.lowFrom == some 0) = true ∧
    goes (exec (.powerSample 601) limits.fullE) (fun t => t.reg kPowerSteps == 1 && t.get (fEPower 0) == 39) = true ∧
    ((limits.setReg kPwrNow 601).physCores.all (fun i => decide ((limits.setReg kPwrNow 601).get (fEPower i) ≤ 11))) = true ∧
    goes (exec (.powerLimitPersist 10) (limits.setReg kPwrNow 601)) (fun t => raised t 0x8405 .report) = true ∧
    limits.physCores = List.range 16 ∧ (([125] : List (BitVec 8)).getD 0 0).toInt = 125 ∧
    goes (exec (.thermalSample [125] 0) limits) (fun t => t.reeve.events.any (fun e => e.code == 0x8202)) = true ∧
    (((List.range 3).foldl (fun s j => s.on (fIslPaused (45 + j))) limits).pausedAt 15) = true ∧
    goes (exec (.thermalPauseEnd 15 2000) ((List.range 3).foldl (fun s j => s.on (fIslPaused (45 + j))) limits)) (fun t => !t.pausedAt 15 && t.get (fETherm 15) == 11) = true ∧
    limits.flag (fIslPaused 63) = false ∧ limits.flag (fIslOff 63) = false ∧
    goes (exec (.clockMonitorWindow 63 (-50001) false false) limits) (fun t => t.flag (fMonFail 63) && raised t 0x8101 .jobFault) = true ∧
    goes (exec (.clockMonitorWindow 63 (-50000) false false) limits) (fun t => t == limits) = true ∧
    limits.boot.railHold = false ∧ goes (exec (.supplyOutOfWindow 5 10) limits) (fun t => t.flag (fRailFail 5) && raised t 0x8201 .jobFault) = true := by decide +kernel

/-- The link is up, and seven virtual functions are present. -/
def linked : State := { running.on fDlUp with pcie := withVf.pcie }

theorem wit_link : okB linked = true ∧ running.pcie.perst = false ∧ running.get ⟨0x4000, 12, 3⟩ = 2 ∧ 4 ≤ running.linkLimit.1 ∧ 8 ≤ running.linkLimit.2 ∧
    goes (exec (.pcieLinkUp 4 8) running) (fun t => t.flag fDlUp && t.get fLinkWidth == 8) = true ∧
    linked.pcie.errors = 0 ∧ 1 ≤ linked.get fLinkThresh ∧ goes (exec .pcieLinkError linked) (fun t => t.reg kPcieCe == 1) = true ∧
    linked.turnsAway 0 = false ∧ fMaxSpeed.ofWord (0x80010120 : Word) = 1 ∧ fMaxWidth.ofWord (0x80010120 : Word) = 1 ∧ fLinkThresh.ofWord (0x80010120 : Word) = 0x20 ∧ linkWidthOk 1 = true ∧
    goes (exec (.pcieRestore 0 0x80010120) linked) (fun t => t.get fMaxSpeed == 1 && t.get fFloor == 6) = true ∧ Tbl.wf linked.pcie.fns = true ∧
    goes (exec .pcieLinkDown linked) (fun t => !t.flag fDlUp && !t.pcie.vfEnable) = true ∧ goes (exec (.perst true) linked) (fun t => t.pcie.perst && !t.flag fDlUp) = true ∧
    running.pcie.vfEnable = false ∧ linked.present 7 = true ∧ linked.pcie.vfEnable = true ∧
    goes (exec (.configSpaceWrite 7 (.busMaster true)) linked) (fun t => (t.fnCfg 7).bme) = true ∧ goes (exec .vfEnableClear linked) (fun t => !t.pcie.vfEnable) = true ∧
    goes (exec (.functionLevelReset 7) { linked with pcie := { linked.pcie with fns := [(7, { FnCfg.reset with bme := true })] } }) (fun t => !(t.fnCfg 7).bme) = true ∧
    goes (exec (.pcieTlpViolation 7 .malformed []) linked) (fun t => t.reg kPcieMalformed == 1 && raised t 0x6303 .violation) = true := by decide +kernel

theorem wit_host_memory : linked.dramBytes = 25769803776 ∧ (linked.fnCfg 0).d3hot = false ∧ linked.pcie.perst = false ∧ linked.ramBad 25769803712 = false ∧
    goes (exec (.bar2Access 0 25769803712 0 (some (List.replicate 64 7)) false .clean) linked) (fun t => t.ramByte 25769803775 == 7) = true ∧
    linked.badIn 0 4 = none ∧ goes (exec (.bar2Access 0 25769803775 2 none false .clean) linked) (fun t => t.reg kBar2Refused == 1) = true ∧
    goes (exec (.bar2Access 0 0 1 none false .clean) (linked.ramWrite (.host 0) 0 [9])) (fun t => t.emitted == [.dramData (.host 0) 0 [9] false]) = true ∧
    goes (exec (.boundaryScanAccess false true true []) linked) (fun t => t.tap.st == .reset && t.tap.tdo == none) = true ∧
    goes (exec (.boundaryScanAccess true false true []) { linked with tap := { Tap.reset with st := .shiftDr, dr := [false, true] } }) (fun t => t.tap.dr == [true, true]) = true := by decide +kernel

-- QUEUES

/-- A descriptor of 64 bytes: program 0x10000, args 0x20000, and the words from byte 40 on (R453). -/
def descBytes (frame w44 w48 w52 w56 : Nat) : List Byte :=
  leBytes 8 0x10000 ++ leBytes 8 0x20000 ++ leBytes 8 0 ++ leBytes 8 0 ++ leBytes 8 77 ++ leBytes 4 frame ++ leBytes 4 w44 ++ leBytes 4 w48 ++ leBytes 4 w52 ++ leBytes 4 w56 ++ leBytes 4 0

/-- Any core, priority 3, pre-emption allowed. -/
def desc : Desc := Desc.ofBytes (descBytes 0 200 0x03FF0000 1 0)

def qctx : List Word := [0x17040000, 0x1000, 0, 0x9000, 0, 0]

/-- A submitted descriptor at the ring's first place. -/
def qjob (a : JobAt) : QJob := { pos := 0, slot := 0, submit := 0, replay := none, fold := none, waited := false, late := false, at_ := a }

/-- Partition 2 may use every core and the first 8 GiB; its session is FULL; its queue 5 holds these jobs. -/
def qmBase : State :=
  ((((linked.setReg (kPart 2 0) 0x8000FFFF).setReg (kPart 2 4) 0x80001000).put (fSessState 2) 2).setReg (own 2 0x24100) 5).ramWrite .queueManager 0x1000 (descBytes 0 200 0x03FF0000 1 0)

def queued (state : Nat) (jobs lost : List QJob) : State := qmBase.setQueue 5 { QueueSt.reset with state := state, ctx := qctx, jobs := jobs, lost := lost, next := 1, prod := 1 }

theorem wit_doorbells : okB qmBase = true ∧ (queued 1 [] []).turnsAway 2 = false ∧ ((queued 1 [] []).queue 5).owner = 2 ∧ (queued 1 [] []).inReset 2 = false ∧
    ((queued 1 [] []).queue 5).isFrame = false ∧ (queued 1 [] []).sessFull 2 = true ∧ ((queued 1 [] []).queue 5).span + 16 ≤ ((queued 1 [] []).queue 5).size ∧
    goes (exec (.sqDb 2 5 17) (queued 1 [] [])) (fun t => (t.queue 5).jobs.length == 16 && (t.queue 5).jobs.map (fun j => j.slot) == [1, 2, 3, 4, 5, 6, 7, 8, 9, 10, 11, 12, 13, 14, 15, 0]) = true ∧
    goes (exec (.sqDb 3 5 17) (queued 1 [] [])) (fun t => t.reg kQmViol == 1 && raised t 0x4101 .violation) = true ∧
    goes (exec (.cqDb 2 5 0) (queued 1 [] [])) (fun t => (t.queue 5).cons == 0) = true ∧
    (queued 0 [] []).qmMay 2 5 = true ∧ (queued 0 [] []).get (fQsel 2) = 5 ∧ (queued 0 [] []).ctxOk ((queued 0 [] []).queue 5) = true ∧
    goes (exec (.queueEnable 2) (queued 0 [] [])) (fun t => (t.queue 5).state == 1 && (t.queue 5).next == 0) = true ∧
    goes (exec (.queueEnable 2) (queued 1 [] [])) (fun t => t.flag (fQmRejected 2)) = true ∧
    goes (exec (.queueDisable 2) (queued 1 [qjob (.waiting none)] [])) (fun t => (t.queue 5).state == 0) = true ∧
    goes (exec (.queueDisable 2) (queued 1 [qjob (.placed 3)] [])) (fun t => (t.queue 5).state == 3) = true ∧
    goes (exec (.queueResumeReplay 2) (queued 2 [] [qjob (.placed 3)])) (fun t => (t.queue 5).jobs == [qjob (.waiting none)]) = true ∧
    goes (exec (.queueResumeSkip 2) (queued 2 [] [qjob (.placed 3)])) (fun t => (t.queue 5).jobs == [] && (t.queue 5).state == 1) = true ∧ qmBase.qm.slots = [] := by decide +kernel

/-- The queue's descriptor has been checked; it is dispatched to core 0; it is pre-empted there. -/
def ready : State := queued 1 [qjob (.waiting (some desc))] []

def job2 : CoreJob := { dt := 3, part := 2, sigEnd := 0, tallyCfg := 0, twin := false, err := 0 }
def dtEnt (saved : Option Saved) : DtEnt := { queue := 5, pos := 0, part := 2, core := 0, desc := desc, frame := 0xFFFFFFFF, submit := 0, preempted := saved.isSome, saved := saved }

/-- The job stands on core 0 as c says. -/
def onCore (c : CoreSt) : State :=
  { queued 1 [qjob (.placed 3)] [] with cores := [(0, c)], qm := { (queued 1 [qjob (.placed 3)] []).qm with dt := [(3, dtEnt none)] } }

theorem wit_fetch : ((queued 1 [qjob (.waiting none)] []).queue 5).head = some (qjob (.waiting none)) ∧ (queued 1 [qjob (.waiting none)] []).jobOk 2 0x1000 64 false = true ∧
    (queued 1 [qjob (.waiting none)] []).badIn 0x1000 64 = none ∧ Desc.ofBytes (qmBase.ramBytes 0x1000 64) = desc ∧
    qmBase.descFault ((queued 1 [] []).queue 5) (qjob (.waiting none)) desc = none ∧ qmBase.isTwin 2 desc = false ∧
    goes (exec (.descriptorFetch 5 .clean) (queued 1 [qjob (.waiting none)] [])) (fun t => (t.queue 5).jobs == [qjob (.waiting (some desc))]) = true ∧
    qmBase.descFault ((queued 1 [] []).queue 5) (qjob (.waiting none)) (Desc.ofBytes (descBytes 0 99 0x03FF0000 1 0)) = some 0x4103 ∧
    goes (exec (.descriptorFetch 5 .corrected) ((queued 1 [qjob (.waiting none)] []).ramWrite .queueManager 0x102C (leBytes 4 99))) (fun t => (t.queue 5).jobs.any (fun (j : QJob) => match j.at_ with | .done r => r.code == 0x4103 | _ => false)) = true ∧
    goes (exec (.descriptorFetch 5 .uncorrectable) (queued 1 [qjob (.waiting none)] [])) (fun t => raised t 0x3201 .jobFault) = true := by decide +kernel

theorem wit_dispatch : okB ready = true ∧ ready.isHeld = false ∧ ready.fenced = false ∧ ready.asleep = false ∧ ready.coreFree 0 = true ∧
    (ready.rejectForgotten.pick 0).1.map (fun c => c.pre == none && (ready.rejectForgotten.pick 0).2.argsWord c == []) = some true ∧
    goes (exec (.jobDispatch 0) ready) (fun t => (t.core 0).pc == 0x10000 && (t.queue 5).disp == 1 && (t.core 0).job.map (fun j => j.dt) == some 0) = true ∧
    goes (exec (.jobDispatch 1) ready) (fun t => (t.core 1).job == none) = true ∧
    (ready.on fFenced).isHeld = false ∧ goes (exec (.jobDispatch 0) (ready.on fFenced)) (fun t => (t.core 0).job == none) = true := by decide +kernel

theorem wit_retire : (onCore { CoreSt.reset with job := some job2, ended := true }).runs 0 = true ∧ ({ CoreSt.reset with job := some job2, ended := true } : CoreSt).finished = true ∧
    Tbl.find (onCore CoreSt.reset).qm.dt 3 = some (dtEnt none) ∧ desc.fdmEn = false ∧
    goes (exec (.jobRetire 0) (onCore { CoreSt.reset with job := some job2, ended := true })) (fun t => (t.queue 5).jobs.any (fun (j : QJob) => match j.at_ with | .done r => r.status == 0 && r.dt == some 3 && r.crc == 0 | _ => false)) = true ∧
    goes (exec (.jobRetire 0) (onCore { CoreSt.reset with job := some { job2 with err := 0x2401 }, ended := true })) (fun t => (t.queue 5).jobs.any (fun (j : QJob) => match j.at_ with | .done r => r.status == 1 && r.code == 0x2401 | _ => false)) = true := by decide +kernel

/-- The record of the retired job. -/
def rec2 (cleared : Bool) : Rec := { status := 0, code := 0, core := 0, dt := some 3, crc := 0, preempted := false, twin := false, userTag := 77, elapsedUs := 5, cleared := cleared }

/-- The retired job belongs to the perception partition. -/
def retired : State :=
  { (queued 1 [qjob (.done (rec2 false))] []).put fPerc 2 with qm := { (queued 1 [qjob (.done (rec2 false))] []).qm with dt := [(3, dtEnt none)] } }

theorem wit_clearance : retired.perc = 2 ∧ retired.retiredOf (dtEnt none) = some (rec2 false) ∧ retired.fenced = false ∧ retired.isTwin 2 desc = false ∧
    goes (exec (.reeveClearance 3) retired) (fun t => (t.queue 5).jobs == [qjob (.done (rec2 true))]) = true := by decide +kernel

/-- The retired job is a twin: both have retired, with equal checksums or not. -/
def twinRetired (same : Bool) : State :=
  { retired with qm := { retired.qm with dt := [(3, { dtEnt none with desc := { desc with twinId := 9 } })], pairs := [{ id := 9, frame := 0xFFFFFFFF, timer := 0, cores := [0, 1], retired := 2, same := same, late := false }] } }

theorem wit_twin_clearance : (twinRetired true).isTwin 2 { desc with twinId := 9 } = true ∧
    goes (exec (.reeveClearance 3) (twinRetired true)) (fun t => (t.queue 5).jobs == [qjob (.done (rec2 true))]) = true ∧
    goes (exec (.reeveClearance 3) (twinRetired false)) (fun t => (t.queue 5).jobs == [qjob (.done (rec2 false))]) = true := by decide +kernel

/-- The function of partition 2 can write host memory and send messages. -/
def hostOk (s : State) : State := { s with pcie := { s.pcie with fns := [(2, { FnCfg.reset with bme := true, msixEn := true })] } }

/-- A queue whose coalescing window is open: 10 µs, vector 1. -/
def coalescing : State := (hostOk qmBase).setQueue 5 { QueueSt.reset with state := 1, ctx := [0x17040000, 0x1000, 0, 0x9000, 0, 0x000A8001], window := true }

theorem wit_records : okB (hostOk (onCore CoreSt.reset)) = true ∧ Tbl.wf (onCore CoreSt.reset).qm.dt = true ∧ (hostOk (queued 1 [qjob (.done (rec2 true))] [])).nextRecord 5 = some (qjob (.done (rec2 true)), rec2 true) ∧
    ((queued 1 [] []).queue 5).intEn = false ∧ (hostOk qmBase).hostReachable 2 = true ∧
    goes (exec (.completionRecordWrite 5) (hostOk { onCore CoreSt.reset with qm := { (queued 1 [qjob (.done (rec2 true))] []).qm with dt := [(3, dtEnt none)] } })) (fun t => t.emitted.length == 1 && t.qm.dt == [] && (t.queue 5).done == 1) = true ∧
    ({ QueueSt.reset with ctx := qctx, recs := 16 } : QueueSt).ringFull = true ∧ ({ QueueSt.reset with ctx := qctx, recs := 15 } : QueueSt).ringFull = false ∧
    (coalescing.queue 5).coalesceUs = 10 ∧ coalescing.msixReady 2 1 = false ∧ (coalescing.off (fVecMask 2 1)).msixReady 2 1 = true ∧
    goes (exec (.coalesceExpiry 5 10) (coalescing.off (fVecMask 2 1))) (fun t => t.emitted == [.msix 2 1] && !(t.queue 5).window) = true ∧
    (onCore CoreSt.reset).deadlineOf (qjob (.placed 3)) = some (200, some 3) ∧ (onCore CoreSt.reset).recovering = false ∧
    goes (exec (.jobDeadlineExpiry 5 0 200) (onCore CoreSt.reset)) (fun t => raised t 0x4201 .jobFault && (t.queue 5).jobs.all (fun j => j.late)) = true ∧
    goes (exec (.jobDeadlineExpiry 5 0 199) (onCore CoreSt.reset)) (fun t => t.reeve.events == []) = true := by decide +kernel

/-- A job of priority 0 runs on core 0, the only core that a head of priority 3 may use; save buffers exist where pool is set. -/
def contended (pool : Bool) : State :=
  let low : Desc := { desc with prio := 0 }
  let high : Desc := { desc with core := 0 }
  let s := onCore { CoreSt.reset with job := some job2 }
  let s := { s with qm := { s.qm with dt := [(3, { dtEnt none with desc := low })] } }
  let s := s.setQueue 6 { QueueSt.reset with state := 1, ctx := qctx, jobs := [qjob (.waiting (some high))], next := 1, prod := 1 }
  if pool then (s.on fPoolEn).setReg 0x501B8 0x70010000 else s

theorem wit_preemption : (contended false).fenced = false ∧ (contended false).isHeld = false ∧ (contended false).paused 0 = false ∧ (contended false).preemptDue 0 = true ∧
    (contended false).chooseSave 0 2 = none ∧ (contended true).preemptDue 0 = true ∧ (contended true).chooseSave 0 2 = some 0 ∧ ((contended true).core 0).job = some job2 ∧
    goes (exec (.preemptionRequest 0) (contended false)) (fun t => t.reg kNoSave == 1) = true ∧
    goes (exec (.preemptionRequest 0) (contended true)) (fun t => (t.core 0).stopping) = true := by decide +kernel

/-- The job's save buffer is filled and its core is quiet. -/
def stopping : State := (contended true).setCore 0 { CoreSt.reset with job := some job2, stopping := true, grn := { Granary.reset with recs := [(0, { held := true, part := 2, eng := 5, dt := 3 })] } }

theorem wit_save : stopping.saveBufOf 0 job2 = some 0 ∧ stopping.runs 0 = true ∧ (stopping.core 0).quiet = true ∧ (stopping.core 0).stopping = true ∧ Tbl.find stopping.qm.dt 3 ≠ none ∧ okB stopping = true := by
  decide +kernel

def saved2 : Saved := { buf := 0, opaFrom := [], vecFrom := [], lpeelFrom := [], speelFrom := [], out := [], err := 0, loaded := true }

/-- The Granary of core 0 holds these words of the job's image, at offset 0 and at offset 73,728. -/
def preempted (magic : Nat) : State :=
  let s := onCore CoreSt.reset
  let s := ((s.on fPoolEn).setReg 0x501B8 0x70010000)
  let img : List Host.Cell := putGrn (putGrn [] 0 (leBytes 8 (magic + 3 * 2 ^ 32 + 2 * 2 ^ 48))) 73728 (leBytes 4 0x4F505341)
  { s with cores := [(0, { CoreSt.reset with grn := { Granary.reset with bytes := img, recs := [(0, { held := true, part := 2, eng := 5, dt := 3 })] } })], qm := { s.qm with dt := [(3, dtEnt (some saved2))] } }

theorem wit_resume : (preempted 0x53564352).coreFree 0 = true ∧ (preempted 0x53564352).isHeld = false ∧ (preempted 0x53564352).fenced = false ∧ (preempted 0x53564352).asleep = false ∧
    ((preempted 0x53564352).rejectForgotten.pick 0).1.map (fun c => c.pre) = some (some 3) ∧ fieldAt ((preempted 0x53564352).grnBytes 0 0 8) 0 4 = 0x53564352 ∧
    fieldAt ((preempted 0x53564352).grnBytes 0 0 8) 4 2 = 3 ∧ fieldAt ((preempted 0x53564352).grnBytes 0 0 8) 6 1 = 2 ∧ fieldAt ((preempted 0x53564352).grnBytes 0 0 8) 7 1 = 0 ∧
    (preempted 0x53564352).bufOffset 0 = 0 ∧ arrayImageOk ((preempted 0x53564352).grnBytes 0 73728 512) 0 = true ∧
    ((preempted 0).rejectForgotten.pick 0).1.map (fun c => c.pre) = some (some 3) ∧ fieldAt ((preempted 0).grnBytes 0 0 8) 0 4 ≠ 0x53564352 ∧
    goes (exec (.jobResume 0 []) (preempted 0)) (fun t => raised t 0x4203 .jobFault) = true := by decide +kernel

-- PARTITIONS AND FRAMES

theorem wit_partition_table : okB linked = true ∧ linked.turnsAway 0 = false ∧ linked.perc = 0 ∧ fPerc.ofWord (2 : Word) = 2 ∧ fLock.ofWord (2 : Word) = 0 ∧ linked.anyQueueActive = false ∧
    linked.flag fLock = false ∧ (linked.setReg (kPart 2 0) 0x8000FFFF).partEnabled 2 = true ∧ linked.partEnabled 2 = false ∧
    goes (exec (.partPercWrite 0 2) (linked.setReg (kPart 2 0) 0x8000FFFF)) (fun t => t.perc == 2) = true ∧
    goes (exec (.partPercWrite 0 2) linked) (fun t => t.flag fPartRejected) = true ∧
    fLock.ofWord (0x80000000 : Word) = 1 ∧ goes (exec (.partLock 0 0x80000000) linked) (fun t => t.flag fLock) = true ∧
    (fWinSize 7 3).ofWord (0x80002FFF + 1 : Word) = 0x3000 ∧ (fWinBase 7 3).ofWord (0x80003000 : Word) = 0 ∧ linked.get fUsableGib * 512 = 0x3000 ∧ linked.queuesActive 7 = false ∧ linked.winClash 7 0 0x3000 = false ∧
    goes (exec (.partWinWrite 0 7 3 0x80003000) linked) (fun t => t.reg (kPart 7 16) == 0x80003000) = true ∧
    goes (exec (.partWinWrite 0 7 3 0x80003001) linked) (fun t => t.flag fPartRejected) = true ∧
    (queued 1 [] []).queuesActive 2 = true ∧ goes (exec (.partWinWrite 0 2 3 0) (queued 1 [] [])) (fun t => t.flag fPartRejected) = true := by decide +kernel

/-- A job of partition 2 runs on core 0, and one of partition 3 holds a Granary buffer there. -/
def busy : State := onCore { CoreSt.reset with job := some job2, grn := { Granary.reset with recs := [(4, { held := true, part := 3, eng := 5, dt := 9 })] } }

theorem wit_regulator_and_resets : linked.peakLines = 3200 ∧ linked.resSum none 0 = 0 ∧ goes (exec (.dramRegulatorWrite 0 none 3200) linked) (fun t => t.reg kDramCap == 3200) = true ∧
    goes (exec (.dramRegulatorWrite 0 none 3201) linked) (fun t => t.flag fPartRejected) = true ∧ resOf 0x00050005 = 5 ∧ limOf 0x00050005 = 5 ∧ (linked.reg kDramCap).toNat = 0 ∧
    goes (exec (.dramRegulatorWrite 0 (some 7) 0x00050005) linked) (fun t => t.reg (kDramReg 7) == 0x00050005) = true ∧
    ((busy.put fPerc 2).queuesActive 2) = true ∧ goes (exec (.partResetWrite 0 4) (busy.put fPerc 2)) (fun t => t.flag fPartRejected) = true ∧
    busy.perc ≠ 2 ∧ busy.part.heldResets = [] ∧ busy.flag (fResetting 2) = false ∧ busy.resetsHeld = false ∧ Tbl.wf busy.cores = true ∧ (busy.core 0).resetting = [] ∧
    goes (exec (.partResetWrite 0 4) busy) (fun t => t.inReset 2 && (t.core 0).resetting == [0, 1, 2, 3, 4] && (t.core 0).job == none) = true ∧
    fPoolEn.ofWord (0 : Word) = 0 ∧ busy.flag (fIslOff 0) = false ∧
    goes (exec (.poolDisable 0 0) { busy with cores := [(0, { CoreSt.reset with grn := (busy.core 0).grn })] }) (fun t => !((t.core 0).grn.recOf 4).held) = true ∧
    goes (exec (.poolDisable 0 0) busy) (fun t => t.flag ⟨0x5000C, 0, 1⟩) = true ∧ linked.turnsAway 7 = false := by decide +kernel

/-- A partition reset of 2 has started, and its engine resets are done. -/
def resetting2 : State := busy.on (fResetting 2)

/-- An enabled core is shared by the perception partition 0 and by partition 2, whose share is 256 ms/256. -/
def shared : State := (linked.setReg (kPart 2 0) 0x8000FFFF).setReg (kPart 2 0x20) 0x40

/-- Partition 2 may use three lines of DRAM in a period, and has used so many. -/
def atLimit (n : Nat) : State := { linked with part := { PartCtl.reset with cap := 10, dramReg := List.replicate 8 3, regs := [(0, { RegSt.reset with used := [(2, n)] })] } }

theorem wit_partition_events : okB busy = true ∧ resetting2.inReset 2 = true ∧ resetting2.enginesDone 2 = true ∧ resetting2.sweepDue = false ∧ Tbl.wf resetting2.qm.queues = true ∧
    goes (exec (.partitionResetComplete 2) resetting2) (fun t => !t.flag (fResetting 2) && (t.queue 5).state == 0 && t.qm.dt == []) = true ∧
    goes (exec .regulatorPeriod ((linked.setReg kDramCap 7).setRegSt 0 { RegSt.reset with used := [(2, 9)] })) (fun t => (t.regSt 0).used == [] && t.regCap 0 == 7) = true ∧
    linked.regCap 4 = 0 ∧ 
    ({ linked with part := { PartCtl.reset with cap := 10, dramReg := List.replicate 8 3 } } : State).regLim 0 2 = 3 ∧
    (atLimit 3).admits 0 2 = false ∧ (atLimit 2).admits 0 2 = true ∧ (atLimit 3).dramReady (.load 1) 2 1 = false ∧ (atLimit 2).dramReady (.load 1) 2 1 = true ∧ (atLimit 0).askOf (.load 1) = none ∧
    ((atLimit 3).dramWait (.load 1) 2 1).part.asks = [⟨.load 1, 2, 1, false, false⟩] ∧ ((atLimit 3).dramWait (.load 1) 2 1).reg (kHeld 0 2) = 1 ∧
    ((atLimit 2).dramTake (.load 1) 2 1).reg (kLines 2) = 1 ∧ ((atLimit 2).dramTake (.load 1) 2 1).admits 0 2 = false ∧
    goes (exec (.requestAdmit none) ((atLimit 2).setAsks [⟨.load 1, 2, 1, false, false⟩, ⟨.load 2, 2, 1, false, false⟩])) (fun t => t.part.asks.map (fun x => x.admitted) == [true, false] && t.reg (kLines 2) == 1) = true ∧
    goes (exec (.requestAdmit (some 3)) linked) (fun t => t == linked) = true ∧
    shared.regulated 0 2 = true ∧ shared.grnShareNs 2 = 250000 ∧
    goes (exec .granaryBalanceRefill (shared.setBalance 0 2 (-1000))) (fun t => t.balance 0 2 == 249000) = true ∧
    linked.flag (fVecPend 7 0) = false ∧ goes (exec (.msixSend 2 1) (((hostOk linked).on (fVecPend 2 1)).off (fVecMask 2 1))) (fun t => t.emitted == [.msix 2 1]) = true ∧
    (((hostOk linked).on (fVecPend 2 1)).off (fVecMask 2 1)).msixReady 2 1 = true ∧ 1 < vectorsOf 2 ∧
    goes (exec (.backgroundParityCheck (.slot 1023)) linked) (fun t => (t.slot 1023).bad && raised t 0x4604 .jobFault) = true ∧
    goes (exec (.backgroundParityCheck (.tally 15)) linked) (fun t => raised t 0x2402 .jobFault) = true := by decide +kernel

/-- Frames run: period 33 ms, the epoch at 1 ms, frame 5 next, at 166 ms. -/
def framed : State :=
  { (((running.on fFrameEn).setReg kFramePeriod 33000000).setReg kFrameEpoch 1000000) with tb := { Timebase.reset with ns := 150000000, next := 5, begun := true } }

/-- A recovery is in progress. -/
def recov : Recovery := { number := 1, cause := 0x2401, source := 0, info := 0, detect := 140000000, joined := [], noRestart := false, minFrame := none, heldAtEnd := false, swept := false }

theorem wit_job_lost : (linked.part.lostDue = []) ∧
    ({ framed with reeve := { framed.reeve with recovery := some recov } } : State).restartFrame recov.detect recov.minFrame = some 5 ∧
    goes (exec .jobLostAnnounce { framed with reeve := { framed.reeve with recovery := some recov }, part := { PartCtl.reset with lostDue := [(2, 0x2401, 3)] } })
      (fun t => t.reg (kPart 2 0x30) == 0x24010001 && t.reg (kPart 2 0x38) == 5 && t.flag (fPartEvent 2 0) && t.part.lostDue == []) = true := by decide +kernel

/-- A FRAME queue of two descriptors. -/
def replayed (s : State) : State := s.setQueue 6 { QueueSt.reset with state := 1, ctx := [0x57040002, 0x1000, 0, 0x9000, 0, 0] }

theorem wit_frame_boundary : okB framed = true ∧ framed.flag fFrameEn = true ∧ framed.get fPwrState < pwrBanked ∧ framed.reeve.recovery = none ∧ framed.tb.applyAt = none ∧ framed.boundaryAt framed.tb.next = 166000000 ∧
    ((replayed framed).queue 6).isFrame = true ∧ ((replayed framed).queue 6).frameCount = 2 ∧ ((replayed framed).queue 6).openReplays.length < 2 ∧ (replayed framed).inReset ((replayed framed).queue 6).owner = false ∧
    goes (exec (.frameBoundary none) (replayed (framed.on (fFdlEn 7)))) (fun t => t.reg kFrameNum == 5 && t.now == 166000000 && t.tb.slots.length == 1 && ((t.queue 6).jobs.map (fun j => j.slot)) == [0, 1]) = true ∧
    goes (exec (.frameBoundary none) { framed with tb := { framed.tb with applyAt := some 5, pendPeriod := some 20000000 } }) (fun t => t.period == 20000000 && t.tb.base == 5 && t.reg64 kFrameEpoch == 166000000) = true ∧
    goes (exec (.frameBoundary none) running) (fun t => t.tb.next == 0) = true := by decide +kernel

/-- A slot of deadline timer 7 is armed. -/
def armed : State := { framed with tb := { framed.tb with slots := [⟨7, 4, 160000000, false⟩] } }

/-- The timer belongs to partition 2 and counts its misses. -/
def counted : State := (armed.put (fFdlPart 7) 2).on (fFdlMode 7)

theorem wit_deadline_miss : armed.missingSlot 7 = some ⟨7, 4, 160000000, false⟩ ∧ armed.openPairs ⟨7, 4, 160000000, false⟩ = [] ∧ armed.fdlFaults 7 = true ∧ counted.fdlFaults 7 = false ∧
    counted.missingSlot 7 = some ⟨7, 4, 160000000, false⟩ ∧ counted.openPairs ⟨7, 4, 160000000, false⟩ = [] ∧ framed.missingSlot 7 = none ∧ okB counted = true ∧
    goes (exec (.frameDeadlineMiss 7) counted) (fun t => t.reg (kFdlMiss 7) == 1 && t.tb.missed == [(7, 4)] && t.tb.slots == [] && t.flag (fPartEvent 2 2)) = true ∧
    goes (exec (.frameDeadlineMiss 7) armed) (fun t => raised t 0xA201 .jobFault) = true := by decide +kernel

-- SESSIONS AND FIRMWARE

/-- Commands: KEEPALIVE with SEQ 1 under a key of ones, OPEN_REQ and OPEN_PROOF of partition 2 under a key of twos, KEY_PROVISION of slot 7, FW_STAGE of
four bytes, and a manifest that lists the pair 5, 7 as INCOMPATIBLE. -/
def keepCmd : List Byte := leBytes 32 0x642ab2d2979a5902b4a0d7ead3aaa27900000000000000010000000000000010
def openReqCmd : List Byte := leBytes 64 0x9030303030303030303030303030303030000000000000000000000000000000000000000000000000000002000000001
def openProofCmd : List Byte := leBytes 64 0x810724ba189b4e58cb1f71f8c95f0cc879befac4586258c1d69b6d567a8d17790000000000000000000000000000000000000000000000000000002000000002
def keyCmd : List Byte := leBytes 72 0xb404ada00202020202020202020202020202020202020202020202020202020202020202000000070000000000000000000000000000000000000000000000000000002800000003
def stageCmd : List Byte := leBytes 88 0xbde180b5dca943be67addc8b5ebfcde617873de589ba13877212e25fb182b4710000000000000004000000000000000000000000000000020000000000000000000000000000000000000000000000050000003800000020
def manBad : List Byte := leBytes 160 0x2000000070000000500000000000000000000000000000001b426fd87b14569976ae1e5382a769fd8f967a01fda7219285c3bf9b8443279b4000000000000000000000000000000000000000000000000000000000000000000000000000000000000000000000000060c423757540e09988d73471861781b5658c8ee4e5dc3aacdb411331174f9d60000002000000009000000034d495746

/-- The command area of a function holds these bytes. -/
def mailbox (fn : Nat) (bs : List Byte) (s : State) : State :=
  (List.range ((bs.length + 3) / 4)).foldl (fun s i => s.setReg (kMbxCmd fn i) (BitVec.ofNat 32 (fieldAt bs (4 * i) 4))) s

/-- The mailboxes are open; that of function 2 holds these bytes. -/
def mail (bs : List Byte) : State := mailbox 2 bs linked

/-- The command has passed its checks. -/
def begun (fn : Nat) (bs : List Byte) (x : Sess) : State := ((mailbox fn bs linked).on (fMbxBusy fn)).setSession fn { x with started := true }

/-- A FULL session whose keys are ones. -/
def sess2 : Sess := { Sess.reset with kCmd := List.replicate 32 1, kRsp := List.replicate 32 1, mode := 1 }

set_option maxRecDepth 100000 in
theorem wit_doorbell : okB (mail keepCmd) = true ∧ (mail keepCmd).turnsAway 2 = false ∧ (mail keepCmd).boot.mailboxes = true ∧ (mail keepCmd).flag (fMbxBusy 2) = false ∧
    payloadLength ((mail (leBytes 32 0x99)).cmdOpcode 2) = none ∧ (mail openReqCmd).cmdFormed 2 = true ∧ (mail openReqCmd).cmdOpcode 2 = 1 ∧
    goes (exec (.mailboxDoorbell 2 1 0) (mail openReqCmd)) (fun t => (t.session 2).started && t.flag (fMbxBusy 2)) = true ∧
    goes (exec (.mailboxDoorbell 2 1 0) (begun 2 keepCmd sess2)) (fun t => t.flag (fMbxOverrun 2) && raised t 0x6205 .violation) = true := by decide +kernel

/-- The session of partition 2 is open with the keys of ones; the same with the key left out. -/
def openSess : State := ((mail keepCmd).setSession 2 sess2).put (fSecState 2) 2
def badKeys : State := (mail keepCmd).put (fSecState 2) 2

set_option maxRecDepth 100000 in
theorem wit_doorbell_tag : openSess.cmdTagOk 2 = true := by decide +kernel

theorem wit_doorbell_sequence : openSess.sessOpen 2 = true ∧ openSess.cmdFormed 2 = true ∧ openSess.cmdOpcode 2 = 0x10 ∧ openSess.cmdSeq 2 = 1 ∧ (openSess.reg64 (kSecSeq 2)).toNat = 0 ∧
    ((openSess.setReg64 (kSecSeq 2) 1).reg64 (kSecSeq 2)).toNat = 1 := by decide +kernel

set_option maxRecDepth 100000 in
theorem wit_doorbell_bad_tag : badKeys.cmdTagOk 2 = false ∧ badKeys.sessOpen 2 = true ∧ badKeys.cmdFormed 2 = true ∧ badKeys.cmdOpcode 2 = 0x10 := by decide +kernel

/-- Partition 2 has a key of twos. -/
def keyed (s : State) : State := { s with fuse := { s.fuse with psk := [(2, List.replicate 32 2)] } }

def pend2 : PendOpen := { nh := List.replicate 16 3, nd := List.replicate 16 4, runtime := 9, verdict := 1 }

set_option maxRecDepth 100000 in
theorem wit_open : (begun 2 openReqCmd Sess.reset).cmdIs 2 1 = true ∧ (keyed (begun 2 openReqCmd Sess.reset)).keyOf 2 = some (List.replicate 32 2) ∧ (begun 2 openReqCmd Sess.reset).keyOf 2 = none ∧
    goes (exec (.openReq 2 true true) (begun 2 openReqCmd { Sess.reset with lock := some (0, 5) })) (fun t => bitsAt (t.reg (kMbxRsp 2 0)).toNat 16 16 == stLocked) = true ∧
    goes (exec (.openReq 2 true true) (begun 2 openReqCmd Sess.reset)) (fun t => bitsAt (t.reg (kMbxRsp 2 0)).toNat 16 16 == stNoKey) = true ∧
    (keyed (mail openReqCmd)).runtimeClass 9 = none := by decide +kernel

set_option maxRecDepth 100000 in
theorem wit_proof : (begun 2 openProofCmd { Sess.reset with pend := some pend2 }).cmdIs 2 2 = true ∧ (keyed (begun 2 openProofCmd { Sess.reset with pend := some pend2 })).keyOf 2 = some (List.replicate 32 2) ∧
    (begun 2 openProofCmd { Sess.reset with pend := some pend2 }).cmdPayload 2 = hostProof (List.replicate 32 2) 2 pend2.nd pend2.nh pend2.runtime.toNat ∧
    (begun 2 openReqCmd { Sess.reset with pend := some pend2 }).cmdPayload 2 ≠ hostProof (List.replicate 32 2) 2 pend2.nd pend2.nh pend2.runtime.toNat ∧
    goes (exec (.openProof 2 true) (keyed (begun 2 (openProofCmd.take 40) { Sess.reset with pend := some pend2 }))) (fun t => t.reg (kOpenFails 2) == 1 && (t.session 2).pend == none) = true := by decide +kernel

set_option maxRecDepth 100000 in
theorem wit_commands : (begun 0 keyCmd Sess.reset).cmdIs 0 3 = true ∧ fieldAt ((begun 0 keyCmd Sess.reset).cmdPayload 0) 0 1 = 7 ∧ fieldAt ((begun 0 keyCmd Sess.reset).cmdPayload 0) 36 4 = crc32c (List.replicate 32 2) ∧
    goes (exec .keyProvision (begun 0 keyCmd Sess.reset)) (fun t => Tbl.find t.fuse.psk 7 == some (List.replicate 32 2)) = true ∧
    (begun 2 keepCmd sess2).cmdIs 2 0x10 = true ∧ (begun 2 (leBytes 32 0x11) sess2).cmdIs 2 0x11 = true ∧ (begun 2 (leBytes 32 0x12) sess2).cmdIs 2 0x12 = true ∧
    goes (exec (.close 2) ((begun 2 (leBytes 32 0x11) sess2).put (fSecState 2) 2)) (fun t => t.get (fSecState 2) == 0 && (t.session 2).kCmd == []) = true := by decide +kernel

/-- FW_STAGE of the four bytes at DRAM offset 0. -/
def staging : State := (begun 0 stageCmd sess2).ramWrite (.host 0) 0 [0x72, 0x65, 0x65, 0x76]

/-- The Steward holds a staged image of the Reeve. -/
def stagedJob (bs : List Byte) : State := { linked with boot := { linked.boot with opened := true, job := some ⟨2, bs, 5, List.replicate 32 1, false⟩ } }

/-- Bank B holds a staged set with this manifest. -/
def inactiveB (man : List Byte) : State :=
  let s := (begun 0 (leBytes 32 0x21) sess2)
  { s with boot := { s.boot with staged := true, flash := { s.boot.flash with slots := [(4, stwImage), (5, reeveImage), (6, man)] } } }

set_option maxRecDepth 100000 in
theorem wit_stage : staging.cmdIs 0 0x20 = true ∧ staging.boot.job = none ∧ fieldAt (staging.cmdPayload 0) 8 8 = 0 ∧ fieldAt (staging.cmdPayload 0) 16 4 = 4 ∧ staging.badIn 0 4 = none ∧
    sha256 (staging.ramBytes 0 4) = ((staging.cmdPayload 0).drop 24).take 32 ∧ sha256 ((staging.ramWrite (.host 0) 0 [1]).ramBytes 0 4) ≠ ((staging.cmdPayload 0).drop 24).take 32 ∧
    goes (exec .fwStage staging) (fun t => t.get fUpdateState == 1 && t.boot.job.isSome) = true ∧
    (stagedJob reeveImage).stageCode ⟨2, reeveImage, 5, List.replicate 32 1, false⟩ = none ∧ (stagedJob bcbImage).stageCode ⟨2, bcbImage, 5, List.replicate 32 1, false⟩ ≠ none ∧
    goes (exec (.fwStageComplete true) (stagedJob reeveImage)) (fun t => t.get fUpdateState == 2 && Tbl.find t.boot.flash.slots 5 == some reeveImage) = true := by decide +kernel

theorem wit_activate : (inactiveB manImage).cmdIs 0 0x21 = true ∧ (inactiveB manImage).boot.staged = true ∧ (inactiveB manImage).boot.writing = false ∧ (inactiveB manImage).boot.activated = false := by decide +kernel

set_option maxRecDepth 100000 in
theorem wit_activate_tested : (inactiveB manImage).inactiveClass = 1 := by decide +kernel

set_option maxRecDepth 100000 in
theorem wit_activate_incompatible : (inactiveB manBad).inactiveClass = 2 := by decide +kernel

/-- The selector is being written; partition 2 waits for its proof, after two failed opens. -/
def selecting : State := { linked with boot := { linked.boot with writing := true } }
def failing (n : Nat) : State := (linked.setSession 2 { Sess.reset with pend := some pend2 }).put (fFails 2) n

theorem wit_session_timers : selecting.boot.writing = true ∧ ((failing 2).session 2).pend.isSome = true ∧ (failing 2).get (fFails 2) = 2 ∧
    goes (exec (.openPendingExpiry 2 1000) (failing 2)) (fun t => (t.session 2).lock == some (0, 5) && t.get (fLockLevel 2) == 1 && raised t 0x6201 .violation) = true ∧
    goes (exec (.openPendingExpiry 2 1000) (failing 1)) (fun t => (t.session 2).lock == none && t.get (fFails 2) == 2) = true ∧
    goes (exec (.openPendingExpiry 2 999) (failing 1)) (fun t => (t.session 2).pend.isSome) = true ∧
    goes (exec (.lockoutExpiry 2 5) (linked.setSession 2 { Sess.reset with lock := some (0, 5) })) (fun t => (t.session 2).lock == none) = true ∧
    goes (exec (.lockoutExpiry 2 4) (linked.setSession 2 { Sess.reset with lock := some (0, 5) })) (fun t => (t.session 2).lock == some (0, 5)) = true ∧
    ((linked.setSession 2 sess2).put (fSecState 2) 2).sessOpen 2 = true ∧ linked.get (fIdleS 2) ≤ 1023 ∧
    goes (exec (.sessionIdleExpiry 2 1023) ((linked.setSession 2 sess2).put (fSecState 2) 2)) (fun t => t.get (fSecState 2) == 0 && raised t 0x6206 .report) = true ∧
    goes (exec (.secProvClose 0 1) linked) (fun t => t.fuse.provClosed) = true ∧ linked.turnsAway 2 = false := by decide +kernel

-- THE REEVE

def ev (code : BitVec 16) (d : Disp) : FaultEvent := { code := code, source := 5, disp := d }

/-- These events have been raised. -/
def raisedAll (l : List FaultEvent) : State := { running with reeve := { running.reeve with events := l } }

theorem wit_collector : okB (raisedAll [ev 0x2401 .jobFault, ev 0xA201 .jobFault]) = true ∧ running.reeve.alive = true ∧ running.reeve.recovery = none ∧ running.isHeld = false ∧ running.faultsWith.length < 3 ∧
    goes (exec (.faultEventArrival [none, none] .clean) (raisedAll [ev 0x2401 .jobFault, ev 0xA201 .jobFault])) (fun t => t.mode == 1 && t.fenced && (t.reeve.recovery.map (fun r => r.cause)) == some 0xA201 && (t.core 15).frozen) = true ∧
    goes (exec (.faultEventArrival [none] .clean) (raisedAll [ev 0x9101 .report])) (fun t => t.reg kFlogHead == 1) = true ∧ loggedLately [] (ev 0x9101 .report) 0 = false ∧ loggedLately [(0x9101, 5, 0)] (ev 0x9101 .report) 24999 = true ∧
    goes (exec (.faultEventArrival [none] .clean) { raisedAll [ev 0x9101 .report] with reeve := { (raisedAll [ev 0x9101 .report]).reeve with flogLast := [(0x9101, 5, 0)] } }) (fun t => t.reg kFlogSuppressed == 1) = true ∧
    goes (exec (.faultEventArrival [none] .clean) (raisedAll [ev 0x6205 .violation])) (fun t => t.reeve.vqueue.length == 1) = true ∧
    goes (exec (.faultEventArrival [none] .clean) { raisedAll [ev 0x6205 .violation] with reeve := { (raisedAll [ev 0x6205 .violation]).reeve with vqueue := List.replicate 64 (ev 1 .violation, 0, 0) } }) (fun t => t.reg kVlogDropped == 1) = true ∧
    goes (exec (.faultEventArrival [none] .clean) (raisedAll [ev 0xA401 .held])) (fun t => t.isHeld && t.fenced && t.get fHdgHeldCause == 0xA401 && t.flag (fPartEvent 0 3)) = true ∧ running.partEnabled 0 = true := by decide +kernel

/-- A violation waits for its log. -/
def waiting (l : List (Nat × Nat × Nat)) : State := { running with reeve := { running.reeve with vqueue := [(ev 0x6205 .violation, 7, 24999)], vlogLast := l } }

theorem wit_violation_log : loggedLately [(0x6205, 5, 0)] (ev 0x6205 .violation) 24999 = true ∧ loggedLately [(0x6205, 5, 0)] (ev 0x6205 .violation) 25000 = false ∧
    goes (exec .violationLogWrite (waiting [])) (fun t => t.reg kVlogHead == 1 && t.reeve.vqueue == []) = true ∧
    goes (exec .violationLogWrite (waiting [(0x6205, 5, 0)])) (fun t => t.reg kVlogSuppressed == 1 && t.reg kVlogHead == 0) = true ∧ running.reeve.vqueue = [] := by decide +kernel

/-- Every core is frozen, and a crash record is due. -/
def frozen : State :=
  { framed with cores := (List.range 16).map (fun k => (k, { CoreSt.reset with frozen := true })), reeve := { framed.reeve with recovery := some recov, crash := some (framed.crashHead (ev 0x2401 .jobFault) 1 false) } }

/-- The sweep stands at this place of step 2, on core 0. -/
def sweeping (at_ : SweepAt) (w : Bool) : State :=
  { frozen with reeve := { frozen.reeve with crash := none, sweep := some { step := 2, core := 0, at_ := at_, waiting := w, failedOnce := false, started := 0, expired := false } } }

/-- Core 0's LPEEL is being reset. -/
def resettingL (retry : List Nat) : CoreSt := { CoreSt.reset with frozen := true, resetting := [3], peelRetry := retry }

/-- A request of it does not return; `failed` lists the engines that have failed before. -/
def stuckL (failed : List Nat) : CoreSt :=
  let e : PeelEnt := { PeelEnt.blank 0 0x1000 with len := 8, cnt1 := 1, cnt2 := 1, st := 2, issued := 8, reqs := [(0, 8)] }
  { resettingL [] with peelFailed := failed, lpeelQ := [e] }

theorem wit_sweep : okB frozen = true ∧ frozen.reeve.alive = true ∧ (frozen.core 15).frozen = true ∧ frozen.reeve.crash.isSome = true ∧
    goes (exec .crashCaptureStart frozen) (fun t => (t.reeve.crash.map (fun h => h.slot)) == some (some 0)) = true ∧
    ((sweeping (.engine .lpeel) false).awaits 0 .lpeel).isSome = true ∧ goes (exec (.engineReset 0 .lpeel) (sweeping (.engine .lpeel) false)) (fun t => (t.core 0).resetting == [3]) = true ∧
    (((sweeping (.engine .lpeel) true).setCore 0 (resettingL [])).core 0).resetting.contains 3 = true ∧ Engine.lpeel.idx = 3 ∧
    goes (exec (.engineResetDone 0 .lpeel) ((sweeping (.engine .lpeel) true).setCore 0 (resettingL []))) (fun t => (t.core 0).resetting == [] && t.reeve.sweep.map (fun w => w.at_) == some (.engine .speel)) = true ∧
    (frozen.setCore 0 (resettingL [])).awaits 0 .lpeel = none ∧
    goes (exec (.peelResetFailed 0 .lpeel 12) (frozen.setCore 0 (stuckL []))) (fun t => (t.core 0).peelRetry == [3] && (t.core 0).peelFailed == [3] && raised t 0x2601 .report && t.reg kPeelRetry == 1) = true ∧
    (stuckL []).outstanding 0 = 1 ∧ (resettingL []).outstanding 0 = 0 ∧ goes (exec (.peelResetFailed 0 .lpeel 12) (frozen.setCore 0 (resettingL []))) (fun t => t.reeve.events == frozen.reeve.events) = true ∧
    goes (exec (.peelResetFailed 0 .lpeel 12) (frozen.setCore 0 (stuckL [3]))) (fun t => (t.core 0).resetting == [] && raised t 0x2601 .held) = true ∧
    goes (exec (.peelResetFailed 0 .lpeel 11) (frozen.setCore 0 (resettingL []))) (fun t => (t.core 0).peelRetry == []) = true ∧
    goes (exec (.peelResetRetry 0 .lpeel 40) (frozen.setCore 0 (resettingL [3]))) (fun t => (t.core 0).peelRetry == []) = true ∧
    goes (exec (.sweepSupervisionExpiry 2500) (sweeping (.engine .lpeel) true)) (fun t => raised t 0xA401 .held) = true ∧
    goes (exec (.sweepSupervisionExpiry 2499) (sweeping (.engine .lpeel) true)) (fun t => t.reeve.events == []) = true := by decide +kernel

/-- The capture has its slot. -/
def capturing : State := { frozen with reeve := { frozen.reeve with crash := frozen.reeve.crash.map (fun h => { h with slot := some 0 }) } }

theorem wit_capture : okB capturing = true ∧ capturing.reeve.crash.map (fun h => h.slot) = some (some 0) ∧ capturing.reeve.recovery = some recov ∧ capturing.reeve.alive = true := by decide +kernel

/-- The sweep has come to step 3. -/
def step3 (s : State) : State :=
  { s with reeve := { frozen.reeve with crash := none, sweep := some { step := 3, core := 15, at_ := .engine .seq, waiting := false, failedOnce := false, started := 0, expired := false } } }

theorem wit_sweep_end : (step3 frozen).part.heldResets = [] ∧ (List.range 8).all (fun p => !(step3 frozen).inReset p) = true ∧ (step3 frozen).qm.dt = [] ∧ (step3 frozen).part.recoverDue = [] ∧ (step3 frozen).lostPending 0 = false ∧
    goes (exec .sweepComplete { step3 frozen with part := { PartCtl.reset with recoverDue := [2] } }) (fun t => t.reeve.sweep == none && !(t.core 15).frozen && t.flag (fPartEvent 2 1)) = true ∧
    (step3 (onCore CoreSt.reset)).part.recoverDue = [] ∧
    goes (exec .sweepComplete (step3 (onCore CoreSt.reset))) (fun t => (t.queue 5).state == 2 && (t.queue 5).jobs.any (fun (j : QJob) => match j.at_ with | .done r => r.status == 3 && r.code == 0x2401 | _ => false)) = true := by decide +kernel

-- CONVERSATION SLOTS

/-- The window holds this word of partition 2 for slot 1,023. -/
def ctWith (v : Nat) (x : CtSlot) : State := { (queued 1 [qjob (.waiting none)] []).setQueue 6 { QueueSt.reset with state := 1, ctx := qctx } with ctWrites := [⟨0, 2, 0x1000801000 + 8 * 1023, leBytes 8 v⟩] }.setSlot 1023 x

def slotX (state : Nat) : CtSlot := { CtSlot.reset with state := state, part := 2, queue := 5, foldQueue := 6, dormS := 60, timeoutMs := 30000 }

theorem wit_ct_words : okB (ctWith 0 CtSlot.reset) = true ∧ ctOp 0x1E10000000060005 = 1 ∧ (ctWith 0 CtSlot.reset).ringOf 2 5 = true ∧ (ctWith 0 CtSlot.reset).ringOf 2 6 = true ∧
    leNat (leBytes 8 0x1E10000000060005) = 0x1E10000000060005 ∧ bitsAt 0x1E10000000060005 48 12 = 3600 ∧
    goes (exec .ctBind (ctWith 0x1E10000000060005 CtSlot.reset)) (fun t => (t.slot 1023).state == 1 && (t.slot 1023).dormS == 3600 && t.ctWrites == []) = true ∧
    goes (exec .ctBind (ctWith 0x1000000000060005 CtSlot.reset)) (fun t => (t.slot 1023).dormS == 60) = true ∧
    goes (exec .ctRequest (ctWith (2 * 2 ^ 60 + 30000) (slotX 1))) (fun t => (t.slot 1023).state == 2 && (t.slot 1023).timeoutMs == 30000) = true ∧
    goes (exec .ctDone (ctWith (3 * 2 ^ 60) (slotX 2))) (fun t => (t.slot 1023).state == 1) = true ∧
    goes (exec .ctTouch (ctWith (4 * 2 ^ 60) (slotX 1))) (fun t => (t.slot 1023).dormFrom.isSome) = true ∧
    goes (exec .ctUnbind (ctWith (5 * 2 ^ 60) (slotX 1))) (fun t => t.slot 1023 == CtSlot.reset) = true ∧
    ctOp (6 * 2 ^ 60) = 6 ∧ ((ctWith (6 * 2 ^ 60) (slotX 1)).on ⟨0x50100, 10, 1⟩).strict 2 = true ∧
    goes (exec .ctTouch ((ctWith (6 * 2 ^ 60) (slotX 1)).on ⟨0x50100, 10, 1⟩)) (fun t => t.reg kCtViol == 1 && raised t 0x4603 .jobFault) = true := by decide +kernel

theorem wit_ct_timers : ((ctWith 0 { slotX 2 with reqFrom := some 0 }).slot 1023).reqFrom.isSome = true ∧ ((ctWith 0 (slotX 2)).queue 5).state ≠ 2 ∧
    goes (exec (.ctRequestExpiry 1023 30000) (ctWith 0 { slotX 2 with reqFrom := some 0 })) (fun t => (t.slot 1023).state == 1 && (t.queue 5).jobs.all (fun j => !j.waits) && t.reg kCtReqExp == 1) = true ∧
    goes (exec (.ctRequestExpiry 1023 29999) (ctWith 0 { slotX 2 with reqFrom := some 0 })) (fun t => (t.slot 1023).state == 2) = true ∧
    goes (exec (.ctRequestExpiry 1023 30000) ((queued 2 [] []).setSlot 1023 { slotX 2 with reqFrom := some 0 })) (fun t => (t.slot 1023).due) = true ∧
    (ctWith 0 (slotX 1)).inReset ((ctWith 0 (slotX 1)).queue 6).owner = false ∧ (ctWith 0 (slotX 1)).advanceFault ((ctWith 0 (slotX 1)).queue 6) 1 = none ∧
    goes (exec (.ctDormancyExpiry 1023 60) (ctWith 0 { slotX 1 with dormFrom := some 0 })) (fun t => (t.slot 1023).state == 3 && (t.slot 1023).gate && (t.queue 6).jobs.length == 1 && t.reg kCtFolds == 1) = true ∧
    ((queued 1 [] []).advanceFault ((queued 1 [] []).queue 6) 1).isSome = true ∧
    goes (exec (.ctDormancyExpiry 1023 60) ((queued 1 [] []).setSlot 1023 { slotX 1 with dormFrom := some 0 })) (fun t => (t.slot 1023).state == 3 && !(t.slot 1023).gate && raised t 0x4602 .violation) = true := by decide +kernel

-- KELYTH LINK

/-- Device 0 of a ring of two. -/
def ring : State := running.setReg 0x8 0x14

/-- Port 0 in this state: every mode permitted, threshold 32, enabled, channel locked where l says so, mode 3. -/
def kly (st : Nat) (l : Bool) : State := ((((ring.setReg (kKly 0 0) 0x8F702000).put (fKlyState 0) st).put (fKlyMode 0) 3).put (fKlyLocked 0) (b2n l))

/-- The same with this port. -/
def klyWith (st : Nat) (l : Bool) (p : KPort) : State := (kly st l).setKport 0 p

def kframe (type : Nat) : KFrame :=
  { type := type, flags := 0, route := routeByte 1 0 2, recvCnt := 0, lseq := 0, ackseq := 0, addr := 0, msgLen := 0, msgId := 0, credit := 0, payload := [] }

/-- A TRAIN frame of device 1: floor 0, every mode, wired to port 1; with another count of devices where `wrong`. -/
def trainFrm (wrong : Bool) : KFrame := { kframe 7 with addr := 0xF + 7 * 2 ^ 8 + 1 * 2 ^ 24 + (if wrong then 0x19 else 0x15) * 2 ^ 32 }

theorem wit_kly_training : okB ring = true ∧ ring.turnsAway 0 = false ∧ ring.flag (fKlyEn 0) = false ∧ (fKlyEn 0).ofWord (0x8F702000 : Word) = 1 ∧ ring.blocksOff = false ∧ (fKlyThresh 0).ofWord (0x8F702000 : Word) = 32 ∧
    (ring.peerOf 0).isSome = true ∧ ring.peerOf 2 = none ∧ goes (exec (.klyPortEnable 0 0 0x8F702000) ring) (fun t => t.get (fKlyState 0) == klyTraining) = true ∧
    goes (exec (.klyPortEnable 0 2 0x8F702000) ring) (fun t => t.flag fKlyRejected) = true ∧
    (kly klyUp true).flag (fKlyEn 0) = true ∧ (0x0F702000 &&& 0x0F70FF00 : Word) = (kly klyUp true).reg (kKly 0 0) &&& 0x7FFFFFFF ∧ ring.kly.firings = [] ∧
    goes (exec (.klyPortDisable 0 0 0x0F702000) (kly klyUp true)) (fun t => t.get (fKlyState 0) == klyDisabled) = true ∧
    (kly klyRetrain false).klyUsable 0 = true ∧ goes (exec (.klyPllChannelLock 0) (klyWith klyRetrain false { KPort.reset with heldFrom := some 0 })) (fun t => t.flag (fKlyLocked 0) && t.reg 0x4014 == 1) = true ∧
    (kly klyTraining true).klyTrains 0 = true ∧ goes (exec (.klyTrainAttemptTimeout 0 20) (kly klyTraining true)) (fun t => t.get (fKlyMode 0) == 4) = true ∧
    goes (exec (.klyTrainAttemptTimeout 0 19) (kly klyTraining true)) (fun t => t.get (fKlyMode 0) == 3) = true ∧
    goes (exec (.klyTrainingLimit 0 1000) (kly klyTraining true)) (fun t => t.get (fKlyState 0) == klyFailed && raised t 0x5103 .report) = true ∧
    (klyWith klyTraining true { KPort.reset with exchanged := true }).modePermitted 0 3 = true ∧
    goes (exec (.klyTrainingPass 0) (klyWith klyTraining true { KPort.reset with exchanged := true })) (fun t => t.get (fKlyState 0) == klyUp && t.get (fKlyLanes 0) == 3) = true := by decide +kernel

set_option maxRecDepth 100000 in
theorem wit_kly_train_frames : KFrame.ofBytes (trainFrm false).bytes = some (trainFrm false) ∧ KFrame.ofBytes (trainFrm true).bytes = some (trainFrm true) ∧ (trainFrm false).bad = false ∧ (trainFrm true).bad = false ∧
    ring.topoClash (bitsAt (trainFrm false).addr 32 6) = false ∧ ring.topoClash (bitsAt (trainFrm true).addr 32 6) = true ∧ (ring.peerOf 0).any (fun p => p.2 != bitsAt (trainFrm false).addr 24 8) = false ∧
    goes (exec (.klyTrainFrame 0 (trainFrm false).bytes) (kly klyTraining true)) (fun t => (t.kport 0).exchanged && t.get (fKlyPeerIndex 0) == 1) = true ∧
    goes (exec (.klyTrainFrame 0 (trainFrm true).bytes) (kly klyTraining true)) (fun t => t.get (fKlyState 0) == klyOut && raised t 0x5101 .violation) = true := by decide +kernel

/-- A DATA frame of this device to device 1, of firing 4. -/
def ownFrame : KFrame := { kframe 1 with route := routeByte 0 1 2, msgLen := 4, msgId := msgIdOf 4 0, payload := [1, 2, 3, 4] }

/-- Firing 4 waits for device 1. -/
def fired4 (p : KPort) : State := { klyWith klyUp false p with kly := { (klyWith klyUp false p).kly with firings := [(4, { performed := true, failed := false, waits := [1] })] } }

theorem wit_kly_waits : (klyWith klyUp true { KPort.reset with replay := [⟨ownFrame, 0⟩] }).klyIsUp 0 = true ∧
    goes (exec (.klyReplayTimeout 0 20) (klyWith klyUp true { KPort.reset with replay := [⟨ownFrame, 0⟩] })) (fun t => (t.kport 0).resend == some 0) = true ∧
    goes (exec (.klyReplayTimeout 0 19) (klyWith klyUp true { KPort.reset with replay := [⟨ownFrame, 0⟩] })) (fun t => (t.kport 0).resend == none) = true ∧
    (fired4 { KPort.reset with heldFrom := some 0, own := [ownFrame] }).heldFirings 0 = [4] ∧ Tbl.wf (fired4 KPort.reset).kly.firings = true ∧
    goes (exec (.klyLinkNotReady 0 2000) (fired4 { KPort.reset with heldFrom := some 0, own := [ownFrame] })) (fun t => t.firing 4 == none && t.reg (kFired 4) == 1 && raised t 0x5201 .jobFault) = true := by decide +kernel

def ackFrm : KFrame := { kframe 3 with ackseq := 32768 + 1, credit := 2 }
def nakFrm : KFrame := { kframe 4 with ackseq := 32768 }
def creditFrm : KFrame := { kframe 5 with credit := 7 }
def dataFrm : KFrame := { kframe 1 with addr := 0x100, msgLen := 4, msgId := 5, payload := [1, 2, 3, 4] }
def rackFrm : KFrame := { kframe 2 with msgLen := 4, msgId := msgIdOf 4 0 }
def abortFrm : KFrame := { kframe 6 with addr := 9 + 3 * 2 ^ 32, flags := 8 }

/-- Port 0 has two frames that are not acknowledged. -/
def twoSent : State := klyWith klyUp true { KPort.reset with replay := [⟨ownFrame, 0⟩, ⟨{ ownFrame with lseq := 1 }, 0⟩], txNext := 2 }

set_option maxRecDepth 100000 in
theorem wit_kly_control_frames : KFrame.ofBytes [] = none ∧ (kly klyUp true).klyUsable 0 = true ∧ ((kly klyUp true).kport 0).err.count + 1 ≤ (kly klyUp true).get (fKlyThresh 0) ∧
    goes (exec (.klyRack 0 []) (kly klyUp true)) (fun t => (t.kport 0).nakDue && raised t 0x5105 .violation) = true ∧
    KFrame.ofBytes ackFrm.bytes = some ackFrm ∧ KFrame.ofBytes nakFrm.bytes = some nakFrm ∧ KFrame.ofBytes creditFrm.bytes = some creditFrm ∧ ackFrm.bad = false ∧ nakFrm.bad = false ∧ creditFrm.bad = false ∧
    (twoSent.kport 0).ackCount ackFrm.ackseq = some 1 ∧ (twoSent.kport 0).ackCount nakFrm.ackseq = some 0 ∧ (twoSent.kport 0).ackCount 32770 = some 2 ∧ (twoSent.kport 0).ackCount 32771 = none ∧
    goes (exec (.klyAck 0 ackFrm.bytes) twoSent) (fun t => (t.kport 0).replay.length == 1 && (t.kport 0).credit == 1026) = true ∧
    goes (exec (.klyNak 0 nakFrm.bytes) twoSent) (fun t => (t.kport 0).replay.length == 2 && (t.kport 0).resend == some 0) = true ∧
    goes (exec (.klyCredit 0 creditFrm.bytes) twoSent) (fun t => (t.kport 0).credit == 1031) = true := by decide +kernel

/-- Port 0 is up, and partition 2 may use the first 8 GiB. -/
def receiving : State := (kly klyUp true).setReg (kPart 2 4) 0x80001000

set_option maxRecDepth 100000 in
theorem wit_kly_data : KFrame.ofBytes dataFrm.bytes = some dataFrm ∧ dataFrm.bad = false ∧ dataFrm.lines ≤ (receiving.kport 0).granted ∧ receiving.flag fCeFenced = false ∧ dataFrm.dst = receiving.device ∧
    dataFrm.dst < receiving.devices ∧ dataFrm.src < receiving.devices ∧ receiving.trackerOf dataFrm = none ∧ receiving.jobOk dataFrm.part dataFrm.addr 4 true = true ∧ receiving.dramBad = [] ∧
    (List.range 4).all (fun j => (receiving.kport j).rxWait == []) = true ∧
    goes (exec (.klyDataFrame 0 dataFrm.bytes) receiving) (fun t => t.ramByte 0x103 == 4 && (t.kport 0).ackDue && (t.kport 0).creditDue == 1) = true ∧
    goes (exec (.klyDataFrame 0 dataFrm.bytes) (receiving.on fCeFenced)) (fun t => t.reg (kKly 0 0x24) == 1 && t.dram == []) = true := by decide +kernel

/-- Firing 4 waits for its RACK on an UP port. -/
def racking : State := { kly klyUp true with kly := { (kly klyUp true).kly with firings := [(4, { performed := true, failed := false, waits := [1] })] } }

set_option maxRecDepth 100000 in
theorem wit_kly_rack_abort : KFrame.ofBytes rackFrm.bytes = some rackFrm ∧ KFrame.ofBytes abortFrm.bytes = some abortFrm ∧ rackFrm.bad = false ∧ abortFrm.bad = false ∧ trigOfMsg rackFrm.msgId = 4 ∧
    msgIdOf 4 (racking.trig 4).fired = rackFrm.msgId ∧ rackFrm.dst = racking.device ∧ abortFrm.src ≠ racking.device ∧
    goes (exec (.klyRack 0 rackFrm.bytes) racking) (fun t => t.firing 4 == some { performed := true, failed := false, waits := [] }) = true ∧
    goes (exec (.klyAbort 0 abortFrm.bytes) racking) (fun t => raised t 0x5203 .jobFault && t.kly.heldPeers == [1] && t.reg kAbortRx == 1) = true := by decide +kernel

theorem wit_kly_transmit : (kly klyTraining true).klyTrains 0 = true ∧ goes (exec (.klyFrameTransmit 0 .clean true) (kly klyTraining true)) (fun t => t.emitted.length == 2) = true ∧
    goes (exec (.klyFrameTransmit 0 .clean true) (klyWith klyUp true { KPort.reset with ackDue := true, own := [ownFrame] })) (fun t => !(t.kport 0).ackDue && (t.kport 0).own == [ownFrame]) = true ∧
    ((klyWith klyUp true { KPort.reset with own := [ownFrame] }).kport 0).room ownFrame = true ∧ (klyWith klyUp true { KPort.reset with own := [ownFrame] }).klyAdmits 0 ownFrame = true ∧
    goes (exec (.klyFrameTransmit 0 .clean true) (klyWith klyUp true { KPort.reset with own := [ownFrame] })) (fun t => (t.kport 0).own == [] && (t.kport 0).replay.length == 1 && (t.kport 0).txNext == 1 && (t.kport 0).credit == 1023) = true := by decide +kernel

/-- The first 39 bits go out as they are, and the 40th carries the first with it (R542). -/
theorem test_scrambler : (scramble 0 (bitsOf 40 1)).1 = bitsOf 40 (1 + 2 ^ 39) ∧ unscramble 0 (bitsOf 40 (1 + 2 ^ 39)) = bitsOf 40 1 := by decide +kernel

theorem wit_blocks : ((KLine.deal 4 [1, 2, 3, 4, 5] KLine.reset).1.map (fun b => (b.lane, b.sync))) = [(0, 1), (1, 1), (2, 1), (3, 1), (0, 1)] ∧
    ((KLine.deal 2 [1] { KLine.reset with dealt := 32767 }).1.map (fun b => (b.lane, b.sync))) = [(0, 1), (0, 2), (1, 2)] := by decide +kernel

-- THE COLLECTIVE ENGINE

/-- Descriptor 4 in bytes 0 to 7, and its SRC, DST, LEN, STRIDE, AUX: threshold 1, step 1, timeout 1,000. -/
def trigSet (b0 src dst len stride aux : Nat) (s : State) : State :=
  let bs := leBytes 8 b0 ++ leBytes 6 1 ++ leBytes 2 1 ++ leBytes 8 src ++ leBytes 8 dst ++ leBytes 4 len ++ leBytes 4 stride ++ leBytes 8 aux ++ leBytes 4 1000 ++ leBytes 12 0
  (List.range 16).foldl (fun s w => s.setReg (kTrig 4 w) (BitVec.ofNat 32 (fieldAt bs (4 * w) 4))) s

/-- Counter 3 belongs to partition 2, whose windows cover the first 8 GiB and whose staging is region 0. -/
def ce : State := (((running.setReg (kPart 2 4) 0x80001000).setReg 0x3840C 0xA0000000).setReg 0x38020 0xA).ramWrite .collective 0x200 (leBytes 8 (0 + 1 * 2 ^ 32))

/-- Bytes 0 to 7 of a valid descriptor of partition 2 on counter 3: an operation, its flags, its device, its format. -/
def head4 (op flags dev fmt : Nat) : Nat := op + flags * 2 ^ 8 + 2 * 2 ^ 16 + 3 * 2 ^ 24 + 3 * 2 ^ 32 + dev * 2 ^ 48 + fmt * 2 ^ 56

/-- Descriptor 4 has fired. -/
def ceFired (s : State) : State := s.setFiring 4 { performed := false, failed := false, waits := [] }
def ceDone (waits : List Nat) (s : State) : State := s.setFiring 4 { performed := true, failed := false, waits := waits }

theorem wit_ce_counters : okB ce = true ∧ ce.flag (fCntEn 3) = true ∧ ce.get (fCntPart 3) = 2 ∧ leNat (leBytes 8 65535) = 65535 ∧ (0x1000800018 - 0x1000800000) / 8 = 3 ∧
    goes (exec .counterWindowWrite { ce with ceWrites := [⟨0, 2, 0x1000800018, leBytes 8 65535⟩] }) (fun t => t.reg (kCnt 3) == 65535 && t.ceWrites == []) = true := by decide +kernel

theorem wit_ce_descriptors : ce.turnsAway 0 = false ∧ (ce.trig 4).valid = false ∧ ((trigSet (head4 4 1 0 0) 0 0x100 0 0 7 ce).trig 4).valid = true ∧
    goes (exec (.triggerDescriptorWrite 0 4 15 7) ce) (fun t => t.reg (kTrig 4 15) == 0) = true ∧
    goes (exec (.triggerDescriptorWrite 0 4 12 0xFFF00007) ce) (fun t => t.reg (kTrig 4 12) == 7) = true ∧
    ((trigSet (head4 4 0 0 0) 0 0x100 0 0 7 ce).trig 4).valid = false ∧ (0x03020104 : Word).getLsbD 8 = true ∧
    (trigSet (head4 4 0 0 0) 0 0x100 0 0 7 ce).trigBad 4 (((trigSet (head4 4 0 0 0) 0 0x100 0 0 7 ce).setReg (kTrig 4 0) 0x03020104).trig 4) = false ∧
    ce.trigBad 4 ((ce.setReg (kTrig 4 0) 0x03020109).trig 4) = true ∧
    goes (exec (.triggerDescriptorWrite 0 4 0 0x03020104) (trigSet (head4 4 0 0 0) 0 0x100 0 0 7 ce)) (fun t => (t.trig 4).valid && t.reg (kFired 4) == 0) = true ∧
    goes (exec (.triggerDescriptorWrite 0 4 0 0x03020109) ce) (fun t => t.flag fCeRejected && !(t.trig 4).valid) = true ∧
    goes (exec (.triggerDescriptorWrite 0 4 0 0x03020004) (trigSet (head4 4 1 0 0) 0 0x100 0 0 7 ce)) (fun t => !(t.trig 4).valid) = true ∧
    goes (exec (.triggerDescriptorWrite 0 4 1 0) (trigSet (head4 4 1 0 0) 0 0x100 0 0 7 ce)) (fun t => t.flag fCeRejected) = true := by decide +kernel

theorem wit_ce_fire : ((trigSet (head4 4 1 0 0) 0 0x100 0 0 7 ce).setReg64 (kCnt 3) 1).firing 4 = none ∧ ce.flag fCeFenced = false ∧
    (((trigSet (head4 4 1 0 0) 0 0x100 0 0 7 ce).setReg64 (kCnt 3) 1).trig 4).thresh + (((trigSet (head4 4 1 0 0) 0 0x100 0 0 7 ce).setReg64 (kCnt 3) 1).trig 4).fired * 1 ≤ 1 ∧
    goes (exec (.triggeredOpFire 4 true) ((trigSet (head4 4 1 0 0) 0 0x100 0 0 7 ce).setReg64 (kCnt 3) 1)) (fun t => (t.firing 4).isSome) = true ∧
    goes (exec (.triggeredOpFire 4 true) (trigSet (head4 4 1 0 0) 0 0x100 0 0 7 ce)) (fun t => (t.firing 4).isNone) = true := by decide +kernel

theorem wit_ce_put : (ceFired (trigSet (head4 1 1 0 0) 0x200 0x100 8 0 0 ce)).dueFiring 4 1 = true ∧ ce.dramBad = [] ∧ ((trigSet (head4 1 1 0 0) 0x200 0x100 8 0 0 ce).trig 4).dev = ce.device ∧
    ((trigSet (head4 1 1 0 0) 0x200 0x100 8 0 0 ce).trig 4).srcCeb = false ∧ ((trigSet (head4 1 1 0 0) 0x200 0x100 8 0 0 ce).trig 4).dstCeb = false ∧ ((trigSet (head4 1 1 0 0) 0x200 0x100 8 0 0 ce).trig 4).recvEn = false ∧
    ce.jobOk 2 0x200 8 false = true ∧ ce.jobOk 2 0x100 8 true = true ∧
    goes (exec (.put 4 .clean) (ceFired (trigSet (head4 1 1 0 0) 0x200 0x100 8 0 0 ce))) (fun t => t.ramByte 0x104 == 1 && t.firing 4 == some { performed := true, failed := false, waits := [] }) = true ∧
    (ceFired (trigSet (head4 1 1 1 0) 0x200 0x100 8 0 0 ce)).dueFiring 4 1 = true ∧ ((trigSet (head4 1 1 1 0) 0x200 0x100 8 0 0 ce).trig 4).dev ≠ ce.device ∧
    ((((ce.setReg 0x8 0x14).put (fKlyState 0) klyUp)).choosePort ((((ce.setReg 0x8 0x14).put (fKlyState 0) klyUp)).routeOf 4 1)).isSome = true ∧
    goes (exec (.put 4 .clean) (ceFired (trigSet (head4 1 1 1 0) 0x200 0x100 8 0 0 ((ce.setReg 0x8 0x14).put (fKlyState 0) klyUp)))) (fun t => t.firing 4 == some { performed := true, failed := false, waits := [1] } && (t.kport 0).own.length == 1) = true := by decide +kernel

theorem wit_ce_reduce_exchange : (ceFired (trigSet (head4 2 1 0 0) 0 0x100 8 64 0 ce)).dueFiring 4 2 = true ∧ reduceSize 0 ∣ 8 ∧ ce.devices = 1 ∧ ce.device = 0 ∧ ce.stageOk 2 0 8 = true ∧
    goes (exec (.reduce 4 .clean) (ceFired (trigSet (head4 2 1 0 0) 0 0x100 8 64 0 (ce.stageWrite 0 [1, 2, 3, 4, 5, 6, 7, 8])))) (fun t => t.ramByte 0x100 == 1 && (t.firing 4).isSome) = true ∧
    (ceFired (trigSet (head4 3 1 0 6) 0x200 0x100 1 0 0x200 ce)).dueFiring 4 3 = true ∧ fieldAt (ce.ramBytes 0x200 8) 0 4 = 0 ∧ fieldAt (ce.ramBytes 0x200 8) 4 4 = 1 ∧
    ce.jobOk 2 0x200 64 false = true ∧ ce.jobOk 2 0x100 128 true = true ∧ ((trigSet (head4 3 1 0 6) 0x200 0x100 1 0 0x200 ce).trig 4).slotLen = 128 := by decide +kernel

theorem wit_ce_flag_doorbell : (ceFired (trigSet (head4 4 1 0 0) 0 0x100 0 0 7 ce)).dueFiring 4 4 = true ∧
    goes (exec (.flag 4) (ceFired (trigSet (head4 4 1 0 0) 0 0x100 0 0 7 ce))) (fun t => t.ramByte 0x100 == 7 && t.ramByte 0x107 == 0) = true ∧
    (ceFired (trigSet (head4 5 1 0 0) 0 0 0 0 0x10005 (queued 1 [] []))).dueFiring 4 5 = true ∧ ((queued 1 [] []).queue 5).owner = 2 ∧ (queued 1 [] []).advanceFault ((queued 1 [] []).queue 5) 1 = none ∧
    goes (exec (.doorbell 4) (ceFired (trigSet (head4 5 1 0 0) 0 0 0 0 0x10005 (queued 1 [] [])))) (fun t => (t.queue 5).jobs.length == 1 && (t.queue 5).prod == 2) = true := by decide +kernel

theorem wit_ce_complete : Tbl.wf (ceDone [] (trigSet (head4 4 5 0 0) 0 0x100 0 0 7 ce)).kly.firings = true ∧ ((trigSet (head4 4 5 0 0) 0 0x100 0 0 7 ce).trig 4).doneEn = true ∧ ce.cntOwned 3 2 = true ∧
    ((trigSet (head4 4 5 0 0) 0 0x100 0 0 7 ce).trig 4).doneCnt = 3 ∧ ((trigSet (head4 4 5 0 0) 0 0x100 0 0 7 ce).trig 4).rearm = false ∧
    goes (exec (.firingComplete 4) (ceDone [] (trigSet (head4 4 5 0 0) 0 0x100 0 0 7 ce))) (fun t => t.reg (kFired 4) == 1 && !(t.trig 4).valid && t.reg (kCnt 3) == 1 && t.reg kCeOps == 1) = true ∧
    (ceDone [1] (trigSet (head4 4 5 0 0) 0 0x100 0 0 7 ce)).kly.late = [] ∧ ((trigSet (head4 4 5 0 0) 0 0x100 0 0 7 ce).trig 4).timeout = 1000 ∧
    goes (exec (.firingTimeout 4 1000) (ceDone [1] (trigSet (head4 4 5 0 0) 0 0x100 0 0 7 ce))) (fun t => t.reg kCeTmo == 1 && raised t 0x5204 .jobFault) = true ∧
    goes (exec (.firingTimeout 4 999) (ceDone [1] (trigSet (head4 4 5 0 0) 0 0x100 0 0 7 ce))) (fun t => t.reeve.events == []) = true := by decide +kernel

-- SENSOR INTAKE

/-- Port 0 has ladder entries 0 and 2, with scripts at entries 5 and 9. -/
def ladders : State := (running.setReg 0x10040 0x80000005).setReg 0x10048 0x80000009

/-- Port 0 is enabled, at entry 0, in this state, and a script stands where r says. -/
def portAt (st entry : Nat) (r : Option ScriptRun) : State := (((ladders.setReg 0x10010 0x80002000).put (fPortState 0) st).put (fPortEntry 0) entry).setPort 0 { PortSt.reset with script := r }

theorem wit_port : okB ladders = true ∧ ladders.turnsAway 0 = false ∧ ladders.percOrPf 0 = true ∧ ladders.blocksOff = false ∧ ladders.flag (fPortEn 0) = false ∧ (fPortEn 0).ofWord (0x80002000 : Word) = 1 ∧
    portCfgOk 0 0x80002000 = true ∧ portCfgOk 0 0x80000000 = false ∧ portCfgOk 0 0x80002003 = false ∧ ladders.entryFrom 0 0 = some 0 ∧ ladders.entryFrom 0 1 = some 2 ∧ ladders.entryFrom 0 3 = none ∧ running.entryFrom 3 0 = none ∧
    goes (exec (.millPortEnable 0 0 0x80002000) ladders) (fun t => t.get (fPortState 0) == 1 && (t.port 0).script == some ⟨5, true⟩) = true ∧
    goes (exec (.millPortEnable 0 3 0x80002000) ladders) (fun t => t.get (fPortState 3) == 3 && raised t 0x1102 .violation) = true ∧
    goes (exec (.millPortEnable 0 0 0x80000000) ladders) (fun t => t.flag fMillRejected) = true ∧
    goes (exec (.millPortDisable 0 0 0x00002000) (portAt 2 0 none)) (fun t => t.get (fPortState 0) == 0) = true ∧
    goes (exec (.portLockTimeout 0 200) (portAt 1 0 none)) (fun t => t.get (fPortEntry 0) == 2 && (t.port 0).script == some ⟨9, true⟩) = true ∧
    goes (exec (.portLockTimeout 0 199) (portAt 1 0 none)) (fun t => t.get (fPortEntry 0) == 0) = true ∧
    goes (exec (.portLockTimeout 0 200) (portAt 1 2 none)) (fun t => t.get (fPortState 0) == 3 && t.reg (kPortErrs 0) == 1) = true ∧
    (List.range 4).all (fun q => running.get (fPortState q) != 1 && (running.port q).script == none) = true ∧
    goes (exec (.i2cRun 0 3 0x800003FF) running) (fun t => (t.port 3).script == some ⟨1023, false⟩) = true ∧
    goes (exec (.i2cRun 0 3 0x800003FF) (portAt 2 0 (some ⟨5, false⟩))) (fun t => t.flag fMillRejected) = true := by decide +kernel

/-- A script of port 0 stands at entry 5, whose two words are these. -/
def script (w0 w1 : Word) : State := ((portAt 2 0 (some ⟨5, false⟩)).setReg (0x16000 + 40) w0).setReg (0x16000 + 44) w1

theorem wit_script : (script 0x18100203 7).scriptOp 5 = 1 ∧ (script 0x20000000 500).scriptOp 5 = 2 ∧ (script 0x30100203 0xFF07).scriptOp 5 = 3 ∧ (script 0 0).scriptOp 5 = 0 ∧ (script 0x40000000 0).scriptOp 5 = 4 ∧
    goes (exec (.scriptWrite 0 true 10000 false) (script 0x18100203 7)) (fun t => t.emitted == [.i2cWrite 0 0x10 0x203 true 7] && (t.port 0).script == some ⟨6, false⟩) = true ∧
    goes (exec (.scriptWrite 0 true 10001 false) (script 0x18100203 7)) (fun t => t.get (fI2cState 0) == 3) = true ∧
    goes (exec (.scriptWrite 0 false 0 false) (script 0x18100203 7)) (fun t => t.get (fI2cState 0) == 3 && t.get (fI2cFailed 0) == 5) = true ∧
    goes (exec (.scriptWait 0 false) (script 0x20000000 500)) (fun t => t.now == 500000 && (t.port 0).script == some ⟨6, false⟩) = true ∧
    goes (exec (.scriptPoll 0 true 7 0 false) (script 0x30100203 0xFF07)) (fun t => (t.port 0).script == some ⟨6, false⟩) = true ∧
    goes (exec (.scriptPoll 0 true 6 99 false) (script 0x30100203 0xFF07)) (fun t => (t.port 0).script == some ⟨5, false⟩) = true ∧
    goes (exec (.scriptPoll 0 true 6 100 false) (script 0x30100203 0xFF07)) (fun t => (t.port 0).script == none && t.get (fI2cState 0) == 3) = true ∧
    goes (exec (.scriptEnd 0 false) (script 0 0)) (fun t => (t.port 0).script == none && t.get (fI2cState 0) == 2) = true ∧
    goes (exec (.scriptInvalidOp 0 false) (script 0x40000000 0)) (fun t => t.get (fI2cState 0) == 3 && t.get (fI2cFailed 0) == 5) = true := by decide +kernel

/-- Stream 1 of port 0 receives 4 × 2 pixels of RAW8 on channel 0, in group 3, untriggered, into 2 slots. -/
def camera : State :=
  ((((portAt 2 0 none).setReg (kStrm 1 0) 0x98F00200).setReg (kStrm 1 4) 0x2A0).setReg (kStrm 1 0x30) 0x00020004)

/-- It has begun frame 9, with these lines not decoded, so many received. -/
def cameraFrame (pend : List CamLine) (n : Nat) : State :=
  camera.setStrm 1 { StreamSt.reset with frames := [{ newFrame 1 100 [] 0 9 (some 0) with pend := pend, received := n }] }

theorem wit_camera : okB camera = true ∧ camera.get (fPortState 0) = 2 ∧ camera.camStreams 0 0 = [1] ∧ camera.camStreams 0 15 = [] ∧ camera.receiving 1 = none ∧ camera.get (fStrmMethod 1) = 0 ∧ camera.windowOpen 1 = true ∧
    (camera.strm 1).begun = [] ∧ camera.slotsHeld 1 < camera.get (fStrmSlots 1) ∧ camera.now ≤ 8 ∧ camera.reg (kStrmOffset 1) = 0 ∧
    camera.decodeMode 1 = 0 ∧ camera.get (fGeomH 1) = 2 ∧ camera.lineBytes 1 = 4 ∧ camera.get (fSrcDt 1) = 0x2A ∧
    ((cameraFrame [⟨[1, 2, 3, 4], 0⟩] 2).receiving 1).isSome = true ∧ ((cameraFrame [⟨[1, 2, 3, 4], 0⟩] 1).lineBuffered 1) = 4 ∧
    goes (exec (.csiLongPacket 0 0 0x2A [5, 6, 7, 8] .clean true false 15 .clean 200) (cameraFrame [⟨[1, 2, 3, 4], 0⟩] 1)) (fun t => (t.receiving 1).map (fun f => (f.pend.length, f.received)) == some (2, 2)) = true ∧
    goes (exec (.csiFrameStart 0 15 9 .clean false 200) camera) (fun t => t.reg (kPortErrs 0) == 1 && raised t 0x1108 .violation) = true ∧
    goes (exec (.frameAssemblyTimeout 1 65535) (cameraFrame [] 1)) (fun t => (t.strm 1).skip && raised t 0x1105 .violation) = true ∧
    goes (exec (.decodeLine 1 .clean false) (cameraFrame [⟨[1, 2, 3, 4], 0⟩] 1)) (fun t => (t.strm 1).frames.map (fun f => f.lines) == [[([1, 2, 3, 4], true)]]) = true := by decide +kernel

/-- Port 0 has seen seven good packets at entry 0. -/
def settling : State := (portAt 1 0 none).setPort 0 { PortSt.reset with good := 7 }

theorem wit_lock : settling.get (fPortState 0) = 1 ∧ (settling.port 0).good = 7 ∧ settling.lanesOf 0 (settling.get (fPortEntry 0)) ≤ 15 ∧
    goes (exec (.csiLongPacket 0 0 0x2A [1] .clean true false 15 .clean 9) settling) (fun t => t.get (fPortState 0) == 2) = true := by decide +kernel

/-- Range stream 16 takes UDP port 7 on MAC 0. -/
def ranger : State := (running.setReg (kStrm 16 0) 0xC0F30200).setReg (kStrm 16 4) 0x00070000

def pkt (ok : Bool) : UdpPacket := { srcIp := 0, dstPort := 7, payload := [1, 2, 3], checksumOk := ok, fragment := false, udpHeader := true, malformed := false, tags := 0 }

theorem wit_range : ranger.classify 0 (pkt true) = some 16 ∧ ranger.classify 0 (pkt false) = some 16 ∧ (ranger.strm 16).run = none ∧ (ranger.strm 16).queue = [] ∧ ranger.now ≤ 8 ∧ okB ranger = true := by decide +kernel

/-- Stream 1 reads its region list of one region at 0x1000, whose magic is this. -/
def listed (magic : Nat) : State :=
  ((((camera.setStrm 1 { StreamSt.reset with listDue := true }).setReg (kList 1) 0x1000).setReg (kPart 0 4) 0x80001000).setReg (kSv 1 0x18) 0x08200020).ramWrite .mill 0x1000
    (leBytes 4 magic ++ leBytes 4 7 ++ [1, 15, 0, 0] ++ leBytes 4 5 ++ leBytes 12 0 ++ leBytes 4 1921035822 ++ leBytes 4 1 ++ leBytes 4 2 ++ [3, 0, 9, 0] ++ leBytes 4 0)

set_option maxRecDepth 100000 in
theorem wit_list : (listed 0).flag (fStrmEn 1) = true ∧ ((listed 0).reg64 (kList 1)).toNat = 0x1000 ∧ (listed 0).get (fRoiMax 1) = 1 ∧ ((listed 0).ramByte 0x1008).toNat = 1 ∧ (listed 0).winOk (listed 0).perc 0x1000 48 false = true ∧
    (listed 0).badIn 0x1000 48 = none ∧ listOf 1 ((listed 0x31494F52).ramBytes 0x1000 48) = some ⟨5, 7, 15, [⟨1, 2, 3, 9⟩]⟩ ∧ listOf 1 ((listed 0).ramBytes 0x1000 48) = none ∧ ((listed 0).strm 1).list = none ∧
    goes (exec (.sieveListRead 1 false) (listed 0x31494F52)) (fun t => (t.strm 1).list.isSome && t.get (fListSeq 1) == 5) = true ∧
    goes (exec (.sieveListRead 1 false) (listed 0)) (fun t => t.reg (kSvCnt 1 1) == 1 && raised t 0x1113 .violation) = true := by decide +kernel

/-- Frames run, and trigger 7 fires camera stream 2 of group 3; the stream's frames are of the same frame numbers. -/
def trigOn : State := ((framed.setReg 0x10170 0x80000001).setReg (kStrm 2 0) 0x98700200).setReg kFrameNum 4

theorem wit_trigger : okB trigOn = true ∧ trigOn.asleep = false ∧ trigOn.flag (fTrigEn 7) = true ∧ trigOn.tb.begun = true ∧ trigOn.get fSpll = 2 ∧ trigOn.boundaryAt (trigOn.tb.next - 1) = 133000000 ∧ trigOn.trigStreams 7 = [2] ∧
    (trigOn.reg kFrameNum).toNat % (trigOn.get (fTrigDiv 7) + 1) = 0 ∧ (trigOn.reg (kTrigOffset 7)).toNat * 1000 < trigOn.period ∧
    goes (exec (.triggerFire 7) trigOn) (fun t => t.emitted == [.trigOut 7 true true] && t.reg (kTrigFired 7) == 1) = true ∧
    goes (exec (.triggerFire 7) (trigOn.put (fPll 5) 4)) (fun t => t.reg (kTrigMissed 7) == 1 && (t.grp 3).missed == [(2, 4)] && raised t 0x1401 .report) = true ∧
    goes (exec (.triggerPulseEnd 7) { trigOn with mill := { Mill.reset with pulses := [(7, 133100000)] } }) (fun t => t.emitted == [.trigOut 7 false false] && t.mill.pulses == []) = true ∧
    goes (exec (.triggerWindowEnd 2) (trigOn.setStrm 2 { StreamSt.reset with windows := [(4, 133000000, false), (5, 166000000, false)] })) (fun t => (t.strm 2).windows == [(5, 166000000, false)] && (t.grp 3).absent == [(2, 4)]) = true := by decide +kernel

/-- Group 3 is enabled in SYNC mode with a ring of so many records; frame 4 is next, and stream 2 has missed it. -/
def grouped (size : Word) : State := ((trigOn.setReg (0x10200 + 96) 0x80000000).setReg (kGrpRingSize 3) size).setGrp 3 { GroupSt.reset with next := some 4, missed := [(2, 4)] }

/-- The same in FREE mode, with a frame of stream 2 waiting. -/
def freeGroup : State := ((grouped 256).setReg (0x10200 + 96) 0xC0000000).setGrp 3 { GroupSt.reset with waiting := [{ newFrame 2 100 [] 0 9 none with closed := true }] }

theorem wit_group : (grouped 256).grpFree 3 = false ∧ (grouped 256).flag (fGrpEn 3) = true ∧ (grouped 256).blocksOff = false ∧ after 4 ((grouped 256).reg kFrameNum) = false ∧ (grouped 256).members 3 = [2] ∧
    ((grouped 256).grp 3).resolved 2 4 = true ∧ (grouped 256).recovering = false ∧ (grouped 256).ringRoom 3 2 = true ∧ (grouped 1).ringRoom 3 2 = false ∧ (grouped 2).ringRoom 3 2 = true ∧
    goes (exec (.groupCollectClose 3 4) (grouped 256)) (fun t => (t.grp 3).closedAt == [⟨4, 150000, []⟩]) = true ∧
    goes (exec (.millGroupPost 3) (grouped 256)) (fun t => t.reg (kGrpHead 3) == 2 && (t.grp 3).next == some 5) = true ∧
    goes (exec (.millGroupPost 3) (grouped 1)) (fun t => t.reg (kGrpStalls 3) == 1 && (t.grp 3).stalled) = true ∧
    goes (exec (.millGroupPost 3) { grouped 256 with reeve := { framed.reeve with recovery := some recov } }) (fun t => t.reg kRecoveryDrops == 1 && (t.grp 3).next == some 5) = true ∧
    freeGroup.grpFree 3 = true ∧ freeGroup.ringRoom 3 2 = true ∧ goes (exec (.millGroupPost 3) freeGroup) (fun t => t.reg (kGrpHead 3) == 2 && (t.grp 3).waiting == []) = true := by decide +kernel

/-- Stream 2 is configured and may be enabled. -/
def mayEnable : State := (((running.setReg (kSv 2 0) 0x01000000).setReg (kSv 2 0x18) 0x00200020).setReg (kStrm 2 0x30) 0x00020004).setReg (kSlotSize 2) 64

theorem wit_rings : mayEnable.turnsAway 0 = false ∧ mayEnable.percOrPf 0 = true ∧ mayEnable.blocksOff = false ∧ (mayEnable.setReg (kStrmCnt 2 0) 3).slotsHeld 2 = 3 ∧
    goes (exec (.slotRelease 0 2 3) (mayEnable.setReg (kStrmCnt 2 0) 3)) (fun t => t.reg (kRelease 2) == 3) = true ∧
    goes (exec (.slotRelease 0 2 4) (mayEnable.setReg (kStrmCnt 2 0) 3)) (fun t => t.flag fMillRejected) = true ∧
    after 3 ((mayEnable.setReg (kGrpHead 3) 3).reg (kGrpHead 3)) = false ∧ after 4 ((mayEnable.setReg (kGrpHead 3) 3).reg (kGrpHead 3)) = true ∧
    goes (exec (.groupTailWrite 0 3 3) (mayEnable.setReg (kGrpHead 3) 3)) (fun t => t.reg (kGrpTail 3) == 3) = true ∧
    goes (exec (.groupTailWrite 0 3 4) (mayEnable.setReg (kGrpHead 3) 3)) (fun t => t.flag fMillRejected) = true ∧
    (fStrmEn 2).ofWord (0x98F00200 : Word) = 1 ∧ strmCtrlOk 2 0x98F00200 = true ∧ strmCtrlOk 2 0x98F00100 = false ∧ mayEnable.sieveOk 2 = true ∧ running.sieveOk 2 = false ∧
    goes (exec (.streamEnable 0 2 0x98F00200) mayEnable) (fun t => t.flag (fStrmEn 2)) = true ∧
    goes (exec (.streamEnable 0 2 0x98F00100) mayEnable) (fun t => t.flag fMillRejected) = true := by decide +kernel

/-- Stream 16 runs its parser on a packet of four bytes at this word, the first of its program, after so many instructions. -/
def parseRun (n : Nat) : ParserRun := { payload := [0x11, 0x22, 0x33, 0xF4], g := (List.range 16).map (fun (i : Nat) => BitVec.ofNat 32 (i % 4)), pc := 0, steps := n, effects := [], expected := some 2, number := none, lost := [] }

def parsing (w : Word) (n : Nat) : State :=
  (running.setReg 0x18000 w).setStrm 16 { StreamSt.reset with run := some (⟨100, []⟩, parseRun n) }

/-- What its run then holds. -/
def parsed (t : State) (p : ParserRun → Bool) : Bool := match (t.strm 16).run with
  | some x => p x.2
  | none => false

def enc (op d s t imm : Nat) : Word := BitVec.ofNat 32 (op * 2 ^ 26 + d * 2 ^ 22 + s * 2 ^ 18 + t * 2 ^ 14 + imm)

theorem wit_parser_loads : okB (parsing (enc 1 5 4 0 3) 0) = true ∧ instrAt (parsing (enc 1 5 4 0 3) 0).pcode 0 = some (enc 1 5 4 0 3) ∧ parserOp (enc 1 5 4 0 3) = .ld8 ∧
    parserOp (enc 2 5 1 0 0) = .ld16 true ∧ parserOp (enc 3 5 1 0 0) = .ld16 false ∧ parserOp (enc 4 5 4 0 0) = .ld32 true ∧ parserOp (enc 5 5 4 0 0) = .ld32 false ∧
    goes (exec (.parserLd8 0 false) (parsing (enc 1 5 4 0 3) 0)) (fun t => parsed t (fun r => r.reg 5 == 0xF4 && r.pc == 1 && r.steps == 1)) = true ∧
    goes (exec (.parserLd16 0 false) (parsing (enc 2 5 1 0 0) 0)) (fun t => parsed t (fun r => r.reg 5 == 0x2233)) = true ∧
    goes (exec (.parserLd16 0 false) (parsing (enc 3 5 1 0 0) 0)) (fun t => parsed t (fun r => r.reg 5 == 0x3322)) = true ∧
    goes (exec (.parserLd32 0 false) (parsing (enc 4 5 4 0 0) 0)) (fun t => parsed t (fun r => r.reg 5 == 0x112233F4)) = true ∧
    goes (exec (.parserLd32 0 false) (parsing (enc 5 5 4 0 0) 0)) (fun t => parsed t (fun r => r.reg 5 == 0xF4332211)) = true := by decide +kernel

theorem wit_parser_arith : parserOp (enc 6 5 0 0 0x3FFFF) = .ldi ∧ parserOp (enc 7 5 0 0 7) = .lui ∧ parserOp (enc 9 5 1 2 0) = .alu 1 ∧ parserOp (enc 13 5 1 2 0) = .shift 0 ∧
    parserOp (enc 16 5 3 3 0) = .mul false ∧ parserOp (enc 17 5 3 3 0) = .mul true ∧ parserOp (enc 18 5 3 0 0x3FFFF) = .addi ∧ parserOp (enc 0x13 5 3 0 1) = .lut ∧
    goes (exec (.parserLdi 0 false) (parsing (enc 6 5 0 0 0x3FFFF) 0)) (fun t => parsed t (fun r => r.reg 5 == 0xFFFFFFFF)) = true ∧
    goes (exec (.parserLui 0 false) (parsing (enc 7 5 0 0 7) 0)) (fun t => parsed t (fun r => r.reg 5 == 0x70001)) = true ∧
    goes (exec (.parserAlu 0 false) (parsing (enc 9 5 1 2 0) 0)) (fun t => parsed t (fun r => r.reg 5 == 0xFFFFFFFF)) = true ∧
    goes (exec (.parserShift 0 false) (parsing (enc 13 5 1 2 0) 0)) (fun t => parsed t (fun r => r.reg 5 == 4)) = true ∧
    goes (exec (.parserMul 0 false) (parsing (enc 16 5 3 3 0) 0)) (fun t => parsed t (fun r => r.reg 5 == 9)) = true ∧
    goes (exec (.parserMul 0 false) (parsing (enc 17 5 3 3 0) 0)) (fun t => parsed t (fun r => r.reg 5 == 0)) = true ∧
    goes (exec (.parserAddi 0 false) (parsing (enc 18 5 3 0 0x3FFFF) 0)) (fun t => parsed t (fun r => r.reg 5 == 2)) = true ∧
    (parsing 0 0).get (fTableBase 16) + 3 + 1 < 4096 ∧
    goes (exec (.parserLut 0 false) ((parsing (enc 0x13 5 3 0 1) 0).setReg 0x1C010 77)) (fun t => parsed t (fun r => r.reg 5 == 77)) = true := by decide +kernel

theorem wit_parser_rest : parserOp (enc 0x14 1 5 0 3) = .branch 0 ∧ parserOp (enc 0x19 0 0 0 0) = .emit ∧ parserOp (enc 0x1A 0 3 0 0) = .stamp ∧ parserOp (enc 0x1B 0 0 0 0) = .sweep ∧
    parserOp (enc 0x1C 0 2 0 15) = .seq ∧ parserOp (enc 0x1D 0 0 0 9) = .reject ∧ parserOp 0 = .end_ ∧ parserOp (enc 0x18 0 0 0 0) = .invalid ∧ parserOp (enc 0x19 13 0 0 0) = .invalid ∧
    goes (exec (.parserBranch 0 false) (parsing (enc 0x14 1 5 0 3) 0)) (fun t => parsed t (fun r => r.pc == 3)) = true ∧
    goes (exec (.parserBranch 0 false) (parsing (enc 0x14 1 6 0 3) 0)) (fun t => parsed t (fun r => r.pc == 1)) = true ∧
    goes (exec (.parserEmit 0 false) (parsing (enc 0x19 0 0 0 0) 0)) (fun t => parsed t (fun r => r.effects.length == 1)) = true ∧
    goes (exec (.parserStamp 0 false) (parsing (enc 0x1A 0 3 0 0) 0)) (fun t => parsed t (fun r => r.effects.length == 1)) = true ∧
    goes (exec (.parserSweep 0 false) (parsing (enc 0x1B 0 0 0 0) 0)) (fun t => parsed t (fun r => r.effects == [.sweep])) = true ∧
    goes (exec (.parserSeq 0 false) (parsing (enc 0x1C 0 2 0 15) 0)) (fun t => parsed t (fun r => r.expected == some 3)) = true ∧
    goes (exec (.parserLd8 0 false) (parsing (enc 1 5 4 0 4) 0)) (fun t => (t.strm 16).run == none && raised t 0x1203 .violation) = true ∧
    goes (exec (.parserReject 0 false) (parsing (enc 0x1D 0 0 0 9) 0)) (fun t => (t.strm 16).run == none && raised t 0x1205 .violation) = true ∧
    goes (exec (.parserInvalidOp 0 false) (parsing (enc 0x18 0 0 0 0) 0)) (fun t => (t.strm 16).run == none && raised t 0x1303 .report) = true ∧
    goes (exec (.parserRunLimit 0) (parsing 0 65536)) (fun t => (t.strm 16).run == none && raised t 0x1204 .violation) = true := by decide +kernel

/-- A sweep of stream 16 is open, and its parser stands at an END. -/
def sweepOpen : State := (parsing 0 0).setStrm 16 { (parsing 0 0).strm 16 with frames := [newFrame 16 100 [] 0 9 (some 0)] }

theorem wit_parser_end : (sweepOpen.receiving 16).isSome = true ∧ (sweepOpen.strm 16).queue = [] ∧
    goes (exec (.parserEnd 0 false) sweepOpen) (fun t => (t.strm 16).run == none && (t.strm 16).expected == some 2) = true := by decide +kernel

/-- Partition 2 has DRAM below 8 GiB, and every core has two Granary buffers of 64 KiB (class 0, from page 0). -/
def coreBase : State := ((qmBase.on fPoolEn).setReg 0x50140 0x40020000)

def regsAsNumbers : CoreSt := { CoreSt.reset with job := some job2, loaded := true, s := (List.range 32).map (BitVec.ofNat 64), a := (List.range 16).map (fun (i : Nat) => BitVec.ofNat 32 (16 * i)),
                                                  grn := { Granary.reset with recs := [(0, { held := true, part := 2, eng := 4, dt := 3 })], bytes := [(16, 0x85), (17, 0x90)] } }

/-- A bundle at 0x1000 with these instructions, checked and perhaps issued. -/
def bun (ops : List Op) (issued : Bool) : Held :=
  { addr := 0x1000, raw := 0, ops := ops, todo := ops, checked := true, issued := issued, ecc := .clean, sv := regsAsNumbers.s, av := regsAsNumbers.a, tv := regsAsNumbers.t, alloc := none, allocVal := none, stalled := false }

def onSlot (ops : List Op) (issued : Bool) : State := { coreBase with cores := [(0, { regsAsNumbers with bundle := some (bun ops issued) })] }

/-- The instruction stands in the issued bundle's first slot, alone. -/
def at0 (o : Op) : State := onSlot [o, .nop, .nop] true

theorem wit_core : okB coreBase = true ∧ (at0 .nop).runs 0 = true ∧ (at0 .nop).starts 0 = true ∧ (at0 .nop).jobPart 0 = 2 := by decide +kernel

theorem onSlot_runs (ops : List Op) (i : Bool) : (onSlot ops i).runs 0 = true := by
  have h := wit_core.2.1
  unfold State.runs State.paused at *
  exact h

/-- The hypothesis of the statements about issued bundles is met, for any instruction. -/
theorem wit_slotReady (o : Op) : SlotReady (at0 o) 0 (bun [o, .nop, .nop] true) 0 o :=
  ⟨⟨onSlot_runs _ _, rfl, rfl, rfl, fun i _ h => absurd h (Nat.not_lt_zero i)⟩, rfl⟩

/-- So are those about bundles held back, by this instruction alone or by another one too. -/
theorem wit_lastGate (o : Op) : LastGate (onSlot [o, .nop, .nop] false) 0 (bun [o, .nop, .nop] false) 0 o :=
  ⟨⟨onSlot_runs _ _, rfl, rfl, rfl, fun i _ h => absurd h (Nat.not_lt_zero i)⟩, rfl, rfl, rfl, rfl, .inr (by decide : (0 : Nat) < 16), by
    refine List.filter_eq_nil_iff.mpr (fun e _ => ?_)
    have hq : ∀ e, ((onSlot [o, .nop, .nop] false).core 0).qlen e = 0 := by intro e; simp only [CoreSt.qlen]; repeat' (first | rfl | split)
    show ¬decide (32 ≤ ((onSlot [o, .nop, .nop] false).core 0).qlen e) = true
    rw [hq]; decide⟩

theorem wit_gateReady (o : Op) : GateReady (onSlot [o, .endJob, .nop] false) 0 (bun [o, .endJob, .nop] false) 0 o :=
  ⟨⟨onSlot_runs _ _, rfl, rfl, rfl, fun i _ h => absurd h (Nat.not_lt_zero i)⟩, rfl, rfl, rfl⟩

/-- What sN and aN of core 0 then hold. -/
def s0 (n : Nat) (v : DWord) (t : State) : Bool := getS (t.core 0).s n == v
def a0 (n : Nat) (v : Word) (t : State) : Bool := getA (t.core 0).a n == v

theorem wit_salu : goes (exec (.saluAlu 0 0 .clean) (at0 (.salu 1 false 9 3 5 0))) (s0 9 (-2)) = true ∧
    goes (exec (.saluShift 0 0 .clean) (at0 (.salu 5 true 9 3 0 68))) (s0 9 48) = true ∧
    goes (exec (.saluMul 0 0 .corrected) (at0 (.salu 8 false 9 3 5 0))) (fun t => s0 9 15 t && t.reg (kCore 0 0x2C) == 1) = true ∧
    goes (exec (.saluMinmax 0 0 .clean) (at0 (.salu 11 true 9 3 0 0xFFFFF))) (s0 9 (-1)) = true ∧
    goes (exec (.saluCompare 0 0 .clean) (at0 (.salu 16 true 9 3 0 0xFFFFF))) (s0 9 1) = true ∧
    goes (exec (.addh 0 0 .clean) (at0 (.salu 18 true 9 3 0 0x80000))) (s0 9 0xFFFFFF8000000003) = true ∧
    goes (exec (.mova 0 0 .clean) (at0 (.salu 19 false 4 3 0 0))) (a0 4 3) = true ∧
    goes (exec (.movs 0 0 .clean) (at0 (.salu 20 false 9 3 0 0))) (s0 9 48) = true ∧
    goes (exec (.adda 0 0 .clean) (at0 (.salu 21 true 4 3 0 0xFFFFF))) (a0 4 47) = true ∧
    goes (exec (.li64 0) (at0 (.li64 9 0x123456789ABCDEF0))) (fun t => s0 9 0x123456789ABCDEF0 t && (t.core 0).bundle == none && t.reg (kRetired 0) == 1) = true ∧
    goes (exec (.saluAlu 0 0 .uncorrectable) (at0 (.salu 1 false 9 3 5 0))) (fun t => raised t 0x2402 .jobFault && (t.core 0).frozen) = true ∧
    goes (exec (.mova 0 0 .uncorrectable) (at0 (.salu 19 false 4 3 0 0))) (fun t => raised t 0x2402 .jobFault) = true := by decide +kernel

/-- s8 of the bundle and the core holds this. -/
def withS8 (v : DWord) (s : State) : State :=
  s.setCore 0 { s.core 0 with s := (s.core 0).s.set 8 v, bundle := (s.core 0).bundle.map (fun (h : Held) => { h with sv := h.sv.set 8 v }) }

def ld (imm : Nat) : Op := .smem 0 8 false 9 8 imm
def sto (imm : Nat) : Op := .smem 1 8 false 9 8 imm

theorem wit_memory : smemAddr 0x1000 0x7FFF8 = 0xFF8 ∧ (withS8 0x1000 (at0 (ld 0))).jobOk 2 0x1000 8 false = true ∧ (withS8 0x1000 (at0 (ld 0))).dramReady (.load 0) 2 1 = true ∧ linesOf 0x1000 8 = 1 ∧ inDram 0x1000 = true ∧ (at0 (ld 0)).jobOk 2 0x300000000 8 false = false ∧ inCtWindow 0x300000000 = false ∧ inCtWindow 0x1000801000 = true ∧
    (at0 (sto 0)).jobOk 2 0x1000 8 true = true ∧ (at0 (sto 0)).jobOk 2 0x1000801000 8 true = false ∧ (at0 (sto 0)).ctOk 2 0x1000801000 8 = false ∧ (at0 (sto 0)).ctOk 2 0x300000000 8 = false ∧
    goes (exec (.ld 0) (withS8 0x1000 (at0 (ld 0)))) (fun t => (t.core 0).load == some ⟨9, 0x1000, 8, false, []⟩) = true ∧
    goes (exec (.ld 0) (withS8 0x300000000 (at0 (ld 0)))) (fun t => raised t 0x4301 .jobFault) = true ∧
    goes (exec (.st 0) (withS8 0x1000 (at0 (sto 0)))) (fun t => (t.core 0).sb.map (fun e => e.line) == [0x40] && (t.core 0).forwarded 0x1000 8 == (List.range 8).map (fun i => (0x1000 + i, if i = 0 then 9 else 0))) = true ∧
    goes (exec (.st 0) (withS8 0x300000000 (at0 (sto 0)))) (fun t => raised t 0x4301 .jobFault) = true ∧
    goes (exec (.gld 0 []) (at0 (.smem 2 2 true 9 1 0))) (s0 9 0xFFFFFFFFFFFF9085) = true ∧
    goes (exec (.gst 0 []) (at0 (.smem 3 2 false 9 1 0))) (fun t => (t.core 0).grn.bytes == [(16, 9)]) = true ∧
    goes (exec (.gld 0 []) (withS8 0 (at0 (.smem 2 2 true 9 1 0x10000)))) (fun t => raised t 0x4302 .jobFault) = true ∧
    goes (exec (.gst 0 []) (at0 (.smem 3 2 true 9 1 0x10000))) (fun t => raised t 0x4302 .jobFault) = true ∧
    goes (exec (.gld 0 [(1, true), (2, false)]) (at0 (.smem 2 2 true 9 1 0))) (fun t => s0 9 0xFFFFFFFFFFFF9085 t && (t.core 0).grn.wb == [2] && t.reg (kCore 0 0xE00) == 1) = true ∧
    errsIn [(1, true), (2, false)] 16 2 = [(2, false)] ∧ errsIn [] 16 2 = [] ∧ partWord 16 2 2 = true ∧
    goes (exec (.gld 0 [(2, true)]) (at0 (.smem 2 2 true 9 1 0))) (fun t => raised t 0x3201 .jobFault && t.reg (kCore 0 0xE04) == 1) = true ∧
    goes (exec (.gst 0 [2]) (at0 (.smem 3 2 false 9 1 0))) (fun t => raised t 0x3201 .jobFault && (t.core 0).grn == regsAsNumbers.grn) = true ∧
    (at0 .nop).grnOk 0 2 16 2 = true ∧ (at0 .nop).grnOk 0 2 0x10010 2 = false := by decide +kernel

/-- The block of 0x1000 holds an uncorrectable error. -/
def badly (s : State) : State := { s with dramBad := [(0x40, ())] }

/-- The core awaits a load, and its store buffer holds a byte. -/
def awaiting : State := { coreBase with cores := [(0, { regsAsNumbers with load := some ⟨9, 0x1000, 8, true, [(0x1001, 0x80)]⟩, sb := [⟨0x40, [(1, 0x77)]⟩] })] }

theorem wit_memory_later : awaiting.runs 0 = true ∧ awaiting.ramBad 0x1000 = false ∧ awaiting.dramReady (.store 0) 2 1 = true ∧ (badly awaiting).ramBad 0x1000 = true ∧ inDram 0x1000 = true ∧ inCtWindow 0x1000 = false ∧ Tbl.wf ([(1, 0x77)] : List Host.Cell) = true ∧
    goes (exec (.ldReturn 0) awaiting) (s0 9 0x18000) = true ∧
    goes (exec (.storeBufferDrain 0) awaiting) (fun t => t.ramByte 0x1001 == 0x77 && (t.core 0).sb == []) = true ∧
    goes (exec (.storeBufferDrain 0) { coreBase with cores := [(0, { regsAsNumbers with sb := [⟨0x40020040, (List.range 8).map (fun i => (i, 1))⟩] })] }) (fun t => t.ctWrites.map (fun w => w.addr) == [0x1000801000]) = true ∧
    inCtWindow (64 * 0x40020040) = true ∧ goes (exec (.ldReturn 0) (badly awaiting)) (fun t => raised t 0x3101 .jobFault && (t.core 0).load == none && (t.core 0).frozen) = true ∧
    goes (exec (.storeBufferDrain 0) (badly awaiting)) (fun t => raised t 0x3101 .jobFault && (t.core 0).sb == [] && t.dram == awaiting.dram) = true := by decide +kernel

/-- Core 0 is about to fetch at pc 0x2000, where this bundle stands. -/
def fetching (raw : Nat) : State := ({ coreBase with cores := [(0, { regsAsNumbers with pc := 0x2000 })] } : State).ramWrite .queueManager 0x2000 (leBytes 16 raw)

/-- Its instruction cache holds ADD s9, s3, s5. -/
def cached : State := (fetching 0).setCore 0 (((fetching 0).core 0).cacheBundle 0x2000 (0x1 * 2 ^ 36 + 9 * 2 ^ 25 + 3 * 2 ^ 20 + 5 * 2 ^ 15))

/-- ADD s9, s3, s5 and END, by the formats of 07 (R262, R269, R277). -/
def addWord : Nat := 0x1 * 2 ^ 36 + 9 * 2 ^ 25 + 3 * 2 ^ 20 + 5 * 2 ^ 15
def endWord : Nat := (0x3 * 2 ^ 36 + 8 * 2 ^ 32) * 2 ^ 80

/-- JR s16 in slot 2. -/
def jrWord : Nat := (0x3 * 2 ^ 36 + 7 * 2 ^ 32 + 16 * 2 ^ 27) * 2 ^ 80

theorem wit_fetches : (fetching addWord).runs 0 = true ∧ (fetching addWord).jobOk 2 0x2000 16 false = true ∧ (fetching addWord).badIn 0x2000 16 = none ∧ (fetching addWord).fetches 0 = true ∧ linesOf 0x2000 16 = 1 ∧ (fetching addWord).dramReady (.fetch 0) 2 1 = true ∧
    (fetching addWord).breaches 0 (Held.ofRaw 0x2000 addWord .clean) = [] ∧ (fetching endWord).breaches 0 (Held.ofRaw 0x2000 endWord .clean) = [] ∧ leNat ((fetching addWord).ramBytes 0x2000 16) = addWord ∧
    (Held.ofRaw 0x2000 addWord .clean).ops = [.salu 0 false 9 3 5 (5 * 2 ^ 15), .nop, .nop] ∧ (Held.ofRaw 0x2000 endWord .clean).ops = [.nop, .nop, .endJob] ∧
    (Held.ofRaw 0x2000 addWord .clean).ops.any Op.gates = false ∧ (Held.ofRaw 0x2000 endWord .clean).ops.any Op.gates = true ∧ ((fetching addWord).core 0).fullQueues (Held.ofRaw 0x2000 addWord .clean) = [] ∧
    leastBreach ((fetching (addWord + 5 * 2 ^ 80)).breaches 0 (Held.ofRaw 0x2000 (addWord + 5 * 2 ^ 80) .clean)) = some (2, 2) ∧
    goes (exec (.instructionFetch 0 false false .clean) (fetching addWord)) (fun t => (t.core 0).pc == 0x2010 && ((t.core 0).bundle.map (fun (h : Held) => h.issued)) == some true) = true ∧
    goes (exec (.instructionFetch 0 false false .clean) (fetching endWord)) (fun t => (t.core 0).pc == 0x2000 && ((t.core 0).bundle.map (fun (h : Held) => h.issued)) == some false) = true ∧
    goes (exec (.instructionFetch 0 false false .clean) (fetching (5 * 2 ^ 80))) (fun t => raised t 0x2401 .jobFault && t.reg64 (kCore 0 0x40) == 0x2000 && t.reg (kCore 0 0x48) == 0x24010802) = true := by decide +kernel

theorem wit_cache : Tbl.find (cached.core 0).icache 0x2000 = some addWord ∧
    goes (exec (.instructionFetch 0 true false .clean) cached) (fun t => (t.core 0).pc == 0x2010 && ((t.core 0).bundle.map (fun (h : Held) => h.raw)) == some addWord) = true ∧
    goes (exec (.instructionFetch 0 true true .clean) cached) (fun t => t.reg (kIcachePerr 0) == 1 && (t.core 0).pc == 0x2010 && (t.core 0).bundle == none) = true ∧
    goes (exec (.instructionFetch 0 false false .clean) { fetching addWord with dramBad := [(0x80, ())] }) (fun t => raised t 0x3101 .jobFault) = true ∧ ({ fetching addWord with dramBad := [(0x80, ())] } : State).badIn 0x2000 16 = some 0x2000 ∧
    goes (exec (.instructionFetch 0 false false .clean) ((fetching 0).setCore 0 { (fetching 0).core 0 with pc := 0x300000000 })) (fun t => raised t 0x4301 .jobFault) = true ∧
    (Held.ofRaw 0x2000 jrWord .corrected).fileEcc = .corrected ∧ (Held.ofRaw 0x2000 jrWord .corrected).ops = [.nop, .nop, .jumpReg 16] ∧
    goes (exec (.instructionFetch 0 false false .corrected) (fetching jrWord)) (fun t => (t.core 0).pc == 0x2010 && t.reg (kSrfCe 0) == 1) = true ∧
    goes (exec (.instructionFetch 0 false false .uncorrectable) (fetching jrWord)) (fun t => raised t 0x2402 .jobFault) = true := by decide +kernel

theorem wit_control : branchTaken 2 (getS regsAsNumbers.s 3) (getS regsAsNumbers.s 5) = true ∧ branchTaken 0 (getS regsAsNumbers.s 3) (getS regsAsNumbers.s 5) = false ∧
    goes (exec (.branch 0) (at0 (.branch 2 3 5 0x3FFFFF))) (fun t => (t.core 0).pc == 0xFF0 && t.reg (kCore 0 0x5C) == 1) = true ∧
    goes (exec (.branch 0) (at0 (.branch 0 3 5 0x3FFFFF))) (fun t => (t.core 0).pc == 0 && t.reg (kCore 0 0x5C) == 0) = true ∧
    goes (exec (.j 0) (at0 (.jump 2))) (fun t => (t.core 0).pc == 0x1020) = true ∧ goes (exec (.jr 0) (at0 (.jumpReg 16))) (fun t => (t.core 0).pc == 16) = true ∧
    goes (exec (.jal 0) (at0 (.jal 9 2))) (fun t => (t.core 0).pc == 0x1020 && s0 9 0x1010 t) = true ∧ goes (exec (.sigset 0) (at0 (.sigset 9))) (fun t => (t.core 0).sig == 9) = true ∧
    (regsAsNumbers.sig = getS regsAsNumbers.s 0) ∧ regsAsNumbers.sig ≠ getS regsAsNumbers.s 9 ∧ regsAsNumbers.sig = BitVec.ofNat 64 0 ∧
    goes (exec (.sigchk 0) (onSlot [.sigchk 0, .endJob, .nop] false)) (fun t => ((t.core 0).bundle.map (fun (h : Held) => h.todo)) == some [.nop, .endJob, .nop]) = true ∧
    goes (exec (.sigchk 0) (onSlot [.sigchk 0, .nop, .nop] false)) (fun t => (t.core 0).pc == 0x1010) = true ∧
    goes (exec (.sigchk 0) (onSlot [.sigchk 9, .nop, .nop] false)) (fun t => raised t 0xA111 .jobFault && t.reg64 (kCore 0 0x50) == 9) = true ∧
    goes (exec (.sigchki 0) (onSlot [.sigchki 0, .nop, .nop] false)) (fun t => (t.core 0).pc == 0x1010) = true ∧
    goes (exec (.sigchki 0) (onSlot [.sigchki 7, .nop, .nop] false)) (fun t => raised t 0xA111 .jobFault) = true ∧
    regsAsNumbers.sig = job2.sigEnd ∧ goes (exec (.endJob 0) (onSlot [.endJob, .nop, .nop] false)) (fun t => (t.core 0).ended) = true ∧
    goes (exec (.endJob 0) { coreBase with cores := [(0, { regsAsNumbers with job := some { job2 with sigEnd := 5 }, bundle := some (bun [.endJob, .nop, .nop] false) })] }) (fun t => raised t 0xA111 .jobFault) = true := by
  decide +kernel

/-- Core 0 is about to load its tally configuration from 0x3000: all zero but tally 2, bounded by tally p. -/
def loadingT (p : Nat) : State :=
  ({ coreBase with cores := [(0, { regsAsNumbers with loaded := false, job := some { job2 with tallyCfg := 0x3000 } })] } : State).ramWrite .queueManager 0x3000
    (leBytes 8 0 ++ leBytes 4 (2 ^ 31 + p * 2 ^ 24 + 5) ++ leBytes 116 0)

set_option maxRecDepth 100000 in
theorem wit_tally_load : (loadingT 1).runs 0 = true ∧ (loadingT 1).jobOk 2 0x3000 128 false = true ∧ (loadingT 1).badIn 0x3000 128 = none ∧ (loadingT 1).dramReady (.tallyCfg 0) 2 2 = true ∧
    goes (exec (.tallyCfgLoad 0) (loadingT 1)) (fun t => (t.core 0).loaded && (t.core 0).tcfg.getD 2 0 == 0x81000005) = true := by decide +kernel

set_option maxRecDepth 100000 in
theorem wit_tally_load_bad : goes (exec (.tallyCfgLoad 0) (loadingT 2)) (fun t => raised t 0x2304 .jobFault) = true := by decide +kernel

/-- The DRAM regulator admits nothing of partition 2. -/
def starved (s : State) : State := { s with part := { s.part with cap := 10, dramReg := List.replicate 8 0 } }

theorem wit_requests_wait : (starved awaiting).dramReady (.store 0) 2 1 = false ∧ (starved (withS8 0x1000 (at0 (ld 0)))).dramReady (.load 0) 2 1 = false ∧
    goes (exec (.storeBufferDrain 0) (starved awaiting)) (fun t => t.part.asks == [⟨.store 0, 2, 1, false, false⟩] && (t.core 0).sb.length == 1 && t.reg (kHeld 0 2) == 1) = true ∧
    goes (exec (.ld 0) (starved (withS8 0x1000 (at0 (ld 0))))) (fun t => (t.core 0).load == none && t.part.asks == [⟨.load 0, 2, 1, false, false⟩]) = true ∧
    goes (exec (.instructionFetch 0 false false .clean) (starved (fetching addWord))) (fun t => (t.core 0).bundle == none && t.part.asks.length == 1) = true ∧ (starved (fetching addWord)).dramReady (.fetch 0) 2 1 = false ∧
    goes (exec (.tallyCfgLoad 0) (starved (loadingT 1))) (fun t => !(t.core 0).loaded && t.part.asks.length == 1) = true ∧ (starved (loadingT 1)).dramReady (.tallyCfg 0) 2 2 = false ∧ linesOf 0x3000 128 = 2 := by decide +kernel

/-- A queue entry of an operation with these operand values; and the state in which it heads the queue of OPA, of VEC, or an entry of this kind a peel's. -/
def qe (o : Op) (vals : List Nat) : QEnt := { bundle := 0x1000, raw := 0, op := o, vals := vals }
def opaAt (o : Op) (vals : List Nat) : State := { coreBase with cores := [(0, { regsAsNumbers with opaQ := [qe o vals] })] }
def vecAt (o : Op) (vals : List Nat) : State := { coreBase with cores := [(0, { regsAsNumbers with vecQ := [qe o vals] })] }
def pe (kind t n : Nat) : PeelEnt :=
  { kind := kind, src := 0, dst := 0, len := n, cnt1 := 1, cnt2 := 1, ss1 := 0, ss2 := 0, ds1 := 0, ds2 := 0, en := false, tally := t, zf := false, loc := false, st := 0, issued := 0, bundle := 0x1000, since := 0, out := [], reqs := [] }
def lpAt (e : PeelEnt) : State := { coreBase with cores := [(0, { regsAsNumbers with lpeelQ := [e] })] }
def spAt (e : PeelEnt) : State := { coreBase with cores := [(0, { regsAsNumbers with speelQ := [e] })] }

/-- Tally 2 of core 0 has a bound of 3 over tally 1. -/
def bounded (s : State) : State := s.setCore 0 { s.core 0 with tcfg := (s.core 0).tcfg.set 2 0x81000003 }

theorem wit_takes : ((bounded (at0 .nop)).core 0).takes 2 3 ∧ ((bounded (at0 .nop)).core 0).overruns 2 4 :=
  ⟨⟨by decide, by decide +kernel, fun p b h => by
      have e : ((bounded (at0 .nop)).core 0).bound 2 = some (1, 3) := by decide +kernel
      rw [e] at h; cases h; exact ⟨by decide, by decide +kernel⟩⟩,
   ⟨by decide, fun p b h => by
      have e : ((bounded (at0 .nop)).core 0).bound 2 = some (1, 3) := by decide +kernel
      rw [e] at h; cases h; decide, .inr ⟨1, 3, by decide +kernel, by decide +kernel⟩⟩⟩

/-- The TINCs of two instructions stand at the heads of OPA's and VEC's queues. -/
def bothAt (t n t' m : Nat) : State :=
  bounded { coreBase with cores := [(0, { regsAsNumbers with opaQ := [qe (.tinc 1 t n) []], vecQ := [qe (.tinc 2 t' m) []] })] }

/-- VEC's queue is full, and the bundle targets it besides SEQ's TINC. -/
def fullVec : State :=
  (onSlot [.tinc 0 2 3, .barc 4, .nop] false).setCore 0 { (onSlot [.tinc 0 2 3, .barc 4, .nop] false).core 0 with vecQ := List.replicate 32 (qe (.barc 4) []) }

theorem wit_tinc : (bounded (onSlot [.tinc 0 2 3, .nop, .nop] false)).windowsDone 0 = true ∧
    goes (exec (.tinc 0 [.seq] [] false) (bounded (onSlot [.tinc 0 2 3, .nop, .nop] false))) (fun t => (t.core 0).tally 2 == 3 && t.reg (kTal 0 0x1A0) == 1 && (t.core 0).pc == 0x1010) = true ∧
    (fullVec.core 0).fullQueues (bun [.tinc 0 2 3, .barc 4, .nop] false) = [2] ∧ goes (exec (.tinc 0 [.seq] [] false) fullVec) (fun t => (t.core 0).tally 2 == 0 && (t.core 0).bundle.isSome && t.reg (kQfull 0 2) == 1) = true ∧
    goes (exec (.tinc 0 [.opa] [] false) (bounded (opaAt (.tinc 1 2 3) []))) (fun t => (t.core 0).tally 2 == 3 && (t.core 0).opaQ == []) = true ∧
    goes (exec (.tinc 0 [.opa] [] false) (bounded (opaAt (.tinc 1 2 4) []))) (fun t => raised t 0x2303 .jobFault && (t.core 0).tally 2 == 0) = true ∧
    goes (exec (.tinc 0 [.opa] [] true) (bounded (opaAt (.tinc 1 2 3) []))) (fun t => raised t 0x2402 .jobFault) = true ∧
    goes (exec (.tinc 0 [.vec] [] false) (bounded (vecAt (.tinc 2 2 3) []))) (fun t => (t.core 0).tally 2 == 3) = true ∧
    goes (exec (.tinc 0 [.lpeel] [] false) (bounded (lpAt (pe 1 2 3)))) (fun t => (t.core 0).tally 2 == 3) = true ∧
    goes (exec (.tinc 0 [.speel] [] false) (bounded (spAt (pe 1 2 3)))) (fun t => (t.core 0).tally 2 == 3) = true := by decide +kernel

/-- Increments of one cycle: of one tally, and of a tally and its partner. -/
theorem wit_tinc_together : ((bothAt 2 4 1 1).core 0).bound 2 = some (1, 3) ∧ ((bothAt 2 4 1 1).core 0).bound 1 = none ∧
    goes (exec (.tinc 0 [.opa, .vec] [] false) (bothAt 2 1 2 2)) (fun t => (t.core 0).tally 2 == 3 && t.reg (kTal 0 0x1A0) == 1 && (t.core 0).opaQ == [] && (t.core 0).vecQ == []) = true ∧
    goes (exec (.tinc 0 [.opa, .vec] [] false) (bothAt 2 4 1 1)) (fun t => (t.core 0).tally 2 == 4 && (t.core 0).tally 1 == 1 && t.reg (kTal 0 0x1A0) == 2) = true := by decide +kernel

/-- The engine has been waiting since tick 0. -/
def waitsSince0 (e : Nat) (s : State) : State := s.setCore 0 { s.core 0 with waits := [(e, 0)] }

theorem wit_twait : (opaAt (.twait 1 2 9 5) [0]).waitAt 0 1 = some (2, 0, 5) ∧ (opaAt (.twait 1 2 9 5) [9]).waitAt 0 1 = some (2, 9, 5) ∧ (vecAt (.twait 2 2 9 5) [0]).waitAt 0 2 = some (2, 0, 5) ∧
    goes (exec (.twait 0 .seq false) (onSlot [.twait 0 2 0 5, .nop, .nop] false)) (fun t => (t.core 0).pc == 0x1010) = true ∧
    goes (exec (.twait 0 .seq false) (onSlot [.twait 0 2 9 5, .nop, .nop] false)) (fun t => (t.core 0).waits == [(0, 0)] && t.reg (kTal 0 0x1A4) == 1) = true ∧
    goes (exec (.twait 0 .opa false) (opaAt (.twait 1 2 9 5) [0])) (fun t => (t.core 0).opaQ == []) = true ∧ goes (exec (.twait 0 .vec false) (vecAt (.twait 2 2 9 5) [0])) (fun t => (t.core 0).vecQ == []) = true ∧
    splitPeel [{ pe 3 2 5 with src := 0 }] = ([], [{ pe 3 2 5 with src := 0 }]) ∧ ((lpAt (pe 3 2 5)).waitAt 0 3).isSome = true ∧
    goes (exec (.twait 0 .lpeel false) (lpAt (pe 3 2 5))) (fun t => (t.core 0).lpeelQ == []) = true ∧
    goes (exec (.twait 0 .opa false) (opaAt (.twait 1 2 9 5) [9])) (fun t => (t.core 0).waits == [(1, 0)]) = true ∧
    goes (exec (.tallyWaitTimeout 0 .opa 5) (waitsSince0 1 (opaAt (.twait 1 2 9 5) [9]))) (fun t => raised t 0x2302 .jobFault) = true ∧
    (waitsSince0 1 (opaAt (.twait 1 2 9 5) [9])).timed 0 = true ∧
    goes (exec (.twait 0 .opa false) (waitsSince0 1 (opaAt (.twait 1 2 9 5) [0]))) (fun t => (t.core 0).opaQ == [] && (t.core 0).waits == []) = true ∧
    goes (exec (.twait 0 .opa true) (opaAt (.twait 1 2 9 5) [0])) (fun t => raised t 0x2402 .jobFault) = true ∧ goes (exec (.twait 0 .seq true) (onSlot [.twait 0 2 0 5, .nop, .nop] false)) (fun t => raised t 0x2402 .jobFault) = true ∧
    goes (exec (.tget 0 true) (at0 (.tget 2 9))) (fun t => raised t 0x2402 .jobFault) = true ∧
    goes (exec (.tget 0 false) (at0 (.tget 2 9))) (s0 9 0) = true := by decide +kernel

theorem wit_barc : goes (exec (.barc 0 .seq) (onSlot [.barc 1, .nop, .nop] false)) (fun t => (t.core 0).pc == 0x1010) = true ∧
    goes (exec (.barc 0 .opa) (opaAt (.barc 2) [])) (fun t => (t.core 0).opaQ == []) = true ∧ goes (exec (.barc 0 .vec) (vecAt (.barc 4) [])) (fun t => (t.core 0).vecQ == []) = true ∧
    goes (exec (.barc 0 .lpeel) (lpAt (pe 2 0 0))) (fun t => (t.core 0).lpeelQ == []) = true ∧ goes (exec (.barc 0 .speel) (spAt (pe 2 0 0))) (fun t => (t.core 0).speelQ == []) = true := by decide +kernel

def allocating (a : Option (Nat × Bool)) (n : Nat) : State := { coreBase with cores := [(0, { regsAsNumbers with bundle := some { bun [.balloc 4 4 n, .nop, .nop] false with alloc := a } })] }
def justHeld : BufRec := { held := true, part := 2, eng := 4, dt := 3 }

theorem wit_buffers : (allocating none 0).chooseBuf 0 2 0 = some 1 ∧ (allocating none 1).chooseBuf 0 2 1 = none ∧ (bun [.balloc 4 4 0, .nop, .nop] false).othersPassed 0 = true ∧
    (allocating none 0).bufOffset 1 = 0x10000 ∧ (allocating none 0).bufAtBase 0 = some (0, 0) ∧ (allocating none 0).strict 2 = false ∧ ((at0 .nop).core 0).grn.recOf 0 = justHeld ∧
    goes (exec (.balloc 0 false) (allocating none 0)) (fun t => ((t.core 0).bundle.map (fun (h : Held) => h.alloc)) == some (some (1, false))) = true ∧
    goes (exec (.balloc 0 false) (allocating none 1)) (fun t => a0 4 0xFFFFFFFF t && t.reg (kCore 0 0xE0C) == 1) = true ∧
    goes (exec (.ballocFillComplete 0) (allocating (some (1, false)) 0)) (fun t => a0 4 0x10000 t && (t.core 0).grn.recOf 1 == justHeld) = true ∧
    goes (exec (.bfree 0 false) (at0 (.bfree 0 4))) (fun t => ((t.core 0).grn.recOf 0).held == false && (t.core 0).grn.tagged == [0]) = true ∧
    (coreBase.on ⟨0x50100, 10, 1⟩).strict 2 = true ∧
    goes (exec (.bfree 0 false) { coreBase.on ⟨0x50100, 10, 1⟩ with cores := [(0, { regsAsNumbers with grn := Granary.reset, bundle := some (bun [.bfree 0 4, .nop, .nop] true) })] }) (fun t => raised t 0x3301 .jobFault && t.reg 0x50104 == 1) = true ∧
    goes (exec (.bfreeTagsFree 0) { coreBase with cores := [(0, { regsAsNumbers with grn := { regsAsNumbers.grn with tagged := [1] } })] }) (fun t => (t.core 0).grn.tagged == []) = true ∧
    coreBase.paused 0 = false ∧ (coreBase.on (fIslPaused 0)).paused 0 = true ∧
    goes (exec (.balloc 0 true) (allocating none 0)) (fun t => raised t 0x3202 .jobFault) = true ∧ goes (exec (.bfree 0 true) (at0 (.bfree 0 4))) (fun t => raised t 0x3202 .jobFault) = true := by decide +kernel

theorem wit_opa : (opaAt (.cfg 2 3 3) []).opaHead 0 = some (qe (.cfg 2 3 3) []) ∧ modeWidth 2 = 32 ∧
    goes (exec (.opaCfg 0) (opaAt (.cfg 2 3 3) [])) (fun t => (t.core 0).mode == 2 && (t.core 0).fa == 3 && (t.core 0).opaQ == []) = true ∧
    goes (exec (.mma 0) (opaAt (.mma 1 1 2 3 1) [0, 64, 2])) (fun t => (t.core 0).mmaDone == some 0) = true := by decide +kernel

/-- In mode 2 with signed INT8 operands and sub-array 0 alone: OPA's entry is this one, over these open passes. -/
def arr (o : Op) (vals : List Nat) (accs : Tbl AccSt) : State :=
  { coreBase with cores := [(0, { regsAsNumbers with opaQ := [qe o vals], mode := 2, fa := 2, fb := 2, accs := accs, mmaDone := some 0, grn := { regsAsNumbers.grn with bytes := [(0, 3), (1, 0xFF), (64, 5)] } })] }

set_option maxRecDepth 100000 in
theorem wit_opa_zero : goes (exec (.opaZero 0) (arr (.zero 1 1) [] [])) (fun t => (t.core 0).accs.map (fun x => x.1) == [16]) = true := by decide +kernel

set_option maxRecDepth 100000 in
theorem wit_arrayStep : isMx 2 = false ∧ recordLen 32 1 2 = 64 ∧ (arr (.mma 1 1 2 3 1) [0, 64, 2] []).grnOk 0 2 0 64 = true ∧ (arr (.mma 1 1 2 3 1) [0, 64, 2] []).grnOk 0 2 64 64 = true ∧
    (arr (.mma 1 1 2 3 1) [0, 64, 2] []).opaHead 0 = some (qe (.mma 1 1 2 3 1) [0, 64, 2]) ∧ (maskSubs 1)[0]? = some 0 ∧
    goes (exec (.arrayStep 0 [] false none) (arr (.mma 1 1 2 3 1) [0, 64, 2] [(16, AccSt.zero 32)])) (fun t => (t.core 0).mmaDone == some 1 &&
      (Tbl.find (t.core 0).accs 16).map (fun x => (x.k, x.tile.getD 0 0, x.tile.getD 32 0, x.tile.getD 1 0, x.cr.getD 0 0, x.cc.getD 0 0)) == some (1, 15, -5, 0, 10, 15)) = true := by decide +kernel

set_option maxRecDepth 100000 in
theorem wit_arrayStep_parity : goes (exec (.arrayStep 0 [] true none) (arr (.mma 1 1 2 3 1) [0, 64, 2] [])) (fun t => raised t 0x2103 .jobFault) = true := by decide +kernel

/-- A pass of one step over the products above. -/
def pass1 : AccSt := { AccSt.zero 32 with k := 1, tile := ((List.replicate 1024 0).set 0 15).set 32 (-5), cr := (List.replicate 32 0).set 0 10, cc := ((List.replicate 32 0).set 0 15).set 1 (-5) }

def buf1 (x : AccSt) : DrainBuf := { bundle := 0x1000, passed := false, written := 0, acc := 1, w := 32, floating := false, dest := 4096, subs := [(0, x)] }

set_option maxRecDepth 100000 in
theorem wit_drain : goes (exec (.drain 0) { arr (.drain 1 2 1) [4096] [(16, pass1)] with cores := [(0, { (arr (.drain 1 2 1) [4096] [(16, pass1)]).core 0 with mmaDone := none })] })
    (fun t => (t.core 0).accs == [] && (t.core 0).drain == some (buf1 pass1)) = true := by decide +kernel

/-- A tile of two rows (the array's own have 32 or more) with its sums, waits in the drain buffer for Granary offset 4096. -/
def small (cr0 : Word) : AccSt := { k := 1, tile := [15, 0, -5, 0], cr := [cr0, 0], cc := [15, -5], mr := [0, 0], mc := [0, 0] }
def buf2 (x : AccSt) (fl : Bool) : DrainBuf := { bundle := 0x1000, passed := false, written := 0, acc := 1, w := 2, floating := fl, dest := 4096, subs := [(0, x)] }
def draining (x : AccSt) (fl : Bool) : State := { coreBase with cores := [(0, { regsAsNumbers with drain := some (buf2 x fl) })] }

theorem wit_drain_complete : (draining (small 10) false).runs 0 = true ∧ (draining (small 10) false).grnOk 0 2 4096 16 = true ∧ ((small 10).tile.flatMap (fun v => leBytes 4 v.toNat)).length = 16 ∧
    (List.range 2).all (fun j => ((List.range 2).map (fun r => (small 10).tile.getD (2 * r + j) 0)).sum == (small 10).cr.getD j 0 && (((small 10).tile.drop (2 * j)).take 2).sum == (small 10).cc.getD j 0) = true ∧
    goes (exec (.drainComplete 0 false [] 16) (draining (small 10) false)) (fun t => Tbl.getD (t.core 0).grn.bytes 4096 0 == 15 && Tbl.getD (t.core 0).grn.bytes 4104 0 == 0xFB && t.reg (kCore 0 0xC20) == 1) = true ∧
    goes (exec (.drainComplete 0 false [] 16) (draining (small 11) false)) (fun t => raised t 0x2101 .jobFault && (t.core 0).grn == regsAsNumbers.grn) = true ∧
    goes (exec (.drainComplete 0 true [] 16) (draining (small 10) false)) (fun t => raised t 0x2103 .jobFault && (t.core 0).drain.isSome) = true ∧
    goes (exec (.drainComplete 0 false [] 3) (draining (small 10) false)) (fun t => Tbl.getD (t.core 0).grn.bytes 4096 0 == 15 && Tbl.getD (t.core 0).grn.bytes 4104 0 == 0 &&
      (t.core 0).drain == some { buf2 (small 10) false with passed := true, written := 8 }) = true ∧
    goes (exec (.drainComplete 0 false [] 8) { coreBase with cores := [(0, { regsAsNumbers with drain := some { buf2 (small 10) false with passed := true, written := 8 } })] })
      (fun t => Tbl.getD (t.core 0).grn.bytes 4104 0 == 0xFB && (t.core 0).drain == none && (t.core 0).lastPc.getD 0 0 == 0x1000) = true ∧
    firstFail false 2 [(0, small 10)] = none ∧ (draining (small 10) false).flag (fNfFault 2) = false ∧
    goes (exec (.arrayStep 0 [] false none) { coreBase with cores := [(0, { regsAsNumbers with opaQ := [qe (.mma 1 1 2 3 1) [0, 64, 2]], mmaDone := some 0, drain := some (buf2 (small 10) false) })] }) (fun t => (t.core 0).mmaDone == some 0) = true := by decide +kernel

/-- A floating tile of zeros matches its check lanes. -/
def zeros2 : AccSt := { k := 1, tile := [0, 0, 0, 0], cr := [0, 0], cc := [0, 0], mr := [0, 0], mc := [0, 0] }

theorem wit_drain_float : (zeros2.comparisons true 2).all (fun y => y.ok && !y.skipped) = true ∧ zeros2.tile.all (fun v => v.toNat / 2 ^ 23 % 256 != 255) = true ∧
    goes (exec (.drainComplete 0 false [] 16) (draining zeros2 true)) (fun t => t.reg (kCore 0 0xC20) == 1) = true := by decide +kernel

/-- VEC's entry is this one; vector registers 1 and 2 hold 256 elements. -/
def vecOn (op d a b p ty x : Nat) (vals : List Nat) : State :=
  { coreBase with cores := [(0, { regsAsNumbers with vecQ := [qe (.vec op d a b p ty x) vals], v := [(1, (List.range 256).map (BitVec.ofNat 32)), (2, (List.replicate 256 (0xFFFFFFFF : Word)))], p := [(1, 3)] })] }

theorem vregs_length (l : Tbl (List Word)) (h : ∀ x ∈ l, x.2.length = 256) (r : Nat) : (Tbl.getD l r (List.replicate 256 0)).length = 256 := by
  induction l with
  | nil => exact List.length_replicate
  | cons x l ih =>
    simp only [Tbl.getD, Tbl.find] at ih ⊢
    split
    · exact h x List.mem_cons_self
    · exact ih (fun y hy => h y (List.mem_cons_of_mem x hy))

theorem wit_vecReady (op d a b p ty x : Nat) (vals : List Nat) : VecReady (vecOn op d a b p ty x vals) 0 (qe (.vec op d a b p ty x) vals) := by
  have hr : (vecOn op d a b p ty x vals).starts 0 = true := by
    have h := wit_core.2.2.1
    unfold State.starts State.runs State.paused at *
    exact h
  refine ⟨?_, fun r => ?_⟩
  · exact (if_pos hr).trans rfl
  · refine vregs_length _ (fun x hx => ?_) r
    rcases List.mem_cons.mp hx with rfl | hx
    · show ((List.range 256).map (BitVec.ofNat 32)).length = 256
      rw [List.length_map, List.length_range]
    · rcases List.mem_cons.mp hx with rfl | hx
      · exact List.length_replicate
      · cases hx

/-- Lane i of vD then. -/
def lane (d i : Nat) (v : Word) (t : State) : Bool := ((t.core 0).vreg d).getD i 0 == v

set_option maxRecDepth 100000 in
theorem wit_vec_arith : goes (exec (.vecArith 0 .clean none) (vecOn 0 3 1 2 1 5 0 [])) (fun t => lane 3 0 0xFFFFFFFF t && lane 3 1 0 t && lane 3 2 0 t) = true ∧
    goes (exec (.vecUnary 0 .corrected none) (vecOn 7 3 1 2 1 5 0 [])) (fun t => lane 3 1 0xFFFFFFFF t && t.reg (kCore 0 0x400) == 1) = true := by decide +kernel

set_option maxRecDepth 100000 in
theorem wit_vec_faults : goes (exec (.vecArith 0 .uncorrectable none) (vecOn 0 3 1 2 1 5 0 [])) (fun t => raised t 0x2202 .jobFault) = true ∧
    goes (exec (.vecArith 0 .clean (some (1, 1))) (vecOn 0 3 1 2 1 5 0 [])) (fun t => raised t 0x2201 .jobFault && lane 3 1 1 t && t.reg (kCore 0 0x404) == 1) = true ∧
    goes (exec (.vecArith 0 .clean (some (2, 1))) (vecOn 0 3 1 2 1 5 0 [])) (fun t => t.reeve.events == [] && lane 3 1 0 t) = true := by decide +kernel

set_option maxRecDepth 100000 in
theorem wit_vec_logic : goes (exec (.vecLogic 0 .clean none) (vecOn 0x0A 3 1 2 1 5 0 [])) (fun t => lane 3 1 0xFFFFFFFE t && lane 3 2 0 t) = true ∧
    goes (exec (.vecShift 0 .clean none) (vecOn 0x0D 3 2 1 1 5 4 [])) (fun t => lane 3 1 0xFFFFFFFF t) = true := by decide +kernel

set_option maxRecDepth 100000 in
theorem wit_vec_moves : goes (exec (.vsel 0 .clean none) (vecOn 0x0F 3 1 2 0 5 1 [])) (fun t => lane 3 1 1 t && lane 3 2 0xFFFFFFFF t) = true ∧
    goes (exec (.vbc 0 .clean none) (vecOn 0x13 3 0 0 1 5 0 [7])) (fun t => lane 3 1 7 t && lane 3 2 0 t) = true ∧
    goes (exec (.vmov 0 .clean none) (vecOn 0x17 3 1 0 0 5 0 [])) (fun t => lane 3 200 200 t) = true := by decide +kernel

set_option maxRecDepth 100000 in
theorem wit_vcvt : (List.range 256).all (fun i => !((((vecOn 0x10 3 1 0 1 5 10 []).core 0).preg 1).getLsbD i) || (cvtLane 5 10 false (BitVec.ofNat 32 i) 0).2 == (false, false)) = true ∧
    goes (exec (.vcvt 0 .clean none) (vecOn 0x10 3 1 0 1 5 10 [])) (fun t => lane 3 1 0x3F800000 t) = true := by decide +kernel

/-- A table of one value from 0 to 1 stands at Granary offset 4096. -/
def lutOn : State :=
  (vecOn 0x12 3 1 1 1 10 0 [4096]).setCore 0 { (vecOn 0x12 3 1 1 1 10 0 [4096]).core 0 with grn := { regsAsNumbers.grn with bytes := [(4102, 0x80), (4103, 0x3F)] } }

set_option maxRecDepth 100000 in
theorem wit_vlut : lutOn.grnOk 0 2 4096 1036 = true ∧ leNat (lutOn.grnBytes 0 4100 4) = 0x3F800000 ∧ (f32 0).lt (f32 0x3F800000) = true ∧ lutOn.vecHead 0 = some (qe (.vec 0x12 3 1 1 1 10 0) [4096]) := by decide +kernel

set_option maxRecDepth 100000 in
theorem wit_pred : goes (exec (.vcmp 0 .clean none) (vecOn 0x0E 2 1 2 1 5 4 [])) (fun t => (t.core 0).preg 2 == 3) = true ∧
    goes (exec (.vpop 0 .clean none) (vecOn 0x16 2 1 0 0 0 3 [])) (fun t => (t.core 0).preg 2 == 0) = true := by decide +kernel

set_option maxRecDepth 100000 in
theorem wit_vred : goes (exec (.vred 0 .clean none) (vecOn 0x11 3 1 0 0 5 0 [])) (fun t => lane 3 0 32640 t && lane 3 1 0 t) = true := by decide +kernel

set_option maxRecDepth 100000 in
theorem wit_vld : (vecOn 0x14 3 0 0 1 2 0 [0]).grnOk 0 2 0 (vecBytes 2) = true ∧ (vecOn 0x14 3 0 0 1 2 0 [0]).grnOk 0 2 0x10000 (vecBytes 2) = false ∧
    goes (exec (.vld 0 .clean none []) (vecOn 0x14 3 0 0 0 2 0 [0])) (fun t => lane 3 16 0xFFFFFF85 t) = true ∧
    goes (exec (.vld 0 .clean none []) (vecOn 0x14 3 0 0 0 2 0 [0x10000])) (fun t => raised t 0x4302 .jobFault) = true := by decide +kernel

set_option maxRecDepth 100000 in
theorem wit_vst : goes (exec (.vst 0 .clean none []) (vecOn 0x15 2 0 0 1 2 0 [0])) (fun t => (t.core 0).grn.bytes == [(0, 0xFF), (1, 0xFF), (16, 0x85), (17, 0x90)]) = true ∧
    goes (exec (.vst 0 .clean none []) (vecOn 0x15 2 0 0 1 2 0 [0x10000])) (fun t => raised t 0x4302 .jobFault) = true := by decide +kernel

/-- XFER of LPEEL with its registers: SRC s1, DST s2, geometry from s16, 8 bytes × 1 × 1. -/
def xferOn (len : Nat) : State :=
  let g : DWord := BitVec.ofNat 64 (len + 2 ^ 32 + 2 ^ 48)
  { coreBase with cores := [(0, { regsAsNumbers with bundle := some { bun [.xfer 0 false false 1 2 16 true 7, .nop, .nop] true with sv := regsAsNumbers.s.set 16 g } })] }

theorem wit_xfer : bitsAt (8 + 2 ^ 32 + 2 ^ 48) 32 16 = 1 ∧ bitsAt (8 + 2 ^ 32 + 2 ^ 48) 48 16 = 1 ∧
    goes (exec (.xfer 0 .lpeel) (xferOn 8)) (fun t => (t.core 0).lpeelQ.map (fun (e : PeelEnt) => (e.len, e.src, e.dst, e.tally, e.ss1)) == [(8, 1, 2, 7, 17)]) = true ∧
    goes (exec (.xfer 0 .lpeel) (xferOn 0)) (fun t => raised t 0x2502 .jobFault) = true := by decide +kernel

/-- Eight bytes from device address (or Granary offset) src to dst. -/
def move (src dst : DWord) (en : Bool) : PeelEnt := { pe 0 2 8 with src := src, dst := dst, en := en }

theorem wit_issue : splitPeel [move 0x1000 16 false] = ([], [move 0x1000 16 false]) ∧ (move 0x1000 16 false).leavesGrn 0 = false ∧ (lpAt (move 0x1000 16 false)).refusedRun 2 0 (move 0x1000 16 false) = none ∧
    (lpAt (move 0x1000 16 false)).dramReady (.peel 0 0) 2 1 = true ∧ (lpAt (move 0x1000 16 false)).grnOk 0 2 16 8 = true ∧ (move 0x1000 0x400000 false).leavesGrn 0 = true ∧
    ((lpAt (move 0x300000000 16 false)).refusedRun 2 0 (move 0x300000000 16 false)).isSome = true ∧ (move 0x1000 16 false).total = 8 ∧ (move 0x1000 16 false).chunk 0 0 8 = 8 ∧
    goes (exec (.peelTransferIssue 0 .lpeel (.ask 8) [] []) (lpAt (move 0x1000 16 false))) (fun t => (t.core 0).lpeelQ.map (fun (e : PeelEnt) => (e.st, e.issued, e.reqs)) == [(2, 8, [(0, 8)])] && (t.core 0).grn == regsAsNumbers.grn) = true ∧
    goes (exec (.peelTransferIssue 0 .lpeel (.ask 8) [] []) (starved (lpAt (move 0x1000 16 false)))) (fun t => (t.core 0).lpeelQ.map (fun (e : PeelEnt) => (e.st, e.issued)) == [(1, 0)] && t.part.asks.length == 1) = true ∧
    (starved (lpAt (move 0x1000 16 false))).dramReady (.peel 0 0) 2 1 = false ∧
    goes (exec (.peelTransferIssue 0 .lpeel (.ask 8) [] []) (lpAt (move 0x1000 0x400000 false))) (fun t => raised t 0x2503 .jobFault) = true ∧
    goes (exec (.peelTransferIssue 0 .lpeel (.ask 8) [] []) (lpAt (move 0x300000000 16 false))) (fun t => raised t 0x4301 .jobFault) = true ∧
    goes (exec (.peelTransferIssue 0 .lpeel (.ask 8) [] []) (lpAt { move 0x1000 16 false with zf := true })) (fun t => (t.core 0).lpeelQ.map (fun (e : PeelEnt) => (e.st, e.issued)) == [(2, 8)] && (t.core 0).grn.bytes == []) = true ∧
    goes (exec (.peelTransferIssue 0 .lpeel (.ask 8) [] []) (lpAt { move 16 64 false with loc := true })) (fun t => Tbl.getD (t.core 0).grn.bytes 64 0 == 0x85 && t.reg64 (kPeel 0 0 8) == 8) = true := by decide +kernel

/-- Within a run, a request ends at a word of source and destination where it can. -/
theorem wit_chunk : (move 0x1003 16 false).chunk 0 0 5 = 8 ∧ ({ move 0x1000 16 false with len := 20 } : PeelEnt).chunk 0 0 13 = 8 ∧ ({ move 0x1000 16 false with len := 20 } : PeelEnt).chunk 0 16 13 = 4 := by decide +kernel

/-- Its request for the eight bytes at 0x1000 is out. -/
def outOne (x : List Nat) : State :=
  let s := lpAt { move 0x1000 16 false with st := 2, issued := 8, reqs := [(0, 8)] }
  s.setCore 0 { s.core 0 with resetting := x }

theorem wit_back : (takeReq ((outOne []).core 0).lpeelQ 0).map (fun x => x.2.2) = some (0, 8) ∧ (outOne []).runs 0 = true ∧ (move 0x1000 16 false).loads 0 = true ∧ (outOne []).badIn 0x1000 8 = none ∧
    goes (exec (.peelTransferIssue 0 .lpeel (.back 0) [] []) (({ outOne [] with dram := [] } : State).ramWrite .reeve 0x1000 [1, 2, 3, 4, 5, 6, 7, 8])) (fun t =>
      Tbl.getD (t.core 0).grn.bytes 16 0 == 1 && Tbl.getD (t.core 0).grn.bytes 23 0 == 8 && t.reg64 (kPeel 0 0 8) == 8 && (t.core 0).lpeelQ.map (fun (e : PeelEnt) => e.reqs) == [[]]) = true ∧
    goes (exec (.peelTransferIssue 0 .lpeel (.back 0) [] []) (outOne [3])) (fun t => (t.core 0).grn == regsAsNumbers.grn && (t.core 0).lpeelQ.map (fun (e : PeelEnt) => e.reqs) == [[]]) = true ∧
    goes (exec (.peelTransferIssue 0 .lpeel (.back 0) [] []) (badly (outOne []))) (fun t => raised t 0x3101 .jobFault && (t.core 0).grn == regsAsNumbers.grn) = true := by decide +kernel

/-- Tally 2 is at its bound. -/
def atBound (e : PeelEnt) : State := (bounded (lpAt e)).setCore 0 { (bounded (lpAt e)).core 0 with t := (List.replicate 32 0).set 2 3 }

theorem wit_issue_bound : ((atBound (move 0x1000 16 true)).core 0).bound 2 = some (1, 3) ∧ ((atBound (move 0x1000 16 true)).core 0).tally 2 + owed [] 2 + 1 = 4 ∧
    goes (exec (.peelTransferIssue 0 .lpeel (.ask 8) [] []) (atBound (move 0x1000 16 true))) (fun t => raised t 0x2303 .jobFault) = true := by decide +kernel

theorem wit_issue_store : (spAt (move 16 0x4000 false)).refusedRun 2 1 (move 16 0x4000 false) = none ∧ inDram 0x4000 = true ∧ (move 16 0x4000 false).leavesGrn 1 = false ∧ inCeWindow 0x1000800008 = true ∧
    (spAt (move 16 0x1000800008 false)).refusedRun 2 1 (move 16 0x1000800008 false) = none ∧ (spAt (move 16 0x4000 false)).dramReady (.peel 0 1) 2 1 = true ∧
    goes (exec (.peelTransferIssue 0 .speel (.ask 8) [] []) (spAt (move 16 0x4000 false))) (fun t => t.ramByte 0x4000 == 0x85 && t.ramByte 0x4001 == 0x90 && t.ramByte 0x4007 == 0 &&
      (t.core 0).speelQ.map (fun (e : PeelEnt) => (e.st, e.reqs)) == [(2, [(0, 8)])]) = true ∧
    goes (exec (.peelTransferIssue 0 .speel (.ask 8) [] []) (starved (spAt (move 16 0x4000 false)))) (fun t => (t.core 0).speelQ.map (fun (e : PeelEnt) => (e.st, e.issued)) == [(1, 0)]) = true ∧
    goes (exec (.peelTransferIssue 0 .speel (.ask 8) [] []) (spAt (move 16 0x1000800008 false))) (fun t => t.ceWrites.map (fun w => w.addr) == [0x1000800008]) = true := by decide +kernel

def moved (en : Bool) : PeelEnt := { move 0x1000 16 en with st := 2, issued := 8 }

/-- The transfer is complete, tally 2 at its bound. -/
theorem wit_complete_bound : goes (exec (.peelTransferComplete 0 .lpeel) (atBound (moved true))) (fun t => raised t 0x2303 .jobFault && (t.core 0).tally 2 == 3 && (t.core 0).lpeelQ.length == 1) = true ∧
    goes (exec (.peelTransferComplete 0 .lpeel) (outOne [])) (fun t => (t.core 0).lpeelQ.length == 1) = true ∧ ((atBound (moved true)).core 0).bound 2 = some (1, 3) := by decide +kernel

theorem wit_complete : ((lpAt (moved true)).core 0).bound 2 = none ∧ (lpAt (moved true)).runs 0 = true ∧ (lpAt (moved true)).timed 0 = true ∧ (lpAt (moved true)).windowsDone 0 = true ∧ (regsAsNumbers.peelTmo < 2001) ∧
    goes (exec (.peelTransferComplete 0 .lpeel) (lpAt (moved true))) (fun t => (t.core 0).lpeelQ == [] && (t.core 0).tally 2 == 1 && t.reg (kPeel 0 0 4) == 1) = true ∧
    goes (exec (.peelCompletionTimeout 0 .lpeel 2001) (lpAt (moved false))) (fun t => raised t 0x2501 .jobFault) = true := by decide +kernel

/-- A core's Granary with this word waiting to be written back. -/
def grnWith (wb : List Nat) (free : Bool) : State :=
  { coreBase with cores := [(0, { regsAsNumbers with grn := { regsAsNumbers.grn with wb := wb, recs := if free then [] else regsAsNumbers.grn.recs } })] }

theorem wit_upkeep : regsAsNumbers.idle 0 = false ∧ regsAsNumbers.wdog.getD 0 0 = 1048576 ∧ (grnWith [] false).nCores = 16 ∧ ((grnWith [] false).pageOwner 0 0).isSome = true ∧ (grnWith [] true).pageOwner 0 0 = none ∧
    goes (exec (.watchdogExpiry 0 1 1048576) (at0 .nop)) (fun t => raised t 0x2301 .jobFault && bitsAt (t.reg (kCore 0 8)).toNat 20 5 == 1) = true ∧
    goes (exec (.granaryWriteback 0) (grnWith [2, 5] false)) (fun t => (t.core 0).grn.wb == [5]) = true ∧ (grnWith [2, 5] false).paused 0 = false ∧
    goes (exec (.granaryWriteback 0) ((grnWith [2, 5] false).on (fIslPaused 0))) (fun t => (t.core 0).grn.wb == [2, 5]) = true ∧ errsIn [(3, false)] 0 64 = [(3, false)] ∧
    goes (exec (.granaryScrub 0 0 []) (grnWith [] false)) (fun t => (t.core 0).grn.scrub == [(0, 1)]) = true ∧
    goes (exec (.granaryScrub 0 0 [(3, false)]) (grnWith [] false)) (fun t => t.reg (kCore 0 0xE00) == 1 && (t.core 0).grn.wb == [3]) = true ∧
    goes (exec (.granaryScrub 0 0 [(3, true)]) (grnWith [] false)) (fun t => raised t 0x3201 .jobFault && t.reg (kCore 0 0xE04) == 1) = true ∧
    goes (exec (.granaryScrub 0 0 [(3, true)]) (grnWith [] true)) (fun t => (t.core 0).grn.bytes == []) = true ∧
    running.turnsAway 0 = false ∧ running.flag (fIslOff 0) = false ∧
    goes (exec (.grnOwnClear 0 1) (((running.put fOwnValid 2).setReg 0x50200 5).setReg 0x50204 6)) (fun t => t.get fOwnValid == 0 && t.reg 0x50200 == 0 && t.reg 0x50204 == 0) = true := by decide +kernel

/-- Function 3 is present, in D3hot; no VF is present at reset. -/
def sleeping : State := { withVf with pcie := { withVf.pcie with fns := [(3, { withVf.fnCfg 3 with d3hot := true })] } }

theorem wit_functions : okB sleeping = true ∧ State.reset.present 3 = false ∧ sleeping.present 3 = true ∧ (sleeping.fnCfg 3).d3hot = true ∧
    goes (exec (.registerWrite 3 0 5) State.reset) (fun t => t == State.reset) = true := by decide +kernel

/-- The premises of the invariants: the state after reset has the canonical forms, a state with a command waiting, and one without, steps. -/
theorem wit_invariants : okB State.reset = true ∧ okB { running with pending := [.resetNPulse 1000] } = true ∧ goes (step { running with pending := [.resetNPulse 1000] }) (fun t => t.pending == []) = true ∧
    goes (step State.reset) (fun t => t == State.reset) = true := by decide +kernel

theorem reset_ok : State.Ok State.reset := ok_of wit_invariants.1

-- FURTHER FORMS OF THE SAME COMMANDS

/-- The PPS is the reference, at 1 us; a message source after the number 9. -/
def ppsRef : State := { st [(0x1000, 0x03)] with tb := { Timebase.reset with ns := 1000 } }
def after9 : Timebase := { Timebase.reset with seqs := [(0, 9)] }

theorem wit_more_time : ppsRef.get fTbSrc = 3 ∧ 60 + 8 ≤ ppsRef.now ∧ goes (exec (.ppsEdge 60) ppsRef) (fun _ => true) = true ∧ after9.inSequence .sync 340 = true ∧
    after9.inSequence .sync 9 = false ∧ goes (exec (.disciplineMessage true 3 .sync true 340 (some (-7)) []) { st [(0x1000, 0x31)] with tb := after9 }) (fun t => t.reg kTbOffset == 0xFFFFFFF9 && t.tb.seqs == [(0, 340)]) = true := by decide +kernel

/-- Safe-Stops of Hedgerow and of the Reeve wait, of these commands. -/
def twoStops (h r : Byte) : State := { can with veh := { Vehicle.reset with hdgBuf := some [h, 0, 0, 0, 0, 0, 0, 0], reeveBuf := some [r, 0, 0, 0, 0, 0, 0, 0] } }

def ownId : CanFrame := { frame with ext := true, id := (can.reg kSsId).setWidth 29 }

theorem wit_more_can : (twoStops 0 0).can0Next.map (fun x => x.2.hdgBuf) = some none ∧ can.can1Sends = true ∧ ({ can with veh := { Vehicle.reset with psBuf := some [1] } } : State).can0Next.isSome = true ∧
    goes (exec (.canTxComplete 0 false) (twoStops 0 0)) (fun t => t.veh.hdgBuf == none && t.veh.reeveBuf.isSome) = true ∧
    goes (exec (.canTxComplete 1 false) { can with veh := { Vehicle.reset with fallover := some [0, 1, 2, 3, 4, 5, 6, 7] } }) (fun t => t.veh.fallover == none && t.reg kFallover == 1 && t.emitted.length == 1) = true ∧
    goes (exec (.canTxComplete 1 false) (((can.put (fTxbStatus 15) 1).put (fTxbStatus 2) 1).setReg (kTxb 2 0) 7)) (fun t => t.get (fTxbStatus 15) == 2 && t.get (fTxbStatus 2) == 1 && t.emitted.length == 1) = true ∧
    ((can.setReg (kTxb 2 0) 7).reg (kTxb 15 0)).toNat % 2 ^ 29 < ((can.setReg (kTxb 2 0) 7).reg (kTxb 2 0)).toNat % 2 ^ 29 ∧
    goes (exec (.canTxError 1 false false) (can.put (fTec 1) 248)) (fun t => t.get (fCanState 1) == 2 && t.veh.recovering1 && raised t 0x7104 .report) = true ∧
    goes (exec (.canTxError 0 false false) (can.put (fTec 0) 120)) (fun t => t.get (fCanState 0) == 1 && t.get (fTec 0) == 128) = true ∧ canStateBy 0 128 0 = 1 ∧ canStateBy 1 127 127 = 0 ∧
    can.get (fCanThresh 0) ≤ 32 ∧ goes (exec (.canTxError 0 true true) { can with veh := { Vehicle.reset with canErr := [(0, ⟨32, 0⟩)] } }) (fun t => t.get (fRung 0) == 1 && raised t 0x7107 .report) = true ∧
    ownId.ext = true ∧ can.canForged ownId = true ∧ goes (exec (.canFrameReceive 0 ownId false 0) can) (fun t => t.reg (kCanViol 0) == 1 && raised t 0x7105 .violation) = true ∧
    goes (exec (.canFrameReceive 1 { frame with remote := true, data := [] } false 0) canRx) (fun t => t.reg (kCanRxOther 1) == 1 && t.veh.rx == []) = true ∧
    goes (exec (.canFrameReceive 1 frame false 0) canRx) (fun t => t.veh.rx.map (fun e => e.data) == [[1, 2]]) = true ∧
    goes (exec (.canFrameReceive 1 frame false 0) { canRx with veh := { Vehicle.reset with rx := List.replicate 64 ⟨0, 5, 0, [1]⟩ } }) (fun t => t.veh.rx.length == 64 && t.reg kRxfOvf == 1) = true ∧
    (can.put (fRec 0) 200).canOn 0 = true ∧ (can.put (fRec 0) 200).get (fRec 0) = 200 ∧
    (fCanThresh 1).ofWord (0x40002000 : Word) ≠ 0 ∧ goes (exec (.canRateRestore 0 1 0x40002000) (can.put (fRung 1) 2)) (fun t => t.get (fRung 1) == 0 && t.flag (fRestore 1)) = true := by decide +kernel

/-- MAC 4 answers ARP for 10.0.0.1. -/
def ethArp : State := (eth.on (fArpEn 4)).setReg (kEthIp 4) 0x0A000001

/-- Ball 3 wakes the device, which is BANKED, at 1 us. -/
def wakeBall : State := { banked.on (fWakeSrc 3) with tb := { Timebase.reset with ns := 1000 } }

theorem wit_more_eth : ethArp.ethTaken 4 (.arp 0x112233445566 0x0A000002 0x0A000001) = true ∧ ethArp.ethAccepts 4 0xFFFFFFFFFFFF = true ∧
    goes (exec (.ethFrameReceive 4 0xFFFFFFFFFFFF (.arp 0x112233445566 0x0A000002 0x0A000001) true false false) ethArp) (fun t => t.emitted.length == 1 && t.reg (kEthCnt 4 0) == 1 && t.reg (kEthCnt 4 3) == 0) = true ∧
    goes (exec (.ethFrameReceive 4 5 .other false false false) eth) (fun t => t.reg (kEthCnt 4 1) == 1 && t.reg (kEthCnt 4 0) == 0) = true ∧
    wakeBall.flag (fWakeSrc 3) = true ∧ wakeBall.get fPwrState = pwrBanked ∧ 60 ≤ wakeBall.now := by decide +kernel

/-- The boot is at stage 4, and has not ended. -/
def inBoot : State := { running.put (fPll 5) 1 with boot := { running.boot with done := false } }

/-- Core 3 is paused and cool. -/
def pausedCool : State := ((limits.on (fIslPaused 9)).put (fETherm 3) 0).put (fTemp 3) 20

theorem wit_more_power : inBoot.get (fPll Pll.spll.idx) = 1 ∧ inBoot.boot.begun = true ∧ 1 ≤ inBoot.get fBootStage ∧ goes (exec (.pllLock .spll) inBoot) (fun t => t.get (fPll 5) == 2 && t.power.calDue.isSome) = true ∧
    goes (exec (.pllLossOfLock .cpll0 false) running) (fun t => raised t 0x8102 .jobFault && t.reeve.alive) = true ∧ goes (exec (.pllLossOfLock .mpll false) running) (fun t => !t.reeve.alive) = true ∧
    goes (exec (.pllLossOfLock .spll true) (running.put (fPll 5) 3)) (fun t => t.get (fPll 5) == 4 && t.reeve.events == []) = true ∧
    goes (exec (.spllCalRequest none) running) (fun t => t.power.calDue.isSome) = true ∧
    goes (exec .bankEntryComplete { running.put fPwrState pwrEntering with power := { Power.reset with wakeHeld := true } }) (fun t => t.get fPwrState == pwrWaking) = true ∧
    goes (exec (.wakeRequest 0 1) (running.put fPwrState pwrEntering)) (fun t => t.power.wakeHeld) = true ∧ (running.put fReeveMode 1).mode = 1 ∧
    goes (exec (.bankEnterRequest 0 1) (running.put fReeveMode 1)) (fun t => t.flag fBankPending) = true ∧
    goes (exec (.powerSample 100) { limits with power := { Power.reset with lowFrom := some 0 }, tb := { Timebase.reset with ticks := 2500 } }) (fun t => t.reg kPwrNow == 100) = true ∧
    goes (exec (.thermalSample [70, 71] 0) limits) (fun t => t.get (fTemp 1) == 71) = true ∧ limits.physCores.contains 1 = true ∧
    pausedCool.pausedAt 3 = true ∧ pausedCool.tempOf 3 < (pausedCool.get fTPause : Int) - 3 ∧ goes (exec (.thermalPauseEnd 3 0) pausedCool) (fun t => !t.pausedAt 3 && t.get (fETherm 3) == 11) = true := by decide +kernel

/-- One error within the second; and as many as the threshold. -/
def linkErrs (n : Nat) : State := { (linked.put fLinkSpeed 4).put fLinkWidth 8 with pcie := { linked.pcie with errors := n } }

theorem wit_more_pcie : linked.flag fDlUp = true ∧ goes (exec (.pcieTlpViolation 7 .vendorType1 []) linked) (fun t => t == linked) = true ∧
    goes (exec (.pcieTlpViolation 7 .poisonedWrite [1]) linked) (fun t => t.reg kPciePoison == 1 && raised t 0x6302 .violation && t.emitted == [.aer 7 .poisonedTlp]) = true ∧
    1 + 1 ≤ (linkErrs 1).get fLinkThresh ∧ goes (exec .pcieLinkError (linkErrs 1)) (fun t => t.pcie.errors == 2) = true ∧ (linkErrs 255).get fLinkThresh ≤ 255 ∧ (linkErrs 255).stepTo = some 1 ∧
    (linkErrs 255).pcie.speedDisable = false ∧ (linkErrs 255).pcie.widthDisable = false ∧ goes (exec .pcieLinkError (linkErrs 255)) (fun t => t.get fFloor == 1 && t.pcie.errors == 0 && raised t 0x6101 .report) = true ∧
    goes (exec (.functionLevelReset 0) linked) (fun t => !t.pcie.vfEnable) = true := by decide +kernel

/-- The head waits for its group's intake word at 0x20000; the group posted frame 7 with head 3. -/
def descIntake : Desc := { desc with waitIntake := true, group := 3, args := 0x20000, fdmEn := true, fdmFrame := 7 }
def intakeReady : State :=
  let s := queued 1 [qjob (.waiting (some descIntake))] []
  (s.on (fGrpEn 3)).setGrp 3 { GroupSt.reset with posts := [{ frame := 7, headBefore := 3, time := 99 }] }

theorem wit_more_queues : (starved (queued 1 [qjob (.waiting none)] [])).dramReady (.descriptor 5) 2 1 = false ∧ (queued 1 [qjob (.waiting none)] []).dramReady (.descriptor 5) 2 1 = true ∧
    goes (exec (.descriptorFetch 5 .clean) (starved (queued 1 [qjob (.waiting none)] []))) (fun t => (t.queue 5).jobs == [qjob (.waiting none)] && t.part.asks.length == 1) = true ∧
    (intakeReady.rejectForgotten.pick 0).1.map (fun c => c.pre == none && (intakeReady.rejectForgotten.pick 0).2.argsWord c == leBytes 4 3 ++ leBytes 4 7 ++ leBytes 8 99) = some true ∧
    goes (exec (.jobDispatch 0) intakeReady) (fun t => (t.core 0).job.isSome && t.ramByte 0x20000 == 3 && t.ramByte 0x20004 == 7 && t.ramByte 0x20008 == 99) = true ∧
    (onCore { CoreSt.reset with job := some job2, ended := true }).windowsDone 0 = true ∧
    goes (exec (.jobRetire 0) { onCore { CoreSt.reset with job := some job2, ended := true } with ceWrites := [⟨0, 2, 0x1000800000, leBytes 8 0⟩] }) (fun t => (t.core 0).job.isSome) = true ∧
    (qmBase.setQueue 5 { QueueSt.reset with state := 1, ctx := qctx, jobs := [{ qjob (.waiting (some desc)) with late := false }] }).deadlineOf (qjob (.waiting (some desc))) = some (200, none) ∧
    goes (exec (.jobDeadlineExpiry 5 0 200) ready) (fun t => raised t 0x4201 .jobFault && (t.queue 5).jobs.all (fun j => j.late)) = true ∧
    goes (exec (.jobDeadlineExpiry 5 0 200) (ready.setQueue 5 { ready.queue 5 with jobs := (ready.queue 5).jobs.map (fun j => { j with late := true }) })) (fun t => t.reeve.events == []) = true ∧
    stopping.windowsDone 0 = true := by decide +kernel

/-- A twin job of the perception partition ends on core 0, one of its pair has retired. -/
def twinEnding : State :=
  let s := (onCore { CoreSt.reset with job := some { job2 with twin := true }, ended := true }).put fPerc 2
  { s with qm := { s.qm with dt := [(3, { dtEnt none with desc := { desc with twinId := 9 } })], pairs := [{ id := 9, frame := 0xFFFFFFFF, timer := 0, cores := [0, 1], retired := 1, same := false, late := false }] } }

/-- The retired job marks timer 0 of frame 5. -/
def marking : State :=
  { (queued 1 [qjob (.done (rec2 false))] []).put fPerc 2 with qm := { (queued 1 [qjob (.done (rec2 false))] []).qm with dt := [(3, { dtEnt none with desc := { desc with fdmEn := true }, frame := 5 })] }, reeve := { Reeve.reset with alive := true } }

theorem wit_more_records : twinEnding.isTwin 2 { desc with twinId := 9 } = true ∧ (twinEnding.pairOf 9 0xFFFFFFFF).isSome = true ∧ twinEnding.windowsDone 0 = true ∧
    goes (exec (.jobRetire 0) twinEnding) (fun t => (t.pairOf 9 0xFFFFFFFF).map TwinPair.retired == some 2) = true ∧
    marking.retiredOf { dtEnt none with desc := { desc with fdmEn := true }, frame := 5 } = some (rec2 false) ∧ marking.isTwin 2 { desc with fdmEn := true } = false ∧
    goes (exec (.reeveClearance 3) marking) (fun t => (t.queue 5).jobs == [qjob (.done (rec2 true))] && (t.verdictOf 5).cleared.contains 0) = true ∧
    goes (exec (.completionRecordWrite 5) ((hostOk (queued 1 [qjob (.done (rec2 true))] [])).setQueue 5 { (queued 1 [qjob (.done (rec2 true))] []).queue 5 with ctx := [0x17040000, 0x1000, 0, 0x9000, 0, 0x000A8001] })) (fun t => (t.queue 5).window) = true ∧
    (resetting2.put fPerc 2).goneDue 2 = false ∧ goes (exec (.partitionResetComplete 2) (resetting2.put fPerc 2)) (fun t => !t.flag (fResetting 2)) = true ∧
    goes (exec (.partitionResetComplete 2) { resetting2.put fPerc 2 with reeve := { Reeve.reset with events := [ev 0x4402 .jobFault] } }) (fun t => t.flag (fResetting 2)) = true ∧
    goes (exec (.partitionResetComplete 3) resetting2) (fun t => t.flag (fResetting 2)) = true ∧ (linked.put fPerc 2).queuesActive 2 = false ∧
    goes (exec (.partResetWrite 0 4) (linked.put fPerc 2)) (fun t => t.inReset 2) = true ∧ Tbl.wf [((2 : Nat), ((0x2401 : Nat), (3 : Nat)))] = true := by decide +kernel

/-- Port 0 is UP and locked, with this device's frame to send, which its regulator held. -/
def portHeld : State := klyWith klyUp true { KPort.reset with own := [ownFrame], regHeld := [2] }

theorem wit_more_admission : portHeld.flag (fKlyLocked 0) = true ∧ portHeld.klyIsUp 0 = true ∧ (portHeld.kport 0).room ownFrame = true ∧ portHeld.klyAdmits 0 ownFrame = true ∧
    goes (exec (.requestAdmit (some 0)) portHeld) (fun t => (t.kport 0).own == [] && t.emitted.length == 2) = true ∧
    (linked.part.cap = 0) ∧ linked.askAdmitted (.load 1) 2 1 = true ∧ linked.quiescing (.load 1) = false ∧
    (atLimit 0).admits 0 2 = true ∧ goes (exec (.requestAdmit none) ((atLimit 0).setAsks [⟨.load 1, 2, 1, false, false⟩])) (fun t => t.part.asks == [⟨.load 1, 2, 1, true, false⟩]) = true := by decide +kernel

/-- The same sweep once its peel's reset has failed. -/
def sweptTwice : State :=
  let s := (sweeping (.engine .lpeel) true).setCore 0 (stuckL [])
  { s with reeve := { s.reeve with sweep := s.reeve.sweep.map (fun w => { w with failedOnce := true }) } }

theorem wit_more_sweep : (resettingL []).drained .lpeel = true ∧ goes (exec (.engineResetDone 0 .lpeel) (frozen.setCore 0 (resettingL []))) (fun t => (t.core 0).resetting == []) = true ∧
    (((sweeping (.engine .lpeel) true).setCore 0 (stuckL [])).awaits 0 .lpeel).any (fun w => !w.failedOnce) = true ∧
    goes (exec (.peelResetFailed 0 .lpeel 12) ((sweeping (.engine .lpeel) true).setCore 0 (stuckL []))) (fun t => (t.core 0).peelRetry == [3] && raised t 0x2601 .report && t.reeve.sweep.any (fun w => w.failedOnce)) = true ∧
    (sweptTwice.awaits 0 .lpeel).any (fun w => w.failedOnce) = true ∧ goes (exec (.peelResetFailed 0 .lpeel 12) sweptTwice) (fun t => (t.core 0).resetting == [] && raised t 0x2601 .held) = true ∧
    (frozen.setCore 0 (stuckL [3])).awaits 0 .lpeel = none ∧ (stuckL [3]).peelFailed.contains 3 = true ∧
    goes (exec .sweepComplete (let s := step3 frozen; { s with reeve := { s.reeve with recovery := some { recov with heldAtEnd := true } } })) (fun t => t.mode == 2) = true := by decide +kernel

/-- Port 0 trains; firing 4 waits with a frame of its own queued there. -/
def trainingFired : State := { klyWith klyTraining true { KPort.reset with own := [ownFrame] } with kly := { (klyWith klyTraining true { KPort.reset with own := [ownFrame] }).kly with firings := [(4, { performed := true, failed := false, waits := [1] })] } }

set_option maxRecDepth 100000 in
theorem wit_more_link : ((fired4 { KPort.reset with own := [ownFrame] }).linkOff 0 klyDisabled).cutOff 0 false = [4] ∧
    goes (exec (.klyPortDisable 0 0 0x0F702000) (fired4 { KPort.reset with own := [ownFrame] })) (fun t => t.get (fKlyState 0) == klyDisabled && t.firing 4 == none && raised t 0x5202 .jobFault) = true ∧
    goes (exec (.klyTrainingLimit 0 1000) trainingFired) (fun t => t.get (fKlyState 0) == klyFailed && t.firing 4 == none && t.reeve.events.map (fun e => e.code) == [0x5202, 0x5103]) = true ∧
    goes (exec (.klyTrainFrame 0 (trainFrm true).bytes) trainingFired) (fun t => t.get (fKlyState 0) == klyOut && t.reeve.events.map (fun e => e.code) == [0x5202, 0x5101]) = true := by decide +kernel

/-- Four of eight bytes of message 5 for this device; the last four, with its counter 3; a frame for device 1. -/
def firstFrm : KFrame := { dataFrm with msgLen := 8 }
def lastFrm : KFrame := { dataFrm with msgLen := 8, flags := 2, recvCnt := 3, addr := 0x104 }
def throughFrm : KFrame := { dataFrm with route := routeByte 0 1 2 }
def refusedRack : KFrame := { rackFrm with flags := 4 }
def throughRack : KFrame := { rackFrm with route := routeByte 0 1 2 }

/-- The message's first four bytes have come; the counter belongs to partition 2. -/
def halfway : State := { receiving.setReg 0x3840C 0xA0000000 with kly := { receiving.kly with trackers := [{ src := 1, msgId := 5, got := 4, refused := false }] } }

/-- The ring's other port is UP. -/
def bothUp : State := (((receiving.setReg (kKly 1 0) 0x8F702000).put (fKlyState 1) klyUp).put (fKlyMode 1) 3).put (fKlyLocked 1) 1

set_option maxRecDepth 100000 in
theorem wit_more_data : KFrame.ofBytes firstFrm.bytes = some firstFrm ∧ KFrame.ofBytes lastFrm.bytes = some lastFrm ∧ KFrame.ofBytes throughFrm.bytes = some throughFrm ∧ firstFrm.bad = false ∧ lastFrm.bad = false ∧
    throughFrm.bad = false ∧ receiving.trackerOf firstFrm = none ∧ receiving.trackerRoom firstFrm = true ∧ receiving.askOf (.message 0) = none ∧ receiving.rxGoes 0 firstFrm = true ∧ receiving.ceMay 2 false 0x100 4 true = true ∧
    goes (exec (.klyDataFrame 0 firstFrm.bytes) receiving) (fun t => t.kly.trackers == [{ src := 1, msgId := 5, got := 4, refused := false }]) = true ∧ halfway.trackerOf lastFrm = some { src := 1, msgId := 5, got := 4, refused := false } ∧
    halfway.cntOwned 3 2 = true ∧ goes (exec (.klyDataFrame 0 lastFrm.bytes) halfway) (fun t => t.kly.trackers == [] && t.reg (kCnt 3) == 1) = true ∧
    (starved receiving).rxGoes 0 dataFrm = false ∧ goes (exec (.klyDataFrame 0 dataFrm.bytes) (starved receiving)) (fun t => (t.kport 0).rxWait == [dataFrm] && t.part.asks.length == 1 && t.dram == []) = true ∧
    bothUp.klyUsable 1 = true ∧ bothUp.isRing = true ∧ throughFrm.dst ≠ bothUp.device ∧ throughFrm.dst < bothUp.devices ∧
    goes (exec (.klyDataFrame 0 throughFrm.bytes) bothUp) (fun t => (t.kport 1).fwd == [throughFrm] && (t.kport 0).ackDue) = true := by decide +kernel

set_option maxRecDepth 100000 in
theorem wit_more_rack : KFrame.ofBytes refusedRack.bytes = some refusedRack ∧ KFrame.ofBytes throughRack.bytes = some throughRack ∧ refusedRack.bad = false ∧ throughRack.bad = false ∧ refusedRack.flags.testBit 2 = true ∧ rackFrm.flags.testBit 2 = false ∧
    throughRack.dst ≠ bothUp.device ∧ goes (exec (.klyRack 0 refusedRack.bytes) racking) (fun t => raised t 0x5205 .jobFault && (t.firing 4).any (fun x => x.failed)) = true ∧
    goes (exec (.klyRack 0 throughRack.bytes) bothUp) (fun t => (t.kport 1).fwd == [throughRack]) = true ∧
    goes (exec (.klyRack 0 rackFrm.bytes) (racking.on fCeFenced)) (fun t => t.reg (kKly 0 0x24) == 1 && (t.firing 4).any (fun x => x.waits == [1])) = true := by decide +kernel

theorem wit_more_descriptors : goes (exec (.triggerDescriptorWrite 0 4 0 0x03020004) ce) (fun t => t.reg (kTrig 4 0) == 0x03020004) = true ∧ (0x03020004 : Word).getLsbD 8 = false ∧
    (starved (ceFired (trigSet (head4 1 1 0 0) 0x200 0x100 8 0 0 ce))).goesOut (.firing 4) 2 2 = false ∧ (ceFired (trigSet (head4 1 1 0 0) 0x200 0x100 8 0 0 ce)).putLines ((trigSet (head4 1 1 0 0) 0x200 0x100 8 0 0 ce).trig 4) = 2 ∧
    goes (exec (.put 4 .clean) (starved (ceFired (trigSet (head4 1 1 0 0) 0x200 0x100 8 0 0 ce)))) (fun t => t.part.asks.length == 1 && (t.firing 4).any (fun x => !x.performed)) = true ∧
    ((trigSet (head4 1 9 0 0) 0x200 0x100 8 0 0 ce).trig 4).valid = true ∧
    goes (exec (.reduce 4 .clean) (starved (ceFired (trigSet (head4 2 1 0 0) 0 0x100 8 64 0 ce)))) (fun t => (t.firing 4).any (fun x => !x.performed)) = true ∧
    goes (exec (.exchange 4 .clean) (starved (ceFired (trigSet (head4 3 1 0 6) 0x200 0x100 1 0 0x200 ce)))) (fun t => (t.firing 4).any (fun x => !x.performed)) = true ∧
    goes (exec (.flag 4) (starved (ceFired (trigSet (head4 4 1 0 0) 0 0x100 0 0 7 ce)))) (fun t => (t.firing 4).any (fun x => !x.performed)) = true ∧
    ce.ceMay 2 false 0x200 8 false = true ∧ ce.ceMay 2 false 0x100 128 true = true ∧
    goes (exec (.exchange 4 .clean) (ceFired (trigSet (head4 3 1 0 6) 0x200 0x100 1 0 0x200 ce))) (fun t => t.firing 4 == some { performed := true, failed := false, waits := [] }) = true ∧
    goes (exec (.doorbell 4) ((ceFired (trigSet (head4 5 1 0 0) 0 0 0 0 0x10005 (queued 1 [] []))).on (fResetting 2))) (fun t => (t.queue 5).prod == 1 && (t.firing 4).any (fun x => x.performed)) = true := by decide +kernel

theorem wit_more_receive_counter : ((trigSet ((head4 1 9 0 0) + 3 * 2 ^ 40) 0x200 0x100 8 0 0 ce).trig 4).recvEn = true ∧ ((trigSet ((head4 1 9 0 0) + 3 * 2 ^ 40) 0x200 0x100 8 0 0 ce).trig 4).recvCnt = 3 ∧ ce.cntOwned 3 2 = true ∧
    goes (exec (.put 4 .clean) (ceFired (trigSet ((head4 1 9 0 0) + 3 * 2 ^ 40) 0x200 0x100 8 0 0 ce))) (fun t => t.reg (kCnt 3) == 1) = true := by decide +kernel

/-- A ladder script of port 0 stands at this WRITE. -/
def ladderScript : State := (script 0x18100203 7).setPort 0 { PortSt.reset with script := some ⟨5, true⟩ }

theorem wit_more_scripts : goes (exec (.i2cRun 0 3 0) (portAt 1 0 none)) (fun t => t.flag fMillRejected) = true ∧ ladderScript.entryFrom 0 (ladderScript.get (fPortEntry 0) + 1) = some 2 ∧
    goes (exec (.scriptWrite 0 false 0 false) ladderScript) (fun t => t.get (fPortState 0) == 1 && t.get (fPortEntry 0) == 2 && (t.port 0).script == some ⟨9, true⟩) = true ∧
    goes (exec (.scriptPoll 0 true 7 0 false) (script 0x38100203 0xFF07)) (fun t => t.emitted == [.i2cRead 0 0x10 0x203 true]) = true ∧
    goes (exec (.millPortDisable 0 0 0x00002000) (portAt 2 0 none)) (fun t => !t.flag (fPortEn 0) && t.port 0 == PortSt.reset) = true := by decide +kernel

/-- Frames run and the camera belongs to SYNC group 3. -/
def cameraOn : State := { ((camera.on fFrameEn).setReg kFramePeriod 33000000) with tb := { Timebase.reset with ns := 150000000, next := 5, begun := true } }

/-- The camera is triggered, in a window that an edge at 1 ms has opened; it has begun frame n; both its slots are held. -/
def cameraTrig : State := ((cameraOn.put (fStrmTrig 1) 7).put (fStrmMethod 1) 1).setStrm 1 { StreamSt.reset with windows := [(4, 1000000, false)] }
def cameraLate : State := cameraTrig.setStrm 1 { StreamSt.reset with windows := [(4, 1000000, false)], begun := [cameraTrig.frameAt 1000000] }
def cameraFull : State := camera.setReg (kStrmCnt 1 0) 2

theorem wit_more_frame_starts : camera.camStreams 0 0 ≠ [] ∧ camera.grpFree (camera.get (fStrmGroup 1)) = true ∧
    goes (exec (.csiFrameStart 0 0 9 .corrected true 200) camera) (fun t => ((t.strm 1).frames.map (fun f => (f.slot, f.status, f.fsNumber)) == [(some 0, 0, 9)]) && t.reg (kPortErrs 0) == 2) = true ∧
    goes (exec (.csiFrameStart 0 0 9 .clean false 200) cameraFull) (fun t => (t.strm 1).frames.map (fun f => (f.slot, f.status)) == [(none, 4)]) = true ∧
    cameraTrig.receiving 1 = none ∧ cameraTrig.windowOpen 1 = true ∧ (cameraTrig.strm 1).windowAt = some (4, 1000000, false) ∧ cameraTrig.grpFree (cameraTrig.get (fStrmGroup 1)) = false ∧
    goes (exec (.csiFrameStart 0 0 9 .clean false 150000000) cameraTrig) (fun t => (t.strm 1).frames.map (fun f => (f.capture, f.slot)) == [(1000000, some 0)]) = true ∧
    goes (exec (.csiFrameStart 0 0 9 .clean false 150000000) cameraLate) (fun t => (t.strm 1).frames == [] && (t.strm 1).skip && t.reg (kStrmCnt 1 4) == 1) = true := by decide +kernel

theorem wit_more_frame_ends : (cameraFrame [⟨[1, 2, 3, 4], 0⟩] 2).vcSilent 0 0 = false ∧ ((cameraFrame [⟨[1, 2, 3, 4], 0⟩] 2).strm 1).skip = false ∧ ((cameraFrame [⟨[1, 2, 3, 4], 0⟩] 2).receiving 1).map (fun f => (f.fsNumber, f.pend == [])) = some (9, false) ∧
    goes (exec (.csiFrameEnd 0 0 9 .clean false 200) (cameraFrame [⟨[1, 2, 3, 4], 0⟩] 2)) (fun t => (t.receiving 1).isNone && (t.strm 1).frames.map (fun f => (f.ended, f.closed)) == [(true, false)]) = true ∧
    goes (exec (.csiFrameEnd 0 0 10 .clean false 200) (cameraFrame [⟨[1, 2, 3, 4], 0⟩] 2)) (fun _ => true) = true ∧
    (camera.setPort 0 { PortSt.reset with silent := [15] }).vcSilent 0 15 = true ∧
    goes (exec (.csiFrameEnd 0 15 9 .clean false 200) camera) (fun t => raised t 0x1108 .violation) = true ∧
    goes (exec (.csiFrameEnd 0 15 9 .clean false 200) (camera.setPort 0 { PortSt.reset with silent := [15] })) (fun t => t.reeve.events == []) = true := by decide +kernel

/-- Stream 1 takes JPEG of data type 0x30. -/
def cameraJpeg : State := ((cameraFrame [] 0).put (fDecode 1) 2).put (fSrcDt 1) 0x30

theorem wit_more_packets : (cameraFrame [] 0).lineBytes 1 = 4 ∧ (cameraFrame [] 0).lineBuffered 1 + 5 ≤ 393216 ∧ cameraJpeg.decodeMode 1 = 2 ∧ (cameraFrame [] 0).camStreams 0 0 = [1] ∧
    goes (exec (.csiLongPacket 0 0 0x2A [1, 2, 3, 4, 5] .clean true false 15 .clean 200) (cameraFrame [] 0)) (fun t => (t.receiving 1).map (fun f => (f.pend, f.received)) == some ([⟨[1, 2, 3, 4], 0⟩], 1) && t.reg (kStrmCnt 1 7) == 1) = true ∧
    goes (exec (.csiLongPacket 0 0 0x2A [1, 2, 3] .corrected true true 15 .clean 200) (cameraFrame [] 0)) (fun t => (t.receiving 1).map (fun f => (f.pend, f.received, f.damageCount)) == some ([⟨[1, 2, 3], 0x1106⟩], 1, 1) && t.reg (kPortErrs 0) == 2) = true ∧
    goes (exec (.csiLongPacket 0 0 0x30 [1, 2, 3] .clean true false 15 .clean 200) cameraJpeg) (fun t => (t.receiving 1).map (fun f => f.pend) == some [⟨[1, 2, 3], 0⟩]) = true ∧
    goes (exec (.csiLongPacket 0 0 0x12 [1, 2, 3] .clean true false 15 .clean 200) (cameraFrame [] 0)) (fun t => (t.receiving 1).map (fun f => f.embedded) == some [1, 2, 3]) = true ∧
    goes (exec (.csiLongPacket 0 0 2 [] .clean true false 7 .clean 200) (cameraFrame [] 0)) (fun t => t.get (fLaneOk 0) == 7 && t.reeve.events == []) = true ∧
    goes (exec (.csiLongPacket 0 0 0x2A [1] .clean true false 15 .clean 9) (settling.setPort 0 { PortSt.reset with good := 3 })) (fun t => t.get (fPortState 0) == 1 && (t.port 0).good == 4) = true := by decide +kernel

/-- Range stream 16 runs its parser; another packet waits. -/
def rangeBusy : State := ranger.setStrm 16 { StreamSt.reset with run := some (⟨100, []⟩, parseRun 0), queue := [⟨101, [9]⟩] }

theorem wit_more_range : (rangeBusy.strm 16).run.isSome = true ∧ rangeBusy.classify 0 (pkt true) = some 16 ∧
    goes (exec (.rangePacket 0 (pkt true) .corrected 200) rangeBusy) (fun t => (t.strm 16).queue.length == 2 && (t.strm 16).run == some (⟨100, []⟩, parseRun 0)) = true ∧
    goes (exec (.rangePacket 0 (pkt true) .clean 200) (rangeBusy.setStrm 16 { StreamSt.reset with queue := [⟨101, [9]⟩] })) (fun t => (t.strm 16).queue.length == 1 && (t.strm 16).run.any (fun x => x.1.payload == [9])) = true := by decide +kernel

/-- A frame has two lines to decode; it is not its context's turn, for context 0 has one too. -/
def twoLines : State := cameraFrame [⟨[1, 2, 3, 4], 0⟩, ⟨[5, 6, 7, 8], 0x1103⟩] 2
def otherTurn : State := twoLines.setStrm 0 { StreamSt.reset with frames := [{ newFrame 0 100 [] 0 9 (some 0) with pend := [⟨[1], 0⟩] }] }

theorem wit_more_decode : twoLines.decodeTurn = some 1 ∧ twoLines.decodeMode 1 = 0 ∧
    goes (exec (.decodeLine 1 .clean false) twoLines) (fun t => (t.strm 1).frames.map (fun f => (f.lines, f.pend.length)) == [([([1, 2, 3, 4], true)], 1)] && t.mill.turn == 1) = true ∧
    ({ otherTurn with mill := { otherTurn.mill with turn := 15 } } : State).decodeTurn = some 0 ∧
    goes (exec (.decodeLine 1 .clean false) { otherTurn with mill := { otherTurn.mill with turn := 15 } }) (fun t => t.mill.turn == 15) = true ∧
    goes (exec (.decodeLine 1 .clean false) (((cameraFrame [⟨[1], 0⟩, ⟨[2], 0⟩] 2).put (fDecode 1) 2))) (fun t => (t.strm 1).frames.map (fun f => (f.taken, f.pend)) == [([⟨[1], 0⟩], [⟨[2], 0⟩])]) = true ∧
    goes (exec (.decodeLine 1 .clean false) (twoLines.put (fDecode 1) 1)) (fun t => (t.strm 1).frames.map (fun f => f.pend.length) == [1]) = true ∧
    ((twoLines.put (fDecode 1) 1).decodeLine 1 [1, 2, 3, 4]).length = 4 := by decide +kernel

/-- With frames on, in frame 4: stream 1 has a frame of that number open, and its list is not read for it yet. -/
def listedOn (magic : Nat) : State :=
  { (((listed magic).on fFrameEn).setReg kFrameNum 4).setStrm 1 { StreamSt.reset with frames := [newFrame 1 100 [] 4 9 (some 0)] } with tb := { Timebase.reset with begun := true, next := 5 } }

set_option maxRecDepth 100000 in
theorem wit_more_lists : (listed 0x31494F52).listReadDue 1 = true ∧ (camera.on (fStrmEn 1)).listReadDue 1 = false ∧ goes (exec (.sieveListRead 1 false) ((listed 0x31494F52).setStrm 1 StreamSt.reset)) (fun t => (t.strm 1).list.isNone) = true ∧
    (listedOn 0x31494F52).listReadDue 1 = true ∧
    goes (exec (.sieveListRead 1 false) (listedOn 0x31494F52)) (fun t => (t.strm 1).list.isSome && t.listReadDue 1 == false) = true := by decide +kernel

/-- The region list belongs to perception partition 2, of which the regulator admits nothing. -/
def listStarved : State := starved ((((listed 0x31494F52).put fPerc 2).setReg (kPart 2 4) 0x80001000))

set_option maxRecDepth 100000 in
theorem wit_requests_of_the_mill : listStarved.winOk 2 0x1000 48 false = true ∧ goes (exec (.sieveListRead 1 false) listStarved) (fun t => t.part.asks.length == 1 && (t.strm 1).list.isNone) = true ∧
    goes (exec (.millGroupPost 3) (starved (((grouped 256).put fPerc 2).setReg (kPart 2 4) 0x80001000))) (fun t => t.part.asks.length == 1 && t.reg (kGrpHead 3) == 0) = true ∧
    (grouped 256).dramReady (.records 3) (grouped 256).perc 2 = true ∧ freeGroup.dramReady (.records 3) freeGroup.perc 2 = true := by decide +kernel

/-- The parser's run at this word, with its expected number, effects and losses; another packet waits; a sweep is open. -/
def parsingWith (w : Word) (u : ParserRun → ParserRun) (queue : List RangePkt) (sweep : Bool) : State :=
  (parsing w 0).setStrm 16 { (parsing w 0).strm 16 with run := some (⟨100, []⟩, u (parseRun 0)), queue := queue, frames := if sweep then [newFrame 16 100 [] 0 9 (some 0)] else [] }

theorem wit_more_parser : goes (exec (.parserStamp 0 false) (parsing (enc 0x1A 0 3 0 3) 0)) (fun t => parsed t (fun r => r.effects.length == 1)) = true ∧
    4096 ≤ (parsing (enc 0x13 5 3 0 0x1FFFF) 0).get (fTableBase 16) + 3 + pImm (enc 0x13 5 3 0 0x1FFFF) ∧ goes (exec (.parserLut 0 false) (parsing (enc 0x13 5 3 0 0x1FFFF) 0)) (fun t => parsed t (fun r => r.pc == 1)) = true ∧
    goes (exec (.parserSeq 0 false) (parsing (enc 0x1C 0 3 0 15) 0)) (fun t => parsed t (fun r => r.expected == some 4 && r.lost == [(1, 2)])) = true ∧ (3 + 2 ^ 16 - 2) % 2 ^ 16 < 2 ^ 16 / 2 ∧
    2 ^ 16 / 2 ≤ (1 + 2 ^ 16 - 2) % 2 ^ 16 ∧ goes (exec (.parserSeq 0 false) (parsing (enc 0x1C 0 1 0 15) 0)) (fun t => (t.strm 16).run.isNone && raised t 0x1206 .violation) = true ∧
    goes (exec (.parserEnd 0 false) (parsingWith 0 (fun u => { u with effects := [.point (pointRec 0 u)] }) [⟨101, [9]⟩] true)) (fun t => parsed t (fun r => r.payload == [9])) = true ∧
    goes (exec (.parserEnd 0 false) (((parsingWith 0 (fun u => { u with effects := [.point (pointRec 0 u)] }) [⟨101, [9]⟩] true).put (fMaxPts 16) 100))) (fun t => parsed t (fun r => r.payload == [9]) && (t.receiving 16).any (fun f => f.points.length == 1)) = true ∧
    goes (exec (.parserEnd 0 false) ((parsingWith 0 id [] false).put (fStrmSlots 16) 2)) (fun t => (t.receiving 16).map (fun f => (f.slot, f.points.length)) == some (some 0, 0)) = true ∧
    goes (exec (.parserReject 0 false) (parsingWith (enc 0x1D 0 0 0 9) id [⟨101, [9]⟩] false)) (fun t => parsed t (fun r => r.payload == [9]) && (t.strm 16).gap != 0) = true ∧
    goes (exec (.parserInvalidOp 0 false) (parsingWith (enc 0x18 0 0 0 0) id [⟨101, [9]⟩] false)) (fun t => parsed t (fun r => r.payload == [9])) = true ∧
    goes (exec (.parserRunLimit 0) (parsingWith 0 (fun u => { u with steps := 65536 }) [⟨101, [9]⟩] false)) (fun t => parsed t (fun r => r.payload == [9])) = true := by decide +kernel

-- ILL-FORMED COMMANDS: EACH CHECK OF WellFormed REFUSES ONE

theorem test_ill_formed_registers : (Instr.registerWrite 0 2 0).wellFormed = false ∧ (Instr.readClear 0 1).wellFormed = false ∧ (Instr.pairLoRead 0 6).wellFormed = false ∧
    (Instr.pairLoWrite 0 3 0).wellFormed = false ∧ (Instr.pairHiWrite 0 5 0).wellFormed = false ∧ (Instr.registerWrite 0 4 0).wellFormed = true := by decide +kernel

def longPkt : UdpPacket := { pkt true with payload := List.replicate 65508 0 }

theorem longPkt_wf : longPkt.wellFormed = false := by
  have h : longPkt.payload.length = 65508 := List.length_replicate
  unfold UdpPacket.wellFormed
  rw [h]
  decide

theorem test_ill_formed_packets (t : Nat) (x : Fin 4) (l : List Byte) (h : l.length = 65536) (hd : Header) : (Instr.rangePacket 0 longPkt .clean t).wellFormed = false ∧
    (Instr.hedgerowPacket [] x longPkt false).wellFormed = false ∧ (Instr.csiLongPacket 0 0 0x2A l hd true true 15 .clean t).wellFormed = false :=
  ⟨longPkt_wf, by show (true && longPkt.wellFormed) = false; rw [longPkt_wf]; rfl, by show decide (l.length < 65536) = false; rw [h]; decide⟩

theorem test_ill_formed_frames : (Instr.canFrameReceive 0 { frame with data := List.replicate 65 0 } false 0).wellFormed = false ∧ (Instr.canFrameReceive 0 { frame with remote := true } false 0).wellFormed = false ∧
    (Instr.canFrameReceive 0 frame false 0).wellFormed = true ∧
    (Instr.klyTrainFrame 0 (List.replicate 31 0)).wellFormed = false ∧ (Instr.klyDataFrame 0 (List.replicate 31 0)).wellFormed = false ∧ (Instr.klyRack 0 (List.replicate 31 0)).wellFormed = false ∧
    (Instr.klyAck 0 (List.replicate 31 0)).wellFormed = false ∧ (Instr.klyNak 0 (List.replicate 31 0)).wellFormed = false ∧ (Instr.klyCredit 0 (List.replicate 31 0)).wellFormed = false ∧
    (Instr.klyAbort 0 (List.replicate 31 0)).wellFormed = false := by decide +kernel

theorem test_ill_formed_others : (Instr.hedgerowPacket (List.replicate 5 { mac := 0, port := 0, srcIp := 0 }) 0 udp false).wellFormed = false ∧ (Instr.dramWriteComplete .queueManager 0 [] .clean).wellFormed = false ∧ (Instr.thermalSample [1] 0).wellFormed = false ∧
    (∀ c, (Instr.pcieTlpViolation 0 c (List.replicate 17 0)).wellFormed = false) ∧ (Instr.bar2Access 0 0 2 (some [1]) false .clean).wellFormed = false ∧
    (Instr.bar2Access 0 0 0 (some []) false .clean).wellFormed = false ∧ (Instr.bar2Access 0 0 0 none false .clean).wellFormed = false ∧ (Instr.bar2Access 0 0 4097 none false .clean).wellFormed = false ∧ (Instr.tinc 0 [] [] false).wellFormed = false ∧
    (Instr.timeMessageTransmit 0 true .announce [] (List.replicate 63 0)).wellFormed = false ∧ (Instr.timeMessageTransmit 0 true .sync [] (List.replicate 43 0)).wellFormed = false :=
  ⟨rfl, rfl, rfl, fun _ => rfl, rfl, rfl, rfl, rfl, rfl, rfl, rfl⟩

-- THE SPEC'S WORKED VALUES

set_option maxRecDepth 100000 in
/-- FIPS 180-4's example: the digest of "abc" begins BA7816BF. -/
theorem test_sha256_abc : (sha256 [0x61, 0x62, 0x63]).take 4 = [0xBA, 0x78, 0x16, 0xBF] := by decide +kernel

/-- The check value of CRC-32C (RFC 3720): the nine digits give E3069283. -/
theorem test_crc32c_digits : crc32c [0x31, 0x32, 0x33, 0x34, 0x35, 0x36, 0x37, 0x38, 0x39] = 0xE3069283 := by decide +kernel

/-- The worked encoding of 07: the bundle's three slots, and no breach. -/
theorem test_worked_bundle : opsOf 0x0031637FFFFE4240C1F4001818C00001 = [.salu 0 true 12 12 0 1, .twait 1 0 12 2000, .branch 1 12 13 0x3FFFFE] ∧
    bitBreaches 0x0031637FFFFE4240C1F4001818C00001 = [] := by decide +kernel

/-- The worked cases of 09 (287,431 mm and 6,250 mm at range exponent 13; the code of the first stands for about that range), and R348's largest values. -/
theorem test_worked_formats : rf16Encode 13 (XVal.ofInt 287431) = (0x7604, false) ∧ rf16Encode 13 (XVal.ofInt 6250) = (0x0291, false) ∧ rf16Encode 0 (XVal.ofInt 40000) = (0x7FFF, true) ∧
    e4m3.decode 0x7E = .num false 14 5 ∧ e5m2.decode 0x7C = .inf false ∧ fp16.round (XVal.ofInt 65519) = 0x7BFF ∧ fp16.round (XVal.ofInt 65520) = 0x7C00 := by decide +kernel

/-- The worked case of 08: the tolerance of a column whose magnitude sum is 3,072, after 576 steps of a 128-wide array. -/
theorem test_worked_tolerance : tolerance 128 576 0x45400000 = 0x3F23B001 := by decide +kernel

/-- The worked case of 17: the DRAM offset's channel (R28). -/
theorem test_worked_channel : channelOf 0x42A713940 = 14 := by decide +kernel

/-- The worked case of 05: a RAW10 sample of 600 with black level 64 and gain 1.5. -/
theorem test_worked_sample : convR 64 0x1800 10 600 = 804 := by decide +kernel

end Sys2Proof.Tests
end

/-! EVERY STEP EVOLVES. Each meaning is a chain of the operations of Laws/Evolves.lean, Laws/Requests.lean and of one another; the lemmas below
say so once for each function of the model, in the model's order, and their proofs follow its body: a branch is an `ev_ite` or a `split`, a
fold an `ev_foldl`, an update of parts an `ev_with`, and a state that several branches go on from a `have`. -/
namespace Sys2Proof.Machine

theorem ev_ite_fst {β : Type} {r : State} {a b : State × β} {c : Prop} [Decidable c] (ha : Evolves r a.1) (hb : Evolves r b.1) :
    Evolves r (if c then a else b).1 := by
  split <;> assumption

theorem ev_ite_snd {β : Type} {r : State} {a b : β × State} {c : Prop} [Decidable c] (ha : Evolves r a.2) (hb : Evolves r b.2) :
    Evolves r (if c then a else b).2 := by
  split <;> assumption

theorem ev_ite_snd_snd {α β : Type} {r : State} {a b : α × β × State} {c : Prop} [Decidable c] (ha : Evolves r a.2.2) (hb : Evolves r b.2.2) :
    Evolves r (if c then a else b).2.2 := by
  split <;> assumption

theorem Evolves.of_snd_snd {α β : Type} {r t : State} {a : α} {b : β} {p : α × β × State} (e : p = (a, b, t)) (h : Evolves r p.2.2) :
    Evolves r t := by
  rw [e] at h; exact h

theorem Evolves.of_out {r t : State} {o : Out} (e : o = .next t) (h : outEvolves r o) : Evolves r t := by
  rw [e] at h; exact h

theorem ev_ite_option {r : State} {a b : Option State} {c : Prop} [Decidable c] (ha : ∀ t, a = some t → Evolves r t)
    (hb : ∀ t, b = some t → Evolves r t) : ∀ t, (if c then a else b) = some t → Evolves r t := by
  split <;> assumption

/-- A fold that carries a value beside the state. -/
theorem ev_foldl_snd {α β : Type} {r : State} {f : β × State → α → β × State} (hf : ∀ x a, Evolves x.2 (f x a).2) (l : List α) {p : β × State}
    (h : Evolves r p.2) : Evolves r (l.foldl f p).2 := by
  induction l generalizing p with
  | nil => exact h
  | cons a l ih => exact ih (h.trans (hf p a))

/-- The state of an outcome that evolves. -/
theorem ev_state {r s : State} {o : Out} (ho : outEvolves r o) : Evolves r (Out.state s o) := by
  obtain ⟨t, rfl, ht⟩ := outEvolves_cases ho; exact ht

theorem ev_outState {r s : State} {o : Out} (ho : outEvolves r o) : Evolves r (outState o s) := by
  obtain ⟨t, rfl, ht⟩ := outEvolves_cases ho; exact ht

section
/-! What Machine/Ops.lean defines. -/

variable {r s : State} (h : Evolves r s)
include h

theorem ev_put {f : Fld} {n : Nat} : Evolves r (s.put f n) := ev_setReg h _ _

theorem ev_on {f : Fld} : Evolves r (s.on f) := ev_put h

theorem ev_off {f : Fld} : Evolves r (s.off f) := ev_put h

theorem ev_bumpBy {k n : Nat} : Evolves r (s.bumpBy k n) := ev_setReg h _ _

theorem ev_bump {k : Nat} : Evolves r (s.bump k) := ev_bumpBy h

theorem ev_bumpFld {f : Fld} : Evolves r (s.bumpFld f) := ev_put h

theorem ev_maxReg {k n : Nat} : Evolves r (s.maxReg k n) := ev_setReg h _ _

theorem ev_setReg64 {k : Nat} {v : DWord} : Evolves r (s.setReg64 k v) := ev_setReg (ev_setReg h _ _) _ _

theorem ev_emit {e : Emission} : Evolves r (s.emit e) := ev_with h

theorem ev_raise {e : FaultEvent} : Evolves r (s.raise e) := ev_with h

theorem ev_report {code : Nat} {src : BitVec 16} {info : Nat} : Evolves r (s.report code src info) := ev_raise h

theorem ev_jobFault {code : Nat} {src : BitVec 16} {info : Nat} : Evolves r (s.jobFault code src info) := ev_raise h

theorem ev_heldFault {code : Nat} {src : BitVec 16} {info : Nat} : Evolves r (s.heldFault code src info) := ev_raise h

theorem ev_violation {code : Nat} {src : BitVec 16} {detail : List Byte} : Evolves r (s.violation code src detail) := ev_raise h

theorem ev_dramUncorrectable {who : Agent} {a : Nat} : Evolves r (s.dramUncorrectable who a) := ev_jobFault (ev_bump h)

theorem ev_ramWriteBlock {who : Agent} {a : Nat} {bs : List Byte} : Evolves r (s.ramWriteBlock who a bs) :=
  ev_ite (ev_putBytes h _ _ _) (ev_ite (ev_dramUncorrectable h) (ev_putBytes h _ _ _))

theorem ev_ramWriteN {who : Agent} {n a : Nat} {bs : List Byte} : Evolves r (State.ramWriteN who n s a bs) := by
  induction n generalizing s a bs with
  | zero => exact h
  | succ n ih => exact ev_ite h (ih (ev_ramWriteBlock h))

theorem ev_ramWrite {who : Agent} {a : Nat} {bs : List Byte} : Evolves r (s.ramWrite who a bs) := ev_ramWriteN h

theorem ev_ramRead {who : Agent} {a n : Nat} : Evolves r (s.ramRead who a n).2.2 := by
  unfold State.ramRead
  split
  · exact ev_dramUncorrectable h
  · exact h

omit h in
/-- An operation that keeps what `ramRead` keeps: put in its place, it stops the kernel from computing the read of a literal length. -/
theorem ramRead_opaque : ∃ R, State.ramRead = R ∧ ∀ {r x : State} {who : Agent} {a n : Nat}, Evolves r x → Evolves r (R x who a n).2.2 :=
  ⟨_, rfl, fun h => ev_ramRead h⟩

theorem ev_hostWrite {fn addr : Nat} {bs : List Byte} : Evolves r (s.hostWrite fn addr bs) := ev_ite (ev_emit h) (ev_bump h)

theorem ev_msix {fn v : Nat} : Evolves r (s.msix fn v) := ev_ite h (ev_ite (ev_emit h) (ev_on h))

theorem ev_unsupported {fn : Nat} {detail : List Byte} : Evolves r (s.unsupported fn detail) := ev_emit (ev_violation (ev_bump h))

theorem ev_turnedAway {fn : Nat} : Evolves r (s.turnedAway fn) := ev_ite (ev_unsupported (ev_drawnN h _)) h

theorem ev_partEvent {p b : Nat} : Evolves r (s.partEvent p b) := ev_ite h (ev_ite (ev_msix (ev_on h)) (ev_on h))

theorem ev_refused4301 {p a : Nat} : Evolves r (s.refused4301 p a) := ev_jobFault h

theorem ev_millWrite {a : Nat} {bs : List Byte} : Evolves r (s.millWrite a bs) := ev_ite h (ev_ite (ev_ramWrite h) (ev_refused4301 h))

theorem ev_plainWrite {key : Nat} {v : Word} : Evolves r (s.plainWrite key v) := by
  unfold State.plainWrite
  split
  · exact ev_setReg h _ _
  · exact h

end

section
/-! What Machine/CoreOps.lean defines. -/

variable {r s : State} (h : Evolves r s)
include h

theorem ev_setCore {k : Nat} {c : CoreSt} : Evolves r (s.setCore k c) := ev_with h

theorem ev_coreFault {k : CoreId} {code : Nat} {u : CoreUnit} {info : Nat} : Evolves r (s.coreFault k code u info) := ev_jobFault (ev_setCore h)

theorem ev_wrapUp {k : Nat} : Evolves r (s.wrapUp k) := ev_setReg h _ _

theorem ev_setGrn {k : Nat} {g : Granary} : Evolves r (s.setGrn k g) := ev_setCore h

theorem ev_grnWrite {k a : Nat} {bs : List Byte} : Evolves r (s.grnWrite k a bs) := ev_setGrn h

theorem ev_grnCells {k : Nat} {l : List Host.Cell} : Evolves r (s.grnCells k l) := ev_setGrn h

theorem ev_grnZero {k a n : Nat} : Evolves r (s.grnZero k a n) := ev_setGrn h

theorem ev_grnCorrected {k w : Nat} : Evolves r (s.grnCorrected k w) := ev_ite h (ev_bump (ev_setGrn h))

theorem ev_grnRead {k : CoreId} {e a n : Nat} {errs : GrnErrs} : Evolves r (s.grnRead k e a n errs).2 :=
  ev_ite_snd (ev_coreFault h) (ev_ite_snd (ev_coreFault (ev_bump h)) (ev_foldl (fun _ _ => ev_grnCorrected (Evolves.refl _)) _ h))

omit h in
/-- The same for `grnRead`. -/
theorem grnRead_opaque : ∃ R, State.grnRead = R ∧
    ∀ {r x : State} {k : CoreId} {e a n : Nat} {errs : GrnErrs}, Evolves r x → Evolves r (R x k e a n errs).2 :=
  ⟨_, rfl, fun h => ev_grnRead h⟩

theorem ev_grnStore {k : CoreId} {e a : Nat} {bs : List Byte} {bad : List Nat} : Evolves r (s.grnStore k e a bs bad).2 :=
  ev_ite_snd (ev_coreFault h) (ev_ite_snd (ev_coreFault (ev_bump h)) (ev_grnWrite h))

theorem ev_fillDone {k idx : Nat} {r' : BufRec} : Evolves r (s.fillDone k idx r') := ev_setGrn (ev_grnZero h)

theorem ev_releaseBufs {k : Nat} {p : Nat → BufRec → Bool} : Evolves r (s.releaseBufs k p) := ev_setGrn h

theorem ev_poolReset {k : Nat} : Evolves r (s.poolReset k) := ev_releaseBufs h

theorem ev_tallyRecord {k : CoreId} {code e t : Nat} {atIssue : Bool} {value partner : Nat} :
    Evolves r (s.tallyRecord k code e t atIssue value partner) :=
  ev_setReg64 (ev_setReg64 (ev_setReg h _ _))

theorem ev_tallyFault {k : CoreId} {code e t : Nat} {atIssue : Bool} {value partner : Nat} :
    Evolves r (s.tallyFault k code e t atIssue value partner) :=
  ev_coreFault (ev_tallyRecord h)

theorem ev_jobRefused {k a : Nat} : Evolves r (s.jobRefused k a) := ev_refused4301 (ev_setCore h)

end

section
/-! What Machine/Requests.lean defines. -/

variable {r s : State} (h : Evolves r s)
include h

theorem ev_setPartCtl {c : PartCtl} : Evolves r (s.setPartCtl c) := ev_with h

theorem ev_setRegSt {r' : Nat} {x : RegSt} : Evolves r (s.setRegSt r' x) := ev_setPartCtl h

theorem ev_dropAsks {f : Ask → Bool} : Evolves r (s.dropAsks f) := ev_asks h _

theorem ev_dropCoreAsks {k : Nat} : Evolves r (s.dropCoreAsks k) := ev_dropAsks h

theorem ev_admitHeld {n : Nat} : Evolves r (State.admitHeld n s) := by
  induction n generalizing s with
  | zero => exact h
  | succ n ih =>
    unfold State.admitHeld
    split
    · exact h
    · exact ih (ev_asks (ev_charge h _ _) _)

end

section
/-! What Machine/Seq.lean defines. -/

variable {r s : State} (h : Evolves r s)
include h

theorem ev_decodeFault {k : CoreId} {addr : DWord} {code slot reason : Nat} : Evolves r (s.decodeFault k addr code slot reason) :=
  ev_coreFault (ev_setReg (ev_setReg64 h) _ _)

theorem ev_sigFault {k : CoreId} {addr expect : DWord} {slot reason : Nat} : Evolves r (s.sigFault k addr expect slot reason) :=
  ev_decodeFault (ev_setReg64 h)

theorem ev_setHeld {k : Nat} {h' : Held} : Evolves r (s.setHeld k h') := ev_setCore h

theorem ev_checkBundle {k : CoreId} : Evolves r (s.checkBundle k) := by
  unfold State.checkBundle
  split
  · refine ev_ite h (ev_ite (ev_coreFault h) ?_)
    dsimp only
    split
    · exact ev_decodeFault (ev_ite (ev_bump h) h)
    · exact ev_setHeld (ev_ite (ev_bump h) h)
  · exact h

theorem ev_retireBundle {k : Nat} {h' : Held} : Evolves r (s.retireBundle k h') := ev_ite (ev_wrapUp (ev_setCore h)) (ev_setHeld h)

theorem ev_stall {k : Nat} {h' : Held} : Evolves r (s.stall k h') := ev_ite h (ev_setHeld (ev_foldl (fun _ _ => ev_bump (Evolves.refl _)) _ h))

theorem ev_issueBundle {k : CoreId} : Evolves r (s.issueBundle k) := by
  unfold State.issueBundle
  dsimp only
  split
  · exact ev_ite h (ev_ite (ev_stall h) (ev_retireBundle (ev_setCore h)))
  · exact h

theorem ev_advance {k : CoreId} : Evolves r (s.advance k) := ev_ite (ev_checkBundle h) (ev_issueBundle (ev_checkBundle h))

theorem ev_fetchMiss {k : CoreId} {pc : DWord} {ecc : Ecc} : Evolves r (s.fetchMiss k pc ecc) := by
  unfold State.fetchMiss
  split
  · next e => exact Evolves.of_snd e (ev_dramAsk h _ _ _)
  · next e =>
    have ht := Evolves.of_snd e (ev_dramAsk h _ _ _)
    split
    · next e' => exact ev_setCore (Evolves.of_snd_snd e' (ev_ramRead ht))
    · next e' => exact ev_advance (ev_setHeld (ev_setCore (Evolves.of_snd_snd e' (ev_ramRead ht))))

theorem ev_execInstructionFetch {k : CoreId} {hit parity : Bool} {ecc : Ecc} : outEvolves r (execInstructionFetch k hit parity ecc s) := by
  refine outEvolves_ite h (outEvolves_ite (ev_jobRefused h) ?_)
  split
  · exact outEvolves_ite (ev_fetchMiss (ev_bump h)) (ev_advance (ev_setHeld h))
  · exact ev_fetchMiss h

theorem ev_slotDone {k : CoreId} {j : Nat} : Evolves r (s.slotDone k j) := by
  unfold State.slotDone
  split
  · exact ev_retireBundle h
  · exact h

theorem ev_slotOp {k : CoreId} {p : Nat → Op → Bool} {f : State → Held → Op → Bool × State} (hf : ∀ s h o, Evolves s (f s h o).2) :
    outEvolves r (s.slotOp k p f) := by
  have ha : Evolves r (s.advance k) := ev_advance h
  unfold State.slotOp
  split
  · split
    · refine outEvolves_ite h ?_
      dsimp only
      split
      · exact outEvolves_ite (ev_ite (ev_slotDone (ha.trans (hf _ _ _))) (ha.trans (hf _ _ _))) ha
      · exact ha
    · exact h
  · exact h

theorem ev_gateOp {k : CoreId} {p : Op → Bool} {f : State → Held → Nat → Op → Bool × State} (hf : ∀ s h j o, Evolves s (f s h j o).2) :
    outEvolves r (s.gateOp k p f) := by
  have hc : Evolves r (s.checkBundle k) := ev_checkBundle h
  unfold State.gateOp
  split
  · split
    · refine outEvolves_ite h ?_
      dsimp only
      split
      · refine outEvolves_ite ?_ hc
        split
        · next t e =>
          have ht : Evolves r t := Evolves.of_snd e (hc.trans (hf _ _ _ _))
          split
          · exact ev_issueBundle (ev_with ht)
          · exact ht
        · next t e => exact Evolves.of_snd e (hc.trans (hf _ _ _ _))
      · exact hc
    · exact h
  · exact h

theorem ev_putS {k : CoreId} {d : Nat} {v : DWord} : Evolves r (s.putS k d v) := ev_setCore h

theorem ev_putA {k : CoreId} {d : Nat} {v : Word} : Evolves r (s.putA k d v) := ev_setCore h

theorem ev_regRead {k : CoreId} {ecc : Ecc} {f : State → State} (hf : ∀ s, Evolves s (f s)) : Evolves r (s.regRead k ecc f).2 := by
  cases ecc with
  | clean => exact h.trans (hf _)
  | corrected => exact (ev_bump h).trans (hf _)
  | uncorrectable => exact ev_coreFault h

theorem ev_saluS {k : CoreId} {j : Fin 3} {lo hi : Nat} {ecc : Ecc} : outEvolves r (s.saluS k j lo hi ecc) := by
  refine ev_slotOp h (fun _ _ _ => ?_)
  split
  · exact ev_regRead (Evolves.refl _) (fun _ => ev_putS (Evolves.refl _))
  · exact Evolves.refl _

theorem ev_execSaluAlu {k : CoreId} {j : Fin 3} {ecc : Ecc} : outEvolves r (execSaluAlu k j ecc s) := ev_saluS h

theorem ev_execSaluShift {k : CoreId} {j : Fin 3} {ecc : Ecc} : outEvolves r (execSaluShift k j ecc s) := ev_saluS h

theorem ev_execSaluMul {k : CoreId} {j : Fin 3} {ecc : Ecc} : outEvolves r (execSaluMul k j ecc s) := ev_saluS h

theorem ev_execSaluMinmax {k : CoreId} {j : Fin 3} {ecc : Ecc} : outEvolves r (execSaluMinmax k j ecc s) := ev_saluS h

theorem ev_execSaluCompare {k : CoreId} {j : Fin 3} {ecc : Ecc} : outEvolves r (execSaluCompare k j ecc s) := ev_saluS h

theorem ev_execAddh {k : CoreId} {j : Fin 3} {ecc : Ecc} : outEvolves r (execAddh k j ecc s) := by
  refine ev_slotOp h (fun _ _ _ => ?_)
  split
  · exact ev_regRead (Evolves.refl _) (fun _ => ev_putS (Evolves.refl _))
  · exact Evolves.refl _

theorem ev_execMova {k : CoreId} {j : Fin 3} {ecc : Ecc} : outEvolves r (execMova k j ecc s) := by
  refine ev_slotOp h (fun _ _ _ => ?_)
  split
  · exact ev_regRead (Evolves.refl _) (fun _ => ev_putA (Evolves.refl _))
  · exact Evolves.refl _

theorem ev_execMovs {k : CoreId} {j : Fin 3} {ecc : Ecc} : outEvolves r (execMovs k j ecc s) := by
  refine ev_slotOp h (fun _ _ _ => ?_)
  split
  · exact ev_regRead (Evolves.refl _) (fun _ => ev_putS (Evolves.refl _))
  · exact Evolves.refl _

theorem ev_execAdda {k : CoreId} {j : Fin 3} {ecc : Ecc} : outEvolves r (execAdda k j ecc s) := by
  refine ev_slotOp h (fun _ _ _ => ?_)
  split
  · exact ev_regRead (Evolves.refl _) (fun _ => ev_putA (Evolves.refl _))
  · exact Evolves.refl _

theorem ev_execLi64 {k : CoreId} : outEvolves r (execLi64 k s) := by
  refine ev_slotOp h (fun _ _ _ => ?_)
  split
  · exact ev_putS (Evolves.refl _)
  · exact Evolves.refl _

theorem ev_execLd {k : CoreId} : outEvolves r (execLd k s) := by
  refine ev_slotOp h (fun _ _ _ => ?_)
  split
  · refine ev_ite_snd (ev_jobRefused (Evolves.refl _)) ?_
    split
    · next e => exact Evolves.of_snd e (ev_dramAsk (Evolves.refl _) _ _ _)
    · next e => exact ev_setCore (Evolves.of_snd e (ev_dramAsk (Evolves.refl _) _ _ _))
  · exact Evolves.refl _

theorem ev_execLdReturn {k : CoreId} : outEvolves r (execLdReturn k s) := by
  unfold execLdReturn
  dsimp only
  split
  · exact outEvolves_ite h (outEvolves_ite (ev_dramUncorrectable (ev_setCore h)) (ev_advance (ev_setCore h)))
  · exact h

theorem ev_execSt {k : CoreId} : outEvolves r (execSt k s) := by
  refine ev_slotOp h (fun _ _ _ => ?_)
  split
  · exact ev_ite_snd (ev_jobRefused (Evolves.refl _)) (ev_setCore (Evolves.refl _))
  · exact Evolves.refl _

/-- A line that the store buffer writes in part puts single bytes into the DRAM, whose keys stay rising. -/
theorem ev_lineWrite {k : CoreId} {e : SbEnt} : Evolves r (s.lineWrite k e) := by
  have wf_cells : ∀ (l : List Host.Cell) {m : List Host.Cell}, Memory.wf m = true →
      Memory.wf (l.foldl (fun m x => Tbl.put m (64 * e.line + x.1) x.2) m) = true := by
    intro l
    induction l with
    | nil => exact id
    | cons x l ih => exact fun hm => ih (Tbl.wf_put hm _ _)
  exact ev_ite (ev_ramWrite h) (ev_ite (ev_with (ev_dramUncorrectable h))
    ⟨h.pending, h.grade, h.ae, h.physOf, h.regs, fun x => wf_cells _ (h.dram x), h.draws, h.epoch⟩)

theorem ev_drainOldest {k : CoreId} : Evolves r (s.drainOldest k) := by
  unfold State.drainOldest
  split
  · refine ev_ite (ev_with (ev_setCore h)) ?_
    split
    · next e => exact ev_lineWrite (ev_setCore (Evolves.of_snd e (ev_dramAsk h _ _ _)))
    · next e => exact Evolves.of_snd e (ev_dramAsk h _ _ _)
  · exact h

theorem ev_execStoreBufferDrain {k : CoreId} : outEvolves r (execStoreBufferDrain k s) := outEvolves_ite (ev_drainOldest h) h

theorem ev_execGld {k : CoreId} {errs : GrnErrs} : outEvolves r (execGld k errs s) := by
  refine ev_slotOp h (fun _ _ _ => ?_)
  split
  · split
    · next e => exact ev_putS (Evolves.of_snd e (ev_grnRead (Evolves.refl _)))
    · next e => exact Evolves.of_snd e (ev_grnRead (Evolves.refl _))
  · exact Evolves.refl _

theorem ev_execGst {k : CoreId} {bad : List Nat} : outEvolves r (execGst k bad s) := by
  refine ev_slotOp h (fun _ _ _ => ?_)
  split
  · exact ev_grnStore (Evolves.refl _)
  · exact Evolves.refl _

theorem ev_goTo {k : CoreId} {pc : DWord} : Evolves r (s.goTo k pc) := ev_bump (ev_setCore h)

theorem ev_execBranch {k : CoreId} : outEvolves r (execBranch k s) := by
  refine ev_slotOp h (fun _ _ _ => ?_)
  split
  · exact ev_ite (ev_goTo (Evolves.refl _)) (Evolves.refl _)
  · exact Evolves.refl _

theorem ev_execJ {k : CoreId} : outEvolves r (execJ k s) := by
  refine ev_slotOp h (fun _ _ _ => ?_)
  split
  · exact ev_goTo (Evolves.refl _)
  · exact Evolves.refl _

theorem ev_execJr {k : CoreId} : outEvolves r (execJr k s) := by
  refine ev_slotOp h (fun _ _ _ => ?_)
  split
  · exact ev_goTo (Evolves.refl _)
  · exact Evolves.refl _

theorem ev_execJal {k : CoreId} : outEvolves r (execJal k s) := by
  refine ev_slotOp h (fun _ _ _ => ?_)
  split
  · exact ev_goTo (ev_putS (Evolves.refl _))
  · exact Evolves.refl _

theorem ev_execSigchk {k : CoreId} : outEvolves r (execSigchk k s) := by
  refine ev_gateOp h (fun _ _ _ _ => ?_)
  split
  · exact ev_ite_snd (Evolves.refl _) (ev_sigFault (Evolves.refl _))
  · exact Evolves.refl _

theorem ev_execSigchki {k : CoreId} : outEvolves r (execSigchki k s) := by
  refine ev_gateOp h (fun _ _ _ _ => ?_)
  split
  · exact ev_ite_snd (Evolves.refl _) (ev_sigFault (Evolves.refl _))
  · exact Evolves.refl _

theorem ev_execSigset {k : CoreId} : outEvolves r (execSigset k s) := by
  refine ev_slotOp h (fun _ _ _ => ?_)
  split
  · exact ev_setCore (Evolves.refl _)
  · exact Evolves.refl _

theorem ev_execEndJob {k : CoreId} : outEvolves r (execEndJob k s) := by
  refine ev_gateOp h (fun _ _ _ _ => ?_)
  split
  · exact ev_ite_snd (Evolves.refl _) (ev_ite_snd (Evolves.refl _) (ev_sigFault (Evolves.refl _)))
  · exact Evolves.refl _

theorem ev_execTget {k : CoreId} {parity : Bool} : outEvolves r (execTget k parity s) := by
  refine ev_slotOp h (fun _ _ _ => ?_)
  split
  · exact ev_ite_snd (ev_coreFault (Evolves.refl _)) (ev_putS (Evolves.refl _))
  · exact Evolves.refl _

theorem ev_poolParity {k : CoreId} : Evolves r (s.poolParity k) := ev_coreFault h

theorem ev_execBalloc {k : CoreId} {parity : Bool} : outEvolves r (execBalloc k parity s) := by
  refine ev_gateOp h (fun _ _ _ _ => ?_)
  split
  · refine ev_ite_snd (Evolves.refl _) (ev_ite_snd (ev_poolParity (Evolves.refl _)) ?_)
    split
    · exact ev_setHeld (Evolves.refl _)
    · exact ev_bump (ev_setHeld (Evolves.refl _))
  · exact Evolves.refl _

theorem ev_execBallocFillComplete {k : CoreId} : outEvolves r (execBallocFillComplete k s) := by
  refine ev_gateOp h (fun _ _ _ _ => ?_)
  split
  · exact ev_setHeld (ev_fillDone (Evolves.refl _))
  · exact Evolves.refl _

theorem ev_jobError {k code : Nat} : Evolves r (s.jobError k code) := by
  unfold State.jobError
  dsimp only
  split
  · exact ev_ite (ev_setCore h) h
  · exact h

theorem ev_ownershipEvent {k : CoreId} {reason e : Nat} {buf : Option (Nat × Nat)} : Evolves r (s.ownershipEvent k reason e buf) :=
  have h1 := ev_ite (ev_put (ev_setReg64 (ev_setReg (ev_setReg (ev_bump h) _ _) _ _))) (ev_bump (ev_bump h))
  ev_ite (ev_coreFault h1) (ev_jobError h1)

theorem ev_execBfree {k : CoreId} {parity : Bool} : outEvolves r (execBfree k parity s) := by
  refine ev_slotOp h fun s _ _ => ?_
  have hs := Evolves.refl s
  have ho : ∀ {n e b}, Evolves s (true, s.ownershipEvent k n e b).2 := ev_ownershipEvent hs
  split
  · refine ev_ite_snd (ev_poolParity hs) ?_
    split
    · exact ho
    · exact ev_ite_snd ho (ev_ite_snd ho (ev_ite_snd ho (ev_setGrn hs)))
  · exact hs

theorem ev_execBfreeTagsFree {k : CoreId} : outEvolves r (execBfreeTagsFree k s) := by
  unfold execBfreeTagsFree
  dsimp only
  split
  · exact outEvolves_ite h (ev_setGrn h)
  · exact h

end

section
/-! What Machine/Array.lean defines. -/

variable {r s : State} (h : Evolves r s)
include h

theorem ev_execOpaCfg {k : CoreId} : outEvolves r (execOpaCfg k s) := by
  unfold execOpaCfg
  split
  · split
    · exact ev_setCore h
    · exact h
  · exact h

theorem ev_execOpaZero {k : CoreId} : outEvolves r (execOpaZero k s) := by
  unfold execOpaZero
  split
  · split
    · exact ev_setCore h
    · exact h
  · exact h

theorem ev_execMma {k : CoreId} : outEvolves r (execMma k s) := by
  unfold execMma
  split
  · split
    · exact ev_setCore h
    · exact h
  · exact h

theorem ev_grnTouch {k : CoreId} {e a n : Nat} {errs : GrnErrs} : Evolves r (s.grnTouch k e a n errs).2 := by
  unfold State.grnTouch
  split
  · next e => exact Evolves.of_snd e (ev_grnRead h)
  · next e => exact Evolves.of_snd e (ev_grnRead h)

theorem ev_readRecords {k : CoreId} {aBase bBase n t : Nat} {errs : GrnErrs} : Evolves r (s.readRecords k aBase bBase n t errs).2 :=
  ev_foldl_snd (fun _ _ => ev_ite_snd (ev_grnTouch (Evolves.refl _)) (Evolves.refl _)) _ h

theorem ev_opaSteps {k n : Nat} : Evolves r (s.opaSteps k n) := ev_setReg64 h

theorem ev_execArrayStep {k : CoreId} {errs : GrnErrs} {parity : Bool} {flip : Option (Nat × Nat × Word)} :
    outEvolves r (execArrayStep k errs parity flip s) := by
  unfold execArrayStep
  split
  · split
    · refine outEvolves_ite h (outEvolves_ite (ev_coreFault (ev_bump h)) ?_)
      dsimp only
      split
      · next e => exact Evolves.of_snd e (ev_readRecords h)
      · next e => exact ev_opaSteps (ev_setCore (Evolves.of_snd e (ev_readRecords h)))
    · exact h
  · exact h

theorem ev_execDrain {k : CoreId} : outEvolves r (execDrain k s) := by
  unfold execDrain
  split
  · dsimp only
    split
    · exact ev_setCore h
    · exact h
  · exact h

theorem ev_checkFault {k : CoreId} {acc m steps : Nat} {save floating : Bool} {c : Comparison} :
    Evolves r (s.checkFault k acc m steps save floating c) :=
  ev_coreFault (ev_bump (ev_setReg (ev_setReg (ev_setReg (ev_setReg (ev_setReg h _ _) _ _) _ _) _ _) _ _))

theorem ev_drainCheck {k : CoreId} {d : DrainBuf} : Evolves r (s.drainCheck k d).2 := by
  unfold State.drainCheck
  split
  · exact ev_checkFault (ev_bumpBy h)
  · exact
      have h1 := ev_bumpBy (ev_bumpBy h)
      ev_ite_snd (ev_coreFault h1) (ev_ite_snd (ev_coreFault h1) h1)

theorem ev_drainWrite {k : CoreId} {d : DrainBuf} {n : Nat} {bad : List Nat} : Evolves r (s.drainWrite k d n bad) := by
  unfold State.drainWrite
  dsimp only
  split
  · next e =>
    have ht := Evolves.of_snd e (ev_grnStore h)
    exact ev_ite (ev_bump (ev_setCore ht)) (ev_setCore ht)
  · next e => exact Evolves.of_snd e (ev_grnStore h)

theorem ev_execDrainComplete {k : CoreId} {parity : Bool} {bad : List Nat} {n : Nat} : outEvolves r (execDrainComplete k parity bad n s) := by
  unfold execDrainComplete
  split
  · refine outEvolves_ite h (outEvolves_ite (ev_coreFault (ev_bump h)) ?_)
    split
    · next e => exact ev_drainWrite (Evolves.of_snd e (ev_ite_snd h (ev_drainCheck h)))
    · next e => exact Evolves.of_snd e (ev_ite_snd h (ev_drainCheck h))
  · exact h

end

section
/-! What Machine/Vector.lean defines. -/

variable {r s : State} (h : Evolves r s)
include h

theorem ev_putV {k d : Nat} {l : List Word} : Evolves r (s.putV k d l) := ev_setCore h

theorem ev_putP {k d : Nat} {p : BitVec 256} : Evolves r (s.putP k d p) := ev_ite h (ev_setCore h)

theorem ev_upsetLane {k : Nat} {dest : VecDest} {u : Upset} : Evolves r (s.upsetLane k dest u).2 := by
  unfold State.upsetLane
  split
  · exact ev_ite_snd (ev_putV h) h
  · exact ev_ite_snd (ev_putP h) h
  · exact ev_ite_snd (ev_grnCells h) h
  · exact h

theorem ev_vecOp {k : CoreId} {lo hi : Nat} {ecc : Ecc} {upset : Upset}
    {f : State → Nat → Nat → Nat → Nat → Nat → Nat → Nat → List Nat → Option VecDest × State}
    (hf : ∀ s op d a b p ty x l, Evolves s (f s op d a b p ty x l).2) : outEvolves r (s.vecOp k lo hi ecc upset f) := by
  unfold State.vecOp
  split
  · split
    · refine outEvolves_ite h ?_
      split
      · exact ev_coreFault h
      · dsimp only
        split
        · next t e => exact Evolves.of_snd e ((ev_ite (ev_bump h) h).trans (hf ..))
        · next t e =>
          have ht : Evolves r t := Evolves.of_snd e ((ev_ite (ev_bump h) h).trans (hf ..))
          exact ev_ite (ev_coreFault (ev_bump (ev_with (ev_upsetLane ht)))) (ev_with (ev_upsetLane ht))
    · exact h
  · exact h

theorem ev_toLanes {k d : Nat} {m : BitVec 256} {l : List Word} : Evolves r (s.toLanes k d m l).2 := ev_putV h

theorem ev_laneWise {k d a b p : Nat} {g : Word → Word → Word → Word} : Evolves r (s.laneWise k d a b p g).2 := ev_toLanes h

theorem ev_execVecArith {k : CoreId} {ecc : Ecc} {upset : Upset} : outEvolves r (execVecArith k ecc upset s) :=
  ev_vecOp h (fun _ _ _ _ _ _ _ _ _ => ev_laneWise (Evolves.refl _))

theorem ev_execVecUnary {k : CoreId} {ecc : Ecc} {upset : Upset} : outEvolves r (execVecUnary k ecc upset s) :=
  ev_vecOp h (fun _ _ _ _ _ _ _ _ _ => ev_laneWise (Evolves.refl _))

theorem ev_execVecLogic {k : CoreId} {ecc : Ecc} {upset : Upset} : outEvolves r (execVecLogic k ecc upset s) :=
  ev_vecOp h (fun _ _ _ _ _ _ _ _ _ => ev_laneWise (Evolves.refl _))

theorem ev_execVecShift {k : CoreId} {ecc : Ecc} {upset : Upset} : outEvolves r (execVecShift k ecc upset s) :=
  ev_vecOp h (fun _ _ _ _ _ _ _ _ _ => ev_laneWise (Evolves.refl _))

theorem ev_execVcmp {k : CoreId} {ecc : Ecc} {upset : Upset} : outEvolves r (execVcmp k ecc upset s) :=
  ev_vecOp h (fun _ _ _ _ _ _ _ _ _ => ev_putP (Evolves.refl _))

theorem ev_execVsel {k : CoreId} {ecc : Ecc} {upset : Upset} : outEvolves r (execVsel k ecc upset s) :=
  ev_vecOp h (fun _ _ _ _ _ _ _ _ _ => ev_toLanes (Evolves.refl _))

theorem ev_execVcvt {k : CoreId} {ecc : Ecc} {upset : Upset} : outEvolves r (execVcvt k ecc upset s) :=
  ev_vecOp h (fun _ _ _ _ _ _ _ _ _ => ev_toLanes (ev_bumpBy (ev_bumpBy (Evolves.refl _))))

theorem ev_execVred {k : CoreId} {ecc : Ecc} {upset : Upset} : outEvolves r (execVred k ecc upset s) :=
  ev_vecOp h (fun _ _ _ _ _ _ _ _ _ => ev_toLanes (Evolves.refl _))

theorem ev_execVlut {k : CoreId} {ecc : Ecc} {upset : Upset} {errs : GrnErrs} : outEvolves r (execVlut k ecc upset errs s) := by
  obtain ⟨R, e, hR⟩ := grnRead_opaque
  unfold execVlut
  rw [e]
  refine ev_vecOp h fun s _ d a _ p _ _ vals => ?_
  split
  · next e => exact Evolves.of_snd e (hR (Evolves.refl s))
  · next e => exact ev_toLanes (Evolves.of_snd e (hR (Evolves.refl s)))

theorem ev_execVbc {k : CoreId} {ecc : Ecc} {upset : Upset} : outEvolves r (execVbc k ecc upset s) :=
  ev_vecOp h (fun _ _ _ _ _ _ _ _ _ => ev_laneWise (Evolves.refl _))

theorem ev_execVld {k : CoreId} {ecc : Ecc} {upset : Upset} {errs : GrnErrs} : outEvolves r (execVld k ecc upset errs s) := by
  refine ev_vecOp h (fun _ _ _ _ _ _ _ _ _ => ?_)
  split
  · next e => exact Evolves.of_snd e (ev_grnRead (Evolves.refl _))
  · next e => exact ev_toLanes (Evolves.of_snd e (ev_grnRead (Evolves.refl _)))

theorem ev_execVst {k : CoreId} {ecc : Ecc} {upset : Upset} {bad : List Nat} : outEvolves r (execVst k ecc upset bad s) :=
  ev_vecOp h
    (fun _ _ _ _ _ _ _ _ _ => ev_ite_snd (ev_coreFault (Evolves.refl _))
        (ev_ite_snd (ev_coreFault (ev_bump (Evolves.refl _))) (ev_grnCells (Evolves.refl _))))

theorem ev_execVpop {k : CoreId} {ecc : Ecc} {upset : Upset} : outEvolves r (execVpop k ecc upset s) :=
  ev_vecOp h (fun _ _ _ _ _ _ _ _ _ => ev_putP (Evolves.refl _))

theorem ev_execVmov {k : CoreId} {ecc : Ecc} {upset : Upset} : outEvolves r (execVmov k ecc upset s) :=
  ev_vecOp h (fun _ _ _ _ _ _ _ _ _ => ev_laneWise (Evolves.refl _))

end

section
/-! What Machine/Engines.lean defines. -/

variable {r s : State} (h : Evolves r s)
include h

theorem ev_execTallyCfgLoad {k : CoreId} : outEvolves r (execTallyCfgLoad k s) := by
  unfold execTallyCfgLoad
  dsimp only
  split
  · refine outEvolves_ite h (outEvolves_ite (ev_jobRefused h) ?_)
    split
    · next e => exact Evolves.of_snd e (ev_dramAsk h _ _ _)
    · next e =>
      have ht := Evolves.of_snd e (ev_dramAsk h _ _ _)
      split
      · next e' => exact ev_setCore (Evolves.of_snd_snd e' (ev_ramRead ht))
      · next e' =>
        have hu := Evolves.of_snd_snd e' (ev_ramRead ht)
        split
        · exact ev_tallyFault hu
        · exact ev_setCore hu
  · exact h

theorem ev_tallyCycle {k : CoreId} {l : Incs} : Evolves r (s.tallyCycle k l).2 := by
  unfold State.tallyCycle
  dsimp only
  split
  · exact ev_tallyRecord (ev_foldl (fun _ _ => ev_tallyFault (Evolves.refl _)) _ (ev_bumpBy (ev_with h)))
  · exact ev_foldl (fun _ _ => ev_tallyFault (Evolves.refl _)) _ (ev_bumpBy (ev_with h))

theorem ev_retireTransfer {k : CoreId} {q : Nat} {e : PeelEnt} : Evolves r (s.retireTransfer k q e) := ev_put (ev_bump (ev_setCore h))

theorem ev_retireTinc {k : CoreId} {e : Nat} : Evolves r (s.retireTinc k e) := by
  refine ev_ite ?_ (ev_ite (ev_setCore h) (ev_ite (ev_setCore h) ?_))
  · split
    · split
      · exact ev_issueBundle (ev_setHeld h)
      · exact h
    · exact h
  · split
    · exact ev_setCore h
    · exact h

theorem ev_tallyStep {k : CoreId} {es ps : List Nat} {parity : Bool} : Evolves r (s.tallyStep k es ps parity) :=
  ev_ite (ev_coreFault h)
    (ev_foldl (fun _ _ => ev_retireTinc (Evolves.refl _)) _ (ev_foldl (fun _ _ => ev_retireTransfer (Evolves.refl _)) _ (ev_tallyCycle h)))

theorem ev_seqTincCheck {k : CoreId} : Evolves r (s.seqTincCheck k) := by
  unfold State.seqTincCheck
  split
  · refine ev_ite ?_ h
    dsimp only
    split
    · exact ev_ite (ev_stall (ev_checkBundle h)) (ev_checkBundle h)
    · exact ev_checkBundle h
  · exact h

theorem ev_execTinc {k : CoreId} {es : List Engine} {ps : List PeelId} {parity : Bool} : outEvolves r (execTinc k es ps parity s) :=
  outEvolves_ite (ev_ite (ev_seqTincCheck h) h) (ev_tallyStep (ev_ite (ev_seqTincCheck h) h))

theorem ev_waitOver {k e : Nat} : Evolves r (s.waitOver k e) := by
  unfold State.waitOver
  dsimp only
  split
  · exact ev_put (ev_setCore h)
  · exact h

theorem ev_waitStarts {k e : Nat} : Evolves r (s.waitStarts k e) := ev_ite h (ev_bump (ev_setCore h))

theorem ev_execTwait {k : CoreId} {e : Engine} {parity : Bool} : outEvolves r (execTwait k e parity s) := by
  unfold execTwait
  split
  · refine ev_gateOp h fun s _ _ _ => ?_
    have hs := Evolves.refl s
    split
    · exact ev_ite_snd (ev_coreFault hs) (ev_ite_snd (ev_waitOver hs) (ev_waitStarts hs))
    · exact hs
  · split
    · have hw : ∀ {n}, Evolves r (s.waitOver k n) := ev_waitOver h
      refine outEvolves_ite h (outEvolves_ite (ev_coreFault h) (outEvolves_ite ?_ (ev_waitStarts h)))
      dsimp only
      split
      · exact ev_setCore hw
      · exact ev_setCore hw
      · split
        · exact ev_setCore hw
        · exact hw
    · exact h

theorem ev_execTallyWaitTimeout {k : CoreId} {e : Engine} {elapsedUs : Nat} : outEvolves r (execTallyWaitTimeout k e elapsedUs s) := by
  unfold execTallyWaitTimeout
  split
  · exact outEvolves_ite (ev_tallyFault h) h
  · exact h

theorem ev_execBarc {k : CoreId} {e : Engine} : outEvolves r (execBarc k e s) := by
  unfold execBarc
  split
  · exact ev_gateOp h (fun _ _ _ _ => Evolves.refl _)
  · split
    · split
      · exact ev_setCore h
      · exact h
    · exact h
  · split
    · split
      · exact ev_setCore h
      · exact h
    · exact h
  · dsimp only
    split
    · exact outEvolves_ite (ev_setCore h) h
    · exact h

theorem ev_execXfer {k : CoreId} {q : PeelId} : outEvolves r (execXfer k q s) := by
  refine ev_slotOp h (fun _ _ _ => ?_)
  split
  · exact ev_ite_snd (ev_coreFault (Evolves.refl _)) (ev_setCore (Evolves.refl _))
  · exact Evolves.refl _

theorem ev_peelRead {k : CoreId} {q : Nat} {e : PeelEnt} {r' o n : Nat} {errs : GrnErrs} : Evolves r (s.peelRead k q e r' o n errs).2 := by
  refine ev_ite_snd h (ev_ite_snd (ev_grnRead h) ?_)
  split
  · next e => exact Evolves.of_snd_snd e (ev_ramRead h)
  · next e => exact ev_setCore (Evolves.of_snd_snd e (ev_ramRead h))

theorem ev_peelWrite {k : CoreId} {q : Nat} {e : PeelEnt} {r' o : Nat} {bs : List Byte} {bad : List Nat} :
    Evolves r (s.peelWrite k q e r' o bs bad).2.2 := by
  unfold State.peelWrite
  split
  · exact ev_grnStore h
  · dsimp only
    split
    · exact ev_ramWrite h
    · split
      · exact ev_with h
      · exact ev_with h

theorem ev_peelMove {k : CoreId} {q : Nat} {e : PeelEnt} {i n : Nat} {errs : GrnErrs} {bad : List Nat} :
    Evolves r (s.peelMove k q e i n errs bad).2.2 := by
  unfold State.peelMove
  split
  · next t heq => exact Evolves.of_snd heq (ev_peelRead h)
  · next t heq =>
    have ht : Evolves r t := Evolves.of_snd heq (ev_peelRead h)
    exact ev_ite (ev_setReg64 (ev_peelWrite ht)) (ev_peelWrite ht)

/-- A transfer that may not start leaves a fault. -/
theorem ev_startTransfer {k : CoreId} {q : Nat} {done : List PeelEnt} {e : PeelEnt} {t : State} (ht : s.startTransfer k q done e = some t) :
    Evolves r t := by
  unfold State.startTransfer at ht
  refine ev_ite_option (fun _ e => Option.some.inj e ▸ ev_tallyFault h)
    (ev_ite_option (fun _ e => Option.some.inj e ▸ ev_coreFault h) fun t e => ?_) t ht
  obtain ⟨a, -, rfl⟩ := Option.map_eq_some_iff.mp e
  exact ev_jobRefused h

theorem ev_peelAsk {k : CoreId} {q : Nat} {done rest : List PeelEnt} {e : PeelEnt} {bytes : Nat} {errs : GrnErrs} {bad : List Nat} :
    Evolves r (s.peelAsk k q done rest e bytes errs bad) := by
  unfold State.peelAsk
  dsimp only
  split
  · next e => exact Evolves.of_snd e (ev_ite_snd (ev_dramAsk h _ _ _) h)
  · next e =>
    have ht := Evolves.of_snd e (ev_ite_snd (ev_dramAsk h _ _ _) h)
    split
    · next e' => exact Evolves.of_snd_snd e' (ev_ite_snd_snd ht (ev_peelMove ht))
    · next e' => exact ev_setCore (Evolves.of_snd_snd e' (ev_ite_snd_snd ht (ev_peelMove ht)))

theorem ev_peelBack {k : CoreId} {q i : Nat} {errs : GrnErrs} {bad : List Nat} : Evolves r (s.peelBack k q i errs bad) := by
  unfold State.peelBack
  split
  · exact ev_ite (ev_setCore h) (ev_ite h (ev_ite (ev_peelMove (ev_setCore h)) (ev_setCore h)))
  · exact h

theorem ev_execPeelTransferIssue {k : CoreId} {q : PeelId} {act : PeelAct} {errs : GrnErrs} {bad : List Nat} :
    outEvolves r (execPeelTransferIssue k q act errs bad s) := by
  unfold execPeelTransferIssue
  split
  · exact ev_peelBack h
  · dsimp only
    split
    · refine outEvolves_ite h (outEvolves_ite ?_ (ev_peelAsk h))
      split
      · next e => exact ev_startTransfer h e
      · exact ev_peelAsk (ev_setCore h)
    · exact h

theorem ev_execPeelTransferComplete {k : CoreId} {q : PeelId} : outEvolves r (execPeelTransferComplete k q s) := ev_tallyStep h

theorem ev_execPeelCompletionTimeout {k : CoreId} {q : PeelId} {elapsedUs : Nat} : outEvolves r (execPeelCompletionTimeout k q elapsedUs s) :=
  outEvolves_ite (ev_coreFault h) h

theorem ev_execWatchdogExpiry {k : CoreId} {mask : BitVec 5} {cycles : Nat} : outEvolves r (execWatchdogExpiry k mask cycles s) := by
  unfold execWatchdogExpiry
  dsimp only
  split
  · exact h
  · exact outEvolves_ite h (ev_coreFault (ev_setReg h _ _))

theorem ev_execGranaryWriteback {k : CoreId} : outEvolves r (execGranaryWriteback k s) := by
  unfold execGranaryWriteback
  dsimp only
  split
  · exact outEvolves_ite h (ev_setGrn h)
  · exact h

theorem ev_scrubbed {k bank : Nat} : Evolves r (s.scrubbed k bank) := by
  unfold State.scrubbed
  exact ev_ite (ev_wrapUp (ev_with h)) (ev_with h)

theorem ev_execGranaryScrub {k : CoreId} {bank : Fin 32} {errs : GrnErrs} : outEvolves r (execGranaryScrub k bank errs s) :=
  have h1 := ev_foldl (fun _ _ => ev_grnCorrected (Evolves.refl _)) _ (ev_scrubbed h)
  have h2 := ev_bump h1
  outEvolves_ite h (outEvolves_ite (outEvolves_ite (ev_jobFault h2) (ev_grnZero h2)) h1)

theorem ev_execGrnOwnClear {fn : Fn} {v : Word} : outEvolves r (execGrnOwnClear fn v s) :=
  outEvolves_ite (ev_turnedAway h) (outEvolves_ite (ev_on h) (outEvolves_ite (ev_put (ev_foldl (fun _ _ => ev_setReg (Evolves.refl _) _ _) _ h)) h))

end

section
/-! What Machine/Timebase.lean defines. -/

variable {r s : State} (h : Evolves r s)
include h

theorem ev_setTb {t : Timebase} : Evolves r (s.setTb t) := ev_with h

theorem ev_noted : Evolves r s.noted := ev_ite h (ev_setTb h)

theorem ev_execTimebaseTick : outEvolves r (execTimebaseTick s) := ev_noted (ev_put (ev_setTb h))

theorem ev_reachTick {n : Nat} : Evolves r (s.reachTick n) := ev_ite h (ev_setTb h)

theorem ev_reach {t : Nat} : Evolves r (s.reach t) := ev_ite h (ev_setTb h)

theorem ev_tbEnter {st : Nat} : Evolves r (s.tbEnter st) := ev_noted (ev_put (ev_put (ev_setTb h)))

theorem ev_tbSettle : Evolves r s.tbSettle := ev_ite (ev_tbEnter h) (ev_ite (ev_tbEnter h) h)

theorem ev_servoed : Evolves r s.servoed := ev_drawn (ev_setTb h)

theorem ev_tbStep {off : Int} : Evolves r (s.tbStep off) := ev_on (ev_setTb h)

theorem ev_measure {off : Int} : Evolves r (s.measure off) :=
  have h1 := ev_servoed (ev_setTb (ev_ite (ev_tbEnter (ev_setReg h _ _)) (ev_setReg h _ _)))
  have h2 := ev_ite (ev_tbStep h1) (ev_setTb h1)
  ev_ite h (ev_tbSettle (ev_noted (ev_put (ev_ite (ev_report h2) h2))))

theorem ev_tbMessageRejected {detail : List Byte} : Evolves r (s.tbMessageRejected detail) := ev_violation h

theorem ev_ppsFar {detail : List Byte} : Evolves r (s.ppsFar detail) := ev_tbSettle (ev_setTb (ev_tbMessageRejected h))

theorem ev_filtered {heldNs : Nat} : Evolves r (s.filtered heldNs) := ev_ite (ev_drawn h) h

theorem ev_execPpsEdge {heldNs : Nat} : outEvolves r (execPpsEdge heldNs s) :=
  have h1 := ev_setReg64 (ev_drawn h)
  outEvolves_ite (outEvolves_ite (outEvolves_ite (ev_ppsFar h1) (ev_measure h1)) h1) (ev_bump (ev_filtered h))

theorem ev_execDisciplineMessage {gptp : Bool} {port : Fin 5} {kind : TimeKind} {wellFormed : Bool} {seq : BitVec 16} {offset : Option Int}
    {bytes : List Byte} :
    outEvolves r (execDisciplineMessage gptp port kind wellFormed seq offset bytes s) := by
  refine outEvolves_ite (ev_tbMessageRejected h) (outEvolves_ite (ev_tbMessageRejected (ev_setTb h)) ?_)
  split
  · exact ev_measure (ev_setTb h)
  · exact ev_setTb h

theorem ev_execMeasurementLossExpiry {elapsedMs : Nat} : outEvolves r (execMeasurementLossExpiry elapsedMs s) :=
  outEvolves_ite (ev_report (ev_tbEnter h)) h

theorem ev_execHoldoverLimitExpiry {elapsedS : Nat} : outEvolves r (execHoldoverLimitExpiry elapsedS s) :=
  outEvolves_ite (ev_report (ev_on (ev_tbEnter h))) h

theorem ev_millGrid : Evolves r s.millGrid := ev_with h

theorem ev_framesOn : Evolves r s.framesOn := ev_setReg (ev_setTb (ev_millGrid h)) _ _

theorem ev_framesOff : Evolves r s.framesOff := ev_off (ev_setTb (ev_millGrid h))

theorem ev_sourceChanged {oldSrc oldPort : Nat} : Evolves r (s.sourceChanged oldSrc oldPort) :=
  ev_ite (ev_ite h (ev_tbEnter h)) (ev_ite h (ev_ite (ev_tbEnter (ev_setTb h)) (ev_ite (ev_setTb (ev_setTb h)) (ev_setTb h))))

theorem ev_tbReject : Evolves r s.tbReject := ev_on h

theorem ev_tbCtrlWrite {fn : Fn} {v : Word} : Evolves r (s.tbCtrlWrite fn v) :=
  have h1 := ev_sourceChanged (ev_setReg h _ _)
  ev_ite h (ev_ite (ev_tbReject h) (ev_ite (ev_framesOn h1) (ev_ite (ev_framesOff h1) h1)))

theorem ev_execFrameEnable {fn : Fn} {v : Word} : outEvolves r (execFrameEnable fn v s) :=
  outEvolves_ite (ev_turnedAway h) (outEvolves_ite (ev_tbCtrlWrite h) h)

theorem ev_execFrameDisable {fn : Fn} {v : Word} : outEvolves r (execFrameDisable fn v s) :=
  outEvolves_ite (ev_turnedAway h) (outEvolves_ite (ev_tbCtrlWrite h) h)

theorem ev_execTbSourceChange {fn : Fn} {v : Word} : outEvolves r (execTbSourceChange fn v s) :=
  outEvolves_ite (ev_turnedAway h) (outEvolves_ite (ev_tbCtrlWrite h) h)

theorem ev_loTaken {fn : Fn} {hiOff : Nat} : Evolves r (s.loTaken fn hiOff) := ev_with h

theorem ev_execTbSet {fn : Fn} {hi : Word} : outEvolves r (execTbSet fn hi s) :=
  outEvolves_ite (ev_turnedAway h) (outEvolves_ite h (outEvolves_ite (ev_loTaken (ev_tbReject h)) (ev_loTaken (ev_setTb h))))

theorem ev_framePeriodWrite {fn : Fn} {v : Word} : Evolves r (s.framePeriodWrite fn v) :=
  ev_ite h (ev_ite (ev_tbReject h) (ev_ite (ev_ite (ev_tbReject h) (ev_on (ev_setTb h))) (ev_ite (ev_setReg h _ _) (ev_tbReject h))))

theorem ev_execTbFramePeriodWrite {fn : Fn} {v : Word} : outEvolves r (execTbFramePeriodWrite fn v s) :=
  outEvolves_ite (ev_turnedAway h) (ev_framePeriodWrite h)

theorem ev_frameApplyWrite {fn : Fn} {v : Word} : Evolves r (s.frameApplyWrite fn v) := by
  refine ev_ite h (ev_ite (ev_tbReject h) ?_)
  split
  · exact ev_ite (ev_setReg (ev_setTb h) _ _) (ev_tbReject (ev_off (ev_setTb h)))
  · exact ev_tbReject h

theorem ev_execTbFrameApplyWrite {fn : Fn} {v : Word} : outEvolves r (execTbFrameApplyWrite fn v s) :=
  outEvolves_ite (ev_turnedAway h) (ev_frameApplyWrite h)

theorem ev_fdlCfgWrite {fn : Fn} {k : Fin 8} {v : Word} : Evolves r (s.fdlCfgWrite fn k v) :=
  ev_ite h (ev_ite (ev_tbReject h) (ev_ite (ev_off (ev_setReg h _ _)) (ev_setReg h _ _)))

theorem ev_execTbFdlCfgWrite {fn : Fn} {k : Fin 8} {v : Word} : outEvolves r (execTbFdlCfgWrite fn k v s) :=
  outEvolves_ite (ev_turnedAway h) (ev_fdlCfgWrite h)

theorem ev_armSlots {n : Word} {at_ : Nat} : Evolves r (s.armSlots n at_) := ev_setTb h

theorem ev_discardSlots : Evolves r s.discardSlots := ev_setTb h

theorem ev_gridAdvance {n t : Nat} : Evolves r (s.gridAdvance n t) := by
  unfold State.gridAdvance
  dsimp only
  split
  · exact ev_ite (ev_off (ev_setReg (ev_setReg (ev_setReg64 (ev_setTb (ev_setReg (ev_setTb h) _ _))) _ _) _ _)) (ev_setReg (ev_setTb h) _ _)
  · exact ev_setReg (ev_setTb h) _ _

theorem ev_frameDone {k : Nat} {n : Word} {t : Nat} : Evolves r (s.frameDone k n t) := by
  unfold State.frameDone
  split
  · exact ev_ite (ev_setTb h) (ev_ite (ev_bump h) (ev_bump h))
  · exact ev_ite (ev_bump h) (ev_bump h)

theorem ev_slotMissed {sl : FdlSlot} : Evolves r (s.slotMissed sl) := ev_setTb h

theorem ev_execTbCrosscheckWindow {advanceNs : Int} : outEvolves r (execTbCrosscheckWindow advanceNs s) :=
  outEvolves_ite (ev_setTb h) (outEvolves_ite (ev_heldFault (ev_noted (ev_on h))) h)

end

section
/-! What Machine/MillBase.lean defines. -/

variable {r s : State} (h : Evolves r s)
include h

theorem ev_setPort {p : Nat} {x : PortSt} : Evolves r (s.setPort p x) := ev_with h

theorem ev_setStrm {k : Nat} {x : StreamSt} : Evolves r (s.setStrm k x) := ev_with h

theorem ev_setGrp {g : Nat} {x : GroupSt} : Evolves r (s.setGrp g x) := ev_with h

theorem ev_millReject : Evolves r s.millReject := ev_on h

theorem ev_strmViol {k code sub : Nat} {detail : List Byte} : Evolves r (s.strmViol k code sub detail) := ev_violation (ev_bump h)

theorem ev_portViol {p code : Nat} {detail : List Byte} : Evolves r (s.portViol p code detail) := ev_violation h

theorem ev_millBuffer {k : Nat} {e : Ecc} : Evolves r (s.millBuffer k e) := by
  unfold State.millBuffer
  split
  · exact h
  · exact ev_bump h
  · exact ev_jobFault h

theorem ev_allocSlot {k : Nat} : Evolves r (s.allocSlot k).2 := ev_ite_snd h (ev_setStrm (ev_setReg h _ _))

theorem ev_millAsk {u : DramUser} {ws : List (Nat × List Byte)} : Evolves r (s.millAsk u ws).2 := ev_ite_snd h (ev_dramAsk h _ _ _)

theorem ev_millWrites {ws : List (Nat × List Byte)} : Evolves r (s.millWrites ws) := ev_foldl (fun _ _ => ev_millWrite (Evolves.refl _)) _ h

theorem ev_slotWritten {k slot : Nat} {ws : List (Nat × List Byte)} {f : State → State} (hf : ∀ s, Evolves s (f s)) :
    Evolves r (s.slotWritten k slot ws f) := by
  unfold State.slotWritten
  split
  · next t e => exact (ev_millWrites (Evolves.of_snd e (ev_millAsk h))).trans (hf _)
  · next t e => exact Evolves.of_snd e (ev_millAsk h)

theorem ev_toGroup {f : MFrame} : Evolves r (s.toGroup f) := ev_ite h (ev_ite (ev_bump h) (ev_setGrp h))

theorem ev_flushFrames {k : Nat} : Evolves r (s.flushFrames k) := ev_foldl (fun _ _ => ev_toGroup (Evolves.refl _)) _ (ev_setStrm h)

theorem ev_endFrame {k : Nat} {old new : MFrame} : Evolves r (s.endFrame k old new) :=
  ev_ite (ev_flushFrames (ev_setStrm h)) (ev_toGroup (ev_setStrm h))

theorem ev_rejectFrame {k : Nat} {f : MFrame} {modeChanged : Bool} : Evolves r (s.rejectFrame k f modeChanged) :=
  ev_ite (ev_dropAsks (ev_endFrame h)) (ev_setStrm (ev_dropAsks (ev_endFrame h)))

theorem ev_rejectAll {k : Nat} {modeChanged : Bool} : Evolves r (s.rejectAll k modeChanged) :=
  ev_foldl (fun _ _ => ev_rejectFrame (Evolves.refl _)) _ h

theorem ev_setReceiving {k : Nat} {f : MFrame} : Evolves r (s.setReceiving k f) := ev_setStrm h

theorem ev_endPulse {i : Nat} : Evolves r (s.endPulse i) := ev_emit (ev_with h)

end

section
/-! What Machine/SafeStop.lean defines. -/

variable {r s : State} (h : Evolves r s)
include h

theorem ev_setHdg {h' : Hedgerow} : Evolves r (s.setHdg h') := ev_with h

theorem ev_setVeh {v : Vehicle} : Evolves r (s.setVeh v) := ev_with h

theorem ev_setReeve {r' : Reeve} : Evolves r (s.setReeve r') := ev_with h

theorem ev_reeveFill : Evolves r s.reeveFill := ev_ite (ev_setVeh (ev_put h)) (ev_setVeh (ev_put h))

theorem ev_hdgFill {cmd : Nat} : Evolves r (s.hdgFill cmd) := ev_ite (ev_setVeh h) (ev_setVeh h)

theorem ev_hdgUpdate : Evolves r s.hdgUpdate :=
  have h1 := ev_setVeh (ev_ite (ev_setReg64 (ev_on (ev_put h))) (ev_put h))
  ev_ite h (ev_ite (ev_ite (ev_on h) h) (ev_ite (ev_hdgFill h1) h1))

theorem ev_heldCause {code : Nat} : Evolves r (s.heldCause code) := ev_ite (ev_put h) h

theorem ev_hdgSetMode {m : Nat} : Evolves r (s.hdgSetMode m) := ev_ite h (ev_hdgUpdate (ev_put (ev_ite (ev_bump (ev_off h)) (ev_ite (ev_off h) h))))

theorem ev_setMode {m : Nat} : Evolves r (s.setMode m) :=
  have h1 := ev_ite (ev_on (ev_put (ev_put h))) (ev_put (ev_put h))
  have h2 := ev_hdgSetMode (ev_ite (ev_on (ev_off h1)) h1)
  ev_ite (ev_setVeh h2) h2

theorem ev_hdgHeld {code : Nat} : Evolves r (s.hdgHeld code) := ev_hdgSetMode (ev_heldCause h)

theorem ev_execSafeStopQueue : outEvolves r (execSafeStopQueue s) := outEvolves_ite (ev_reeveFill h) h

theorem ev_execSafeStopPeriodic : outEvolves r (execSafeStopPeriodic s) := outEvolves_ite (ev_reeveFill h) h

theorem ev_setVerdict {v : Verdict} : Evolves r (s.setVerdict v) := ev_setReeve h

theorem ev_releaseVerdict {n : Word} : Evolves r (s.releaseVerdict n) :=
  ev_ite h (ev_ite (ev_setMode (ev_setReeve (ev_setVerdict h))) (ev_setVerdict h))

theorem ev_execPerceptionStatusSend {n : Word} : outEvolves r (execPerceptionStatusSend n s) :=
  outEvolves_ite h (ev_drawn (ev_setVeh (ev_ite (ev_bump h) h)))

end

section
/-! What Machine/QueueOps.lean defines. -/

variable {r s : State} (h : Evolves r s)
include h

theorem ev_setQm {q : Qm} : Evolves r (s.setQm q) := ev_with h

theorem ev_setQueue {q : Nat} {x : QueueSt} : Evolves r (s.setQueue q x) := ev_setQm h

theorem ev_qmViolation {code : Nat} {detail : List Byte} : Evolves r (s.qmViolation code detail) := ev_violation (ev_bump h)

theorem ev_qmReject {fn : Fn} : Evolves r (s.qmReject fn) := ev_on h

theorem ev_bankTry : Evolves r s.bankTry := ev_ite (ev_put h) (ev_on h)

theorem ev_bankAgain : Evolves r s.bankAgain := ev_ite (ev_bankTry (ev_off h)) h

theorem ev_joinPair {p : Nat} {j : QJob} {d : Desc} : Evolves r (s.joinPair p j d) := ev_ite h (ev_setQm h)

theorem ev_rejectJob {q pos code : Nat} {d : Option Desc} : Evolves r (s.rejectJob q pos code d) := ev_setQueue h

theorem ev_setDt {i : Nat} {e : DtEnt} : Evolves r (s.setDt i e) := ev_setQm h

theorem ev_freeDt {i : Nat} : Evolves r (s.freeDt i) := ev_setQm h

theorem ev_setBalance {k p : Nat} {b : Int} : Evolves r (s.setBalance k p b) := ev_ite (ev_maxReg (ev_setPartCtl h)) (ev_setPartCtl h)

theorem ev_settle {k : Nat} : Evolves r (s.settle k) := by
  unfold State.settle
  split
  · exact ev_ite (ev_setBalance (ev_setPartCtl h)) (ev_setPartCtl h)
  · exact h

theorem ev_occupy {k : Nat} : Evolves r (s.occupy k) := ev_setPartCtl h

theorem ev_vacate {k : Nat} : Evolves r (s.vacate k) := ev_setPartCtl (ev_settle h)

theorem ev_choose {k : Nat} {l : List Cand} : Evolves r (State.choose k l s).2 := by
  induction l generalizing s with
  | nil => exact h
  | cons c l ih => exact ev_ite_snd (ih (ev_bump h)) (ev_ite_snd h (ev_ite_snd (ih h) (ih (ev_bump (ev_with h)))))

theorem ev_pick {k : Nat} : Evolves r (s.pick k).2 := ev_choose h

end

section
/-! What Machine/SessOps.lean defines. -/

variable {r s : State} (h : Evolves r s)
include h

theorem ev_setSession {p : Nat} {x : Sess} : Evolves r (s.setSession p x) := ev_with h

theorem ev_failedOpen {p : Nat} : Evolves r (s.failedOpen p) :=
  have h1 := ev_ite (ev_put (ev_violation (ev_bump (ev_setSession h)))) (ev_violation (ev_bump (ev_setSession h)))
  ev_ite (ev_put h1) (ev_put (ev_put (ev_setSession h1)))

theorem ev_canRearm : Evolves r s.canRearm := ev_ite (ev_setVeh (ev_put (ev_off h))) h

theorem ev_stagingEnds : Evolves r s.stagingEnds := ev_with (ev_ite (ev_put (ev_put h)) h)

theorem ev_sessionReset {p : Nat} : Evolves r (s.sessionReset p) :=
  have h1 := ev_put (ev_setReg (ev_setReg64 (ev_setSession h)) _ _)
  have h2 := ev_ite (ev_stagingEnds h1) h1
  ev_ite (ev_canRearm h2) h2

theorem ev_sessionEnds {p : Nat} : Evolves r (s.sessionEnds p) := ev_sessionReset (ev_ite (ev_failedOpen h) h)

end

section
/-! What Machine/PartOps.lean defines. -/

variable {r s : State} (h : Evolves r s)
include h

theorem ev_freeSave {e : DtEnt} : Evolves r (s.freeSave e) := by
  unfold State.freeSave
  split
  · exact ev_setGrn h
  · exact h

theorem ev_dropPreempted {p : DtEnt → Bool} : Evolves r (s.dropPreempted p) :=
  ev_foldl (fun _ _ => ev_ite (ev_freeDt (ev_freeSave (Evolves.refl _))) (Evolves.refl _)) _ h

theorem ev_startReset {p : Nat} : Evolves r (s.startReset p) := by
  unfold State.startReset
  exact ev_dropPreempted (ev_with (ev_dropAsks (ev_on h)))

theorem ev_percGone {p : Nat} {gone : Bool} : Evolves r (s.percGone p gone) := ev_ite (ev_jobFault h) h

theorem ev_requestReset {p : Nat} {gone : Bool} : Evolves r (s.requestReset p gone) :=
  ev_ite (ev_percGone h) (ev_ite (ev_on (ev_setPartCtl (ev_percGone h))) (ev_startReset (ev_percGone h)))

theorem ev_startHeld : Evolves r s.startHeld := ev_foldl (fun _ _ => ev_startReset (Evolves.refl _)) _ (ev_setPartCtl h)

theorem ev_recovered {p : Nat} : Evolves r (s.recovered p) :=
  ev_ite (ev_ite (ev_startHeld (ev_partEvent (ev_setPartCtl h))) (ev_partEvent (ev_setPartCtl h))) h

theorem ev_clearEvents {p : Nat} : Evolves r (s.clearEvents p) := ev_foldl (fun _ _ => ev_setReg (Evolves.refl _) _ _) _ h

theorem ev_completeReset {p : Nat} : Evolves r (s.completeReset p) :=
  have h1 := ev_sessionEnds (ev_clearEvents (ev_setQm (ev_with (ev_foldl (fun _ _ => ev_releaseBufs (Evolves.refl _)) _ (ev_setQm h)))))
  have h2 := ev_off (ev_setPartCtl (ev_setPartCtl (ev_ite (ev_setReg (ev_setReg (ev_setReg h1 _ _) _ _) _ _) h1)))
  ev_ite h2 (ev_partEvent h2)

theorem ev_setSlot {k : Nat} {x : CtSlot} : Evolves r (s.setSlot k x) := ev_setQm h

theorem ev_rejectWaiting {q code : Nat} : Evolves r (s.rejectWaiting q code) := ev_setQueue h

theorem ev_requestExpired {k : Nat} : Evolves r (s.requestExpired k) := ev_bump (ev_rejectWaiting (ev_setSlot h))

theorem ev_dueExpiries {q : Nat} : Evolves r (s.dueExpiries q) :=
  ev_foldl (fun _ _ => ev_ite (ev_requestExpired (Evolves.refl _)) (Evolves.refl _)) _ h

theorem ev_releaseGate {q : Nat} {j : QJob} : Evolves r (s.releaseGate q j) := by
  unfold State.releaseGate
  split
  · exact ev_ite (ev_setSlot h) h
  · exact h

end

section
/-! What Machine/Queues.lean defines. -/

variable {r s : State} (h : Evolves r s)
include h

theorem ev_execSqDb {fn : Fn} {q : BitVec 16} {v : Word} : outEvolves r (execSqDb fn q v s) := by
  refine outEvolves_ite (ev_turnedAway h) (outEvolves_ite h (outEvolves_ite (ev_qmViolation h) (outEvolves_ite (ev_qmViolation h) ?_)))
  split
  · exact ev_qmViolation h
  · exact ev_setQueue h

theorem ev_execCqDb {fn : Fn} {q : BitVec 16} {v : Word} : outEvolves r (execCqDb fn q v s) :=
  outEvolves_ite (ev_turnedAway h)
    (outEvolves_ite h (outEvolves_ite (ev_qmViolation h) (outEvolves_ite (ev_qmViolation h) (outEvolves_ite (ev_qmViolation h) (ev_setQueue h)))))

theorem ev_execDescriptorFetch {q : BitVec 16} {ecc : Ecc} : outEvolves r (execDescriptorFetch q ecc s) := by
  obtain ⟨R, e, hR⟩ := ramRead_opaque
  unfold execDescriptorFetch
  rw [e]
  dsimp only
  split
  · refine outEvolves_ite h (outEvolves_ite (ev_jobFault h) (outEvolves_ite (ev_refused4301 h) ?_))
    split
    · next e => exact Evolves.of_snd e (ev_dramAsk h _ _ _)
    · next e =>
      have ht := Evolves.of_snd e (ev_dramAsk h _ _ _)
      split
      · next e' => exact Evolves.of_snd_snd e' (hR ht)
      · next e' =>
        have hu := Evolves.of_snd_snd e' (hR ht)
        split
        · exact ev_rejectJob hu
        · exact ev_setQueue (ev_joinPair hu)
  · exact h

theorem ev_execQueueEnable {fn : Fn} : outEvolves r (execQueueEnable fn s) :=
  outEvolves_ite (ev_turnedAway h) (outEvolves_ite h (outEvolves_ite (ev_setQueue h) (ev_qmReject h)))

theorem ev_execQueueDisable {fn : Fn} : outEvolves r (execQueueDisable fn s) :=
  outEvolves_ite (ev_turnedAway h) (outEvolves_ite h (ev_dropAsks (ev_setQueue h)))

theorem ev_execQueueResumeReplay {fn : Fn} : outEvolves r (execQueueResumeReplay fn s) :=
  outEvolves_ite (ev_turnedAway h) (outEvolves_ite h (outEvolves_ite (ev_dueExpiries (ev_setQueue h)) (ev_qmReject h)))

theorem ev_execQueueResumeSkip {fn : Fn} : outEvolves r (execQueueResumeSkip fn s) :=
  outEvolves_ite (ev_turnedAway h)
    (outEvolves_ite h (outEvolves_ite (ev_dueExpiries (ev_foldl (fun _ _ => ev_releaseGate (Evolves.refl _)) _ (ev_setQueue h))) (ev_qmReject h)))

theorem ev_argsDrawn {c : Cand} : Evolves r (s.argsDrawn c) := ev_ite (ev_drawnN h _) h

theorem ev_placeJob {k : CoreId} {c : Cand} : Evolves r (s.placeJob k c) := ev_occupy (ev_setCore (ev_setQueue (ev_setDt h)))

theorem ev_startJob {k : CoreId} {c : Cand} : Evolves r (s.startJob k c) := by
  refine ev_ite (ev_placeJob h) (ev_ite (ev_refused4301 h) ?_)
  split
  · next e => exact Evolves.of_snd e (ev_dramAsk h _ _ _)
  · next e => exact ev_placeJob (ev_ramWrite (ev_argsDrawn (Evolves.of_snd e (ev_dramAsk h _ _ _))))

theorem ev_rejectForgotten : Evolves r s.rejectForgotten := ev_foldl (fun _ _ => ev_ite (ev_rejectJob (Evolves.refl _)) (Evolves.refl _)) _ h

theorem ev_execJobDispatch {k : CoreId} : outEvolves r (execJobDispatch k s) := by
  refine outEvolves_ite (ev_foldl (fun _ _ => ev_rejectJob (Evolves.refl _)) _ h) (outEvolves_ite h ?_)
  dsimp only
  split
  · next e => exact outEvolves_ite (ev_rejectForgotten h) (ev_startJob (Evolves.of_snd e (ev_pick (ev_rejectForgotten h))))
  · next e => exact Evolves.of_snd e (ev_pick (ev_rejectForgotten h))

theorem ev_onPair {id : Nat} {frame : Word} {f : TwinPair → TwinPair} : Evolves r (s.onPair id frame f) := ev_setQm h

theorem ev_twinRetired {k id : Nat} {frame crc : Word} : Evolves r (s.twinRetired k id frame crc) := by
  unfold State.twinRetired
  dsimp only
  split
  · exact ev_ite (ev_setReeve (ev_onPair (ev_onPair h))) (ev_jobFault (ev_setReeve (ev_onPair (ev_onPair h))))
  · exact ev_setReeve (ev_onPair h)

theorem ev_execJobRetire {k : CoreId} : outEvolves r (execJobRetire k s) := by
  unfold execJobRetire
  dsimp only
  split
  · split
    · exact
        have h1 := ev_setQueue (ev_setReg (ev_setCore (ev_bumpBy (ev_releaseBufs (ev_vacate h)))) _ _)
        have h2 := ev_ite (ev_frameDone h1) h1
        outEvolves_ite h (outEvolves_ite h1 (ev_ite (ev_twinRetired h2) h2))
    · exact h
  · exact h

theorem ev_execReeveClearance {dt : BitVec 10} : outEvolves r (execReeveClearance dt s) := by
  unfold execReeveClearance
  split
  · split
    · exact outEvolves_ite h (outEvolves_ite (ev_bankAgain (ev_releaseVerdict (ev_setVerdict (ev_setQueue h)))) (ev_setQueue h))
    · exact h
  · exact h

theorem ev_coalesce {q : Nat} : Evolves r (s.coalesce q) := ev_ite h (ev_ite (ev_msix h) (ev_setQueue h))

theorem ev_writeRecord {q : Nat} {j : QJob} {r' : Rec} : Evolves r (s.writeRecord q j r') := by
  refine ev_ite (ev_recovered (ev_coalesce (ev_ite ?_ (ev_releaseGate ?_)))) (ev_coalesce (ev_ite ?_ (ev_releaseGate ?_)))
  all_goals
    split
    · exact ev_freeDt (ev_setQueue (ev_hostWrite h))
    · exact ev_setQueue (ev_hostWrite h)

theorem ev_execCompletionRecordWrite {q : BitVec 16} : outEvolves r (execCompletionRecordWrite q s) := by
  unfold execCompletionRecordWrite
  split
  · exact ev_writeRecord h
  · exact h

theorem ev_execCoalesceExpiry {q : BitVec 16} {elapsedUs : Nat} : outEvolves r (execCoalesceExpiry q elapsedUs s) :=
  outEvolves_ite (ev_msix (ev_setQueue h)) h

theorem ev_execJobDeadlineExpiry {q : BitVec 16} {pos elapsedUs : Nat} : outEvolves r (execJobDeadlineExpiry q pos elapsedUs s) := by
  unfold execJobDeadlineExpiry
  dsimp only
  split
  · split
    · refine outEvolves_ite h ?_
      split
      · exact ev_jobFault (ev_bump (ev_setQueue h))
      · exact ev_jobFault (ev_drawn (ev_bump (ev_setQueue h)))
    · exact h
  · exact h

end

section
/-! What Machine/Preempt.lean defines. -/

variable {r s : State} (h : Evolves r s)
include h

theorem ev_arrayCheck {k : CoreId} {l : List Nat} : Evolves r (State.arrayCheck s k l) := by
  induction l generalizing s with
  | nil => exact h
  | cons a l ih =>
    unfold State.arrayCheck
    dsimp only
    split
    · exact ev_checkFault (ev_bumpBy h)
    · exact ih (ev_bumpBy h)

theorem ev_drainAll {k : CoreId} {n : Nat} : Evolves r (State.drainAll k n s) := by
  induction n generalizing s with
  | zero => exact h
  | succ n ih => exact ev_ite h (ih (ev_drainOldest h))

theorem ev_takeSave {k buf : Nat} {job : CoreJob} : Evolves r (s.takeSave k buf job) := ev_fillDone h

theorem ev_execPreemptionRequest {k : CoreId} : outEvolves r (execPreemptionRequest k s) := by
  unfold execPreemptionRequest
  dsimp only
  split
  · refine outEvolves_ite h ?_
    split
    · exact ev_bump h
    · exact
        have h1 := ev_state (ev_execDrainComplete (ev_drainAll (ev_setCore (ev_takeSave h))))
        outEvolves_ite h1 (ev_arrayCheck h1)
  · exact h

theorem ev_execCoreSaveComplete {k : CoreId} {ns : Nat} : outEvolves r (execCoreSaveComplete k ns s) := by
  unfold execCoreSaveComplete
  dsimp only
  split
  · split
    · exact outEvolves_ite h (ev_put (ev_bump (ev_setCore (ev_setDt (ev_vacate (ev_dropCoreAsks (ev_bump (ev_grnWrite h))))))))
    · exact h
  · exact h

theorem ev_resumeFrom {k : CoreId} {i : Nat} {e : DtEnt} {x : Saved} : Evolves r (s.resumeFrom k i e x) := by
  unfold State.resumeFrom
  exact ev_ite (ev_jobFault h) (ev_ite (ev_jobFault h) (ev_occupy (ev_bump (ev_setDt (ev_setCore h)))))

theorem ev_execJobResume {k : CoreId} {errs : GrnErrs} : outEvolves r (execJobResume k errs s) := by
  refine outEvolves_ite h ?_
  split
  · next e =>
    have ht := Evolves.of_snd e (ev_pick (ev_rejectForgotten h))
    split
    · split
      · split
        · exact outEvolves_ite (ev_jobFault (ev_bump ht)) (ev_resumeFrom (ev_foldl (fun _ _ => ev_grnCorrected (Evolves.refl _)) _ ht))
        · exact h
      · exact h
    · exact h
  · exact h

end

section
/-! What Machine/Partitions.lean defines. -/

variable {r s : State} (h : Evolves r s)
include h

theorem ev_partReject : Evolves r s.partReject := ev_on h

theorem ev_partCtrlWrite {fn : Fn} {v : Word} : Evolves r (s.partCtrlWrite fn v) :=
  ev_ite h (ev_ite (ev_partReject h) (ev_ite (ev_on (ev_put h)) (ev_put h)))

theorem ev_execPartPercWrite {fn : Fn} {v : Word} : outEvolves r (execPartPercWrite fn v s) :=
  outEvolves_ite (ev_turnedAway h) (outEvolves_ite h (ev_partCtrlWrite h))

theorem ev_execPartLock {fn : Fn} {v : Word} : outEvolves r (execPartLock fn v s) :=
  outEvolves_ite (ev_turnedAway h) (outEvolves_ite (ev_partCtrlWrite h) h)

theorem ev_execPartResetWrite {fn : Fn} {v : Word} : outEvolves r (execPartResetWrite fn v s) :=
  outEvolves_ite (ev_turnedAway h)
    (outEvolves_ite h (outEvolves_ite (ev_partReject h) (ev_foldl (fun _ _ => ev_requestReset (Evolves.refl _)) _ h)))

theorem ev_execPartitionResetComplete {p : Sys2Proof.Part} : outEvolves r (execPartitionResetComplete p s) := outEvolves_ite (ev_completeReset h) h

theorem ev_execPartWinWrite {fn : Fn} {p : Sys2Proof.Part} {w : Fin 4} {v : Word} : outEvolves r (execPartWinWrite fn p w v s) :=
  outEvolves_ite (ev_turnedAway h) (outEvolves_ite h (outEvolves_ite (ev_partReject h) (outEvolves_ite (ev_partReject h) (ev_setReg h _ _))))

theorem ev_execDramRegulatorWrite {fn : Fn} {p : Option Sys2Proof.Part} {v : Word} : outEvolves r (execDramRegulatorWrite fn p v s) := by
  refine outEvolves_ite (ev_turnedAway h) (outEvolves_ite h ?_)
  split
  · exact outEvolves_ite (ev_partReject h) (ev_setReg h _ _)
  · exact outEvolves_ite (ev_partReject h) (ev_setReg h _ _)

theorem ev_execRegulatorPeriod : outEvolves r (execRegulatorPeriod s) := ev_setPartCtl h

theorem ev_execGranaryBalanceRefill : outEvolves r (execGranaryBalanceRefill s) :=
  ev_foldl (fun _ _ => ev_foldl (fun _ _ => ev_setBalance (Evolves.refl _)) _ (ev_settle (Evolves.refl _))) _ h

theorem ev_announce {p code jobs : Nat} {frame : Word} : Evolves r (s.announce p code jobs frame) :=
  ev_msix (ev_on (ev_setReg (ev_setReg (ev_setReg h _ _) _ _) _ _))

theorem ev_execJobLostAnnounce : outEvolves r (execJobLostAnnounce s) := by
  unfold execJobLostAnnounce
  dsimp only
  split
  · exact h
  · exact ev_foldl (fun _ _ => ev_announce (Evolves.refl _)) _ (ev_setPartCtl h)
  · exact ev_foldl (fun _ _ => ev_announce (Evolves.refl _)) _ (ev_drawn (ev_setPartCtl h))

theorem ev_execMsixSend {fn : Fn} {vector : BitVec 7} : outEvolves r (execMsixSend fn vector s) := outEvolves_ite (ev_emit (ev_off h)) h

theorem ev_execPoolDisable {fn : Fn} {v : Word} : outEvolves r (execPoolDisable fn v s) :=
  outEvolves_ite (ev_turnedAway h)
    (outEvolves_ite h (outEvolves_ite (ev_on h) (ev_foldl (fun _ _ => ev_poolReset (Evolves.refl _)) _ (ev_setReg h _ _))))

theorem ev_execBackgroundParityCheck {what : Upheld} : outEvolves r (execBackgroundParityCheck what s) := by
  unfold execBackgroundParityCheck
  split
  · exact ev_jobFault h
  · exact ev_jobFault h
  · exact ev_jobFault h
  · exact ev_jobFault h
  · exact ev_jobFault (ev_setSlot h)

end

section
/-! What Machine/KlyOps.lean defines. -/

variable {r s : State} (h : Evolves r s)
include h

theorem ev_setKly {k : Kelyth} : Evolves r (s.setKly k) := ev_with h

theorem ev_setKport {i : Nat} {p : KPort} : Evolves r (s.setKport i p) := ev_setKly h

theorem ev_setKline {i : Nat} {l : KLine} : Evolves r (s.setKline i l) := ev_setKly h

theorem ev_klyHold {i : Nat} : Evolves r (s.klyHold i) := ev_ite (ev_setKport h) h

theorem ev_attempt {i m : Nat} : Evolves r (s.attempt i m) := ev_klyHold (ev_setKline (ev_setKport (ev_put (ev_put (ev_ite (ev_off h) h)))))

theorem ev_retrain {i : Nat} : Evolves r (s.retrain i) := ev_attempt (ev_bump (ev_put h))

theorem ev_stepDown {i : Nat} : Evolves r (s.stepDown i) := ev_ite h (ev_report (ev_retrain (ev_bumpFld (ev_setKport h))))

theorem ev_klyViolation {i : Nat} {f : KFrame} : Evolves r (s.klyViolation i f) := ev_violation (ev_bump h)

theorem ev_assigned {rs : List Nat} {i : Nat} : Evolves r (s.assigned rs i) := ev_ite (ev_setKly h) h

theorem ev_sendOwn {rs : List Nat} {f : KFrame} : Evolves r (s.sendOwn rs f) := by
  unfold State.sendOwn
  split
  · exact ev_klyHold (ev_setKport (ev_assigned h))
  · exact h

theorem ev_sendRack {f : KFrame} : Evolves r (s.sendRack f) := by
  unfold State.sendRack
  dsimp only
  split
  · exact ev_klyHold (ev_setKport (ev_assigned h))
  · exact h

theorem ev_forward {i : Nat} {f : KFrame} : Evolves r (s.forward i f) := ev_ite (ev_klyViolation h) (ev_ite h (ev_klyHold (ev_setKport (ev_bump h))))

theorem ev_setFiring {t : Nat} {f : Firing} : Evolves r (s.setFiring t f) := ev_setKly h

theorem ev_ceFault {code t : Nat} : Evolves r (s.ceFault code t) := ev_jobFault (ev_setReg h _ _)

theorem ev_cntMoved {c : Nat} : Evolves r (s.cntMoved c) := ev_setKly h

theorem ev_cntAdd {c n t : Nat} : Evolves r (s.cntAdd c n t) := ev_ite (ev_cntMoved (ev_setReg64 h)) (ev_ceFault h)

theorem ev_cntStep {c p t : Nat} : Evolves r (s.cntStep c p t) := ev_ite (ev_cntAdd h) (ev_ceFault h)

theorem ev_stageWrite {off : Nat} {bs : List Byte} : Evolves r (s.stageWrite off bs) := ev_setKly h

theorem ev_ceRead {t p : Nat} {ceb : Bool} {a n : Nat} {ecc : Ecc} : Evolves r (s.ceRead t p ceb a n ecc).2 := by
  refine ev_ite_snd (ev_ite_snd (ev_refused4301 h) ?_) (ev_ite_snd (ev_refused4301 h) ?_)
  · split
    · exact ev_ceFault h
    · exact ev_bump h
    · exact h
  · split
    · next e => exact Evolves.of_snd_snd e (ev_ramRead h)
    · next e => exact Evolves.of_snd_snd e (ev_ramRead h)

theorem ev_ceWrite {p : Nat} {ceb : Bool} {a : Nat} {bs : List Byte} : Evolves r (s.ceWrite p ceb a bs).2 :=
  ev_ite_snd (ev_ite_snd (ev_stageWrite h) h) (ev_ite_snd (ev_ramWrite h) h)

theorem ev_endFiring {t : Nat} : Evolves r (s.endFiring t) :=
  ev_ite (ev_setReg (ev_setKly (ev_dropAsks h)) _ _) (ev_off (ev_setReg (ev_setKly (ev_dropAsks h)) _ _))

theorem ev_dropOwn {id : Nat} : Evolves r (s.dropOwn id) := ev_setKly h

theorem ev_linkFailed {t code : Nat} : Evolves r (s.linkFailed t code) := ev_ceFault (ev_endFiring (ev_dropOwn h))

theorem ev_klyDown {i st : Nat} {queued : Bool} : Evolves r (s.klyDown i st queued) :=
  ev_dropAsks (ev_setKport (ev_foldl (fun _ _ => ev_linkFailed (Evolves.refl _)) _ (ev_off (ev_put h))))

theorem ev_ceFence : Evolves r s.ceFence := ev_setKly (ev_on h)

theorem ev_ceRestart : Evolves r s.ceRestart :=
  ev_setKly (ev_dropAsks (ev_foldl (fun _ _ => ev_setReg (Evolves.refl _) _ _) _ (ev_foldl (fun _ _ => ev_setReg64 (Evolves.refl _)) _ (ev_off h))))

theorem ev_sendAborts {count : Nat} {frame : Word} {held : Bool} : Evolves r (s.sendAborts count frame held) :=
  ev_foldl (fun _ _ => ev_klyHold (ev_setKport (Evolves.refl _))) _ (ev_setKly h)

end

section
/-! What Machine/Clocks.lean defines. -/

variable {r s : State} (h : Evolves r s)
include h

theorem ev_setPower {p : Power} : Evolves r (s.setPower p) := ev_with h

theorem ev_setBoot {b : Boot} : Evolves r (s.setBoot b) := ev_with h

theorem ev_setE {i e : Nat} : Evolves r (s.setE i e) := ev_put (ev_put (ev_put (ev_put h)))

theorem ev_settleE {i : Nat} : Evolves r (s.settleE i) := ev_ite h (ev_ite (ev_setE h) (ev_ite h (ev_setE h)))

theorem ev_settleCe : Evolves r s.settleCe := ev_put h

theorem ev_settleAll : Evolves r s.settleAll := ev_settleCe (ev_foldl (fun _ _ => ev_settleE (Evolves.refl _)) _ h)

theorem ev_setTherm {i : Nat} {x : Therm} : Evolves r (s.setTherm i x) := ev_setPower h

theorem ev_setPaused {i : Nat} {b : Bool} : Evolves r (s.setPaused i b) := ev_foldl (fun _ _ => ev_put (Evolves.refl _)) _ h

theorem ev_endPause {i : Nat} : Evolves r (s.endPause i) := ev_ite (ev_settleE (ev_setTherm (ev_put (ev_put (ev_setPaused h))))) h

theorem ev_freezeClocks : Evolves r s.freezeClocks := ev_foldl (fun _ _ => ev_setE (ev_endPause (Evolves.refl _))) _ h

end

section
/-! What Machine/Wake.lean defines. -/

variable {r s : State} (h : Evolves r s)
include h

theorem ev_wakeStart : Evolves r s.wakeStart := ev_setBoot (ev_setPower (ev_foldl (fun _ _ => ev_put (Evolves.refl _)) _ (ev_put h)))

theorem ev_wakeAsked : Evolves r s.wakeAsked := ev_ite (ev_setPower h) (ev_ite (ev_wakeStart h) h)

end

section
/-! What Machine/Kelyth.lean defines. -/

variable {r s : State} (h : Evolves r s)
include h

theorem ev_klyTrainFirst {i : Nat} : Evolves r (s.klyTrainFirst i) := ev_put (ev_put (ev_off (ev_put (ev_setKport h))))

theorem ev_klyCtrlWrite {fn : Fn} {i : Nat} {v : Word} : Evolves r (s.klyCtrlWrite fn i v) :=
  ev_ite h (ev_ite (ev_on h) (ev_ite (ev_klyTrainFirst (ev_setReg h _ _)) (ev_ite (ev_klyDown (ev_setReg h _ _)) (ev_setReg h _ _))))

theorem ev_execKlyPortEnable {fn : Fn} {i : Fin 4} {v : Word} : outEvolves r (execKlyPortEnable fn i v s) :=
  outEvolves_ite (ev_turnedAway h) (outEvolves_ite (ev_klyCtrlWrite h) h)

theorem ev_execKlyPortDisable {fn : Fn} {i : Fin 4} {v : Word} : outEvolves r (execKlyPortDisable fn i v s) :=
  outEvolves_ite (ev_turnedAway h) (outEvolves_ite (ev_klyCtrlWrite h) h)

theorem ev_execKlyPllChannelLock {i : Fin 4} : outEvolves r (execKlyPllChannelLock i s) := by
  refine outEvolves_ite (ev_setKport (ev_bump (ev_on ?_))) h
  split
  · exact ev_put h
  · exact h

theorem ev_execKlyTrainAttemptTimeout {i : Fin 4} {elapsedMs : Nat} : outEvolves r (execKlyTrainAttemptTimeout i elapsedMs s) :=
  outEvolves_ite (ev_attempt h) h

theorem ev_execKlyTrainingLimit {i : Fin 4} {elapsedMs : Nat} : outEvolves r (execKlyTrainingLimit i elapsedMs s) :=
  outEvolves_ite (ev_report (ev_klyDown h)) h

theorem ev_execKlyTrainingPass {i : Fin 4} : outEvolves r (execKlyTrainingPass i s) := outEvolves_ite (ev_setKport (ev_put (ev_put h))) h

theorem ev_klyCrcFail {i : Nat} {bs : List Byte} : Evolves r (s.klyCrcFail i bs) :=
  ev_ite (ev_stepDown (ev_setKport (ev_violation (ev_bump h)))) (ev_setKport (ev_violation (ev_bump h)))

theorem ev_klyNaked {i : Nat} {f : KFrame} : Evolves r (s.klyNaked i f) := ev_setKport (ev_klyViolation h)

theorem ev_klyReceive {i : Nat} {bs : List Byte} {mine : Nat → Bool} {f : State → KFrame → State} (hf : ∀ s fr, Evolves s (f s fr)) :
    outEvolves r (s.klyReceive i bs mine f) := by
  refine outEvolves_ite h ?_
  split
  · exact ev_klyCrcFail h
  · exact outEvolves_ite h (outEvolves_ite (ev_klyNaked h) ((ev_with h).trans (hf _ _)))

theorem ev_klyInOrder {i : Nat} {f : KFrame} {k : State → State} (hk : ∀ s, Evolves s (k s)) : Evolves r (s.klyInOrder i f k) :=
  ev_ite (Evolves.trans (ev_with h) (hk _)) (ev_ite (ev_klyNaked h) h)

theorem ev_klyEmptied {i n : Nat} : Evolves r (s.klyEmptied i n) := ev_setKport h

theorem ev_setTracker {f : KFrame} {t : Option Tracker} : Evolves r (s.setTracker f t) := ev_setKly h

theorem ev_klyDeliver {i : Nat} {f : KFrame} : Evolves r (s.klyDeliver i f) := by
  unfold State.klyDeliver
  exact
    have h1 := ev_klyEmptied (ev_ite (ev_ite_snd h (ev_ceWrite h)) (ev_klyViolation h))
    have h2 := ev_setTracker h1
    ev_ite (ev_setTracker h1) (ev_sendRack (ev_ite (ev_cntStep h2) h2))

theorem ev_rxTake {i : Nat} {f : KFrame} : Evolves r (s.rxTake i f) := ev_klyDeliver (ev_ite h (ev_dramTake h _ _ _))

theorem ev_rxTry {i : Nat} {t : State} (ht : s.rxTry i = some t) : Evolves r t := by
  unfold State.rxTry at ht
  split at ht
  · split at ht
    · cases ht; exact ev_rxTake (ev_with h)
    · cases ht
  · cases ht

theorem ev_rxHold : Evolves r s.rxHold := by
  refine ev_foldl (fun _ _ => ?_) _ h
  split
  · exact ev_dramWait (Evolves.refl _) _ _ _
  · exact Evolves.refl _

theorem ev_rxDrain {n : Nat} : Evolves r (State.rxDrain n s) := by
  induction n generalizing s with
  | zero => exact ev_rxHold h
  | succ n ih =>
    unfold State.rxDrain
    split
    · next t e =>
      obtain ⟨i, -, hi⟩ := List.exists_of_findSome?_eq_some e
      exact ih (ev_rxTry h hi)
    · exact ev_rxHold h

theorem ev_klyData {i : Nat} {f : KFrame} : Evolves r (s.klyData i f) :=
  have h1 := ev_setReg64 (ev_setKport h)
  ev_ite (ev_klyEmptied (ev_bump h1))
    (ev_ite (ev_klyEmptied (ev_klyViolation h1))
      (ev_ite (ev_klyEmptied (ev_forward h1)) (ev_ite (ev_rxDrain (ev_rxTake h1)) (ev_rxHold (ev_setKport h1)))))

theorem ev_execKlyDataFrame {i : Fin 4} {bytes : List Byte} : outEvolves r (execKlyDataFrame i bytes s) :=
  ev_klyReceive h (fun _ _ => ev_ite (ev_klyNaked (Evolves.refl _)) (ev_klyInOrder (Evolves.refl _) (fun _ => ev_klyData (Evolves.refl _))))

theorem ev_klyRacked {i : Nat} {f : KFrame} : Evolves r (s.klyRacked i f) := by
  unfold State.klyRacked
  dsimp only
  split
  · exact ev_ite (ev_ite (ev_ceFault (ev_setFiring h)) (ev_setFiring h)) (ev_klyViolation h)
  · exact ev_klyViolation h

theorem ev_execKlyRack {i : Fin 4} {bytes : List Byte} : outEvolves r (execKlyRack i bytes s) :=
  ev_klyReceive h
    (fun _ _ => ev_klyInOrder (Evolves.refl _)
        (fun _ => ev_ite (ev_bump (Evolves.refl _)) (ev_ite (ev_forward (Evolves.refl _)) (ev_klyRacked (Evolves.refl _)))))

theorem ev_execKlyAck {i : Fin 4} {bytes : List Byte} : outEvolves r (execKlyAck i bytes s) := by
  refine ev_klyReceive h (fun _ _ => ?_)
  dsimp only
  split
  · exact ev_ite (ev_klyViolation (Evolves.refl _)) (ev_setKport (Evolves.refl _))
  · exact ev_klyViolation (Evolves.refl _)

theorem ev_execKlyNak {i : Fin 4} {bytes : List Byte} : outEvolves r (execKlyNak i bytes s) := by
  refine ev_klyReceive h (fun _ _ => ?_)
  dsimp only
  split
  · exact ev_ite (ev_klyViolation (Evolves.refl _)) (ev_setKport (Evolves.refl _))
  · exact ev_klyViolation (Evolves.refl _)

theorem ev_execKlyCredit {i : Fin 4} {bytes : List Byte} : outEvolves r (execKlyCredit i bytes s) := ev_klyReceive h (fun _ _ => Evolves.refl _)

theorem ev_abortFrameIn {n : Word} : Evolves r (s.abortFrameIn n) := by
  unfold State.abortFrameIn
  split
  · exact ev_with h
  · exact ev_setKly h

theorem ev_execKlyAbort {i : Fin 4} {bytes : List Byte} : outEvolves r (execKlyAbort i bytes s) :=
  ev_klyReceive h
    (fun _ _ => ev_klyInOrder (Evolves.refl _)
        (fun _ => ev_ite (ev_bump (Evolves.refl _))
            (ev_jobFault
              (ev_abortFrameIn
                (ev_ite (ev_setKly (ev_ite (ev_forward (ev_setKly (ev_bump (Evolves.refl _)))) (ev_setKly (ev_bump (Evolves.refl _)))))
                  (ev_ite (ev_forward (ev_setKly (ev_bump (Evolves.refl _)))) (ev_setKly (ev_bump (Evolves.refl _)))))))))

theorem ev_klyTrained {i : Nat} {f : KFrame} : Evolves r (s.klyTrained i f) :=
  have h1 := ev_put (ev_put (ev_setKport h))
  ev_ite (ev_ite (ev_retrain h1) h1) (ev_ite (ev_setKport (ev_attempt h1)) h1)

theorem ev_execKlyTrainFrame {i : Fin 4} {bytes : List Byte} : outEvolves r (execKlyTrainFrame i bytes s) :=
  ev_klyReceive h
    (fun _ _ => ev_ite (ev_violation (ev_klyDown (Evolves.refl _)))
        (ev_ite (ev_violation (ev_klyDown (Evolves.refl _))) (ev_klyTrained (Evolves.refl _))))

theorem ev_klyEmit {i : Nat} {f : KFrame} : Evolves r (s.klyEmit i f) := ev_setKline (ev_emit (ev_emit h))

theorem ev_klyCharge {i : Nat} {f : KFrame} : Evolves r (s.klyCharge i f) := ev_ite h (ev_setRegSt h)

theorem ev_klySend {i q : Nat} {f : KFrame} : Evolves r (s.klySend i q f) :=
  have h1 := ev_setReg64 (ev_setKport (ev_klyCharge h))
  ev_klyEmit (ev_ite (ev_bump h1) h1)

theorem ev_klyWaits {i q : Nat} {f : KFrame} : Evolves r (s.klyWaits i q f) :=
  ev_ite (ev_ite h (ev_setKport (ev_bump h))) (ev_ite h (ev_setKport (ev_bump h)))

theorem ev_klyNew {i : Nat} : Evolves r (s.klyNew i) := by
  unfold State.klyNew
  dsimp only
  split
  · exact ev_ite (ev_klySend (ev_setKport h)) (ev_klyWaits h)
  · refine ev_ite (ev_klySend (ev_setKport h)) ?_
    split
    · exact ev_ite (ev_klySend (ev_setKport (ev_klyWaits h))) (ev_klyWaits (ev_klyWaits h))
    · exact ev_klyWaits h
  · exact ev_ite (ev_klySend (ev_setKport h)) (ev_klyWaits h)
  · exact h

theorem ev_klyResend {i j : Nat} {ecc : Ecc} {headerOk : Bool} : Evolves r (s.klyResend i j ecc headerOk) := by
  unfold State.klyResend
  dsimp only
  split
  · exact
      have h1 := ev_klyEmit (ev_bump (ev_setKport (ev_ite (ev_bump h) h)))
      ev_ite (ev_ceFault h) (ev_ite (ev_ceFault h) (ev_ite (ev_stepDown h1) h1))
  · exact ev_setKport h

theorem ev_execKlyFrameTransmit {i : Fin 4} {ecc : Ecc} {headerOk : Bool} : outEvolves r (execKlyFrameTransmit i ecc headerOk s) := by
  refine outEvolves_ite h
    (outEvolves_ite (ev_klyEmit h)
      (outEvolves_ite h
        (outEvolves_ite (ev_klyEmit (ev_setKport h)) (outEvolves_ite (ev_klyEmit (ev_setKport h)) (outEvolves_ite (ev_klyEmit (ev_setKport h)) ?_)))))
  split
  · exact ev_klyResend h
  · exact ev_klyNew h

theorem ev_execKlyReplayTimeout {i : Fin 4} {elapsedUs : Nat} : outEvolves r (execKlyReplayTimeout i elapsedUs s) := outEvolves_ite (ev_setKport h) h

theorem ev_execKlyLinkNotReady {i : Fin 4} {elapsedUs : Nat} : outEvolves r (execKlyLinkNotReady i elapsedUs s) :=
  outEvolves_ite (ev_foldl (fun _ _ => ev_linkFailed (Evolves.refl _)) _ h) h

end

section
/-! What Machine/Collective.lean defines. -/

variable {r s : State} (h : Evolves r s)
include h

theorem ev_execCounterWindowWrite : outEvolves r (execCounterWindowWrite s) := by
  unfold execCounterWindowWrite
  split
  · exact outEvolves_ite (ev_ceFault (ev_with h)) (outEvolves_ite (ev_refused4301 (ev_with h)) (ev_cntAdd (ev_with h)))
  · exact h

theorem ev_trigReject {t : Nat} : Evolves r (s.trigReject t) := ev_ite (ev_on h) (ev_on h)

theorem ev_execTriggerDescriptorWrite {fn : Fn} {t : TrigId} {w : Fin 16} {v : Word} : outEvolves r (execTriggerDescriptorWrite fn t w v s) :=
  outEvolves_ite (ev_turnedAway h)
    (outEvolves_ite h
      (outEvolves_ite (ev_trigReject h)
        (outEvolves_ite (outEvolves_ite (ev_setKly (ev_setReg h _ _)) (ev_trigReject h))
          (outEvolves_ite h (outEvolves_ite (outEvolves_ite (ev_trigReject h) (ev_setKly (ev_setReg (ev_setReg h _ _) _ _))) (ev_setReg h _ _))))))

theorem ev_execTriggeredOpFire {t : TrigId} {parityOk : Bool} : outEvolves r (execTriggeredOpFire t parityOk s) :=
  outEvolves_ite h (outEvolves_ite (ev_ceFault h) (outEvolves_ite (ev_setKly h) h))

theorem ev_firedTo {t : Nat} {waits : List Nat} : Evolves r (s.firedTo t waits) := ev_setFiring h

theorem ev_firingFails {t : Nat} : Evolves r (s.firingFails t) := ev_setFiring h

theorem ev_localMessage {t dst : Nat} {bs : List Byte} : Evolves r (s.localMessage t dst bs).2 := by
  unfold State.localMessage
  dsimp only
  split
  · next t e => exact ev_ite (ev_cntStep (Evolves.of_snd e (ev_ceWrite h))) (Evolves.of_snd e (ev_ceWrite h))
  · next t e => exact ev_ceFault (Evolves.of_snd e (ev_ceWrite h))

theorem ev_sendMessage {t dev dst : Nat} {bs : List Byte} : Evolves r (s.sendMessage t dev dst bs).2 :=
  ev_ite_snd (ev_localMessage h) (ev_ite_snd (ev_linkFailed h) (ev_foldl (fun _ _ => ev_sendOwn (Evolves.refl _)) _ h))

theorem ev_firingAsk {t lines : Nat} : Evolves r (s.firingAsk t lines).2 := ev_ite_snd h (ev_dramAsk h _ _ _)

theorem ev_execPut {t : TrigId} {ecc : Ecc} : outEvolves r (execPut t ecc s) := by
  refine outEvolves_ite h ?_
  split
  · next e => exact Evolves.of_snd e (ev_firingAsk h)
  · next e =>
    have ht := Evolves.of_snd e (ev_firingAsk h)
    split
    · next e' => exact ev_firingFails (Evolves.of_snd e' (ev_ceRead ht))
    · next e' =>
      have hu := Evolves.of_snd e' (ev_ceRead ht)
      split
      · next e'' => exact ev_firedTo (Evolves.of_snd e'' (ev_sendMessage hu))
      · next e'' =>
        have hv := Evolves.of_snd e'' (ev_sendMessage hu)
        exact outEvolves_ite (ev_firingFails hv) hv

theorem ev_contributions {t : Nat} {d : Trig} {ecc : Ecc} {n i : Nat} : Evolves r (s.contributions t d ecc n i).2 := by
  induction n generalizing s i with
  | zero => exact h
  | succ n ih =>
    unfold State.contributions
    split
    · next t e => exact Evolves.of_snd e (ev_ceRead h)
    · next t e =>
      have ht := Evolves.of_snd e (ev_ceRead h)
      split
      · next t' e' => exact Evolves.of_snd e' (ih ht)
      · next t' e' => exact Evolves.of_snd e' (ih ht)

theorem ev_execReduce {t : TrigId} {ecc : Ecc} : outEvolves r (execReduce t ecc s) := by
  refine outEvolves_ite h ?_
  split
  · next e => exact Evolves.of_snd e (ev_firingAsk h)
  · next e =>
    have ht := Evolves.of_snd e (ev_firingAsk h)
    split
    · next e' => exact ev_firingFails (Evolves.of_snd e' (ev_contributions ht))
    · next e' =>
      have hu := Evolves.of_snd e' (ev_contributions ht)
      dsimp only
      split
      · next e'' => exact ev_firedTo (Evolves.of_snd e'' (ev_ceWrite (ev_ite hu (ev_drawn hu))))
      · next e'' => exact ev_firingFails (ev_refused4301 (Evolves.of_snd e'' (ev_ceWrite (ev_ite hu (ev_drawn hu)))))

theorem ev_exchangeOne {t dev : Nat} {entry : List Byte} {ecc : Ecc} : Evolves r (s.exchangeOne t dev entry ecc).2 := by
  unfold State.exchangeOne
  dsimp only
  split
  · next u e => exact ev_with (Evolves.of_snd e (ev_ite_snd h (ev_ceRead h)))
  · next u e =>
    have hu : Evolves r u := Evolves.of_snd e (ev_ite_snd h (ev_ceRead h))
    exact ev_sendMessage (ev_ite hu (ev_ite (ev_ceFault (ev_bumpBy hu)) (ev_with (ev_bumpBy hu))))

theorem ev_exchangeAll {t : Nat} {table : List Byte} {ecc : Ecc} {l : List Nat} : Evolves r (State.exchangeAll t table ecc l s).2 := by
  induction l generalizing s with
  | nil => exact h
  | cons dev l ih =>
    unfold State.exchangeAll
    split
    · next t e => exact ih (Evolves.of_snd e (ev_exchangeOne h))
    · next t e => exact Evolves.of_snd e (ev_exchangeOne h)

theorem ev_execExchange {t : TrigId} {ecc : Ecc} : outEvolves r (execExchange t ecc s) := by
  refine outEvolves_ite h ?_
  split
  · next e => exact Evolves.of_snd e (ev_firingAsk h)
  · next e =>
    have ht := Evolves.of_snd e (ev_firingAsk h)
    split
    · next e' => exact ev_firingFails (Evolves.of_snd e' (ev_ceRead ht))
    · next e' =>
      have hu := Evolves.of_snd e' (ev_ceRead ht)
      dsimp only
      split
      · next e'' => exact ev_firedTo (Evolves.of_snd e'' (ev_exchangeAll hu))
      · next e'' =>
        have hv := Evolves.of_snd e'' (ev_exchangeAll hu)
        exact outEvolves_ite (ev_firingFails hv) hv

theorem ev_execFlag {t : TrigId} : outEvolves r (execFlag t s) := by
  refine outEvolves_ite h ?_
  split
  · next e => exact Evolves.of_snd e (ev_firingAsk h)
  · next e =>
    have ht := Evolves.of_snd e (ev_firingAsk h)
    split
    · next e' => exact ev_firedTo (Evolves.of_snd e' (ev_ceWrite ht))
    · next e' => exact ev_firingFails (ev_refused4301 (Evolves.of_snd e' (ev_ceWrite ht)))

theorem ev_execDoorbell {t : TrigId} : outEvolves r (execDoorbell t s) := by
  refine outEvolves_ite h (outEvolves_ite (ev_firedTo h) ?_)
  dsimp only
  split
  · exact ev_firingFails (ev_ceFault (ev_qmViolation h))
  · exact ev_firedTo (ev_setQueue h)

theorem ev_execFiringComplete {t : TrigId} : outEvolves r (execFiringComplete t s) := by
  unfold execFiringComplete
  dsimp only
  split
  · exact
      have h1 := ev_ite (ev_bump (ev_endFiring h)) (ev_endFiring h)
      outEvolves_ite (ev_ite (ev_cntStep h1) h1) h
  · exact h

theorem ev_execFiringTimeout {t : TrigId} {elapsedUs : Nat} : outEvolves r (execFiringTimeout t elapsedUs s) :=
  outEvolves_ite (ev_ceFault (ev_bump (ev_setKly h))) h

end

section
/-! What Machine/Sieve.lean defines. -/

variable {r s : State} (h : Evolves r s)
include h

theorem ev_rebindLists {k : Nat} : Evolves r (s.rebindLists k) := ev_setStrm h

theorem ev_listInForce {k : Nat} : Evolves r (s.listInForce k) := by
  unfold State.listInForce
  dsimp only
  split
  · refine ev_put (ev_ite (ev_rebindLists (ev_setStrm h)) ?_)
    split
    · exact ev_setReceiving (ev_setStrm h)
    · exact ev_setStrm h
  · refine ev_ite (ev_rebindLists (ev_setStrm h)) ?_
    split
    · exact ev_setReceiving (ev_setStrm h)
    · exact ev_setStrm h

theorem ev_listTake {k : Nat} {l : RegionList} : Evolves r (s.listTake k l) := ev_ite h (ev_put (ev_put (ev_setStrm h)))

theorem ev_listRejected {k : Nat} {bs : List Byte} : Evolves r (s.listRejected k bs) := ev_strmViol (ev_bump h)

theorem ev_listRead {k : Nat} {bs : List Byte} {poisoned : Bool} : Evolves r (s.listRead k bs poisoned) := by
  unfold State.listRead
  split
  · exact ev_listInForce (ev_listTake h)
  · exact ev_listInForce (ev_listRejected h)

theorem ev_execSieveListRead {k : Fin 16} {parity : Bool} : outEvolves r (execSieveListRead k parity s) := by
  refine outEvolves_ite h
    (outEvolves_ite (ev_jobFault h) (outEvolves_ite (ev_listInForce (ev_refused4301 h)) (outEvolves_ite (ev_listInForce (ev_refused4301 h)) ?_)))
  split
  · next e => exact Evolves.of_snd e (ev_dramAsk h _ _ _)
  · next e => exact ev_listRead (ev_ramRead (Evolves.of_snd e (ev_dramAsk h _ _ _)))

theorem ev_cameraOutputs {k slot : Nat} {old f : MFrame} {pic : Picture} {count : State → State} (hc : ∀ s, Evolves s (count s)) :
    Evolves r (s.cameraOutputs k old f slot pic count) :=
  ev_slotWritten h fun s => ev_endFrame (ev_bumpBy (hc s))

theorem ev_beyondLimit {k slot : Nat} {old f : MFrame} {count : State → State} (hc : ∀ s, Evolves s (count s)) :
    Evolves r (s.beyondLimit k old f slot count) :=
  ev_slotWritten h fun s => ev_endFrame (ev_strmViol (hc s))

theorem ev_completeCamera {k : Nat} {f : MFrame} : Evolves r (s.completeCamera k f) := by
  unfold State.completeCamera
  split
  · exact ev_endFrame h
  · exact ev_ite (ev_beyondLimit h (fun _ => ev_bumpBy (Evolves.refl _))) (ev_cameraOutputs h (fun _ => ev_bumpBy (Evolves.refl _)))

theorem ev_completeJpeg {k : Nat} {f : MFrame} : Evolves r (s.completeJpeg k f) := by
  unfold State.completeJpeg
  split
  · exact ev_endFrame h
  · split
    · exact ev_rejectFrame (ev_strmViol h)
    · exact ev_ite (ev_beyondLimit h (fun _ => ev_bumpBy (ev_foldl (fun _ _ => ev_strmViol (Evolves.refl _)) _ (Evolves.refl _))))
        (ev_cameraOutputs h (fun _ => ev_bumpBy (ev_foldl (fun _ _ => ev_strmViol (Evolves.refl _)) _ (Evolves.refl _))))

theorem ev_tryComplete {k : Nat} {f : MFrame} : Evolves r (s.tryComplete k f) := ev_ite h (ev_ite (ev_completeJpeg h) (ev_completeCamera h))

theorem ev_decodeNext {k : Nat} {f : MFrame} {l : CamLine} : Evolves r (s.decodeNext k f l).1 :=
  ev_ite_fst h (ev_ite_fst h (ev_ite_fst (ev_strmViol h) h))

theorem ev_execDecodeLine {k : Fin 16} {ecc : Ecc} {parity : Bool} : outEvolves r (execDecodeLine k ecc parity s) := by
  unfold execDecodeLine
  dsimp only
  split
  · exact h
  · refine outEvolves_ite h (outEvolves_ite (ev_jobFault h) ?_)
    split
    · exact ev_tryComplete (ev_setStrm (ev_decodeNext (ev_with (ev_millBuffer h))))
    · exact ev_with (ev_millBuffer h)

theorem ev_completeRange {k : Nat} {f : MFrame} : Evolves r (s.completeRange k f) := by
  unfold State.completeRange
  split
  · exact ev_endFrame h
  · exact ev_slotWritten h (fun _ => ev_endFrame (ev_bumpBy (Evolves.refl _)))

theorem ev_slotsAgain {k : Nat} : Evolves r (s.slotsAgain k) :=
  ev_foldl (fun _ _ => ev_ite (ev_completeRange (Evolves.refl _)) (ev_tryComplete (Evolves.refl _))) _ h

end

section
/-! What Machine/Mill.lean defines. -/

variable {r s : State} (h : Evolves r s)
include h

theorem ev_closePortFrames {p : Nat} : Evolves r (s.closePortFrames p) := ev_foldl (fun _ _ => ev_rejectAll (Evolves.refl _)) _ h

theorem ev_skipPort {p : Nat} : Evolves r (s.skipPort p) := ev_foldl (fun _ _ => ev_setStrm (Evolves.refl _)) _ h

theorem ev_scriptStart {p entry : Nat} {ladder : Bool} : Evolves r (s.scriptStart p entry ladder) := ev_setReg (ev_setPort h) _ _

theorem ev_portTry {p m : Nat} : Evolves r (s.portTry p m) := ev_scriptStart (ev_setPort (ev_skipPort (ev_put (ev_put h))))

theorem ev_portFailed {p : Nat} : Evolves r (s.portFailed p) := ev_portViol (ev_bump (ev_put h))

theorem ev_portFrom {p m : Nat} : Evolves r (s.portFrom p m) := by
  unfold State.portFrom
  split
  · exact ev_portTry h
  · exact ev_portFailed h

theorem ev_portRestart {p : Nat} : Evolves r (s.portRestart p) := ev_portFrom (ev_setPort (ev_put h))

theorem ev_portSettle {p : Nat} : Evolves r (s.portSettle p) := ev_portRestart (ev_setReg (ev_setReg h _ _) _ _)

theorem ev_execMillPortEnable {fn : Fn} {p : Fin 4} {v : Word} : outEvolves r (execMillPortEnable fn p v s) :=
  outEvolves_ite (ev_turnedAway h) (outEvolves_ite h (outEvolves_ite (ev_millReject h) (ev_portSettle (ev_setReg h _ _))))

theorem ev_portDown {p : Nat} : Evolves r (s.portDown p) := ev_put (ev_put (ev_put (ev_setPort (ev_closePortFrames h))))

theorem ev_execMillPortDisable {fn : Fn} {p : Fin 4} {v : Word} : outEvolves r (execMillPortDisable fn p v s) :=
  outEvolves_ite (ev_turnedAway h) (outEvolves_ite h (outEvolves_ite (ev_millReject h) (ev_portDown (ev_setReg h _ _))))

theorem ev_portEntryFails {p : Nat} : Evolves r (s.portEntryFails p) := ev_portFrom h

theorem ev_execPortLockTimeout {p : Fin 4} {elapsedMs : Nat} : outEvolves r (execPortLockTimeout p elapsedMs s) :=
  outEvolves_ite (ev_portEntryFails h) h

theorem ev_portStepDown {p : Nat} : Evolves r (s.portStepDown p) := by
  unfold State.portStepDown
  split
  · exact ev_portTry (ev_bumpFld (ev_closePortFrames h))
  · exact ev_portViol (ev_bump (ev_setPort h))

theorem ev_portError {p : Nat} : Evolves r (s.portError p) := ev_ite (ev_portStepDown (ev_bump (ev_setPort h))) (ev_bump (ev_setPort h))

theorem ev_scriptNext {p : Nat} {r' : ScriptRun} : Evolves r (s.scriptNext p r') := ev_setPort h

theorem ev_scriptFail {p : Nat} {r' : ScriptRun} : Evolves r (s.scriptFail p r') :=
  ev_ite (ev_portEntryFails (ev_put (ev_put (ev_setPort h)))) (ev_put (ev_put (ev_setPort h)))

theorem ev_scriptParity {p : Nat} : Evolves r (s.scriptParity p) := ev_jobFault h

theorem ev_execI2cRun {fn : Fn} {p : Fin 4} {v : Word} : outEvolves r (execI2cRun fn p v s) :=
  outEvolves_ite (ev_turnedAway h) (outEvolves_ite h (outEvolves_ite (ev_millReject h) (outEvolves_ite h (ev_scriptStart h))))

theorem ev_execScriptWrite {p : Fin 4} {ack : Bool} {stretchUs : Nat} {parity : Bool} :
    outEvolves r (execScriptWrite p ack stretchUs parity s) := by
  unfold execScriptWrite
  split
  · exact h
  · exact outEvolves_ite (ev_scriptParity h) (outEvolves_ite (ev_scriptNext (ev_emit h)) (ev_scriptFail h))

theorem ev_execScriptWait {p : Fin 4} {parity : Bool} : outEvolves r (execScriptWait p parity s) := by
  unfold execScriptWait
  split
  · exact h
  · exact outEvolves_ite (ev_scriptParity h) (ev_scriptNext (ev_reach h))

theorem ev_execScriptPoll {p : Fin 4} {ack : Bool} {value : Byte} {elapsedMs : Nat} {parity : Bool} :
    outEvolves r (execScriptPoll p ack value elapsedMs parity s) := by
  unfold execScriptPoll
  split
  · exact h
  · exact outEvolves_ite (ev_scriptParity h)
      (outEvolves_ite (ev_scriptFail (ev_emit h))
        (outEvolves_ite (ev_scriptNext (ev_emit h)) (outEvolves_ite (ev_scriptFail (ev_emit h)) (ev_emit h))))

theorem ev_execScriptEnd {p : Fin 4} {parity : Bool} : outEvolves r (execScriptEnd p parity s) := by
  unfold execScriptEnd
  split
  · exact h
  · exact outEvolves_ite (ev_scriptParity h) (ev_put (ev_setPort h))

theorem ev_execScriptInvalidOp {p : Fin 4} {parity : Bool} : outEvolves r (execScriptInvalidOp p parity s) := by
  unfold execScriptInvalidOp
  split
  · exact h
  · exact outEvolves_ite (ev_scriptParity h) (ev_scriptFail h)

theorem ev_cameraBegin {k t fsNumber : Nat} : Evolves r (s.cameraBegin k t fsNumber) := by
  refine ev_ite (ev_setStrm (ev_bump ?_))
    (ev_ite (ev_put (ev_setStrm (ev_allocSlot ?_))) (ev_rejectFrame (ev_strmViol (ev_put (ev_setStrm (ev_allocSlot ?_))))))
  · split
    · exact ev_rejectFrame (ev_strmViol h)
    · exact h
  · split
    · exact ev_rejectFrame (ev_strmViol h)
    · exact h
  · split
    · exact ev_rejectFrame (ev_strmViol h)
    · exact h

theorem ev_portHeader {p : Nat} {h' : Header} {sync : Bool} {detail : List Byte} : Evolves r (s.portHeader p h' sync detail) := by
  unfold State.portHeader
  dsimp only
  split
  · exact ev_ite (ev_portError h) h
  · exact ev_portError (ev_ite (ev_portError h) h)
  · exact ev_portError (ev_portViol (ev_ite (ev_portError h) h))

theorem ev_unbound {p : Nat} {detail : List Byte} : Evolves r (s.unbound p detail) := ev_portViol (ev_bump h)

theorem ev_arrivalStamp {t : Nat} : Evolves r (s.arrivalStamp t).1 := ev_drawn (ev_reach h)

theorem ev_csiStamp {t : Nat} : Evolves r (s.csiStamp t).1 := ev_drawn (ev_reach h)

theorem ev_vcStart {p vc : Nat} {settling : Bool} : Evolves r (s.vcStart p vc settling) := ev_setPort h

theorem ev_execCsiFrameStart {p : Fin 4} {vc : Fin 16} {fsNumber : BitVec 16} {header : Header} {sync : Bool} {t : Nat} :
    outEvolves r (execCsiFrameStart p vc fsNumber header sync t s) := by
  refine outEvolves_ite (ev_ite (ev_csiStamp h) (ev_vcStart (ev_csiStamp h)))
    (outEvolves_ite (ev_csiStamp h) (outEvolves_ite (ev_portHeader (ev_csiStamp h)) ?_))
  dsimp only
  split
  · exact ev_unbound (ev_vcStart (ev_portHeader (ev_csiStamp h)))
  · exact ev_foldl (fun _ _ => ev_cameraBegin (Evolves.refl _)) _ (ev_vcStart (ev_portHeader (ev_csiStamp h)))

theorem ev_cameraEnd {k t fsNumber : Nat} : Evolves r (s.cameraEnd k t fsNumber) := by
  refine ev_ite h ?_
  split
  · exact ev_strmViol h
  · exact ev_ite (ev_rejectFrame (ev_strmViol (ev_setReceiving h))) (ev_tryComplete (ev_setReceiving h))

theorem ev_execCsiFrameEnd {p : Fin 4} {vc : Fin 16} {fsNumber : BitVec 16} {header : Header} {sync : Bool} {t : Nat} :
    outEvolves r (execCsiFrameEnd p vc fsNumber header sync t s) := by
  refine outEvolves_ite (ev_csiStamp h) (outEvolves_ite (ev_portHeader (ev_csiStamp h)) ?_)
  split
  · exact ev_unbound (ev_portHeader (ev_csiStamp h))
  · exact ev_foldl (fun _ _ => ev_cameraEnd (Evolves.refl _)) _ (ev_portHeader (ev_csiStamp h))

theorem ev_cameraLine {k : Nat} {payload : List Byte} {code : Nat} : Evolves r (s.cameraLine k payload code) := by
  unfold State.cameraLine
  split
  · exact h
  · exact ev_ite h
      (ev_ite h
        (ev_ite (ev_ite (ev_setReceiving (ev_strmViol (ev_bump h))) (ev_setReceiving h))
          (ev_ite (ev_strmViol h)
            (ev_ite (ev_setReceiving (ev_strmViol (ev_bump h)))
              (ev_ite (ev_setReceiving h) (ev_ite (ev_setReceiving (ev_strmViol h)) (ev_setReceiving (ev_strmViol h))))))))

theorem ev_cameraEmbedded {k : Nat} {payload : List Byte} : Evolves r (s.cameraEmbedded k payload) := by
  unfold State.cameraEmbedded
  split
  · exact h
  · exact ev_ite h (ev_setReceiving h)

theorem ev_portLock {p : Nat} : Evolves r (s.portLock p) := ev_put (ev_setPort h)

theorem ev_portSettling {p : Nat} {ok : Bool} : Evolves r (s.portSettling p ok) :=
  ev_ite h (ev_ite (ev_setPort h) (ev_ite (ev_setPort h) (ev_portLock h)))

theorem ev_execCsiLongPacket {p : Fin 4} {vc : Fin 16} {dt : BitVec 6} {payload : List Byte} {header : Header} {crcOk sync : Bool}
    {lanes : BitVec 4} {ecc : Ecc} {t : Nat} :
    outEvolves r (execCsiLongPacket p vc dt payload header crcOk sync lanes ecc t s) :=
  have h1 := ev_put (ev_reach h)
  have h2 := ev_portHeader h1
  have h3 := ev_ite (ev_portError (ev_portViol h2)) h2
  have h4 := ev_unbound h3
  outEvolves_ite (ev_reach h)
    (outEvolves_ite h1
      (outEvolves_ite (ev_ite h2 h1)
        (outEvolves_ite (ev_portSettling h1)
          (outEvolves_ite h3
            (outEvolves_ite h4
              (outEvolves_ite (ev_foldl (fun _ _ => ev_cameraLine (ev_millBuffer (Evolves.refl _))) _ h3)
                (outEvolves_ite (ev_ite h3 (ev_foldl (fun _ _ => ev_cameraEmbedded (ev_millBuffer (Evolves.refl _))) _ h3))
                  (outEvolves_ite h3 h4))))))))

theorem ev_execFrameAssemblyTimeout {k : Fin 24} {elapsedMs : Nat} : outEvolves r (execFrameAssemblyTimeout k elapsedMs s) := by
  unfold execFrameAssemblyTimeout
  split
  · exact outEvolves_ite (ev_rejectFrame (ev_strmViol h)) h
  · exact h

theorem ev_markMissed {k : Nat} {n : Word} : Evolves r (s.markMissed k n) := ev_setGrp h

theorem ev_trigSuppress {i : Nat} {n : Word} : Evolves r (s.trigSuppress i n) :=
  ev_foldl (fun _ _ => ev_markMissed (Evolves.refl _)) _ (ev_report (ev_bump h))

theorem ev_openWindow {k : Nat} {n : Word} {edge : Nat} : Evolves r (s.openWindow k n edge) := ev_setStrm h

theorem ev_execTriggerFire {i : Fin 8} : outEvolves r (execTriggerFire i s) :=
  outEvolves_ite h
    (outEvolves_ite (ev_trigSuppress h)
      (ev_foldl (fun _ _ => ev_openWindow (Evolves.refl _)) _ (ev_with (ev_emit (ev_bump (ev_drawn (ev_reach h)))))))

theorem ev_execTriggerPulseEnd {i : Fin 8} : outEvolves r (execTriggerPulseEnd i s) := by
  unfold execTriggerPulseEnd
  split
  · exact ev_endPulse (ev_reach h)
  · exact h

theorem ev_execTriggerWindowEnd {k : Fin 16} : outEvolves r (execTriggerWindowEnd k s) := by
  unfold execTriggerWindowEnd
  dsimp only
  split
  · exact h
  · exact outEvolves_ite (ev_setStrm (ev_reach h)) (ev_setGrp (ev_setStrm (ev_reach h)))

theorem ev_groupsAtBoundary {n : Word} : Evolves r (s.groupsAtBoundary n) :=
  ev_foldl (fun _ _ => ev_ite (ev_setGrp (Evolves.refl _)) (Evolves.refl _)) _ h

theorem ev_execGroupCollectClose {g : Fin 8} {n : Word} : outEvolves r (execGroupCollectClose g n s) := outEvolves_ite h (ev_setGrp (ev_reach h))

theorem ev_writeGroupRecord {g i : Nat} {bs : List Byte} : Evolves r (s.writeGroupRecord g i bs) := ev_millWrite h

theorem ev_postMember {g i k frame : Nat} {f : Option MFrame} {missed : Bool} : Evolves r (s.postMember g i k frame f missed) := by
  refine ev_setStrm (ev_writeGroupRecord ?_)
  split
  · refine ev_bump ?_
    split
    · split
      · exact ev_millWrite h
      · exact h
    · exact h
  · split
    · split
      · exact ev_millWrite h
      · exact h
    · exact h

theorem ev_post {g frame : Nat} {ms : List (Nat × Option MFrame × Bool)} : Evolves r (s.post g frame ms) :=
  ev_setGrp (ev_setReg (ev_writeGroupRecord (ev_foldl (fun _ _ => ev_postMember (Evolves.refl _)) _ h)) _ _)

theorem ev_postStall {g : Nat} : Evolves r (s.postStall g) := ev_ite h (ev_bump (ev_setGrp h))

theorem ev_groupTaken {g : Nat} {n : Word} : Evolves r (s.groupTaken g n) := ev_setGrp h

theorem ev_postAsk {g records : Nat} {fs : List MFrame} : Evolves r (s.postAsk g records fs).2 := ev_dramAsk h _ _ _

theorem ev_syncPost {g : Nat} {n : Word} : Evolves r (s.syncPost g n) := by
  refine ev_ite h (ev_ite (ev_bump (ev_groupTaken h)) (ev_ite (ev_postStall h) ?_))
  split
  · next e => exact ev_groupTaken (ev_post (Evolves.of_snd e (ev_postAsk h)))
  · next e => exact Evolves.of_snd e (ev_postAsk h)

theorem ev_postFree {g : Nat} {f : MFrame} : Evolves r (s.postFree g f) := ev_setGrp (ev_setReg (ev_writeGroupRecord (ev_postMember h)) _ _)

theorem ev_freePost {g : Nat} : Evolves r (s.freePost g) := by
  unfold State.freePost
  dsimp only
  split
  · exact h
  · refine ev_ite (ev_bump (ev_setGrp h)) (ev_ite (ev_postStall h) ?_)
    split
    · next e => exact ev_setGrp (ev_postFree (Evolves.of_snd e (ev_postAsk h)))
    · next e => exact Evolves.of_snd e (ev_postAsk h)

theorem ev_execMillGroupPost {g : Fin 8} : outEvolves r (execMillGroupPost g s) := by
  refine outEvolves_ite h (outEvolves_ite (ev_freePost h) ?_)
  split
  · exact ev_syncPost h
  · exact h

theorem ev_execSlotRelease {fn : Fn} {k : Fin 24} {v : Word} : outEvolves r (execSlotRelease fn k v s) :=
  outEvolves_ite (ev_turnedAway h) (outEvolves_ite h (outEvolves_ite (ev_millReject h) (ev_setReg h _ _)))

theorem ev_execGroupTailWrite {fn : Fn} {g : Fin 8} {v : Word} : outEvolves r (execGroupTailWrite fn g v s) :=
  outEvolves_ite (ev_turnedAway h) (outEvolves_ite h (outEvolves_ite (ev_millReject h) (ev_setReg h _ _)))

theorem ev_strmStart {k : Nat} : Evolves r (s.strmStart k) :=
  ev_setStrm (ev_setReg (ev_foldl (fun _ _ => ev_setReg (Evolves.refl _) _ _) _ (ev_foldl (fun _ _ => ev_setReg (Evolves.refl _) _ _) _ h)) _ _)

theorem ev_execStreamEnable {fn : Fn} {k : Fin 24} {v : Word} : outEvolves r (execStreamEnable fn k v s) :=
  outEvolves_ite (ev_turnedAway h) (outEvolves_ite h (outEvolves_ite (ev_millReject h) (ev_strmStart (ev_setReg h _ _))))

end

section
/-! What Machine/Admission.lean defines. -/

variable {r s : State} (h : Evolves r s)
include h

theorem ev_goOn : Evolves r s.goOn := ev_rxDrain (ev_foldl (fun _ _ => ev_slotsAgain (Evolves.refl _)) _ h)

theorem ev_admitPort {i : Nat} : Evolves r (s.admitPort i) := ev_ite (ev_klyNew h) h

theorem ev_execRequestAdmit {port : Option (Fin 4)} : outEvolves r (execRequestAdmit port s) := by
  unfold execRequestAdmit
  split
  · exact ev_goOn (ev_admitHeld h)
  · exact ev_admitPort h

end

section
/-! What Machine/Range.lean defines. -/

variable {r s : State} (h : Evolves r s)
include h

theorem ev_sweepDamage {k code first n : Nat} : Evolves r (s.sweepDamage k code first n) := by
  unfold State.sweepDamage
  dsimp only
  split
  · exact ev_setStrm (ev_setReceiving h)
  · exact ev_setStrm h

theorem ev_packetLost {k code : Nat} {detail : List Byte} : Evolves r (s.packetLost k code detail) := ev_drawn (ev_sweepDamage (ev_strmViol h))

theorem ev_runStart {k : Nat} : Evolves r (s.runStart k) := by
  unfold State.runStart
  dsimp only
  split
  · exact ev_setStrm h
  · exact h

theorem ev_rangeIntake {k arrival : Nat} {pkt : UdpPacket} : Evolves r (s.rangeIntake k arrival pkt) :=
  ev_ite (ev_packetLost h) (ev_ite (ev_packetLost h) (ev_runStart (ev_setStrm h)))

theorem ev_execRangePacket {mac : Fin 4} {pkt : UdpPacket} {ecc : Ecc} {t : Nat} : outEvolves r (execRangePacket mac pkt ecc t s) := by
  unfold execRangePacket
  dsimp only
  split
  · exact ev_arrivalStamp h
  · exact ev_rangeIntake (ev_millBuffer (ev_arrivalStamp h))

theorem ev_sweepBegin {k arrival : Nat} : Evolves r (s.sweepBegin k arrival) := ev_setStrm (ev_allocSlot (ev_drawn h))

theorem ev_sweepOpen {k arrival : Nat} : Evolves r (s.sweepOpen k arrival) := ev_ite h (ev_sweepBegin h)

theorem ev_sweepStamp {k arrival ns : Nat} : Evolves r (s.sweepStamp k arrival ns) := by
  unfold State.sweepStamp
  split
  · exact h
  · exact ev_ite h (ev_setReceiving (ev_ite (ev_strmViol h) h))

theorem ev_sweepPoint {k : Nat} {p : List Byte} : Evolves r (s.sweepPoint k p) := by
  unfold State.sweepPoint
  split
  · exact h
  · exact ev_ite (ev_setReceiving (ev_ite (ev_setStrm h) (ev_strmViol (ev_setStrm h))))
      (ev_setReceiving (ev_ite (ev_bump (ev_setStrm h)) (ev_setStrm h)))

theorem ev_sweepClose {k arrival : Nat} : Evolves r (s.sweepClose k arrival) := by
  unfold State.sweepClose
  split
  · exact h
  · exact ev_ite (ev_setStrm (ev_bump h)) (ev_completeRange (ev_setStrm (ev_setReceiving h)))

theorem ev_parseEffect {k arrival : Nat} {a : ParseEff} : Evolves r (s.parseEffect k arrival a) := by
  unfold State.parseEffect
  split
  · exact ev_sweepPoint (ev_sweepOpen h)
  · exact ev_sweepStamp (ev_sweepOpen h)
  · exact ev_sweepClose h

theorem ev_lostDamage {k : Nat} {lost : List (Nat × Nat)} : Evolves r (s.lostDamage k lost) :=
  ev_foldl (fun _ _ => ev_sweepDamage (ev_strmViol (Evolves.refl _))) _ h

theorem ev_runOver {k : Nat} {r' : ParserRun} : Evolves r (s.runOver k r') := ev_setStrm h

theorem ev_packetAccepted {k arrival : Nat} {r' : ParserRun} : Evolves r (s.packetAccepted k arrival r') := by
  refine ev_runStart (ev_foldl (fun _ _ => ev_parseEffect (Evolves.refl _)) _ ?_)
  split
  · exact ev_ite (ev_lostDamage (ev_runOver h)) (ev_sweepOpen (ev_lostDamage (ev_runOver h)))
  · exact ev_sweepOpen (ev_lostDamage (ev_runOver h))

theorem ev_packetRejected {k code reason : Nat} {r' : ParserRun} : Evolves r (s.packetRejected k code reason r') :=
  ev_runStart (ev_drawn (ev_sweepDamage (ev_ite (ev_report (ev_lostDamage (ev_runOver h))) (ev_strmViol (ev_lostDamage (ev_runOver h))))))

theorem ev_parserRow {k : Nat} {parity : Bool} {kind : ParserOp → Bool} : Evolves r (s.parserRow k parity kind) := by
  unfold State.parserRow
  split
  · exact h
  · refine ev_ite h (ev_ite (ev_jobFault h) ?_)
    split
    · exact ev_packetRejected h
    · split
      · exact ev_setStrm (ev_drawn h)
      · exact ev_packetAccepted h
      · exact ev_packetRejected h

theorem ev_execParserEnd {i : Fin 8} {parity : Bool} : outEvolves r (execParserEnd i parity s) := ev_parserRow h

theorem ev_execParserLd8 {i : Fin 8} {parity : Bool} : outEvolves r (execParserLd8 i parity s) := ev_parserRow h

theorem ev_execParserLd16 {i : Fin 8} {parity : Bool} : outEvolves r (execParserLd16 i parity s) := ev_parserRow h

theorem ev_execParserLd32 {i : Fin 8} {parity : Bool} : outEvolves r (execParserLd32 i parity s) := ev_parserRow h

theorem ev_execParserLdi {i : Fin 8} {parity : Bool} : outEvolves r (execParserLdi i parity s) := ev_parserRow h

theorem ev_execParserLui {i : Fin 8} {parity : Bool} : outEvolves r (execParserLui i parity s) := ev_parserRow h

theorem ev_execParserAlu {i : Fin 8} {parity : Bool} : outEvolves r (execParserAlu i parity s) := ev_parserRow h

theorem ev_execParserShift {i : Fin 8} {parity : Bool} : outEvolves r (execParserShift i parity s) := ev_parserRow h

theorem ev_execParserMul {i : Fin 8} {parity : Bool} : outEvolves r (execParserMul i parity s) := ev_parserRow h

theorem ev_execParserAddi {i : Fin 8} {parity : Bool} : outEvolves r (execParserAddi i parity s) := ev_parserRow h

theorem ev_execParserLut {i : Fin 8} {parity : Bool} : outEvolves r (execParserLut i parity s) := ev_parserRow h

theorem ev_execParserBranch {i : Fin 8} {parity : Bool} : outEvolves r (execParserBranch i parity s) := ev_parserRow h

theorem ev_execParserEmit {i : Fin 8} {parity : Bool} : outEvolves r (execParserEmit i parity s) := ev_parserRow h

theorem ev_execParserStamp {i : Fin 8} {parity : Bool} : outEvolves r (execParserStamp i parity s) := ev_parserRow h

theorem ev_execParserSweep {i : Fin 8} {parity : Bool} : outEvolves r (execParserSweep i parity s) := ev_parserRow h

theorem ev_execParserSeq {i : Fin 8} {parity : Bool} : outEvolves r (execParserSeq i parity s) := ev_parserRow h

theorem ev_execParserReject {i : Fin 8} {parity : Bool} : outEvolves r (execParserReject i parity s) := ev_parserRow h

theorem ev_execParserInvalidOp {i : Fin 8} {parity : Bool} : outEvolves r (execParserInvalidOp i parity s) := ev_parserRow h

theorem ev_execParserRunLimit {i : Fin 8} : outEvolves r (execParserRunLimit i s) := by
  unfold execParserRunLimit
  split
  · exact outEvolves_ite (ev_packetRejected h) h
  · exact h

end

section
/-! What Machine/Eth.lean defines. -/

variable {r s : State} (h : Evolves r s)
include h

theorem ev_ethAdvertise {m floor : Nat} : Evolves r (s.ethAdvertise m floor) := ev_ite (ev_ite (ev_emit h) (ev_emit h)) h

theorem ev_ethNegotiate {m floor : Nat} : Evolves r (s.ethNegotiate m floor) := ev_ethAdvertise (ev_put (ev_put (ev_off h)))

theorem ev_ethStart {m : Nat} : Evolves r (s.ethStart m) := ev_ethNegotiate (ev_setVeh h)

theorem ev_execEthEnable {fn : Fn} {m : Fin 5} {v : Word} : outEvolves r (execEthEnable fn m v s) :=
  outEvolves_ite (ev_turnedAway h) (outEvolves_ite h (outEvolves_ite (ev_on h) (ev_ethStart (ev_setReg h _ _))))

theorem ev_execEthLinkUp {m speed : Fin 5} {fullDuplex : Bool} : outEvolves r (execEthLinkUp m speed fullDuplex s) :=
  outEvolves_ite h (outEvolves_ite (ev_put (ev_on h)) (ev_report (ev_put (ev_off h))))

theorem ev_execEthLinkDown {m : Fin 5} : outEvolves r (execEthLinkDown m s) := outEvolves_ite h (ev_report (ev_bump (ev_put (ev_off h))))

theorem ev_ethStepDown {m : Nat} : Evolves r (s.ethStepDown m) :=
  ev_ite (ev_report (ev_setVeh h)) (ev_report (ev_ethNegotiate (ev_bumpFld (ev_setVeh h))))

theorem ev_ethError {m : Nat} : Evolves r (s.ethError m) := ev_ite (ev_ethStepDown (ev_setVeh h)) (ev_setVeh h)

theorem ev_ethSend {m : Nat} {bs : List Byte} : Evolves r (s.ethSend m bs) := ev_emit (ev_bump h)

theorem ev_arpReply {m : Nat} {senderMac : BitVec 48} {senderIp : Word} : Evolves r (s.arpReply m senderMac senderIp) := ev_ethSend h

theorem ev_ethOther {m : Nat} : Evolves r (s.ethOther m) := ev_bump h

theorem ev_execEthFrameReceive {m : Fin 5} {dst : BitVec 48} {kind : EthKind} {fcsOk symbolError overflow : Bool} :
    outEvolves r (execEthFrameReceive m dst kind fcsOk symbolError overflow s) := by
  unfold execEthFrameReceive
  extract_lets n s1 s2
  have h1 : Evolves r s1 := ev_ite (ev_ethError h) h
  have h2 : Evolves r s2 := ev_bump h1
  refine outEvolves_ite h (outEvolves_ite (ev_ethError (ev_bump h1)) (outEvolves_ite (ev_bump h1) (outEvolves_ite h1 ?_)))
  split
  · exact outEvolves_ite h2 (ev_ethOther h2)
  · exact outEvolves_ite (ev_arpReply h2) (ev_ethOther h2)
  · exact outEvolves_ite h2 (ev_ethOther h2)
  · exact ev_ethOther h2

theorem ev_execTimeMessageTransmit {m : Fin 5} {served : Bool} {kind : TimeKind} {head bytes : List Byte} :
    outEvolves r (execTimeMessageTransmit m served kind head bytes s) :=
  outEvolves_ite (ev_ethSend h) h

theorem ev_execTrigInEdge {i : Fin 4} {rising : Bool} {heldNs : Nat} : outEvolves r (execTrigInEdge i rising heldNs s) :=
  outEvolves_ite
    (outEvolves_ite (outEvolves_ite (ev_wakeAsked (ev_setReg64 (ev_drawn h))) (ev_setReg64 (ev_drawn h)))
      (outEvolves_ite (ev_wakeAsked (ev_filtered h)) (ev_filtered h)))
    (ev_bump (ev_filtered h))

end

section
/-! What Machine/Hedgerow.lean defines. -/

variable {r s : State} (h : Evolves r s)
include h

theorem ev_execHedgerowHcbLoad : outEvolves r (execHedgerowHcbLoad s) := by
  refine outEvolves_ite h ?_
  dsimp only
  split
  · exact ev_setReg (ev_setReg (ev_setReg (ev_on (ev_setHdg (ev_setHdg h))) _ _) _ _) _ _
  · exact ev_heldFault (ev_hdgHeld (ev_setHdg h))

theorem ev_setHdgInput {i : Nat} {inp : HdgInput} : Evolves r (s.setHdgInput i inp) := ev_put (ev_setHdg h)

theorem ev_hdgDamaged {i : Nat} : Evolves r (s.hdgDamaged i) := ev_bump (ev_setHdgInput h)

theorem ev_hdgPacket {h' : Hcb} {i : Nat} {pkt : UdpPacket} : Evolves r (s.hdgPacket h' i pkt) := by
  unfold State.hdgPacket
  split
  · exact h
  · refine ev_ite (ev_hdgDamaged h) ?_
    dsimp only
    split
    · exact ev_drawn (ev_setHdgInput h)
    · exact ev_drawn (ev_hdgDamaged (ev_setHdgInput h))
    · exact h

theorem ev_execHedgerowPacket {binds : List HdgBinding} {mac : Fin 4} {pkt : UdpPacket} {dropped : Bool} :
    outEvolves r (execHedgerowPacket binds mac pkt dropped s) := by
  unfold execHedgerowPacket
  split
  · exact h
  · exact outEvolves_ite h
      (outEvolves_ite (ev_foldl (fun _ _ => ev_hdgDamaged (Evolves.refl _)) _ (ev_bump h))
        (ev_foldl (fun _ _ => ev_hdgPacket (Evolves.refl _)) _ h))

theorem ev_execFieldEvaluation {reactUs : Nat} : outEvolves r (execFieldEvaluation reactUs s) := by
  unfold execFieldEvaluation
  split
  · exact h
  · exact
      have h1 := ev_ite (ev_put (ev_ite (ev_bump h) h)) (ev_ite (ev_bump h) h)
      have h2 := ev_hdgUpdate (ev_put (ev_put (ev_setHdg (ev_ite (ev_bump h1) h1))))
      outEvolves_ite h (ev_ite (ev_hdgFill h2) h2)

theorem ev_execHedgerowInputTimeout {i : Fin 4} {elapsedMs : Nat} : outEvolves r (execHedgerowInputTimeout i elapsedMs s) := by
  unfold execHedgerowInputTimeout
  split
  · exact h
  · split
    · exact outEvolves_ite (ev_bump (ev_setHdgInput h)) h
    · exact h

theorem ev_execHedgerowReleaseExpiry {elapsedMs : Nat} : outEvolves r (execHedgerowReleaseExpiry elapsedMs s) := by
  unfold execHedgerowReleaseExpiry
  split
  · exact outEvolves_ite (ev_off h) h
  · exact h

theorem ev_execFallbackMaxExpiry {elapsedMs : Nat} : outEvolves r (execFallbackMaxExpiry elapsedMs s) := by
  unfold execFallbackMaxExpiry
  split
  · exact outEvolves_ite (ev_hdgUpdate (ev_on h)) h
  · exact h

theorem ev_execHeartbeatSend {fromReeve : Bool} : outEvolves r (execHeartbeatSend fromReeve s) :=
  outEvolves_ite (outEvolves_ite (ev_on h) h) (outEvolves_ite (ev_setReeve h) h)

theorem ev_reeveLost {code : Nat} : Evolves r (s.reeveLost code) :=
  ev_ite (ev_hdgFill (ev_hdgHeld (ev_setReeve (ev_off h)))) (ev_hdgHeld (ev_setReeve (ev_off h)))

theorem ev_execReeveHeartbeatLoss {elapsedMs : Nat} : outEvolves r (execReeveHeartbeatLoss elapsedMs s) :=
  outEvolves_ite (ev_heldFault (ev_reeveLost h)) h

theorem ev_hdgStops {a : HdgLoss} : Evolves r (s.hdgStops a) := by
  unfold State.hdgStops
  split
  · exact h
  · exact ev_setHdg h
  · exact ev_setHdg h

theorem ev_execHedgerowHeartbeatLoss {loss : HdgLoss} : outEvolves r (execHedgerowHeartbeatLoss loss s) :=
  outEvolves_ite h (outEvolves_ite (ev_reeveFill (ev_heldFault (ev_on (ev_setReeve (ev_hdgStops h))))) (ev_hdgStops h))

theorem ev_execReeveLockstepMismatch : outEvolves r (execReeveLockstepMismatch s) := outEvolves_ite (ev_heldFault (ev_reeveLost h)) h

theorem ev_execHdgSupplyFault {elapsedUs : Nat} : outEvolves r (execHdgSupplyFault elapsedUs s) := outEvolves_ite (ev_setHdg (ev_hdgFill (ev_on h))) h

theorem ev_execSelfTestRun {d : Diagnostic} {flagged corrected : Bool} : outEvolves r (execSelfTestRun d flagged corrected s) := by
  refine outEvolves_ite h (outEvolves_ite (ev_heldFault ?_) (outEvolves_ite (ev_with ?_) ?_))
  · split
    · exact ev_emit h
    · exact h
  · split
    · exact ev_emit h
    · exact h
  · split
    · exact ev_emit h
    · exact h

theorem ev_execSelfTestOverdue {d : Diagnostic} {elapsedMs : Nat} : outEvolves r (execSelfTestOverdue d elapsedMs s) :=
  outEvolves_ite (ev_heldFault h) h

end

section
/-! What Machine/Recovery.lean defines. -/

variable {r s : State} (h : Evolves r s)
include h

theorem ev_flogWrite {e : FaultEvent} {disp number : Nat} : Evolves r (s.flogWrite e disp number) := ev_wrapUp (ev_setReeve h)

theorem ev_logReport {e : FaultEvent} : Evolves r (s.logReport e) := ev_ite (ev_bump h) (ev_setReeve (ev_flogWrite h))

theorem ev_queueViolation {e : FaultEvent} : Evolves r (s.queueViolation e) := ev_ite (ev_setReeve h) (ev_bump h)

theorem ev_freeze : Evolves r s.freeze :=
  ev_freezeClocks (ev_on (ev_foldl (fun _ _ => ev_ite (Evolves.refl _) (ev_setCore (Evolves.refl _))) _ (ev_on h)))

theorem ev_lostTo {ps : List Nat} {code : Nat} : Evolves r (s.lostTo ps code) := ev_setPartCtl h

theorem ev_dropFrame : Evolves r s.dropFrame := ev_ceFence (ev_setReeve (ev_setQm (ev_discardSlots h)))

theorem ev_heldEvents : Evolves r s.heldEvents := ev_foldl (fun _ _ => ev_partEvent (Evolves.refl _)) _ h

theorem ev_toHeld {code : Nat} : Evolves r (s.toHeld code) :=
  have h1 := ev_ite (ev_setMode (ev_heldCause h)) (ev_on (ev_put (ev_heldCause h)))
  ev_ite h1 (ev_heldEvents h1)

theorem ev_startRecovery {e : FaultEvent} : Evolves r (s.startRecovery e) :=
  have h1 := ev_on (ev_freeze (ev_setReeve (ev_put (ev_setReg64 (ev_flogWrite (ev_bump h))))))
  ev_sendAborts (ev_dropFrame (ev_setPartCtl (ev_lostTo (ev_ite h1 (ev_setMode h1)))))

theorem ev_joinRecovery {e : FaultEvent} {r' : Recovery} : Evolves r (s.joinRecovery e r') :=
  ev_ite (ev_setReeve (ev_flogWrite (ev_bump h))) (ev_flogWrite (ev_bump h))

theorem ev_heldOutside {e : FaultEvent} : Evolves r (s.heldOutside e) :=
  ev_sendAborts (ev_dropFrame (ev_lostTo (ev_ite (ev_on (ev_setReeve (ev_toHeld (ev_freeze h)))) (ev_toHeld (ev_freeze h)))))

theorem ev_heldEvent {e : FaultEvent} : Evolves r (s.heldEvent e) := by
  unfold State.heldEvent
  dsimp only
  split
  · exact ev_setReeve (ev_toHeld (ev_ite (ev_put (ev_flogWrite h)) h))
  · exact ev_ite (ev_toHeld (ev_freeze (ev_ite (ev_put (ev_flogWrite h)) h))) (ev_heldOutside (ev_ite (ev_put (ev_flogWrite h)) h))

theorem ev_jobFaults {l : List FaultEvent} : Evolves r (s.jobFaults l) := by
  unfold State.jobFaults
  split
  · exact h
  · refine ev_ite (ev_freeze h) ?_
    split
    · refine ev_foldl (fun _ _ => ?_) _ h
      split
      · exact ev_joinRecovery (Evolves.refl _)
      · exact Evolves.refl _
    · exact ev_startRecovery h

theorem ev_otherEvent {e : FaultEvent} : Evolves r (s.otherEvent e) := by
  unfold State.otherEvent
  split
  · exact h
  · exact ev_heldEvent h
  · exact ev_ite (ev_logReport h) h
  · exact ev_ite (ev_queueViolation h) h

end

section
/-! What Machine/Reeve.lean defines. -/

variable {r s : State} (h : Evolves r s)
include h

theorem ev_sramEcc {ecc : Ecc} : Evolves r (s.sramEcc ecc) := by
  unfold State.sramEcc
  split
  · exact h
  · exact ev_ite (ev_bump h) h
  · exact ev_ite (ev_heldFault (ev_reeveLost h)) h

theorem ev_execFaultEventArrival {parity : List (Option Bool)} {ecc : Ecc} : outEvolves r (execFaultEventArrival parity ecc s) :=
  ev_foldl (fun _ _ => ev_otherEvent (Evolves.refl _)) _ (ev_jobFaults (ev_ite (ev_setReeve h) (ev_sramEcc (ev_setReeve h))))

theorem ev_execViolationLogWrite : outEvolves r (execViolationLogWrite s) := by
  unfold execViolationLogWrite
  split
  · exact outEvolves_ite h (outEvolves_ite (ev_bump (ev_setReeve h)) (ev_wrapUp (ev_setReeve (ev_setReeve h))))
  · exact h

theorem ev_execCrashCaptureStart : outEvolves r (execCrashCaptureStart s) := by
  unfold execCrashCaptureStart
  split
  · exact outEvolves_ite h (ev_setReeve (ev_ite (ev_bump h) h))
  · exact h

theorem ev_showSweep {w : Sweep} : Evolves r (s.showSweep w) := ev_ite (ev_setReeve h) (ev_setReg (ev_setReeve h) _ _)

theorem ev_startSweep : Evolves r s.startSweep := ev_on (ev_showSweep h)

theorem ev_execCrashRecordSecure {read : Nat} {parity : Bool} {parityCores : BitVec 16} {ecc : Ecc} :
    outEvolves r (execCrashRecordSecure read parity parityCores ecc s) := by
  unfold execCrashRecordSecure
  split
  · split
    · exact
        have h1 := ev_sramEcc (ev_off (ev_put (ev_setReeve h)))
        outEvolves_ite h (outEvolves_ite (ev_startSweep h1) h1)
    · exact h
  · exact h

theorem ev_execEngineReset {k : CoreId} {e : Engine} : outEvolves r (execEngineReset k e s) := by
  unfold execEngineReset
  split
  · exact outEvolves_ite h (ev_showSweep (ev_dropCoreAsks (ev_setCore (ev_ite (ev_setE h) h))))
  · exact h

theorem ev_afterEngine {w : Sweep} {e : Engine} : Evolves r (s.afterEngine w e) := by
  unfold State.afterEngine
  split
  · exact ev_showSweep h
  · exact ev_showSweep h
  · exact ev_showSweep h
  · exact ev_showSweep h
  · exact ev_showSweep (ev_poolReset h)

theorem ev_sweepOn {k : Nat} {e : Engine} : Evolves r (s.sweepOn k e) := by
  unfold State.sweepOn
  split
  · exact ev_ite (ev_afterEngine h) h
  · exact h

theorem ev_execEngineResetDone {k : CoreId} {e : Engine} : outEvolves r (execEngineResetDone k e s) := outEvolves_ite (ev_sweepOn (ev_setCore h)) h

theorem ev_execPeelResetFailed {k : CoreId} {q : PeelId} {elapsedUs : Nat} : outEvolves r (execPeelResetFailed k q elapsedUs s) := by
  refine outEvolves_ite h (outEvolves_ite (ev_sweepOn (ev_setCore (ev_heldFault h))) ?_)
  dsimp only
  split
  · exact ev_setReeve (ev_setCore (ev_bump (ev_report h)))
  · exact ev_setCore (ev_bump (ev_report h))

theorem ev_execPeelResetRetry {k : CoreId} {q : PeelId} {elapsedUs : Nat} : outEvolves r (execPeelResetRetry k q elapsedUs s) :=
  outEvolves_ite (ev_setCore h) h

theorem ev_nextCore {w : Sweep} : Evolves r (s.nextCore w) := ev_ite (ev_showSweep h) (ev_showSweep h)

theorem ev_tested {k : Nat} {pass : Bool} : Evolves r (s.tested k pass) := ev_ite (ev_grnZero h) (ev_heldFault (ev_put (ev_grnZero h)))

theorem ev_loseJob {code i : Nat} {e : DtEnt} : Evolves r (s.loseJob code i e) := ev_setDt (ev_setQueue h)

theorem ev_sweepQueues : Evolves r s.sweepQueues :=
  ev_foldl (fun _ _ => ev_completeReset (Evolves.refl _)) _ (ev_setQm (ev_foldl (fun _ _ => ev_violation (Evolves.refl _)) _ h))

theorem ev_sweepPartitions : Evolves r s.sweepPartitions := ev_setPartCtl h

theorem ev_sweepEnd {w : Sweep} : Evolves r (s.sweepEnd w) :=
  have h1 := ev_setReg (ev_foldl (fun _ _ => ev_setCore (Evolves.refl _)) _ h) _ _
  ev_settleAll (ev_off (ev_setReeve (ev_ite h1 (ev_setReg h1 _ _))))

theorem ev_execSweepComplete : outEvolves r (execSweepComplete s) := by
  unfold execSweepComplete
  split
  · exact
      have h1 := ev_setReeve (ev_foldl (fun _ _ => ev_loseJob (Evolves.refl _)) _ (ev_sweepEnd (ev_sweepPartitions (ev_sweepQueues h))))
      have h2 := ev_foldl (fun _ _ => ev_ite (Evolves.refl _) (ev_recovered (Evolves.refl _))) _ (ev_ite (ev_toHeld h1) h1)
      outEvolves_ite h (ev_ite (ev_startHeld h2) h2)
  · exact h

theorem ev_execSweepSupervisionExpiry {elapsedUs : Nat} : outEvolves r (execSweepSupervisionExpiry elapsedUs s) := by
  unfold execSweepSupervisionExpiry
  split
  · exact outEvolves_ite h (ev_setReeve (ev_heldFault h))
  · exact h

end

section
/-! What Machine/Frame.lean defines. -/

variable {r s : State} (h : Evolves r s)
include h

theorem ev_replay {q : Nat} {n : Word} {t : Nat} : Evolves r (s.replay q n t) := ev_ite h (ev_ite (ev_bump h) (ev_setQueue h))

theorem ev_replays {n : Word} {t : Nat} : Evolves r (s.replays n t) := ev_foldl (fun _ _ => ev_replay (Evolves.refl _)) _ h

theorem ev_dropReplays : Evolves r s.dropReplays := ev_setQm h

theorem ev_prunePairs {n : Word} : Evolves r (s.prunePairs n) := ev_setQm h

theorem ev_groupsRestart {n : Word} : Evolves r (s.groupsRestart n) := ev_foldl (fun _ _ => ev_ite (ev_setGrp (Evolves.refl _)) (Evolves.refl _)) _ h

theorem ev_restartAt {n : Word} {t : Nat} : Evolves r (s.restartAt n t) :=
  ev_replays (ev_setReg (ev_off (ev_setReeve (ev_dropReplays (ev_groupsRestart (ev_armSlots (ev_setPartCtl (ev_ceRestart h))))))) _ _)

theorem ev_recoveryBoundary {r' : Recovery} {n : Word} {t : Nat} {monitor : Option (BitVec 16)} :
    Evolves r (s.recoveryBoundary r' n t monitor) := by
  refine ev_ite h ?_
  split
  · exact ev_heldEvent h
  · exact ev_restartAt h

theorem ev_execFrameBoundary {monitor : Option (BitVec 16)} : outEvolves r (execFrameBoundary monitor s) := by
  refine outEvolves_ite h ?_
  dsimp only
  split
  · exact ev_recoveryBoundary (ev_gridAdvance (ev_reach h))
  · exact ev_prunePairs (ev_replays (ev_groupsAtBoundary (ev_armSlots (ev_gridAdvance (ev_reach h)))))

theorem ev_missed {sl : FdlSlot} {twin : Bool} : Evolves r (s.missed sl twin) :=
  ev_ite (ev_ite (ev_slotMissed h) (ev_jobFault (ev_slotMissed h))) (ev_partEvent (ev_bump (ev_slotMissed h)))

theorem ev_execFrameDeadlineMiss {k : Fin 8} : outEvolves r (execFrameDeadlineMiss k s) := by
  unfold execFrameDeadlineMiss
  split
  · refine ev_ite ?_ (ev_missed ?_)
    · split
      · exact ev_jobFault (ev_setQm (ev_reach h))
      · exact ev_setQm (ev_reach h)
    · split
      · exact ev_jobFault (ev_setQm (ev_reach h))
      · exact ev_setQm (ev_reach h)
  · exact h

end

section
/-! What Machine/Power.lean defines. -/

variable {r s : State} (h : Evolves r s)
include h

theorem ev_lowerPower {l : List Nat} : Evolves r (s.lowerPower l) := ev_foldl (fun _ _ => ev_ite (ev_put (Evolves.refl _)) (Evolves.refl _)) _ h

theorem ev_raisePower {l : List Nat} : Evolves r (s.raisePower l) := ev_foldl (fun _ _ => ev_ite (ev_put (Evolves.refl _)) (Evolves.refl _)) _ h

theorem ev_powerDown : Evolves r s.powerDown :=
  ev_ite (ev_bump (ev_lowerPower (ev_setPower h))) (ev_ite (ev_bump (ev_lowerPower (ev_setPower h))) (ev_setPower h))

theorem ev_powerUp : Evolves r s.powerUp := ev_ite (ev_raisePower h) (ev_raisePower h)

theorem ev_execPowerSample {deciwatts : BitVec 16} : outEvolves r (execPowerSample deciwatts s) := by
  refine outEvolves_ite (ev_setReg h _ _)
    (outEvolves_ite (ev_settleAll (ev_powerDown (ev_setReg h _ _))) (outEvolves_ite ?_ (ev_setPower (ev_setReg h _ _))))
  split
  · exact ev_setPower (ev_setReg h _ _)
  · exact outEvolves_ite (ev_settleAll (ev_powerUp (ev_setReg h _ _))) (ev_setReg h _ _)

theorem ev_execPowerLimitPersist {elapsedMs : Nat} : outEvolves r (execPowerLimitPersist elapsedMs s) := outEvolves_ite (ev_drawn (ev_report h)) h

theorem ev_thermStep {i : Nat} : Evolves r (s.thermStep i) := by
  refine ev_ite (ev_ite (ev_bump (ev_put (ev_setTherm h))) (ev_setTherm h)) (ev_ite ?_ (ev_setTherm h))
  split
  · exact ev_setTherm h
  · exact ev_ite (ev_ite (ev_put (ev_setTherm h)) (ev_setTherm h)) h

theorem ev_thermPause {i : Nat} : Evolves r (s.thermPause i) := ev_ite (ev_drawn (ev_report (ev_setTherm (ev_bump (ev_setE (ev_setPaused h)))))) h

theorem ev_thermRead {i : Nat} {t : BitVec 8} : Evolves r (s.thermRead i t) :=
  have h1 := ev_ite (ev_drawn (ev_jobFault (ev_put h))) (ev_put h)
  ev_ite h1 (ev_settleE (ev_thermPause (ev_thermStep h1)))

theorem ev_execThermalSample {temps : List (BitVec 8)} {outOfRange : BitVec 16} : outEvolves r (execThermalSample temps outOfRange s) :=
  ev_foldl (fun _ _ => ev_ite (ev_drawn (ev_jobFault (Evolves.refl _))) (Evolves.refl _)) _
    (ev_foldl (fun _ _ => ev_thermRead (Evolves.refl _)) _ h)

theorem ev_execThermalPauseEnd {i : Fin 16} {elapsedUs : Nat} : outEvolves r (execThermalPauseEnd i elapsedUs s) := outEvolves_ite (ev_endPause h) h

theorem ev_calDue : Evolves r s.calDue := by
  unfold State.calDue
  split
  · exact h
  · exact ev_setPower h

theorem ev_execSpllCalRequest {write : Option (Fn × Word)} : outEvolves r (execSpllCalRequest write s) := by
  unfold execSpllCalRequest
  split
  · exact outEvolves_ite (ev_turnedAway h) (outEvolves_ite (ev_setPower (ev_calDue h)) h)
  · exact ev_calDue h

theorem ev_calStart : Evolves r s.calStart := ev_setPower (ev_put h)

theorem ev_execSpllCalibrationStart : outEvolves r (execSpllCalibrationStart s) := outEvolves_ite (ev_calStart h) h

theorem ev_execSpllCalForce {elapsedS : Nat} : outEvolves r (execSpllCalForce elapsedS s) :=
  outEvolves_ite (ev_drawn (ev_report (ev_bump (ev_calStart h)))) h

theorem ev_execSpllCalibrationDone : outEvolves r (execSpllCalibrationDone s) := outEvolves_ite (ev_bump (ev_put h)) h

theorem ev_execClockMonitorWindow {island : Fin 64} {ppm : Int} {changed fifoParity : Bool} :
    outEvolves r (execClockMonitorWindow island ppm changed fifoParity s) :=
  outEvolves_ite (ev_ite (ev_jobFault h) h) (ev_jobFault (ev_on (ev_ite (ev_jobFault h) h)))

theorem ev_execSupplyOutOfWindow {rail : Fin 6} {elapsedUs : Nat} : outEvolves r (execSupplyOutOfWindow rail elapsedUs s) :=
  outEvolves_ite h (ev_jobFault (ev_on h))

end

section
/-! What Machine/Dram.lean defines. -/

variable {r s : State} (h : Evolves r s)
include h

theorem ev_markBad {a : Nat} : Evolves r (s.markBad a) := ev_with h

theorem ev_execDramReadReturn {who : Agent} {a : Nat} {ecc : Ecc} : outEvolves r (execDramReadReturn who a ecc s) := by
  refine outEvolves_ite h ?_
  dsimp only
  split
  · exact ev_emit h
  · exact ev_emit (ev_bump h)
  · exact ev_emit (ev_dramUncorrectable (ev_markBad h))

theorem ev_mergeBlock {who : Agent} {a : Nat} {bs : List Byte} {ecc : Ecc} : Evolves r (s.mergeBlock who a bs ecc) := by
  refine ev_ite (ev_ramWriteBlock h) ?_
  split
  · exact ev_ramWriteBlock h
  · exact ev_ramWriteBlock (ev_bump h)
  · exact ev_dramUncorrectable (ev_markBad h)

theorem ev_mergeN {who : Agent} {ecc : Ecc} {n a : Nat} {bs : List Byte} : Evolves r (State.mergeN who ecc n s a bs) := by
  induction n generalizing s a bs with
  | zero => exact h
  | succ n ih => exact ev_ite h (ih (ev_mergeBlock h))

theorem ev_execDramWriteComplete {who : Agent} {a : Nat} {bytes : List Byte} {ecc : Ecc} : outEvolves r (execDramWriteComplete who a bytes ecc s) :=
  outEvolves_ite h (ev_mergeN h)

theorem ev_execDramScrubRead {a : Nat} {ecc : Ecc} : outEvolves r (execDramScrubRead a ecc s) := by
  refine outEvolves_ite h ?_
  split
  · exact h
  · exact ev_bump h
  · exact ev_report (ev_bump (ev_markBad h))

theorem ev_execMr4Poll {channel : Fin 16} {mr4 : Byte} : outEvolves r (execMr4Poll channel mr4 s) := outEvolves_ite h (ev_with h)

theorem ev_execRefreshManagement {channel : Fin 16} : outEvolves r (execRefreshManagement channel s) := outEvolves_ite h (ev_emit h)

end

section
/-! What Machine/PcieLink.lean defines. -/

variable {r s : State} (h : Evolves r s)
include h

theorem ev_setPcie {p : Pcie} : Evolves r (s.setPcie p) := ev_with h

theorem ev_setFn {fn : Nat} {c : FnCfg} : Evolves r (s.setFn fn c) := ev_setPcie h

theorem ev_fnReset {fn : Nat} : Evolves r (s.fnReset fn) :=
  ⟨h.pending, h.grade, h.ae, h.physOf, fun x => regsWf_filter (h.regs x) _, h.dram, h.draws, h.epoch⟩

theorem ev_vfsGone : Evolves r s.vfsGone :=
  ev_foldl (fun _ _ => ev_requestReset (Evolves.refl _)) _ (ev_foldl (fun _ _ => ev_fnReset (Evolves.refl _)) _ (ev_setPcie h))

theorem ev_execVfEnableClear : outEvolves r (execVfEnableClear s) := outEvolves_ite (ev_vfsGone h) h

theorem ev_execConfigSpaceWrite {fn : Fn} {w : CfgWrite} : outEvolves r (execConfigSpaceWrite fn w s) := by
  refine outEvolves_ite h ?_
  dsimp only
  split
  · exact outEvolves_ite h (outEvolves_ite (outEvolves_ite h (ev_setPcie h)) (ev_execVfEnableClear h))
  · exact ev_setFn h
  · exact ev_setFn h
  · exact ev_setFn h
  · exact outEvolves_ite h (ev_setPcie h)

theorem ev_execFunctionLevelReset {fn : Fn} : outEvolves r (execFunctionLevelReset fn s) :=
  outEvolves_ite h
    (outEvolves_ite
      (ev_foldl (fun _ _ => ev_requestReset (Evolves.refl _)) _
        (ev_foldl (fun _ _ => ev_fnReset (Evolves.refl _)) _ (ev_setPcie (ev_setPartCtl (ev_fnReset h)))))
      (ev_requestReset (ev_setPartCtl (ev_fnReset h))))

theorem ev_execPcieLinkUp {speed : Fin 5} {width : Fin 9} : outEvolves r (execPcieLinkUp speed width s) :=
  outEvolves_ite h (ev_on (ev_put (ev_put h)))

theorem ev_linkStep : Evolves r s.linkStep := by
  unfold State.linkStep
  split
  · exact ev_report h
  · exact ev_ite (ev_report h) (ev_report (ev_setPcie (ev_bumpFld (ev_off (ev_put (ev_put (ev_put h)))))))

theorem ev_execPcieLinkError : outEvolves r (execPcieLinkError s) :=
  have h1 := ev_ite (ev_setPcie (ev_bump h)) (ev_setPcie (ev_bump h))
  outEvolves_ite h (outEvolves_ite (ev_linkStep h1) h1)

theorem ev_linkCfgWrite {fn : Fn} {v : Word} : Evolves r (s.linkCfgWrite fn v) :=
  ev_ite h (ev_ite (ev_on h) (ev_ite (ev_put (ev_plainWrite h)) (ev_plainWrite h)))

theorem ev_execPcieRestore {fn : Fn} {v : Word} : outEvolves r (execPcieRestore fn v s) :=
  outEvolves_ite (ev_turnedAway h) (outEvolves_ite (ev_linkCfgWrite h) h)

theorem ev_linkDown : Evolves r s.linkDown :=
  ev_foldl (fun _ _ => ev_requestReset (Evolves.refl _)) _
    (ev_foldl (fun _ _ => ev_sessionEnds (Evolves.refl _)) _
      (ev_foldl (fun _ _ => ev_fnReset (Evolves.refl _)) _ (ev_setPcie (ev_report (ev_bump (ev_off h))))))

theorem ev_execPcieLinkDown : outEvolves r (execPcieLinkDown s) := outEvolves_ite (ev_linkDown h) h

theorem ev_execPerst {asserted : Bool} : outEvolves r (execPerst asserted s) :=
  outEvolves_ite (outEvolves_ite h (ev_linkDown (ev_setPcie h))) (ev_setPcie h)

theorem ev_poisonedWrite {fn : Nat} {detail : List Byte} : Evolves r (s.poisonedWrite fn detail) := ev_emit (ev_violation (ev_bump h))

theorem ev_malformed {fn : Nat} {detail : List Byte} {e : AerError} : Evolves r (s.malformed fn detail e) := ev_emit (ev_violation (ev_bump h))

theorem ev_execPcieTlpViolation {fn : Fn} {c : TlpClass} {detail : List Byte} : outEvolves r (execPcieTlpViolation fn c detail s) := by
  refine outEvolves_ite h ?_
  split
  · exact ev_malformed h
  · exact ev_malformed h
  · exact ev_poisonedWrite h
  · exact ev_unsupported h
  · exact ev_unsupported h
  · exact h
  · exact ev_emit (ev_report (ev_ite (ev_emit h) h))

theorem ev_bar2Refused {fn : Fn} {a n : Nat} {read : Bool} : Evolves r (s.bar2Refused fn a n read) :=
  have h1 := ev_ite (ev_violation (ev_bump h)) (ev_violation (ev_bump (ev_bump h)))
  ev_ite (ev_emit h1) h1

theorem ev_execBar2Access {fn : Fn} {a n : Nat} {write : Option (List Byte)} {poisoned : Bool} {ecc : Ecc} :
    outEvolves r (execBar2Access fn a n write poisoned ecc s) := by
  refine outEvolves_ite h (outEvolves_ite (ev_unsupported h) (outEvolves_ite (ev_poisonedWrite h) (outEvolves_ite (ev_bar2Refused h) ?_)))
  dsimp only
  split
  · exact ev_ramWrite (ev_ite (ev_markBad (ev_ite (ev_bump h) h)) (ev_ite (ev_bump h) h))
  · exact ev_emit (ev_ramRead (ev_ite (ev_markBad (ev_ite (ev_bump h) h)) (ev_ite (ev_bump h) h)))

end

section
/-! What Machine/Session.lean defines. -/

variable {r s : State} (h : Evolves r s)
include h

theorem ev_rspWrite {fn : Nat} {bs : List Byte} : Evolves r (s.rspWrite fn bs) := ev_foldl (fun _ _ => ev_setReg (Evolves.refl _) _ _) _ h

theorem ev_answer {fn opcode seq status : Nat} {payload : List Byte} {key : Option (List Byte)} :
    Evolves r (s.answer fn opcode seq status payload key) :=
  have h1 := ev_setSession (ev_off (ev_on (ev_rspWrite h)))
  ev_ite (ev_msix h1) h1

theorem ev_respond {fn status : Nat} {payload : List Byte} {tagged : Bool} : Evolves r (s.respond fn status payload tagged) := ev_answer h

theorem ev_mbxViol {fn code : Nat} : Evolves r (s.mbxViol fn code) := ev_violation (ev_bump h)

theorem ev_cmdStarts {fn : Nat} : Evolves r (s.cmdStarts fn) := ev_setSession h

theorem ev_cmdSequence {fn : Nat} : Evolves r (s.cmdSequence fn) := by
  unfold State.cmdSequence
  exact ev_ite (ev_respond (ev_mbxViol h)) (ev_ite (ev_respond (ev_mbxViol h))
    (ev_ite (ev_respond (ev_mbxViol (ev_setSession (ev_setReg64 h)))) (ev_cmdStarts (ev_setSession (ev_setReg64 h)))))

theorem ev_cmdCheck {fn : Nat} : Evolves r (s.cmdCheck fn) :=
  ev_ite (ev_respond (ev_mbxViol h))
    (ev_ite (ev_respond (ev_mbxViol h))
      (ev_ite (ev_cmdStarts h)
        (ev_ite (ev_ite (ev_respond (ev_mbxViol h)) (ev_cmdStarts h))
          (ev_ite (ev_ite (ev_respond (ev_mbxViol h)) (ev_cmdStarts h))
            (ev_ite (ev_respond (ev_mbxViol h)) (ev_ite (ev_respond (ev_mbxViol h)) (ev_cmdSequence h)))))))

theorem ev_sessUpset {touched : BitVec 8} : Evolves r (s.sessUpset touched) :=
  ev_foldl (fun _ _ => ev_sessionEnds (Evolves.refl _)) _ (ev_ite h (ev_report h))

theorem ev_execMailboxDoorbell {fn : Fn} {v : Word} {touched : BitVec 8} : outEvolves r (execMailboxDoorbell fn v touched s) :=
  outEvolves_ite (ev_turnedAway h)
    (outEvolves_ite h (outEvolves_ite (ev_mbxViol (ev_on (ev_sessUpset h))) (ev_cmdCheck (ev_off (ev_on (ev_sessUpset h))))))

theorem ev_keyRead {p : Nat} {ok : Bool} : Evolves r (s.keyRead p ok) := ev_ite h (ev_setSession h)

theorem ev_challenge {fn : Nat} {psk : List Byte} : Evolves r (s.challenge fn psk) :=
  ev_respond (ev_ite (ev_put (ev_setSession (ev_drawnN h _))) (ev_setSession (ev_drawnN h _)))

theorem ev_execOpenReq {fn : Fn} {keyOk rngOk : Bool} : outEvolves r (execOpenReq fn keyOk rngOk s) := by
  refine outEvolves_ite h (outEvolves_ite (ev_respond (ev_violation (ev_keyRead (ev_ite (ev_failedOpen h) h)))) ?_)
  split
  · exact ev_respond (ev_keyRead (ev_ite (ev_failedOpen h) h))
  · exact outEvolves_ite (ev_respond (ev_report (ev_keyRead (ev_ite (ev_failedOpen h) h))))
      (outEvolves_ite (ev_respond (ev_report (ev_keyRead (ev_ite (ev_failedOpen h) h)))) (ev_challenge (ev_keyRead (ev_ite (ev_failedOpen h) h))))

theorem ev_opened {fn : Nat} {psk : List Byte} {x : PendOpen} : Evolves r (s.opened fn psk x) :=
  have h1 := ev_setReg
    (ev_setReg
      (ev_setReg64 (ev_put (ev_put (ev_put (ev_setSession (ev_drawn (ev_ite (ev_sessionReset (ev_setSession h)) (ev_setSession h))))))))
      _
      _)
    _
    _
  ev_respond (ev_ite (ev_report h1) h1)

theorem ev_execOpenProof {fn : Fn} {keyOk : Bool} : outEvolves r (execOpenProof fn keyOk s) := by
  refine outEvolves_ite h ?_
  dsimp only
  split
  · exact outEvolves_ite (ev_opened (ev_keyRead h)) (ev_respond (ev_failedOpen (ev_keyRead h)))
  · exact ev_respond (ev_failedOpen (ev_keyRead h))
  · exact ev_respond (ev_keyRead h)

/-- A key slot is no part of what the fuses keep. -/
theorem ev_execKeyProvision : outEvolves r (execKeyProvision s) := by
  refine outEvolves_ite h (outEvolves_ite (ev_respond h) (ev_respond ?_))
  exact ⟨h.pending, h.grade, h.ae, h.physOf, h.regs, h.dram, h.draws, h.epoch⟩

theorem ev_execKeepalive {fn : Fn} : outEvolves r (execKeepalive fn s) := outEvolves_ite (ev_respond h) h

theorem ev_execClose {fn : Fn} : outEvolves r (execClose fn s) := outEvolves_ite (ev_sessionEnds (ev_respond h)) h

theorem ev_execInfo {fn : Fn} : outEvolves r (execInfo fn s) := outEvolves_ite (ev_respond h) h

theorem ev_execFwStage : outEvolves r (execFwStage s) :=
  outEvolves_ite h (outEvolves_ite (ev_respond (ev_ramRead h)) (ev_put (ev_with (ev_ramRead h))))

theorem ev_setFlash {f : Flash} : Evolves r (s.setFlash f) := ev_setBoot h

theorem ev_slotWrite {bank kind : Nat} {bs : List Byte} : Evolves r (s.slotWrite bank kind bs) := ev_setFlash h

theorem ev_slotsCopied : Evolves r s.slotsCopied := ev_foldl (fun _ _ => ev_slotWrite (Evolves.refl _)) _ h

theorem ev_stageFails {code : Nat} {j : StageJob} : Evolves r (s.stageFails code j) := by
  unfold State.stageFails
  exact ev_answer (ev_with (ev_put (ev_put (ev_put h))))

theorem ev_execFwStageComplete {readBack : Bool} : outEvolves r (execFwStageComplete readBack s) := by
  unfold execFwStageComplete
  split
  · exact h
  · refine outEvolves_ite (ev_answer (ev_drawn (ev_setBoot h))) ?_
    split
    · exact ev_stageFails (ev_drawn h)
    · exact
        have h1 := ev_slotWrite (ev_ite h (ev_slotsCopied h))
        outEvolves_ite (ev_stageFails (ev_bump (ev_drawnN h1 _))) (ev_answer (ev_setBoot (ev_put (ev_put h1))))

theorem ev_activateFails {code : Nat} : Evolves r (s.activateFails code) := ev_respond (ev_put h)

theorem ev_execFwActivate : outEvolves r (execFwActivate s) :=
  outEvolves_ite h
    (outEvolves_ite (ev_activateFails h)
      (outEvolves_ite (ev_activateFails h)
        (outEvolves_ite (ev_activateFails h)
          (outEvolves_ite (ev_respond h) (outEvolves_ite (ev_respond (ev_put (ev_setBoot h))) (ev_respond (ev_put (ev_setBoot h))))))))

theorem ev_execSelectorWriteComplete : outEvolves r (execSelectorWriteComplete s) :=
  outEvolves_ite h (ev_setReg (ev_put (ev_setBoot (ev_drawn h))) _ _)

theorem ev_execOpenPendingExpiry {fn : Fn} {elapsedMs : Nat} : outEvolves r (execOpenPendingExpiry fn elapsedMs s) :=
  outEvolves_ite (ev_failedOpen h) h

theorem ev_execLockoutExpiry {fn : Fn} {elapsedS : Nat} : outEvolves r (execLockoutExpiry fn elapsedS s) := by
  unfold execLockoutExpiry
  split
  · exact outEvolves_ite (ev_setSession h) h
  · exact h

theorem ev_execSessionIdleExpiry {fn : Fn} {elapsedS : Nat} : outEvolves r (execSessionIdleExpiry fn elapsedS s) :=
  outEvolves_ite (ev_sessionEnds (ev_report h)) h

theorem ev_execSecProvClose {fn : Fn} {v : Word} : outEvolves r (execSecProvClose fn v s) :=
  outEvolves_ite (ev_turnedAway h) (outEvolves_ite ⟨h.pending, h.grade, h.ae, h.physOf, h.regs, h.dram, h.draws, h.epoch⟩ h)

end

section
/-! What Machine/Boot.lean defines. -/

variable {r s : State} (h : Evolves r s)
include h

/-- A power-on reset empties the registers and the DRAM, and counts itself. -/
theorem ev_powerOn : Evolves r s.powerOn :=
  ⟨h.pending, h.grade, h.ae, h.physOf, fun _ => rfl, fun _ => rfl, Nat.le_succ_of_le h.draws, Nat.le_succ_of_le h.epoch⟩

theorem ev_execResetNPulse {ns : Nat} : outEvolves r (execResetNPulse ns s) :=
  outEvolves_ite h (outEvolves_ite (ev_powerOn (ev_drawn h)) (ev_drawn h))

/-- The same with Hedgerow's registers kept. -/
theorem ev_execRailUndervoltReset : outEvolves r (execRailUndervoltReset s) := by
  have hp : Evolves r s.drawn.powerOn := ev_powerOn (ev_drawn h)
  exact ⟨hp.pending, hp.grade, hp.ae, hp.physOf, fun x => regsWf_filter (h.regs x) _, hp.dram, hp.draws, hp.epoch⟩

theorem ev_bootHeld {code : Nat} : Evolves r (s.bootHeld code) :=
  have h1 := ev_heldEvents (ev_heldCause (ev_setBoot (ev_put (ev_put (ev_put h)))))
  ev_ite h (ev_ite (ev_hdgFill h1) h1)

theorem ev_romCheck : Evolves r s.romCheck := ev_ite (ev_bootHeld (ev_on h)) (ev_setBoot (ev_on (ev_setReg (ev_setReg (ev_put (ev_put h)) _ _) _ _)))

theorem ev_hdgStart : Evolves r s.hdgStart := by
  refine ev_on ?_
  exact ⟨h.pending, h.grade, h.ae, h.physOf, fun x => regsWf_filter (h.regs x) _, h.dram, h.draws, h.epoch⟩

theorem ev_fullE : Evolves r s.fullE := ev_settleAll (ev_foldl (fun _ _ => ev_ite (ev_put (ev_put (Evolves.refl _))) (Evolves.refl _)) _ h)

theorem ev_bootStart {testEn : Bool} {flash : Flash} : Evolves r (s.bootStart testEn flash) :=
  ev_ite (ev_bootHeld (ev_setBoot (ev_ite h (ev_hdgStart h))))
    (ev_fullE (ev_foldl (fun _ _ => ev_put (Evolves.refl _)) _ (ev_setBoot (ev_ite h (ev_hdgStart h)))))

theorem ev_execBootStart {testEn : Bool} {flash : Option FlashContent} : outEvolves r (execBootStart testEn flash s) :=
  outEvolves_ite h (ev_bootStart h)

theorem ev_execRailRecoveryRelease {inRangeMs : Nat} {testEn : Bool} : outEvolves r (execRailRecoveryRelease inRangeMs testEn s) :=
  outEvolves_ite h (ev_bootStart h)

theorem ev_bcbTake {b : Bcb} : Evolves r (s.bcbTake b) := ev_fullE (ev_setBoot (ev_put (ev_put (ev_put (ev_put h)))))

theorem ev_execBootPairClassify : outEvolves r (execBootPairClassify s) := by
  unfold execBootPairClassify
  extract_lets f bank bcb reeve man version cls s1 s2 _ s3
  have h1 : Evolves r s1 := by
    unfold s1 bcb
    split
    · exact ev_bcbTake h
    · exact h
  have h2 : Evolves r s2 := ev_put (ev_setReg (ev_setReg h1 _ _) _ _)
  have h3 : Evolves r s3 := ev_setBoot (ev_put h2)
  exact outEvolves_ite h
    (outEvolves_ite (ev_bootHeld h3)
      (outEvolves_ite (ev_bootHeld h3)
        (outEvolves_ite (ev_bootHeld h3) (outEvolves_ite (ev_bootHeld h3) (outEvolves_ite (ev_bootHeld h3) h3)))))

theorem ev_wakeFails {code : Nat} : Evolves r (s.wakeFails code) := ev_heldFault (ev_setPower (ev_setBoot (ev_on h)))

theorem ev_execMemoryTrainingDone {density : Fin 3} {ranks2 : Bool} {failed : BitVec 16} :
    outEvolves r (execMemoryTrainingDone density ranks2 failed s) :=
  have h1 := ev_setPower (ev_setBoot h)
  outEvolves_ite h (outEvolves_ite (outEvolves_ite (ev_wakeFails h1) (ev_bootHeld h1)) (outEvolves_ite h1 (ev_setReg h1 _ _)))

theorem ev_execReeveStart : outEvolves r (execReeveStart s) :=
  have h1 := ev_ite (ev_report (ev_setReeve (ev_put h))) (ev_setReeve (ev_put h))
  outEvolves_ite h (ev_ite h1 (ev_heldFault h1))

theorem ev_execBootComplete {monitor : Option (BitVec 16)} : outEvolves r (execBootComplete monitor s) := by
  refine outEvolves_ite h (outEvolves_ite (ev_bootHeld h) (outEvolves_ite h ?_))
  split
  · exact ev_heldFault (ev_bootHeld h)
  · exact ev_setMode (ev_setBoot (ev_put (ev_put h)))

theorem ev_coresUp : Evolves r s.coresUp := ev_settleAll (ev_foldl (fun _ _ => ev_setReg (Evolves.refl _) _ _) _ h)

theorem ev_execPllLock {pll : Pll} : outEvolves r (execPllLock pll s) :=
  have h1 := ev_ite (ev_calDue (ev_ite (ev_coresUp (ev_put h)) (ev_put h))) (ev_ite (ev_coresUp (ev_put h)) (ev_put h))
  outEvolves_ite h (outEvolves_ite (ev_romCheck h1) h1)

theorem ev_pllLost {pll : Pll} : Evolves r (s.pllLost pll) := by
  unfold State.pllLost
  split
  · exact ev_drawn (ev_jobFault h)
  · exact ev_drawn (ev_jobFault h)
  · exact ev_setReeve (ev_drawn (ev_jobFault h))
  · exact ev_drawn (ev_jobFault h)
  · exact ev_foldl (fun _ _ => ev_klyHold (ev_off (Evolves.refl _))) _ (ev_drawn (ev_report h))
  · exact ev_ite (ev_linkDown (ev_drawn (ev_report h))) (ev_drawn (ev_report h))

theorem ev_execPllLossOfLock {pll : Pll} {refMissing : Bool} : outEvolves r (execPllLossOfLock pll refMissing s) :=
  outEvolves_ite (ev_pllLost (ev_put h)) (outEvolves_ite (ev_put h) h)

theorem ev_execCrystalLoss : outEvolves r (execCrystalLoss s) :=
  outEvolves_ite (ev_bootHeld (ev_setPower h)) (ev_foldl (fun _ _ => ev_drawn (ev_jobFault (Evolves.refl _))) _ (ev_setPower h))

theorem ev_execBankEnterRequest {fn : Fn} {v : Word} : outEvolves r (execBankEnterRequest fn v s) :=
  outEvolves_ite (ev_turnedAway h) (outEvolves_ite h (outEvolves_ite (ev_on h) (ev_bankTry h)))

theorem ev_macOff {m : Nat} : Evolves r (s.macOff m) := ev_put (ev_off h)

theorem ev_intakeStops : Evolves r s.intakeStops := ev_with (ev_foldl (fun _ _ => ev_endPulse (Evolves.refl _)) _ h)

theorem ev_bankDown : Evolves r s.bankDown :=
  ev_with
    (ev_foldl (fun _ _ => ev_setReg (Evolves.refl _) _ _) _
      (ev_foldl (fun _ _ => ev_put (Evolves.refl _)) _
        (ev_foldl (fun _ _ => ev_put (Evolves.refl _)) _
          (ev_foldl (fun _ _ => ev_macOff (Evolves.refl _)) _
            (ev_foldl (fun _ _ => ev_ite (ev_klyDown (Evolves.refl _)) (Evolves.refl _)) _
              (ev_foldl (fun _ _ => ev_portDown (Evolves.refl _)) _ (ev_intakeStops h)))))))

theorem ev_execBankEntryComplete : outEvolves r (execBankEntryComplete s) :=
  have h1 := ev_bump (ev_put (ev_ite (ev_tbEnter (ev_bankDown h)) (ev_bankDown h)))
  outEvolves_ite h (ev_ite (ev_wakeStart h1) h1)

theorem ev_execWakeRequest {fn : Fn} {v : Word} : outEvolves r (execWakeRequest fn v s) :=
  outEvolves_ite (ev_turnedAway h) (outEvolves_ite (ev_wakeAsked h) h)

theorem ev_gridCatchUp : Evolves r s.gridCatchUp := by
  refine ev_ite ?_ (ev_setReg (ev_setTb ?_) _ _)
  · split
    · exact ev_ite (ev_gridAdvance h) h
    · exact h
  · split
    · exact ev_ite (ev_gridAdvance h) h
    · exact h

theorem ev_blocksUp : Evolves r s.blocksUp :=
  ev_foldl (fun _ _ => ev_ite (ev_ethStart (Evolves.refl _)) (Evolves.refl _)) _
    (ev_foldl (fun _ _ => ev_ite (ev_klyTrainFirst (Evolves.refl _)) (Evolves.refl _)) _
      (ev_foldl (fun _ _ => ev_ite (ev_portRestart (Evolves.refl _)) (Evolves.refl _)) _ (ev_foldl (fun _ _ => ev_setReg (Evolves.refl _) _ _) _ h)))

theorem ev_execKnownAnswerTest {k : CoreId} {pass : Bool} : outEvolves r (execKnownAnswerTest k pass s) := by
  refine outEvolves_ite h ?_
  split
  · exact ev_settleE (ev_nextCore (ev_tested h))
  · exact
      have h1 := ev_poolReset (ev_tested h)
      outEvolves_ite h (outEvolves_ite (ev_setPower h1) (ev_ite (ev_blocksUp (ev_setBoot h1)) (ev_setBoot h1)))

theorem ev_execWakeComplete : outEvolves r (execWakeComplete s) := by
  unfold execWakeComplete
  split
  · exact outEvolves_ite h
      (outEvolves_ite (ev_wakeFails (ev_reachTick h))
        (ev_ite (ev_gridCatchUp (ev_put (ev_setPower (ev_reachTick h)))) (ev_put (ev_setPower (ev_reachTick h)))))
  · exact h

end

section
/-! What Machine/Can.lean defines. -/

variable {r s : State} (h : Evolves r s)
include h

theorem ev_canReject : Evolves r s.canReject := ev_on h

theorem ev_canRelease : Evolves r s.canRelease := ev_ite (ev_off h) h

theorem ev_canSettle {c : Nat} : Evolves r (s.canSettle c) := ev_ite (ev_report (ev_bump (ev_put h))) (ev_ite (ev_canRelease (ev_put h)) h)

theorem ev_busoffAct : Evolves r s.busoffAct := by
  refine ev_ite (ev_setVeh (ev_put (ev_on h))) ?_
  split
  · exact ev_setVeh h
  · exact h

theorem ev_can0Fail : Evolves r s.can0Fail := ev_ite (ev_setVeh (ev_report (ev_put (ev_on h)))) h

theorem ev_busoff0 : Evolves r s.busoff0 := ev_can0Fail (ev_setVeh (ev_busoffAct (ev_setVeh (ev_report (ev_bump (ev_put (ev_put h)))))))

theorem ev_busoff1 : Evolves r s.busoff1 := ev_setVeh (ev_report (ev_bump (ev_put (ev_put h))))

theorem ev_busoff {c : Nat} : Evolves r (s.busoff c) := ev_ite (ev_busoff0 h) (ev_busoff1 h)

theorem ev_canDataError {c : Nat} : Evolves r (s.canDataError c) :=
  ev_ite h (ev_ite (ev_report (ev_off (ev_put (ev_setVeh (ev_setVeh h))))) (ev_setVeh h))

theorem ev_execCanTxError {c : Fin 2} {dataPhase exempt : Bool} : outEvolves r (execCanTxError c dataPhase exempt s) :=
  have h1 := ev_ite (ev_canDataError h) h
  outEvolves_ite h (outEvolves_ite h1 (outEvolves_ite (ev_busoff h1) (ev_canSettle (ev_put h1))))

theorem ev_execCanReceiveError {c : Fin 2} {by8 : Bool} : outEvolves r (execCanReceiveError c by8 s) := outEvolves_ite h (ev_canSettle (ev_put h))

theorem ev_execCanBusoffRecoveryDone {c : Fin 2} : outEvolves r (execCanBusoffRecoveryDone c s) :=
  outEvolves_ite h (ev_canRelease (ev_put (ev_put (ev_put (ev_setVeh h)))))

theorem ev_execCanHoldExpiry {elapsedMs : Nat} : outEvolves r (execCanHoldExpiry elapsedMs s) := outEvolves_ite (ev_canRelease (ev_setVeh h)) h

theorem ev_canRamError {c : Nat} : Evolves r (s.canRamError c) := ev_ite (ev_busoff0 (ev_report h)) (ev_report h)

theorem ev_txbDone {b status : Nat} : Evolves r (s.txbDone b status) := ev_off (ev_put h)

theorem ev_canEmit {c : Nat} {f : CanFrame} : Evolves r (s.canEmit c f) := ev_emit h

theorem ev_canSent {c : Nat} : Evolves r (s.canSent c) := ev_canSettle (ev_put (ev_put h))

theorem ev_safeStopSent {bs : List Byte} : Evolves r (s.safeStopSent bs) := ev_canRelease (ev_setVeh (ev_canEmit h))

theorem ev_can0Send : Evolves r s.can0Send := by
  unfold State.can0Send
  split
  · exact ev_ite (ev_canSent (ev_safeStopSent (ev_setVeh h))) (ev_canSent (ev_safeStopSent (ev_setVeh h)))
  · exact ev_canSent (ev_safeStopSent (ev_setVeh h))
  · exact ev_canSent (ev_safeStopSent (ev_setVeh h))
  · exact ev_canSent (ev_canEmit (ev_setVeh h))
  · exact h

theorem ev_can1Send : Evolves r s.can1Send := by
  unfold State.can1Send
  split
  · exact ev_canSent (ev_canEmit (ev_bump (ev_setVeh h)))
  · split
    · exact ev_canSent (ev_canEmit (ev_txbDone h))
    · exact h

theorem ev_can1Discard : Evolves r s.can1Discard := by
  unfold State.can1Discard
  split
  · exact ev_setVeh h
  · split
    · exact ev_txbDone h
    · exact h

theorem ev_execCanTxComplete {c : Fin 2} {ramError : Bool} : outEvolves r (execCanTxComplete c ramError s) :=
  outEvolves_ite h
    (outEvolves_ite (outEvolves_ite (ev_canRamError h) (ev_can0Send h))
      (outEvolves_ite h (outEvolves_ite (ev_can1Discard (ev_canRamError h)) (ev_can1Send h))))

theorem ev_execSafeStopSupervisionExpiry {hedgerow : Bool} {elapsedMs : Nat} :
    outEvolves r (execSafeStopSupervisionExpiry hedgerow elapsedMs s) := by
  unfold execSafeStopSupervisionExpiry
  split
  · exact ev_report (ev_setVeh h)
  · exact h

theorem ev_execCanTxRequest {fn : Fn} {b : Fin 16} {v : Word} : outEvolves r (execCanTxRequest fn b v s) :=
  outEvolves_ite (ev_turnedAway h) (outEvolves_ite (ev_put (ev_plainWrite (ev_off h))) h)

theorem ev_execCanTxAbort {fn : Fn} {b : Fin 16} {v : Word} : outEvolves r (execCanTxAbort fn b v s) :=
  outEvolves_ite (ev_turnedAway h) (outEvolves_ite (outEvolves_ite (ev_txbDone (ev_plainWrite h)) (ev_plainWrite h)) h)

theorem ev_execCanTxTimeout {b : Fin 16} {elapsedMs : Nat} : outEvolves r (execCanTxTimeout b elapsedMs s) :=
  outEvolves_ite (ev_bump (ev_txbDone h)) h

theorem ev_rxPush {e : RxEntry} : Evolves r (s.rxPush e) := ev_ite (ev_bump h) (ev_setReg (ev_setVeh h) _ _)

theorem ev_execCanFrameReceive {c : Fin 2} {f : CanFrame} {ramError : Bool} {t : Nat} : outEvolves r (execCanFrameReceive c f ramError t s) :=
  have h1 := ev_canSettle (ev_put (ev_drawn (ev_reach h)))
  have h2 := ev_ite (ev_violation (ev_bump h1)) h1
  outEvolves_ite (ev_reach h)
    (outEvolves_ite (ev_canRamError (ev_reach h)) (outEvolves_ite (ev_bump h2) (outEvolves_ite h2 (outEvolves_ite (ev_rxPush (ev_drawn h2)) h2))))

theorem ev_execCanRxfPop {fn : Fn} {v : Word} : outEvolves r (execCanRxfPop fn v s) :=
  outEvolves_ite (ev_turnedAway h) (outEvolves_ite (ev_setReg (ev_setVeh h) _ _) h)

theorem ev_canCtrlWrite {c : Nat} {v : Word} : Evolves r (s.canCtrlWrite c v) :=
  ev_ite (ev_canReject h)
    (ev_ite (ev_ite (ev_plainWrite h) (ev_put (ev_put (ev_put (ev_plainWrite h))))) (ev_ite (ev_put (ev_plainWrite h)) (ev_plainWrite h)))

theorem ev_execCanRateRestore {fn : Fn} {c : Fin 2} {v : Word} : outEvolves r (execCanRateRestore fn c v s) :=
  outEvolves_ite (ev_turnedAway h) (outEvolves_ite h (outEvolves_ite (ev_on (ev_put h)) (ev_canCtrlWrite (ev_on (ev_put h)))))

theorem ev_execSafeStopReadbackFault {elapsedUs : Nat} : outEvolves r (execSafeStopReadbackFault elapsedUs s) := outEvolves_ite (ev_heldFault h) h

theorem ev_execSafeStopExternalLow : outEvolves r (execSafeStopExternalLow s) := outEvolves_ite h (ev_report (ev_on h))

end

section
/-! What Machine/Conversation.lean defines. -/

variable {r s : State} (h : Evolves r s)
include h

theorem ev_ctInvalid {w : WinWrite} : Evolves r (s.ctInvalid w) :=
  ev_ite (ev_jobFault (ev_bump h)) (ev_ite (ev_jobError (ev_violation (ev_bump h))) (ev_violation (ev_bump h)))

theorem ev_ctWord {op : Nat} {f : State → WinWrite → Nat → Nat → State} (hf : ∀ s w i v, Evolves s (f s w i v)) :
    outEvolves r (s.ctWord op f) := by
  unfold State.ctWord
  split
  · exact outEvolves_ite (Evolves.trans (ev_with h) (hf ..)) (outEvolves_ite (ev_ctInvalid (ev_with h)) h)
  · exact h

theorem ev_execCtBind : outEvolves r (execCtBind s) :=
  ev_ctWord h (fun _ _ _ _ => ev_ite (ev_ctInvalid (Evolves.refl _)) (ev_setSlot (Evolves.refl _)))

theorem ev_execCtRequest : outEvolves r (execCtRequest s) :=
  ev_ctWord h (fun _ _ _ _ => ev_ite (ev_ctInvalid (Evolves.refl _)) (ev_setSlot (Evolves.refl _)))

theorem ev_execCtDone : outEvolves r (execCtDone s) :=
  ev_ctWord h (fun _ _ _ _ => ev_ite (ev_ctInvalid (Evolves.refl _)) (ev_ite (ev_setSlot (Evolves.refl _)) (Evolves.refl _)))

theorem ev_execCtTouch : outEvolves r (execCtTouch s) :=
  ev_ctWord h (fun _ _ _ _ => ev_ite (ev_ctInvalid (Evolves.refl _)) (ev_ite (ev_setSlot (Evolves.refl _)) (Evolves.refl _)))

theorem ev_execCtUnbind : outEvolves r (execCtUnbind s) :=
  ev_ctWord h (fun _ _ _ _ => ev_ite (ev_ctInvalid (Evolves.refl _)) (ev_setSlot (Evolves.refl _)))

theorem ev_execCtRequestExpiry {slot : Fin 1024} {elapsedMs : Nat} : outEvolves r (execCtRequestExpiry slot elapsedMs s) :=
  outEvolves_ite (outEvolves_ite (ev_setSlot h) (ev_requestExpired h)) h

theorem ev_execCtDormancyExpiry {slot : Fin 1024} {elapsedS : Nat} : outEvolves r (execCtDormancyExpiry slot elapsedS s) :=
  outEvolves_ite (outEvolves_ite (ev_bump (ev_violation (ev_setSlot h))) (ev_bump (ev_setSlot (ev_setQueue h)))) h

end

section
/-! What Machine/RegRead.lean defines. -/

variable {r s : State} (h : Evolves r s)
include h

theorem ev_readCleared {fn : Fn} {off : Nat} : Evolves r (s.readCleared fn off) := by
  unfold State.readCleared
  split
  · exact ev_ite (ev_setReg h _ _) h
  · exact h

theorem ev_readReg {fn : Fn} {off : Nat} : Evolves r (s.readReg fn off) := ev_readCleared (ev_ite (ev_drawn (ev_with h)) (ev_with h))

theorem ev_hiCaptured {fn : Fn} {off : Nat} : Evolves r (s.hiCaptured fn off) := ev_ite (ev_with h) h

theorem ev_execReadClear {fn : Fn} {off : BitVec 25} : outEvolves r (execReadClear fn off s) :=
  outEvolves_ite (ev_turnedAway h) (ev_readReg (ev_hiCaptured h))

theorem ev_execPairLoRead {fn : Fn} {off : BitVec 25} : outEvolves r (execPairLoRead fn off s) :=
  outEvolves_ite (ev_turnedAway h) (outEvolves_ite (ev_readReg (ev_hiCaptured h)) h)

end

section
/-! What Machine/RegIntake.lean defines. -/

variable {r s : State} (h : Evolves r s)
include h

theorem ev_guarded {ok : Bool} {rejected : Fld} {key : Nat} {v : Word} : Evolves r (s.guarded ok rejected key v) :=
  ev_ite h (ev_ite (ev_plainWrite h) (ev_on h))

theorem ev_portCfgWrite {fn : Fn} {p : Fin 4} {v : Word} : Evolves r (s.portCfgWrite fn p v) :=
  ev_ite (ev_ite (ev_guarded h) (ev_outState (ev_execMillPortDisable h))) (ev_ite (ev_outState (ev_execMillPortEnable h)) (ev_guarded h))

theorem ev_trigCfgWrite {i : Nat} {v : Word} : Evolves r (s.trigCfgWrite i v) :=
  have h1 := ev_ite (ev_endPulse (ev_plainWrite h)) (ev_plainWrite h)
  ev_ite (ev_ite (ev_setReg (ev_setReg h1 _ _) _ _) h1) (ev_millReject h)

theorem ev_grpCfgWrite {g : Nat} {v : Word} : Evolves r (s.grpCfgWrite g v) :=
  have h1 := ev_ite (ev_setGrp (ev_plainWrite h)) (ev_plainWrite h)
  ev_ite (ev_ite (ev_setReg (ev_setReg (ev_setReg h1 _ _) _ _) _ _) h1) (ev_millReject h)

theorem ev_strmCtrlWrite {fn : Fn} {k : Fin 24} {v : Word} : Evolves r (s.strmCtrlWrite fn k v) :=
  ev_ite (ev_guarded h) (ev_ite (ev_outState (ev_execStreamEnable h)) (ev_guarded h))

theorem ev_strmWrite {fn : Fn} {k : Fin 24} {r' : Nat} {v : Word} : Evolves r (s.strmWrite fn k r' v) :=
  ev_ite (ev_strmCtrlWrite h) (ev_ite (ev_outState (ev_execSlotRelease h)) (ev_guarded h))

theorem ev_millRegWrite {fn : Fn} {off : Nat} {v : Word} : Evolves r (s.millRegWrite fn off v) :=
  ev_ite (ev_plainWrite h)
    (ev_ite (ev_millReject h)
      (ev_ite (ev_portCfgWrite h)
        (ev_ite (ev_guarded h)
          (ev_ite (ev_outState (ev_execI2cRun h))
            (ev_ite (ev_ite (ev_trigCfgWrite h) (ev_guarded h))
              (ev_ite (ev_ite (ev_grpCfgWrite h) (ev_ite (ev_outState (ev_execGroupTailWrite h)) (ev_guarded h)))
                (ev_ite (ev_strmWrite h) (ev_ite (ev_guarded h) (ev_ite (ev_guarded h) h)))))))))

theorem ev_sieveRegWrite {off : Nat} {v : Word} : Evolves r (s.sieveRegWrite off v) :=
  ev_ite (ev_plainWrite h) (ev_ite (ev_on h) (ev_ite (ev_guarded h) h))

theorem ev_intakePair {lo : Nat} {v : DWord} : Evolves r (s.intakePair lo v) :=
  ev_ite (ev_ite (ev_millReject h) (ev_setReg64 h)) (ev_ite (ev_on h) (ev_setReg64 h))

end

section
/-! What Machine/RegHost.lean defines. -/

variable {r s : State} (h : Evolves r s)
include h

theorem ev_ctxWrite {fn : Fn} {i : Nat} {v : Word} : Evolves r (s.ctxWrite fn i v) := ev_ite h (ev_ite (ev_qmReject h) (ev_setQueue h))

theorem ev_qctlWrite {fn : Fn} {v : Word} : Evolves r (s.qctlWrite fn v) := by
  unfold State.qctlWrite
  split
  · exact ev_outState (ev_execQueueEnable h)
  · exact ev_outState (ev_execQueueDisable h)
  · exact ev_outState (ev_execQueueResumeReplay h)
  · exact ev_outState (ev_execQueueResumeSkip h)
  · exact ev_ite (ev_qmReject h) h

theorem ev_qmRegWrite {fn : Fn} {off : Nat} {v : Word} : Evolves r (s.qmRegWrite fn off v) :=
  ev_ite (ev_plainWrite h)
    (ev_ite (ev_ite (ev_plainWrite h) (ev_qmReject h))
      (ev_ite (ev_qctlWrite h) (ev_ite (ev_ctxWrite h) (ev_ite (ev_guarded h) (ev_ite (ev_guarded h) (ev_guarded h))))))

theorem ev_partBlockWrite {fn : Fn} {p : Sys2Proof.Part} {r' : Nat} {v : Word} : Evolves r (s.partBlockWrite fn p r' v) :=
  ev_ite (ev_outState (ev_execPartWinWrite h))
    (ev_ite (ev_outState (ev_execDramRegulatorWrite h))
      (ev_ite (ev_ite (ev_ite (ev_partReject h) h) (ev_guarded h)) (ev_ite (ev_guarded h) (ev_guarded h))))

theorem ev_partRegWrite {fn : Fn} {off : Nat} {v : Word} : Evolves r (s.partRegWrite fn off v) :=
  ev_ite (ev_partCtrlWrite h)
    (ev_ite (ev_outState (ev_execPartResetWrite h))
      (ev_ite (ev_outState (ev_execDramRegulatorWrite h)) (ev_ite (ev_guarded h) (ev_ite (ev_partBlockWrite h) (ev_guarded h)))))

theorem ev_klyRegWrite {fn : Fn} {off : Nat} {v : Word} : Evolves r (s.klyRegWrite fn off v) :=
  ev_ite (ev_ite (ev_klyCtrlWrite h) h)
    (ev_ite (ev_outState (ev_execTriggerDescriptorWrite h))
      (ev_ite (ev_outState (ev_execTriggerDescriptorWrite h)) (ev_ite (ev_guarded h) (ev_guarded h))))

theorem ev_canCtlRegWrite {fn : Fn} {c : Fin 2} {r' : Nat} {v : Word} : Evolves r (s.canCtlRegWrite fn c r' v) :=
  ev_ite (ev_ite (ev_outState (ev_execCanRateRestore h)) (ev_canCtrlWrite h)) (ev_guarded h)

theorem ev_txbWrite {fn : Fn} {b : Fin 16} {r' : Nat} {v : Word} : Evolves r (s.txbWrite fn b r' v) :=
  ev_ite (ev_ite (ev_outState (ev_execCanTxRequest h)) (ev_ite (ev_outState (ev_execCanTxAbort h)) (ev_plainWrite h)))
    (ev_ite (ev_guarded h) (ev_ite (ev_guarded h) (ev_plainWrite h)))

theorem ev_canRegWrite {fn : Fn} {off : Nat} {v : Word} : Evolves r (s.canRegWrite fn off v) :=
  ev_ite (ev_canCtlRegWrite h)
    (ev_ite (ev_guarded h) (ev_ite (ev_guarded h) (ev_ite (ev_txbWrite h) (ev_ite (ev_outState (ev_execCanRxfPop h)) (ev_guarded h)))))

theorem ev_ethCfgWrite {fn : Fn} {m : Fin 5} {v : Word} : Evolves r (s.ethCfgWrite fn m v) :=
  ev_ite (ev_outState (ev_execEthEnable h)) (ev_ite (ev_put (ev_off (ev_setReg h _ _))) (ev_setReg h _ _))

theorem ev_ethRegWrite {fn : Fn} {off : Nat} {v : Word} : Evolves r (s.ethRegWrite fn off v) :=
  ev_ite (ev_on h) (ev_ite (ev_ethCfgWrite h) (ev_guarded h))

theorem ev_secRegWrite {fn : Fn} {off : Nat} {v : Word} : Evolves r (s.secRegWrite fn off v) :=
  ev_ite (ev_outState (ev_execMailboxDoorbell h))
    (ev_ite (ev_guarded h) (ev_ite h (ev_ite (ev_plainWrite h) (ev_ite (ev_outState (ev_execSecProvClose h)) (ev_ite (ev_guarded h) h)))))

theorem ev_grnCtrlWrite {fn : Fn} {v : Word} : Evolves r (s.grnCtrlWrite fn v) := ev_ite (ev_plainWrite h) (ev_outState (ev_execPoolDisable h))

theorem ev_hrtRegWrite {fn : Fn} {off : Nat} {v : Word} : Evolves r (s.hrtRegWrite fn off v) :=
  ev_ite (ev_plainWrite h)
    (ev_ite (ev_on h)
      (ev_ite (ev_guarded h)
        (ev_ite (ev_guarded h) (ev_ite (ev_grnCtrlWrite h) (ev_ite (ev_outState (ev_execGrnOwnClear h)) (ev_ite (ev_guarded h) (ev_guarded h)))))))

theorem ev_pwrRegWrite {fn : Fn} {off : Nat} {v : Word} : Evolves r (s.pwrRegWrite fn off v) :=
  ev_ite (ev_outState (ev_execSpllCalRequest h))
    (ev_ite (ev_guarded h)
      (ev_ite (ev_guarded h)
        (ev_ite (ev_guarded h) (ev_ite (ev_outState (ev_execBankEnterRequest h)) (ev_ite (ev_outState (ev_execWakeRequest h)) (ev_guarded h))))))

end

section
/-! What Machine/Registers.lean defines. -/

variable {r s : State} (h : Evolves r s)
include h

theorem ev_topoWrite {v : Word} : Evolves r (s.topoWrite v) := ev_ite (ev_setReg h _ _) (ev_on h)

theorem ev_execSysTopoWrite {fn : Fn} {v : Word} : outEvolves r (execSysTopoWrite fn v s) :=
  outEvolves_ite (ev_turnedAway h) (outEvolves_ite (ev_topoWrite h) h)

theorem ev_tbRegWrite {fn : Fn} {off : Nat} {v : Word} : Evolves r (s.tbRegWrite fn off v) :=
  ev_ite (ev_tbCtrlWrite h)
    (ev_ite (ev_guarded h) (ev_ite (ev_framePeriodWrite h) (ev_ite (ev_frameApplyWrite h) (ev_ite (ev_fdlCfgWrite h) (ev_guarded h)))))

theorem ev_regWrite {fn : Fn} {off : Nat} {v : Word} : Evolves r (s.regWrite fn off v) :=
  ev_ite (ev_ite (ev_topoWrite h) h)
    (ev_ite (ev_tbRegWrite h)
      (ev_ite (ev_ite (ev_linkCfgWrite h) h)
        (ev_ite (ev_pwrRegWrite h)
          (ev_ite h
            (ev_ite (ev_millRegWrite h)
              (ev_ite (ev_sieveRegWrite h)
                (ev_ite (ev_qmRegWrite h)
                  (ev_ite (ev_partRegWrite h)
                    (ev_ite (ev_klyRegWrite h)
                      (ev_ite (ev_canRegWrite h)
                        (ev_ite (ev_ethRegWrite h)
                          (ev_ite (ev_secRegWrite h) (ev_ite (ev_hrtRegWrite h) (ev_ite h (ev_ite (ev_plainWrite h) (ev_guarded h))))))))))))))))

theorem ev_doorbell {fn : Fn} {off : Nat} {v : Word} : Evolves r (s.doorbell fn off v) :=
  ev_ite (ev_outState (ev_execSqDb h)) (ev_outState (ev_execCqDb h))

theorem ev_pairWrite {lo : Nat} {v : DWord} : Evolves r (s.pairWrite lo v) :=
  ev_ite (ev_ite (ev_tbReject h) (ev_setReg64 h)) (ev_ite (ev_ite (ev_on h) (ev_setReg64 h)) (ev_intakePair h))

theorem ev_loWrite {fn : Fn} {off : Nat} {v : Word} : Evolves r (s.loWrite fn off v) := ev_ite (ev_with h) h

theorem ev_hiWrite {fn : Fn} {off : Nat} {v : Word} : Evolves r (s.hiWrite fn off v) :=
  ev_ite (ev_ite (ev_outState (ev_execTbSet h)) (ev_loTaken (ev_pairWrite h))) h

theorem ev_softWrite {fn : Fn} {off : Nat} {v : Word} : Evolves r (s.softWrite fn off v) :=
  ev_ite (ev_ite (ev_doorbell h) h) (ev_ite (ev_loWrite h) (ev_ite (ev_hiWrite h) (ev_ite (ev_regWrite h) h)))

theorem ev_execRegisterWrite {fn : Fn} {off : BitVec 25} {v : Word} : outEvolves r (execRegisterWrite fn off v s) :=
  outEvolves_ite (ev_turnedAway h) (ev_softWrite h)

theorem ev_execPairLoWrite {fn : Fn} {off : BitVec 25} {v : Word} : outEvolves r (execPairLoWrite fn off v s) :=
  outEvolves_ite (ev_turnedAway h) (ev_loWrite h)

theorem ev_execPairHiWrite {fn : Fn} {off : BitVec 25} {v : Word} : outEvolves r (execPairHiWrite fn off v s) :=
  outEvolves_ite (ev_turnedAway h) (ev_hiWrite h)

end

section
/-! What Machine/Scan.lean defines. -/

variable {r s : State} (h : Evolves r s)
include h

theorem ev_execBoundaryScanAccess {trstN tms tdi : Bool} {sample : List Bool} : outEvolves r (execBoundaryScanAccess trstN tms tdi sample s) :=
  outEvolves_ite (ev_with h) (ev_with (ev_ite (ev_drawn h) h))

end

/-- Whatever the command, its meaning is a next state that follows the state it found. -/
theorem exec_evolves (c : Instr) (s : State) : outEvolves s (exec c s) := by
  have h := Evolves.refl s
  unfold exec
  cases c with
  | registerWrite => exact ev_execRegisterWrite h
  | readClear => exact ev_execReadClear h
  | pairLoRead => exact ev_execPairLoRead h
  | pairLoWrite => exact ev_execPairLoWrite h
  | pairHiWrite => exact ev_execPairHiWrite h
  | sysTopoWrite => exact ev_execSysTopoWrite h
  | dramReadReturn => exact ev_execDramReadReturn h
  | dramWriteComplete => exact ev_execDramWriteComplete h
  | dramScrubRead => exact ev_execDramScrubRead h
  | mr4Poll => exact ev_execMr4Poll h
  | refreshManagement => exact ev_execRefreshManagement h
  | memoryTrainingDone => exact ev_execMemoryTrainingDone h
  | timebaseTick => exact ev_execTimebaseTick h
  | ppsEdge => exact ev_execPpsEdge h
  | trigInEdge => exact ev_execTrigInEdge h
  | disciplineMessage => exact ev_execDisciplineMessage h
  | measurementLossExpiry => exact ev_execMeasurementLossExpiry h
  | holdoverLimitExpiry => exact ev_execHoldoverLimitExpiry h
  | frameEnable => exact ev_execFrameEnable h
  | frameDisable => exact ev_execFrameDisable h
  | tbSourceChange => exact ev_execTbSourceChange h
  | tbSet => exact ev_execTbSet h
  | tbFramePeriodWrite => exact ev_execTbFramePeriodWrite h
  | tbFrameApplyWrite => exact ev_execTbFrameApplyWrite h
  | tbFdlCfgWrite => exact ev_execTbFdlCfgWrite h
  | frameBoundary => exact ev_execFrameBoundary h
  | frameDeadlineMiss => exact ev_execFrameDeadlineMiss h
  | tbCrosscheckWindow => exact ev_execTbCrosscheckWindow h
  | hedgerowHcbLoad => exact ev_execHedgerowHcbLoad h
  | hedgerowPacket => exact ev_execHedgerowPacket h
  | fieldEvaluation => exact ev_execFieldEvaluation h
  | hedgerowInputTimeout => exact ev_execHedgerowInputTimeout h
  | hedgerowReleaseExpiry => exact ev_execHedgerowReleaseExpiry h
  | fallbackMaxExpiry => exact ev_execFallbackMaxExpiry h
  | heartbeatSend => exact ev_execHeartbeatSend h
  | reeveHeartbeatLoss => exact ev_execReeveHeartbeatLoss h
  | hedgerowHeartbeatLoss => exact ev_execHedgerowHeartbeatLoss h
  | reeveLockstepMismatch => exact ev_execReeveLockstepMismatch h
  | hdgSupplyFault => exact ev_execHdgSupplyFault h
  | reeveClearance => exact ev_execReeveClearance h
  | perceptionStatusSend => exact ev_execPerceptionStatusSend h
  | safeStopQueue => exact ev_execSafeStopQueue h
  | safeStopPeriodic => exact ev_execSafeStopPeriodic h
  | selfTestRun => exact ev_execSelfTestRun h
  | selfTestOverdue => exact ev_execSelfTestOverdue h
  | millPortEnable => exact ev_execMillPortEnable h
  | millPortDisable => exact ev_execMillPortDisable h
  | portLockTimeout => exact ev_execPortLockTimeout h
  | i2cRun => exact ev_execI2cRun h
  | scriptWrite => exact ev_execScriptWrite h
  | scriptWait => exact ev_execScriptWait h
  | scriptPoll => exact ev_execScriptPoll h
  | scriptEnd => exact ev_execScriptEnd h
  | scriptInvalidOp => exact ev_execScriptInvalidOp h
  | csiFrameStart => exact ev_execCsiFrameStart h
  | csiFrameEnd => exact ev_execCsiFrameEnd h
  | csiLongPacket => exact ev_execCsiLongPacket h
  | rangePacket => exact ev_execRangePacket h
  | parserEnd => exact ev_execParserEnd h
  | parserLd8 => exact ev_execParserLd8 h
  | parserLd16 => exact ev_execParserLd16 h
  | parserLd32 => exact ev_execParserLd32 h
  | parserLdi => exact ev_execParserLdi h
  | parserLui => exact ev_execParserLui h
  | parserAlu => exact ev_execParserAlu h
  | parserShift => exact ev_execParserShift h
  | parserMul => exact ev_execParserMul h
  | parserAddi => exact ev_execParserAddi h
  | parserLut => exact ev_execParserLut h
  | parserBranch => exact ev_execParserBranch h
  | parserEmit => exact ev_execParserEmit h
  | parserStamp => exact ev_execParserStamp h
  | parserSweep => exact ev_execParserSweep h
  | parserSeq => exact ev_execParserSeq h
  | parserReject => exact ev_execParserReject h
  | parserInvalidOp => exact ev_execParserInvalidOp h
  | parserRunLimit => exact ev_execParserRunLimit h
  | frameAssemblyTimeout => exact ev_execFrameAssemblyTimeout h
  | triggerFire => exact ev_execTriggerFire h
  | triggerPulseEnd => exact ev_execTriggerPulseEnd h
  | triggerWindowEnd => exact ev_execTriggerWindowEnd h
  | groupCollectClose => exact ev_execGroupCollectClose h
  | millGroupPost => exact ev_execMillGroupPost h
  | slotRelease => exact ev_execSlotRelease h
  | streamEnable => exact ev_execStreamEnable h
  | groupTailWrite => exact ev_execGroupTailWrite h
  | decodeLine => exact ev_execDecodeLine h
  | sieveListRead => exact ev_execSieveListRead h
  | jobDispatch => exact ev_execJobDispatch h
  | tallyCfgLoad => exact ev_execTallyCfgLoad h
  | instructionFetch => exact ev_execInstructionFetch h
  | saluAlu => exact ev_execSaluAlu h
  | saluShift => exact ev_execSaluShift h
  | saluMul => exact ev_execSaluMul h
  | saluMinmax => exact ev_execSaluMinmax h
  | saluCompare => exact ev_execSaluCompare h
  | addh => exact ev_execAddh h
  | mova => exact ev_execMova h
  | movs => exact ev_execMovs h
  | adda => exact ev_execAdda h
  | li64 => exact ev_execLi64 h
  | ld => exact ev_execLd h
  | ldReturn => exact ev_execLdReturn h
  | st => exact ev_execSt h
  | storeBufferDrain => exact ev_execStoreBufferDrain h
  | gld => exact ev_execGld h
  | gst => exact ev_execGst h
  | branch => exact ev_execBranch h
  | j => exact ev_execJ h
  | jr => exact ev_execJr h
  | jal => exact ev_execJal h
  | endJob => exact ev_execEndJob h
  | sigchk => exact ev_execSigchk h
  | sigchki => exact ev_execSigchki h
  | sigset => exact ev_execSigset h
  | tinc => exact ev_execTinc h
  | twait => exact ev_execTwait h
  | tget => exact ev_execTget h
  | barc => exact ev_execBarc h
  | balloc => exact ev_execBalloc h
  | ballocFillComplete => exact ev_execBallocFillComplete h
  | bfree => exact ev_execBfree h
  | bfreeTagsFree => exact ev_execBfreeTagsFree h
  | opaCfg => exact ev_execOpaCfg h
  | mma => exact ev_execMma h
  | arrayStep => exact ev_execArrayStep h
  | drain => exact ev_execDrain h
  | drainComplete => exact ev_execDrainComplete h
  | opaZero => exact ev_execOpaZero h
  | vecArith => exact ev_execVecArith h
  | vecUnary => exact ev_execVecUnary h
  | vecLogic => exact ev_execVecLogic h
  | vecShift => exact ev_execVecShift h
  | vcmp => exact ev_execVcmp h
  | vsel => exact ev_execVsel h
  | vcvt => exact ev_execVcvt h
  | vred => exact ev_execVred h
  | vlut => exact ev_execVlut h
  | vbc => exact ev_execVbc h
  | vld => exact ev_execVld h
  | vst => exact ev_execVst h
  | vpop => exact ev_execVpop h
  | vmov => exact ev_execVmov h
  | xfer => exact ev_execXfer h
  | peelTransferIssue => exact ev_execPeelTransferIssue h
  | peelTransferComplete => exact ev_execPeelTransferComplete h
  | peelCompletionTimeout => exact ev_execPeelCompletionTimeout h
  | watchdogExpiry => exact ev_execWatchdogExpiry h
  | tallyWaitTimeout => exact ev_execTallyWaitTimeout h
  | jobRetire => exact ev_execJobRetire h
  | backgroundParityCheck => exact ev_execBackgroundParityCheck h
  | granaryWriteback => exact ev_execGranaryWriteback h
  | granaryScrub => exact ev_execGranaryScrub h
  | poolDisable => exact ev_execPoolDisable h
  | grnOwnClear => exact ev_execGrnOwnClear h
  | sqDb => exact ev_execSqDb h
  | cqDb => exact ev_execCqDb h
  | descriptorFetch => exact ev_execDescriptorFetch h
  | queueEnable => exact ev_execQueueEnable h
  | queueDisable => exact ev_execQueueDisable h
  | queueResumeReplay => exact ev_execQueueResumeReplay h
  | queueResumeSkip => exact ev_execQueueResumeSkip h
  | preemptionRequest => exact ev_execPreemptionRequest h
  | coreSaveComplete => exact ev_execCoreSaveComplete h
  | jobResume => exact ev_execJobResume h
  | completionRecordWrite => exact ev_execCompletionRecordWrite h
  | coalesceExpiry => exact ev_execCoalesceExpiry h
  | jobDeadlineExpiry => exact ev_execJobDeadlineExpiry h
  | partPercWrite => exact ev_execPartPercWrite h
  | partLock => exact ev_execPartLock h
  | partResetWrite => exact ev_execPartResetWrite h
  | partitionResetComplete => exact ev_execPartitionResetComplete h
  | partWinWrite => exact ev_execPartWinWrite h
  | dramRegulatorWrite => exact ev_execDramRegulatorWrite h
  | regulatorPeriod => exact ev_execRegulatorPeriod h
  | requestAdmit => exact ev_execRequestAdmit h
  | granaryBalanceRefill => exact ev_execGranaryBalanceRefill h
  | jobLostAnnounce => exact ev_execJobLostAnnounce h
  | msixSend => exact ev_execMsixSend h
  | klyPortEnable => exact ev_execKlyPortEnable h
  | klyPortDisable => exact ev_execKlyPortDisable h
  | klyPllChannelLock => exact ev_execKlyPllChannelLock h
  | klyTrainAttemptTimeout => exact ev_execKlyTrainAttemptTimeout h
  | klyTrainingLimit => exact ev_execKlyTrainingLimit h
  | klyTrainFrame => exact ev_execKlyTrainFrame h
  | klyTrainingPass => exact ev_execKlyTrainingPass h
  | klyDataFrame => exact ev_execKlyDataFrame h
  | klyRack => exact ev_execKlyRack h
  | klyAck => exact ev_execKlyAck h
  | klyNak => exact ev_execKlyNak h
  | klyCredit => exact ev_execKlyCredit h
  | klyAbort => exact ev_execKlyAbort h
  | klyFrameTransmit => exact ev_execKlyFrameTransmit h
  | klyReplayTimeout => exact ev_execKlyReplayTimeout h
  | klyLinkNotReady => exact ev_execKlyLinkNotReady h
  | counterWindowWrite => exact ev_execCounterWindowWrite h
  | triggerDescriptorWrite => exact ev_execTriggerDescriptorWrite h
  | triggeredOpFire => exact ev_execTriggeredOpFire h
  | put => exact ev_execPut h
  | reduce => exact ev_execReduce h
  | exchange => exact ev_execExchange h
  | flag => exact ev_execFlag h
  | doorbell => exact ev_execDoorbell h
  | firingComplete => exact ev_execFiringComplete h
  | firingTimeout => exact ev_execFiringTimeout h
  | ctBind => exact ev_execCtBind h
  | ctRequest => exact ev_execCtRequest h
  | ctDone => exact ev_execCtDone h
  | ctTouch => exact ev_execCtTouch h
  | ctUnbind => exact ev_execCtUnbind h
  | ctRequestExpiry => exact ev_execCtRequestExpiry h
  | ctDormancyExpiry => exact ev_execCtDormancyExpiry h
  | faultEventArrival => exact ev_execFaultEventArrival h
  | violationLogWrite => exact ev_execViolationLogWrite h
  | crashCaptureStart => exact ev_execCrashCaptureStart h
  | crashRecordSecure => exact ev_execCrashRecordSecure h
  | engineReset => exact ev_execEngineReset h
  | engineResetDone => exact ev_execEngineResetDone h
  | peelResetFailed => exact ev_execPeelResetFailed h
  | peelResetRetry => exact ev_execPeelResetRetry h
  | knownAnswerTest => exact ev_execKnownAnswerTest h
  | sweepComplete => exact ev_execSweepComplete h
  | sweepSupervisionExpiry => exact ev_execSweepSupervisionExpiry h
  | bar2Access => exact ev_execBar2Access h
  | pcieTlpViolation => exact ev_execPcieTlpViolation h
  | pcieLinkError => exact ev_execPcieLinkError h
  | pcieRestore => exact ev_execPcieRestore h
  | pcieLinkDown => exact ev_execPcieLinkDown h
  | perst => exact ev_execPerst h
  | functionLevelReset => exact ev_execFunctionLevelReset h
  | vfEnableClear => exact ev_execVfEnableClear h
  | mailboxDoorbell => exact ev_execMailboxDoorbell h
  | openReq => exact ev_execOpenReq h
  | openProof => exact ev_execOpenProof h
  | keyProvision => exact ev_execKeyProvision h
  | keepalive => exact ev_execKeepalive h
  | close => exact ev_execClose h
  | info => exact ev_execInfo h
  | fwStage => exact ev_execFwStage h
  | fwStageComplete => exact ev_execFwStageComplete h
  | fwActivate => exact ev_execFwActivate h
  | selectorWriteComplete => exact ev_execSelectorWriteComplete h
  | openPendingExpiry => exact ev_execOpenPendingExpiry h
  | lockoutExpiry => exact ev_execLockoutExpiry h
  | sessionIdleExpiry => exact ev_execSessionIdleExpiry h
  | secProvClose => exact ev_execSecProvClose h
  | canFrameReceive => exact ev_execCanFrameReceive h
  | canTxComplete => exact ev_execCanTxComplete h
  | canTxError => exact ev_execCanTxError h
  | canBusoffRecoveryDone => exact ev_execCanBusoffRecoveryDone h
  | canHoldExpiry => exact ev_execCanHoldExpiry h
  | safeStopSupervisionExpiry => exact ev_execSafeStopSupervisionExpiry h
  | canTxRequest => exact ev_execCanTxRequest h
  | canTxAbort => exact ev_execCanTxAbort h
  | canTxTimeout => exact ev_execCanTxTimeout h
  | canRxfPop => exact ev_execCanRxfPop h
  | canRateRestore => exact ev_execCanRateRestore h
  | ethEnable => exact ev_execEthEnable h
  | ethLinkUp => exact ev_execEthLinkUp h
  | ethLinkDown => exact ev_execEthLinkDown h
  | ethFrameReceive => exact ev_execEthFrameReceive h
  | safeStopReadbackFault => exact ev_execSafeStopReadbackFault h
  | safeStopExternalLow => exact ev_execSafeStopExternalLow h
  | powerSample => exact ev_execPowerSample h
  | powerLimitPersist => exact ev_execPowerLimitPersist h
  | thermalSample => exact ev_execThermalSample h
  | thermalPauseEnd => exact ev_execThermalPauseEnd h
  | spllCalRequest => exact ev_execSpllCalRequest h
  | spllCalibrationStart => exact ev_execSpllCalibrationStart h
  | spllCalForce => exact ev_execSpllCalForce h
  | spllCalibrationDone => exact ev_execSpllCalibrationDone h
  | pllLock => exact ev_execPllLock h
  | pllLossOfLock => exact ev_execPllLossOfLock h
  | clockMonitorWindow => exact ev_execClockMonitorWindow h
  | supplyOutOfWindow => exact ev_execSupplyOutOfWindow h
  | crystalLoss => exact ev_execCrystalLoss h
  | bankEnterRequest => exact ev_execBankEnterRequest h
  | bankEntryComplete => exact ev_execBankEntryComplete h
  | wakeRequest => exact ev_execWakeRequest h
  | wakeComplete => exact ev_execWakeComplete h
  | bootStart => exact ev_execBootStart h
  | bootPairClassify => exact ev_execBootPairClassify h
  | reeveStart => exact ev_execReeveStart h
  | bootComplete => exact ev_execBootComplete h
  | railUndervoltReset => exact ev_execRailUndervoltReset h
  | railRecoveryRelease => exact ev_execRailRecoveryRelease h
  | resetNPulse => exact ev_execResetNPulse h
  | configSpaceWrite => exact ev_execConfigSpaceWrite h
  | pcieLinkUp => exact ev_execPcieLinkUp h
  | timeMessageTransmit => exact ev_execTimeMessageTransmit h
  | canReceiveError => exact ev_execCanReceiveError h
  | boundaryScanAccess => exact ev_execBoundaryScanAccess h

end Sys2Proof.Machine

namespace Sys2Proof.Machine

/-- Settles O59: `step` takes the front command off, and its meaning evolves from what is left (`exec_evolves`). -/
theorem everyStepTakesOneCommandAndKeepsTheFuses : Obligations.EveryStepTakesOneCommandAndKeepsTheFuses := by
  unfold Obligations.EveryStepTakesOneCommandAndKeepsTheFuses step
  intro s t hstep
  cases hp : s.pending with
  | nil =>
    rw [hp] at hstep
    cases hstep
    simp [hp]
  | cons c rest =>
    rw [hp] at hstep
    have hev : Evolves { s with pending := rest } t := Evolves.of_out hstep (exec_evolves c _)
    exact ⟨hev.pending, hev.grade, hev.ae, hev.physOf, hev.draws, hev.epoch⟩

end Sys2Proof.Machine

/-! THE REGISTERS. What an update by name changes (00, Registers), and what software's reads and writes of registers do (R13 to R17, R780). -/
namespace Sys2Proof.Machine

-- UPDATES BY NAME

theorem State.setReg_onlyRegs (s : State) (k : Nat) (v : Word) : OnlyRegs s (s.setReg k v) [k] where
  regs j hj := State.reg_setReg_ne s (by simpa using hj) v
  ram _ := rfl
  rest := rfl

theorem State.put_onlyRegs (s : State) (f : Fld) (n : Nat) : OnlyRegs s (s.put f n) [f.key] := s.setReg_onlyRegs f.key _

theorem State.Ok.regsKeyed {s : State} (hs : State.Ok s) : Tbl.wf s.regs = true := regsWf.wf hs.regs

/-- Settles O3: the updates are `setReg` and plain additions, and a `put` is a `setReg` of its field's register. -/
theorem namedUpdatesReachOnlyTheirField : Obligations.NamedUpdatesReachOnlyTheirField := by
  unfold Obligations.NamedUpdatesReachOnlyTheirField
  intro s hs
  refine ⟨fun f n hf => ⟨?_, fun g _ hfg => ?_, s.put_onlyRegs f n⟩, fun k v => ⟨?_, s.setReg_onlyRegs k v⟩, fun _ => rfl, fun e => ?_⟩
  · exact s.get_put_same f n hs.regsKeyed hf
  · exact s.get_put_apart f g n hs.regsKeyed hf hfg
  · exact s.reg_setReg_same k v hs.regsKeyed
  · exact ⟨fun _ _ => rfl, fun _ => rfl, rfl, rfl⟩

/-- Settles O4: the two forms of `bump` write the lesser of the count and all ones. -/
theorem eventCountersHoldAtAllOnes : Obligations.EventCountersHoldAtAllOnes := by
  unfold Obligations.EventCountersHoldAtAllOnes
  intro s hs
  refine ⟨fun k => ⟨?_, s.setReg_onlyRegs k _⟩, fun f hf => ⟨?_, s.put_onlyRegs f _⟩⟩
  · have hlt := (s.reg k).isLt
    rw [State.bump, State.bumpBy, State.reg_setReg_same s k _ hs.regsKeyed, BitVec.toNat_ofNat]
    split <;> omega
  · have hlt : s.get f < 2 ^ f.w := Nat.mod_lt _ (Nat.two_pow_pos _)
    rw [State.bumpFld, State.get_put_same s f _ hs.regsKeyed hf, Nat.mod_eq_of_lt (by omega)]
    split <;> omega

-- READS

/-- What a read of one register may change: the value read, the snapshots kept, the drawn values and that register. -/
structure ReadFrame (s t : State) (k : Nat) : Prop where
  regs : keepsRegs s t [k]
  ram : keepsRam s t
  rest : t = { s with rdata := t.rdata, hiSnap := t.hiSnap, regs := t.regs, draws := t.draws }

theorem State.readCleared_onlyRegs (s : State) (fn : Fn) (off : Nat) : OnlyRegs s (s.readCleared fn off) [regKey fn off] := by
  have hself : OnlyRegs s s [regKey fn off] := ⟨fun _ _ => rfl, fun _ => rfl, rfl⟩
  unfold State.readCleared
  split
  · split
    · exact s.setReg_onlyRegs _ _
    · exact hself
  · exact hself

/-- What a function's read of an offset answers (R15). -/
def State.readAnswer (s : State) (fn : Fn) (off : Nat) : Word :=
  (if isHalf .hi off then Tbl.find s.hiSnap (own fn off) else none).getD (s.regValue fn off)

theorem State.readCleared_rdata (s : State) (fn : Fn) (off : Nat) : (s.readCleared fn off).rdata = s.rdata := by
  rw [(s.readCleared_onlyRegs fn off).rest]

theorem State.readCleared_hiSnap (s : State) (fn : Fn) (off : Nat) : (s.readCleared fn off).hiSnap = s.hiSnap := by
  rw [(s.readCleared_onlyRegs fn off).rest]

theorem State.readReg_rdata (s : State) (fn : Fn) (off : Nat) : (s.readReg fn off).rdata = s.readAnswer fn off := by
  unfold State.readReg
  rw [State.readCleared_rdata]
  split <;> rfl

theorem State.readReg_hiSnap_of_not_hi {s : State} {fn : Fn} {off : Nat} (h : isHalf .hi off = false) :
    (s.readReg fn off).hiSnap = s.hiSnap := by
  unfold State.readReg
  rw [State.readCleared_hiSnap]
  split <;> simp [h]

theorem State.readReg_hiSnap_of_find {s : State} {fn : Fn} {off : Nat} {v : Word} (h : isHalf .hi off = true)
    (hv : Tbl.find s.hiSnap (own fn off) = some v) : (s.readReg fn off).hiSnap = Tbl.drop s.hiSnap (own fn off) := by
  unfold State.readReg
  rw [State.readCleared_hiSnap]
  rw [if_pos h, hv]
  split <;> rfl

theorem ReadFrame.of_onlyRegs {s u t : State} {k : Nat} (hu : u = { s with rdata := u.rdata, hiSnap := u.hiSnap, draws := u.draws })
    (h : OnlyRegs u t [k]) : ReadFrame s t k where
  regs j hj := by rw [h.regs j hj, hu]; rfl
  ram a := by rw [h.ram a, hu]; rfl
  rest := by rw [h.rest, hu]

theorem State.readReg_frame (s : State) (fn : Fn) (off : Nat) : ReadFrame s (s.readReg fn off) (regKey fn off) := by
  refine .of_onlyRegs ?_ (State.readCleared_onlyRegs _ fn off)
  split <;> rfl

theorem isHalf_lo_of_hi {off : Nat} (h : isHalf .hi off = true) : isHalf .lo off = false := by
  unfold isHalf at h ⊢
  split at h
  · next d _ => rw [eq_of_beq h]; rfl
  · cases h

theorem readClear_answers {s : State} {fn : Fn} {off : BitVec 25} (hfn : s.turnsAway fn = false) (hoff : inBar0 fn off.toNat = true) :
    exec (.readClear fn off) s = .next ((s.hiCaptured fn off.toNat).readReg fn off.toNat) :=
  if_neg (by simp [hfn, hoff])

theorem pairLoRead_answers {s : State} {fn : Fn} {off : BitVec 25} (hfn : s.turnsAway fn = false) (hoff : inBar0 fn off.toNat = true)
    (hlo : isHalf .lo off.toNat = true) : exec (.pairLoRead fn off) s = .next ((s.hiCaptured fn off.toNat).readReg fn off.toNat) :=
  (if_neg (by simp [hfn, hoff])).trans (if_pos hlo)

theorem State.hiCaptured_of_not_lo {s : State} {fn : Fn} {off : Nat} (h : isHalf .lo off = false) : s.hiCaptured fn off = s :=
  if_neg (by simp [h])

theorem State.hiCaptured_of_lo {s : State} {fn : Fn} {off : Nat} (h : isHalf .lo off = true) :
    s.hiCaptured fn off = { s with hiSnap := Tbl.put s.hiSnap (own fn (off + 4)) (s.regValue fn (off + 4)) } :=
  if_pos h

theorem State.readAnswer_of_not_hi {s : State} {fn : Fn} {off : Nat} (h : isHalf .hi off = false) :
    s.readAnswer fn off = s.regValue fn off := by
  simp [State.readAnswer, h]

theorem State.readAnswer_of_find {s : State} {fn : Fn} {off : Nat} {v : Word} (h : isHalf .hi off = true)
    (hv : Tbl.find s.hiSnap (own fn off) = some v) : s.readAnswer fn off = v := by
  simp [State.readAnswer, h, hv]

/-- What a register reads as does not depend on the snapshots kept. -/
theorem State.regValue_hiSnap (s : State) (m : Tbl Word) (fn : Fn) (off : Nat) :
    ({ s with hiSnap := m } : State).regValue fn off = s.regValue fn off := rfl

/-- Settles O5: the read of _LO puts the snapshot, and the read of _HI that finds it answers it and drops it. -/
theorem pairReadReturnsTheSnapshotOnce : Obligations.PairReadReturnsTheSnapshotOnce := by
  unfold Obligations.PairReadReturnsTheSnapshotOnce
  intro s fn off hfn hoff hlo hnhi
  refine ⟨_, pairLoRead_answers hfn hoff hlo, ?_⟩
  rw [State.hiCaptured_of_lo hlo]
  obtain ⟨hregs, hram, hrest⟩ := State.readReg_frame { s with hiSnap := Tbl.put s.hiSnap (own fn (off.toNat + 4)) (s.regValue fn (off.toNat + 4)) } fn off.toNat
  refine ⟨?_, ?_, hregs, hram, hrest, ?_⟩
  · rw [State.readReg_rdata, State.readAnswer_of_not_hi hnhi, State.regValue_hiSnap]
  · rw [State.readReg_hiSnap_of_not_hi hnhi]
    exact Tbl.find_put_same _ _ _
  · intro u hi _ hwf hufn huoff hhi hsnap
    refine ⟨_, readClear_answers hufn huoff, ?_⟩
    rw [State.hiCaptured_of_not_lo (isHalf_lo_of_hi hhi)]
    obtain ⟨huregs, huram, hurest⟩ := u.readReg_frame fn hi.toNat
    refine ⟨?_, ?_, huregs, huram, hurest⟩
    · rw [State.readReg_rdata, State.readAnswer_of_find hhi hsnap]
    · rw [State.readReg_hiSnap_of_find hhi hsnap]
      exact Tbl.find_drop_same hwf _

theorem State.readReg_of_plain {s : State} {fn : Fn} {off : Nat} (hhi : isHalf .hi off = false) (hne : off ≠ 0x40810) :
    s.readReg fn off = State.readCleared { s with rdata := s.regValue fn off } fn off := by
  simp [State.readReg, hhi, hne]

/-- The physical function's read of a register that neither is a half of a pair nor draws the level of a ball. -/
theorem readClear_plain {s : State} {off : BitVec 25} (hs : s.turnsAway 0 = false) (hlo : isHalf .lo off.toNat = false)
    (hhi : isHalf .hi off.toNat = false) (hne : off.toNat ≠ 0x40810) :
    exec (.readClear 0 off) s = .next (State.readCleared { s with rdata := s.regValue 0 off.toNat } 0 off.toNat) := by
  rw [readClear_answers hs rfl, State.hiCaptured_of_not_lo hlo, State.readReg_of_plain hhi hne]

theorem State.readCleared_of_no_rc {s : State} {fn : Fn} {off : Nat} (h : ∀ d, regAt off = some d → d.rc = 0) : s.readCleared fn off = s := by
  unfold State.readCleared
  split
  · next d hd => simp [h d hd]
  · rfl

theorem regAt_tbFramePeriod : regAt 0x1030 = some (rwr 0x1030 0xFFFFFFFF 0x01FCA055) := rfl
theorem regAt_reserved : regAt 0x7000 = none := rfl

theorem State.readCleared_dramCeCount (s : State) : s.readCleared 0 0x10 = s.setReg kCeCount 0 := by
  have h0 : s.reg 0x10 &&& ~~~(rcr 0x10).rc = 0 := by simp [rcr]
  change s.setReg 0x10 (s.reg 0x10 &&& ~~~(rcr 0x10).rc) = _
  rw [h0]; rfl

/-- Settles O6: each of the three offsets is read as a plain register, of which only the first has bits that a read clears. -/
theorem readsAnswerAndClearCounters : Obligations.ReadsAnswerAndClearCounters := by
  unfold Obligations.ReadsAnswerAndClearCounters
  intro s hs hpf
  refine ⟨?_, ?_, ?_⟩
  · have hread : exec (.readClear 0 0x10) s = .next (State.setReg { s with rdata := s.reg kCeCount } kCeCount 0) :=
      (readClear_plain hpf rfl rfl (by decide)).trans (congrArg _ (State.readCleared_dramCeCount _))
    obtain ⟨hregs, hram, hrest⟩ := State.setReg_onlyRegs { s with rdata := s.reg kCeCount } kCeCount 0
    exact ⟨_, hread, rfl, State.reg_setReg_same _ _ _ hs.regsKeyed, hregs, hram, hrest⟩
  · rw [readClear_plain hpf rfl rfl (by decide), State.readCleared_of_no_rc]
    · rfl
    · intro d hd; cases regAt_tbFramePeriod.symm.trans hd; rfl
  · rw [readClear_plain hpf rfl rfl (by decide), State.readCleared_of_no_rc]
    · rfl
    · intro d hd; cases regAt_reserved.symm.trans hd

-- WRITES

theorem State.flag_on_same {s : State} (hs : State.Ok s) {f : Fld} (hf : f.ok = true) (hw : f.w = 1) : (s.on f).flag f = true := by
  simp [State.flag, State.on, State.get_put_same s f 1 hs.regsKeyed hf, hw]

theorem State.setReg64_onlyRegs (s : State) (k : Nat) (v : DWord) : OnlyRegs s (s.setReg64 k v) [k, k + 4] where
  regs j hj := by
    simp only [List.mem_cons, List.not_mem_nil, or_false, not_or] at hj
    rw [State.setReg64, State.reg_setReg_ne _ hj.2, State.reg_setReg_ne _ hj.1]
  ram _ := rfl
  rest := rfl

theorem DWord.append_halves (v : DWord) : BitVec.append ((v >>> 32).setWidth 32 : Word) (v.setWidth 32 : Word) = v := by
  refine BitVec.eq_of_toNat_eq ((BitVec.toNat_append _ _).trans ?_)
  have hlt := v.isLt
  have hlo : (v.setWidth 32).toNat < 2 ^ 32 := BitVec.isLt _
  rw [← Nat.shiftLeft_add_eq_or_of_lt hlo, Nat.shiftLeft_eq]
  simp only [BitVec.toNat_setWidth, BitVec.toNat_ushiftRight, Nat.shiftRight_eq_div_pow]
  omega

theorem State.reg64_setReg64_same {s : State} (hs : State.Ok s) (k : Nat) (v : DWord) : (s.setReg64 k v).reg64 k = v := by
  have hlo := s.reg_setReg_same k (v.setWidth 32) hs.regsKeyed
  have hwf : Tbl.wf (s.setReg k (v.setWidth 32)).regs = true := regsWf.wf (regsWf_setReg hs.regs k _)
  rw [State.reg64, State.setReg64, State.reg_setReg_same _ _ _ hwf, State.reg_setReg_ne _ (by omega), hlo]
  exact DWord.append_halves v

/-- Where a register has no bits but plain read-write ones, a write sets those and leaves the others. -/
theorem writtenBy_bit {d : RegDesc} (hs : d.w1s = 0) (hc : d.w1c = 0) (old v : Word) (i : Nat) :
    (writtenBy d old v).getLsbD i = if d.rw.getLsbD i then v.getLsbD i else old.getLsbD i := by
  have hplain : writtenBy d old v = (old &&& ~~~d.rw) ||| (v &&& d.rw) := by
    simp only [writtenBy, hs, hc, BitVec.ofNat_eq_ofNat, BitVec.and_zero, BitVec.or_zero]
    exact BitVec.and_allOnes
  rw [hplain, BitVec.getLsbD_or, BitVec.getLsbD_and, BitVec.getLsbD_and, BitVec.getLsbD_not]
  by_cases h32 : i < 32
  · cases d.rw.getLsbD i <;> simp [h32]
  · simp [Nat.not_lt.mp h32]

theorem Fld.ofWord_writtenBy_rw {f : Fld} {d : RegDesc} (hs : d.w1s = 0) (hc : d.w1c = 0)
    (hf : ∀ i < f.w, d.rw.getLsbD (f.lo + i) = true) (old v : Word) : f.ofWord (writtenBy d old v) = f.ofWord v := by
  refine Nat.eq_of_testBit_eq fun i => ?_
  rw [Fld.ofWord_bit, Fld.ofWord_bit, writtenBy_bit hs hc]
  by_cases hi : i < f.w <;> simp [hi, hf]

theorem Fld.ofWord_writtenBy_reserved {f : Fld} {d : RegDesc} (hs : d.w1s = 0) (hc : d.w1c = 0)
    (hf : ∀ i < f.w, d.rw.getLsbD (f.lo + i) = false) (old v : Word) : f.ofWord (writtenBy d old v) = f.ofWord old := by
  refine Nat.eq_of_testBit_eq fun i => ?_
  rw [Fld.ofWord_bit, Fld.ofWord_bit, writtenBy_bit hs hc]
  by_cases hi : i < f.w <;> simp [hi, hf]

theorem registerWrite_answers {s : State} {fn : Fn} {off : BitVec 25} {v : Word} (hfn : s.turnsAway fn = false)
    (hoff : inBar0 fn off.toNat = true) : exec (.registerWrite fn off v) s = .next (s.softWrite fn off.toNat v) :=
  if_neg (by simp [hfn, hoff])

theorem pairLoWrite_answers {s : State} {fn : Fn} {off : BitVec 25} {v : Word} (hfn : s.turnsAway fn = false)
    (hoff : inBar0 fn off.toNat = true) : exec (.pairLoWrite fn off v) s = .next (s.loWrite fn off.toNat v) :=
  if_neg (by simp [hfn, hoff])

theorem pairHiWrite_answers {s : State} {fn : Fn} {off : BitVec 25} {v : Word} (hfn : s.turnsAway fn = false)
    (hoff : inBar0 fn off.toNat = true) : exec (.pairHiWrite fn off v) s = .next (s.hiWrite fn off.toNat v) :=
  if_neg (by simp [hfn, hoff])

/-- TB_HOLD_LIMIT as the register index describes it. -/
def holdLimitDesc : RegDesc := rwr 0x1020 0xFFF 0x3C

theorem State.softWrite_holdLimit (s : State) (v : Word) : s.softWrite 0 0x1020 v =
    if fieldIn v 0 12 1 3600 then s.setReg kHoldLimit (writtenBy holdLimitDesc (s.reg kHoldLimit) v) else s.on fTbRejected := rfl

theorem State.softWrite_holdLimit_vf (s : State) {fn : Fn} (hfn : fn ≠ 0) (v : Word) : s.softWrite fn 0x1020 v = s := by
  have hmay : s.mayWrite fn 0x1020 = false := if_neg hfn
  have htakes : s.takesWrite fn 0x1020 = false := by rw [State.takesWrite, hmay]; rfl
  change (if s.takesWrite fn 0x1020 then _ else s) = s
  rw [htakes]; rfl

theorem State.softWrite_reserved (s : State) (v : Word) : s.softWrite 0 0x7000 v = s := rfl

theorem State.loWrite_frameEpoch (s : State) (v : Word) : s.loWrite 0 0x1040 v = { s with loHeld := Tbl.put s.loHeld 0x1044 v } := rfl

theorem State.hiWrite_frameEpoch (s : State) (hoff : s.flag fFrameEn = false) (v : Word) : s.hiWrite 0 0x1044 v =
    { s.setReg64 kFrameEpoch (BitVec.append v ((Tbl.find s.loHeld 0x1044).getD (s.reg kFrameEpoch))) with loHeld := Tbl.drop s.loHeld 0x1044 } := by
  change (if s.flag fFrameEn then s.tbReject else s.setReg64 kFrameEpoch _).loTaken 0 0x1044 = _
  rw [hoff]; rfl

theorem State.hiWrite_tbSet (s : State) (hpf : s.turnsAway 0 = false) (hoff : s.flag fFrameEn = false) (hnone : Tbl.find s.loHeld 0x1014 = none)
    (v : Word) : s.hiWrite 0 0x1014 v =
      State.loTaken (s.setTb { s.tb with ns := BitVec.append v 0#32, frac := 0, voidWindow := true }) 0 0x1014 := by
  have hlo : s.loFor 0 0x1014 0 = 0 := by
    change (Tbl.find s.loHeld 0x1014).getD 0 = 0
    rw [hnone]; rfl
  change outState (execTbSet 0 v s) s = _
  rw [execTbSet, if_neg (by simp [hpf]), if_neg (by simp), if_neg (by simp [hoff]), hlo]
  rfl

theorem inBar0_of_lt {fn : Fn} {off : Nat} (h : off < 0x100000) : inBar0 fn off = true := by
  simp [inBar0, h]

theorem fieldIn_holdLimit (v : Word) : fieldIn v 0 12 1 3600 = true ↔ 1 ≤ v.toNat % 4096 ∧ v.toNat % 4096 ≤ 3600 := by
  simp [fieldIn, bitsAt]

/-- Settles O7: what a write does at each of these offsets is said by a lemma above; the fields of TB_HOLD_LIMIT follow from the access codes. -/
theorem writesFollowTheAccessCodes : Obligations.WritesFollowTheAccessCodes := by
  unfold Obligations.WritesFollowTheAccessCodes
  intro s v hs hpf
  refine ⟨fun hmin hmax => ?_, fun hbad => ?_, ?_, fun hfr => ?_, fun hfr hnone => ?_, fun fn hfn hvf => ?_, ?_⟩
  · have hok : fieldIn v 0 12 1 3600 = true := (fieldIn_holdLimit v).mpr ⟨hmin, hmax⟩
    refine ⟨_, (registerWrite_answers hpf rfl).trans (congrArg _ ((s.softWrite_holdLimit v).trans (if_pos hok))), ?_, ?_, s.setReg_onlyRegs _ _⟩
    · rw [State.get, State.reg_setReg_same _ _ _ hs.regsKeyed, Fld.ofWord_writtenBy_rw rfl rfl (by decide)]
      simp [Fld.ofWord, bitsAt]
    · rw [State.get, State.reg_setReg_same _ _ _ hs.regsKeyed, Fld.ofWord_writtenBy_reserved rfl rfl (by decide)]
      rfl
  · have hnot : ¬ fieldIn v 0 12 1 3600 = true := by
      rw [fieldIn_holdLimit]; omega
    exact ⟨_, (registerWrite_answers hpf rfl).trans (congrArg _ ((s.softWrite_holdLimit v).trans (if_neg hnot))),
      State.flag_on_same hs rfl rfl, s.put_onlyRegs _ _⟩
  · exact (pairLoWrite_answers hpf rfl).trans (congrArg _ (s.loWrite_frameEpoch v))
  · refine ⟨_, (pairHiWrite_answers hpf rfl).trans (congrArg _ (s.hiWrite_frameEpoch hfr v)), ?_⟩
    obtain ⟨hregs, hram, -⟩ := s.setReg64_onlyRegs kFrameEpoch (BitVec.append v ((Tbl.find s.loHeld 0x1044).getD (s.reg kFrameEpoch)))
    exact ⟨State.reg64_setReg64_same hs _ _, hregs, hram, rfl⟩
  · exact ⟨_, (pairHiWrite_answers hpf rfl).trans (congrArg _ (s.hiWrite_tbSet hpf hfr hnone v)), rfl⟩
  · exact (registerWrite_answers hvf (inBar0_of_lt (by decide))).trans (congrArg _ (s.softWrite_holdLimit_vf hfn v))
  · exact (registerWrite_answers hpf rfl).trans (congrArg _ (s.softWrite_reserved v))

end Sys2Proof.Machine

/-! ONE FRAME IN THE FIELD. The topology register, the memory controller and the boot's steps (01_one_frame_in_the_field.md; R23 to R40, R821). -/
namespace Sys2Proof.Machine

-- SYS_TOPO

theorem sysTopoWrite_pf {s : State} (hs : s.turnsAway 0 = false) (v : Word) : exec (.sysTopoWrite 0 v) s = .next (s.topoWrite v) :=
  if_neg (by simp [hs])

theorem sysTopoWrite_vf {s : State} {fn : Fn} (hfn : fn ≠ 0) (hs : s.turnsAway fn = false) (v : Word) : exec (.sysTopoWrite fn v) s = .next s :=
  (if_neg (by simp [hs])).trans (if_neg hfn)

theorem topoOk_iff (v : Word) : topoOk v = true ↔
    ((bitsAt v.toNat 4 2 = 0 ∧ bitsAt v.toNat 2 2 = 0) ∨ (bitsAt v.toNat 4 2 = 1 ∧ 1 ≤ bitsAt v.toNat 2 2) ∨ (bitsAt v.toNat 4 2 = 2 ∧ 2 ≤ bitsAt v.toNat 2 2)) ∧
      bitsAt v.toNat 0 2 ≤ bitsAt v.toNat 2 2 := by
  simp [topoOk, or_assoc]

/-- The condition of R38 to R40: the value is a topology, and every Kelyth port is disabled. -/
theorem topoAccepted_iff (s : State) (v : Word) : (topoOk v && !(List.range 4).any (fun i => s.flag (fKlyEn i))) = true ↔
    topoOk v = true ∧ ∀ p, p < 4 → s.flag (fKlyEn p) = false := by
  simp

/-- Settles O8: a write is accepted under the condition of `topoAccepted_iff`, and one that is not sets REJECTED, which lies apart from the fields. -/
theorem topologyWritesFollowTheirRules : Obligations.TopologyWritesFollowTheirRules := by
  unfold Obligations.TopologyWritesFollowTheirRules
  intro s v hs hpf
  refine ⟨fun hshape hidx hports => ?_, fun hbad => ?_, fun fn hfn hvf => sysTopoWrite_vf hfn hvf v⟩
  · have haccept := (topoAccepted_iff s v).mpr ⟨(topoOk_iff v).mpr ⟨hshape, hidx⟩, hports⟩
    exact ⟨_, (sysTopoWrite_pf hpf v).trans (congrArg _ (if_pos haccept)), s.reg_setReg_same _ _ hs.regsKeyed, s.setReg_onlyRegs _ _⟩
  · have hreject : ¬ (topoOk v && !(List.range 4).any (fun i => s.flag (fKlyEn i))) = true := by
      rw [topoAccepted_iff, topoOk_iff]
      rintro ⟨⟨hshape, hidx⟩, hports⟩
      rcases hbad with hbad | hbad | ⟨p, hp, hen⟩
      · exact hbad hshape
      · omega
      · simp [hports p hp] at hen
    exact ⟨_, (sysTopoWrite_pf hpf v).trans (congrArg _ (if_neg hreject)), State.flag_on_same hs rfl rfl,
      s.get_put_apart _ _ _ hs.regsKeyed rfl rfl, s.put_onlyRegs _ _⟩

-- WHAT THE INLINE ECC REPORTS

theorem State.eccOf_of_good {s : State} {a : Nat} (h : s.ramBad a = false) (e : Ecc) : s.eccOf a e = e := by
  simp [State.eccOf, h]

theorem State.eccOf_of_bad {s : State} {a : Nat} {e : Ecc} (h : s.ramBad a = true ∨ e = .uncorrectable) : s.eccOf a e = .uncorrectable := by
  rcases h with h | rfl
  · simp [State.eccOf, h]
  · exact ite_self _

/-- The block of an offset is known to be bad, UE_COUNT has counted, and one event of this code and disposition is on its way; nothing else
has changed (R33, R34, R821). -/
structure UncorrectableMet (s t : State) (a : Nat) (code : BitVec 16) (disp : Disp) : Prop where
  counted : t.reg kUeCount = (s.bump kUeCount).reg kUeCount
  regs : keepsRegs s t [kUeCount]
  ram : keepsRam s t
  bad : t.ramBad a = true
  event : ∃ ev : FaultEvent, ev.code = code ∧ ev.disp = disp ∧ t.reeve = { s.reeve with events := s.reeve.events ++ [ev] }
  rest : t = { s with regs := t.regs, reeve := t.reeve, dramBad := t.dramBad }

theorem State.ramBad_markBad (s : State) (a : Nat) : (s.markBad a).ramBad a = true := by
  simp [State.ramBad, State.markBad]

theorem State.markBad_bump_raise_met (s : State) (a : Nat) (ev : FaultEvent) :
    UncorrectableMet s (((s.markBad a).bump kUeCount).raise ev) a ev.code ev.disp where
  counted := rfl
  regs := (s.setReg_onlyRegs kUeCount _).regs
  ram _ := rfl
  bad := s.ramBad_markBad a
  event := ⟨ev, rfl, rfl, rfl⟩
  rest := rfl

/-- A requester that meets an uncorrectable error gets a job fault of 0x3101 (R33). -/
theorem State.dramUncorrectable_met (s : State) (who : Agent) (a : Nat) :
    UncorrectableMet s ((s.markBad a).dramUncorrectable who a) a 0x3101 .jobFault :=
  s.markBad_bump_raise_met a _

-- READS AND SCRUBS

theorem dramReadReturn_clean {s : State} {a : Nat} {e : Ecc} (who : Agent) (ha : a < s.dramBytes) (he : s.eccOf a e = .clean) :
    exec (.dramReadReturn who a e) s = .next (s.emit (.dramData who (a / 64 * 64) (s.ramBytes (a / 64 * 64) 64) false)) :=
  (if_neg (by omega)).trans (by rw [he])

theorem dramReadReturn_corrected {s : State} {a : Nat} {e : Ecc} (who : Agent) (ha : a < s.dramBytes) (he : s.eccOf a e = .corrected) :
    exec (.dramReadReturn who a e) s = .next ((s.bump kCeCount).emit (.dramData who (a / 64 * 64) (s.ramBytes (a / 64 * 64) 64) false)) :=
  (if_neg (by omega)).trans (by rw [he])

theorem dramReadReturn_uncorrectable {s : State} {a : Nat} {e : Ecc} (who : Agent) (ha : a < s.dramBytes) (he : s.eccOf a e = .uncorrectable) :
    exec (.dramReadReturn who a e) s =
      .next (((s.markBad a).dramUncorrectable who a).emit (.dramData who (a / 64 * 64) (s.ramBytes (a / 64 * 64) 64) true)) :=
  (if_neg (by omega)).trans (by rw [he])

theorem dramScrubRead_clean {s : State} {a : Nat} {e : Ecc} (ha : a < s.dramBytes) (hsr : s.power.selfRefresh = false)
    (he : s.eccOf a e = .clean) : exec (.dramScrubRead a e) s = .next s :=
  (if_neg (by simp [hsr, ha])).trans (by rw [he])

theorem dramScrubRead_corrected {s : State} {a : Nat} {e : Ecc} (ha : a < s.dramBytes) (hsr : s.power.selfRefresh = false)
    (he : s.eccOf a e = .corrected) : exec (.dramScrubRead a e) s = .next (s.bump kCeCount) :=
  (if_neg (by simp [hsr, ha])).trans (by rw [he])

theorem dramScrubRead_uncorrectable {s : State} {a : Nat} {e : Ecc} (ha : a < s.dramBytes) (hsr : s.power.selfRefresh = false)
    (he : s.eccOf a e = .uncorrectable) : exec (.dramScrubRead a e) s =
      .next (((s.markBad a).bump kUeCount).report 0x3103 (srcOf 6 (channelOf a) 0) (a / 64 * 64 % 2 ^ 48)) :=
  (if_neg (by simp [hsr, ha])).trans (by rw [he])

/-- Settles O9: what the inline ECC reports decides which of the lemmas above says what the read or the scrub answers. -/
theorem memoryReadsReportTheirErrors : Obligations.MemoryReadsReportTheirErrors := by
  unfold Obligations.MemoryReadsReportTheirErrors
  intro s who a hs ha
  refine ⟨fun hgood => ?_, fun e hbad => ?_⟩
  · have hecc := State.eccOf_of_good hgood
    exact ⟨dramReadReturn_clean who ha (hecc _), dramReadReturn_corrected who ha (hecc _), fun hsr =>
      ⟨dramScrubRead_clean ha hsr (hecc _), dramScrubRead_corrected ha hsr (hecc _)⟩⟩
  · have hecc := State.eccOf_of_bad hbad
    refine ⟨?_, fun hsr => ?_⟩
    · obtain ⟨hcount, hregs, hram, hmark, hev, -⟩ := s.dramUncorrectable_met who a
      exact ⟨_, dramReadReturn_uncorrectable who ha hecc, hcount, hregs, hram, hmark, rfl, hev, rfl⟩
    · obtain ⟨hcount, hregs, hram, hmark, hev, hrest⟩ := s.markBad_bump_raise_met a
        { code := 0x3103, source := srcOf 6 (channelOf a) 0, info := BitVec.ofNat 64 (a / 64 * 64 % 2 ^ 48), disp := .report }
      exact ⟨_, dramScrubRead_uncorrectable ha hsr hecc, hcount, hregs, hram, hmark, hev, hrest⟩

-- WRITES

theorem State.mergeN_nil (who : Agent) (ecc : Ecc) (n : Nat) (s : State) (a : Nat) : State.mergeN who ecc n s a [] = s := by
  cases n <;> rfl

/-- A write that stays inside one block is merged at once (R821). -/
theorem State.mergeN_of_one_block (who : Agent) (ecc : Ecc) (n : Nat) (s : State) {a : Nat} {bs : List Byte} (hne : bs ≠ [])
    (hfit : a % 64 + bs.length ≤ 64) : State.mergeN who ecc (n + 1) s a bs = s.mergeBlock who a bs ecc := by
  have htake : bs.take (64 - a % 64) = bs := List.take_of_length_le (by omega)
  have hdrop : bs.drop (64 - a % 64) = [] := List.drop_eq_nil_of_le (by omega)
  simp only [State.mergeN, if_neg hne, htake, hdrop, State.mergeN_nil]

theorem dramWriteComplete_of_one_block {s : State} {a : Nat} {bs : List Byte} (who : Agent) (ecc : Ecc) (hne : bs ≠ [])
    (hfit : a % 64 + bs.length ≤ 64) (hin : a + bs.length ≤ s.dramBytes) :
    exec (.dramWriteComplete who a bs ecc) s = .next (s.mergeBlock who a bs ecc) :=
  (if_neg (Nat.not_lt.mpr hin)).trans (congrArg _ (State.mergeN_of_one_block who ecc _ s hne hfit))

theorem State.mergeBlock_whole {s : State} {a : Nat} {bs : List Byte} (who : Agent) (ecc : Ecc) (hlen : bs.length = 64) (ha : a % 64 = 0) :
    s.mergeBlock who a bs ecc = { s with dram := putBytes s.dram a bs, dramBad := Tbl.drop s.dramBad (a / 64) } := by
  simp [State.mergeBlock, State.ramWriteBlock, hlen, ha]

theorem State.mergeBlock_part_clean {s : State} {a : Nat} {bs : List Byte} (who : Agent) (hlen : bs.length ≠ 64) (hgood : s.ramBad a = false) :
    s.mergeBlock who a bs .clean = { s with dram := putBytes s.dram a bs } := by
  simp [State.mergeBlock, State.ramWriteBlock, hlen, hgood, State.eccOf_of_good]

theorem State.mergeBlock_part_uncorrectable {s : State} {a : Nat} {bs : List Byte} {e : Ecc} (who : Agent) (hlen : bs.length ≠ 64)
    (he : s.eccOf a e = .uncorrectable) : s.mergeBlock who a bs e = (s.markBad a).dramUncorrectable who a := by
  simp [State.mergeBlock, hlen, he]

theorem State.ramByte_putBytes_in (s : State) {a i : Nat} {bs : List Byte} (bad : Tbl Unit) (h : i < bs.length) :
    ({ s with dram := putBytes s.dram a bs, dramBad := bad } : State).ramByte (a + i) = bs[i] := by
  simp [State.ramByte, Tbl.getD, find_putBytes_in bs s.dram a i h]

theorem State.ramByte_putBytes_ne (s : State) {a j : Nat} {bs : List Byte} (bad : Tbl Unit) (h : j < a ∨ a + bs.length ≤ j) :
    ({ s with dram := putBytes s.dram a bs, dramBad := bad } : State).ramByte j = s.ramByte j := by
  simp [State.ramByte, Tbl.getD, find_putBytes_ne bs s.dram a j h]

/-- A write to a block without an error, or of a whole block, puts its bytes; a whole block also replaces the error (R821). -/
theorem State.mergeBlock_lands {s : State} {a : Nat} {bs : List Byte} (who : Agent) (hfit : a % 64 + bs.length ≤ 64)
    (h : bs.length = 64 ∨ s.ramBad a = false) : ∃ bad, s.mergeBlock who a bs .clean = { s with dram := putBytes s.dram a bs, dramBad := bad } ∧
      (bs.length = 64 → bad = Tbl.drop s.dramBad (a / 64)) := by
  by_cases hlen : bs.length = 64
  · exact ⟨_, State.mergeBlock_whole who .clean hlen (by omega), fun _ => rfl⟩
  · exact ⟨_, State.mergeBlock_part_clean who hlen (h.resolve_left hlen), fun hwhole => absurd hwhole hlen⟩

-- REFRESH

theorem mr4Poll_awake {s : State} (hsr : s.power.selfRefresh = false) (c : Fin 16) (m : Byte) :
    exec (.mr4Poll c m) s = .next { s with mr4 := Tbl.put s.mr4 c.val m } :=
  if_neg (by simp [hsr])

theorem mr4Poll_selfRefresh {s : State} (hsr : s.power.selfRefresh = true) (c : Fin 16) (m : Byte) : exec (.mr4Poll c m) s = .next s :=
  if_pos hsr

theorem refreshManagement_awake {s : State} (hsr : s.power.selfRefresh = false) (c : Fin 16) :
    exec (.refreshManagement c) s = .next (s.emit (.refreshManagement c.val)) :=
  if_neg (by simp [hsr])

theorem refreshManagement_selfRefresh {s : State} (hsr : s.power.selfRefresh = true) (c : Fin 16) : exec (.refreshManagement c) s = .next s :=
  if_pos hsr

/-- Settles O10: a write inside one block is one `mergeBlock`, which puts the bytes or, as a part of a bad block, meets the error. -/
theorem memoryWritesLandWhereTheyShould : Obligations.MemoryWritesLandWhereTheyShould := by
  unfold Obligations.MemoryWritesLandWhereTheyShould
  intro s who a bs hs hne hfit hin
  refine ⟨fun hok => ?_, fun hpart e hbad => ?_, fun c m hsr => ?_, fun c hsr => refreshManagement_awake hsr c,
    fun c m hsr => ⟨mr4Poll_selfRefresh hsr c m, refreshManagement_selfRefresh hsr c⟩⟩
  · obtain ⟨bad, hmerge, hbad⟩ := State.mergeBlock_lands who hfit hok
    refine ⟨_, (dramWriteComplete_of_one_block who .clean hne hfit hin).trans (congrArg _ hmerge), fun i hi => s.ramByte_putBytes_in bad hi,
      fun j hj => s.ramByte_putBytes_ne bad hj, fun hwhole hwf => ?_, rfl⟩
    simp [State.ramBad, hbad hwhole, Tbl.find_drop_same hwf]
  · have hmerge : s.mergeBlock who a bs e = _ := State.mergeBlock_part_uncorrectable who (Nat.ne_of_lt hpart) (State.eccOf_of_bad hbad)
    obtain ⟨hcount, hregs, hram, hmark, hev, hrest⟩ := s.dramUncorrectable_met who a
    exact ⟨_, (dramWriteComplete_of_one_block who e hne hfit hin).trans (congrArg _ hmerge), hram, hmark, hcount, hregs, hev, hrest⟩
  · exact ⟨_, mr4Poll_awake hsr c m, Tbl.find_put_same _ _ _, fun j hj => Tbl.find_put_ne hj _ _, rfl⟩

-- THE BOOT'S STEPS

/-- Training at boot that succeeds shows in SYS_DRAM, and takes the memory out of self-refresh (R24 to R26, R35). -/
theorem memoryTrainingDone_boot_passed {s : State} (d : Fin 3) (r2 : Bool) (hstage : s.get fBootStage = 2) (hbcb : s.boot.bcbOk = true)
    (hdue : s.boot.trainEnded = false) (hpwr : s.get fPwrState ≠ pwrWaking) : ∃ v, exec (.memoryTrainingDone d r2 0) s =
      .next (((s.setBoot { s.boot with trainEnded := true, trained := true }).setPower { s.power with selfRefresh := false }).setReg kSysDram v) := by
  have hgo : ¬ (s.boot.trainEnded = true ∨ ¬ ((s.get fBootStage = 2 ∧ s.boot.bcbOk = true) ∨ (s.get fPwrState = pwrWaking ∧ s.power.wakeAt.isSome = true))) := by
    simp [hstage, hbcb, hdue]
  have hwake : ¬ (s.get fPwrState = pwrWaking ∧ s.power.wakeAt.isSome = true) := fun hw => hpwr hw.1
  exact ⟨_, (if_neg hgo).trans ((if_neg (by simp)).trans (if_neg hwake))⟩

/-- Refutes O23: nothing in the clause on training that succeeds excludes a memory in self-refresh. Training ends the self-refresh, and the clause
lets only registers and the boot's own state change. -/
theorem not_bootStepsAdvanceOrEndInHeld : ¬ Obligations.BootStepsAdvanceOrEndInHeld := by
  unfold Obligations.BootStepsAdvanceOrEndInHeld
  intro h
  let s : State := { State.reset with
    regs := [(0x6000, 0x200)], boot := { Boot.reset with bcbOk := true }, power := { Power.reset with selfRefresh := true } }
  have hstage : s.get fBootStage = 2 := by decide
  have hpwr : s.get fPwrState ≠ pwrWaking := by decide
  obtain ⟨-, -, htrain, -⟩ := h s ⟨by decide, by decide, by decide⟩
  obtain ⟨t, ht, -, -, -, -, hrest⟩ := htrain 0 false hstage rfl rfl hpwr
  obtain ⟨v, hv⟩ := memoryTrainingDone_boot_passed 0 false hstage rfl rfl hpwr
  obtain rfl : _ = t := Host.Outcome.next.inj (hv.symm.trans ht)
  have hpower : false = true := congrArg (fun u : State => u.power.selfRefresh) hrest
  cases hpower

end Sys2Proof.Machine

/-! THE FRAME OF AN UPDATE. How what one update leaves composes with what the next one leaves. -/
namespace Sys2Proof.Machine

theorem State.Ok.of_evolves {s t : State} (hs : State.Ok s) (h : Evolves s t) : State.Ok t :=
  ⟨h.regs hs.regs, h.dram hs.dram, h.physOf ▸ hs.phys⟩

theorem keepsRegs.refl (s : State) (ks : List Nat) : keepsRegs s s ks := fun _ _ => rfl

theorem keepsRegs.trans {r s t : State} {ks : List Nat} (h : keepsRegs r s ks) (g : keepsRegs s t ks) : keepsRegs r t ks :=
  fun k hk => (g k hk).trans (h k hk)

theorem keepsRegs.mono {s t : State} {ks ls : List Nat} (h : keepsRegs s t ks) (hsub : ∀ k ∈ ks, k ∈ ls) : keepsRegs s t ls :=
  fun k hk => h k fun hin => hk (hsub k hin)

/-- A field of a register that is kept reads as before. -/
theorem keepsRegs.get {s t : State} {ks : List Nat} (h : keepsRegs s t ks) {f : Fld} (hf : f.key ∉ ks) : t.get f = s.get f :=
  congrArg f.ofWord (h f.key hf)

theorem keepsRegs.flag {s t : State} {ks : List Nat} (h : keepsRegs s t ks) {f : Fld} (hf : f.key ∉ ks) : t.flag f = s.flag f :=
  congrArg (· != 0) (h.get hf)

theorem keepsRegs.reg64 {s t : State} {ks : List Nat} (h : keepsRegs s t ks) {k : Nat} (hlo : k ∉ ks) (hhi : k + 4 ∉ ks) :
    t.reg64 k = s.reg64 k := by
  rw [State.reg64, State.reg64, h k hlo, h _ hhi]

theorem keepsRegs_setReg (s : State) (k : Nat) (v : Word) : keepsRegs s (s.setReg k v) [k] := (s.setReg_onlyRegs k v).regs

theorem keepsRegs_put (s : State) (f : Fld) (n : Nat) : keepsRegs s (s.put f n) [f.key] := (s.put_onlyRegs f n).regs

theorem keepsRegs_setReg64 (s : State) (k : Nat) (v : DWord) : keepsRegs s (s.setReg64 k v) [k, k + 4] := (s.setReg64_onlyRegs k v).regs

theorem State.get_setReg_same {s : State} (hs : State.Ok s) (f : Fld) (v : Word) : (s.setReg f.key v).get f = f.ofWord v :=
  congrArg f.ofWord (s.reg_setReg_same f.key v hs.regsKeyed)

theorem State.flag_off_same {s : State} (hs : State.Ok s) {f : Fld} (hf : f.ok = true) : (s.off f).flag f = false := by
  simp [State.flag, State.off, s.get_put_same f 0 hs.regsKeyed hf]

/-- A field reads as it does in the part of the word that a mask keeps, where the mask holds the whole field. -/
theorem Fld.ofWord_and {f : Fld} {m : Word} (hm : ∀ i < f.w, m.getLsbD (f.lo + i) = true) (v : Word) : f.ofWord (v &&& m) = f.ofWord v := by
  refine Nat.eq_of_testBit_eq fun i => ?_
  rw [Fld.ofWord_bit, Fld.ofWord_bit, BitVec.getLsbD_and]
  by_cases hi : i < f.w <;> simp [hi, hm]

theorem Fld.ofWord_lt (f : Fld) (v : Word) : f.ofWord v < 2 ^ f.w := Nat.mod_lt _ (Nat.two_pow_pos _)

theorem State.get_lt (s : State) (f : Fld) : s.get f < 2 ^ f.w := f.ofWord_lt _

end Sys2Proof.Machine

/-! TIME AND DEADLINES (02_time_and_deadlines.md). -/
namespace Sys2Proof.Machine

-- RESET

theorem State.reset_ok : State.Ok State.reset := ⟨rfl, rfl, by decide⟩

/-- Settles O2: no register is listed after reset, so each read looks its value up in the register index (R44, R784). -/
theorem resetLeavesTheStatedValues : Obligations.ResetLeavesTheStatedValues := by
  unfold Obligations.ResetLeavesTheStatedValues
  exact ⟨rfl, fun _ => rfl, rfl, rfl, rfl, rfl, rfl, rfl, State.reset_ok⟩

-- THE RATE CORRECTION

theorem clamp_natAbs_le {b : Int} (hb : 0 ≤ b) (i : Int) : ((clamp b i).natAbs : Int) ≤ b := by
  unfold clamp
  split
  · omega
  · split <;> omega

theorem Timebase.correction_bound (t : Timebase) : t.correction.natAbs * 1000000 ≤ 500 * (40 * 2 ^ 32) := by
  have hclamp : (t.correction.natAbs : Int) ≤ maxCorrection := clamp_natAbs_le (by decide) _
  have hmax : maxCorrection = 85899345 := rfl
  omega

/-- Settles O11: the correction is clamped to 500 ppm of a tick, rounded toward zero. -/
theorem rateCorrectionStaysWithin500Ppm : Obligations.RateCorrectionStaysWithin500Ppm := by
  unfold Obligations.RateCorrectionStaysWithin500Ppm
  exact Timebase.correction_bound

end Sys2Proof.Machine

namespace Sys2Proof.Machine

-- THE STATE MACHINE

/-- Nothing changes but the registers of the keys listed and the Timebase. -/
structure TbOnly (s t : State) (ks : List Nat) : Prop where
  regs : keepsRegs s t ks
  rest : t = { s with regs := t.regs, tb := t.tb }

theorem TbOnly.refl (s : State) (ks : List Nat) : TbOnly s s ks := ⟨keepsRegs.refl s ks, rfl⟩

theorem TbOnly.trans {r s t : State} {ks : List Nat} (h : TbOnly r s ks) (g : TbOnly s t ks) : TbOnly r t ks where
  regs := h.regs.trans g.regs
  rest := by rw [g.rest, h.rest]

theorem TbOnly.mono {s t : State} {ks ls : List Nat} (h : TbOnly s t ks) (hsub : ∀ k ∈ ks, k ∈ ls) : TbOnly s t ls :=
  ⟨h.regs.mono hsub, h.rest⟩

theorem TbOnly.ram {s t : State} {ks : List Nat} (h : TbOnly s t ks) : keepsRam s t := by
  intro a; rw [h.rest]; rfl

theorem OnlyRegs.tbOnly {s t : State} {ks : List Nat} (h : OnlyRegs s t ks) : TbOnly s t ks where
  regs := h.regs
  rest := by rw [h.rest]

theorem State.put_tbOnly (s : State) (f : Fld) (n : Nat) : TbOnly s (s.put f n) [f.key] := (s.put_onlyRegs f n).tbOnly

theorem State.setTb_tbOnly (s : State) (x : Timebase) (ks : List Nat) : TbOnly s (s.setTb x) ks := ⟨fun _ _ => rfl, rfl⟩

/-- Noting byte 12 of the timestamp records adds to its history alone (R58). -/
theorem State.noted_eq (s : State) : ∃ past, s.noted = s.setTb { s.tb with past } := by
  unfold State.noted
  exact iteInduction (motive := fun x => ∃ past, x = s.setTb { s.tb with past }) (fun _ => ⟨s.tb.past, rfl⟩) (fun _ => ⟨_, rfl⟩)

@[simp] theorem State.noted_reg (s : State) (k : Nat) : s.noted.reg k = s.reg k := by
  obtain ⟨past, h⟩ := s.noted_eq; rw [h]; rfl

@[simp] theorem State.noted_get (s : State) (f : Fld) : s.noted.get f = s.get f := congrArg f.ofWord (s.noted_reg f.key)

theorem State.noted_tbOnly (s : State) (ks : List Nat) : TbOnly s s.noted ks := by
  obtain ⟨past, h⟩ := s.noted_eq; rw [h]; exact s.setTb_tbOnly _ _

/-- What an entry to a state makes of the Timebase (R46, R47). -/
def Timebase.entered (t : Timebase) (st : Nat) : Timebase :=
  if st = tbAcquire then { t with good := 0, poor := 0, firstDue := true }
  else if st = tbHoldover then
    { t with servo := if t.recent = [] then t.servo else t.recent.foldl (· + ·) 0 / (t.recent.length : Int), slew := 0 }
  else if st = tbFree then { t with slew := 0 }
  else { t with good := 0, poor := 0 }

theorem State.tbEnter_eq (s : State) (st : Nat) : s.tbEnter st =
    (((s.setTb (s.tb.entered st)).put fTbState st).put fSlewing (b2n ((s.tb.entered st).slew != 0))).noted := rfl

theorem State.tbEnter_tbOnly (s : State) (st : Nat) : TbOnly s (s.tbEnter st) [0x1004] :=
  (((s.setTb_tbOnly _ _).trans (State.put_tbOnly _ fTbState _)).trans (State.put_tbOnly _ fSlewing _)).trans (State.noted_tbOnly _ _)

theorem State.tbEnter_state {s : State} (hs : State.Ok s) (st : Nat) : (s.tbEnter st).get fTbState = st % 4 := by
  have hput : State.Ok ((s.setTb (s.tb.entered st)).put fTbState st) := hs.of_evolves (ev_put (ev_setTb (Evolves.refl s)))
  have hset : State.Ok (s.setTb (s.tb.entered st)) := hs.of_evolves (ev_setTb (Evolves.refl s))
  rw [State.tbEnter_eq, State.noted_get, State.get_put_apart _ _ _ _ hput.regsKeyed rfl rfl, State.get_put_same _ _ _ hset.regsKeyed rfl]
  rfl

theorem Timebase.entered_kept (t : Timebase) (st : Nat) :
    (t.entered st).ns = t.ns ∧ (t.entered st).seqs = t.seqs := by
  unfold Timebase.entered
  split
  · exact ⟨rfl, rfl⟩
  · split
    · exact ⟨rfl, rfl⟩
    · split <;> exact ⟨rfl, rfl⟩

/-- Entering a state keeps the count and the sequence numbers. -/
theorem State.tbEnter_kept (s : State) (st : Nat) : (s.tbEnter st).tb.ns = s.tb.ns ∧ (s.tbEnter st).tb.seqs = s.tb.seqs := by
  obtain ⟨past, h⟩ := State.noted_eq (((s.setTb (s.tb.entered st)).put fTbState st).put fSlewing (b2n ((s.tb.entered st).slew != 0)))
  rw [State.tbEnter_eq, h]
  exact s.tb.entered_kept st

-- WRITES TO TB_CTRL

/-- A write of v to TB_CTRL has set the register, and nothing follows yet. -/
def State.ctrlSet (s : State) (v : Word) : State := s.setReg kTbCtrl (v &&& 0xF177#32)

/-- What an accepted write to TB_CTRL does once the source has changed: frames begin, or end, or neither (R52, R825). -/
def State.framesFollow (s t : State) : State :=
  if t.flag fFrameEn ∧ ¬ s.flag fFrameEn then t.framesOn
  else if s.flag fFrameEn ∧ ¬ t.flag fFrameEn then t.framesOff
  else t

theorem State.tbCtrlWrite_accepted {s : State} {v : Word} (hsrc : fTbSrc.ofWord v ≤ 3) (hport : fTbPort.ofWord v ≤ 4) :
    s.tbCtrlWrite 0 v = s.framesFollow ((s.ctrlSet v).sourceChanged (s.get fTbSrc) (s.get fTbPort)) :=
  (if_neg (by simp)).trans (if_neg (by omega))

theorem State.tbCtrlWrite_rejected {s : State} {v : Word} (h : 3 < fTbSrc.ofWord v ∨ 4 < fTbPort.ofWord v) :
    s.tbCtrlWrite 0 v = s.tbReject :=
  (if_neg (by simp)).trans (if_pos h)

theorem State.Ok.ctrlSet {s : State} (hs : State.Ok s) (v : Word) : State.Ok (s.ctrlSet v) :=
  hs.of_evolves (ev_setReg (Evolves.refl s) _ _)

theorem State.ctrlSet_tbOnly (s : State) (v : Word) : TbOnly s (s.ctrlSet v) [kTbCtrl] := (s.setReg_onlyRegs _ _).tbOnly

theorem State.ctrlSet_reg {s : State} (hs : State.Ok s) (v : Word) : (s.ctrlSet v).reg kTbCtrl = v &&& 0xF177 :=
  s.reg_setReg_same _ _ hs.regsKeyed

theorem State.ctrlSet_src {s : State} (hs : State.Ok s) (v : Word) : (s.ctrlSet v).get fTbSrc = fTbSrc.ofWord v :=
  (State.get_setReg_same hs fTbSrc _).trans (Fld.ofWord_and (by decide) v)

theorem State.ctrlSet_port {s : State} (hs : State.Ok s) (v : Word) : (s.ctrlSet v).get fTbPort = fTbPort.ofWord v :=
  (State.get_setReg_same hs fTbPort _).trans (Fld.ofWord_and (by decide) v)

/-- The source change that an accepted write brings, in a state that the write of TB_CTRL has reached. -/
def State.sourceSet (s : State) (v : Word) : State := (s.ctrlSet v).sourceChanged (s.get fTbSrc) (s.get fTbPort)

/-- What a change of SRC or PORT leaves: the registers but TB_STATUS, and the count (R46). -/
structure SourceTaken (s t : State) (st : Nat) : Prop where
  only : TbOnly s t [0x1004]
  state : t.get fTbState = st
  count : t.tb.ns = s.tb.ns

theorem SourceTaken.entered {s : State} (hs : State.Ok s) {st : Nat} (hst : st < 4) : SourceTaken s (s.tbEnter st) st :=
  ⟨s.tbEnter_tbOnly st, (State.tbEnter_state hs st).trans (Nat.mod_eq_of_lt hst), (s.tbEnter_kept st).1⟩

theorem SourceTaken.stays (s : State) : SourceTaken s s (s.get fTbState) := ⟨TbOnly.refl s _, rfl, rfl⟩

/-- No sequence number is held any more, as a change of source or port has it (R74). -/
def State.unsequenced (s : State) : State := s.setTb { s.tb with seqs := [] }

theorem State.sourceChanged_off {s : State} (hsrc : s.get fTbSrc = 0) (oldSrc oldPort : Nat) :
    s.sourceChanged oldSrc oldPort = if s.get fTbState = tbFree then s else s.tbEnter tbFree := if_pos hsrc

theorem State.sourceChanged_same {s : State} {oldSrc oldPort : Nat} (hsrc : s.get fTbSrc ≠ 0)
    (hsame : s.get fTbPort = oldPort ∧ (s.get fTbSrc = oldSrc ∨ oldSrc = 0)) : s.sourceChanged oldSrc oldPort = s :=
  (if_neg hsrc).trans (if_pos hsame)

theorem State.sourceChanged_moved {s : State} {oldSrc oldPort : Nat} (hsrc : s.get fTbSrc ≠ 0)
    (hmoved : ¬ (s.get fTbPort = oldPort ∧ (s.get fTbSrc = oldSrc ∨ oldSrc = 0))) : s.sourceChanged oldSrc oldPort =
      if s.get fTbState = tbLocked ∨ s.get fTbState = tbHoldover then s.unsequenced.tbEnter tbAcquire
      else if s.get fTbState = tbAcquire then s.unsequenced.setTb { s.unsequenced.tb with good := 0, poor := 0 }
      else s.unsequenced :=
  (if_neg hsrc).trans (if_neg hmoved)

theorem tbState_cases (s : State) : s.get fTbState = tbFree ∨ s.get fTbState = tbAcquire ∨ s.get fTbState = tbLocked ∨ s.get fTbState = tbHoldover := by
  have hlt : s.get fTbState < 4 := s.get_lt fTbState
  unfold tbFree tbAcquire tbLocked tbHoldover
  omega

/-- A change of SRC or PORT: to FREE with SRC 0, and else from another state than FREE to ACQUIRE (R46). -/
theorem State.sourceChanged_taken {s : State} (hs : State.Ok s) (oldSrc oldPort : Nat) : SourceTaken s (s.sourceChanged oldSrc oldPort)
    (if s.get fTbSrc = 0 then tbFree
     else if s.get fTbState = tbFree ∨ (s.get fTbPort = oldPort ∧ (s.get fTbSrc = oldSrc ∨ oldSrc = 0)) then s.get fTbState
     else tbAcquire) := by
  by_cases hsrc : s.get fTbSrc = 0
  · rw [State.sourceChanged_off hsrc, if_pos hsrc]
    split
    · next hfree => exact hfree ▸ SourceTaken.stays s
    · exact SourceTaken.entered hs (by decide)
  rw [if_neg hsrc]
  by_cases hsame : s.get fTbPort = oldPort ∧ (s.get fTbSrc = oldSrc ∨ oldSrc = 0)
  · rw [State.sourceChanged_same hsrc hsame, if_pos (.inr hsame)]
    exact SourceTaken.stays s
  rw [State.sourceChanged_moved hsrc hsame]
  have hun : State.Ok s.unsequenced := hs.of_evolves (ev_setTb (Evolves.refl s))
  have honly : TbOnly s s.unsequenced [0x1004] := s.setTb_tbOnly _ _
  rcases tbState_cases s with hst | hst | hst | hst
  · rw [if_neg (by simp [hst, tbFree, tbLocked, tbHoldover]), if_neg (by simp [hst, tbFree, tbAcquire]), if_pos (.inl hst)]
    exact ⟨honly, rfl, rfl⟩
  · rw [if_neg (by simp [hst, tbAcquire, tbLocked, tbHoldover]), if_pos hst, if_neg (by simp [hst, hsame, tbFree, tbAcquire])]
    exact ⟨honly.trans (State.setTb_tbOnly _ _ _), hst, rfl⟩
  · rw [if_pos (.inl hst), if_neg (by simp [hst, hsame, tbFree, tbLocked])]
    obtain ⟨hent, hstate, hcount⟩ := SourceTaken.entered hun (st := tbAcquire) (by decide)
    exact ⟨honly.trans hent, hstate, hcount⟩
  · rw [if_pos (.inr hst), if_neg (by simp [hst, hsame, tbFree, tbHoldover])]
    obtain ⟨hent, hstate, hcount⟩ := SourceTaken.entered hun (st := tbAcquire) (by decide)
    exact ⟨honly.trans hent, hstate, hcount⟩

end Sys2Proof.Machine

namespace Sys2Proof.Machine

theorem State.Ok.sourceSet {s : State} (hs : State.Ok s) (v : Word) : State.Ok (s.sourceSet v) :=
  (hs.ctrlSet v).of_evolves (ev_sourceChanged (Evolves.refl _))

theorem State.tbStateAfter_eq {s : State} (hs : State.Ok s) (v : Word) : s.tbStateAfter v =
    if (s.ctrlSet v).get fTbSrc = 0 then tbFree
    else if (s.ctrlSet v).get fTbState = tbFree ∨
        ((s.ctrlSet v).get fTbPort = s.get fTbPort ∧ ((s.ctrlSet v).get fTbSrc = s.get fTbSrc ∨ s.get fTbSrc = 0)) then (s.ctrlSet v).get fTbState
    else tbAcquire := by
  rw [State.ctrlSet_src hs, State.ctrlSet_port hs, (s.ctrlSet_tbOnly v).regs.get (f := fTbState) (by decide)]
  rfl

/-- What an accepted write to TB_CTRL leaves before frames begin or end (R46). -/
structure CtrlTaken (s t : State) (v : Word) (ks : List Nat) : Prop where
  ok : State.Ok t
  only : TbOnly s t ks
  ctrl : t.reg kTbCtrl = v &&& 0xF177
  state : t.get fTbState = s.tbStateAfter v
  count : t.tb.ns = s.tb.ns

theorem CtrlTaken.frameEn {s t : State} {v : Word} {ks : List Nat} (h : CtrlTaken s t v ks) : t.flag fFrameEn = (fFrameEn.ofWord v != 0) := by
  have hget : t.get fFrameEn = fFrameEn.ofWord v := (congrArg fFrameEn.ofWord h.ctrl).trans (Fld.ofWord_and (by decide) v)
  rw [State.flag, hget]

theorem State.sourceSet_taken {s : State} (hs : State.Ok s) (v : Word) : CtrlTaken s (s.sourceSet v) v [kTbCtrl, 0x1004] := by
  obtain ⟨honly, hstate, hcount⟩ := State.sourceChanged_taken (hs.ctrlSet v) (s.get fTbSrc) (s.get fTbPort)
  exact ⟨hs.sourceSet v, ((s.ctrlSet_tbOnly v).mono (by simp)).trans (honly.mono (by simp)), (honly.regs kTbCtrl (by decide)).trans (State.ctrlSet_reg hs v),
    hstate.trans (State.tbStateAfter_eq hs v).symm, hcount⟩

theorem State.ctrlSet_taken {s : State} (hs : State.Ok s) (v : Word) (hstate : s.tbStateAfter v = s.get fTbState) :
    CtrlTaken s (s.ctrlSet v) v [kTbCtrl] :=
  ⟨hs.ctrlSet v, s.ctrlSet_tbOnly v, State.ctrlSet_reg hs v, ((s.ctrlSet_tbOnly v).regs.get (by decide)).trans hstate.symm, rfl⟩

/-- With SRC and PORT as they were in FREE the write changes TB_CTRL alone (R46). -/
theorem State.sourceSet_unchanged {s : State} {v : Word} (hs : State.Ok s) (hsrc : fTbSrc.ofWord v = s.get fTbSrc)
    (hport : fTbPort.ofWord v = s.get fTbPort) (hfree : s.get fTbState = tbFree) : s.sourceSet v = s.ctrlSet v := by
  by_cases hzero : (s.ctrlSet v).get fTbSrc = 0
  · have hkept : (s.ctrlSet v).get fTbState = tbFree := ((s.ctrlSet_tbOnly v).regs.get (by decide)).trans hfree
    exact (State.sourceChanged_off hzero _ _).trans (if_pos hkept)
  · exact State.sourceChanged_same hzero ⟨(State.ctrlSet_port hs v).trans hport, .inl ((State.ctrlSet_src hs v).trans hsrc)⟩

theorem State.tbStateAfter_free {s : State} (v : Word) (hfree : s.get fTbState = tbFree) : s.tbStateAfter v = s.get fTbState := by
  unfold State.tbStateAfter
  split
  · exact hfree.symm
  · exact if_pos (.inl hfree)

-- FRAMES BEGIN AND END

/-- Nothing changes but the registers of the keys listed, the Timebase and the Mill. -/
structure GridOnly (s t : State) (ks : List Nat) : Prop where
  regs : keepsRegs s t ks
  rest : t = { s with regs := t.regs, tb := t.tb, mill := t.mill }

theorem GridOnly.ram {s t : State} {ks : List Nat} (h : GridOnly s t ks) : keepsRam s t := by
  intro a; rw [h.rest]; rfl

theorem TbOnly.grid {r s t : State} {ks ls : List Nat} (h : TbOnly r s ks) (g : GridOnly s t ls) : GridOnly r t (ks ++ ls) where
  regs := (h.regs.mono fun _ => List.mem_append_left ls).trans (g.regs.mono fun _ => List.mem_append_right ks)
  rest := by rw [g.rest, h.rest]

/-- The number of the first boundary at or after the later of the epoch e and the count, on a grid of period p (R52). -/
def firstBoundary (e now p : Nat) : Nat := if now ≤ e then 0 else (now - e + p - 1) / p

theorem le_firstBoundary {e now p : Nat} (hp : 0 < p) : now ≤ e + firstBoundary e now p * p := by
  unfold firstBoundary
  split
  · omega
  · have hceil : now - e + p - 1 < p * ((now - e + p - 1) / p + 1) := Nat.lt_mul_div_succ _ hp
    rw [Nat.mul_add, Nat.mul_one, Nat.mul_comm] at hceil
    omega

theorem lt_of_lt_firstBoundary {e now p n : Nat} (hn : n < firstBoundary e now p) : e + n * p < max now e := by
  unfold firstBoundary at hn
  split at hn
  · omega
  · rcases Nat.eq_zero_or_pos p with rfl | hp
    · simp at hn
    · have hfloor : (n + 1) * p ≤ now - e + p - 1 := (Nat.le_div_iff_mul_le hp).mp hn
      rw [Nat.add_mul, Nat.one_mul] at hfloor
      omega

theorem State.framesOn_only (s : State) : GridOnly s s.framesOn [kFrameBase] :=
  ⟨(State.setReg_onlyRegs (s.millGrid.setTb _) kFrameBase 0).regs, rfl⟩

theorem State.framesOn_next (s : State) : s.framesOn.tb.next = firstBoundary (s.reg64 kFrameEpoch).toNat s.now s.period := rfl

theorem State.framesOn_boundaryAt (s : State) (n : Nat) : s.framesOn.boundaryAt n = (s.reg64 kFrameEpoch).toNat + n * s.period := by
  have hepoch : s.framesOn.reg64 kFrameEpoch = s.reg64 kFrameEpoch := s.framesOn_only.regs.reg64 (by decide) (by decide)
  have hperiod : s.framesOn.period = s.period := congrArg BitVec.toNat (s.framesOn_only.regs kFramePeriod (by decide))
  rw [State.boundaryAt, hepoch, hperiod]
  rfl

theorem State.framesOn_base {s : State} (hs : State.Ok s) : s.framesOn.reg kFrameBase = 0 :=
  State.reg_setReg_same (s.millGrid.setTb _) _ _ hs.regsKeyed

/-- Where the frames begin, after a write that has kept the grid's registers and the count (R52). -/
theorem CtrlTaken.framesOn_grid {s t : State} {v : Word} {ks : List Nat} (h : CtrlTaken s t v ks) (hks : ∀ k ∈ ks, k = kTbCtrl ∨ k = 0x1004) :
    (s.reg64 kFrameEpoch).toNat ≤ t.framesOn.boundaryAt t.framesOn.tb.next ∧
      (0 < s.period → s.now ≤ t.framesOn.boundaryAt t.framesOn.tb.next) ∧
      ∀ n, n < t.framesOn.tb.next → t.framesOn.boundaryAt n < max s.now ((s.reg64 kFrameEpoch).toNat) := by
  have hkept {k : Nat} (h1 : k ≠ kTbCtrl) (h2 : k ≠ 0x1004) : k ∉ ks := fun hin => (hks k hin).elim h1 h2
  have hepoch : t.reg64 kFrameEpoch = s.reg64 kFrameEpoch := h.only.regs.reg64 (hkept (by decide) (by decide)) (hkept (by decide) (by decide))
  have hperiod : t.period = s.period := congrArg BitVec.toNat (h.only.regs kFramePeriod (hkept (by decide) (by decide)))
  have hnow : t.now = s.now := congrArg BitVec.toNat h.count
  simp only [State.framesOn_boundaryAt, State.framesOn_next, hepoch, hperiod, hnow]
  exact ⟨Nat.le_add_right _ _, le_firstBoundary, fun n => lt_of_lt_firstBoundary⟩

theorem State.framesOff_only (s : State) : GridOnly s s.framesOff [0x1004] :=
  ⟨(State.put_onlyRegs (s.millGrid.setTb _) fPeriodPending 0).regs, rfl⟩

theorem State.framesOff_pending {s : State} (hs : State.Ok s) : s.framesOff.flag fPeriodPending = false :=
  State.flag_off_same (hs.of_evolves (ev_setTb (ev_millGrid (Evolves.refl s)))) rfl

theorem State.framesOff_state {s : State} (hs : State.Ok s) : s.framesOff.get fTbState = s.get fTbState :=
  State.get_put_apart (s.millGrid.setTb _) fPeriodPending fTbState 0 hs.regsKeyed rfl rfl

theorem CtrlTaken.follows_on {s t : State} {v : Word} {ks : List Nat} (h : CtrlTaken s t v ks) (hon : fFrameEn.ofWord v = 1)
    (hoff : s.flag fFrameEn = false) : s.framesFollow t = t.framesOn :=
  if_pos (by simp [h.frameEn, hon, hoff])

theorem CtrlTaken.follows_off {s t : State} {v : Word} {ks : List Nat} (h : CtrlTaken s t v ks) (hoff : fFrameEn.ofWord v = 0)
    (hon : s.flag fFrameEn = true) : s.framesFollow t = t.framesOff :=
  (if_neg (by simp [hon])).trans (if_pos (by simp [h.frameEn, hon, hoff]))

theorem CtrlTaken.follows_same {s t : State} {v : Word} {ks : List Nat} (h : CtrlTaken s t v ks)
    (hsame : fFrameEn.ofWord v = 1 ↔ s.flag fFrameEn = true) : s.framesFollow t = t := by
  have hbit : fFrameEn.ofWord v < 2 := fFrameEn.ofWord_lt v
  have hen : t.flag fFrameEn = s.flag fFrameEn := by
    rw [h.frameEn, Bool.eq_iff_iff, ← hsame, bne_iff_ne]
    omega
  exact (if_neg (by simp [hen])).trans (if_neg (by simp [hen]))

-- THE COMMANDS THAT WRITE TB_CTRL

theorem frameEnable_writes {s : State} {v : Word} (hpf : s.turnsAway 0 = false) (hon : fFrameEn.ofWord v = 1) (hoff : s.flag fFrameEn = false) :
    exec (.frameEnable 0 v) s = .next (s.tbCtrlWrite 0 v) :=
  (if_neg (by simp [hpf])).trans (if_pos (by simp [hon, hoff]))

theorem frameDisable_writes {s : State} {v : Word} (hpf : s.turnsAway 0 = false) (hoff : fFrameEn.ofWord v = 0) (hon : s.flag fFrameEn = true) :
    exec (.frameDisable 0 v) s = .next (s.tbCtrlWrite 0 v) :=
  (if_neg (by simp [hpf])).trans (if_pos ⟨hoff, hon⟩)

theorem tbSourceChange_writes {s : State} {v : Word} (hpf : s.turnsAway 0 = false) (hsame : fFrameEn.ofWord v = 1 ↔ s.flag fFrameEn = true)
    (hmoved : fTbSrc.ofWord v ≠ s.get fTbSrc ∨ fTbPort.ofWord v ≠ s.get fTbPort) : exec (.tbSourceChange 0 v) s = .next (s.tbCtrlWrite 0 v) :=
  (if_neg (by simp [hpf])).trans (if_pos ⟨hsame, hmoved⟩)

section
variable {s t : State} {v : Word} {ks : List Nat}

/-- Frames enabled: what every clause of FRAME_ENABLE says (R52). -/
theorem frameEnable_taken (hpf : s.turnsAway 0 = false) (hsrc : fTbSrc.ofWord v ≤ 3) (hport : fTbPort.ofWord v ≤ 4) (hon : fFrameEn.ofWord v = 1)
    (hoff : s.flag fFrameEn = false) (ht : s.sourceSet v = t) (h : CtrlTaken s t v ks) :
    exec (.frameEnable 0 v) s = .next t.framesOn ∧ t.framesOn.reg kTbCtrl = v &&& 0xF177 ∧ t.framesOn.get fTbState = s.tbStateAfter v ∧
      t.framesOn.reg kFrameBase = 0 ∧ GridOnly s t.framesOn (ks ++ [kFrameBase]) := by
  refine ⟨(frameEnable_writes hpf hon hoff).trans (congrArg _ ((State.tbCtrlWrite_accepted hsrc hport).trans ?_)),
    (t.framesOn_only.regs kTbCtrl (by decide)).trans h.ctrl, (t.framesOn_only.regs.get (by decide)).trans h.state, State.framesOn_base h.ok,
    h.only.grid t.framesOn_only⟩
  exact ht ▸ (ht ▸ h).follows_on hon hoff

/-- Frames disabled: what every clause of FRAME_DISABLE says (R825). -/
theorem frameDisable_taken (hpf : s.turnsAway 0 = false) (hsrc : fTbSrc.ofWord v ≤ 3) (hport : fTbPort.ofWord v ≤ 4) (hoff : fFrameEn.ofWord v = 0)
    (hon : s.flag fFrameEn = true) (ht : s.sourceSet v = t) (h : CtrlTaken s t v ks) :
    exec (.frameDisable 0 v) s = .next t.framesOff ∧ t.framesOff.reg kTbCtrl = v &&& 0xF177 ∧ t.framesOff.get fTbState = s.tbStateAfter v ∧
      t.framesOff.flag fPeriodPending = false ∧ GridOnly s t.framesOff (ks ++ [0x1004]) := by
  refine ⟨(frameDisable_writes hpf hoff hon).trans (congrArg _ ((State.tbCtrlWrite_accepted hsrc hport).trans ?_)),
    (t.framesOff_only.regs kTbCtrl (by decide)).trans h.ctrl, (State.framesOff_state h.ok).trans h.state, State.framesOff_pending h.ok,
    h.only.grid t.framesOff_only⟩
  exact ht ▸ (ht ▸ h).follows_off hoff hon

/-- A change of SRC or PORT alone (R46). -/
theorem tbSourceChange_taken (hs : State.Ok s) (hpf : s.turnsAway 0 = false) (hsrc : fTbSrc.ofWord v ≤ 3) (hport : fTbPort.ofWord v ≤ 4)
    (hsame : fFrameEn.ofWord v = 1 ↔ s.flag fFrameEn = true) (hmoved : fTbSrc.ofWord v ≠ s.get fTbSrc ∨ fTbPort.ofWord v ≠ s.get fTbPort) :
    exec (.tbSourceChange 0 v) s = .next (s.sourceSet v) :=
  (tbSourceChange_writes hpf hsame hmoved).trans (congrArg _ ((State.tbCtrlWrite_accepted hsrc hport).trans
    ((State.sourceSet_taken hs v).follows_same hsame)))

end

/-- In FREE a change of SRC changes TB_CTRL and at most forgets the sequence numbers (R46, R74). -/
theorem State.sourceSet_free {s : State} {v : Word} (hs : State.Ok s) (hsrc : 1 ≤ fTbSrc.ofWord v) (hfree : s.get fTbState = tbFree) :
    ∃ seqs, s.sourceSet v = (s.ctrlSet v).setTb { s.tb with seqs } := by
  have hne : (s.ctrlSet v).get fTbSrc ≠ 0 := by rw [State.ctrlSet_src hs]; omega
  have hkept : (s.ctrlSet v).get fTbState = tbFree := ((s.ctrlSet_tbOnly v).regs.get (by decide)).trans hfree
  by_cases hsame : (s.ctrlSet v).get fTbPort = s.get fTbPort ∧ ((s.ctrlSet v).get fTbSrc = s.get fTbSrc ∨ s.get fTbSrc = 0)
  · exact ⟨s.tb.seqs, State.sourceChanged_same hne hsame⟩
  · refine ⟨[], (State.sourceChanged_moved hne hsame).trans ((if_neg ?_).trans (if_neg ?_))⟩
    · simp [hkept, tbFree, tbLocked, tbHoldover]
    · simp [hkept, tbFree, tbAcquire]

end Sys2Proof.Machine

namespace Sys2Proof.Machine

-- TB_SET, THE PERIOD AND ITS APPLY

theorem tbReject_rejected {s : State} (hs : State.Ok s) : s.tbReject.flag fTbRejected = true := State.flag_on_same hs rfl rfl

theorem tbReject_onlyRegs (s : State) : OnlyRegs s s.tbReject [0x1004] := s.put_onlyRegs fTbRejected 1

theorem tbSet_taken {s : State} {v : Word} (hpf : s.turnsAway 0 = false) (hoff : s.flag fFrameEn = false) : exec (.tbSet 0 v) s =
    .next ((s.setTb { s.tb with ns := BitVec.append v (s.loFor 0 0x1014 0), frac := 0, voidWindow := true }).loTaken 0 0x1014) :=
  (if_neg (by simp [hpf])).trans ((if_neg (by simp)).trans (if_neg (by simp [hoff])))

theorem tbSet_rejected {s : State} {v : Word} (hpf : s.turnsAway 0 = false) (hon : s.flag fFrameEn = true) :
    exec (.tbSet 0 v) s = .next (s.tbReject.loTaken 0 0x1014) :=
  (if_neg (by simp [hpf])).trans ((if_neg (by simp)).trans (if_pos hon))

theorem tbFramePeriodWrite_pf {s : State} {v : Word} (hpf : s.turnsAway 0 = false) : exec (.tbFramePeriodWrite 0 v) s = .next (s.framePeriodWrite 0 v) :=
  if_neg (by simp [hpf])

theorem periodInRange_iff (v : Word) : periodInRange v = true ↔ 16666666 ≤ v.toNat ∧ v.toNat ≤ 100000000 := by
  simp [periodInRange]

/-- An enabled deadline offset bounds the period that may follow (R55, R826). -/
theorem State.offsetsFit_iff (s : State) (p : Nat) :
    s.offsetsFit p = true ↔ ∀ k, k < 8 → s.flag (fFdlEn k) = true → s.get (fFdlOffset k) * 1000 < 2 * p := by
  simp only [State.offsetsFit, State.fdlEnabled, List.all_eq_true, List.mem_filter, List.mem_range, decide_eq_true_eq, and_imp]

theorem State.framePeriodWrite_pending {s : State} {v : Word} (hv : periodInRange v = true) (hon : s.flag fFrameEn = true) (hnone : s.tb.applyAt = none) :
    s.framePeriodWrite 0 v = (s.setTb { s.tb with pendPeriod := some v }).on fPeriodPending :=
  (if_neg (by simp)).trans ((if_neg (by simp [hv])).trans ((if_pos hon).trans (if_neg (by simp [hnone]))))

theorem State.framePeriodWrite_now {s : State} {v : Word} (hv : periodInRange v = true) (hoff : s.flag fFrameEn = false) (hfit : s.offsetsFit v.toNat = true) :
    s.framePeriodWrite 0 v = s.setReg kFramePeriod v :=
  (if_neg (by simp)).trans ((if_neg (by simp [hv])).trans ((if_neg (by simp [hoff])).trans (if_pos hfit)))

theorem State.framePeriodWrite_rejected {s : State} {v : Word} (h : periodInRange v = false ∨ (s.flag fFrameEn = true ∧ s.tb.applyAt ≠ none)) :
    s.framePeriodWrite 0 v = s.tbReject := by
  refine (if_neg (by simp)).trans ?_
  by_cases hv : periodInRange v = true
  · obtain ⟨hon, happly⟩ := h.resolve_left (by simp [hv])
    exact (if_neg (by simp [hv])).trans ((if_pos hon).trans (if_pos (Option.isSome_iff_ne_none.mpr happly)))
  · exact if_pos (by simp [hv])

theorem tbFrameApplyWrite_pf {s : State} {v : Word} (hpf : s.turnsAway 0 = false) : exec (.tbFrameApplyWrite 0 v) s = .next (s.frameApplyWrite 0 v) :=
  if_neg (by simp [hpf])

theorem State.frameApplyWrite_taken {s : State} {v p : Word} (hnone : s.tb.applyAt = none) (hpend : s.tb.pendPeriod = some p)
    (hrange : s.applyInRange v = true) (hfit : s.offsetsFit p.toNat = true) :
    s.frameApplyWrite 0 v = (s.setTb { s.tb with applyAt := some v }).setReg kFrameApply v := by
  refine (if_neg (by simp)).trans ((if_neg (by simp [hnone])).trans ?_)
  rw [hpend]
  exact if_pos (by simp [hrange, hfit])

theorem State.frameApplyWrite_rejected {s : State} {v : Word} (hsome : s.tb.applyAt ≠ none) : s.frameApplyWrite 0 v = s.tbReject :=
  (if_neg (by simp)).trans (if_pos (Option.isSome_iff_ne_none.mpr hsome))

theorem State.applyInRange_iff (s : State) (v : Word) :
    s.applyInRange v = true ↔ 2 ≤ (v - s.reg kFrameNum).toNat ∧ (v - s.reg kFrameNum).toNat ≤ 1000000 := by
  simp [State.applyInRange]

-- THE DEADLINE TIMERS

/-- The register of a deadline timer's settings. -/
def kFdlCfg (k : Nat) : Nat := 0x1100 + 16 * k

theorem tbFdlCfgWrite_pf {s : State} {k : Fin 8} {v : Word} (hpf : s.turnsAway 0 = false) :
    exec (.tbFdlCfgWrite 0 k v) s = .next (s.fdlCfgWrite 0 k v) :=
  if_neg (by simp [hpf])

theorem State.fdlCfgWrite_rejected {s : State} {k : Fin 8} {v : Word} (hen : (fFdlEn k.val).ofWord v = 1)
    (hbad : (fFdlOffset k.val).ofWord v < 100 ∨ 2 * s.period ≤ (fFdlOffset k.val).ofWord v * 1000) : s.fdlCfgWrite 0 k v = s.tbReject :=
  (if_neg (by simp)).trans (if_pos ⟨hen, by omega⟩)

theorem State.fdlCfgWrite_taken {s : State} {k : Fin 8} {v : Word}
    (hok : (fFdlEn k.val).ofWord v = 1 → 100 ≤ (fFdlOffset k.val).ofWord v ∧ (fFdlOffset k.val).ofWord v * 1000 < 2 * s.period) :
    s.fdlCfgWrite 0 k v = if (fFdlPart k.val).ofWord v = s.perc then (s.setReg (kFdlCfg k.val) (v &&& 0xF803FFFF#32)).off (fFdlMode k.val)
      else s.setReg (kFdlCfg k.val) (v &&& 0xF803FFFF#32) :=
  (if_neg (by simp)).trans (if_neg fun h => h.2 (hok h.1))

/-- A field of a timer's settings, other than MODE, reads as written after an accepted write. -/
theorem State.fdlCfgWrite_field {s : State} (hs : State.Ok s) {k : Fin 8} {v : Word} {f : Fld} (hkey : f.key = kFdlCfg k.val)
    (hmask : ∀ i < f.w, (0xF803FFFF#32).getLsbD (f.lo + i) = true) (hapart : (fFdlMode k.val).apart f = true)
    (hok : (fFdlEn k.val).ofWord v = 1 → 100 ≤ (fFdlOffset k.val).ofWord v ∧ (fFdlOffset k.val).ofWord v * 1000 < 2 * s.period) :
    (s.fdlCfgWrite 0 k v).get f = f.ofWord v := by
  have hset : (s.setReg (kFdlCfg k.val) (v &&& 0xF803FFFF#32)).get f = f.ofWord v :=
    hkey ▸ (State.get_setReg_same hs f _).trans (Fld.ofWord_and hmask v)
  rw [State.fdlCfgWrite_taken hok]
  split
  · exact (State.get_put_apart _ _ _ _ (hs.of_evolves (ev_setReg (Evolves.refl s) _ _)).regsKeyed rfl hapart).trans hset
  · exact hset

theorem State.fdlCfgWrite_mode {s : State} (hs : State.Ok s) {k : Fin 8} {v : Word}
    (hok : (fFdlEn k.val).ofWord v = 1 → 100 ≤ (fFdlOffset k.val).ofWord v ∧ (fFdlOffset k.val).ofWord v * 1000 < 2 * s.period) :
    (s.fdlCfgWrite 0 k v).get (fFdlMode k.val) = if (fFdlPart k.val).ofWord v = s.perc then 0 else (fFdlMode k.val).ofWord v := by
  rw [State.fdlCfgWrite_taken hok]
  split
  · exact State.get_put_same _ _ 0 (hs.of_evolves (ev_setReg (Evolves.refl s) _ _)).regsKeyed rfl
  · exact (State.get_setReg_same hs (fFdlMode k.val) _).trans (Fld.ofWord_and (f := fFdlMode k.val) (by simp [fFdlMode]) v)

theorem State.fdlCfgWrite_onlyRegs {s : State} {k : Fin 8} {v : Word}
    (hok : (fFdlEn k.val).ofWord v = 1 → 100 ≤ (fFdlOffset k.val).ofWord v ∧ (fFdlOffset k.val).ofWord v * 1000 < 2 * s.period) :
    OnlyRegs s (s.fdlCfgWrite 0 k v) [kFdlCfg k.val] := by
  have hset := s.setReg_onlyRegs (kFdlCfg k.val) (v &&& 0xF803FFFF#32)
  rw [State.fdlCfgWrite_taken hok]
  split
  · exact ⟨hset.regs.trans (keepsRegs_put _ (fFdlMode k.val) 0), fun _ => rfl, rfl⟩
  · exact hset

-- WHAT A WRITE DOES, AND WHAT A BREACH DOES

/-- Settles O13: the source change of R46 comes first (`sourceSet_taken`), then frames begin or end; each other register has its own lemma above. -/
theorem timebaseWritesTakeEffect : Obligations.TimebaseWritesTakeEffect := by
  unfold Obligations.TimebaseWritesTakeEffect
  intro s v hs hpf
  have hmoved := State.sourceSet_taken hs v
  refine ⟨fun hon hoff hsrc hport hsrc3 hport4 hfree => ?_, fun hoff hon hsrc hport hsrc3 hport4 hfree => ?_, fun hsame hne hsrc1 hsrc3 hport4 hfree => ?_,
    fun hon hoff hsrc3 hport4 => ?_, fun hoff hon hsrc3 hport4 => ?_, fun hsame hne hsrc3 hport4 => ?_, fun hoff => ?_, fun hmin hmax hon hnone => ?_,
    fun hmin hmax hoff hfit => ?_, fun p hnone hpend hmin hmax hfit => ?_, fun k hok => ?_⟩
  · have htaken := State.ctrlSet_taken hs v (State.tbStateAfter_free v hfree)
    obtain ⟨hexec, hctrl, -, hbase, honly⟩ :=
      frameEnable_taken hpf hsrc3 hport4 hon hoff (State.sourceSet_unchanged hs hsrc hport hfree) htaken
    obtain ⟨hepoch, hnow, hfirst⟩ := htaken.framesOn_grid (by simp)
    exact ⟨_, hexec, hctrl, hbase, rfl, hepoch, hnow, hfirst, honly.regs, honly.ram, honly.rest⟩
  · have htaken := State.ctrlSet_taken hs v (State.tbStateAfter_free v hfree)
    obtain ⟨hexec, hctrl, -, hpend, honly⟩ :=
      frameDisable_taken hpf hsrc3 hport4 hoff hon (State.sourceSet_unchanged hs hsrc hport hfree) htaken
    exact ⟨_, hexec, hctrl, rfl, rfl, rfl, hpend, congrArg BitVec.toNat (honly.regs kFramePeriod (by decide)), honly.regs, honly.ram, honly.rest⟩
  · obtain ⟨seqs, hseqs⟩ := State.sourceSet_free hs hsrc1 hfree
    have hexec := tbSourceChange_taken hs hpf hsrc3 hport4 hsame (.inl hne)
    rw [hseqs] at hexec
    have htaken := State.ctrlSet_taken hs v (State.tbStateAfter_free v hfree)
    exact ⟨_, hexec, htaken.ctrl, htaken.state.trans (State.tbStateAfter_free v hfree |>.trans hfree), htaken.only.regs, htaken.only.ram, rfl⟩
  · obtain ⟨hexec, hctrl, hstate, hbase, honly⟩ := frameEnable_taken hpf hsrc3 hport4 hon hoff rfl hmoved
    obtain ⟨hepoch, hnow, -⟩ := hmoved.framesOn_grid (by simp)
    exact ⟨_, hexec, hctrl, hstate, hbase, rfl, hepoch, hnow, honly.regs.mono (by simp), honly.ram, honly.rest⟩
  · obtain ⟨hexec, hctrl, hstate, hpend, honly⟩ := frameDisable_taken hpf hsrc3 hport4 hoff hon rfl hmoved
    exact ⟨_, hexec, hctrl, hstate, rfl, rfl, rfl, hpend, honly.regs.mono (by simp), honly.ram, honly.rest⟩
  · exact ⟨_, tbSourceChange_taken hs hpf hsrc3 hport4 hsame hne, hmoved.ctrl, hmoved.state, hmoved.only.regs, hmoved.only.ram, hmoved.only.rest⟩
  · exact ⟨_, tbSet_taken hpf hoff, rfl, rfl, rfl, rfl⟩
  · refine ⟨_, (tbFramePeriodWrite_pf hpf).trans (congrArg _ (State.framePeriodWrite_pending ((periodInRange_iff v).mpr ⟨hmin, hmax⟩) hon hnone)), rfl, ?_⟩
    have hput := keepsRegs_put (s.setTb { s.tb with pendPeriod := some v }) fPeriodPending 1
    exact ⟨State.flag_on_same (hs.of_evolves (ev_setTb (Evolves.refl s))) rfl rfl, congrArg BitVec.toNat (hput kFramePeriod (by decide)), hput, fun _ => rfl, rfl⟩
  · exact ⟨_, (tbFramePeriodWrite_pf hpf).trans (congrArg _ (State.framePeriodWrite_now ((periodInRange_iff v).mpr ⟨hmin, hmax⟩) hoff
      ((s.offsetsFit_iff _).mpr hfit))), s.reg_setReg_same _ _ hs.regsKeyed, s.setReg_onlyRegs _ _⟩
  · refine ⟨_, (tbFrameApplyWrite_pf hpf).trans (congrArg _ (State.frameApplyWrite_taken hnone hpend ((s.applyInRange_iff v).mpr ⟨hmin, hmax⟩)
      ((s.offsetsFit_iff _).mpr hfit))), ?_⟩
    exact ⟨State.reg_setReg_same (s.setTb _) _ _ hs.regsKeyed, rfl, keepsRegs_setReg _ _ _, fun _ => rfl, rfl⟩
  · exact ⟨_, tbFdlCfgWrite_pf hpf, State.fdlCfgWrite_field hs rfl (by simp only [fFdlOffset]; decide) (by simp [Fld.apart, fFdlMode, fFdlOffset]) hok,
      State.fdlCfgWrite_field hs rfl (by simp only [fFdlEn]; decide) (by simp [Fld.apart, fFdlMode, fFdlEn]) hok,
      State.fdlCfgWrite_field hs rfl (by simp only [fFdlPart]; decide) (by simp [Fld.apart, fFdlMode, fFdlPart]) hok, State.fdlCfgWrite_mode hs hok,
      State.fdlCfgWrite_onlyRegs hok⟩

theorem State.hiWrite_frameEpoch_rejected {s : State} (hon : s.flag fFrameEn = true) (v : Word) :
    s.hiWrite 0 0x1044 v = s.tbReject.loTaken 0 0x1044 := by
  change (if s.flag fFrameEn then s.tbReject else s.setReg64 kFrameEpoch _).loTaken 0 0x1044 = _
  rw [hon]; rfl

/-- Settles O14: each breach ends in `tbReject`, which sets one bit of TB_STATUS. -/
theorem timebaseRejectsABreachOfARange : Obligations.TimebaseRejectsABreachOfARange := by
  unfold Obligations.TimebaseRejectsABreachOfARange
  intro s v hs hpf
  have hrej := tbReject_rejected hs
  have honly := tbReject_onlyRegs s
  refine ⟨fun hbad => ?_, fun hbad hon hoff => ?_, fun hon => ?_, fun hsome => ?_, fun k hen hbad => ?_, fun hbad => ?_, fun hon => ?_⟩
  · have hbreach : periodInRange v = false ∨ (s.flag fFrameEn = true ∧ s.tb.applyAt ≠ none) := by
      rw [← Bool.not_eq_true, periodInRange_iff]
      rcases hbad with hmin | hmax | happly
      · exact .inl (by omega)
      · exact .inl (by omega)
      · exact .inr happly
    exact ⟨_, (tbFramePeriodWrite_pf hpf).trans (congrArg _ (State.framePeriodWrite_rejected hbreach)), hrej, honly⟩
  · exact ⟨_, (frameEnable_writes hpf hon hoff).trans (congrArg _ (State.tbCtrlWrite_rejected hbad)), hrej, honly⟩
  · exact ⟨_, tbSet_rejected hpf hon, hrej, honly.regs, honly.ram, rfl⟩
  · exact ⟨_, (tbFrameApplyWrite_pf hpf).trans (congrArg _ (State.frameApplyWrite_rejected hsome)), hrej, honly⟩
  · exact ⟨_, (tbFdlCfgWrite_pf hpf).trans (congrArg _ (State.fdlCfgWrite_rejected hen hbad)), hrej, honly⟩
  · obtain ⟨-, hreject, -⟩ := writesFollowTheAccessCodes s v hs hpf
    exact hreject hbad
  · exact ⟨_, (pairHiWrite_answers hpf rfl).trans (congrArg _ (State.hiWrite_frameEpoch_rejected hon v)), hrej, honly.regs, honly.ram, rfl⟩

end Sys2Proof.Machine

namespace Sys2Proof.Machine

-- A TICK

/-- A tick adds 40 ns and the correction, in units of 2^-32 ns, modulo the width of the count (R45). -/
theorem Timebase.tick_count (t : Timebase) :
    ((t.tick.ns.toNat : Int) * 2 ^ 32 + t.tick.frac) % 2 ^ 96 = ((t.ns.toNat : Int) * 2 ^ 32 + t.frac + 40 * 2 ^ 32 + t.correction) % 2 ^ 96 := by
  have hns : (t.tick.ns.toNat : Int) = (((t.ns.toNat : Int) * 2 ^ 32 + t.frac + 40 * 2 ^ 32 + t.correction) / 2 ^ 32) % 2 ^ 64 := by
    simp only [Timebase.tick, BitVec.toNat_ofInt]
    omega
  have hfrac : (t.tick.frac : Int) = ((t.ns.toNat : Int) * 2 ^ 32 + t.frac + 40 * 2 ^ 32 + t.correction) % 2 ^ 32 := by
    simp only [Timebase.tick]
    omega
  omega

theorem b2n_lt_two (b : Bool) : b2n b < 2 := by cases b <;> decide

theorem Fld.apart_comm (f g : Fld) : f.apart g = g.apart f := by
  rw [Bool.eq_iff_iff]
  simp only [Fld.apart, Bool.or_eq_true, decide_eq_true_eq, ne_comm (a := f.key)]
  tauto

-- STAMPS

/-- A stamp lies within the accuracy w of the Timebase value that ago ns before now had (R41). -/
theorem State.stampWithin_bounds {s : State} {w ago : Nat} (h : ago + w ≤ s.now) :
    s.now ≤ s.stampWithin w ago + ago + w ∧ s.stampWithin w ago + ago ≤ s.now + w := by
  have hfree : s.free / 2 % (2 * w + 1) < 2 * w + 1 := Nat.mod_lt _ (by omega)
  unfold State.stampWithin
  omega

/-- A pair that has been set to the stamp of an edge reads within 8 ns of the edge (R41). -/
theorem State.stampOf_bounds {s t : State} {k held : Nat} (hmin : held + 8 ≤ s.now) (hmax : s.now + 8 < 2 ^ 64)
    (ht : t.reg64 k = BitVec.ofNat 64 (s.stampOf held)) : s.now ≤ (t.reg64 k).toNat + held + 8 ∧ (t.reg64 k).toNat + held ≤ s.now + 8 := by
  have hbounds : s.now ≤ s.stampOf held + held + 8 ∧ s.stampOf held + held ≤ s.now + 8 := State.stampWithin_bounds hmin
  rw [ht, BitVec.toNat_ofNat, Nat.mod_eq_of_lt (by omega)]
  exact hbounds

-- A MEASUREMENT

/-- What a measurement may change: registers of the keys listed, the Timebase without its sequence numbers, the fault events and the free values drawn. -/
structure Measured (s t : State) (ks : List Nat) : Prop where
  regs : keepsRegs s t ks
  rest : t = { s with regs := t.regs, tb := t.tb, reeve := t.reeve, draws := t.draws }
  seqs : t.tb.seqs = s.tb.seqs

section
variable {r s : State} {ks : List Nat}

theorem Measured.refl (s : State) (ks : List Nat) : Measured s s ks := ⟨keepsRegs.refl s ks, rfl, rfl⟩

theorem Measured.trans {t : State} (h : Measured r s ks) (g : Measured s t ks) : Measured r t ks where
  regs := h.regs.trans g.regs
  rest := by rw [g.rest, h.rest]
  seqs := g.seqs.trans h.seqs

theorem Measured.mono {ls : List Nat} (h : Measured r s ks) (hsub : ∀ k ∈ ks, k ∈ ls) : Measured r s ls :=
  ⟨h.regs.mono hsub, h.rest, h.seqs⟩

theorem Measured.ram (h : Measured r s ks) : keepsRam r s := by
  intro a; rw [h.rest]; rfl

theorem TbOnly.measured (h : TbOnly r s ks) (hseqs : s.tb.seqs = r.tb.seqs) : Measured r s ks where
  regs := h.regs
  rest := by rw [h.rest]
  seqs := hseqs

theorem Measured.ite {c : Prop} [Decidable c] {t : State} (hthen : Measured r s ks) (helse : Measured r t ks) : Measured r (if c then s else t) ks :=
  iteInduction (motive := fun x => Measured r x ks) (fun _ => hthen) (fun _ => helse)

theorem Measured.setTb (h : Measured r s ks) {x : Timebase} (hx : x.seqs = s.tb.seqs) : Measured r (s.setTb x) ks :=
  h.trans ((s.setTb_tbOnly x ks).measured hx)

theorem Measured.put (h : Measured r s ks) {f : Fld} (n : Nat) (hf : f.key ∈ ks) : Measured r (s.put f n) ks :=
  h.trans (((s.put_tbOnly f n).mono (by simpa using hf)).measured rfl)

theorem Measured.raise (h : Measured r s ks) (e : FaultEvent) : Measured r (s.raise e) ks := h.trans ⟨fun _ _ => rfl, rfl, rfl⟩

theorem Measured.drawn (h : Measured r s ks) : Measured r s.drawn ks := h.trans ⟨fun _ _ => rfl, rfl, rfl⟩

theorem Measured.noted (h : Measured r s ks) : Measured r s.noted ks := by
  obtain ⟨past, hpast⟩ := s.noted_eq
  exact h.trans ((s.noted_tbOnly ks).measured (by rw [hpast]; rfl))

theorem Measured.tbEnter (h : Measured r s ks) (st : Nat) (hks : 0x1004 ∈ ks) : Measured r (s.tbEnter st) ks :=
  h.trans (((s.tbEnter_tbOnly st).mono (by simpa using hks)).measured (s.tbEnter_kept st).2)

theorem Measured.tbSettle (h : Measured r s ks) (hks : 0x1004 ∈ ks) : Measured r s.tbSettle ks :=
  Measured.ite (h.tbEnter _ hks) (Measured.ite (h.tbEnter _ hks) h)

end

theorem Timebase.counted_seqs (t : Timebase) (off : Int) : (t.counted off).seqs = t.seqs := by
  unfold Timebase.counted; split <;> rfl

-- The stages of a measurement, in the order in which it goes through them.

/-- A measurement in FREE or HOLDOVER enters ACQUIRE (R46). -/
def State.measureEntered (s : State) : State := if s.get fTbState = tbFree ∨ s.get fTbState = tbHoldover then s.tbEnter tbAcquire else s

/-- The measurement is counted, and the servo follows it (R46, R49). -/
def State.measureCounted (s : State) (off : Int) : State := (s.setTb ({ s.tb with firstDue := false }.counted off)).servoed

/-- The offset is removed at once, or is left to slew (R47, R48). -/
def State.measureMoved (s : State) (first : Bool) (off : Int) : State :=
  if first ∧ ¬ s.flag fFrameEn then s.tbStep off else s.setTb { s.tb with slew := off * 2 ^ 32 }

/-- An offset beyond 100 ms while frames run is logged (R76). -/
def State.measureLogged (s : State) (off : Int) : State := if s.flag fFrameEn ∧ 100000000 < off.natAbs then s.report 0x8303 (srcTb 15) else s

/-- TB_STATUS shows whether the Timebase slews. -/
def State.slewShown (s : State) : State := (s.put fSlewing (b2n (s.tb.slew != 0))).noted

theorem State.measure_eq {s : State} (hsrc : s.get fTbSrc ≠ 0) (off : Int) : s.measure off =
    ((((s.setReg kTbOffset (offsetWord off)).measureEntered.measureCounted off).measureMoved
      (s.setReg kTbOffset (offsetWord off)).measureEntered.tb.firstDue off).measureLogged off).slewShown.tbSettle := if_neg hsrc

section
variable {r s : State} (h : Measured r s [0x1004])
include h

theorem Measured.measureEntered : Measured r s.measureEntered [0x1004] := Measured.ite (h.tbEnter _ (by simp)) h

theorem Measured.servoed : Measured r s.servoed [0x1004] := Measured.drawn (h.setTb (by rfl))

theorem Measured.measureCounted (off : Int) : Measured r (s.measureCounted off) [0x1004] :=
  Measured.servoed (h.setTb (Timebase.counted_seqs { s.tb with firstDue := false } off))

theorem Measured.measureMoved (first : Bool) (off : Int) : Measured r (s.measureMoved first off) [0x1004] := by
  unfold State.measureMoved
  split
  · have hstep : Measured r (s.setTb { s.tb with ns := BitVec.ofInt 64 ((s.tb.ns.toNat : Int) + off), slew := 0, voidWindow := true }) [0x1004] := h.setTb rfl
    exact hstep.put 1 (by simp [fStepped])
  · exact h.setTb rfl

theorem Measured.measureLogged (off : Int) : Measured r (s.measureLogged off) [0x1004] := Measured.ite (h.raise _) h

theorem Measured.slewShown : Measured r s.slewShown [0x1004] := (h.put (f := fSlewing) _ (by simp [fSlewing])).noted

end

/-- Once TB_OFFSET is set, the rest of a measurement changes no register but TB_STATUS (R46 to R49). -/
theorem State.measure_taken {s : State} (hsrc : s.get fTbSrc ≠ 0) (off : Int) : Measured (s.setReg kTbOffset (offsetWord off)) (s.measure off) [0x1004] := by
  rw [State.measure_eq hsrc]
  exact (((Measured.refl _ _).measureEntered.measureCounted off).measureMoved _ off |>.measureLogged off).slewShown.tbSettle (by simp)

theorem State.measure_offset {s : State} (hs : State.Ok s) (hsrc : s.get fTbSrc ≠ 0) (off : Int) :
    (s.measure off).reg kTbOffset = offsetWord off :=
  ((State.measure_taken hsrc off).regs _ (by decide)).trans (s.reg_setReg_same _ _ hs.regsKeyed)

theorem State.measure_only {s : State} (hsrc : s.get fTbSrc ≠ 0) (off : Int) : Measured s (s.measure off) [kTbOffset, 0x1004] :=
  (((s.setReg_onlyRegs _ _).tbOnly.measured rfl).mono (by simp)).trans ((State.measure_taken hsrc off).mono (by simp))

theorem State.ppsFar_only (s : State) (detail : List Byte) : Measured s (s.ppsFar detail) [kTbOffset, 0x1004] :=
  have hcounted : Measured s ((s.tbMessageRejected detail).setTb { s.tb with good := 0, poor := s.tb.poor + 1 }) [kTbOffset, 0x1004] :=
    ((Measured.refl s _).raise _).setTb rfl
  hcounted.tbSettle (by simp)

-- A PPS EDGE

/-- PPS_IN's edge has been stamped (R41). -/
def State.ppsStamped (s : State) (held : Nat) : State := s.drawn.setReg64 kPpsStamp (BitVec.ofNat 64 (s.stampOf held))

theorem State.ppsStamped_stamp {s : State} (hs : State.Ok s) (held : Nat) :
    (s.ppsStamped held).reg64 kPpsStamp = BitVec.ofNat 64 (s.stampOf held) :=
  State.reg64_setReg64_same (hs.of_evolves (ev_drawn (Evolves.refl s))) _ _

theorem State.ppsStamped_regs (s : State) (held : Nat) : keepsRegs s (s.ppsStamped held) [kPpsStamp, kPpsStamp + 4] :=
  keepsRegs_setReg64 s.drawn _ _

theorem ppsEdge_unused {s : State} {held : Nat} (hheld : 60 ≤ held) (hsrc : s.get fTbSrc ≠ 3) : exec (.ppsEdge held) s = .next (s.ppsStamped held) :=
  (if_pos (if_pos hheld)).trans (if_neg hsrc)

/-- With SRC PPS an edge is measured, or rejected as too far from a whole second (limit 4 of 02). -/
theorem ppsEdge_measures {s : State} {held : Nat} (hheld : 60 ≤ held) (hsrc : s.get fTbSrc = 3) :
    ∃ t, exec (.ppsEdge held) s = .next t ∧ Measured (s.ppsStamped held) t [kTbOffset, 0x1004] := by
  have hkept : (s.ppsStamped held).get fTbSrc ≠ 0 := by
    rw [(s.ppsStamped_regs held).get (by decide), hsrc]
    decide
  have hexec : exec (.ppsEdge held) s = if s.get fTbState = tbLocked ∧ 1000000 < (ppsOffset (s.stampOf held)).natAbs
      then .next ((s.ppsStamped held).ppsFar (leBytes 8 (s.stampOf held))) else .next ((s.ppsStamped held).measure (ppsOffset (s.stampOf held))) :=
    (if_pos (if_pos hheld)).trans (if_pos hsrc)
  rw [hexec]
  split
  · exact ⟨_, rfl, State.ppsFar_only _ _⟩
  · exact ⟨_, rfl, State.measure_only hkept _⟩

-- A DISCIPLINE MESSAGE

/-- The number of a message of the selected port has become the one that later messages are held against (R74). -/
def State.sequenced (s : State) (kind : TimeKind) (seq : BitVec 16) : State := s.setTb { s.tb with seqs := Tbl.put s.tb.seqs kind.idx seq.toNat }

theorem disciplineMessage_taken {s : State} {gptp : Bool} {port : Fin 5} {kind : TimeKind} {seq : BitVec 16} {offset : Option Int} {bytes : List Byte}
    (hsrc : s.get fTbSrc = (if gptp then 1 else 2)) (hport : s.get fTbPort = port.val) (hseq : s.tb.inSequence kind seq = true) :
    exec (.disciplineMessage gptp port kind true seq offset bytes) s =
      match offset with | some off => .next ((s.sequenced kind seq).measure off) | none => .next (s.sequenced kind seq) :=
  (if_neg (by simp [hsrc, hport])).trans (if_neg (by simp [hseq]))

theorem disciplineMessage_rejected {s : State} {gptp : Bool} {port : Fin 5} {kind : TimeKind} {wellFormed : Bool} {seq : BitVec 16} {offset : Option Int}
    {bytes : List Byte} (hbad : wellFormed = false ∨ s.get fTbSrc ≠ (if gptp then 1 else 2) ∨ s.get fTbPort ≠ port.val) :
    exec (.disciplineMessage gptp port kind wellFormed seq offset bytes) s = .next (s.violation 0x8306 (srcTb 15) bytes) := by
  refine if_pos ?_
  rcases hbad with hform | hsrc | hport
  · simp [hform]
  · simp [hsrc]
  · simp [hport]

/-- A Sync is in sequence where it is newer than the latest one, by less than half of the number space. -/
theorem Timebase.inSequence_sync {t : Timebase} {seq : BitVec 16}
    (h : Tbl.find t.seqs 0 = none ∨ ∃ l : BitVec 16, Tbl.find t.seqs 0 = some l.toNat ∧ 1 ≤ (seq - l).toNat ∧ (seq - l).toNat < 32768) :
    t.inSequence .sync seq = true := by
  have hkind : TimeKind.sync.idx = 0 := rfl
  rcases h with hnone | ⟨l, hl, hnewer, hhalf⟩
  · simp [Timebase.inSequence, hkind, hnone]
  · have hne : seq ≠ l := by rintro rfl; simp at hnewer
    simp only [Timebase.inSequence, hkind, hl, BitVec.ofNat_toNat, BitVec.setWidth_eq, bne_iff_ne, ne_eq, hne, not_false_eq_true, Bool.and_eq_true,
      decide_eq_true_eq, true_and]
    exact hhalf

theorem State.sequenced_measured {s : State} (hs : State.Ok s) {kind : TimeKind} {seq : BitVec 16} (off : Int) (hsrc : s.get fTbSrc ≠ 0) :
    ((s.sequenced kind seq).measure off).reg kTbOffset = BitVec.ofInt 32 (clamp 2147483647 off) ∧
      Tbl.find ((s.sequenced kind seq).measure off).tb.seqs kind.idx = some seq.toNat ∧
      Measured (s.sequenced kind seq) ((s.sequenced kind seq).measure off) [kTbOffset, 0x1004] := by
  have hkept : (s.sequenced kind seq).get fTbSrc ≠ 0 := hsrc
  have hok : State.Ok (s.sequenced kind seq) := hs.of_evolves (ev_setTb (Evolves.refl s))
  have honly := State.measure_only hkept off
  refine ⟨State.measure_offset hok hkept off, ?_, honly⟩
  rw [honly.seqs]
  exact Tbl.find_put_same _ _ _

-- THE TIMERS AND THE CROSS-CHECK

/-- Raising an event leaves all but the fault events on their way to the Reeve. -/
theorem TbOnly.raised {s t : State} {ks : List Nat} (h : TbOnly s t ks) (e : FaultEvent) :
    keepsRam s (t.raise e) ∧ (t.raise e).reeve = { s.reeve with events := s.reeve.events ++ [e] } ∧
      t.raise e = { s with regs := (t.raise e).regs, tb := (t.raise e).tb, reeve := (t.raise e).reeve } := by
  have hreeve : t.reeve = s.reeve := by rw [h.rest]
  refine ⟨h.ram, ?_, ?_⟩
  · rw [State.raise, hreeve]
  · rw [State.raise, h.rest]

theorem measurementLossExpiry_holds {s : State} {ms : Nat} (hms : 3000 ≤ ms) (hst : s.get fTbState = tbAcquire ∨ s.get fTbState = tbLocked) :
    exec (.measurementLossExpiry ms) s = .next ((s.tbEnter tbHoldover).report 0x8301 (srcTb 15)) :=
  if_pos ⟨hms, hst⟩

theorem holdoverLimitExpiry_frees {s : State} {sec : Nat} (hsec : (s.reg kHoldLimit).toNat ≤ sec) (hst : s.get fTbState = tbHoldover) :
    exec (.holdoverLimitExpiry sec) s = .next (((s.tbEnter tbFree).on fHoldExpired).report 0x8302 (srcTb 15)) :=
  if_pos ⟨hsec, hst⟩

theorem tbCrosscheckWindow_void {s : State} {adv : Int} (hvoid : s.tb.voidWindow = true) :
    exec (.tbCrosscheckWindow adv) s = .next (s.setTb { s.tb with voidWindow := false }) := if_pos hvoid

theorem tbCrosscheckWindow_close {s : State} {adv : Int} (hvoid : s.tb.voidWindow = false) (hclose : (adv - 5000000).natAbs ≤ 10000) :
    exec (.tbCrosscheckWindow adv) s = .next s := (if_neg (by simp [hvoid])).trans (if_neg (by omega))

theorem tbCrosscheckWindow_far {s : State} {adv : Int} (hvoid : s.tb.voidWindow = false) (hfar : 10000 < (adv - 5000000).natAbs) :
    exec (.tbCrosscheckWindow adv) s = .next ((s.on fXchkFail).noted.heldFault 0x8304 (srcOf 8 0 0)) :=
  (if_neg (by simp [hvoid])).trans (if_pos hfar)

/-- Settles O12: the count is plain arithmetic (`Timebase.tick_count`); each measurement goes through `State.measure_taken`. -/
theorem timebaseCountsAndIsDisciplined : Obligations.TimebaseCountsAndIsDisciplined := by
  unfold Obligations.TimebaseCountsAndIsDisciplined
  intro s hs
  have hchosen {gptp : Bool} (hsrc : s.get fTbSrc = if gptp then 1 else 2) : s.get fTbSrc ≠ 0 := by
    rw [hsrc]; split <;> decide
  refine ⟨?_, fun held hheld hsrc hmin hmax => ?_, fun gptp port seq bytes hsrc hport hnewer => ?_, fun held hheld hsrc hmin hmax => ?_,
    fun gptp port kind seq off bytes hsrc hport hseq => ?_, fun gptp port kind wellFormed seq off bytes hbad => disciplineMessage_rejected hbad,
    fun ms hms hst => ?_, fun sec hsec hst => ?_, fun adv => tbCrosscheckWindow_void, fun adv => tbCrosscheckWindow_close, fun adv hvoid hfar => ?_⟩
  · obtain ⟨past, hpast⟩ := State.noted_eq ((s.setTb s.tb.tick).put fSlewing (b2n (s.tb.tick.slew != 0)))
    have hexec : exec .timebaseTick s = .next ((s.setTb s.tb.tick).put fSlewing (b2n (s.tb.tick.slew != 0))).noted := rfl
    have hslew := State.get_put_same (s.setTb s.tb.tick) fSlewing (b2n (s.tb.tick.slew != 0)) hs.regsKeyed rfl
    rw [hpast] at hexec
    exact ⟨_, s.tb.correction, hexec, s.tb.correction_bound, s.tb.tick_count, rfl, hslew.trans (Nat.mod_eq_of_lt (b2n_lt_two _)),
      fun g hg hapart => State.get_put_apart (s.setTb s.tb.tick) fSlewing g _ hs.regsKeyed rfl (Fld.apart_comm _ _ ▸ hapart), rfl⟩
  · obtain ⟨hlo, hhi⟩ := State.stampOf_bounds hmin hmax (State.ppsStamped_stamp hs held)
    exact ⟨_, ppsEdge_unused hheld hsrc, hlo, hhi, s.ppsStamped_regs held, fun _ => rfl, rfl⟩
  · have hseq := Timebase.inSequence_sync hnewer
    refine ⟨disciplineMessage_taken hsrc hport hseq, fun off => ⟨_, disciplineMessage_taken hsrc hport hseq, ?_⟩⟩
    obtain ⟨hoff, -, honly⟩ := State.sequenced_measured (kind := .sync) (seq := seq) hs off (hchosen hsrc)
    exact ⟨hoff, honly.regs, honly.ram, honly.rest⟩
  · obtain ⟨t, hexec, honly⟩ := ppsEdge_measures hheld hsrc
    have hstamp : t.reg64 kPpsStamp = (s.ppsStamped held).reg64 kPpsStamp := honly.regs.reg64 (by decide) (by decide)
    obtain ⟨hlo, hhi⟩ := State.stampOf_bounds hmin hmax (hstamp.trans (State.ppsStamped_stamp hs held))
    exact ⟨t, hexec, hlo, hhi, ((s.ppsStamped_regs held).mono (by simp)).trans (honly.regs.mono (by simp)), honly.ram, honly.rest⟩
  · obtain ⟨hoff, hfind, honly⟩ := State.sequenced_measured (kind := kind) (seq := seq) hs off (hchosen hsrc)
    exact ⟨_, disciplineMessage_taken hsrc hport hseq, hoff, hfind, honly.regs, honly.ram, honly.rest⟩
  · have honly := s.tbEnter_tbOnly tbHoldover
    obtain ⟨hram, hevents, hrest⟩ := honly.raised ⟨0x8301, srcTb 15, 0, .report, []⟩
    exact ⟨_, measurementLossExpiry_holds hms hst, State.tbEnter_state hs tbHoldover, honly.regs, hram, hevents, hrest⟩
  · have hok : State.Ok (s.tbEnter tbFree) := hs.of_evolves (ev_tbEnter (Evolves.refl s))
    have honly := (s.tbEnter_tbOnly tbFree).trans ((s.tbEnter tbFree).put_tbOnly fHoldExpired 1)
    obtain ⟨hram, hevents, hrest⟩ := honly.raised ⟨0x8302, srcTb 15, 0, .report, []⟩
    have hstate : ((s.tbEnter tbFree).on fHoldExpired).get fTbState = tbFree :=
      (State.get_put_apart _ _ _ _ hok.regsKeyed rfl rfl).trans (State.tbEnter_state hs tbFree)
    exact ⟨_, holdoverLimitExpiry_frees hsec hst, hstate, State.flag_on_same hok rfl rfl, honly.regs, hram, hevents, hrest⟩
  · obtain ⟨past, hpast⟩ := (s.on fXchkFail).noted_eq
    have hexec := tbCrosscheckWindow_far hvoid hfar
    rw [hpast] at hexec
    exact ⟨_, hexec, State.flag_on_same hs rfl rfl, fun g hg hapart => State.get_put_apart s fXchkFail g 1 hs.regsKeyed rfl (Fld.apart_comm _ _ ▸ hapart),
      keepsRegs_put s fXchkFail 1, fun _ => rfl, rfl, rfl⟩

end Sys2Proof.Machine

namespace Sys2Proof.Machine

-- THE TIMEBASE REACHES A VALUE

/-- Reaching a value moves the count alone, with its fraction and its ticks (R823). -/
theorem State.reach_eq (s : State) (t : Nat) : ∃ ns frac ticks, s.reach t = s.setTb { s.tb with ns, frac, ticks } := by
  unfold State.reach
  exact iteInduction (motive := fun x => ∃ ns frac ticks, x = s.setTb { s.tb with ns, frac, ticks }) (fun _ => ⟨_, _, _, rfl⟩) (fun _ => ⟨_, _, _, rfl⟩)

theorem State.reach_now {s : State} {t : Nat} (ht : t < 2 ^ 64) : t ≤ (s.reach t).now := by
  unfold State.reach
  split
  · assumption
  · change t ≤ (BitVec.ofNat 64 t).toNat
    rw [BitVec.toNat_ofNat, Nat.mod_eq_of_lt ht]

theorem State.reach_tbOnly (s : State) (t : Nat) (ks : List Nat) : TbOnly s (s.reach t) ks := by
  obtain ⟨ns, frac, ticks, h⟩ := s.reach_eq t
  rw [h]; exact s.setTb_tbOnly _ _

-- A BOUNDARY ON THE GRID

/-- The grid has reached boundary n, at t: its number shows (R50). -/
def State.gridNumbered (s : State) (n t : Nat) : State :=
  (s.setTb { s.tb with next := n + 1, begun := true, firstAt := if s.tb.begun then s.tb.firstAt else t }).setReg kFrameNum (BitVec.ofNat 32 n)

/-- The pending period takes effect at boundary n, at t (R54). -/
def State.gridApplied (s : State) (n t : Nat) (p : Word) : State :=
  (((s.setTb { s.tb with base := n, applyAt := none, pendPeriod := none, prev := ((s.reg64 kFrameEpoch).toNat, s.tb.base, s.period) :: s.tb.prev }).setReg64 kFrameEpoch (BitVec.ofNat 64 t)).setReg
    kFrameBase (BitVec.ofNat 32 n) |>.setReg kFramePeriod p).off fPeriodPending

theorem State.gridAdvance_kept {s : State} (hnone : s.tb.applyAt = none) (n t : Nat) : s.gridAdvance n t = s.gridNumbered n t := by
  unfold State.gridAdvance
  dsimp only
  split
  · next a p ha hp => cases ha.symm.trans hnone
  · rfl

theorem State.gridAdvance_applies {s : State} {n : Nat} {p : Word} (happly : s.tb.applyAt = some (BitVec.ofNat 32 n)) (hpend : s.tb.pendPeriod = some p)
    (t : Nat) : s.gridAdvance n t = (s.gridNumbered n t).gridApplied n t p := by
  unfold State.gridAdvance
  dsimp only
  split
  · next a q ha hq =>
    cases ha.symm.trans happly
    cases hq.symm.trans hpend
    exact if_pos rfl
  · next hnot => exact absurd hpend (hnot _ _ happly)

/-- Whether an apply takes effect or not, the grid moves on without the rest of the state. -/
theorem State.gridAdvance_cases (s : State) (n t : Nat) :
    s.gridAdvance n t = s.gridNumbered n t ∨ ∃ p, s.gridAdvance n t = (s.gridNumbered n t).gridApplied n t p := by
  unfold State.gridAdvance
  dsimp only
  split
  · next a p ha hp =>
    split
    · exact .inr ⟨p, rfl⟩
    · exact .inl rfl
  · exact .inl rfl

theorem State.gridAdvance_reeve (s : State) (n t : Nat) : (s.gridAdvance n t).reeve = s.reeve := by
  rcases s.gridAdvance_cases n t with h | ⟨p, h⟩ <;> rw [h] <;> rfl

theorem State.reach_reeve (s : State) (t : Nat) : (s.reach t).reeve = s.reeve := by
  rw [(s.reach_tbOnly t []).rest]

theorem State.gridNumbered_tbOnly (s : State) (n t : Nat) : TbOnly s (s.gridNumbered n t) [kFrameNum] := ⟨keepsRegs_setReg (s.setTb _) _ _, rfl⟩

theorem State.gridNumbered_num {s : State} (hs : State.Ok s) (n t : Nat) : (s.gridNumbered n t).reg kFrameNum = BitVec.ofNat 32 n :=
  State.reg_setReg_same (s.setTb _) _ _ hs.regsKeyed

/-- What the registers read where an accepted apply has taken effect (R54). -/
theorem State.gridApplied_registers {s : State} (hs : State.Ok s) {n t : Nat} (ht : t < 2 ^ 64) (p : Word) :
    (s.gridApplied n t p).reg kFrameNum = s.reg kFrameNum ∧ (s.gridApplied n t p).reg kFramePeriod = p ∧
      (s.gridApplied n t p).reg kFrameBase = BitVec.ofNat 32 n ∧ ((s.gridApplied n t p).reg64 kFrameEpoch).toNat = t ∧
      (s.gridApplied n t p).flag fPeriodPending = false := by
  unfold State.gridApplied
  generalize hx : s.setTb { s.tb with base := n, applyAt := none, pendPeriod := none, prev := ((s.reg64 kFrameEpoch).toNat, s.tb.base, s.period) :: s.tb.prev } = x
  have hxok : State.Ok x := hx ▸ hs.of_evolves (ev_setTb (Evolves.refl s))
  have hepochok := hxok.of_evolves (ev_setReg64 (k := kFrameEpoch) (v := BitVec.ofNat 64 t) (Evolves.refl x))
  have hbaseok := hepochok.of_evolves (ev_setReg (Evolves.refl _) kFrameBase (BitVec.ofNat 32 n))
  have hpok := hbaseok.of_evolves (ev_setReg (Evolves.refl _) kFramePeriod p)
  have hepoch := keepsRegs_setReg64 x kFrameEpoch (BitVec.ofNat 64 t)
  have hbase := keepsRegs_setReg (x.setReg64 kFrameEpoch (BitVec.ofNat 64 t)) kFrameBase (BitVec.ofNat 32 n)
  have hp := keepsRegs_setReg ((x.setReg64 kFrameEpoch (BitVec.ofNat 64 t)).setReg kFrameBase (BitVec.ofNat 32 n)) kFramePeriod p
  have hoff := keepsRegs_put (((x.setReg64 kFrameEpoch (BitVec.ofNat 64 t)).setReg kFrameBase (BitVec.ofNat 32 n)).setReg kFramePeriod p) fPeriodPending 0
  refine ⟨?_, ?_, ?_, ?_, State.flag_off_same hpok rfl⟩
  · rw [State.off, hoff _ (by decide), hp _ (by decide), hbase _ (by decide), hepoch _ (by decide), ← hx]; rfl
  · rw [State.off, hoff _ (by decide), State.reg_setReg_same _ _ _ hbaseok.regsKeyed]
  · rw [State.off, hoff _ (by decide), hp _ (by decide), State.reg_setReg_same _ _ _ hepochok.regsKeyed]
  · rw [State.off, hoff.reg64 (by decide) (by decide), hp.reg64 (by decide) (by decide), hbase.reg64 (by decide) (by decide),
      State.reg64_setReg64_same hxok, BitVec.toNat_ofNat, Nat.mod_eq_of_lt ht]

-- A REPLAY

theorem State.replay_runs {s : State} {q : Nat} {n : Word} {t : Nat} (hrun : (s.queue q).state = 1) (hframe : (s.queue q).isFrame = true)
    (hreset : s.inReset (s.queue q).owner = false) (hopen : (s.queue q).openReplays.length < 2) :
    s.replay q n t = s.setQueue q ((s.queue q).submit t (List.range (s.queue q).frameCount) (some n) none) :=
  (if_neg (by simp [hrun, hframe, hreset])).trans (if_neg (by omega))

/-- A replay leaves the state, counts one skipped, or submits to its own queue. -/
theorem State.replay_cases (s : State) (q : Nat) (n : Word) (t : Nat) :
    s.replay q n t = s ∨ s.replay q n t = s.bump kFrameSkip ∨ ∃ x, s.replay q n t = s.setQueue q x := by
  unfold State.replay
  dsimp only
  split
  · exact .inl rfl
  · split
    · exact .inr (.inl rfl)
    · exact .inr (.inr ⟨_, rfl⟩)

/-- Nothing changes but the count of the replays skipped and the queue manager. -/
structure QueuesOnly (s t : State) : Prop where
  regs : keepsRegs s t [kFrameSkip]
  rest : t = { s with regs := t.regs, qm := t.qm }

theorem QueuesOnly.trans {r s t : State} (h : QueuesOnly r s) (g : QueuesOnly s t) : QueuesOnly r t where
  regs := h.regs.trans g.regs
  rest := by rw [g.rest, h.rest]

theorem State.replay_only (s : State) (q : Nat) (n : Word) (t : Nat) : QueuesOnly s (s.replay q n t) := by
  rcases s.replay_cases q n t with h | h | ⟨x, h⟩
  · rw [h]; exact ⟨keepsRegs.refl s _, rfl⟩
  · rw [h]; exact ⟨keepsRegs_setReg s kFrameSkip _, rfl⟩
  · rw [h]; exact ⟨fun _ _ => rfl, rfl⟩

theorem State.replay_queue_ne (s : State) {q j : Nat} (h : j ≠ q) (n : Word) (t : Nat) : (s.replay q n t).queue j = s.queue j := by
  rcases s.replay_cases q n t with hr | hr | ⟨x, hr⟩
  · rw [hr]
  · rw [hr]; rfl
  · rw [hr]; exact State.queue_setQueue_ne s h x

theorem QueuesOnly.inReset {s t : State} (h : QueuesOnly s t) (p : Nat) : t.inReset p = s.inReset p := by
  have hpart : t.part = s.part := by rw [h.rest]
  rw [State.inReset, State.inReset, hpart, h.regs.flag (by simp [fResetting, kFrameSkip])]

/-- The replays of a list of queues, one after the other. -/
def State.replaysOf (s : State) (l : List (Nat × QueueSt)) (n : Word) (t : Nat) : State := l.foldl (fun s x => s.replay x.1 n t) s

theorem State.replaysOf_only (l : List (Nat × QueueSt)) (n : Word) (t : Nat) : ∀ s : State, QueuesOnly s (s.replaysOf l n t) := by
  induction l with
  | nil => exact fun s => ⟨keepsRegs.refl s _, rfl⟩
  | cons x l ih => exact fun s => (s.replay_only x.1 n t).trans (ih _)

theorem State.replaysOf_queue_ne {j : Nat} (n : Word) (t : Nat) : ∀ {l : List (Nat × QueueSt)} (s : State), (∀ x ∈ l, j ≠ x.1) →
    (s.replaysOf l n t).queue j = s.queue j
  | [], _, _ => rfl
  | x :: _, s, h => (State.replaysOf_queue_ne n t (s.replay x.1 n t) fun y hy => h y (List.mem_cons_of_mem x hy)).trans
      (s.replay_queue_ne (h x List.mem_cons_self) n t)

/-- The keys of a table that rises above b are above b. -/
theorem Tbl.lt_of_above {α : Type} : ∀ {m : Tbl α} {b : Nat}, Tbl.above b m = true → ∀ x ∈ m, b < x.1
  | (k, v) :: m, b, h, x, hx => by
    obtain ⟨hbk, hm⟩ : b < k ∧ Tbl.above k m = true := by simpa [Tbl.above] using h
    rcases List.mem_cons.mp hx with rfl | hx
    · exact hbk
    · exact hbk.trans (Tbl.lt_of_above hm x hx)

/-- A queue that runs its replay is replayed once by the replays of a rising table that lists it. -/
theorem State.replaysOf_queue_same {q : Nat} {n : Word} {t : Nat} : ∀ {m : Tbl QueueSt} {s : State}, Tbl.wf m = true → Tbl.find m q ≠ none →
    (s.queue q).state = 1 → (s.queue q).isFrame = true → s.inReset (s.queue q).owner = false → (s.queue q).openReplays.length < 2 →
    (s.replaysOf m n t).queue q = (s.queue q).submit t (List.range (s.queue q).frameCount) (some n) none
  | [], _, _, hfind, _, _, _, _ => absurd rfl hfind
  | (k, v) :: m, s, hwf, hfind, hrun, hframe, hreset, hopen => by
    have habove : Tbl.above k m = true := Tbl.above_of_wf hwf
    change ((s.replay k n t).replaysOf m n t).queue q = _
    by_cases hk : k = q
    · subst hk
      rw [State.replaysOf_queue_ne n t _ fun x hx => (Tbl.lt_of_above habove x hx).ne, State.replay_runs hrun hframe hreset hopen]
      exact State.queue_setQueue_same _ _ _
    · have hkept := s.replay_queue_ne (Ne.symm hk) n t
      rw [Tbl.find, if_neg hk] at hfind
      have hlater := State.replaysOf_queue_same (s := s.replay k n t) (n := n) (t := t) (Tbl.wf_of_above habove) hfind (by rwa [hkept]) (by rwa [hkept])
        (by rwa [hkept, (s.replay_only k n t).inReset]) (by rwa [hkept])
      rw [hlater, hkept]

/-- A queue that the table does not list is not RUNNING. -/
theorem State.find_of_running {s : State} {q : Nat} (h : (s.queue q).state = 1) : Tbl.find s.qm.queues q ≠ none := by
  intro hnone
  rw [State.queue, Tbl.getD, hnone] at h
  exact absurd h (by decide)

theorem numbered_range_getElem? {c i : Nat} {x : Nat × Nat} (h : (numbered (List.range c))[i]? = some x) : x = (i, i) := by
  obtain ⟨hfst, hsnd⟩ := List.getElem?_zip_eq_some.mp h
  rw [List.length_range] at hfst
  obtain ⟨_, hfst⟩ := List.getElem?_eq_some_iff.mp hfst
  obtain ⟨_, hsnd⟩ := List.getElem?_eq_some_iff.mp hsnd
  rw [List.getElem_range] at hfst hsnd
  exact Prod.ext hfst.symm hsnd.symm

/-- The descriptors that a replay submits: one for each slot of the image, in order (R464). -/
theorem QueueSt.submit_jobs (q : QueueSt) (t c : Nat) (n : Word) : ∃ js, (q.submit t (List.range c) (some n) none).jobs = q.jobs ++ js ∧ js.length = c ∧
    ∀ i j, js[i]? = some j → j.pos = q.next + i ∧ j.slot = i ∧ j.replay = some n ∧ j.submit = t := by
  refine ⟨_, rfl, by simp [numbered], fun i j hj => ?_⟩
  rw [List.getElem?_map, Option.map_eq_some_iff] at hj
  obtain ⟨x, hx, rfl⟩ := hj
  obtain rfl := numbered_range_getElem? hx
  exact ⟨rfl, rfl, rfl, rfl⟩

-- WHAT STARTS AT A BOUNDARY

/-- Groups that take the boundary's number change the Mill alone (R157). -/
theorem State.groupsAtBoundary_eq (s : State) (n : Word) : ∃ mill, s.groupsAtBoundary n = { s with mill } := by
  unfold State.groupsAtBoundary
  induction List.range 8 generalizing s with
  | nil => exact ⟨s.mill, rfl⟩
  | cons g l ih =>
    rw [List.foldl_cons]
    split
    · obtain ⟨mill, h⟩ := ih (s.setGrp g { s.grp g with next := some n })
      exact ⟨mill, h⟩
    · exact ih s

/-- What starts at boundary n, at t, where no recovery runs (R50, R62, R157, R464). -/
def State.frameStarts (s : State) (n : Word) (t : Nat) : State := (((s.armSlots n t).groupsAtBoundary n).replays n t).prunePairs n

theorem frameBoundary_starts {s : State} {m : Option (BitVec 16)} (hen : s.flag fFrameEn = true) (hawake : s.get fPwrState < pwrBanked)
    (hnone : s.reeve.recovery = none) : exec (.frameBoundary m) s = .next
      (((s.reach (s.boundaryAt s.tb.next)).gridAdvance s.tb.next (s.boundaryAt s.tb.next)).frameStarts (BitVec.ofNat 32 s.tb.next) (s.boundaryAt s.tb.next)) := by
  have hreeve : ((s.reach (s.boundaryAt s.tb.next)).gridAdvance s.tb.next (s.boundaryAt s.tb.next)).reeve.recovery = none := by
    rw [State.gridAdvance_reeve, State.reach_reeve, hnone]
  have hgo : ¬ (!s.flag fFrameEn || decide (pwrBanked ≤ s.get fPwrState)) = true := by simp [hen, hawake]
  change execFrameBoundary m s = _
  unfold execFrameBoundary
  rw [if_neg hgo]
  dsimp only
  rw [hreeve]
  rfl

/-- The Mill, the queue manager and the count of the replays skipped may change; the Timebase is as the armed slots leave it. -/
theorem State.frameStarts_only (s : State) (n : Word) (t : Nat) : keepsRegs s (s.frameStarts n t) [kFrameSkip] ∧
    (s.frameStarts n t).tb = (s.armSlots n t).tb ∧
    s.frameStarts n t = { s with regs := (s.frameStarts n t).regs, tb := (s.frameStarts n t).tb, mill := (s.frameStarts n t).mill, qm := (s.frameStarts n t).qm } := by
  obtain ⟨mill, hmill⟩ := (s.armSlots n t).groupsAtBoundary_eq n
  obtain ⟨hregs, hrest⟩ := State.replaysOf_only ({ s.armSlots n t with mill } : State).qm.queues n t { s.armSlots n t with mill }
  have hstarts : s.frameStarts n t = (State.replays { s.armSlots n t with mill } n t).prunePairs n := by rw [State.frameStarts, hmill]
  have htb : (State.replays { s.armSlots n t with mill } n t).tb = (s.armSlots n t).tb := by rw [State.replays, ← State.replaysOf, hrest]
  rw [hstarts]
  refine ⟨hregs, htb, ?_⟩
  rw [State.prunePairs, State.replays, ← State.replaysOf, hrest]
  rfl

/-- Each enabled deadline timer has a slot of the boundary's number armed (R62). -/
theorem State.armSlots_mem {s : State} {k : Nat} (hk : k < 8) (hen : s.flag (fFdlEn k) = true) (n : Word) (t : Nat) :
    FdlSlot.mk k n (t + s.get (fFdlOffset k) * 1000) false ∈ (s.armSlots n t).tb.slots :=
  List.mem_append_right _ (List.mem_map.mpr ⟨k, List.mem_filter.mpr ⟨List.mem_range.mpr hk, hen⟩, rfl⟩)

/-- A RUNNING FRAME queue with fewer than two open replays is replayed once (R464, R465). -/
theorem State.frameStarts_queue {s : State} {q : Nat} {n : Word} {t : Nat} (hwf : Tbl.wf s.qm.queues = true) (hrun : (s.queue q).state = 1)
    (hframe : (s.queue q).isFrame = true) (hreset : s.inReset (s.queue q).owner = false) (hopen : (s.queue q).openReplays.length < 2) :
    (s.frameStarts n t).queue q = (s.queue q).submit t (List.range (s.queue q).frameCount) (some n) none := by
  obtain ⟨mill, hmill⟩ := (s.armSlots n t).groupsAtBoundary_eq n
  rw [State.frameStarts, hmill]
  exact State.replaysOf_queue_same (s := { s.armSlots n t with mill }) hwf (State.find_of_running hrun) hrun hframe hreset hopen

section
variable {s : State} {n t : Nat}

/-- The state that the grid leaves at a boundary without an apply (R50). -/
theorem State.reached_gridNumbered (hs : State.Ok s) (ht : t < 2 ^ 64) : TbOnly s ((s.reach t).gridNumbered n t) [kFrameNum] ∧
    ((s.reach t).gridNumbered n t).reg kFrameNum = BitVec.ofNat 32 n ∧ t ≤ ((s.reach t).gridNumbered n t).now :=
  ⟨(s.reach_tbOnly t _).trans ((s.reach t).gridNumbered_tbOnly n t), State.gridNumbered_num (hs.of_evolves (ev_reach (Evolves.refl s))) n t,
    State.reach_now ht⟩

end

-- A MISSED DEADLINE

/-- Nothing changes but the registers of the keys listed and what has been emitted. -/
structure SignalOnly (s t : State) (ks : List Nat) : Prop where
  regs : keepsRegs s t ks
  rest : t = { s with regs := t.regs, emitted := t.emitted }

theorem SignalOnly.trans {r s t : State} {ks : List Nat} (h : SignalOnly r s ks) (g : SignalOnly s t ks) : SignalOnly r t ks where
  regs := h.regs.trans g.regs
  rest := by rw [g.rest, h.rest]

theorem SignalOnly.mono {s t : State} {ks ls : List Nat} (h : SignalOnly s t ks) (hsub : ∀ k ∈ ks, k ∈ ls) : SignalOnly s t ls := ⟨h.regs.mono hsub, h.rest⟩

theorem State.put_signalOnly (s : State) (f : Fld) (n : Nat) : SignalOnly s (s.put f n) [f.key] := ⟨keepsRegs_put s f n, rfl⟩

/-- A message is sent, held as the vector's pending bit, or lost in a reset (R506, R511). -/
theorem State.msix_only (s : State) (fn v : Nat) : SignalOnly s (s.msix fn v) [(fVecPend fn v).key] := by
  unfold State.msix
  split
  · exact ⟨fun _ _ => rfl, rfl⟩
  · split
    · exact ⟨fun _ _ => rfl, rfl⟩
    · exact s.put_signalOnly _ _

/-- The event bit of a partition and the pending bit of its message: all that an event of the partition can set (R502). -/
def State.eventKeys (s : State) (p : Nat) : List Nat := [kPart p 0x28, (fVecPend p (s.get (fEventVec p))).key]

theorem State.partEvent_only (s : State) (p b : Nat) : SignalOnly s (s.partEvent p b) (s.eventKeys p) := by
  unfold State.partEvent
  have hon : SignalOnly s (s.on (fPartEvent p b)) (s.eventKeys p) := (s.put_signalOnly _ _).mono (by simp [State.eventKeys, fPartEvent])
  split
  · exact ⟨fun _ _ => rfl, rfl⟩
  · dsimp only
    split
    · exact hon.trans ((State.msix_only _ _ _).mono (by simp [State.eventKeys]))
    · exact hon

theorem ne_vecPend_of_part {p off fn v : Nat} (hp : p < 8) (hoff : off < 0x80) : kPart p off ≠ (fVecPend fn v).key := by
  simp only [kPart, fVecPend, ownN]
  omega

theorem State.partEvent_flag {s : State} (hs : State.Ok s) {p b : Nat} (hp : p < 8) (hb : b < 32) : (s.partEvent p b).flag (fPartEvent p b) = true := by
  have hset : (s.on (fPartEvent p b)).flag (fPartEvent p b) = true := State.flag_on_same hs (by simp [Fld.ok, fPartEvent]; omega) rfl
  unfold State.partEvent
  split
  · assumption
  · dsimp only
    split
    · exact ((State.msix_only _ _ _).regs.flag (by simpa [fPartEvent] using ne_vecPend_of_part hp (by decide))).trans hset
    · exact hset

/-- A slot without a mark and without a twin pair is missed as its timer's mode says (R64, R65). -/
theorem frameDeadlineMiss_taken {s : State} {k : Fin 8} {sl : FdlSlot} (hsl : s.missingSlot k.val = some sl) (hmark : sl.satisfied = false)
    (hpairs : s.openPairs sl = []) : ∃ qm, exec (.frameDeadlineMiss k) s = .next (({ s.reach sl.deadline with qm }).missed sl false) := by
  have hreached : (s.reach sl.deadline).openPairs sl = [] := by
    rw [State.openPairs, (s.reach_tbOnly sl.deadline []).rest]
    exact hpairs
  change ∃ qm, execFrameDeadlineMiss k s = _
  unfold execFrameDeadlineMiss
  rw [hsl]
  dsimp only
  rw [hreached, hmark]
  exact ⟨_, rfl⟩

theorem State.missed_faults {s : State} {sl : FdlSlot} (h : s.fdlFaults sl.timer = true) :
    s.missed sl false = (s.slotMissed sl).jobFault 0xA201 (srcTb sl.timer) (sl.timer + sl.frame.toNat * 2 ^ 32) := if_pos h

theorem State.missed_counts {s : State} {sl : FdlSlot} (h : s.fdlFaults sl.timer = false) :
    s.missed sl false = ((s.slotMissed sl).bump (kFdlMiss sl.timer)).partEvent (s.get (fFdlPart sl.timer)) 2 := if_neg (by rw [← Bool.not_eq_true] at h; exact h)

/-- In FAULT mode the miss is a job fault of the timer and its frame (R64). -/
theorem frameDeadlineMiss_faults {s : State} {k : Fin 8} {sl : FdlSlot} (hsl : s.missingSlot k.val = some sl) (hmark : sl.satisfied = false)
    (hpairs : s.openPairs sl = []) (htimer : sl.timer = k.val) (hmode : s.fdlFaults k.val = true) : ∃ t ev, exec (.frameDeadlineMiss k) s = .next t ∧
      ev.code = 0xA201 ∧ ev.disp = .jobFault ∧ ev.info = BitVec.ofNat 64 (k.val + sl.frame.toNat * 2 ^ 32) ∧
      t.reeve = { s.reeve with events := s.reeve.events ++ [ev] } ∧ t.tb.slots = s.tb.slots.filter (· != sl) ∧
      t.tb.missed = s.tb.missed ++ [(k.val, sl.frame)] ∧ keepsRegs s t [] ∧ keepsRam s t := by
  obtain ⟨qm, hexec⟩ := frameDeadlineMiss_taken hsl hmark hpairs
  obtain ⟨ns, frac, ticks, hreach⟩ := s.reach_eq sl.deadline
  rw [hreach, State.missed_faults (by rw [htimer]; exact hmode), htimer] at hexec
  exact ⟨_, _, hexec, rfl, rfl, rfl, rfl, rfl, by rw [← htimer]; rfl, fun _ _ => rfl, fun _ => rfl⟩

theorem kFdlMiss_notMem_eventKeys (s : State) (p : Nat) (k : Fin 8) : kFdlMiss k.val ∉ s.eventKeys p := by
  simp only [kFdlMiss, State.eventKeys, kPart, fVecPend, ownN, List.mem_cons, List.not_mem_nil, or_false]
  omega

/-- In COUNT mode the miss is counted, and the timer's partition has its event (R65, R502). -/
theorem frameDeadlineMiss_counts {s : State} (hs : State.Ok s) {k : Fin 8} {sl : FdlSlot} (hsl : s.missingSlot k.val = some sl)
    (hmark : sl.satisfied = false) (hpairs : s.openPairs sl = []) (htimer : sl.timer = k.val) (hmode : s.fdlFaults k.val = false) :
    ∃ t, exec (.frameDeadlineMiss k) s = .next t ∧ t.reg (kFdlMiss k.val) = (s.bump (kFdlMiss k.val)).reg (kFdlMiss k.val) ∧
      t.flag (fPartEvent (s.get (fFdlPart k.val)) 2) = true ∧ t.tb.slots = s.tb.slots.filter (· != sl) ∧
      t.tb.missed = s.tb.missed ++ [(k.val, sl.frame)] ∧ t.reeve = s.reeve ∧ keepsRam s t := by
  obtain ⟨qm, hexec⟩ := frameDeadlineMiss_taken hsl hmark hpairs
  obtain ⟨ns, frac, ticks, hreach⟩ := s.reach_eq sl.deadline
  rw [hreach, State.missed_counts (by rw [htimer]; exact hmode), htimer] at hexec
  generalize hcounted : (State.slotMissed { s.setTb { s.tb with ns, frac, ticks } with qm } sl).bump (kFdlMiss k.val) = u at hexec
  have hreg : u.reg (kFdlMiss k.val) = (s.bump (kFdlMiss k.val)).reg (kFdlMiss k.val) := by rw [← hcounted]; rfl
  have htb : u.tb.slots = s.tb.slots.filter (· != sl) ∧ u.tb.missed = s.tb.missed ++ [(k.val, sl.frame)] := by rw [← hcounted, ← htimer]; exact ⟨rfl, rfl⟩
  have hreeve : u.reeve = s.reeve := by rw [← hcounted]; rfl
  have hram : keepsRam s u := by intro a; rw [← hcounted]; rfl
  have hok : State.Ok u := hcounted ▸ hs.of_evolves (ev_bump (ev_slotMissed (ev_with (ev_setTb (Evolves.refl s)))))
  have honly := u.partEvent_only (s.get (fFdlPart k.val)) 2
  refine ⟨u.partEvent (s.get (fFdlPart k.val)) 2, hexec, ?_, State.partEvent_flag hok (s.get_lt (fFdlPart k.val)) (by decide), ?_, ?_, ?_, ?_⟩
  · exact (honly.regs _ (kFdlMiss_notMem_eventKeys u _ k)).trans hreg
  · rw [honly.rest]; exact htb.1
  · rw [honly.rest]; exact htb.2
  · rw [honly.rest]; exact hreeve
  · intro a; rw [honly.rest]; exact hram a

/-- Settles O35: a boundary goes through the grid (`State.gridAdvance_kept`, `State.gridAdvance_applies`) and what starts there (`State.frameStarts_only`). -/
theorem frameBoundariesAndDeadlineMissesAct : Obligations.FrameBoundariesAndDeadlineMissesAct := by
  unfold Obligations.FrameBoundariesAndDeadlineMissesAct
  intro s hs
  refine ⟨fun m hoff => ?_, fun m hen hawake hrec hnone hwf ht => ?_, fun m p hen hawake hrec happly hpend ht => ?_, fun k sl hsl hmark hpairs htimer =>
    ⟨frameDeadlineMiss_faults hsl hmark hpairs htimer, frameDeadlineMiss_counts hs hsl hmark hpairs htimer⟩, fun k hnone => ?_⟩
  · exact if_pos (by simpa using hoff)
  · have hreach : (s.reach (s.boundaryAt s.tb.next)).tb.applyAt = none := by
      obtain ⟨ns, frac, ticks, h⟩ := s.reach_eq (s.boundaryAt s.tb.next)
      rw [h]; exact hnone
    obtain ⟨honly, hnum, hnow⟩ := State.reached_gridNumbered (n := s.tb.next) hs ht
    have hexec := frameBoundary_starts (m := m) hen hawake hrec
    rw [State.gridAdvance_kept hreach] at hexec
    generalize hu : (s.reach (s.boundaryAt s.tb.next)).gridNumbered s.tb.next (s.boundaryAt s.tb.next) = u at hexec honly hnum hnow
    have hnext : u.tb.next = s.tb.next + 1 := by rw [← hu]; rfl
    have hqm : u.qm = s.qm := by rw [honly.rest]
    have hqueue (q : Nat) : u.queue q = s.queue q := by rw [State.queue, hqm]; rfl
    have hpart : u.part = s.part := by rw [honly.rest]
    obtain ⟨hregs, htb, hrest⟩ := u.frameStarts_only (BitVec.ofNat 32 s.tb.next) (s.boundaryAt s.tb.next)
    refine ⟨_, hexec, (hregs _ (by decide)).trans hnum, ?_, ?_, fun k hk hfdl => ?_, fun q hrun hframe hreset hopen => ?_, ?_, ?_⟩
    · rw [htb]; exact hnext
    · rw [State.now, htb]; exact hnow
    · have hkey : (fFdlEn k).key ∉ [kFrameNum] := by simp [fFdlEn, kFrameNum]; omega
      rw [htb, ← honly.regs.get (f := fFdlOffset k) hkey]
      exact State.armSlots_mem hk ((honly.regs.flag hkey).trans hfdl) _ _
    · have hsame : u.inReset (u.queue q).owner = s.inReset (s.queue q).owner := by
        rw [hqueue, State.inReset, State.inReset, hpart, honly.regs.flag (by simp [fResetting, kFrameNum])]
      rw [State.frameStarts_queue (hqm ▸ hwf) (hqueue q ▸ hrun) (hqueue q ▸ hframe) (hsame.trans hreset) (hqueue q ▸ hopen), hqueue]
      exact QueueSt.submit_jobs _ _ _ _
    · intro a; rw [hrest]; exact honly.ram a
    · rw [hrest, honly.rest]
  · have hreach : (s.reach (s.boundaryAt s.tb.next)).tb.applyAt = some (BitVec.ofNat 32 s.tb.next) ∧ (s.reach (s.boundaryAt s.tb.next)).tb.pendPeriod = some p := by
      obtain ⟨ns, frac, ticks, h⟩ := s.reach_eq (s.boundaryAt s.tb.next)
      rw [h]; exact ⟨happly, hpend⟩
    obtain ⟨honly, hnum, -⟩ := State.reached_gridNumbered (n := s.tb.next) hs ht
    have hexec := frameBoundary_starts (m := m) hen hawake hrec
    rw [State.gridAdvance_applies hreach.1 hreach.2] at hexec
    generalize hu : (s.reach (s.boundaryAt s.tb.next)).gridNumbered s.tb.next (s.boundaryAt s.tb.next) = u at hexec honly hnum
    have huok : State.Ok u := hu ▸ hs.of_evolves (ev_setReg (ev_setTb (ev_reach (Evolves.refl s))) _ _)
    obtain ⟨hkept, hperiod, hbase, hepoch, hpending⟩ := State.gridApplied_registers huok (n := s.tb.next) ht p
    obtain ⟨hregs, htb, -⟩ := (u.gridApplied s.tb.next (s.boundaryAt s.tb.next) p).frameStarts_only (BitVec.ofNat 32 s.tb.next) (s.boundaryAt s.tb.next)
    refine ⟨_, hexec, ((hregs _ (by decide)).trans hkept).trans hnum, congrArg BitVec.toNat ((hregs kFramePeriod (by decide)).trans hperiod),
      (hregs _ (by decide)).trans hbase, ?_, ?_, ?_, ?_, (hregs.flag (by decide)).trans hpending⟩
    · rw [htb]; rfl
    · rw [hregs.reg64 (by decide) (by decide)]; exact hepoch
    · rw [htb]; rfl
    · rw [htb]; rfl
  · change execFrameDeadlineMiss k s = _
    unfold execFrameDeadlineMiss
    rw [hnone]

end Sys2Proof.Machine

/-! RESET AND BOOT. What a power-on reset clears, and what RESET_N rising starts (20_clocks_power_boot.md, 22_electrical_package.md). -/
namespace Sys2Proof.Machine

-- THE CLOCK THROTTLES

/-- Nothing changes but the registers of the islands and of the cores' clocks (R730 to R737). -/
structure ThrottleOnly (s t : State) : Prop where
  regs : ∀ k, k < 0x4100 ∨ 0x5200 ≤ k → t.reg k = s.reg k
  rest : t = { s with regs := t.regs }

theorem ThrottleOnly.refl (s : State) : ThrottleOnly s s := ⟨fun _ _ => rfl, rfl⟩

theorem ThrottleOnly.trans {r s t : State} (h : ThrottleOnly r s) (g : ThrottleOnly s t) : ThrottleOnly r t where
  regs k hk := (g.regs k hk).trans (h.regs k hk)
  rest := by rw [g.rest, h.rest]

theorem ThrottleOnly.get {s t : State} (h : ThrottleOnly s t) {f : Fld} (hf : f.key < 0x4100 ∨ 0x5200 ≤ f.key) : t.get f = s.get f :=
  congrArg f.ofWord (h.regs f.key hf)

theorem ThrottleOnly.put {r s : State} (h : ThrottleOnly r s) {f : Fld} (n : Nat) (hlo : 0x4100 ≤ f.key) (hhi : f.key < 0x5200) : ThrottleOnly r (s.put f n) :=
  h.trans ⟨fun _ hk => State.reg_put_ne s f n (by omega), rfl⟩

theorem ThrottleOnly.foldl {α : Type} {f : State → α → State} : ∀ {l : List α} {r s : State}, (∀ s, ∀ x ∈ l, s.fuse = r.fuse → ThrottleOnly s (f s x)) →
    ThrottleOnly r s → ThrottleOnly r (l.foldl f s)
  | [], _, _, _, h => h
  | x :: l, _, s, hf, h =>
    ThrottleOnly.foldl (l := l) (s := f s x) (fun s y hy => hf s y (List.mem_cons_of_mem x hy)) (h.trans (hf s x List.mem_cons_self (by rw [h.rest])))

theorem State.physOf_lt {s : State} (hphys : s.fuse.physOf.all (fun i => decide (i < 16)) = true) (k : Nat) : s.physOf k < 16 := by
  rw [State.physOf, List.getD_eq_getElem?_getD]
  rcases hk : s.fuse.physOf[k]? with _ | i
  · exact Nat.zero_lt_succ _
  · exact of_decide_eq_true (List.all_eq_true.mp hphys i (List.mem_of_getElem? hk))

theorem State.physCores_lt {s : State} (hphys : s.fuse.physOf.all (fun i => decide (i < 16)) = true) {i : Nat} (hi : i ∈ s.physCores) : i < 16 := by
  obtain ⟨k, -, rfl⟩ := List.mem_map.mp hi
  exact State.physOf_lt hphys k

theorem State.setE_throttle (s : State) {i : Nat} (hi : i < 16) (e : Nat) : ThrottleOnly s (s.setE i e) :=
  ((((ThrottleOnly.refl s).put e (by simp [fCoreE]; omega) (by simp [fCoreE]; omega)).put e (by simp [fIslE]) (by simp [fIslE]; omega)).put e
    (by simp [fIslE]) (by simp [fIslE]; omega)).put e (by simp [fIslE]) (by simp [fIslE]; omega)

theorem State.settleE_throttle (s : State) {i : Nat} (hi : i < 16) : ThrottleOnly s (s.settleE i) := by
  unfold State.settleE
  split
  · exact ThrottleOnly.refl s
  · split
    · exact s.setE_throttle hi 40
    · split
      · exact ThrottleOnly.refl s
      · exact s.setE_throttle hi _

theorem State.settleAll_throttle {s : State} (hphys : s.fuse.physOf.all (fun i => decide (i < 16)) = true) : ThrottleOnly s s.settleAll :=
  (ThrottleOnly.foldl (fun t _ hi _ => t.settleE_throttle (State.physCores_lt hphys hi)) (ThrottleOnly.refl s)).put _ (by decide) (by decide)

theorem State.fullE_throttle {s : State} (hphys : s.fuse.physOf.all (fun i => decide (i < 16)) = true) : ThrottleOnly s s.fullE := by
  have hcores : ThrottleOnly s ((List.range 16).foldl (fun s i => if s.physCores.contains i then (s.put (fEPower i) s.eMax).put (fETherm i) s.eMax else s) s) := by
    refine ThrottleOnly.foldl (fun t i hi _ => ?_) (ThrottleOnly.refl s)
    have hlt : i < 16 := List.mem_range.mp hi
    split
    · exact ((ThrottleOnly.refl t).put _ (by simp [fEPower]; omega) (by simp [fEPower]; omega)).put _ (by simp [fETherm]; omega) (by simp [fETherm]; omega)
    · exact ThrottleOnly.refl t
  refine hcores.trans (State.settleAll_throttle ?_)
  rw [hcores.rest]
  exact hphys

-- POWER-ON RESET

/-- A table filtered by its keys. -/
theorem Tbl.find_filter {α : Type} (p : Nat → Bool) (k : Nat) : ∀ m : Tbl α, Tbl.find (m.filter (fun x => p x.1)) k = if p k then Tbl.find m k else none
  | [] => by simp [Tbl.find]
  | (j, v) :: m => by
    have ih := Tbl.find_filter p k m
    by_cases hj : j = k
    · subst hj
      cases hp : p j <;> simp_all [Tbl.find]
    · cases hp : p j <;> simp_all [Tbl.find]

theorem State.reg_filter (s : State) (p : Nat → Bool) (k : Nat) :
    State.reg { s with regs := s.regs.filter (fun x => p x.1) } k = if p k then s.reg k else regReset k := by
  rw [State.reg, State.reg, Tbl.getD, Tbl.find_filter]
  split <;> rfl

theorem resetNPulse_resets {s : State} {ns : Nat} (h : 1000 ≤ ns) : exec (.resetNPulse ns) s = .next s.drawn.powerOn :=
  (if_neg (by omega)).trans (if_pos (.inl h))

theorem resetNPulse_ignored {s : State} {ns : Nat} (h : ns < 200) : exec (.resetNPulse ns) s = .next s := if_pos h

-- RESET_N RISES

/-- Every PLL begins to lock (R761). -/
def State.pllsLocking (s : State) : State := [0, 1, 2, 3, 4, 5].foldl (fun s i => s.put (fPll i) 1) s

theorem foldl_pll_get {i : Nat} (hi : i < 6) : ∀ {l : List Nat} {s : State}, State.Ok s → (∀ j ∈ l, j < 6) → (i ∈ l ∨ s.get (fPll i) = 1) →
    (l.foldl (fun s i => s.put (fPll i) 1) s).get (fPll i) = 1
  | [], _, _, _, h => h.resolve_left List.not_mem_nil
  | j :: l, s, hs, hl, h => by
    have hj : j < 6 := hl j List.mem_cons_self
    have hok : (fPll j).ok = true := by simp [Fld.ok, fPll]; omega
    refine foldl_pll_get (l := l) (s := s.put (fPll j) 1) hi (hs.of_evolves (ev_put (Evolves.refl s))) (fun k hk => hl k (List.mem_cons_of_mem j hk)) ?_
    by_cases hij : i = j
    · subst hij
      exact .inr (State.get_put_same s (fPll i) 1 hs.regsKeyed hok)
    · have hapart : (fPll j).apart (fPll i) = true := by
        rw [Fld.apart, Bool.or_eq_true, Bool.or_eq_true, decide_eq_true_eq, decide_eq_true_eq, decide_eq_true_eq]
        simp only [fPll]
        omega
      rw [State.get_put_apart s (fPll j) (fPll i) 1 hs.regsKeyed hok hapart]
      exact h.imp_left fun hin => (List.mem_cons.mp hin).resolve_left hij

theorem State.pllsLocking_get {s : State} (hs : State.Ok s) {i : Nat} (hi : i < 6) : s.pllsLocking.get (fPll i) = 1 :=
  foldl_pll_get hi hs (by decide) (.inl (by simp; omega))

theorem foldl_pll_only : ∀ (l : List Nat) (s : State), OnlyRegs s (l.foldl (fun s i => s.put (fPll i) 1) s) [0x4000]
  | [], s => ⟨keepsRegs.refl s _, fun _ => rfl, rfl⟩
  | i :: l, s => by
    obtain ⟨hregs, -, hrest⟩ := foldl_pll_only l (s.put (fPll i) 1)
    refine ⟨(keepsRegs_put s (fPll i) 1).trans hregs, fun a => ?_, ?_⟩
    · rw [List.foldl_cons, hrest]; rfl
    · rw [List.foldl_cons, hrest]; rfl

theorem State.pllsLocking_only (s : State) : OnlyRegs s s.pllsLocking [0x4000] := foldl_pll_only _ s

/-- Every PLL locks and every core runs at E_MAX: the boot goes on (R732, R761). -/
structure ClocksStarted (s t : State) : Prop where
  plls : ∀ i, i < 6 → t.get (fPll i) = 1
  regs : ∀ k, 0x5200 ≤ k → t.reg k = s.reg k
  rest : t = { s with regs := t.regs }

theorem ClocksStarted.ram {s t : State} (h : ClocksStarted s t) : keepsRam s t := by
  intro a; rw [h.rest]; rfl

theorem ClocksStarted.boot {s t : State} (h : ClocksStarted s t) : t.boot = s.boot := by rw [h.rest]

theorem ClocksStarted.hdg {s t : State} (h : ClocksStarted s t) : t.hdg = s.hdg := by rw [h.rest]

theorem State.clocksStart {s : State} (hs : State.Ok s) : ClocksStarted s s.pllsLocking.fullE := by
  obtain ⟨hregs, -, hrest⟩ := s.pllsLocking_only
  have hphys : s.pllsLocking.fuse.physOf.all (fun i => decide (i < 16)) = true := by rw [hrest]; exact hs.phys
  have hfull := State.fullE_throttle hphys
  refine ⟨fun i hi => ?_, fun k hk => ?_, ?_⟩
  · rw [hfull.get (.inl (by simp [fPll]))]
    exact State.pllsLocking_get hs hi
  · rw [hfull.regs k (.inr hk), hregs k (by simp; omega)]
  · rw [hfull.rest, hrest]

/-- The boot begins: what Boot.reset says, but for the flash, the test mode and when it began. -/
def State.bootBegun (s : State) (testEn : Bool) (flash : Flash) : State :=
  s.setBoot { Boot.reset with begun := true, from_ := s.tb.ticks, test := testEn, flash := flash }

theorem State.Ok.bootBegun {s : State} (hs : State.Ok s) (testEn : Bool) (flash : Flash) : State.Ok (s.bootBegun testEn flash) :=
  hs.of_evolves (ev_setBoot (Evolves.refl s))

theorem State.bootStart_eq (s : State) (testEn : Bool) (flash : Flash) : s.bootStart testEn flash =
    if testEn then ((if s.boot.railHold then s else s.hdgStart).bootBegun testEn flash).bootHeld 0x9108
    else ((if s.boot.railHold then s else s.hdgStart).bootBegun testEn flash).pllsLocking.fullE := rfl

theorem bootStart_begins {s : State} (hbegun : s.boot.begun = false) (hhold : s.boot.railHold = false) :
    exec (.bootStart false none) s = .next (s.hdgStart.bootBegun false s.boot.flash).pllsLocking.fullE := by
  refine (if_neg (by simp [hbegun, hhold])).trans ?_
  rw [State.bootStart_eq, hhold]
  rfl

theorem bootStart_tests {s : State} (hbegun : s.boot.begun = false) (hhold : s.boot.railHold = false) :
    exec (.bootStart true none) s = .next ((s.hdgStart.bootBegun true s.boot.flash).bootHeld 0x9108) := by
  refine (if_neg (by simp [hbegun, hhold])).trans ?_
  rw [State.bootStart_eq, hhold]
  rfl

theorem railRecoveryRelease_begins {s : State} {ms : Nat} (hms : 10 ≤ ms) (hhold : s.boot.railHold = true) :
    exec (.railRecoveryRelease ms false) s = .next (s.bootBegun false s.boot.flash).pllsLocking.fullE := by
  refine (if_neg (by simp [hhold]; omega)).trans ?_
  rw [State.bootStart_eq, hhold]
  rfl

theorem State.Ok.hdgStart {s : State} (hs : State.Ok s) : State.Ok s.hdgStart := hs.of_evolves (ev_hdgStart (Evolves.refl s))

/-- Hedgerow starts with its driver on (R761, R795). -/
theorem State.hdgStart_driving {s : State} (hs : State.Ok s) : s.hdgStart.flag fStopDrive = true :=
  State.flag_on_same (s := { s with regs := s.regs.filter (fun (x : Nat × Word) => !(decide (0x8000 ≤ x.1) && decide (x.1 < 0x10000))), hdg := Hedgerow.reset })
    ⟨regsWf_filter hs.regs _, hs.dram, hs.phys⟩ rfl rfl

/-- Of Hedgerow's registers only the one with the driver is set at its start. -/
theorem State.hdgStart_reg (s : State) {k : Nat} (hlo : 0x8000 < k) (hhi : k < 0x10000) : s.hdgStart.reg k = regReset k := by
  refine (State.reg_put_ne _ fStopDrive 1 (by simp [fStopDrive]; omega)).trans ?_
  refine (State.reg_filter s (fun k => !(decide (0x8000 ≤ k) && decide (k < 0x10000))) k).trans (if_neg ?_)
  simp
  omega

theorem State.hdgStart_noCause (s : State) : s.hdgStart.get fHdgHeldCause = 0 := by
  have hreset : regReset 0x8030 = 0 := rfl
  rw [State.get, s.hdgStart_reg (k := fHdgHeldCause.key) (by decide) (by decide)]
  change fHdgHeldCause.ofWord (regReset 0x8030) = 0
  rw [hreset]
  rfl

-- A BOOT THAT ENDS IN HELD

/-- Each enabled partition has its HELD event (R79). -/
theorem foldl_partEvent_only (b : Nat) : ∀ (l : List Nat) (s : State),
    (∀ k, k < 0x28000 → (l.foldl (fun s p => s.partEvent p b) s).reg k = s.reg k) ∧
      l.foldl (fun s p => s.partEvent p b) s = { s with regs := (l.foldl (fun s p => s.partEvent p b) s).regs, emitted := (l.foldl (fun s p => s.partEvent p b) s).emitted }
  | [], s => ⟨fun _ _ => rfl, rfl⟩
  | p :: l, s => by
    obtain ⟨hregs, hrest⟩ := foldl_partEvent_only b l (s.partEvent p b)
    have honly := s.partEvent_only p b
    rw [List.foldl_cons]
    refine ⟨fun k hk => (hregs k hk).trans (honly.regs k ?_), ?_⟩
    · simp only [State.eventKeys, kPart, fVecPend, ownN, List.mem_cons, List.not_mem_nil, or_false]
      omega
    · rw [hrest, honly.rest]

theorem State.heldEvents_only (s : State) : (∀ k, k < 0x28000 → s.heldEvents.reg k = s.reg k) ∧
    s.heldEvents = { s with regs := s.heldEvents.regs, emitted := s.heldEvents.emitted } := foldl_partEvent_only 3 _ s

/-- The boot's end with a code shows in SYS_BOOT (R765). -/
def State.bootEnded (s : State) (code : Nat) : State :=
  State.setBoot (((s.put fBootCode code).put fFallback (b2n (fallbackCode code))).put fBootMs s.bootMs) { s.boot with done := true, limited := code }

theorem State.hdgFill_eq (s : State) (cmd : Nat) : ∃ veh, s.hdgFill cmd = { s with veh } := by
  unfold State.hdgFill
  dsimp only
  split
  · exact ⟨_, rfl⟩
  · exact ⟨_, rfl⟩

theorem State.bootHeld_eq {s : State} (hdone : s.boot.done = false) (code : Nat) :
    ∃ veh, s.bootHeld code = { ((s.bootEnded code).heldCause code).heldEvents with veh } := by
  have hheld : s.bootHeld code = if ((s.bootEnded code).heldCause code).heldEvents.hdg.alive && !((s.bootEnded code).heldCause code).heldEvents.boot.reeveOk
      then ((s.bootEnded code).heldCause code).heldEvents.hdgFill cmdStop else ((s.bootEnded code).heldCause code).heldEvents := if_neg (by simp [hdone])
  rw [hheld]
  split
  · exact State.hdgFill_eq _ _
  · exact ⟨_, rfl⟩

/-- A boot that ends in HELD where Hedgerow holds no cause yet shows the code in both places (R79, R765). -/
theorem State.bootHeld_shows {s : State} (hs : State.Ok s) (hdone : s.boot.done = false) (hcause : s.get fHdgHeldCause = 0) {code : Nat} (hcode : code < 0x10000) :
    (s.bootHeld code).boot.done = true ∧ (s.bootHeld code).boot.test = s.boot.test ∧ (s.bootHeld code).get fBootCode = code ∧
      (s.bootHeld code).get fHdgHeldCause = code ∧ (s.bootHeld code).flag fStopDrive = s.flag fStopDrive := by
  obtain ⟨veh, hveh⟩ := State.bootHeld_eq hdone code
  have hcoded : State.Ok (s.put fBootCode code) := hs.of_evolves (ev_put (Evolves.refl s))
  have hended : keepsRegs s (s.bootEnded code) [0x6000, 0x6014] :=
    (((keepsRegs_put s fBootCode code).mono (by simp [fBootCode])).trans ((keepsRegs_put _ fFallback _).mono (by simp [fFallback]))).trans
      ((keepsRegs_put _ fBootMs _).mono (by simp [fBootMs]))
  have hok : State.Ok (s.bootEnded code) := hs.of_evolves (ev_setBoot (ev_put (ev_put (ev_put (Evolves.refl s)))))
  have hheld : (s.bootEnded code).heldCause code = (s.bootEnded code).put fHdgHeldCause code :=
    if_pos ((hended.get (by decide)).trans hcause)
  have hput := keepsRegs_put (s.bootEnded code) fHdgHeldCause code
  rw [hheld] at hveh
  generalize hu : (s.bootEnded code).put fHdgHeldCause code = u at hveh hput
  obtain ⟨hregs, hrest⟩ := u.heldEvents_only
  have hboot : u.heldEvents.boot = u.boot := by rw [hrest]
  have hget {f : Fld} (hf : f.key < 0x28000) : (s.bootHeld code).get f = u.get f := by
    rw [hveh]; exact congrArg f.ofWord (hregs f.key hf)
  refine ⟨?_, ?_, ?_, ?_, ?_⟩
  · rw [hveh]; change u.heldEvents.boot.done = true; rw [hboot, ← hu]; rfl
  · rw [hveh]; change u.heldEvents.boot.test = _; rw [hboot, ← hu]; rfl
  · have hcode' : (s.bootEnded code).get fBootCode = code := by
      refine ((keepsRegs_put ((s.put fBootCode code).put fFallback (b2n (fallbackCode code))) fBootMs s.bootMs).get (by decide)).trans ?_
      rw [State.get_put_apart _ _ _ _ hcoded.regsKeyed rfl rfl, State.get_put_same _ _ _ hs.regsKeyed rfl]
      exact Nat.mod_eq_of_lt hcode
    rw [hget (by decide), hput.get (by decide), hcode']
  · rw [hget (by decide), ← hu, State.get_put_same _ _ _ hok.regsKeyed rfl]
    exact Nat.mod_eq_of_lt hcode
  · refine congrArg (· != 0) ((hget (by decide)).trans ((hput.get (by decide)).trans (hended.get (by decide))))

/-- Settles O22: what a reset leaves is read off its definition; the start goes through `State.clocksStart`, or in test mode through `State.bootHeld_shows`. -/
theorem powerOnResetKeepsWhatItMust : Obligations.PowerOnResetKeepsWhatItMust := by
  unfold Obligations.PowerOnResetKeepsWhatItMust
  intro s hs
  refine ⟨fun ns hns => ⟨_, resetNPulse_resets hns, fun _ => rfl, rfl, rfl, rfl, rfl, rfl, rfl, rfl, rfl, rfl, rfl, rfl⟩, fun ns => resetNPulse_ignored,
    ⟨_, rfl, fun k hk => ?_, fun k hk => ?_, rfl, rfl, rfl, rfl, rfl, rfl, rfl⟩, fun hbegun hhold => ?_, fun hbegun hhold => ?_, fun ms hms hhold => ?_⟩
  · exact (s.reg_filter onHdgRail k).trans (if_pos hk)
  · exact (s.reg_filter onHdgRail k).trans (if_neg (by simp [hk]))
  · have hstart := State.clocksStart (hs.hdgStart.bootBegun false s.boot.flash)
    have hdrive : (s.hdgStart.bootBegun false s.boot.flash).pllsLocking.fullE.flag fStopDrive = (s.hdgStart.bootBegun false s.boot.flash).flag fStopDrive := by
      rw [State.flag, State.get, hstart.regs _ (by decide)]; rfl
    refine ⟨_, bootStart_begins hbegun hhold, ?_, ?_, ?_, hdrive.trans (State.hdgStart_driving hs), hstart.hdg, hstart.plls, hstart.ram⟩
    · rw [hstart.boot]; rfl
    · rw [hstart.boot]; rfl
    · rw [hstart.boot]; rfl
  · obtain ⟨hdone, htest, hcode, hheld, hdrive⟩ :=
      State.bootHeld_shows (hs.hdgStart.bootBegun true s.boot.flash) rfl s.hdgStart_noCause (code := 0x9108) (by decide)
    exact ⟨_, bootStart_tests hbegun hhold, hdone, htest, hcode, hheld, hdrive.trans (State.hdgStart_driving hs)⟩
  · have hstart := State.clocksStart (hs.bootBegun false s.boot.flash)
    refine ⟨_, railRecoveryRelease_begins hms hhold, ?_, ?_, hstart.hdg, fun k hk _ => hstart.regs k (by omega), hstart.plls, hstart.ram⟩
    · rw [hstart.boot]; rfl
    · rw [hstart.boot]; rfl

end Sys2Proof.Machine

/-! BANKED. The request, the entry, the wake and its end (R745 to R751). -/
namespace Sys2Proof.Machine

-- WHAT THE BLOCKS' STOP LEAVES OF THE POWER STATE

theorem foldl_power {α : Type} {f : State → α → State} (hf : ∀ s x, (f s x).power = s.power) : ∀ (l : List α) (s : State), (l.foldl f s).power = s.power
  | [], _ => rfl
  | x :: l, s => (foldl_power hf l (f s x)).trans (hf s x)

section
variable (s : State)

@[simp] theorem State.toGroup_power (f : MFrame) : (s.toGroup f).power = s.power := by
  unfold State.toGroup
  dsimp only
  split
  · rfl
  · split <;> rfl

@[simp] theorem State.flushFrames_power (k : Nat) : (s.flushFrames k).power = s.power := foldl_power (fun s f => s.toGroup_power f) _ _

@[simp] theorem State.endFrame_power (k : Nat) (old new : MFrame) : (s.endFrame k old new).power = s.power := by
  unfold State.endFrame
  dsimp only
  split
  · exact State.flushFrames_power _ _
  · exact State.toGroup_power _ _

@[simp] theorem State.dropAsks_power (f : Ask → Bool) : (s.dropAsks f).power = s.power := rfl

@[simp] theorem State.rejectFrame_power (k : Nat) (f : MFrame) (modeChanged : Bool) : (s.rejectFrame k f modeChanged).power = s.power := by
  unfold State.rejectFrame
  dsimp only
  split <;> simp

@[simp] theorem State.rejectAll_power (k : Nat) (modeChanged : Bool) : (s.rejectAll k modeChanged).power = s.power :=
  foldl_power (fun s f => s.rejectFrame_power k f modeChanged) _ s

@[simp] theorem State.closePortFrames_power (p : Nat) : (s.closePortFrames p).power = s.power :=
  foldl_power (fun s i => s.rejectAll_power (4 * p + i) true) _ s

@[simp] theorem State.portDown_power (p : Nat) : (s.portDown p).power = s.power := by simp [State.portDown]

@[simp] theorem State.endFiring_power (t : Nat) : (s.endFiring t).power = s.power := by
  unfold State.endFiring
  dsimp only
  split <;> simp

@[simp] theorem State.linkFailed_power (t code : Nat) : (s.linkFailed t code).power = s.power := by
  simp [State.linkFailed, State.ceFault, State.dropOwn]

@[simp] theorem State.klyDown_power (i st : Nat) (queued : Bool) : (s.klyDown i st queued).power = s.power :=
  foldl_power (fun s t => s.linkFailed_power t 0x5202) _ ((s.put (fKlyState i) st).off (fKlyLocked i))

@[simp] theorem State.intakeStops_power : s.intakeStops.power = s.power :=
  foldl_power (f := fun s (x : Nat × Nat) => s.endPulse x.1) (fun _ _ => rfl) s.mill.pulses s

@[simp] theorem State.macOff_power (m : Nat) : (s.macOff m).power = s.power := rfl

theorem ite_power {c : Prop} [Decidable c] {t : State} (h : t.power = s.power) : (if c then t else s).power = s.power := by
  split
  · exact h
  · rfl

/-- The blocks' stop leaves the power state but for the DRAM's self-refresh: a held wake request stays held (R746, R750). -/
theorem State.bankDown_power : s.bankDown.power = { s.power with selfRefresh := true } := by
  refine congrArg (fun p : Power => { p with selfRefresh := true }) ?_
  refine (foldl_power (f := fun s i => s.setReg (0x4100 + 4 * i) 0x800) (fun _ _ => rfl) bankedIslands _).trans ?_
  refine (foldl_power (f := fun s i => s.put (fCoreE i) 0) (fun _ _ => rfl) (List.range 16) _).trans ?_
  refine (foldl_power (f := fun s i => s.put (fPll i) 0) (fun _ _ => rfl) [5, 3, 0, 1] _).trans ?_
  refine (foldl_power (f := State.macOff) (fun s m => s.macOff_power m) (List.range 4) _).trans ?_
  refine (foldl_power (f := fun s i => if s.flag (fKlyEn i) then s.klyDown i klyDisabled true else s)
    (fun s i => ite_power s (s.klyDown_power i klyDisabled true)) (List.range 4) _).trans ?_
  exact (foldl_power (f := State.portDown) (fun s p => s.portDown_power p) (List.range 4) _).trans s.intakeStops_power

end

-- THE REQUEST

section
variable {s : State} {v : Word}

theorem bankEnterRequest_tries (hpf : s.turnsAway 0 = false) (hset : v.getLsbD 0 = true) (hmode : s.mode ≠ 1) :
    exec (.bankEnterRequest 0 v) s = .next s.bankTry :=
  (if_neg (by simp [hpf])).trans ((if_neg (by simp [hset])).trans (if_neg hmode))

theorem bankEnterRequest_waits (hpf : s.turnsAway 0 = false) (hset : v.getLsbD 0 = true) (hmode : s.mode = 1) :
    exec (.bankEnterRequest 0 v) s = .next (s.on fBankPending) :=
  (if_neg (by simp [hpf])).trans ((if_neg (by simp [hset])).trans (if_pos hmode))

theorem wakeRequest_asks (hpf : s.turnsAway 0 = false) (hset : v.getLsbD 0 = true) : exec (.wakeRequest 0 v) s = .next s.wakeAsked :=
  (if_neg (by simp [hpf])).trans (if_pos ⟨rfl, hset⟩)

end

-- A WAKE BEGINS

/-- What a wake leaves as it begins: its reference is the Timebase's tick, and the PLLs of the cores, the memory and the sensors lock (R750). -/
structure WakeStarted (s t : State) : Prop where
  state : t.get fPwrState = pwrWaking
  plls : ∀ i, i ∈ [0, 1, 3, 5] → t.get (fPll i) = 1
  wakeAt : t.power.wakeAt = some s.tb.ticks
  regs : keepsRegs s t [0x5000, 0x4000]
  rest : t = { s with regs := t.regs, power := t.power, boot := { s.boot with trainEnded := false, trained := false, kats := [], tested := [] } }

/-- The PLLs of the cores, the memory and the sensors begin to lock (R750). -/
def State.wakeLocking (s : State) : State := [0, 1, 3, 5].foldl (fun s i => s.put (fPll i) 1) (s.put fPwrState pwrWaking)

theorem State.wakeLocking_get {s : State} (hs : State.Ok s) {i : Nat} (hi : i ∈ [0, 1, 3, 5]) : s.wakeLocking.get (fPll i) = 1 := by
  have hlt : i < 6 := by simp at hi; omega
  exact foldl_pll_get hlt (hs.of_evolves (ev_put (Evolves.refl s))) (by decide) (.inl hi)

theorem State.wakeLocking_only (s : State) : OnlyRegs s s.wakeLocking [0x5000, 0x4000] := by
  obtain ⟨hregs, hram, hrest⟩ := foldl_pll_only [0, 1, 3, 5] (s.put fPwrState pwrWaking)
  obtain ⟨hput, -, -⟩ := s.put_onlyRegs fPwrState pwrWaking
  refine ⟨(hput.mono (by simp [fPwrState])).trans (hregs.mono (by simp)), hram, ?_⟩
  rw [State.wakeLocking, hrest]
  rfl

theorem State.wakeLocking_state {s : State} (hs : State.Ok s) : s.wakeLocking.get fPwrState = pwrWaking := by
  obtain ⟨hregs, -, -⟩ := foldl_pll_only [0, 1, 3, 5] (s.put fPwrState pwrWaking)
  exact (hregs.get (by decide)).trans (State.get_put_same s fPwrState pwrWaking hs.regsKeyed rfl)

/-- The wake's reference is now; training and tests are due (R750, R751). -/
def State.wakeDue (s : State) : State :=
  let s := s.setPower { s.power with wakeHeld := false, wakeAt := some s.tb.ticks, calDue := none, calAsked := false }
  s.setBoot { s.boot with trainEnded := false, trained := false, kats := [], tested := [] }

theorem State.wakeStart_eq (s : State) : s.wakeStart = s.wakeLocking.wakeDue := by
  unfold State.wakeDue State.wakeLocking State.wakeStart
  dsimp only

theorem State.wakeDue_started {s t : State} (h : OnlyRegs s t [0x5000, 0x4000]) (hstate : t.get fPwrState = pwrWaking)
    (hplls : ∀ i, i ∈ [0, 1, 3, 5] → t.get (fPll i) = 1) : WakeStarted s t.wakeDue where
  state := hstate
  plls := hplls
  wakeAt := by rw [h.rest]; rfl
  regs := h.regs
  rest := by rw [h.rest]; rfl

theorem State.wakeStart_started {s : State} (hs : State.Ok s) : WakeStarted s s.wakeStart := by
  rw [State.wakeStart_eq]
  exact State.wakeDue_started s.wakeLocking_only (State.wakeLocking_state hs) fun i hi => State.wakeLocking_get hs hi

-- THE ENTRY ENDS

/-- The blocks are down and the Timebase holds over: the device is BANKED (R43, R747). -/
def State.banked (s : State) : State :=
  ((if s.bankDown.get fTbState = tbLocked ∨ s.bankDown.get fTbState = tbAcquire then s.bankDown.tbEnter tbHoldover else s.bankDown).put fPwrState
    pwrBanked).bump kPwrBanks

theorem bankEntryComplete_ends {s : State} (hst : s.get fPwrState = pwrEntering) :
    exec .bankEntryComplete s = .next (if s.banked.power.wakeHeld then s.banked.wakeStart else s.banked) :=
  if_neg (not_not.mpr hst)

theorem State.Ok.banked {s : State} (hs : State.Ok s) : State.Ok s.banked :=
  have h := ev_bankDown (Evolves.refl s)
  hs.of_evolves (ev_bump (ev_put (ev_ite (ev_tbEnter h) h)))

/-- The end of the entry: BANKED, no core's state kept, and a wake request still held (R747, R750). -/
theorem State.banked_ends {s : State} (hs : State.Ok s) : s.banked.get fPwrState = pwrBanked ∧ s.banked.cores = [] ∧ s.banked.power.wakeHeld = s.power.wakeHeld := by
  have hdown : State.Ok s.bankDown := hs.of_evolves (ev_bankDown (Evolves.refl s))
  have hu : ∃ u, State.Ok u ∧ u.cores = [] ∧ u.power = s.bankDown.power ∧ s.banked = (u.put fPwrState pwrBanked).bump kPwrBanks := by
    unfold State.banked
    split
    · have honly := s.bankDown.tbEnter_tbOnly tbHoldover
      refine ⟨_, hdown.of_evolves (ev_tbEnter (Evolves.refl _)), ?_, ?_, rfl⟩
      · rw [honly.rest]; rfl
      · rw [honly.rest]
    · exact ⟨_, hdown, rfl, rfl, rfl⟩
  obtain ⟨u, hok, hcores, hpower, hbanked⟩ := hu
  rw [hbanked]
  refine ⟨?_, hcores, ?_⟩
  · exact ((keepsRegs_setReg (u.put fPwrState pwrBanked) kPwrBanks _).get (by decide)).trans (State.get_put_same u fPwrState pwrBanked hok.regsKeyed rfl)
  · change u.power.wakeHeld = _
    rw [hpower, State.bankDown_power]

-- THE WAKE ENDS

/-- Reaching a tick moves the count and the ticks alone (R823). -/
theorem State.reachTick_eq (s : State) (n : Nat) : ∃ ns ticks, s.reachTick n = s.setTb { s.tb with ns, ticks } ∧ n ≤ ticks := by
  unfold State.reachTick
  split
  · next h => exact ⟨s.tb.ns, s.tb.ticks, rfl, h⟩
  · exact ⟨_, n, rfl, Nat.le_refl n⟩

/-- The registers of the frame grid, and TB_STATUS. -/
def gridKeys : List Nat := [kFrameNum, kFrameEpoch, kFrameEpoch + 4, kFrameBase, kFramePeriod, 0x1004]

theorem State.gridNumbered_grid (s : State) (n t : Nat) : TbOnly s (s.gridNumbered n t) gridKeys := (s.gridNumbered_tbOnly n t).mono (by simp [gridKeys])

theorem State.gridApplied_grid (s : State) (n t : Nat) (p : Word) : TbOnly s (s.gridApplied n t p) gridKeys := by
  unfold State.gridApplied
  generalize hx : s.setTb { s.tb with base := n, applyAt := none, pendPeriod := none, prev := ((s.reg64 kFrameEpoch).toNat, s.tb.base, s.period) :: s.tb.prev } = x
  have hset : TbOnly s x gridKeys := hx ▸ s.setTb_tbOnly _ _
  have hepoch : TbOnly x (x.setReg64 kFrameEpoch (BitVec.ofNat 64 t)) gridKeys := (x.setReg64_onlyRegs _ _).tbOnly.mono (by simp [gridKeys])
  have hbase := ((x.setReg64 kFrameEpoch (BitVec.ofNat 64 t)).setReg_onlyRegs kFrameBase (BitVec.ofNat 32 n)).tbOnly.mono (ls := gridKeys) (by simp [gridKeys])
  have hperiod := (((x.setReg64 kFrameEpoch (BitVec.ofNat 64 t)).setReg kFrameBase (BitVec.ofNat 32 n)).setReg_onlyRegs kFramePeriod p).tbOnly.mono
    (ls := gridKeys) (by simp [gridKeys])
  exact (((hset.trans hepoch).trans hbase).trans hperiod).trans ((State.put_tbOnly _ fPeriodPending 0).mono (by simp [gridKeys, fPeriodPending]))

/-- The grid moves on without the ticks. -/
theorem State.gridAdvance_grid (s : State) (n t : Nat) : TbOnly s (s.gridAdvance n t) gridKeys ∧ (s.gridAdvance n t).tb.ticks = s.tb.ticks := by
  rcases s.gridAdvance_cases n t with h | ⟨p, h⟩
  · rw [h]; exact ⟨s.gridNumbered_grid n t, rfl⟩
  · rw [h]; exact ⟨(s.gridNumbered_grid n t).trans (State.gridApplied_grid _ n t p), rfl⟩

/-- An apply boundary among the grid points that passed unseen takes effect (limit 12 of 02). -/
def State.applyCaughtUp (s : State) : State :=
  match (match s.tb.applyAt with | some a => some (s.tb.next + (a - BitVec.ofNat 32 s.tb.next).toNat) | none => none : Option Nat) with
  | some n => if s.boundaryAt n < s.now then s.gridAdvance n (s.boundaryAt n) else s
  | none => s

/-- The next boundary is the next grid point (limit 12 of 02). -/
def State.nextCaughtUp (s : State) : State :=
  let e := (s.reg64 kFrameEpoch).toNat
  let first := s.tb.base + (s.now - e + s.period - 1) / s.period
  if s.now ≤ e ∨ first ≤ s.tb.next then s
  else (s.setTb { s.tb with next := first, begun := true }).setReg kFrameNum (BitVec.ofNat 32 (first - 1))

theorem State.gridCatchUp_eq (s : State) : s.gridCatchUp = s.applyCaughtUp.nextCaughtUp := by
  unfold State.gridCatchUp State.applyCaughtUp State.nextCaughtUp
  rfl

theorem State.applyCaughtUp_grid (s : State) : TbOnly s s.applyCaughtUp gridKeys ∧ s.applyCaughtUp.tb.ticks = s.tb.ticks := by
  unfold State.applyCaughtUp
  split
  · split
    · exact s.gridAdvance_grid _ _
    · exact ⟨TbOnly.refl s _, rfl⟩
  · exact ⟨TbOnly.refl s _, rfl⟩

theorem State.nextCaughtUp_grid (s : State) : TbOnly s s.nextCaughtUp gridKeys ∧ s.nextCaughtUp.tb.ticks = s.tb.ticks := by
  unfold State.nextCaughtUp
  dsimp only
  split
  · exact ⟨TbOnly.refl s _, rfl⟩
  · exact ⟨(s.setTb_tbOnly _ _).trans ((State.setReg_onlyRegs _ _ _).tbOnly.mono (by simp [gridKeys])), rfl⟩

theorem State.gridCatchUp_grid (s : State) : TbOnly s s.gridCatchUp gridKeys ∧ s.gridCatchUp.tb.ticks = s.tb.ticks := by
  obtain ⟨happly, hticks⟩ := s.applyCaughtUp_grid
  obtain ⟨hnext, hticks'⟩ := s.applyCaughtUp.nextCaughtUp_grid
  rw [State.gridCatchUp_eq]
  exact ⟨happly.trans hnext, hticks'.trans hticks⟩

/-- The device is in RUN again (R751). -/
def State.woken (s : State) : State := (s.setPower { s.power with wakeAt := none, wokenAt := some s.tb.ticks }).put fPwrState pwrRun

section
variable {s : State} {t0 : Nat}

theorem wakeComplete_wakes (hat : s.power.wakeAt = some t0) (hst : s.get fPwrState = pwrWaking) (hdone : (s.reachTick (t0 + 1000000)).wakeDone = true) :
    exec .wakeComplete s = .next (if (s.reachTick (t0 + 1000000)).woken.flag fFrameEn then (s.reachTick (t0 + 1000000)).woken.gridCatchUp
      else (s.reachTick (t0 + 1000000)).woken) := by
  change execWakeComplete s = _
  unfold execWakeComplete
  rw [hat]
  exact (if_neg (not_not.mpr hst)).trans (if_neg (by simp [hdone]))

theorem wakeComplete_fails (hat : s.power.wakeAt = some t0) (hst : s.get fPwrState = pwrWaking) (hdone : (s.reachTick (t0 + 1000000)).wakeDone = false) :
    exec .wakeComplete s = .next ((s.reachTick (t0 + 1000000)).wakeFails 0x9301) := by
  change execWakeComplete s = _
  unfold execWakeComplete
  rw [hat]
  exact (if_neg (not_not.mpr hst)).trans (if_pos (by simp [hdone]))

end

/-- Settles O25: the entry ends in `State.banked`, a wake begins in `State.wakeStart_started`, and ends 40 ms later in `State.woken` or in `wakeFails`. -/
theorem bankedIsEnteredAndLeft : Obligations.BankedIsEnteredAndLeft := by
  unfold Obligations.BankedIsEnteredAndLeft
  intro s hs
  refine ⟨fun v hpf hset hmode hok => ?_, fun v hpf hset hmode hbad => ?_, fun hst hheld => ?_, fun v hpf hset hst => ?_, fun t0 hat hst hdone hoff => ?_,
    fun t0 hat hst hdone => ?_, fun hst hheld => ?_, fun v hpf hset hst => ?_, fun v hpf hset hmode => ?_, fun t0 hat hst hdone => ?_⟩
  · exact ⟨_, (bankEnterRequest_tries hpf hset hmode).trans (congrArg _ (if_pos hok)), State.get_put_same s fPwrState pwrEntering hs.regsKeyed rfl,
      s.put_onlyRegs fPwrState pwrEntering⟩
  · exact ⟨_, (bankEnterRequest_tries hpf hset hmode).trans (congrArg _ (if_neg (by simp [hbad]))), State.flag_on_same hs rfl rfl, s.put_onlyRegs fPwrRejected 1⟩
  · obtain ⟨hstate, hcores, hkept⟩ := State.banked_ends hs
    exact ⟨_, (bankEntryComplete_ends hst).trans (congrArg _ (if_neg (by simp [hkept, hheld]))), hstate, hcores⟩
  · have hasked : s.wakeAsked = s.wakeStart := (if_neg (by simp [hst, pwrBanked, pwrEntering])).trans (if_pos hst)
    have hwake := State.wakeStart_started hs
    exact ⟨_, (wakeRequest_asks hpf hset).trans (congrArg _ hasked), hwake.state, hwake.plls, hwake.wakeAt, hwake.regs,
      fun a => by rw [hwake.rest]; rfl, hwake.rest⟩
  · obtain ⟨ns, ticks, hreach, -⟩ := s.reachTick_eq (t0 + 1000000)
    have hexec := wakeComplete_wakes hat hst hdone
    rw [hreach] at hexec
    have hkept : (s.setTb { s.tb with ns, ticks }).woken.flag fFrameEn = false :=
      ((keepsRegs_put (State.setPower (s.setTb { s.tb with ns, ticks }) _) fPwrState pwrRun).flag (by decide)).trans hoff
    rw [if_neg (by simp [hkept])] at hexec
    exact ⟨_, hexec, State.get_put_same (State.setPower (s.setTb { s.tb with ns, ticks }) _) fPwrState pwrRun hs.regsKeyed rfl, rfl,
      keepsRegs_put (State.setPower (s.setTb { s.tb with ns, ticks }) _) fPwrState pwrRun, fun _ => rfl, rfl⟩
  · obtain ⟨ns, ticks, hreach, hticks⟩ := s.reachTick_eq (t0 + 1000000)
    have hexec := wakeComplete_wakes hat hst hdone
    rw [hreach] at hexec
    have hstate : (s.setTb { s.tb with ns, ticks }).woken.get fPwrState = pwrRun :=
      State.get_put_same (State.setPower (s.setTb { s.tb with ns, ticks }) _) fPwrState pwrRun hs.regsKeyed rfl
    have hram : keepsRam s (s.setTb { s.tb with ns, ticks }).woken := fun _ => rfl
    have hwake : (s.setTb { s.tb with ns, ticks }).woken.power.wakeAt = none := rfl
    have hreached : t0 + 1000000 ≤ (s.setTb { s.tb with ns, ticks }).woken.tb.ticks := hticks
    generalize (s.setTb { s.tb with ns, ticks }).woken = u at hexec hstate hram hwake hreached
    obtain ⟨honly, hkept⟩ := u.gridCatchUp_grid
    split at hexec
    · refine ⟨_, hexec, (honly.regs.get (by decide)).trans hstate, ?_, hkept ▸ hreached, fun a => (honly.ram a).trans (hram a)⟩
      rw [honly.rest]; exact hwake
    · exact ⟨_, hexec, hstate, hwake, hreached, hram⟩
  · obtain ⟨-, hcores, hkept⟩ := State.banked_ends hs
    have hwake := State.wakeStart_started hs.banked
    refine ⟨_, (bankEntryComplete_ends hst).trans (congrArg _ (if_pos (hkept.trans hheld))), hwake.state, ?_⟩
    rw [hwake.rest]; exact hcores
  · exact (wakeRequest_asks hpf hset).trans (congrArg _ (if_pos hst))
  · exact ⟨_, bankEnterRequest_waits hpf hset hmode, State.flag_on_same hs rfl rfl, s.put_onlyRegs fBankPending 1⟩
  · obtain ⟨ns, ticks, hreach, -⟩ := s.reachTick_eq (t0 + 1000000)
    have hexec := wakeComplete_fails hat hst hdone
    rw [hreach] at hexec
    exact ⟨_, hexec, State.flag_on_same (s := s.setTb { s.tb with ns, ticks }) (hs.of_evolves (ev_setTb (Evolves.refl s))) rfl rfl, rfl, rfl,
      keepsRegs_put (s.setTb { s.tb with ns, ticks }) fFallback 1, fun _ => rfl⟩

end Sys2Proof.Machine

/-! THE ETHERNET MACS AND THE TRIGGER INPUTS (19_vehicle_interfaces.md, Ethernet; R708 to R716). -/
namespace Sys2Proof.Machine

theorem keepsRegs_bump (s : State) (k : Nat) : keepsRegs s (s.bump k) [k] := keepsRegs_setReg s k _

theorem State.bump_onlyRegs (s : State) (k : Nat) : OnlyRegs s (s.bump k) [k] := s.setReg_onlyRegs k _

theorem OnlyRegs.trans {r s t : State} {ks : List Nat} (h : OnlyRegs r s ks) (g : OnlyRegs s t ks) : OnlyRegs r t ks where
  regs := h.regs.trans g.regs
  ram a := (g.ram a).trans (h.ram a)
  rest := by rw [g.rest, h.rest]

theorem OnlyRegs.mono {s t : State} {ks ls : List Nat} (h : OnlyRegs s t ks) (hsub : ∀ k ∈ ks, k ∈ ls) : OnlyRegs s t ls := ⟨h.regs.mono hsub, h.ram, h.rest⟩

theorem OnlyRegs.raised {s t : State} {ks : List Nat} (h : OnlyRegs s t ks) (e : FaultEvent) : OnlyRegsEvents s (t.raise e) ks [e] where
  regs := h.regs
  ram := h.ram
  events := by rw [h.rest]; rfl
  rest := by rw [h.rest]; rfl

theorem keepsRegs_report (s : State) (code : Nat) (src : BitVec 16) : keepsRegs s (s.report code src) [] := fun _ _ => rfl

-- ENABLING A MAC

theorem ethEnable_starts {s : State} {m : Fin 5} {v : Word} (hpf : s.turnsAway 0 = false) (hoff : s.flag (fEthEn m.val) = false)
    (hon : (fEthEn m.val).ofWord v = 1) (hblocks : m.val < 4 → s.blocksOff = false) :
    exec (.ethEnable 0 m v) s = .next ((s.setReg (kEthCfg m.val) (v &&& ethCfgBits m.val)).ethStart m.val) :=
  (if_neg (by simp [hpf])).trans ((if_neg (by simp [hoff, hon, State.ethMayWrite])).trans (if_neg fun h => by simp [hblocks h.1] at h))

/-- Every speed of a mask is at or below its highest one (R711). -/
theorem floorMask_topBit (mask : Nat) : floorMask mask (topBit mask) = mask := Nat.mod_eq_of_lt Nat.lt_log2_self

/-- What a sensor MAC writes to its PHY (R711). -/
def State.advertised (s : State) (m floor : Nat) : List Emission :=
  if 4 ≤ m then [] else [.mdioAdvertise m (s.get (fPhyAddr m)) (!s.flag (fSgmii m)) (if s.flag (fSgmii m) then [4, 9] else [16, 32]) floor]

theorem State.ethAdvertise_eq (s : State) (m floor : Nat) : s.ethAdvertise m floor = { s with emitted := s.emitted ++ s.advertised m floor } := by
  unfold State.ethAdvertise State.advertised
  by_cases hm : m < 4
  · rw [if_pos hm, if_neg (show ¬ 4 ≤ m by omega)]
    cases s.flag (fSgmii m) <;> rfl
  · rw [if_neg hm, if_pos (show 4 ≤ m by omega), List.append_nil]

/-- The link is down, and the floor is set: nothing is advertised yet. -/
def State.ethLinkCleared (s : State) (m floor : Nat) : State := ((s.off (fEthLink m)).put (fEthSpeed m) 0).put (fEthFloor m) floor

theorem State.ethLinkCleared_onlyRegs (s : State) (m floor : Nat) : OnlyRegs s (s.ethLinkCleared m floor) [kEthStatus m] where
  regs := ((keepsRegs_put s (fEthLink m) 0).trans (keepsRegs_put _ (fEthSpeed m) 0)).trans (keepsRegs_put _ (fEthFloor m) floor)
  ram _ := rfl
  rest := rfl

/-- The link is down, its speed 0, and the floor is as set (R711). -/
theorem State.ethLinkCleared_fields {s : State} (hs : State.Ok s) (m floor : Nat) : (s.ethLinkCleared m floor).flag (fEthLink m) = false ∧
    (s.ethLinkCleared m floor).get (fEthSpeed m) = 0 ∧ (s.ethLinkCleared m floor).get (fEthFloor m) = floor % 32 := by
  have hlink : State.Ok (s.off (fEthLink m)) := hs.of_evolves (ev_put (Evolves.refl s))
  have hspeed : State.Ok ((s.off (fEthLink m)).put (fEthSpeed m) 0) := hlink.of_evolves (ev_put (Evolves.refl _))
  refine ⟨?_, ?_, State.get_put_same _ _ _ hspeed.regsKeyed rfl⟩
  · rw [State.flag, State.ethLinkCleared, State.get_put_apart _ _ _ _ hspeed.regsKeyed rfl (by simp [Fld.apart, fEthFloor, fEthLink]),
      State.get_put_apart _ _ _ _ hlink.regsKeyed rfl (by simp [Fld.apart, fEthSpeed, fEthLink])]
    exact State.flag_off_same hs rfl
  · rw [State.ethLinkCleared, State.get_put_apart _ _ _ _ hspeed.regsKeyed rfl (by simp [Fld.apart, fEthFloor, fEthSpeed])]
    exact State.get_put_same _ _ _ hlink.regsKeyed rfl

-- THE LINK

theorem ethLinkUp_settles {s : State} {m b : Fin 5} (hen : s.flag (fEthEn m.val) = true) (hblocks : m.val < 4 → s.blocksOff = false)
    (hmask : bitAt (s.get (fSpeedMask m.val)) b.val = true) :
    exec (.ethLinkUp m b true) s = .next ((s.on (fEthLink m.val)).put (fEthSpeed m.val) (speedCode m.val b.val)) :=
  (if_neg fun h => by rcases h with h | ⟨h4, h⟩ <;> simp_all).trans (if_pos ⟨rfl, hmask⟩)

theorem ethLinkUp_fails {s : State} {m b : Fin 5} (hen : s.flag (fEthEn m.val) = true) (hblocks : m.val < 4 → s.blocksOff = false) :
    exec (.ethLinkUp m b false) s = .next (((s.off (fEthLink m.val)).put (fEthSpeed m.val) 0).report 0x7204 (srcEth m.val)) :=
  (if_neg fun h => by rcases h with h | ⟨h4, h⟩ <;> simp_all).trans (if_neg (by simp))

theorem ethLinkDown_counts {s : State} {m : Fin 5} (hup : s.flag (fEthLink m.val) = true) : exec (.ethLinkDown m) s =
    .next ((((s.off (fEthLink m.val)).put (fEthSpeed m.val) 0).bump (kEthCnt m.val 5)).report 0x7201 (srcEth m.val)) :=
  if_neg (by simp [hup])

theorem speedCode_lt (m b : Fin 5) : speedCode m.val b.val < 8 := by
  unfold speedCode
  split
  · split <;> omega
  · omega

/-- A link that is down with speed 0: the registers that change, and its fields. -/
theorem State.ethDown_fields {s : State} (hs : State.Ok s) (m : Nat) : OnlyRegs s ((s.off (fEthLink m)).put (fEthSpeed m) 0) [kEthStatus m] ∧
    ((s.off (fEthLink m)).put (fEthSpeed m) 0).flag (fEthLink m) = false := by
  have hlink : State.Ok (s.off (fEthLink m)) := hs.of_evolves (ev_put (Evolves.refl s))
  refine ⟨⟨(keepsRegs_put s (fEthLink m) 0).trans (keepsRegs_put _ (fEthSpeed m) 0), fun _ => rfl, rfl⟩, ?_⟩
  rw [State.flag, State.get_put_apart _ _ _ _ hlink.regsKeyed rfl (by simp [Fld.apart, fEthSpeed, fEthLink])]
  exact State.flag_off_same hs rfl

-- A FRAME RECEIVED

section
variable {s : State} {m : Fin 5} {dst : BitVec 48}

theorem kEthCnt_ne_kEthStatus (m i : Nat) : kEthCnt m i ≠ kEthStatus m := by simp only [kEthCnt, kEthStatus]; omega

/-- What becomes of a frame that a MAC has counted: its consumer takes it, or it is another's (R709). -/
def State.ethConsumed (s : State) (m : Nat) (kind : EthKind) : State :=
  if s.ethTaken m kind then
    match kind with
    | .arp mac ip _ => s.arpReply m mac ip
    | _ => s
  else s.ethOther m

theorem ethFrameReceive_sound {kind : EthKind} (hup : s.flag (fEthLink m.val) = true) (hdst : s.ethAccepts m.val dst = true) (hkind : kind ≠ .pause) :
    exec (.ethFrameReceive m dst kind true false false) s = .next ((s.bump (kEthCnt m.val 0)).ethConsumed m.val kind) := by
  have hgo : ¬ (kind = .pause ∨ ¬ s.ethAccepts m.val dst = true) := by simp [hkind, hdst]
  refine (if_neg (by simp [hup])).trans ((if_neg (by simp)).trans ((if_neg (by simp)).trans ((if_neg hgo).trans ?_)))
  unfold State.ethConsumed
  cases kind with
  | pause => exact absurd rfl hkind
  | time => exact (apply_ite Host.Outcome.next _ _ _).symm
  | arp mac ip target => exact (if_congr (by simp [State.ethTaken]) rfl rfl).trans (apply_ite Host.Outcome.next _ _ _).symm
  | udp pkt => exact (if_congr (by simp [State.ethTaken]) rfl rfl).trans (apply_ite Host.Outcome.next _ _ _).symm
  | other => rfl

theorem ethFrameReceive_pause (hup : s.flag (fEthLink m.val) = true) : exec (.ethFrameReceive m dst .pause true false false) s = .next s :=
  (if_neg (by simp [hup])).trans ((if_neg (by simp)).trans ((if_neg (by simp)).trans (if_pos (.inl rfl))))

theorem ethFrameReceive_overflow (hup : s.flag (fEthLink m.val) = true) :
    exec (.ethFrameReceive m dst .other true false true) s = .next (s.bump (kEthCnt m.val 2)) :=
  (if_neg (by simp [hup])).trans ((if_neg (by simp)).trans (if_pos rfl))

theorem ethFrameReceive_badFcs {kind : EthKind} {sym ovf : Bool} (hup : s.flag (fEthLink m.val) = true) : exec (.ethFrameReceive m dst kind false sym ovf) s =
    .next (((if sym then s.ethError m.val else s).bump (kEthCnt m.val 1)).ethError m.val) :=
  (if_neg (by simp [hup])).trans (if_pos rfl)

end

-- WHO TAKES A FRAME

theorem notMem_of_lt {ks : List Nat} (hks : ∀ k ∈ ks, 0x43000 ≤ k) {k : Nat} (hk : k < 0x43000) : k ∉ ks := fun hin => absurd (hks k hin) (by omega)

section
variable {s t : State} {ks : List Nat} (h : keepsRegs s t ks) (hks : ∀ k ∈ ks, 0x43000 ≤ k)
include h hks

/-- A range context's binding does not hang on a register of a MAC (R134). -/
theorem State.rangeMatch_kept {k : Nat} (hk : k < 24) (mac : Nat) (pkt : UdpPacket) : t.rangeMatch k mac pkt = s.rangeMatch k mac pkt := by
  have hkept {off : Nat} (hoff : off < 0x40) : kStrm k off ∉ ks := notMem_of_lt hks (by simp only [kStrm]; omega)
  rw [State.rangeMatch, State.rangeMatch, h.flag (f := fStrmEn k) (hkept (by decide)), h.get (f := fSrcMac k) (hkept (by decide)),
    h.get (f := fSrcPort k) (hkept (by decide)), h (kStrmIp k) (hkept (by decide))]

theorem State.classify_kept (mac : Nat) (pkt : UdpPacket) : t.classify mac pkt = s.classify mac pkt := by
  have hfind (l : List Nat) (hl : ∀ k ∈ l, k < 24) : l.find? (fun k => t.rangeMatch k mac pkt) = l.find? (fun k => s.rangeMatch k mac pkt) := by
    induction l with
    | nil => rfl
    | cons k l ih =>
      rw [List.find?_cons, List.find?_cons, State.rangeMatch_kept h hks (hl k List.mem_cons_self), ih fun j hj => hl j (List.mem_cons_of_mem k hj)]
  rw [State.classify, State.classify, hfind _ (by decide)]

theorem State.timePort_kept (m : Nat) : t.timePort m = s.timePort m := by
  rw [State.timePort, State.timePort, h.get (f := fTbSrc) (notMem_of_lt hks (by decide)), h.get (f := fTbPort) (notMem_of_lt hks (by decide)),
    h.get (f := fServeMask) (notMem_of_lt hks (by decide))]

end

/-- A counter of the MAC says nothing of who takes a frame (R709). -/
theorem State.ethTaken_bump (s : State) (m i : Nat) (kind : EthKind) : (s.bump (kEthCnt m i)).ethTaken m kind = s.ethTaken m kind := by
  have hkept := keepsRegs_bump s (kEthCnt m i)
  have hks : ∀ k ∈ [kEthCnt m i], 0x43000 ≤ k := by simp [kEthCnt]; omega
  cases kind with
  | time => exact State.timePort_kept hkept hks m
  | arp mac ip target =>
    have hflag : (s.bump (kEthCnt m i)).flag (fArpEn m) = s.flag (fArpEn m) := hkept.flag (by simp [fArpEn, kEthCfg, kEthCnt]; omega)
    have hip : (s.bump (kEthCnt m i)).reg (kEthIp m) = s.reg (kEthIp m) := hkept _ (by simp [kEthIp, kEthCnt]; omega)
    simp only [State.ethTaken, hflag, hip]
  | udp pkt => simp only [State.ethTaken, State.classify_kept hkept hks]
  | pause => rfl
  | other => rfl

/-- An ARP reply is the same whether a counter of the MAC has counted or not (R709). -/
theorem State.arpReply_bump (s : State) (m i : Nat) (mac : BitVec 48) (ip : Word) :
    ((s.bump (kEthCnt m i)).arpReply m mac ip).emitted = (s.arpReply m mac ip).emitted := by
  have hkept := keepsRegs_bump s (kEthCnt m i)
  have hstation : (s.bump (kEthCnt m i)).stationMac m = s.stationMac m := by
    rw [State.stationMac, State.stationMac, hkept _ (by simp [kEthCnt]; omega), hkept _ (by simp [kEthCnt]; omega)]
  have hip : (s.bump (kEthCnt m i)).reg (kEthIp m) = s.reg (kEthIp m) := hkept _ (by simp [kEthIp, kEthCnt]; omega)
  simp only [State.arpReply, hstation, hip]
  rfl

-- ERRORS OF A LINK

/-- What an error of a link may change: the MAC's status and error window, a message to its PHY, and a report (R712). -/
structure EthErrorOnly (s t : State) (m : Nat) : Prop where
  regs : keepsRegs s t [kEthStatus m]
  rest : ∃ regs emitted reeve ethErr, t = { s with regs, emitted, reeve, veh := { s.veh with ethErr } }

theorem EthErrorOnly.trans {r s t : State} {m : Nat} (h : EthErrorOnly r s m) (g : EthErrorOnly s t m) : EthErrorOnly r t m where
  regs := h.regs.trans g.regs
  rest := by
    obtain ⟨_, _, _, _, hs⟩ := h.rest
    obtain ⟨regs, emitted, reeve, ethErr, ht⟩ := g.rest
    exact ⟨regs, emitted, reeve, ethErr, by rw [ht, hs]⟩

theorem EthErrorOnly.raise {s t : State} {m : Nat} (h : EthErrorOnly s t m) (e : FaultEvent) : EthErrorOnly s (t.raise e) m :=
  h.trans ⟨fun _ _ => rfl, t.regs, t.emitted, _, t.veh.ethErr, rfl⟩

theorem OnlyRegs.ethErrorOnly {s t : State} {m : Nat} (h : OnlyRegs s t [kEthStatus m]) : EthErrorOnly s t m where
  regs := h.regs
  rest := ⟨t.regs, s.emitted, s.reeve, s.veh.ethErr, h.rest⟩

theorem State.setEthErr_only (s : State) (ethErr : Tbl ErrWindow) (m : Nat) : EthErrorOnly s (s.setVeh { s.veh with ethErr }) m :=
  ⟨fun _ _ => rfl, s.regs, s.emitted, s.reeve, ethErr, rfl⟩

theorem State.ethAdvertise_only (s : State) (m floor : Nat) : EthErrorOnly s (s.ethAdvertise m floor) m := by
  rw [State.ethAdvertise_eq]
  exact ⟨fun _ _ => rfl, s.regs, _, s.reeve, s.veh.ethErr, rfl⟩

theorem State.ethNegotiate_only (s : State) (m floor : Nat) : EthErrorOnly s (s.ethNegotiate m floor) m :=
  (s.ethLinkCleared_onlyRegs m floor).ethErrorOnly.trans (State.ethAdvertise_only _ m floor)

theorem State.ethStepDown_only (s : State) (m : Nat) : EthErrorOnly s (s.ethStepDown m) m := by
  have hdrop := s.setEthErr_only (Tbl.drop s.veh.ethErr m) m
  unfold State.ethStepDown
  dsimp only
  generalize s.setVeh { s.veh with ethErr := Tbl.drop s.veh.ethErr m } = u at hdrop
  split
  · exact hdrop.raise _
  · exact ((hdrop.trans (u.put_onlyRegs (fEthDown m) _).ethErrorOnly).trans (State.ethNegotiate_only _ m _)).raise _

theorem State.ethError_only (s : State) (m : Nat) : EthErrorOnly s (s.ethError m) m := by
  have hwindow (w : ErrWindow) := s.setEthErr_only (Tbl.put s.veh.ethErr m w) m
  unfold State.ethError
  exact iteInduction (motive := fun x => EthErrorOnly s x m) (fun _ => (hwindow _).trans (State.ethStepDown_only _ m)) (fun _ => hwindow _)

/-- A counter that reads the same counts the same. -/
theorem State.bump_reg_congr {s t : State} (hs : State.Ok s) (ht : State.Ok t) {k : Nat} (h : t.reg k = s.reg k) : (t.bump k).reg k = (s.bump k).reg k := by
  rw [State.bump, State.bump, State.bumpBy, State.bumpBy, State.reg_setReg_same _ _ _ ht.regsKeyed, State.reg_setReg_same _ _ _ hs.regsKeyed, h]

/-- A frame with a bad FCS is counted once, whatever the errors of its symbols (R712). -/
theorem State.badFcs_counted {s : State} (hs : State.Ok s) (m : Nat) (sym : Bool) : ∃ t, ((if sym then s.ethError m else s).bump (kEthCnt m 1)).ethError m = t ∧
    t.reg (kEthCnt m 1) = (s.bump (kEthCnt m 1)).reg (kEthCnt m 1) ∧ keepsRegs s t [kEthCnt m 1, kEthStatus m] ∧ keepsRam s t ∧
      t = { s with regs := t.regs, emitted := t.emitted, reeve := t.reeve, veh := { s.veh with ethErr := t.veh.ethErr } } := by
  have hfirst : EthErrorOnly s (if sym then s.ethError m else s) m := by
    split
    · exact s.ethError_only m
    · exact ⟨fun _ _ => rfl, s.regs, s.emitted, s.reeve, s.veh.ethErr, rfl⟩
  have hok : State.Ok (if sym then s.ethError m else s) := hs.of_evolves (ev_ite (ev_ethError (Evolves.refl s)) (Evolves.refl s))
  have hcount : kEthCnt m 1 ∉ [kEthStatus m] := by simpa using kEthCnt_ne_kEthStatus m 1
  generalize (if sym then s.ethError m else s) = u at hfirst hok
  have hlast := (u.bump (kEthCnt m 1)).ethError_only m
  generalize (u.bump (kEthCnt m 1)).ethError m = t at hlast
  refine ⟨t, rfl, ?_, ?_, ?_⟩
  · exact (hlast.regs _ hcount).trans (State.bump_reg_congr hs hok (hfirst.regs _ hcount))
  · exact ((hfirst.regs.mono (by simp)).trans ((keepsRegs_bump u _).mono (by simp))).trans (hlast.regs.mono (by simp))
  · obtain ⟨_, _, _, _, hu⟩ := hfirst.rest
    obtain ⟨_, _, _, _, ht⟩ := hlast.rest
    rw [ht, hu]
    exact ⟨fun _ => rfl, rfl⟩

-- TIME MESSAGES

theorem timeMessageTransmit_sends {s : State} {m : Fin 5} {served : Bool} {kind : TimeKind} {head bs : List Byte} (hup : s.flag (fEthLink m.val) = true)
    (hsends : s.timeSends m.val served kind = true) :
    exec (.timeMessageTransmit m served kind head bs) s = .next (s.ethSend m.val (head ++ s.timeMessage served kind bs)) :=
  if_pos (by simp [hup, hsends])

/-- The clockClass and priority1 stand where IEEE 1588 puts them in an Announce. -/
theorem State.timeMessage_announce (s : State) {bs : List Byte} (hlen : 64 ≤ bs.length) :
    (s.timeMessage true .announce bs)[48]? = some (BitVec.ofNat 8 s.clockClass) ∧ (s.timeMessage false .announce bs)[47]? = some 255 :=
  ⟨List.getElem?_set_self (by omega), List.getElem?_set_self (by omega)⟩

-- TRIGGER INPUTS

/-- A rising edge of a trigger input has been stamped (R41, R716). -/
def State.trigStamped (s : State) (i held : Nat) : State := s.drawn.setReg64 (kTrigStamp i) (BitVec.ofNat 64 (s.stampOf held))

theorem State.trigStamped_stamp {s : State} (hs : State.Ok s) (i held : Nat) :
    (s.trigStamped i held).reg64 (kTrigStamp i) = BitVec.ofNat 64 (s.stampOf held) :=
  State.reg64_setReg64_same (hs.of_evolves (ev_drawn (Evolves.refl s))) _ _

theorem State.trigStamped_regs (s : State) (i held : Nat) : keepsRegs s (s.trigStamped i held) [kTrigStamp i, kTrigStamp i + 4] :=
  keepsRegs_setReg64 s.drawn _ _

section
variable {s : State} {i : Fin 4} {held : Nat}

theorem trigInEdge_stamps (hheld : 60 ≤ held) (hsrc : s.flag (fWakeSrc i.val) = false) :
    exec (.trigInEdge i true held) s = .next (s.trigStamped i.val held) :=
  (if_pos (if_pos hheld)).trans ((if_pos rfl).trans (if_neg (by simp [hsrc])))

theorem trigInEdge_wakes (hheld : 60 ≤ held) (hsrc : s.flag (fWakeSrc i.val) = true) :
    exec (.trigInEdge i true held) s = .next (s.trigStamped i.val held).wakeAsked :=
  (if_pos (if_pos hheld)).trans ((if_pos rfl).trans (if_pos hsrc))

theorem trigInEdge_glitch {rising : Bool} (hheld : held < 50) : exec (.trigInEdge i rising held) s = .next (s.bump kPinGlitch) := by
  have hfilter : s.filterAccepts held = false := (if_neg (by omega)).trans (if_pos hheld)
  have hkept : s.filtered held = s := if_neg (by omega)
  refine (if_neg (by simp [hfilter])).trans ?_
  rw [hkept]

end

-- WHAT THE MACS AND THE TRIGGER INPUTS DO

/-- A one-bit field reads 1 where its bit is set. -/
theorem Fld.ofWord_ne_zero {f : Fld} (hw : f.w = 1) (v : Word) : (f.ofWord v != 0) = v.getLsbD f.lo := by
  have hlt : f.ofWord v < 2 := by simpa [hw] using f.ofWord_lt v
  have hbit := Fld.ofWord_bit f v 0
  rw [hw, Nat.add_zero] at hbit
  rcases (by omega : f.ofWord v = 0 ∨ f.ofWord v = 1) with h | h <;> rw [h] at hbit ⊢ <;> simpa using hbit

theorem State.advertised_kept {s t : State} {m : Nat} (h : keepsRegs s t [kEthStatus m]) (floor : Nat) : t.advertised m floor = s.advertised m floor := by
  have hcfg : kEthCfg m ∉ [kEthStatus m] := by simp [kEthCfg, kEthStatus]
  rw [State.advertised, State.advertised, h.get (f := fPhyAddr m) hcfg, h.flag (f := fSgmii m) hcfg]

/-- What a MAC that negotiates leaves: its link is down, and a sensor MAC has advertised its floor (R711). -/
structure EthNegotiates (s t : State) (m floor : Nat) : Prop where
  link : t.flag (fEthLink m) = false
  speed : t.get (fEthSpeed m) = 0
  atFloor : t.get (fEthFloor m) = floor
  regs : keepsRegs s t [kEthStatus m]
  emitted : t.emitted = s.emitted ++ s.advertised m floor
  rest : t = { s with regs := t.regs, emitted := t.emitted }

theorem OnlyRegs.advertises {s t : State} {m floor : Nat} (h : OnlyRegs s t [kEthStatus m]) (hlink : t.flag (fEthLink m) = false)
    (hspeed : t.get (fEthSpeed m) = 0) (hfloor : t.get (fEthFloor m) = floor) : EthNegotiates s (t.ethAdvertise m floor) m floor := by
  rw [State.ethAdvertise_eq]
  have hemitted : t.emitted = s.emitted := by rw [h.rest]
  refine ⟨hlink, hspeed, hfloor, h.regs, ?_, ?_⟩
  · rw [← State.advertised_kept h.regs, ← hemitted]
  · rw [h.rest]

theorem State.ethNegotiate_negotiates {s : State} (hs : State.Ok s) {m floor : Nat} (hfloor : floor < 32) : EthNegotiates s (s.ethNegotiate m floor) m floor := by
  obtain ⟨hlink, hspeed, hset⟩ := State.ethLinkCleared_fields hs m floor
  exact (s.ethLinkCleared_onlyRegs m floor).advertises hlink hspeed (hset.trans (Nat.mod_eq_of_lt hfloor))

theorem State.speedMask_lt (s : State) (m : Nat) : s.get (fSpeedMask m) < 32 := by
  refine lt_of_lt_of_le (s.get_lt (fSpeedMask m)) ?_
  unfold fSpeedMask
  dsimp only
  split <;> decide

/-- A MAC starts with the whole mask as its floor (R711). -/
theorem State.ethStart_negotiates {s : State} (hs : State.Ok s) (m : Nat) :
    EthNegotiates (s.setVeh { s.veh with ethErr := Tbl.drop s.veh.ethErr m }) (s.ethStart m) m (s.get (fSpeedMask m)) := by
  have hstart : s.ethStart m = (s.setVeh { s.veh with ethErr := Tbl.drop s.veh.ethErr m }).ethNegotiate m (s.get (fSpeedMask m)) :=
    congrArg (State.ethNegotiate _ m) (floorMask_topBit _)
  rw [hstart]
  exact State.ethNegotiate_negotiates (hs.of_evolves (ev_setVeh (Evolves.refl s))) (s.speedMask_lt m)

theorem ethCfg_field {s : State} (hs : State.Ok s) {m : Fin 5} {f : Fld} (hkey : f.key = kEthCfg m.val)
    (hmask : ∀ i < f.w, (ethCfgBits m.val).getLsbD (f.lo + i) = true) (v : Word) : (s.setReg (kEthCfg m.val) (v &&& ethCfgBits m.val)).get f = f.ofWord v := by
  rw [← hkey]
  exact (State.get_setReg_same hs f _).trans (Fld.ofWord_and hmask v)

theorem ethCfgBits_speedMask : ∀ m : Fin 5, ∀ i < (fSpeedMask m.val).w, (ethCfgBits m.val).getLsbD ((fSpeedMask m.val).lo + i) = true := by decide

theorem ethCfgBits_phyAddr : ∀ m : Fin 5, ∀ i < (fPhyAddr m.val).w, (ethCfgBits m.val).getLsbD ((fPhyAddr m.val).lo + i) = true := by decide

theorem ethCfgBits_sgmii : ∀ m : Fin 5, ¬ 4 ≤ m.val → ∀ i < (fSgmii m.val).w, (ethCfgBits m.val).getLsbD ((fSgmii m.val).lo + i) = true := by decide

/-- What a sensor MAC advertises once its settings are written. -/
theorem State.advertised_written {s : State} (hs : State.Ok s) (m : Fin 5) (v : Word) :
    (s.setReg (kEthCfg m.val) (v &&& ethCfgBits m.val)).advertised m.val ((s.setReg (kEthCfg m.val) (v &&& ethCfgBits m.val)).get (fSpeedMask m.val)) =
      if 4 ≤ m.val then [] else
        [.mdioAdvertise m.val ((fPhyAddr m.val).ofWord v) (v.getLsbD 30 == false) (if v.getLsbD 30 then [4, 9] else [16, 32]) ((fSpeedMask m.val).ofWord v)] := by
  have hspeeds := ethCfg_field hs (f := fSpeedMask m.val) rfl (ethCfgBits_speedMask m) v
  have hphy := ethCfg_field hs (f := fPhyAddr m.val) rfl (ethCfgBits_phyAddr m) v
  unfold State.advertised
  refine if_ctx_congr Iff.rfl (fun _ => rfl) fun hm => ?_
  have hsgmii : (s.setReg (kEthCfg m.val) (v &&& ethCfgBits m.val)).flag (fSgmii m.val) = v.getLsbD 30 := by
    rw [State.flag, ethCfg_field hs (f := fSgmii m.val) rfl (ethCfgBits_sgmii m hm) v]
    exact Fld.ofWord_ne_zero rfl v
  rw [hspeeds, hphy, hsgmii]
  cases v.getLsbD 30 <;> rfl

theorem SignalOnly.ram {s t : State} {ks : List Nat} (h : SignalOnly s t ks) : keepsRam s t := by
  intro a; rw [h.rest]; rfl

theorem State.bump_signalOnly (s : State) (k : Nat) : SignalOnly s (s.bump k) [k] := ⟨keepsRegs_bump s k, rfl⟩

theorem State.ethSend_signalOnly (s : State) (m : Nat) (bs : List Byte) : SignalOnly s (s.ethSend m bs) [kEthCnt m 4] := ⟨keepsRegs_bump s _, rfl⟩

theorem kEthCnt_notMem {i j : Nat} (m : Nat) (h : i ≠ j) : kEthCnt m i ∉ [kEthCnt m j] := by simp [kEthCnt]; omega

/-- What becomes of a frame that a MAC has counted: a reply, a further count, or nothing (R709). -/
inductive EthOutcome (s : State) (m : Nat) : EthKind → State → Prop
  | replied (mac : BitVec 48) (ip target : Word) : s.ethTaken m (.arp mac ip target) = true → EthOutcome s m (.arp mac ip target) (s.arpReply m mac ip)
  | taken (kind : EthKind) : s.ethTaken m kind = true → (∀ mac ip target, kind ≠ .arp mac ip target) → EthOutcome s m kind s
  | other (kind : EthKind) : s.ethTaken m kind = false → EthOutcome s m kind (s.ethOther m)

theorem State.ethConsumed_outcome (s : State) (m : Nat) (kind : EthKind) : EthOutcome s m kind (s.ethConsumed m kind) := by
  unfold State.ethConsumed
  by_cases htaken : s.ethTaken m kind = true
  · rw [if_pos htaken]
    cases kind with
    | arp mac ip target => exact .replied mac ip target htaken
    | time => exact .taken _ htaken (by simp)
    | udp pkt => exact .taken _ htaken (by simp)
    | pause => exact .taken _ htaken (by simp)
    | other => exact .taken _ htaken (by simp)
  · rw [if_neg htaken]
    exact .other _ (by simpa using htaken)

/-- A counted frame is taken by its consumer, or counts as another's (R708, R709). -/
theorem State.ethConsumed_taken {s : State} (hs : State.Ok s) (m : Nat) (kind : EthKind) : ∃ t, (s.bump (kEthCnt m 0)).ethConsumed m kind = t ∧
    t.reg (kEthCnt m 0) = (s.bump (kEthCnt m 0)).reg (kEthCnt m 0) ∧
    t.reg (kEthCnt m 3) = (if s.ethTaken m kind then s.reg (kEthCnt m 3) else (s.bump (kEthCnt m 3)).reg (kEthCnt m 3)) ∧
    (∀ mac ip target, kind = .arp mac ip target → s.ethTaken m kind = true → t.emitted = (s.arpReply m mac ip).emitted) ∧
    ((∀ mac ip target, kind ≠ .arp mac ip target) → t.emitted = s.emitted) ∧
    keepsRegs s t [kEthCnt m 0, kEthCnt m 3, kEthCnt m 4] ∧ keepsRam s t ∧ t = { s with regs := t.regs, emitted := t.emitted } := by
  have hcounted : SignalOnly s (s.bump (kEthCnt m 0)) [kEthCnt m 0, kEthCnt m 3, kEthCnt m 4] := (s.bump_signalOnly _).mono (by simp)
  have hother : (s.bump (kEthCnt m 0)).reg (kEthCnt m 3) = s.reg (kEthCnt m 3) := keepsRegs_bump s _ _ (kEthCnt_notMem m (by decide))
  have hreply (mac : BitVec 48) (ip : Word) := s.arpReply_bump m 0 mac ip
  have hsame := s.ethTaken_bump m 0 kind
  have hok : State.Ok (s.bump (kEthCnt m 0)) := hs.of_evolves (ev_bump (Evolves.refl s))
  have houtcome := (s.bump (kEthCnt m 0)).ethConsumed_outcome m kind
  have hemitted : (s.bump (kEthCnt m 0)).emitted = s.emitted := rfl
  generalize s.bump (kEthCnt m 0) = u at hcounted hother hreply hsame hok houtcome hemitted
  refine ⟨_, rfl, ?_⟩
  generalize u.ethConsumed m kind = t at houtcome
  cases houtcome with
  | replied mac ip target htaken =>
    have hsent : SignalOnly u (u.arpReply m mac ip) [kEthCnt m 4] := u.ethSend_signalOnly m _
    have honly := hcounted.trans (hsent.mono (by simp))
    refine ⟨hsent.regs _ (kEthCnt_notMem m (by decide)), ?_, fun mac' ip' target' h _ => ?_, fun h => absurd rfl (h mac ip target), honly.regs, honly.ram, honly.rest⟩
    · rw [if_pos (hsame.symm.trans htaken), hsent.regs _ (kEthCnt_notMem m (by decide)), hother]
    · cases h
      exact hreply mac ip
  | taken _ htaken hnot =>
    exact ⟨rfl, by rw [if_pos (hsame.symm.trans htaken), hother], fun mac ip target h => absurd h (hnot mac ip target), fun _ => hemitted, hcounted.regs,
      hcounted.ram, hcounted.rest⟩
  | other _ htaken =>
    have hbump := u.bump_signalOnly (kEthCnt m 3)
    have honly := hcounted.trans (hbump.mono (by simp))
    have hnot : s.ethTaken m kind = false := hsame.symm.trans htaken
    refine ⟨hbump.regs _ (kEthCnt_notMem m (by decide)), ?_, fun _ _ _ _ h => absurd h (by simp [hnot]), fun _ => hemitted, honly.regs, honly.ram, honly.rest⟩
    rw [if_neg (by simp [hnot])]
    exact State.bump_reg_congr hs hok hother

section
variable {s : State} (hs : State.Ok s) {m : Fin 5}
include hs

theorem ethEnable_taken {v : Word} (hpf : s.turnsAway 0 = false) (hoff : s.flag (fEthEn m.val) = false) (hon : (fEthEn m.val).ofWord v = 1)
    (hblocks : m.val < 4 → s.blocksOff = false) : ∃ t, exec (.ethEnable 0 m v) s = .next t ∧ t.reg (kEthCfg m.val) = v &&& ethCfgBits m.val ∧
      t.flag (fEthLink m.val) = false ∧ t.get (fEthSpeed m.val) = 0 ∧ t.get (fEthFloor m.val) = t.get (fSpeedMask m.val) ∧
      keepsRegs s t [kEthCfg m.val, kEthStatus m.val] ∧ keepsRam s t ∧ t.emitted = s.emitted ++ (if 4 ≤ m.val then [] else
        [.mdioAdvertise m.val ((fPhyAddr m.val).ofWord v) (v.getLsbD 30 == false) (if v.getLsbD 30 then [4, 9] else [16, 32]) ((fSpeedMask m.val).ofWord v)]) ∧
      t = { s with regs := t.regs, emitted := t.emitted, veh := { s.veh with ethErr := Tbl.drop s.veh.ethErr m.val } } := by
  have hset : State.Ok (s.setReg (kEthCfg m.val) (v &&& ethCfgBits m.val)) := hs.of_evolves (ev_setReg (Evolves.refl s) _ _)
  have hcfg : kEthCfg m.val ∉ [kEthStatus m.val] := by simp [kEthCfg, kEthStatus]
  have hexec := ethEnable_starts hpf hoff hon hblocks
  have hadvertised := State.advertised_written hs m v
  have hwritten := s.reg_setReg_same (kEthCfg m.val) (v &&& ethCfgBits m.val) hs.regsKeyed
  have honly := s.setReg_onlyRegs (kEthCfg m.val) (v &&& ethCfgBits m.val)
  generalize s.setReg (kEthCfg m.val) (v &&& ethCfgBits m.val) = u at *
  obtain ⟨hlink, hspeed, hfloor, hregs, hemitted, hrest⟩ := State.ethStart_negotiates hset m.val
  refine ⟨_, hexec, (hregs _ hcfg).trans hwritten, hlink, hspeed, hfloor.trans (hregs.get (f := fSpeedMask m.val) hcfg).symm,
    (honly.regs.mono (by simp)).trans (hregs.mono (by simp)), ?_, ?_, ?_⟩
  · intro a; rw [hrest]; exact honly.ram a
  · have hsent : u.emitted = s.emitted := by rw [honly.rest]
    rw [hemitted, ← hadvertised, ← hsent]
    rfl
  · rw [hrest, honly.rest]
    rfl

theorem ethLinkUp_taken {b : Fin 5} (hen : s.flag (fEthEn m.val) = true) (hblocks : m.val < 4 → s.blocksOff = false)
    (hmask : bitAt (s.get (fSpeedMask m.val)) b.val = true) : ∃ t, exec (.ethLinkUp m b true) s = .next t ∧ t.flag (fEthLink m.val) = true ∧
      t.get (fEthSpeed m.val) = speedCode m.val b.val ∧ OnlyRegs s t [kEthStatus m.val] := by
  have hon : State.Ok (s.on (fEthLink m.val)) := hs.of_evolves (ev_put (Evolves.refl s))
  have hlink : ((s.on (fEthLink m.val)).put (fEthSpeed m.val) (speedCode m.val b.val)).flag (fEthLink m.val) = true := by
    rw [State.flag, State.get_put_apart _ _ _ _ hon.regsKeyed rfl (by simp [Fld.apart, fEthSpeed, fEthLink])]
    exact State.flag_on_same hs rfl rfl
  exact ⟨_, ethLinkUp_settles hen hblocks hmask, hlink, (State.get_put_same _ _ _ hon.regsKeyed rfl).trans (Nat.mod_eq_of_lt (speedCode_lt m b)),
    (keepsRegs_put s (fEthLink m.val) 1).trans (keepsRegs_put _ (fEthSpeed m.val) _), fun _ => rfl, rfl⟩

theorem ethLinkDown_taken (hup : s.flag (fEthLink m.val) = true) : ∃ t, exec (.ethLinkDown m) s = .next t ∧ t.flag (fEthLink m.val) = false ∧
    t.reg (kEthCnt m.val 5) = (s.bump (kEthCnt m.val 5)).reg (kEthCnt m.val 5) ∧
    OnlyRegsEvents s t [kEthStatus m.val, kEthCnt m.val 5] [⟨0x7201, srcEth m.val, 0, .report, []⟩] := by
  obtain ⟨honly, hlink⟩ := State.ethDown_fields hs m.val
  have hdown : State.Ok ((s.off (fEthLink m.val)).put (fEthSpeed m.val) 0) := hs.of_evolves (ev_put (ev_put (Evolves.refl s)))
  have hexec := ethLinkDown_counts hup
  generalize (s.off (fEthLink m.val)).put (fEthSpeed m.val) 0 = u at honly hlink hdown hexec
  have hcounted := (honly.mono (by simp)).trans ((u.bump_onlyRegs (kEthCnt m.val 5)).mono (ls := [kEthStatus m.val, kEthCnt m.val 5]) (by simp))
  have hreport := keepsRegs_report (u.bump (kEthCnt m.val 5)) 0x7201 (srcEth m.val)
  refine ⟨_, hexec, (hreport.flag List.not_mem_nil).trans ?_, (hreport _ List.not_mem_nil).trans ?_, hcounted.raised _⟩
  · exact ((keepsRegs_bump u _).flag (by simpa [fEthLink] using (kEthCnt_ne_kEthStatus m.val 5).symm)).trans hlink
  · exact State.bump_reg_congr hs hdown (honly.regs _ (by simpa using kEthCnt_ne_kEthStatus m.val 5))

theorem ethFrameReceive_unclaimed {dst : BitVec 48} (hup : s.flag (fEthLink m.val) = true) (hdst : s.ethAccepts m.val dst = true) :
    ∃ t, exec (.ethFrameReceive m dst .other true false false) s = .next t ∧ t.reg (kEthCnt m.val 0) = (s.bump (kEthCnt m.val 0)).reg (kEthCnt m.val 0) ∧
      t.reg (kEthCnt m.val 3) = (s.bump (kEthCnt m.val 3)).reg (kEthCnt m.val 3) ∧ OnlyRegs s t [kEthCnt m.val 0, kEthCnt m.val 3] := by
  have hbump := keepsRegs_bump (s.bump (kEthCnt m.val 0)) (kEthCnt m.val 3)
  have hok : State.Ok (s.bump (kEthCnt m.val 0)) := hs.of_evolves (ev_bump (Evolves.refl s))
  have hother : (s.bump (kEthCnt m.val 0)).reg (kEthCnt m.val 3) = s.reg (kEthCnt m.val 3) := keepsRegs_bump s _ _ (kEthCnt_notMem m.val (by decide))
  exact ⟨_, ethFrameReceive_sound hup hdst (by simp), hbump _ (kEthCnt_notMem m.val (by decide)), State.bump_reg_congr hs hok hother,
    ((s.bump_onlyRegs _).mono (by simp)).trans ((State.bump_onlyRegs _ _).mono (by simp))⟩

end

/-- Settles O21: each command has its lemma above; a counted frame goes through `State.ethConsumed_outcome`. -/
theorem ethernetMacsFollowTheirLinks : Obligations.EthernetMacsFollowTheirLinks := by
  unfold Obligations.EthernetMacsFollowTheirLinks
  intro s hs
  refine ⟨fun m v hpf hoff hon hblocks => ?_, fun m b hen hblocks hmask => ⟨?_, ?_⟩, fun m hup => ?_, fun m dst hup => ⟨ethFrameReceive_pause hup, ?_, fun hdst => ?_⟩,
    fun m dst kind hup hdst hkind => ?_, fun m dst kind sym ovf hup => ?_, fun m served kind head bs hup hsends => ?_, fun bs hlen => s.timeMessage_announce hlen,
    fun i held hheld hsrc hmin hmax => ?_, fun i held hheld hsrc hst hmin hmax => ?_, fun i rising held hheld => trigInEdge_glitch hheld⟩
  · exact ethEnable_taken hs hpf hoff hon hblocks
  · exact ethLinkUp_taken hs hen hblocks hmask
  · obtain ⟨honly, hlink⟩ := State.ethDown_fields hs m.val
    exact ⟨_, ethLinkUp_fails hen hblocks, ((keepsRegs_report _ 0x7204 (srcEth m.val)).flag List.not_mem_nil).trans hlink, honly.raised _⟩
  · exact ethLinkDown_taken hs hup
  · exact ⟨_, ethFrameReceive_overflow hup, rfl, s.bump_onlyRegs _⟩
  · exact ethFrameReceive_unclaimed hs hup hdst
  · obtain ⟨t, ht, hrest⟩ := State.ethConsumed_taken hs m.val kind
    exact ⟨t, (ethFrameReceive_sound hup hdst hkind).trans (congrArg _ ht), hrest⟩
  · obtain ⟨t, ht, hrest⟩ := State.badFcs_counted hs m.val sym
    exact ⟨t, (ethFrameReceive_badFcs hup).trans (congrArg _ ht), hrest⟩
  · have honly := s.ethSend_signalOnly m.val (head ++ s.timeMessage served kind bs)
    exact ⟨_, timeMessageTransmit_sends hup hsends, rfl, rfl, honly.regs, honly.ram, honly.rest⟩
  · obtain ⟨hlo, hhi⟩ := State.stampOf_bounds hmin hmax (State.trigStamped_stamp hs i.val held)
    exact ⟨_, trigInEdge_stamps hheld hsrc, hlo, hhi, s.trigStamped_regs i.val held, fun _ => rfl, rfl⟩
  · have hok : State.Ok (s.trigStamped i.val held) := hs.of_evolves (ev_setReg64 (ev_drawn (Evolves.refl s)))
    have hbanked : (s.trigStamped i.val held).get fPwrState = pwrBanked := ((s.trigStamped_regs i.val held).get (by simp [fPwrState, kTrigStamp]; omega)).trans hst
    have hasked : (s.trigStamped i.val held).wakeAsked = (s.trigStamped i.val held).wakeStart :=
      (if_neg (by simp [hbanked, pwrBanked, pwrEntering])).trans (if_pos hbanked)
    have hwake := State.wakeStart_started hok
    have hstamp : (s.trigStamped i.val held).wakeStart.reg64 (kTrigStamp i.val) = BitVec.ofNat 64 (s.stampOf held) :=
      (hwake.regs.reg64 (by simp [kTrigStamp]; omega) (by simp [kTrigStamp]; omega)).trans (State.trigStamped_stamp hs i.val held)
    obtain ⟨hlo, hhi⟩ := State.stampOf_bounds hmin hmax hstamp
    exact ⟨_, (trigInEdge_wakes hheld hsrc).trans (congrArg _ hasked), hlo, hhi, hwake.state⟩

end Sys2Proof.Machine

/-! CAMERA PACKETS. What one stream's Frame Start does to another stream's counters (04_sensor_intake.md, R135, R144, R159). -/
namespace Sys2Proof.Machine

/-- An open frame in stream 0 that says it is stream 1's, for group frame 7. -/
def strayFrame : MFrame := newFrame 1 0 [] 7 0 none

/-- Port 0 is UP and frames run; streams 0 and 1 are enabled on virtual channel 0, in the SYNC group 0, and both have begun the frame that is the
latest one now. Stream 0 still receives the stray frame, and the group holds frame 7 of stream 1 for MISSED. -/
def strayState : State :=
  { State.reset with
    regs := [(0x1000, 0x100), (0x10020, 2), (0x10200, 0x80000000), (0x11000, 0x80F00000), (0x11040, 0x80F00000)],
    tb := { Timebase.reset with ns := 50 },
    mill := { Mill.reset with
      streams := [(0, { StreamSt.reset with frames := [strayFrame], begun := [0xFFFFFFFF] }), (1, { StreamSt.reset with begun := [0xFFFFFFFF] })],
      groups := [(0, { GroupSt.reset with missed := [(1, 7)] })] } }

theorem strayState_ok : State.Ok strayState := ⟨by decide +kernel, rfl, State.reset_ok.phys⟩

/-- The Frame Start counts a late frame of stream 1 twice: for the stray frame that stream 0 gives up, and for stream 1's own. -/
theorem strayState_countsTwice : (outState (exec (.csiFrameStart 0 0 0 .clean false 50) strayState) strayState).reg (kStrmCnt 1 4) = 2 := by decide +kernel

/-- The frame number that the Frame Start is given, whatever its stamp. -/
theorem strayState_begun (c : Nat) : (strayState.strm 1).begun.contains (((strayState.csiStamp 50).1.portHeader 0 .clean false (leBytes 2 0)).frameAt c) = true := by
  have hnumber : ((strayState.csiStamp 50).1.portHeader 0 .clean false (leBytes 2 0)).frameAt c = 0xFFFFFFFF := rfl
  rw [hnumber]
  decide +kernel

/-- Refutes O45: nothing in State.Ok makes a stream's frame say that it is that stream's. In strayState the clause on a Frame Start has stream 1's late
frames counted once, for its own frame, where the frame that stream 0 gives up is counted there too. -/
theorem not_cameraAndRangePacketsBuildFrames : ¬ Obligations.CameraAndRangePacketsBuildFrames := by
  unfold Obligations.CameraAndRangePacketsBuildFrames
  intro h
  obtain ⟨hstart, -⟩ := (h strayState strayState_ok).1 0 0 0 .clean false 50 _ (by decide +kernel) (by decide) rfl (by decide +kernel)
  obtain ⟨t, w, hexec, -, -, -, -, hstreams⟩ := hstart (by decide +kernel) (by decide +kernel) (by decide) (by decide)
  obtain ⟨-, hlate⟩ := hstreams 1 (by decide +kernel) (by decide +kernel) (by decide +kernel) _ (.inl ⟨.inl (by decide +kernel), rfl⟩)
  obtain ⟨-, -, hcount⟩ := hlate (by decide +kernel) (strayState_begun _)
  have htwice := strayState_countsTwice
  rw [hexec] at htwice
  have honce : (strayState.bump (kStrmCnt 1 4)).reg (kStrmCnt 1 4) = 1 := by decide +kernel
  exact absurd (htwice.symm.trans (hcount.trans honce)) (by decide)

end Sys2Proof.Machine

/-! HEDGEROW'S COMMAND. What the command of R82 turns on, and what a field evaluation shows (03_safety_concept.md). -/
namespace Sys2Proof.Machine

theorem OnlyRegs.refl (s : State) (ks : List Nat) : OnlyRegs s s ks := ⟨keepsRegs.refl s ks, fun _ => rfl, rfl⟩

theorem OnlyRegs.ite {r s t : State} {ks : List Nat} {c : Prop} [Decidable c] (hthen : OnlyRegs r s ks) (helse : OnlyRegs r t ks) :
    OnlyRegs r (if c then s else t) ks :=
  iteInduction (motive := fun x => OnlyRegs r x ks) (fun _ => hthen) (fun _ => helse)

/-- Nothing changes but the registers of the keys listed and what the vehicle interfaces hold. -/
structure StopOnly (s t : State) (ks : List Nat) : Prop where
  regs : keepsRegs s t ks
  rest : t = { s with regs := t.regs, veh := t.veh }

section
variable {r s t : State} {ks : List Nat}

theorem StopOnly.refl (s : State) (ks : List Nat) : StopOnly s s ks := ⟨keepsRegs.refl s ks, rfl⟩

theorem StopOnly.trans (h : StopOnly r s ks) (g : StopOnly s t ks) : StopOnly r t ks where
  regs := h.regs.trans g.regs
  rest := by rw [g.rest, h.rest]

theorem StopOnly.mono {ls : List Nat} (h : StopOnly s t ks) (hsub : ∀ k ∈ ks, k ∈ ls) : StopOnly s t ls := ⟨h.regs.mono hsub, h.rest⟩

theorem StopOnly.ram (h : StopOnly s t ks) : keepsRam s t := by
  intro a; rw [h.rest]; rfl

theorem StopOnly.reeve (h : StopOnly s t ks) : t.reeve = s.reeve := by rw [h.rest]

theorem StopOnly.hdg (h : StopOnly s t ks) : t.hdg = s.hdg := by rw [h.rest]

theorem StopOnly.ite {c : Prop} [Decidable c] (hthen : StopOnly r s ks) (helse : StopOnly r t ks) : StopOnly r (if c then s else t) ks :=
  iteInduction (motive := fun x => StopOnly r x ks) (fun _ => hthen) (fun _ => helse)

theorem OnlyRegs.stopOnly (h : OnlyRegs s t ks) : StopOnly s t ks where
  regs := h.regs
  rest := by rw [h.rest]

theorem State.setVeh_stopOnly (s : State) (v : Vehicle) (ks : List Nat) : StopOnly s (s.setVeh v) ks := ⟨fun _ _ => rfl, rfl⟩

theorem State.hdgFill_stopOnly (s : State) (cmd : Nat) (ks : List Nat) : StopOnly s (s.hdgFill cmd) ks :=
  StopOnly.ite (s.setVeh_stopOnly _ ks) (s.setVeh_stopOnly _ ks)

end

/-- A field of the register of another field's key, apart from it, reads as before. -/
theorem State.get_put_other {s : State} (hs : State.Ok s) {f g : Fld} (n : Nat) (hf : f.ok = true) (ha : f.apart g = true) : (s.put f n).get g = s.get g :=
  State.get_put_apart s f g n hs.regsKeyed hf ha

theorem State.flag_put_other {s : State} (hs : State.Ok s) {f g : Fld} (n : Nat) (hf : f.ok = true) (ha : f.apart g = true) : (s.put f n).flag g = s.flag g :=
  congrArg (· != 0) (State.get_put_other hs n hf ha)

theorem State.Ok.put {s : State} (hs : State.Ok s) (f : Fld) (n : Nat) : State.Ok (s.put f n) := hs.of_evolves (ev_put (Evolves.refl s))

-- THE COMMAND

theorem State.commandOf_lt (s : State) : s.commandOf < 4 := by
  unfold State.commandOf
  split
  · decide
  · split <;> decide

/-- What Hedgerow's command makes of a state, computed anew (R82, R85): STOP turns its driver on. -/
structure CommandTaken (s t : State) : Prop where
  only : StopOnly s t [0x8000, kHdgLastStop, kHdgLastStop + 4]
  cmd : t.get fHdgCmd = s.commandOf
  stops : s.commandOf = cmdStop → t.flag fStopDrive = true
  kept : ∀ f : Fld, f.key = 0x8000 → fHdgCmd.apart f = true → fStopDrive.apart f = true → t.get f = s.get f
  drives : s.flag fStopDrive = true → t.flag fStopDrive = true

theorem CommandTaken.veh {s t : State} (h : CommandTaken s t) (veh : Vehicle) : CommandTaken s { t with veh } where
  only := h.only.trans (t.setVeh_stopOnly veh _)
  cmd := h.cmd
  stops := h.stops
  kept := h.kept
  drives := h.drives

/-- The command of R82 in force, with what a STOP turns on and records (R85). -/
def State.commanded (s : State) : State :=
  if s.commandOf = cmdStop then ((s.put fHdgCmd s.commandOf).on fStopDrive).setReg64 kHdgLastStop s.tb.ns else s.put fHdgCmd s.commandOf

theorem State.hdgUpdate_same {s : State} (halive : s.hdg.alive = true) (hsame : s.commandOf = s.get fHdgCmd) :
    s.hdgUpdate = if s.commandOf = cmdStop then s.on fStopDrive else s :=
  (if_neg (by simp [halive])).trans (if_pos hsame)

theorem State.hdgUpdate_changed {s : State} (halive : s.hdg.alive = true) (hnew : s.commandOf ≠ s.get fHdgCmd) :
    ∃ veh, s.hdgUpdate = { s.commanded with veh } := by
  have hupdate : s.hdgUpdate = if (s.commanded.setVeh { s.commanded.veh with fillDue := true }).hdgOwnFill s.commandOf
      then (s.commanded.setVeh { s.commanded.veh with fillDue := true }).hdgFill s.commandOf
      else s.commanded.setVeh { s.commanded.veh with fillDue := true } := (if_neg (by simp [halive])).trans (if_neg hnew)
  rw [hupdate]
  split
  · exact State.hdgFill_eq _ _
  · exact ⟨_, rfl⟩

theorem State.commanded_taken {s : State} (hs : State.Ok s) : CommandTaken s s.commanded := by
  have hput : (s.put fHdgCmd s.commandOf).get fHdgCmd = s.commandOf :=
    (State.get_put_same s fHdgCmd _ hs.regsKeyed rfl).trans (Nat.mod_eq_of_lt s.commandOf_lt)
  have honly := (s.put_onlyRegs fHdgCmd s.commandOf).mono (ls := [0x8000, kHdgLastStop, kHdgLastStop + 4]) (by simp [fHdgCmd])
  unfold State.commanded
  split
  · next hstop =>
    have hu := hs.put fHdgCmd s.commandOf
    have hstore := State.setReg64_onlyRegs ((s.put fHdgCmd s.commandOf).on fStopDrive) kHdgLastStop s.tb.ns
    have hdrive : ((s.put fHdgCmd s.commandOf).on fStopDrive).flag fStopDrive = true := State.flag_on_same hu rfl rfl
    refine ⟨((honly.trans ((State.put_onlyRegs _ fStopDrive 1).mono (by simp [fStopDrive]))).trans (hstore.mono (by simp))).stopOnly, ?_,
      fun _ => (hstore.regs.flag (by decide)).trans hdrive, fun f hkey hcmd hdrv => ?_, fun _ => (hstore.regs.flag (by decide)).trans hdrive⟩
    · exact (hstore.regs.get (by decide)).trans ((State.get_put_other hu 1 rfl rfl).trans hput)
    · exact (hstore.regs.get (by rw [hkey]; decide)).trans ((State.get_put_other hu 1 rfl hdrv).trans (State.get_put_other hs _ rfl hcmd))
  · next hgo =>
    exact ⟨honly.stopOnly, hput, fun h => absurd h hgo, fun f _ hcmd _ => State.get_put_other hs _ rfl hcmd,
      fun h => (State.flag_put_other hs _ rfl rfl).trans h⟩

theorem State.hdgUpdate_taken {s : State} (hs : State.Ok s) (halive : s.hdg.alive = true) : CommandTaken s s.hdgUpdate := by
  by_cases hsame : s.commandOf = s.get fHdgCmd
  · rw [State.hdgUpdate_same halive hsame]
    split
    · have hdrive : (s.on fStopDrive).flag fStopDrive = true := State.flag_on_same hs rfl rfl
      exact ⟨((s.put_onlyRegs fStopDrive 1).mono (by simp [fStopDrive])).stopOnly, (State.get_put_other hs 1 rfl rfl).trans hsame.symm, fun _ => hdrive,
        fun f _ _ hdrv => State.get_put_other hs 1 rfl hdrv, fun _ => hdrive⟩
    · next hgo => exact ⟨StopOnly.refl s _, hsame.symm, fun h => absurd h hgo, fun _ _ _ _ => rfl, id⟩
  · obtain ⟨veh, hveh⟩ := State.hdgUpdate_changed halive hsame
    rw [hveh]
    exact (State.commanded_taken hs).veh veh

-- A FIELD EVALUATION

/-- The stages of a field evaluation, given whether the fields are intruded and the protective one newly so: the counts and the reaction time (R110). -/
def State.pfCounted (s : State) (pf : Bool) : State := if pf && !s.flag fPfIntruded then s.bump kHdgIntrude else s

def State.reactNoted (s : State) (fresh : Bool) (us : Nat) : State := if fresh then s.put fReactMax (max (s.get fReactMax) (min us 65535)) else s

def State.wfCounted (s : State) (wf : Bool) : State := if wf && !s.flag fWfIntruded then s.bump kHdgWarn else s

/-- Hedgerow has seen its inputs, and HDG_STATUS shows both fields (R109). -/
def State.fieldsShown (s : State) (pf wf : Bool) : State :=
  ((s.setHdg { s.hdg with seen := s.hdg.inputs }).put fPfIntruded (b2n pf)).put fWfIntruded (b2n wf)

theorem fieldEvaluation_answers {s : State} {h : Hcb} (us : Nat) (hhcb : s.hdg.hcb = some h) (halive : s.hdg.alive = true) :
    ∃ fresh veh, exec (.fieldEvaluation us) s = .next { ((((s.pfCounted (fieldIntruded h s.hdg.inputs h.pf)).reactNoted fresh us).wfCounted
      (fieldIntruded h s.hdg.inputs h.wf)).fieldsShown (fieldIntruded h s.hdg.inputs h.pf) (fieldIntruded h s.hdg.inputs h.wf)).hdgUpdate with veh } := by
  change ∃ fresh veh, execFieldEvaluation us s = _
  unfold execFieldEvaluation
  rw [hhcb]
  dsimp only
  rw [if_neg (by simp [halive])]
  generalize newlyIntruded h s.hdg.seen s.hdg.inputs h.pf = fresh
  generalize fieldIntruded h s.hdg.inputs h.pf = pf
  generalize fieldIntruded h s.hdg.inputs h.wf = wf
  refine ⟨fresh, ?_⟩
  split
  · obtain ⟨veh, hveh⟩ := State.hdgFill_eq ((((s.pfCounted pf).reactNoted fresh us).wfCounted wf).fieldsShown pf wf).hdgUpdate cmdStop
    exact ⟨veh, congrArg _ hveh⟩
  · exact ⟨_, rfl⟩

theorem State.pfCounted_only (s : State) (pf : Bool) : OnlyRegs s (s.pfCounted pf) [kHdgIntrude] := OnlyRegs.ite (s.bump_onlyRegs _) (OnlyRegs.refl s _)

theorem State.reactNoted_only (s : State) (fresh : Bool) (us : Nat) : OnlyRegs s (s.reactNoted fresh us) [0x8024] :=
  OnlyRegs.ite (s.put_onlyRegs fReactMax _) (OnlyRegs.refl s _)

theorem State.wfCounted_only (s : State) (wf : Bool) : OnlyRegs s (s.wfCounted wf) [kHdgWarn] := OnlyRegs.ite (s.bump_onlyRegs _) (OnlyRegs.refl s _)

theorem State.fieldCounts_only (s : State) (pf fresh wf : Bool) (us : Nat) :
    OnlyRegs s (((s.pfCounted pf).reactNoted fresh us).wfCounted wf) [kHdgIntrude, 0x8024, kHdgWarn] :=
  (((s.pfCounted_only pf).mono (by simp)).trans ((State.reactNoted_only _ fresh us).mono (by simp))).trans ((State.wfCounted_only _ wf).mono (by simp))

theorem State.Ok.fieldCounts {s : State} (hs : State.Ok s) (pf fresh wf : Bool) (us : Nat) : State.Ok (((s.pfCounted pf).reactNoted fresh us).wfCounted wf) :=
  have hpf := ev_ite (ev_bump (Evolves.refl s)) (Evolves.refl s)
  have hreact := ev_ite (ev_put hpf) hpf
  hs.of_evolves (ev_ite (ev_bump hreact) hreact)

/-- HDG_STATUS shows the fields, and its other fields are as they were. -/
theorem State.fieldsShown_fields {s : State} (hs : State.Ok s) (pf wf : Bool) : (s.fieldsShown pf wf).get fPfIntruded = b2n pf ∧
    (s.fieldsShown pf wf).get fWfIntruded = b2n wf ∧ keepsRegs s (s.fieldsShown pf wf) [0x8000] ∧
    ∀ f : Fld, fPfIntruded.apart f = true → fWfIntruded.apart f = true → (s.fieldsShown pf wf).get f = s.get f := by
  have hseen : State.Ok (s.setHdg { s.hdg with seen := s.hdg.inputs }) := hs.of_evolves (ev_setHdg (Evolves.refl s))
  have hpf := hseen.put fPfIntruded (b2n pf)
  have hbit (b : Bool) : b2n b % 2 ^ 1 = b2n b := Nat.mod_eq_of_lt (b2n_lt_two b)
  refine ⟨?_, ?_, ?_, fun f hfpf hfwf => ?_⟩
  · exact (State.get_put_other hpf (b2n wf) rfl rfl).trans ((State.get_put_same _ fPfIntruded _ hseen.regsKeyed rfl).trans (hbit pf))
  · exact (State.get_put_same _ fWfIntruded _ hpf.regsKeyed rfl).trans (hbit wf)
  · exact (keepsRegs_put (s.setHdg _) fPfIntruded _).trans (keepsRegs_put _ fWfIntruded _)
  · exact (State.get_put_other hpf _ rfl hfwf).trans (State.get_put_other hseen _ rfl hfpf)

theorem State.commandOf_shown {s : State} {pf wf : Bool} (hpf : s.get fPfIntruded = b2n pf) (hwf : s.get fWfIntruded = b2n wf) : s.commandOf =
    if s.get fHdgMode = 2 ∨ pf = true ∨ (s.get fHdgMode = 1 ∧ s.flag fFbTimeout = true) then cmdStop
    else if wf = true ∨ s.get fHdgMode = 1 then cmdCreep else cmdClear := by
  have hflag (b : Bool) : (b2n b != 0) = b := by cases b <;> rfl
  have hp : s.flag fPfIntruded = pf := (congrArg (· != 0) hpf).trans (hflag pf)
  have hw : s.flag fWfIntruded = wf := (congrArg (· != 0) hwf).trans (hflag wf)
  rw [State.commandOf, hp, hw]

/-- Settles O15: what the evaluation shows and counts comes first, then the command of R82 (`State.hdgUpdate_taken`). -/
theorem hedgerowCommandFollowsModeAndFields : Obligations.HedgerowCommandFollowsModeAndFields := by
  unfold Obligations.HedgerowCommandFollowsModeAndFields
  intro s us h hs hhcb halive
  obtain ⟨fresh, veh, hexec⟩ := fieldEvaluation_answers us hhcb halive
  generalize fieldIntruded h s.hdg.inputs h.pf = pf at hexec ⊢
  generalize fieldIntruded h s.hdg.inputs h.wf = wf at hexec ⊢
  have hcounts := s.fieldCounts_only pf fresh wf us
  have hcok := hs.fieldCounts pf fresh wf us
  have hintrude : pf = true → s.flag fPfIntruded = false → (((s.pfCounted pf).reactNoted fresh us).wfCounted wf).reg kHdgIntrude = (s.bump kHdgIntrude).reg kHdgIntrude := by
    intro hp hf
    have hpf : s.pfCounted pf = s.bump kHdgIntrude := if_pos (by simp [hp, hf])
    exact ((State.wfCounted_only _ wf).regs _ (by decide)).trans (((State.reactNoted_only _ fresh us).regs _ (by decide)).trans (by rw [hpf]))
  generalize ((s.pfCounted pf).reactNoted fresh us).wfCounted wf = c at hexec hcounts hcok hintrude
  obtain ⟨hpf, hwf, hshown, hother⟩ := State.fieldsShown_fields hcok pf wf
  have hfields (f : Fld) (hkey : f.key = 0x8000) (hfpf : fPfIntruded.apart f = true) (hfwf : fWfIntruded.apart f = true) : (c.fieldsShown pf wf).get f = s.get f :=
    (hother f hfpf hfwf).trans (hcounts.regs.get (by rw [hkey]; decide))
  have hhdg : c.hdg = s.hdg := by rw [hcounts.rest]
  have hrest : c.fieldsShown pf wf = { s with regs := (c.fieldsShown pf wf).regs, hdg := { s.hdg with seen := s.hdg.inputs } } := by
    unfold State.fieldsShown; rw [hhdg, hcounts.rest]; rfl
  have hsok : State.Ok (c.fieldsShown pf wf) := hcok.of_evolves (ev_put (ev_put (ev_setHdg (Evolves.refl c))))
  have hcmd := (State.hdgUpdate_taken hsok (by rw [hrest]; exact halive)).veh veh
  have hcommand := State.commandOf_shown hpf hwf
  generalize c.fieldsShown pf wf = u at *
  generalize ({ u.hdgUpdate with veh } : State) = t at *
  rw [hfields fHdgMode rfl rfl rfl, State.flag, hfields fFbTimeout rfl rfl rfl] at hcommand
  refine ⟨t, hexec, (hcmd.kept fPfIntruded rfl rfl rfl).trans hpf, (hcmd.kept fWfIntruded rfl rfl rfl).trans hwf, hcmd.cmd.trans hcommand,
    fun hstop => hcmd.stops (hcmd.cmd ▸ hstop), fun hdrv => hcmd.drives ?_, fun hp hf => ?_, ?_, ?_, fun a => ?_, ?_⟩
  · exact (congrArg (· != 0) (hfields fStopDrive rfl rfl rfl)).trans hdrv
  · exact (hcmd.only.regs _ (by decide)).trans ((hshown _ (by decide)).trans (hintrude hp hf))
  · exact (hcmd.kept fHdgMode rfl rfl rfl).trans (hfields fHdgMode rfl rfl rfl)
  · exact ((hcounts.regs.mono (by simp)).trans (hshown.mono (by simp))).trans (hcmd.only.regs.mono (by simp))
  · rw [hcmd.only.rest, hrest]; rfl
  · rw [hcmd.only.rest, hrest]

end Sys2Proof.Machine

/-! HEDGEROW'S INPUTS AND TIMERS. What a packet, a timeout, the release and the HCB do to Hedgerow (03_safety_concept.md; R85, R94, R107 to R115). -/
namespace Sys2Proof.Machine

-- THE RELEASE

theorem hedgerowReleaseExpiry_releases {s : State} {h : Hcb} {ms : Nat} (hhcb : s.hdg.hcb = some h) (halive : s.hdg.alive = true) (hms : h.releaseMs ≤ ms)
    (hcmd : s.get fHdgCmd ≠ cmdStop) (hmode : s.get fHdgMode ≠ 2) : exec (.hedgerowReleaseExpiry ms) s = .next (s.off fStopDrive) := by
  change execHedgerowReleaseExpiry ms s = _
  unfold execHedgerowReleaseExpiry
  rw [hhcb]
  exact if_pos (by simp [halive, hms, hcmd, hmode])

/-- The release expiry turns the driver off under all of R85's conditions, or changes nothing. -/
theorem hedgerowReleaseExpiry_cases (s : State) (ms : Nat) : exec (.hedgerowReleaseExpiry ms) s = .next s ∨
    (exec (.hedgerowReleaseExpiry ms) s = .next (s.off fStopDrive) ∧ s.get fHdgCmd ≠ cmdStop ∧ s.get fHdgMode ≠ 2 ∧ ∃ h, s.hdg.hcb = some h ∧ h.releaseMs ≤ ms) := by
  change execHedgerowReleaseExpiry ms s = _ ∨ (execHedgerowReleaseExpiry ms s = _ ∧ _)
  unfold execHedgerowReleaseExpiry
  split
  · next h hhcb =>
    split
    · next hcond =>
      simp only [Bool.and_eq_true, decide_eq_true_eq, bne_iff_ne] at hcond
      obtain ⟨⟨⟨-, hms⟩, hcmd⟩, hmode⟩ := hcond
      exact .inr ⟨rfl, hcmd, hmode, h, hhcb, hms⟩
    · exact .inl rfl
  · exact .inl rfl

/-- Settles O17: the driver turns off in one case of `hedgerowReleaseExpiry_cases` only. -/
theorem hedgerowHoldsUntilItMayRelease : Obligations.HedgerowHoldsUntilItMayRelease := by
  unfold Obligations.HedgerowHoldsUntilItMayRelease
  intro s ms hs
  rcases hedgerowReleaseExpiry_cases s ms with hexec | ⟨hexec, hcmd, hmode, h, hhcb, hms⟩
  · exact ⟨s, hexec, fun _ => rfl, fun hon hoff => absurd (hon.symm.trans hoff) (by decide)⟩
  · refine ⟨_, hexec, fun hheld => ?_, fun _ _ => ⟨hcmd, hmode⟩⟩
    rcases hheld with hstop | hmode2 | hshort
    · exact absurd hstop hcmd
    · exact absurd hmode2 hmode
    · exact absurd (hshort h hhcb) (by omega)

-- AN INPUT

/-- A field that begins beyond its register's bits holds nothing. -/
theorem Fld.into_beyond {f : Fld} (hw : f.w = 1) (hlo : 32 ≤ f.lo) (v : Word) (n : Nat) : f.into v n = v := by
  refine BitVec.eq_of_getLsbD_eq fun i hi => ?_
  have hmask : f.mask.getLsbD i = false := by
    rw [Fld.mask, hw, BitVec.getLsbD_ofNat, Nat.testBit_mul_two_pow]
    simp; omega
  rw [Fld.into, BitVec.getLsbD_or, BitVec.getLsbD_and, BitVec.getLsbD_not, hmask, BitVec.getLsbD_shiftLeft]
  simp [hi]
  omega

/-- No cell of input i is covered, and none will be until a clean sweep (R107, R108). -/
structure InputUnknown (s : State) (i : Nat) : Prop where
  covered : (s.hdgInput i).covered = false
  counts : (s.hdgInput i).counts = []
  dirty : (s.hdgInput i).dirty = true
  shown : s.flag (fInputOk i) = false

@[simp] theorem State.hdgInput_setHdgInput_same (s : State) (i : Nat) (x : HdgInput) : (s.setHdgInput i x).hdgInput i = x :=
  Tbl.getD_put_same _ _ _ _

theorem State.hdgInput_setHdgInput_ne (s : State) {i j : Nat} (h : i ≠ j) (x : HdgInput) : (s.setHdgInput j x).hdgInput i = s.hdgInput i :=
  Tbl.getD_put_ne h _ _ _

theorem fInputOk_ok {i : Nat} (hi : i < 12) : (fInputOk i).ok = true := by
  simp [Fld.ok, fInputOk]; omega

theorem State.setHdgInput_flag_same {s : State} (hs : State.Ok s) {i : Nat} (hi : i < 12) (x : HdgInput) :
    (s.setHdgInput i x).flag (fInputOk i) = x.covered := by
  have hput := State.get_put_same (s.setHdg { s.hdg with inputs := Tbl.put s.hdg.inputs i x }) (fInputOk i) (b2n x.covered) hs.regsKeyed (fInputOk_ok hi)
  have hbit : b2n x.covered % 2 ^ 1 = b2n x.covered := Nat.mod_eq_of_lt (b2n_lt_two _)
  refine (congrArg (· != 0) (hput.trans hbit)).trans ?_
  cases x.covered <;> rfl

theorem State.setHdgInput_flag_ne {s : State} (hs : State.Ok s) {i j : Nat} (hij : i ≠ j) (x : HdgInput) :
    (s.setHdgInput j x).flag (fInputOk i) = s.flag (fInputOk i) := by
  have hok : State.Ok (s.setHdg { s.hdg with inputs := Tbl.put s.hdg.inputs j x }) := hs.of_evolves (ev_setHdg (Evolves.refl s))
  rcases Nat.lt_or_ge j 12 with hj | hj
  · exact State.flag_put_other hok _ (fInputOk_ok hj) (by simp [Fld.apart, fInputOk]; omega)
  · have hsame : (s.setHdgInput j x).reg 0x8000 = s.reg 0x8000 := by
      refine (State.reg_setReg_same (s.setHdg _) 0x8000 _ hs.regsKeyed).trans ?_
      exact Fld.into_beyond (f := fInputOk j) rfl (by simp [fInputOk]; omega) _ _
    exact congrArg (fun w => (fInputOk i).ofWord w != 0) hsame

/-- Nothing changes but the registers of the keys listed and what Hedgerow holds. -/
structure HdgOnly (s t : State) (ks : List Nat) : Prop where
  regs : keepsRegs s t ks
  rest : t = { s with regs := t.regs, hdg := t.hdg }

theorem HdgOnly.trans {r s t : State} {ks : List Nat} (h : HdgOnly r s ks) (g : HdgOnly s t ks) : HdgOnly r t ks where
  regs := h.regs.trans g.regs
  rest := by rw [g.rest, h.rest]

theorem HdgOnly.mono {s t : State} {ks ls : List Nat} (h : HdgOnly s t ks) (hsub : ∀ k ∈ ks, k ∈ ls) : HdgOnly s t ls := ⟨h.regs.mono hsub, h.rest⟩

theorem HdgOnly.ram {s t : State} {ks : List Nat} (h : HdgOnly s t ks) : keepsRam s t := by
  intro a; rw [h.rest]; rfl

theorem OnlyRegs.hdgOnly {s t : State} {ks : List Nat} (h : OnlyRegs s t ks) : HdgOnly s t ks where
  regs := h.regs
  rest := by rw [h.rest]

theorem State.setHdgInput_only (s : State) (i : Nat) (x : HdgInput) : HdgOnly s (s.setHdgInput i x) [0x8000] :=
  ⟨keepsRegs_put (s.setHdg _) (fInputOk i) _, rfl⟩

/-- A loss counted after an input is set (R107, R108). -/
theorem State.inputLoss_counted {s : State} (hs : State.Ok s) (i : Nat) (x : HdgInput) :
    HdgOnly s ((s.setHdgInput i x).bump kHdgInputLoss) [0x8000, kHdgInputLoss] ∧
      ((s.setHdgInput i x).bump kHdgInputLoss).reg kHdgInputLoss = (s.bump kHdgInputLoss).reg kHdgInputLoss := by
  have hset := s.setHdgInput_only i x
  have hok : State.Ok (s.setHdgInput i x) := hs.of_evolves (ev_setHdgInput (Evolves.refl s))
  exact ⟨(hset.mono (by simp)).trans (((s.setHdgInput i x).bump_onlyRegs kHdgInputLoss).hdgOnly.mono (by simp)),
    State.bump_reg_congr hs hok (hset.regs _ (by decide))⟩

@[simp] theorem State.hdgInput_bump (s : State) (k i : Nat) : (s.bump k).hdgInput i = s.hdgInput i := rfl

theorem State.hdgDamaged_flag (s : State) (i j : Nat) :
    (s.hdgDamaged j).flag (fInputOk i) = (s.setHdgInput j (s.hdgInput j).damaged).flag (fInputOk i) :=
  (keepsRegs_bump (s.setHdgInput j (s.hdgInput j).damaged) kHdgInputLoss).flag (by simp [fInputOk, kHdgInputLoss])

theorem State.hdgDamaged_unknown {s : State} (hs : State.Ok s) {i : Nat} (hi : i < 12) : InputUnknown (s.hdgDamaged i) i := by
  have hinput : (s.hdgDamaged i).hdgInput i = (s.hdgInput i).damaged := by simp [State.hdgDamaged]
  have hshown : (s.hdgDamaged i).flag (fInputOk i) = false := (s.hdgDamaged_flag i i).trans (State.setHdgInput_flag_same hs hi _)
  constructor
  · rw [hinput]; rfl
  · rw [hinput]; rfl
  · rw [hinput]; rfl
  · exact hshown

theorem InputUnknown.hdgDamaged {s : State} (hs : State.Ok s) {i j : Nat} (hi : i < 12) (h : InputUnknown s i) : InputUnknown (s.hdgDamaged j) i := by
  by_cases hij : i = j
  · subst hij; exact State.hdgDamaged_unknown hs hi
  · have hinput : (s.hdgDamaged j).hdgInput i = s.hdgInput i := by simp [State.hdgDamaged, s.hdgInput_setHdgInput_ne hij]
    have hshown : (s.hdgDamaged j).flag (fInputOk i) = false := (s.hdgDamaged_flag i j).trans ((State.setHdgInput_flag_ne hs hij _).trans h.shown)
    constructor
    · rw [hinput]; exact h.covered
    · rw [hinput]; exact h.counts
    · rw [hinput]; exact h.dirty
    · exact hshown

/-- Each input of a list that has lost a packet is unknown. -/
theorem foldl_hdgDamaged_unknown {i : Nat} (hi : i < 12) : ∀ {l : List Nat} {s : State}, State.Ok s → (i ∈ l ∨ InputUnknown s i) →
    InputUnknown (l.foldl State.hdgDamaged s) i
  | [], _, _, h => h.resolve_left List.not_mem_nil
  | j :: l, s, hs, h => by
    refine foldl_hdgDamaged_unknown (l := l) hi (hs.of_evolves (ev_hdgDamaged (Evolves.refl s))) ?_
    rcases h with hin | hunknown
    · rcases List.mem_cons.mp hin with rfl | hin
      · exact .inr (State.hdgDamaged_unknown hs hi)
      · exact .inl hin
    · exact .inr (hunknown.hdgDamaged hs hi)

-- A PACKET

section
variable {s : State} {h : Hcb} {binds : List HdgBinding} {mac : Fin 4} {pkt : UdpPacket}

theorem hedgerowPacket_taken (hhcb : s.hdg.hcb = some h) (halive : s.hdg.alive = true) : exec (.hedgerowPacket binds mac pkt false) s =
    .next ((hdgInputsOf h.streams.length binds mac pkt).foldl (fun s i => s.hdgPacket h i pkt) s) := by
  change execHedgerowPacket binds mac pkt false s = _
  unfold execHedgerowPacket
  rw [hhcb]
  exact (if_neg (by simp [halive])).trans (if_neg (by simp))

theorem hedgerowPacket_dropped (hhcb : s.hdg.hcb = some h) (halive : s.hdg.alive = true) : exec (.hedgerowPacket binds mac pkt true) s =
    .next ((hdgInputsOf h.streams.length binds mac pkt).foldl State.hdgDamaged (s.bump kHdgOverrun)) := by
  change execHedgerowPacket binds mac pkt true s = _
  unfold execHedgerowPacket
  rw [hhcb]
  exact (if_neg (by simp [halive])).trans (if_pos rfl)

theorem State.hdgPacket_accepted {i : Nat} {st : HcbStream} {r : ParserRun} (hst : h.streams[i]? = some st) (hsound : udpSound pkt = true)
    (hrun : parserRunAll (fun j => st.prog[j]?) (fun j => st.prog[j]?) s.free 65536 (ParserRun.start (s.hdgInput i).g (s.hdgInput i).expected 0 pkt.payload) = .accept r) :
    s.hdgPacket h i pkt = (s.setHdgInput i (r.effects.foldl (HdgInput.effect h st) { s.hdgInput i with g := r.g, expected := r.expected })).drawn := by
  unfold State.hdgPacket
  rw [hst]
  dsimp only
  rw [if_neg (by simp [hsound]), hrun]

theorem State.hdgPacket_unsound (t : State) {i : Nat} (hi : i < h.streams.length) (hsound : udpSound pkt = false) : t.hdgPacket h i pkt = t.hdgDamaged i := by
  unfold State.hdgPacket
  rw [List.getElem?_eq_getElem hi]
  exact if_pos (by simp [hsound])

theorem mem_hdgInputsOf {n i : Nat} : i ∈ hdgInputsOf n binds mac pkt ↔ i < n ∧ ∃ b, binds[i]? = some b ∧ bindingTakes b mac pkt = true := by
  simp only [hdgInputsOf, List.mem_filter, List.mem_range]
  refine and_congr_right fun _ => ?_
  cases binds[i]? <;> simp

/-- A packet that is not sound damages every input that it belongs to (R108). -/
theorem foldl_hdgPacket_unsound (hsound : udpSound pkt = false) : ∀ {l : List Nat} (s : State), (∀ i ∈ l, i < h.streams.length) →
    l.foldl (fun s i => s.hdgPacket h i pkt) s = l.foldl State.hdgDamaged s
  | [], _, _ => rfl
  | i :: l, s, hl => by
    rw [List.foldl_cons, List.foldl_cons, State.hdgPacket_unsound s (hl i List.mem_cons_self) hsound]
    exact foldl_hdgPacket_unsound hsound _ fun j hj => hl j (List.mem_cons_of_mem i hj)

theorem hedgerowPacket_unsound (hhcb : s.hdg.hcb = some h) (halive : s.hdg.alive = true) (hsound : udpSound pkt = false) :
    exec (.hedgerowPacket binds mac pkt false) s = .next ((hdgInputsOf h.streams.length binds mac pkt).foldl State.hdgDamaged s) :=
  (hedgerowPacket_taken hhcb halive).trans (congrArg _ (foldl_hdgPacket_unsound hsound s fun _ hi => (mem_hdgInputsOf.mp hi).1))

end

-- A TIMEOUT AND THE RECOVERY'S LIMIT

theorem hedgerowInputTimeout_expires {s : State} {h : Hcb} {i : Fin 4} {st : HcbStream} {ms : Nat} (hhcb : s.hdg.hcb = some h) (halive : s.hdg.alive = true)
    (hst : h.streams[i.val]? = some st) (hms : st.timeoutMs ≤ ms) (hcov : (s.hdgInput i.val).covered = true) :
    exec (.hedgerowInputTimeout i ms) s = .next ((s.setHdgInput i.val { s.hdgInput i.val with covered := false }).bump kHdgInputLoss) := by
  change execHedgerowInputTimeout i ms s = _
  unfold execHedgerowInputTimeout
  rw [hhcb]
  dsimp only
  rw [hst]
  exact if_pos (by simp [halive, hms, hcov])

theorem fallbackMaxExpiry_expires {s : State} {h : Hcb} {ms : Nat} (hhcb : s.hdg.hcb = some h) (halive : s.hdg.alive = true) (hmode : s.get fHdgMode = 1)
    (hms : h.fallbackMax < ms) : exec (.fallbackMaxExpiry ms) s = .next (s.on fFbTimeout).hdgUpdate := by
  change execFallbackMaxExpiry ms s = _
  unfold execFallbackMaxExpiry
  rw [hhcb]
  exact if_pos (by simp [halive, hmode, hms])

-- HELD

theorem State.hdgSetMode_held {s : State} (halive : s.hdg.alive = true) : s.hdgSetMode 2 = (s.put fHdgMode 2).hdgUpdate :=
  (if_neg (by simp [halive])).trans (by simp)

theorem State.heldCause_only (s : State) (code : Nat) : OnlyRegs s (s.heldCause code) [0x8030] := OnlyRegs.ite (s.put_onlyRegs fHdgHeldCause code) (OnlyRegs.refl s _)

theorem State.heldCause_first {s : State} (hs : State.Ok s) {code : Nat} (hcode : code < 0x10000) :
    (s.heldCause code).get fHdgHeldCause = if s.get fHdgHeldCause = 0 then code else s.get fHdgHeldCause := by
  unfold State.heldCause
  split
  · exact (State.get_put_same s fHdgHeldCause code hs.regsKeyed rfl).trans (Nat.mod_eq_of_lt hcode)
  · rfl

/-- Hedgerow is in HELD for a cause: STOP, its driver on (R80, R82, R85, R128). -/
structure HdgHeldTaken (s t : State) (code : Nat) : Prop where
  only : StopOnly s t [0x8000, 0x8030, kHdgLastStop, kHdgLastStop + 4]
  mode : t.get fHdgMode = 2
  cmd : t.get fHdgCmd = cmdStop
  drive : t.flag fStopDrive = true
  cause : t.get fHdgHeldCause = if s.get fHdgHeldCause = 0 then code else s.get fHdgHeldCause
  kept : ∀ f : Fld, f.key = 0x8000 → fHdgMode.apart f = true → fHdgCmd.apart f = true → fStopDrive.apart f = true → t.get f = s.get f

theorem State.hdgHeld_taken {s : State} (hs : State.Ok s) (halive : s.hdg.alive = true) {code : Nat} (hcode : code < 0x10000) :
    HdgHeldTaken s (s.hdgHeld code) code := by
  have hcause := s.heldCause_only code
  have hok : State.Ok (s.heldCause code) := hs.of_evolves (ev_heldCause (Evolves.refl s))
  have halive' : (s.heldCause code).hdg.alive = true := by rw [hcause.rest]; exact halive
  have hfirst := State.heldCause_first hs hcode
  rw [State.hdgHeld, State.hdgSetMode_held halive']
  generalize s.heldCause code = u at *
  have hmode : (u.put fHdgMode 2).get fHdgMode = 2 := State.get_put_same u fHdgMode 2 hok.regsKeyed rfl
  have hstop : (u.put fHdgMode 2).commandOf = cmdStop := if_pos (.inl hmode)
  have hcmd := State.hdgUpdate_taken (hok.put fHdgMode 2) halive'
  have hput := u.put_onlyRegs fHdgMode 2
  refine ⟨((hcause.stopOnly.mono (by simp)).trans (hput.stopOnly.mono (by simp [fHdgMode]))).trans (hcmd.only.mono (by simp)), ?_, hcmd.cmd.trans hstop,
    hcmd.stops hstop, ?_, fun f hkey hm hc hd => ?_⟩
  · exact (hcmd.kept fHdgMode rfl rfl rfl).trans hmode
  · exact (hcmd.only.regs.get (by decide)).trans ((hput.regs.get (by decide)).trans hfirst)
  · exact (hcmd.kept f hkey hc hd).trans ((State.get_put_other hok 2 rfl hm).trans (hcause.regs.get (by rw [hkey]; decide)))

/-- A dead Hedgerow takes no mode. -/
theorem State.hdgSetMode_dead {s : State} (hdead : s.hdg.alive = false) (m : Nat) : s.hdgSetMode m = s := if_pos (by simp [hdead])

-- THE HCB

/-- A valid HCB is in force, and HDG_STATUS and the registers of the block show it (R114). -/
def State.hcbTaken (s : State) (h : Hcb) : State :=
  ((((s.setHdg { s.hdg with read := true, hcb := some h, inputs := [] }).on fHcbValid).setReg 0x8004 (BitVec.ofNat 32 (h.version * 65536 + h.length))).setReg 0x8008
    (BitVec.ofNat 32 h.crc)).setReg 0x800C (BitVec.ofNat 32 (hdgStreamsWord h.streams))

section
variable {s : State} (hread : s.hdg.read = false) (hbegun : s.boot.begun = true)
include hread hbegun

theorem hedgerowHcbLoad_valid {h : Hcb} (hvalid : hcbOf (s.boot.flash.image s.boot.flash.bank 4) = some h) : exec .hedgerowHcbLoad s = .next (s.hcbTaken h) := by
  change execHedgerowHcbLoad s = _
  unfold execHedgerowHcbLoad
  rw [if_neg (by simp [hread, hbegun])]
  dsimp only [State.setHdg]
  rw [hvalid]
  rfl

theorem hedgerowHcbLoad_invalid (hbad : hcbOf (s.boot.flash.image s.boot.flash.bank 4) = none) :
    exec .hedgerowHcbLoad s = .next (((s.setHdg { s.hdg with read := true }).hdgHeld 0xA305).heldFault 0xA305 (srcOf 8 0 0)) := by
  change execHedgerowHcbLoad s = _
  unfold execHedgerowHcbLoad
  rw [if_neg (by simp [hread, hbegun])]
  dsimp only [State.setHdg]
  rw [hbad]

end

theorem State.hcbTaken_shows {s : State} (hs : State.Ok s) (h : Hcb) : (s.hcbTaken h).flag fHcbValid = true ∧
    (s.hcbTaken h).reg 0x8004 = BitVec.ofNat 32 (h.version * 65536 + h.length) ∧ (s.hcbTaken h).reg 0x8008 = BitVec.ofNat 32 h.crc ∧
      keepsRegs s (s.hcbTaken h) [0x8000, 0x8004, 0x8008, 0x800C] := by
  unfold State.hcbTaken
  have hset : State.Ok (s.setHdg { s.hdg with read := true, hcb := some h, inputs := [] }) := hs.of_evolves (ev_setHdg (Evolves.refl s))
  have hkept : keepsRegs s ((s.setHdg { s.hdg with read := true, hcb := some h, inputs := [] }).on fHcbValid) [0x8000] := keepsRegs_put (s.setHdg _) fHcbValid 1
  have hon : ((s.setHdg { s.hdg with read := true, hcb := some h, inputs := [] }).on fHcbValid).flag fHcbValid = true := State.flag_on_same hset rfl rfl
  have hok := hset.put fHcbValid 1
  change State.Ok ((s.setHdg { s.hdg with read := true, hcb := some h, inputs := [] }).on fHcbValid) at hok
  generalize (s.setHdg { s.hdg with read := true, hcb := some h, inputs := [] }).on fHcbValid = u at *
  have h1 := keepsRegs_setReg u 0x8004 (BitVec.ofNat 32 (h.version * 65536 + h.length))
  have hv1 := u.reg_setReg_same 0x8004 (BitVec.ofNat 32 (h.version * 65536 + h.length)) hok.regsKeyed
  have hok1 : State.Ok (u.setReg 0x8004 (BitVec.ofNat 32 (h.version * 65536 + h.length))) := hok.of_evolves (ev_setReg (Evolves.refl u) _ _)
  generalize u.setReg 0x8004 (BitVec.ofNat 32 (h.version * 65536 + h.length)) = v at *
  have h2 := keepsRegs_setReg v 0x8008 (BitVec.ofNat 32 h.crc)
  have hv2 := v.reg_setReg_same 0x8008 (BitVec.ofNat 32 h.crc) hok1.regsKeyed
  have h3 := keepsRegs_setReg (v.setReg 0x8008 (BitVec.ofNat 32 h.crc)) 0x800C (BitVec.ofNat 32 (hdgStreamsWord h.streams))
  refine ⟨?_, ?_, ?_, ?_⟩
  · exact (h3.flag (by decide)).trans ((h2.flag (by decide)).trans ((h1.flag (by decide)).trans hon))
  · exact (h3 _ (by decide)).trans ((h2 _ (by decide)).trans hv1)
  · exact (h3 _ (by decide)).trans hv2
  · exact (((hkept.mono (by simp)).trans (h1.mono (by simp))).trans (h2.mono (by simp))).trans (h3.mono (by simp))

/-- Settles O16: each row has its lemma above; a lost packet goes through `State.hdgDamaged_unknown`, a command through `State.hdgUpdate_taken`. -/
theorem hedgerowInputsAndTimersAct : Obligations.HedgerowInputsAndTimersAct := by
  unfold Obligations.HedgerowInputsAndTimersAct
  intro s hs
  refine ⟨fun h hread hbegun hvalid => ?_, fun hread hbegun hbad => ?_, fun h st binds mac pkt r i hhcb halive hto hst hsound hrun => ?_,
    fun h binds mac pkt i b hhcb halive hudp hfrag htags hi hb hmac => ?_, fun h binds mac pkt hhcb halive hto => ?_, fun h mac pkt hhcb halive => ?_,
    fun h i st ms hhcb halive hst hms hcov => ?_, fun h ms hhcb halive hms hcmd hmode => ?_, fun h ms hhcb halive hmode hms => ?_⟩
  · obtain ⟨hon, hver, hcrc, hregs⟩ := State.hcbTaken_shows hs h
    exact ⟨_, hedgerowHcbLoad_valid hread hbegun hvalid, rfl, hon, hver, hcrc, hregs, fun _ => rfl, rfl⟩
  · have hok : State.Ok (s.setHdg { s.hdg with read := true }) := hs.of_evolves (ev_setHdg (Evolves.refl s))
    refine ⟨_, hedgerowHcbLoad_invalid hread hbegun hbad, ?_⟩
    rcases Bool.eq_false_or_eq_true s.hdg.alive with halive | hdead
    · have hheld := State.hdgHeld_taken hok halive (code := 0xA305) (by decide)
      exact ⟨fun _ => hheld.mode, fun hnone => hheld.cause.trans (if_pos hnone), by rw [State.heldFault, State.raise_reeve, hheld.only.reeve]; rfl⟩
    · have honly := (s.setHdg { s.hdg with read := true }).heldCause_only 0xA305
      have hkept : (s.setHdg { s.hdg with read := true }).hdgHeld 0xA305 = (s.setHdg { s.hdg with read := true }).heldCause 0xA305 :=
        State.hdgSetMode_dead (by rw [honly.rest]; exact hdead) 2
      rw [hkept]
      exact ⟨fun halive => absurd (hdead.symm.trans halive) (by decide), fun hnone => (State.heldCause_first hok (by decide)).trans (if_pos hnone),
        by rw [State.heldFault, State.raise_reeve, honly.rest]; rfl⟩
  · rw [hedgerowPacket_taken hhcb halive, hto]
    exact congrArg _ (State.hdgPacket_accepted hst hsound hrun)
  · have hbound : bindingTakes b mac pkt = true := by simp [bindingTakes, hmac, htags, hudp]
    have hunknown := foldl_hdgDamaged_unknown (i := i.val) (by omega) hs (.inl (mem_hdgInputsOf.mpr ⟨hi, b, hb, hbound⟩))
    exact ⟨_, hedgerowPacket_unsound hhcb halive (by simp [udpSound, hfrag]), hunknown.covered, hunknown.counts, hunknown.dirty, hunknown.shown⟩
  · have hok : State.Ok (s.bump kHdgOverrun) := hs.of_evolves (ev_bump (Evolves.refl s))
    have hunknown := State.hdgDamaged_unknown hok (i := 0) (by decide)
    have hover := s.bump_onlyRegs kHdgOverrun
    obtain ⟨honly, hloss⟩ : HdgOnly _ ((s.bump kHdgOverrun).hdgDamaged 0) _ ∧ ((s.bump kHdgOverrun).hdgDamaged 0).reg _ = _ := State.inputLoss_counted hok 0 _
    have hloss' := hloss.trans (State.bump_reg_congr hs hok (hover.regs kHdgInputLoss (by decide)))
    have hboth := (hover.hdgOnly.mono (by simp)).trans (honly.mono (ls := [0x8000, kHdgOverrun, kHdgInputLoss]) (by simp))
    refine ⟨(s.bump kHdgOverrun).hdgDamaged 0, ?_, hunknown.shown, hunknown.covered, hunknown.counts, hunknown.dirty, honly.regs _ (by decide), hloss',
      hboth.regs, hboth.ram, hboth.rest⟩
    rw [hedgerowPacket_dropped hhcb halive, hto]
    rfl
  · have hnone : hdgInputsOf h.streams.length [] mac pkt = [] := by simp [hdgInputsOf]
    rw [hedgerowPacket_taken hhcb halive, hnone]
    rfl
  · have hlost := s.hdgInput_setHdgInput_same i.val { s.hdgInput i.val with covered := false }
    have hshown := State.setHdgInput_flag_same hs (i := i.val) (by omega) { s.hdgInput i.val with covered := false }
    obtain ⟨honly, hloss⟩ := State.inputLoss_counted hs i.val { s.hdgInput i.val with covered := false }
    have hkept := keepsRegs_bump (s.setHdgInput i.val { s.hdgInput i.val with covered := false }) kHdgInputLoss
    exact ⟨_, hedgerowInputTimeout_expires hhcb halive hst hms hcov, congrArg HdgInput.covered hlost, (hkept.flag (by simp [fInputOk, kHdgInputLoss])).trans hshown,
      hloss, honly.regs, honly.ram, honly.rest⟩
  · exact ⟨_, hedgerowReleaseExpiry_releases hhcb halive hms hcmd hmode, State.flag_off_same hs rfl, State.get_put_other hs 0 rfl rfl, s.put_onlyRegs fStopDrive 0⟩
  · have htimeout : (s.on fFbTimeout).flag fFbTimeout = true := State.flag_on_same hs rfl rfl
    have hmode' : (s.on fFbTimeout).get fHdgMode = 1 := (State.get_put_other hs 1 rfl rfl).trans hmode
    have hstop : (s.on fFbTimeout).commandOf = cmdStop := if_pos (.inr (.inr ⟨hmode', htimeout⟩))
    have hcmd := State.hdgUpdate_taken (hs.put fFbTimeout 1) halive
    have honly := ((s.put_onlyRegs fFbTimeout 1).stopOnly.mono (by simp [fFbTimeout])).trans hcmd.only
    exact ⟨_, fallbackMaxExpiry_expires hhcb halive hmode hms, (congrArg (· != 0) (hcmd.kept fFbTimeout rfl rfl rfl)).trans htimeout, hcmd.cmd.trans hstop,
      hcmd.stops hstop, honly.regs, honly.ram, honly.rest⟩

end Sys2Proof.Machine

/-! HEARTBEATS AND THE SELF-TEST. What a lost heartbeat turns on and raises, and what a diagnostic's test does (03_safety_concept.md; R113 to R130). -/
namespace Sys2Proof.Machine

-- THE REEVE'S SAFE-STOP

/-- The Reeve's Safe-Stop takes the next sequence number; the rest of it stands in the vehicle buffers (R695). -/
theorem State.reeveFill_eq (s : State) : ∃ veh, s.reeveFill = { s.put fSsSeq (s.get fSsSeq + 1) with veh } := by
  unfold State.reeveFill
  dsimp only
  split
  · exact ⟨_, rfl⟩
  · exact ⟨_, rfl⟩

theorem State.reeveFill_stopOnly (s : State) : StopOnly s s.reeveFill [0x40810] := by
  obtain ⟨veh, hveh⟩ := s.reeveFill_eq
  rw [hveh]
  exact (s.put_onlyRegs fSsSeq _).stopOnly.trans (State.setVeh_stopOnly _ veh _)

theorem State.reeveFill_flag {s : State} (hs : State.Ok s) {f : Fld} (hf : fSsSeq.apart f = true) : s.reeveFill.flag f = s.flag f := by
  obtain ⟨veh, hveh⟩ := s.reeveFill_eq
  rw [hveh]
  exact State.flag_put_other hs _ rfl hf

-- THE REEVE IS LOST

/-- The Reeve is silent and acts no more (R129). -/
def State.reeveSilent (s : State) : State := (s.off fReeveOk).setReeve { s.reeve with alive := false }

theorem State.reeveLost_eq {s : State} (halive : s.hdg.alive = true) {code : Nat} (hheld : HdgHeldTaken s.reeveSilent (s.reeveSilent.hdgHeld code) code) :
    s.reeveLost code = (s.reeveSilent.hdgHeld code).hdgFill cmdStop :=
  if_pos ((congrArg Hedgerow.alive hheld.only.hdg).trans halive)

/-- Hedgerow without the Reeve is in HELD and drives the line (R128, R129). -/
structure ReeveGone (s t : State) : Prop where
  reeveOk : t.flag fReeveOk = false
  mode : t.get fHdgMode = 2
  cmd : t.get fHdgCmd = cmdStop
  drive : t.flag fStopDrive = true
  reeve : t.reeve = { s.reeve with alive := false }
  regs : keepsRegs s t [0x8000, 0x8030, kHdgLastStop, kHdgLastStop + 4]
  rest : t = { s with regs := t.regs, reeve := t.reeve, veh := t.veh }

theorem State.reeveLost_taken {s : State} (hs : State.Ok s) (halive : s.hdg.alive = true) {code : Nat} (hcode : code < 0x10000) :
    ReeveGone s (s.reeveLost code) := by
  have hok : State.Ok s.reeveSilent := hs.of_evolves (ev_setReeve (ev_off (Evolves.refl s)))
  have hheld := State.hdgHeld_taken hok halive hcode
  have hoff : s.reeveSilent.flag fReeveOk = false := State.flag_off_same hs rfl
  have hsilent : keepsRegs s s.reeveSilent [0x8000, 0x8030, kHdgLastStop, kHdgLastStop + 4] := (keepsRegs_put s fReeveOk 0).mono (by simp [fReeveOk])
  rw [State.reeveLost_eq halive hheld]
  have honly := hheld.only.trans ((s.reeveSilent.hdgHeld code).hdgFill_stopOnly cmdStop _)
  obtain ⟨veh, hveh⟩ := (s.reeveSilent.hdgHeld code).hdgFill_eq cmdStop
  rw [hveh] at honly ⊢
  exact ⟨(congrArg (· != 0) (hheld.kept fReeveOk rfl rfl rfl rfl)).trans hoff, hheld.mode, hheld.cmd, hheld.drive, honly.reeve,
    hsilent.trans honly.regs, by rw [honly.rest]; rfl⟩

theorem ReeveGone.raised {s t : State} (h : ReeveGone s t) (e : FaultEvent) : keepsRam s (t.raise e) ∧
    (t.raise e).reeve = { s.reeve with alive := false, events := s.reeve.events ++ [e] } ∧
      t.raise e = { s with regs := (t.raise e).regs, reeve := (t.raise e).reeve, veh := (t.raise e).veh } := by
  refine ⟨fun a => ?_, ?_, ?_⟩
  · rw [State.raise, h.rest]; rfl
  · rw [State.raise, h.reeve]
  · rw [State.raise, h.rest]

section
variable {s : State}

theorem heartbeatSend_reeve (hreeve : s.reeve.alive = true) : exec (.heartbeatSend true) s = .next (s.on fReeveOk) := if_pos hreeve

theorem heartbeatSend_hedgerow (hreeve : s.reeve.alive = true) (hhdg : s.hdg.alive = true) :
    exec (.heartbeatSend false) s = .next (s.setReeve { s.reeve with hearsHedgerow := true }) := if_pos ⟨hhdg, hreeve⟩

theorem reeveHeartbeatLoss_answers {ms : Nat} (hms : 3 ≤ ms) (hhdg : s.hdg.alive = true) (hok : s.flag fReeveOk = true) :
    exec (.reeveHeartbeatLoss ms) s = .next ((s.reeveLost 0xA304).heldFault 0xA304 (srcOf 8 0 0)) := if_pos ⟨hhdg, hok, hms⟩

theorem reeveLockstepMismatch_answers (hreeve : s.reeve.alive = true) :
    exec .reeveLockstepMismatch s = .next ((s.reeveLost 0xA306).heldFault 0xA306 (srcOf 9 0 0)) := if_pos hreeve

-- HEDGEROW IS LOST

/-- The Reeve hears Hedgerow no more: it drives the line and raises 0xA303 (R130). -/
def State.hedgerowUnheard (s : State) : State :=
  ((s.setReeve { s.reeve with hearsHedgerow := false }).on fDriveOther).heldFault 0xA303 (srcOf 9 0 0)

theorem hedgerowHeartbeatLoss_answers {loss : HdgLoss} (hfails : s.hdgFails loss = true) (hreeve : s.reeve.alive = true) (hhears : s.reeve.hearsHedgerow = true) :
    ∃ hdg, exec (.hedgerowHeartbeatLoss loss) s = .next ({ s with hdg } : State).hedgerowUnheard.reeveFill ∧ (loss = .lockstep ∨ loss = .sramEcc → hdg.alive = false) := by
  change ∃ hdg, execHedgerowHeartbeatLoss loss s = _ ∧ _
  unfold execHedgerowHeartbeatLoss
  rw [if_neg (by simp [hfails])]
  cases loss with
  | silent ms => exact ⟨s.hdg, if_pos ⟨hreeve, hhears⟩, by simp⟩
  | lockstep => exact ⟨{ s.hdg with alive := false }, if_pos ⟨hreeve, hhears⟩, fun _ => rfl⟩
  | sramEcc => exact ⟨{ s.hdg with alive := false }, if_pos ⟨hreeve, hhears⟩, fun _ => rfl⟩

theorem hdgSupplyFault_answers {us : Nat} (hus : 10 ≤ us) (hhdg : s.hdg.alive = true) :
    exec (.hdgSupplyFault us) s = .next (((s.on fStopDrive).hdgFill cmdStop).setHdg { ((s.on fStopDrive).hdgFill cmdStop).hdg with alive := false }) :=
  if_pos ⟨hhdg, hus⟩

end

-- THE SELF-TEST

/-- The pulse of a driver's test (R116). -/
def State.testPulse (s : State) (d : Diagnostic) : State := match d with
  | .stopDriver reeve => s.emit (.stopPulse reeve)
  | _ => s

/-- What a test emits. -/
def testEmits : Diagnostic → List Emission
  | .stopDriver reeve => [.stopPulse reeve]
  | _ => []

theorem State.testPulse_eq (s : State) (d : Diagnostic) : s.testPulse d = { s with emitted := s.emitted ++ testEmits d } := by
  unfold State.testPulse testEmits
  split
  · rfl
  · exact congrArg (fun e => ({ s with emitted := e } : State)) (List.append_nil s.emitted).symm

section
variable {s : State} {d : Diagnostic} {flagged corrected : Bool}

theorem selfTestRun_answers (hruns : s.testRuns d = true) : exec (.selfTestRun d flagged corrected) s =
    if !diagnosticPasses d flagged corrected then .next ((s.testPulse d).heldFault 0xA121 srcReeve)
    else if s.testsDue && !s.boot.tested.contains d then .next { s.testPulse d with boot := { s.boot with tested := s.boot.tested ++ [d] } }
    else .next (s.testPulse d) := by
  have hpulse := s.testPulse_eq d
  have hdue : (s.testPulse d).testsDue = s.testsDue := by rw [hpulse]; rfl
  have hboot : (s.testPulse d).boot = s.boot := by rw [hpulse]
  rw [← hdue, ← hboot]
  exact if_neg (by simp [hruns])

/-- What a test that runs emits, raises and counts (R116, R117, R749). -/
theorem selfTestRun_taken (hruns : s.testRuns d = true) : ∃ t, exec (.selfTestRun d flagged corrected) s = .next t ∧ t.emitted = s.emitted ++ testEmits d ∧
    t.reeve.events = s.reeve.events ++ (if diagnosticPasses d flagged corrected then [] else [⟨0xA121, srcOf 9 0 0, 0, .held, []⟩]) ∧
      (diagnosticPasses d flagged corrected = true → s.testsDue = true → d ∈ t.boot.tested) ∧ (s.testsDue = false → t.boot = s.boot) ∧
        t = { s with emitted := t.emitted, reeve := { s.reeve with events := t.reeve.events }, boot := { s.boot with tested := t.boot.tested } } := by
  have hexec := selfTestRun_answers (flagged := flagged) (corrected := corrected) hruns
  rw [s.testPulse_eq d] at hexec
  rcases Bool.eq_false_or_eq_true (diagnosticPasses d flagged corrected) with hpass | hfail
  · rw [hpass] at hexec ⊢
    rw [if_neg (by decide)] at hexec
    have hnone : s.reeve.events = s.reeve.events ++ (if true = true then [] else [⟨0xA121, srcOf 9 0 0, 0, .held, []⟩]) := (List.append_nil _).symm
    split at hexec
    · next hnew => exact ⟨_, hexec, rfl, hnone, fun _ _ => List.mem_append_right _ List.mem_cons_self, fun hdue => by simp [hdue] at hnew, rfl⟩
    · next hold => exact ⟨_, hexec, rfl, hnone, fun _ hdue => by simpa [hdue] using hold, fun _ => rfl, rfl⟩
  · rw [hfail] at hexec ⊢
    exact ⟨_, hexec.trans (if_pos rfl), rfl, rfl, fun hpass => absurd hpass (by decide), fun _ => rfl, rfl⟩

theorem selfTestRun_skipped (hskip : s.skipsTest d = true) : exec (.selfTestRun d flagged corrected) s = .next s :=
  if_pos (by simp [State.testRuns, hskip])

theorem selfTestOverdue_skipped (ms : Nat) (hskip : s.skipsTest d = true) : exec (.selfTestOverdue d ms) s = .next s := if_neg (by simp [hskip])

theorem selfTestOverdue_raises {ms : Nat} (hms : 2000 < ms) (hreeve : s.reeve.alive = true) (hd : d ∈ s.diagnostics) (hskip : s.skipsTest d = false)
    (hrun : s.get fPwrState = pwrRun) (hwoken : s.power.wokenAt = none) : exec (.selfTestOverdue d ms) s = .next (s.heldFault 0xA122 (srcOf 9 0 0)) :=
  if_pos (by simp [hms, hreeve, hd, hskip, hrun, State.windowSince, hwoken])

theorem selfTestOverdue_early {ms w : Nat} (hcore : diagnosticCore d ≠ none) (hwoken : s.power.wokenAt = some w) (hnow : s.tb.ticks < w + ms * 25000) :
    exec (.selfTestOverdue d ms) s = .next s :=
  if_neg (by simp [State.windowSince, hwoken, hcore, hnow])

end

/-- Settles O18: the Reeve's loss goes through `State.reeveLost_taken`, Hedgerow's through `State.reeveFill_eq`, and a test through `selfTestRun_taken`. -/
theorem heartbeatLossesReachTheSafeState : Obligations.HeartbeatLossesReachTheSafeState := by
  unfold Obligations.HeartbeatLossesReachTheSafeState
  intro s hs
  refine ⟨fun hreeve => ⟨_, heartbeatSend_reeve hreeve, State.flag_on_same hs rfl rfl, s.put_onlyRegs fReeveOk 1⟩,
    fun hreeve hhdg => heartbeatSend_hedgerow hreeve hhdg, fun ms hms hhdg hok => ?_, fun hreeve hhdg => ?_, fun loss hfails hreeve hhears => ?_,
    fun us hus hhdg => ?_, fun d flagged corrected hruns => ?_, fun d flagged corrected hskip => selfTestRun_skipped hskip,
    fun d ms hskip => selfTestOverdue_skipped ms hskip, fun d ms hms hreeve hd hskip hrun hwoken => selfTestOverdue_raises hms hreeve hd hskip hrun hwoken,
    fun d ms w hcore hwoken hnow => selfTestOverdue_early hcore hwoken hnow⟩
  · have hgone := State.reeveLost_taken hs hhdg (code := 0xA304) (by decide)
    obtain ⟨hram, hreeve, hrest⟩ := hgone.raised ⟨0xA304, srcOf 8 0 0, 0, .held, []⟩
    exact ⟨_, reeveHeartbeatLoss_answers hms hhdg hok, hgone.reeveOk, hgone.mode, hgone.cmd, hgone.drive, hreeve, hgone.regs, hram, hrest⟩
  · have hgone := State.reeveLost_taken hs hhdg (code := 0xA306) (by decide)
    obtain ⟨hram, hreeve', hrest⟩ := hgone.raised ⟨0xA306, srcOf 9 0 0, 0, .held, []⟩
    exact ⟨_, reeveLockstepMismatch_answers hreeve, hgone.reeveOk, hgone.mode, hgone.cmd, hgone.drive, hreeve', hgone.regs, hram, hrest⟩
  · obtain ⟨hdg, hexec, hdead⟩ := hedgerowHeartbeatLoss_answers hfails hreeve hhears
    have hok : State.Ok ({ s with hdg } : State).hedgerowUnheard := hs.of_evolves (ev_heldFault (ev_on (ev_setReeve (ev_setHdg (Evolves.refl s)))))
    have hdrive : ({ s with hdg } : State).hedgerowUnheard.flag fDriveOther = true := State.flag_on_same (s := ({ s with hdg } : State).setReeve _) ⟨hs.regs, hs.dram, hs.phys⟩ rfl rfl
    have hkept : keepsRegs s ({ s with hdg } : State).hedgerowUnheard [0x40810] := keepsRegs_put (({ s with hdg } : State).setReeve _) fDriveOther 1
    have honly := ({ s with hdg } : State).hedgerowUnheard.reeveFill_stopOnly
    refine ⟨_, hexec, (State.reeveFill_flag hok rfl).trans hdrive, honly.reeve, fun hself => ?_, hkept.trans honly.regs, fun a => honly.ram a, ?_⟩
    · rw [honly.hdg]; exact hdead hself
    · rw [honly.rest]; rfl
  · have hdrive : (s.on fStopDrive).flag fStopDrive = true := State.flag_on_same hs rfl rfl
    obtain ⟨veh, hveh⟩ := (s.on fStopDrive).hdgFill_eq cmdStop
    have hexec := hdgSupplyFault_answers hus hhdg
    rw [hveh] at hexec
    exact ⟨_, hexec, hdrive, rfl, keepsRegs_put s fStopDrive 1, fun _ => rfl, rfl⟩
  · obtain ⟨t, hexec, hemit, hevents, hcounts, hboot, hrest⟩ := selfTestRun_taken (flagged := flagged) (corrected := corrected) hruns
    refine ⟨t, hexec, hemit.trans ?_, hevents, hcounts, hboot, hrest⟩
    cases d <;> rfl

end Sys2Proof.Machine

/-! CAN TRANSMIT BUFFERS. What a request leaves of a register whose reserved bits are not 0 (19_vehicle_interfaces.md, R13, R700). -/
namespace Sys2Proof.Machine

/-- CAN_TXB_CTL of buffer 0 holds a 1 in bit 0, which no access code of R17 lets software write. -/
def reservedTxbState : State := { State.reset with regs := [(0x41004, 1)] }

theorem reservedTxbState_ok : State.Ok reservedTxbState := ⟨by decide, rfl, State.reset_ok.phys⟩

/-- A request keeps the reserved bit, as a write by the access codes keeps every bit that software cannot write (R13). -/
theorem reservedTxbState_kept : (outState (exec (.canTxRequest 0 0 0x80000000) reservedTxbState) reservedTxbState).reg (kTxb 0 4) = 0x80000001 := by
  decide +kernel

/-- Refutes O19: nothing in State.Ok makes the reserved bits of CAN_TXB_CTL read 0. In reservedTxbState the clause on a request of the physical function has
the register read as the bits of the write that the register takes, where the write by the access codes keeps bit 0. -/
theorem not_safeStopMessagesAreFilledAndSent : ¬ Obligations.SafeStopMessagesAreFilledAndSent := by
  unfold Obligations.SafeStopMessagesAreFilledAndSent
  intro h
  obtain ⟨-, -, -, -, -, -, -, -, -, hrequest, -⟩ := h reservedTxbState reservedTxbState_ok
  obtain ⟨t, hexec, -, hreg, -⟩ := hrequest 0 0x80000000 (by decide) (by decide)
  have hkept := reservedTxbState_kept
  rw [hexec] at hkept
  exact absurd (hkept.symm.trans hreg) (by decide)

end Sys2Proof.Machine

/-! COMPLETION RECORDS AND DEADLINES. What a record, a message and a late job leave (13_queues_and_dispatch.md; R459 to R475). -/
namespace Sys2Proof.Machine

-- WHAT FOLLOWS A RECORD

/-- The queues and the DRAM are as before, and what has been emitted has only grown. -/
structure QueuesKept (s t : State) : Prop where
  queues : t.qm.queues = s.qm.queues
  ram : keepsRam s t
  emits : ∃ es, t.emitted = s.emitted ++ es

theorem QueuesKept.same {s t : State} (hqueues : t.qm.queues = s.qm.queues) (hram : keepsRam s t) (hemit : t.emitted = s.emitted) : QueuesKept s t :=
  ⟨hqueues, hram, [], by rw [hemit, List.append_nil]⟩

theorem QueuesKept.refl (s : State) : QueuesKept s s := .same rfl (fun _ => rfl) rfl

theorem QueuesKept.trans {r s t : State} (h : QueuesKept r s) (g : QueuesKept s t) : QueuesKept r t := by
  obtain ⟨es, hes⟩ := h.emits
  obtain ⟨fs, hfs⟩ := g.emits
  exact ⟨g.queues.trans h.queues, fun a => (g.ram a).trans (h.ram a), es ++ fs, by rw [hfs, hes, List.append_assoc]⟩

theorem QueuesKept.queue {s t : State} (h : QueuesKept s t) (q : Nat) : t.queue q = s.queue q := congrArg (Tbl.getD · q QueueSt.reset) h.queues

theorem QueuesKept.ite {r s t : State} {c : Prop} [Decidable c] (hthen : QueuesKept r s) (helse : QueuesKept r t) : QueuesKept r (if c then s else t) :=
  iteInduction (motive := fun x => QueuesKept r x) (fun _ => hthen) (fun _ => helse)

theorem QueuesKept.foldl {α : Type} {f : State → α → State} (hf : ∀ s x, QueuesKept s (f s x)) : ∀ (l : List α) {r s : State}, QueuesKept r s →
    QueuesKept r (l.foldl f s)
  | [], _, _, h => h
  | x :: l, _, s, h => QueuesKept.foldl hf l (h.trans (hf s x))

theorem State.put_queuesKept (s : State) (f : Fld) (n : Nat) : QueuesKept s (s.put f n) := .same rfl (fun _ => rfl) rfl

theorem State.setPartCtl_queuesKept (s : State) (c : PartCtl) : QueuesKept s (s.setPartCtl c) := .same rfl (fun _ => rfl) rfl

theorem State.freeDt_queuesKept (s : State) (i : Nat) : QueuesKept s (s.freeDt i) := .same rfl (fun _ => rfl) rfl

theorem State.msix_queuesKept (s : State) (fn v : Nat) : QueuesKept s (s.msix fn v) :=
  QueuesKept.ite (QueuesKept.refl s) (QueuesKept.ite ⟨rfl, fun _ => rfl, [.msix fn v], rfl⟩ (s.put_queuesKept _ _))

theorem State.partEvent_queuesKept (s : State) (p b : Nat) : QueuesKept s (s.partEvent p b) :=
  have hon := s.put_queuesKept (fPartEvent p b) 1
  QueuesKept.ite (QueuesKept.refl s) (QueuesKept.ite (hon.trans (State.msix_queuesKept _ _ _)) hon)

theorem State.freeSave_queuesKept (s : State) (e : DtEnt) : QueuesKept s (s.freeSave e) := by
  unfold State.freeSave
  split
  · exact .same rfl (fun _ => rfl) rfl
  · exact QueuesKept.refl s

theorem State.startReset_queuesKept (s : State) (p : Nat) : QueuesKept s (s.startReset p) := by
  have hcores : QueuesKept s { (s.on (fResetting p)).dropAsks (fun x => x.part == p) with
      cores := s.cores.map (fun (x : Nat × CoreSt) => (x.1, x.2.abandon p)) } := .same rfl (fun _ => rfl) rfl
  exact QueuesKept.foldl (fun t _ => QueuesKept.ite ((t.freeSave_queuesKept _).trans (State.freeDt_queuesKept _ _)) (QueuesKept.refl t)) _ hcores

theorem State.startHeld_queuesKept (s : State) : QueuesKept s s.startHeld :=
  QueuesKept.foldl State.startReset_queuesKept _ (s.setPartCtl_queuesKept _)

theorem State.recovered_queuesKept (s : State) (p : Nat) : QueuesKept s (s.recovered p) :=
  have hevent := (s.setPartCtl_queuesKept { s.part with recoverDue := s.part.recoverDue.filter (· != p) }).trans (State.partEvent_queuesKept _ p 1)
  QueuesKept.ite (QueuesKept.ite (hevent.trans (State.startHeld_queuesKept _)) hevent) (QueuesKept.refl s)

theorem State.releaseGate_queuesKept (s : State) (q : Nat) (j : QJob) : QueuesKept s (s.releaseGate q j) := by
  unfold State.releaseGate
  split
  · exact QueuesKept.ite (.same rfl (fun _ => rfl) rfl) (QueuesKept.refl s)
  · exact QueuesKept.refl s

/-- A queue without a fold opens no gate. -/
theorem State.releaseGate_noFold {j : QJob} (h : j.fold = none) (s : State) (q : Nat) : s.releaseGate q j = s := by
  unfold State.releaseGate; rw [h]

-- A RECORD

/-- The queue once its oldest descriptor's record is written (R459, R466). -/
def QueueSt.recorded (x : QueueSt) (j : QJob) (r : Rec) : QueueSt :=
  { x with recs := x.recs + 1, done := if r.status ≤ 1 then x.done + 1 else x.done, jobs := x.jobs.drop 1,
           lost := if r.status = 3 ∧ !x.isFrame ∧ !r.resumed then x.lost ++ [j] else x.lost }

/-- The stages of a record: it is stored at the next ring entry, its Dispatch Table entry is freed, its gate is opened, and what was lost is announced
(R463, R466, R502, R603). -/
def State.recordStored (s : State) (q : Nat) (j : QJob) (r : Rec) : State :=
  let x := s.queue q
  (s.hostWrite x.owner (x.cq + 32 * (x.recs.toNat % x.size)) (recBytes q x j r)).setQueue q (x.recorded j r).settled

def State.entryFreed (s : State) (r : Rec) : State :=
  match r.dt with
  | some i => s.freeDt i
  | none => s

def State.gateOpened (s : State) (q : Nat) (j : QJob) (r : Rec) : State := if r.status = 3 then s else s.releaseGate q j

def State.lossAnnounced (s : State) (p : Nat) (r : Rec) : State := if r.status = 3 ∧ !s.lostPending p then s.recovered p else s

theorem State.writeRecord_eq (s : State) (q : Nat) (j : QJob) (r : Rec) : s.writeRecord q j r =
    ((((s.recordStored q j r).entryFreed r).gateOpened q j r).coalesce q).lossAnnounced (s.queue q).owner r := rfl

theorem State.entryFreed_queuesKept (s : State) (r : Rec) : QueuesKept s (s.entryFreed r) := by
  unfold State.entryFreed
  split
  · exact s.freeDt_queuesKept _
  · exact QueuesKept.refl s

theorem State.gateOpened_queuesKept (s : State) (q : Nat) (j : QJob) (r : Rec) : QueuesKept s (s.gateOpened q j r) :=
  QueuesKept.ite (QueuesKept.refl s) (s.releaseGate_queuesKept q j)

theorem State.lossAnnounced_queuesKept (s : State) (p : Nat) (r : Rec) : QueuesKept s (s.lossAnnounced p r) :=
  QueuesKept.ite (s.recovered_queuesKept p) (QueuesKept.refl s)

/-- A queue that drains is DISABLED once it holds no job; nothing else of it changes. -/
theorem QueueSt.settled_eq (x : QueueSt) : ∃ state, x.settled = { x with state } := by
  unfold QueueSt.settled
  split
  · exact ⟨0, rfl⟩
  · exact ⟨x.state, rfl⟩

theorem QueueSt.settled_running {x : QueueSt} (h : x.state = 1) : x.settled = x := if_neg (by omega)

theorem State.recordStored_reached {s : State} {q : Nat} {x : QueueSt} (j : QJob) (r : Rec) (hx : s.queue q = x) (hreach : s.hostReachable x.owner = true) :
    s.recordStored q j r = (s.emit (.hostWrite x.owner (x.cq + 32 * (x.recs.toNat % x.size)) (recBytes q x j r))).setQueue q (x.recorded j r).settled := by
  have hwrite : s.hostWrite x.owner (x.cq + 32 * (x.recs.toNat % x.size)) (recBytes q x j r) =
      s.emit (.hostWrite x.owner (x.cq + 32 * (x.recs.toNat % x.size)) (recBytes q x j r)) := if_pos hreach
  unfold State.recordStored
  rw [hx]
  dsimp only
  rw [hwrite]

theorem State.coalesce_off {s : State} {q : Nat} (h : (s.queue q).intEn = false) : s.coalesce q = s := if_pos (by simp [h])

/-- The queue's message leaves, or a coalescing window opens, or neither (R470). -/
theorem State.coalesce_taken (s : State) (q : Nat) : keepsRam s (s.coalesce q) ∧ (∃ es, (s.coalesce q).emitted = s.emitted ++ es) ∧
    (s.coalesce q).queue q = { s.queue q with window := (s.queue q).window || ((s.queue q).intEn && decide ((s.queue q).coalesceUs ≠ 0)) } := by
  unfold State.coalesce
  dsimp only
  split
  · next hstay =>
    have hwindow : ((s.queue q).window || ((s.queue q).intEn && decide ((s.queue q).coalesceUs ≠ 0))) = (s.queue q).window := by
      cases hw : (s.queue q).window <;> simp_all
    exact ⟨fun _ => rfl, ⟨[], (List.append_nil _).symm⟩, by rw [hwindow]⟩
  · next hgo =>
    obtain ⟨hint, hshut⟩ : (s.queue q).intEn = true ∧ (s.queue q).window = false := by simpa using hgo
    split
    · next hnow =>
      have hkept := s.msix_queuesKept (s.queue q).owner (s.queue q).vector
      have hwindow : ((s.queue q).window || ((s.queue q).intEn && decide ((s.queue q).coalesceUs ≠ 0))) = (s.queue q).window := by simp [hnow]
      exact ⟨hkept.ram, hkept.emits, by rw [hkept.queue, hwindow]⟩
    · next hlater => exact ⟨fun _ => rfl, ⟨[], (List.append_nil _).symm⟩, by simp [hint, hlater]⟩

theorem completionRecordWrite_writes {s : State} {q : BitVec 16} {j : QJob} {r : Rec} (h : s.nextRecord q.toNat = some (j, r)) :
    exec (.completionRecordWrite q) s = .next (s.writeRecord q.toNat j r) := by
  change execCompletionRecordWrite q s = _
  unfold execCompletionRecordWrite
  rw [h]

/-- A full completion ring gives no next record (R469). -/
theorem State.nextRecord_full {s : State} {q : Nat} (hfull : (s.queue q).ringFull = true) : s.nextRecord q = none := by
  unfold State.nextRecord
  dsimp only
  split
  · split
    · exact if_neg (by simp [hfull])
    · rfl
  · rfl

theorem completionRecordWrite_full {s : State} {q : BitVec 16} (hfull : (s.queue q.toNat).ringFull = true) : exec (.completionRecordWrite q) s = .next s := by
  change execCompletionRecordWrite q s = _
  unfold execCompletionRecordWrite
  rw [State.nextRecord_full hfull]

/-- The table lists what it did but for the entry that a record gives back (R463). -/
theorem State.entryFreed_dt {s : State} (hwf : Tbl.wf s.qm.dt = true) (r : Rec) : (∀ i, r.dt = some i → Tbl.find (s.entryFreed r).qm.dt i = none) ∧
    (∀ i, r.dt ≠ some i → Tbl.find (s.entryFreed r).qm.dt i = Tbl.find s.qm.dt i) ∧ s.entryFreed r = { s with qm := (s.entryFreed r).qm } := by
  unfold State.entryFreed
  cases hdt : r.dt with
  | none => exact ⟨fun i h => by simp at h, fun _ _ => rfl, rfl⟩
  | some k =>
    refine ⟨fun i h => ?_, fun i h => Tbl.find_drop_ne (fun hik => h (by rw [hik])) _, rfl⟩
    obtain rfl : k = i := Option.some.inj h
    exact Tbl.find_drop_same hwf k

/-- A record of a running queue without an interrupt, of a descriptor without a fold that is not LOST. -/
theorem State.writeRecord_plain {s : State} {q : Nat} {x : QueueSt} {j : QJob} {r : Rec} (hx : s.queue q = x) (hstate : x.state = 1) (hint : x.intEn = false)
    (hfold : j.fold = none) (hstatus : r.status ≠ 3) (hreach : s.hostReachable x.owner = true) : s.writeRecord q j r =
      ((s.emit (.hostWrite x.owner (x.cq + 32 * (x.recs.toNat % x.size)) (recBytes q x j r))).setQueue q (x.recorded j r)).entryFreed r := by
  have hstored := State.recordStored_reached j r hx hreach
  rw [QueueSt.settled_running (x := x.recorded j r) hstate] at hstored
  have hkept := (s.recordStored q j r).entryFreed_queuesKept r
  have hqueue : ((s.recordStored q j r).entryFreed r).queue q = x.recorded j r := by rw [hkept.queue, hstored, State.queue_setQueue_same]
  have hgate : ((s.recordStored q j r).entryFreed r).gateOpened q j r = (s.recordStored q j r).entryFreed r :=
    (if_neg hstatus).trans (State.releaseGate_noFold hfold _ q)
  have hmessage : ((s.recordStored q j r).entryFreed r).coalesce q = (s.recordStored q j r).entryFreed r :=
    State.coalesce_off (by rw [hqueue]; exact hint)
  rw [State.writeRecord_eq, hgate, hmessage, ← hstored]
  exact if_neg fun h => hstatus h.1

/-- What every record leaves: it goes out, and its queue counts it; what follows keeps the queue but for its window. -/
theorem State.writeRecord_taken {s : State} {q : Nat} {x : QueueSt} (j : QJob) (r : Rec) (hx : s.queue q = x) (hreach : s.hostReachable x.owner = true) :
    ∃ es state, (s.writeRecord q j r).emitted = s.emitted ++ [.hostWrite x.owner (x.cq + 32 * (x.recs.toNat % x.size)) (recBytes q x j r)] ++ es ∧
      (s.writeRecord q j r).queue q = { x.recorded j r with state, window := x.window || (x.intEn && decide (x.coalesceUs ≠ 0)) } ∧ keepsRam s (s.writeRecord q j r) := by
  obtain ⟨state, hsettled⟩ := (x.recorded j r).settled_eq
  have hstored := State.recordStored_reached j r hx hreach
  rw [hsettled] at hstored
  have hkept := ((s.recordStored q j r).entryFreed_queuesKept r).trans (State.gateOpened_queuesKept _ q j r)
  have hqueue : (((s.recordStored q j r).entryFreed r).gateOpened q j r).queue q = { x.recorded j r with state } := by
    rw [hkept.queue, hstored, State.queue_setQueue_same]
  obtain ⟨hram, ⟨fs, hfs⟩, hwindow⟩ := (((s.recordStored q j r).entryFreed r).gateOpened q j r).coalesce_taken q
  have hlast := ((((s.recordStored q j r).entryFreed r).gateOpened q j r).coalesce q).lossAnnounced_queuesKept (s.queue q).owner r
  obtain ⟨es, hes⟩ := hkept.emits
  obtain ⟨gs, hgs⟩ := hlast.emits
  rw [State.writeRecord_eq]
  refine ⟨es ++ fs ++ gs, state, ?_, ?_, fun a => ?_⟩
  · rw [hgs, hfs, hes, hstored]
    simp [State.setQueue, State.setQm, List.append_assoc]
  · rw [hlast.queue, hwindow, hqueue]; rfl
  · rw [hlast.ram, hram, hkept.ram, hstored]; rfl

-- A COALESCING WINDOW

theorem State.msix_sends {s : State} {fn v : Nat} (hreset : s.inReset fn = false) (hready : s.msixReady fn v = true) :
    (s.msix fn v).emitted = s.emitted ++ [.msix fn v] := by
  have hsends : s.msix fn v = s.emit (.msix fn v) := (if_neg (by simp [hreset])).trans (if_pos hready)
  rw [hsends]; rfl

theorem coalesceExpiry_closes {s : State} {q : BitVec 16} {us : Nat} (hopen : (s.queue q.toNat).window = true) (hus : (s.queue q.toNat).coalesceUs ≤ us) :
    exec (.coalesceExpiry q us) s =
      .next ((s.setQueue q.toNat { s.queue q.toNat with window := false }).msix (s.queue q.toNat).owner (s.queue q.toNat).vector) :=
  if_pos (by simp [hopen, hus])

-- A DEADLINE

/-- The job at a position is late, and the fault is counted (R475). -/
def State.jobLate (s : State) (q pos : Nat) : State := (s.setQueue q ((s.queue q).setJob pos (fun y => { y with late := true }))).bump kDeadlineFaults

section
variable {s : State} {q : BitVec 16} {pos us d : Nat} {j : QJob} (hjob : (s.queue q.toNat).jobAt pos = some j)
include hjob

theorem jobDeadlineExpiry_dispatched {i : Nat} (hdl : s.deadlineOf j = some (d, some i)) (hd : d ≠ 0) (hus : d ≤ us) (hrec : s.recovering = false)
    (hlate : j.late = false) : exec (.jobDeadlineExpiry q pos us) s = .next ((s.jobLate q.toNat pos).jobFault 0x4201 (srcQm 0) (q.toNat + i * 2 ^ 16)) := by
  change execJobDeadlineExpiry q pos us s = _
  unfold execJobDeadlineExpiry
  dsimp only
  rw [hjob]
  dsimp only
  rw [hdl]
  exact if_neg (by simp [hd, hrec, hlate]; omega)

theorem jobDeadlineExpiry_waiting (hdl : s.deadlineOf j = some (d, none)) (hd : d ≠ 0) (hus : d ≤ us) (hlate : j.late = false) :
    exec (.jobDeadlineExpiry q pos us) s = .next ((s.jobLate q.toNat pos).drawn.jobFault 0x4201 (srcQm 0) (q.toNat + s.free % 1024 * 2 ^ 16)) := by
  change execJobDeadlineExpiry q pos us s = _
  unfold execJobDeadlineExpiry
  dsimp only
  rw [hjob]
  dsimp only
  rw [hdl]
  exact if_neg (by simp [hd, hlate]; omega)

theorem jobDeadlineExpiry_again {o : Option Nat} (hdl : s.deadlineOf j = some (d, o)) (hlate : j.late = true) : exec (.jobDeadlineExpiry q pos us) s = .next s := by
  change execJobDeadlineExpiry q pos us s = _
  unfold execJobDeadlineExpiry
  dsimp only
  rw [hjob]
  dsimp only
  rw [hdl]
  exact if_pos (.inr (.inr (.inl hlate)))

end

/-- INFO of a deadline's fault names the queue in its low bits, whatever the index above them (R615). -/
theorem deadlineInfo_queue (q : BitVec 16) (n : Nat) : (BitVec.ofNat 64 (q.toNat + n % 1024 * 2 ^ 16)).toNat % 2 ^ 16 = q.toNat := by
  have hq := q.isLt
  have hn : n % 1024 < 1024 := Nat.mod_lt _ (by decide)
  have hfits : q.toNat + n % 1024 * 2 ^ 16 < 2 ^ 64 := by omega
  rw [BitVec.toNat_ofNat, Nat.mod_eq_of_lt hfits, Nat.add_mul_mod_self_right, Nat.mod_eq_of_lt hq]

/-- Settles O31: a record goes through its stages (`State.writeRecord_plain`, `State.writeRecord_taken`), a late job through `State.jobLate`. -/
theorem recordsMessagesAndDeadlinesFollow : Obligations.RecordsMessagesAndDeadlinesFollow := by
  unfold Obligations.RecordsMessagesAndDeadlinesFollow
  intro s hs hwf
  refine ⟨fun q x j r hx hnext hstate hint hfold hstatus hreach => ?_, fun q x j r hx hnext hreach => ?_, fun q hfull => completionRecordWrite_full hfull,
    fun q us hopen hus => ?_, fun q pos us j d i hjob hdl hd hus hrec => ⟨fun hlate => ?_, fun hlate => jobDeadlineExpiry_again hjob hdl hlate⟩,
    fun q pos us j d hjob hdl hd hus hlate => ?_⟩
  · have hexec := completionRecordWrite_writes hnext
    rw [State.writeRecord_plain hx hstate hint hfold hstatus hreach] at hexec
    generalize hu : (s.emit (.hostWrite x.owner (x.cq + 32 * (x.recs.toNat % x.size)) (recBytes q.toNat x j r))).setQueue q.toNat (x.recorded j r) = u at hexec
    have hlost : x.recorded j r = { x with recs := x.recs + 1, done := if r.status ≤ 1 then x.done + 1 else x.done, jobs := x.jobs.drop 1 } := by
      simp [QueueSt.recorded, hstatus]
    have hdt : u.qm.dt = s.qm.dt := by rw [← hu]; rfl
    have hkept := u.entryFreed_queuesKept r
    obtain ⟨hfreed, hother, hrest⟩ := State.entryFreed_dt (s := u) (by rw [hdt]; exact hwf) r
    refine ⟨_, hexec, ?_, ?_, hfreed, fun i hi => (hother i hi).trans (by rw [hdt]), fun p hp => ?_, ?_⟩
    · rw [hrest, ← hu]; rfl
    · rw [hkept.queue, ← hu, State.queue_setQueue_same, hlost]
    · rw [hkept.queue, ← hu, State.queue_setQueue_ne _ hp]; rfl
    · rw [hrest, ← hu]; rfl
  · obtain ⟨es, state, hemit, hqueue, hram⟩ := State.writeRecord_taken j r hx hreach
    refine ⟨_, es, completionRecordWrite_writes hnext, hemit, ?_, ?_, ?_, ?_, hram⟩
    · rw [hqueue]; rfl
    · rw [hqueue]; rfl
    · rw [hqueue]; rfl
    · rw [hqueue]
  · have hexec := coalesceExpiry_closes hopen hus
    generalize hu : s.setQueue q.toNat { s.queue q.toNat with window := false } = u at hexec
    have hkept := u.msix_queuesKept (s.queue q.toNat).owner (s.queue q.toNat).vector
    have honly := u.msix_only (s.queue q.toNat).owner (s.queue q.toNat).vector
    refine ⟨_, hexec, ?_, fun p hp => ?_, fun hreset hready => ?_, ?_⟩
    · rw [hkept.queue, ← hu, State.queue_setQueue_same]
    · rw [hkept.queue, ← hu, State.queue_setQueue_ne _ hp]
    · subst hu; exact State.msix_sends hreset hready
    · rw [honly.rest, ← hu]; rfl
  · refine ⟨_, _, jobDeadlineExpiry_dispatched hjob hdl hd hus hrec hlate, rfl, rfl, rfl, rfl, keepsRegs_bump (s.setQueue q.toNat _) kDeadlineFaults, fun _ => rfl, rfl,
      State.queue_setQueue_same s _ _, rfl⟩
  · exact ⟨_, _, jobDeadlineExpiry_waiting hjob hdl hd hus hlate, rfl, rfl, deadlineInfo_queue q s.free, rfl, keepsRegs_bump (s.setQueue q.toNat _) kDeadlineFaults, fun _ => rfl,
      rfl, State.queue_setQueue_same s _ _, rfl⟩

end Sys2Proof.Machine

/-! FAULT EVENTS. What the Reeve makes of the events that reach it: the logs, the start of a recovery, and HELD (03_safety_concept.md; R79, R91, R93, R255, R505,
R612 to R619, R640 to R643). -/
namespace Sys2Proof.Machine

-- THE CAUSE

/-- A code of the 0xAxxx range (R616). -/
def FaultEvent.top (e : FaultEvent) : Bool := bitsAt e.code.toNat 12 4 == 10

/-- The order of R616 as one number: the range, then the code, then the source. -/
def FaultEvent.rank (e : FaultEvent) : Nat := (if e.top then 0 else 1) * 2 ^ 32 + e.code.toNat * 2 ^ 16 + e.source.toNat

theorem FaultEvent.causeBefore_iff (a b : FaultEvent) : a.causeBefore b = true ↔ a.rank ≤ b.rank := by
  change (if a.top != b.top then a.top else if a.code ≠ b.code then decide (a.code.toNat < b.code.toNat) else decide (a.source.toNat ≤ b.source.toNat)) = true ↔ _
  have hac := a.code.isLt
  have hbc := b.code.isLt
  have has := a.source.isLt
  have hbs := b.source.isLt
  have hsame : (if a.code ≠ b.code then decide (a.code.toNat < b.code.toNat) else decide (a.source.toNat ≤ b.source.toNat)) = true ↔
      a.code.toNat * 2 ^ 16 + a.source.toNat ≤ b.code.toNat * 2 ^ 16 + b.source.toNat := by
    by_cases hcode : a.code = b.code
    · rw [if_neg (not_not.mpr hcode), decide_eq_true_eq, hcode]
      omega
    · have hne := mt BitVec.eq_of_toNat_eq hcode
      rw [if_pos hcode, decide_eq_true_eq]
      omega
  unfold FaultEvent.rank
  cases a.top <;> cases b.top
  case false.false => simpa [Nat.add_assoc] using hsame
  case true.true => simpa using hsame
  case false.true => simp; omega
  case true.false => simp; omega

/-- The cause is one of the job faults, and is preferred to each of them. -/
theorem causeOf_preferred : ∀ {l : List FaultEvent}, l ≠ [] → ∃ c ∈ l, causeOf l = some c ∧ ∀ e ∈ l, c.causeBefore e = true
  | [], h => absurd rfl h
  | [e], _ => ⟨e, List.mem_singleton.mpr rfl, rfl, fun x hx => by
      rw [List.mem_singleton.mp hx, FaultEvent.causeBefore_iff]⟩
  | e :: f :: l, _ => by
    obtain ⟨c, hc, hcause, hbefore⟩ := causeOf_preferred (l := f :: l) (List.cons_ne_nil f l)
    have hcons : causeOf (e :: f :: l) = some (if e.causeBefore c then e else c) := by
      rw [causeOf, hcause]
    simp only [FaultEvent.causeBefore_iff] at hcons hbefore ⊢
    by_cases hle : e.rank ≤ c.rank
    · rw [if_pos hle] at hcons
      refine ⟨e, List.mem_cons_self, hcons, fun x hx => ?_⟩
      rcases List.mem_cons.mp hx with rfl | hx
      · exact le_rfl
      · exact hle.trans (hbefore x hx)
    · rw [if_neg hle] at hcons
      refine ⟨c, List.mem_cons_of_mem e hc, hcons, fun x hx => ?_⟩
      rcases List.mem_cons.mp hx with rfl | hx
      · omega
      · exact hbefore x hx

-- THE ARRIVAL

theorem arrived_clean : ∀ l : List FaultEvent, (l.zip (List.replicate l.length none)).map (fun x => x.1.arrived x.2) = l
  | [] => rfl
  | e :: l => congrArg (e :: ·) (arrived_clean l)

theorem foldl_otherEvent_jobFaults : ∀ {l : List FaultEvent} (s : State), (∀ e ∈ l, e.disp = .jobFault) → l.foldl State.otherEvent s = s
  | [], _, _ => rfl
  | e :: l, s, h => by
    have he : s.otherEvent e = s := by rw [State.otherEvent, h e List.mem_cons_self]
    rw [List.foldl_cons, he]
    exact foldl_otherEvent_jobFaults s fun x hx => h x (List.mem_cons_of_mem e hx)

/-- Job faults that arrive together start one recovery, with the cause that R616 prefers. -/
theorem faultEventArrival_jobFaults {s : State} {c : FaultEvent} (halive : s.reeve.alive = true)
    (hfaults : ∀ e ∈ s.reeve.events, e.disp = .jobFault) (hcause : causeOf s.reeve.events = some c)
    (hnone : s.reeve.recovery = none) : exec (.faultEventArrival (List.replicate s.reeve.events.length none) .clean) s =
      .next ((s.setReeve { s.reeve with events := [] }).startRecovery c) := by
  have hall : s.reeve.events.filter (fun e => e.disp == .jobFault) = s.reeve.events := List.filter_eq_self.mpr fun e he => by rw [hfaults e he]; rfl
  change execFaultEventArrival _ _ s = _
  unfold execFaultEventArrival
  rw [arrived_clean, List.length_replicate, List.drop_length]
  simp only [State.sramEcc, ite_self, hall]
  rw [foldl_otherEvent_jobFaults _ hfaults, State.jobFaults, hcause]
  dsimp only [State.setReeve]
  rw [halive, hnone]
  rfl

section
variable {s : State} {e : FaultEvent} {rest : List FaultEvent} (hevents : s.reeve.events = e :: rest)
include hevents

/-- An event of another disposition is taken by itself. -/
theorem faultEventArrival_other (hdisp : e.disp ≠ .jobFault) :
    exec (.faultEventArrival [none] .clean) s = .next ((s.setReeve { s.reeve with events := rest }).otherEvent e) := by
  have hother : [e].filter (fun e => e.disp == .jobFault) = [] := by simp [hdisp]
  change execFaultEventArrival _ _ s = _
  unfold execFaultEventArrival
  rw [hevents]
  simp only [List.zip_cons_cons, List.zip_nil_right, List.map_cons, List.map_nil, FaultEvent.arrived, hother, State.sramEcc, ite_self]
  rfl

theorem faultEventArrival_report (halive : s.reeve.alive = true) (hdisp : e.disp = .report) :
    exec (.faultEventArrival [none] .clean) s = .next ((s.setReeve { s.reeve with events := rest }).logReport e) := by
  rw [faultEventArrival_other hevents (by rw [hdisp]; decide), State.otherEvent, hdisp]
  exact congrArg _ (if_pos halive)

theorem faultEventArrival_violation (halive : s.reeve.alive = true) (hdisp : e.disp = .violation) :
    exec (.faultEventArrival [none] .clean) s = .next ((s.setReeve { s.reeve with events := rest }).queueViolation e) := by
  rw [faultEventArrival_other hevents (by rw [hdisp]; decide), State.otherEvent, hdisp]
  exact congrArg _ (if_pos halive)

theorem faultEventArrival_held (hdisp : e.disp = .held) :
    exec (.faultEventArrival [none] .clean) s = .next ((s.setReeve { s.reeve with events := rest }).heldEvent e) := by
  rw [faultEventArrival_other hevents (by rw [hdisp]; decide), State.otherEvent, hdisp]

end

-- THE LOGS

/-- What FAULT_LOG_WRITE leaves unchanged (R640). -/
structure FlogOnly (s t : State) : Prop where
  regs : keepsRegs s t [kFlogHead]
  rest : t = { s with regs := t.regs, reeve := { s.reeve with flog := t.reeve.flog } }

theorem State.flogWrite_only (s : State) (e : FaultEvent) (disp number : Nat) : FlogOnly s (s.flogWrite e disp number) :=
  ⟨keepsRegs_setReg (s.setReeve _) kFlogHead _, rfl⟩

theorem State.flogWrite_entry (s : State) (e : FaultEvent) (disp number : Nat) :
    Tbl.find (s.flogWrite e disp number).reeve.flog ((s.reg kFlogHead).toNat % 512) = some (leBytes 8 s.now ++ leBytes 2 e.code.toNat ++
      leBytes 2 e.source.toNat ++ leBytes 1 disp ++ leBytes 1 s.mode ++ leBytes 2 number ++ leBytes 4 (s.reg kFrameNum).toNat ++
        leBytes 4 (s.reg kFlogHead).toNat ++ leBytes 8 e.info.toNat) :=
  Tbl.find_put_same _ _ _

theorem State.logReport_logged {s : State} {e : FaultEvent} (hnew : loggedLately s.reeve.flogLast e s.tb.ticks = false) : ∃ last,
    s.logReport e = (s.flogWrite e 0 0).setReeve { (s.flogWrite e 0 0).reeve with flogLast := last } :=
  ⟨_, if_neg (by simp [hnew])⟩

theorem State.logReport_suppressed {s : State} {e : FaultEvent} (hlate : loggedLately s.reeve.flogLast e s.tb.ticks = true) :
    s.logReport e = s.bump kFlogSuppressed := if_pos hlate

section
variable {s : State} {e : FaultEvent} {time tick : Nat} {rest : List (FaultEvent × Nat × Nat)}

theorem violationLogWrite_suppressed (hqueue : s.reeve.vqueue = (e, time, tick) :: rest) (halive : s.reeve.alive = true)
    (hlate : loggedLately s.reeve.vlogLast e tick = true) :
    exec .violationLogWrite s = .next ((s.setReeve { s.reeve with vqueue := rest }).bump kVlogSuppressed) := by
  change execViolationLogWrite s = _
  unfold execViolationLogWrite
  rw [hqueue]
  exact (if_neg (by simp [halive])).trans (if_pos hlate)

theorem violationLogWrite_written (hqueue : s.reeve.vqueue = (e, time, tick) :: rest) (halive : s.reeve.alive = true)
    (hnew : loggedLately s.reeve.vlogLast e tick = false) : ∃ last, exec .violationLogWrite s = .next ((s.setReeve { s.reeve with
      vqueue := rest,
      vlog := Tbl.put s.reeve.vlog ((s.reg kVlogHead).toNat % 1024) (leBytes 8 time ++ leBytes 2 e.code.toNat ++ leBytes 2 e.source.toNat ++
        leBytes 4 (s.reg kVlogHead).toNat ++ padTo 16 (e.detail.take 16)),
      vlogLast := last }).wrapUp kVlogHead) := by
  change ∃ last, execViolationLogWrite s = _
  unfold execViolationLogWrite
  rw [hqueue]
  exact ⟨_, (if_neg (by simp [halive])).trans (if_neg (by simp [State.setReeve, hnew]))⟩

end

-- THE FREEZE

/-- Nothing changes but the registers and the throttles of the cores' clocks (R730 to R740). -/
structure ClocksOnly (s t : State) : Prop where
  regs : ∀ k, k < 0x4100 ∨ 0x5200 ≤ k → t.reg k = s.reg k
  rest : t = { s with regs := t.regs, power := t.power }

theorem ClocksOnly.refl (s : State) : ClocksOnly s s := ⟨fun _ _ => rfl, rfl⟩

theorem ClocksOnly.trans {r s t : State} (h : ClocksOnly r s) (g : ClocksOnly s t) : ClocksOnly r t where
  regs k hk := (g.regs k hk).trans (h.regs k hk)
  rest := by rw [g.rest, h.rest]

theorem ThrottleOnly.clocksOnly {s t : State} (h : ThrottleOnly s t) : ClocksOnly s t where
  regs := h.regs
  rest := by rw [h.rest]

theorem State.setPaused_throttle (s : State) {i : Nat} (hi : i < 16) (b : Bool) : ThrottleOnly s (s.setPaused i b) :=
  ThrottleOnly.foldl (fun t j hj _ => (ThrottleOnly.refl t).put _ (by simp [fIslPaused])
    (by have := List.mem_range.mp hj; simp [fIslPaused]; omega)) (ThrottleOnly.refl s)

theorem State.endPause_clocks (s : State) {i : Nat} (hi : i < 16) : ClocksOnly s (s.endPause i) := by
  unfold State.endPause
  split
  · dsimp only
    have hended (n : Nat) : ThrottleOnly s (((s.setPaused i false).put (fETherm i) 11).put fPauseMax n) :=
      ((s.setPaused_throttle hi false).put 11 (by simp [fETherm]; omega) (by simp [fETherm]; omega)).put n (by decide) (by decide)
    have htherm (u : State) (x : Therm) : ClocksOnly u (u.setTherm i x) := ⟨fun _ _ => rfl, rfl⟩
    exact ((hended _).clocksOnly.trans (htherm _ _)).trans (State.settleE_throttle _ hi).clocksOnly
  · exact ClocksOnly.refl s

theorem foldl_freezeClocks : ∀ {l : List Nat} (s : State), (∀ i ∈ l, i < 16) → ClocksOnly s (l.foldl (fun s i => (s.endPause i).setE i 11) s)
  | [], s, _ => ClocksOnly.refl s
  | i :: _, s, h =>
    have hi := h i List.mem_cons_self
    ((s.endPause_clocks hi).trans (State.setE_throttle _ hi 11).clocksOnly).trans (foldl_freezeClocks _ fun j hj => h j (List.mem_cons_of_mem i hj))

/-- A core frozen by the collector (R614). -/
def State.frozenAt (s : State) (k : Nat) : State := if (s.core k).frozen then s else s.setCore k { s.core k with frozen := true, thawed := [] }

theorem State.frozenAt_rest (s : State) (k : Nat) : s.frozenAt k = { s with cores := (s.frozenAt k).cores } :=
  iteInduction (motive := fun x : State => x = { s with cores := x.cores }) (fun _ => rfl) fun _ => rfl

theorem State.frozenAt_same (s : State) (k : Nat) : ((s.frozenAt k).core k).frozen = true := by
  unfold State.frozenAt
  split
  · assumption
  · rw [State.core_setCore_same]

theorem State.frozenAt_stays {s : State} {i : Nat} (k : Nat) (h : (s.core i).frozen = true) : ((s.frozenAt k).core i).frozen = true := by
  by_cases hik : i = k
  · exact hik ▸ s.frozenAt_same i
  · unfold State.frozenAt
    split
    · exact h
    · rwa [State.core_setCore_ne _ hik]

theorem foldl_frozenAt_rest : ∀ (l : List Nat) (s : State), l.foldl State.frozenAt s = { s with cores := (l.foldl State.frozenAt s).cores }
  | [], _ => rfl
  | k :: l, s => by
    have h := foldl_frozenAt_rest l (s.frozenAt k)
    rw [List.foldl_cons, h, s.frozenAt_rest k]

theorem foldl_frozenAt_frozen {i : Nat} : ∀ {l : List Nat} {s : State}, i ∈ l ∨ (s.core i).frozen = true → ((l.foldl State.frozenAt s).core i).frozen = true
  | [], _, h => h.resolve_left List.not_mem_nil
  | k :: _, s, h => foldl_frozenAt_frozen (s := s.frozenAt k) <| h.elim
      (fun hi => (List.mem_cons.mp hi).elim (fun hik => .inr (hik ▸ s.frozenAt_same i)) .inl)
      fun hfrozen => .inr (State.frozenAt_stays k hfrozen)

/-- The fence is closed, FAULT_N is low and every enabled core is frozen (R91, R255, R614). -/
structure FreezeTaken (s t : State) : Prop where
  regs : ∀ k, k < 0x4100 ∨ 0x5200 ≤ k → k ≠ 0x100000 → t.reg k = s.reg k
  fenced : t.fenced = true
  low : t.flag fFaultNLow = true
  kept : ∀ f : Fld, f.key = 0x100000 → fFenced.apart f = true → fFaultNLow.apart f = true → t.get f = s.get f
  frozen : ∀ k, k < s.nCores → (t.core k).frozen = true
  rest : t = { s with regs := t.regs, cores := t.cores, power := t.power }

theorem State.freeze_taken {s : State} (hs : State.Ok s) : FreezeTaken s s.freeze := by
  change FreezeTaken s (((List.range s.nCores).foldl State.frozenAt (s.on fFenced)).on fFaultNLow).freezeClocks
  have hon : State.Ok (s.on fFenced) := hs.put fFenced 1
  have hcores := foldl_frozenAt_rest (List.range s.nCores) (s.on fFenced)
  have hfrozen (k : Nat) (hk : k < s.nCores) : (((List.range s.nCores).foldl State.frozenAt (s.on fFenced)).core k).frozen = true :=
    foldl_frozenAt_frozen (.inl (List.mem_range.mpr hk))
  generalize (List.range s.nCores).foldl State.frozenAt (s.on fFenced) = u at *
  have hu : State.Ok u := by rw [hcores]; exact ⟨hon.regs, hon.dram, hon.phys⟩
  have huregs (k : Nat) : u.reg k = (s.on fFenced).reg k := by rw [hcores]; rfl
  have huget (f : Fld) : u.get f = (s.on fFenced).get f := congrArg f.ofWord (huregs f.key)
  have hclocks : ClocksOnly (u.on fFaultNLow) (u.on fFaultNLow).freezeClocks :=
    foldl_freezeClocks _ fun i hi => State.physCores_lt (s := u.on fFaultNLow) hu.phys hi
  have hget (f : Fld) (hkey : f.key = 0x100000) : (u.on fFaultNLow).freezeClocks.get f = (u.on fFaultNLow).get f :=
    congrArg f.ofWord (hclocks.regs f.key (by rw [hkey]; decide))
  refine ⟨fun k hk hne => ?_, ?_, ?_, fun f hkey hfence hlow => ?_, fun k hk => ?_, ?_⟩
  · exact (hclocks.regs k hk).trans ((keepsRegs_put u fFaultNLow 1 k (by simpa [fFaultNLow] using hne)).trans
      ((huregs k).trans (keepsRegs_put s fFenced 1 k (by simpa [fFenced] using hne))))
  · have hfenced : (s.on fFenced).flag fFenced = true := State.flag_on_same hs rfl rfl
    exact (congrArg (· != 0) ((hget fFenced rfl).trans ((State.get_put_other hu 1 rfl rfl).trans (huget fFenced)))).trans hfenced
  · exact (congrArg (· != 0) (hget fFaultNLow rfl)).trans (State.flag_on_same hu rfl rfl)
  · exact (hget f hkey).trans ((State.get_put_other hu 1 rfl hlow).trans ((huget f).trans (State.get_put_other hs 1 rfl hfence)))
  · have hkept : (u.on fFaultNLow).freezeClocks.cores = u.cores := by rw [hclocks.rest]; rfl
    rw [State.core, hkept]
    exact hfrozen k hk
  · have hrest : u.on fFaultNLow = { s with regs := (u.on fFaultNLow).regs, cores := (u.on fFaultNLow).cores } := by rw [hcores]; rfl
    rw [hclocks.rest, hrest]

-- THE MODE

/-- Hedgerow's registers that a change of the mode can reach (R79, R80, R85). -/
def hdgModeKeys : List Nat := [0x8000, kHdgRecovery, kHdgLastStop, kHdgLastStop + 4]

/-- Hedgerow enters or leaves RECOVERY: an entry is counted, and FB_TIMEOUT is clear after both (R79, R80). -/
def State.recoveryCounted (s : State) (m : Nat) : State :=
  if m = 1 ∧ s.get fHdgMode ≠ 1 then (s.off fFbTimeout).bump kHdgRecovery else if m = 0 then s.off fFbTimeout else s

theorem State.recoveryCounted_only (s : State) (m : Nat) : OnlyRegs s (s.recoveryCounted m) hdgModeKeys :=
  have hleft : OnlyRegs s (s.off fFbTimeout) hdgModeKeys := (s.put_onlyRegs fFbTimeout 0).mono (by simp [fFbTimeout, hdgModeKeys])
  OnlyRegs.ite (hleft.trans ((State.bump_onlyRegs _ kHdgRecovery).mono (by simp [hdgModeKeys]))) (OnlyRegs.ite hleft (OnlyRegs.refl s _))

theorem State.hdgSetMode_only {s : State} (hs : State.Ok s) (m : Nat) : StopOnly s (s.hdgSetMode m) hdgModeKeys := by
  change StopOnly s (if !s.hdg.alive || (s.hdgStaysHeld && m != 2) then s else ((s.recoveryCounted m).put fHdgMode m).hdgUpdate) hdgModeKeys
  split
  · exact StopOnly.refl s _
  · next hgo =>
    have halive : s.hdg.alive = true := by
      simp only [Bool.or_eq_true, not_or, Bool.not_eq_true, Bool.not_eq_false'] at hgo
      obtain ⟨halive, -⟩ := hgo
      exact halive
    have hcount := s.recoveryCounted_only m
    have hok : State.Ok (s.recoveryCounted m) :=
      hs.of_evolves (ev_ite (ev_bump (ev_put (Evolves.refl s))) (ev_ite (ev_put (Evolves.refl s)) (Evolves.refl s)))
    generalize s.recoveryCounted m = u at *
    have hcmd := State.hdgUpdate_taken (hok.put fHdgMode m) (show u.hdg.alive = true by rw [hcount.rest]; exact halive)
    exact (hcount.stopOnly.trans ((u.put_onlyRegs fHdgMode m).stopOnly.mono (by simp [fHdgMode, hdgModeKeys]))).trans
      (hcmd.only.mono (by simp [hdgModeKeys]))

/-- The Reeve's registers and Hedgerow's that a change of the mode can reach. -/
def modeKeys : List Nat := 0x100000 :: 0x40810 :: 0x5000 :: hdgModeKeys

/-- The mode is set (R79, R88). -/
structure ModeTaken (s t : State) (m : Nat) : Prop where
  only : StopOnly s t modeKeys
  mode : t.mode = m
  low : m ≠ 0 → t.flag fFaultNLow = true
  kept : ∀ f : Fld, f.key = 0x100000 → fReeveMode.apart f = true → fFaultNLow.apart f = true → t.get f = s.get f

/-- The Reeve's own part of a change of the mode: MODE and FAULT_N, then its driver and a pending Banked request (R79, R88, R745). -/
def State.modeShown (s : State) (m : Nat) : State := (s.put fReeveMode m).put fFaultNLow (b2n (m ≠ 0))

def State.heldDrives (s : State) (m : Nat) : State := if m = 2 then s.on fDriveOther else s

def State.bankDropped (s : State) (m : Nat) : State := if m = 2 ∧ s.flag fBankPending then (s.off fBankPending).on fPwrRejected else s

theorem State.heldDrives_only (s : State) (m : Nat) : OnlyRegs s (s.heldDrives m) [0x40810] := OnlyRegs.ite (s.put_onlyRegs fDriveOther 1) (OnlyRegs.refl s _)

theorem State.bankDropped_only (s : State) (m : Nat) : OnlyRegs s (s.bankDropped m) [0x5000] :=
  OnlyRegs.ite ((s.put_onlyRegs fBankPending 0).trans (State.put_onlyRegs _ fPwrRejected 1)) (OnlyRegs.refl s _)

theorem State.setMode_eq (s : State) (m : Nat) : ∃ veh, s.setMode m = { (((s.modeShown m).heldDrives m).bankDropped m).hdgSetMode m with veh } := by
  change ∃ veh, (if decide (s.mode ≠ m) then State.setVeh _ _ else (((s.modeShown m).heldDrives m).bankDropped m).hdgSetMode m) = _
  split
  · exact ⟨_, rfl⟩
  · exact ⟨_, rfl⟩

theorem State.setMode_taken {s : State} (hs : State.Ok s) {m : Nat} (hm : m < 4) : ModeTaken s (s.setMode m) m := by
  obtain ⟨veh, hveh⟩ := s.setMode_eq m
  have hput := hs.put fReeveMode m
  have hshown := hput.put fFaultNLow (b2n (m ≠ 0))
  have hmode : (s.modeShown m).get fReeveMode = m :=
    (State.get_put_other hput _ rfl rfl).trans ((State.get_put_same s fReeveMode m hs.regsKeyed rfl).trans (Nat.mod_eq_of_lt hm))
  have hlow : (s.modeShown m).get fFaultNLow = b2n (m ≠ 0) :=
    (State.get_put_same _ fFaultNLow _ hput.regsKeyed rfl).trans (Nat.mod_eq_of_lt (b2n_lt_two _))
  have hkept (f : Fld) (hfm : fReeveMode.apart f = true) (hfl : fFaultNLow.apart f = true) : (s.modeShown m).get f = s.get f :=
    (State.get_put_other hput _ rfl hfl).trans (State.get_put_other hs m rfl hfm)
  have hfirst : OnlyRegs s (s.modeShown m) [0x100000] := (s.put_onlyRegs fReeveMode m).trans (State.put_onlyRegs _ fFaultNLow _)
  change State.Ok (s.modeShown m) at hshown
  have hdrives := (s.modeShown m).heldDrives_only m
  have hbank := ((s.modeShown m).heldDrives m).bankDropped_only m
  have hbok : State.Ok (((s.modeShown m).heldDrives m).bankDropped m) :=
    have hev := ev_ite (ev_put (Evolves.refl (s.modeShown m))) (Evolves.refl (s.modeShown m))
    hshown.of_evolves (ev_ite (ev_put (ev_put hev)) hev)
  have hhdg := (State.hdgSetMode_only hbok m).trans (State.setVeh_stopOnly _ veh _)
  have hget (f : Fld) (hkey : f.key = 0x100000) : (s.setMode m).get f = (s.modeShown m).get f := by
    rw [hveh]
    exact (hhdg.regs.get (by rw [hkey]; decide)).trans ((hbank.regs.get (by rw [hkey]; decide)).trans (hdrives.regs.get (by rw [hkey]; decide)))
  refine ⟨?_, (hget fReeveMode rfl).trans hmode, fun hne => ?_, fun f hkey hfm hfl => (hget f hkey).trans (hkept f hfm hfl)⟩
  · rw [hveh]
    exact (((hfirst.stopOnly.mono (by simp [modeKeys])).trans (hdrives.stopOnly.mono (by simp [modeKeys]))).trans
      (hbank.stopOnly.mono (by simp [modeKeys]))).trans (hhdg.mono fun k hk => by simp [modeKeys, hk])
  · rw [State.flag, hget fFaultNLow rfl, hlow]
    simp [b2n, hne]

-- THE FRAME

/-- What a recovery discards (R571): armed slots, twin records and local frames; ABORTs go to the ports. -/
structure FrameDropped (s t : State) : Prop where
  regs : keepsRegs s t [0x38000]
  rest : t = { s with regs := t.regs, tb := { s.tb with slots := [] }, qm := { s.qm with pairs := [] }, reeve := { s.reeve with twins := [] }, kly := t.kly }

theorem State.klyHold_eq (s : State) (i : Nat) : ∃ kly, s.klyHold i = { s with kly } := by
  unfold State.klyHold
  dsimp only
  split
  · exact ⟨_, rfl⟩
  · exact ⟨_, rfl⟩

theorem foldl_kly_eq {f : State → Nat → State} {r : State} (hf : ∀ s i, ∃ kly, f s i = { s with kly }) : ∀ (l : List Nat) {s : State},
    (∃ kly, s = { r with kly }) → ∃ kly, l.foldl f s = { r with kly }
  | [], _, h => h
  | i :: l, s, ⟨kly, hkly⟩ => by
    obtain ⟨kly', hkly'⟩ := hf s i
    exact foldl_kly_eq hf l ⟨kly', by rw [hkly', hkly]⟩

theorem State.sendAborts_eq (s : State) (count : Nat) (frame : Word) (held : Bool) : ∃ kly, s.sendAborts count frame held = { s with kly } :=
  foldl_kly_eq (fun _ _ => State.klyHold_eq (State.setKport _ _ _) _) _ ⟨_, rfl⟩

theorem State.dropFrame_dropped (s : State) : FrameDropped s s.dropFrame :=
  ⟨keepsRegs_put ((s.discardSlots.setQm { s.qm with pairs := [] }).setReeve { s.reeve with twins := [] }) fCeFenced 1, rfl⟩

theorem State.dropFrame_sendAborts (s : State) (count : Nat) (frame : Word) (held : Bool) : FrameDropped s (s.dropFrame.sendAborts count frame held) := by
  obtain ⟨kly, hkly⟩ := s.dropFrame.sendAborts_eq count frame held
  have hdrop := s.dropFrame_dropped
  rw [hkly]
  exact ⟨hdrop.regs, by rw [hdrop.rest]⟩

-- A RECOVERY STARTS

/-- What is noted of a recovery's cause before the freeze: its count, its log entry, D and the cause (R93, R616, R640). -/
def State.causeNoted (s : State) (e : FaultEvent) (disp number : Nat) : State :=
  (((s.bump kRecoveries).flogWrite e disp number).setReg64 kDetect s.tb.ns).put fLastCause e.code.toNat

/-- The mode of a recovery, shown with CAPTURING; HELD stays (R79, R505). -/
def State.recoveryShown (s : State) : State := if (s.on fCapturing).isHeld then s.on fCapturing else (s.on fCapturing).setMode 1

theorem State.startRecovery_eq (s : State) (e : FaultEvent) : ∃ (disp number : Nat) (reeve : Reeve) (r : Recovery) (part : PartCtl) (count : Nat) (frame : Word)
    (held : Bool), s.startRecovery e = ((((s.causeNoted e disp number).setReeve reeve).freeze.recoveryShown.setPartCtl part).dropFrame).sendAborts count frame held ∧
      reeve.recovery = some r ∧ r.cause = e.code ∧ r.source = e.source ∧ r.detect = s.now ∧ r.swept = false ∧
      r.noRestart = (decide (3 ≤ s.faultsWith.length) || (s.causeNoted e disp number).isHeld) :=
  ⟨_, _, _, _, _, _, _, _, rfl, rfl, rfl, rfl, rfl, rfl, rfl⟩

/-- A recovery's cause is noted: the count, D and LAST_CAUSE show it (R93, R616). -/
structure CauseNoted (s t : State) (e : FaultEvent) : Prop where
  regs : keepsRegs s t [kRecoveries, kFlogHead, kDetect, kDetect + 4, 0x100000]
  count : t.reg kRecoveries = (s.bump kRecoveries).reg kRecoveries
  detect : t.reg64 kDetect = s.tb.ns
  cause : t.get fLastCause = e.code.toNat
  kept : ∀ f : Fld, f.key = 0x100000 → fLastCause.apart f = true → t.get f = s.get f
  rest : t = { s with regs := t.regs, reeve := { s.reeve with flog := t.reeve.flog } }

theorem State.causeNoted_taken {s : State} (hs : State.Ok s) (e : FaultEvent) (disp number : Nat) : CauseNoted s (s.causeNoted e disp number) e := by
  have hlog := (s.bump kRecoveries).flogWrite_only e disp number
  have hlok : State.Ok ((s.bump kRecoveries).flogWrite e disp number) := hs.of_evolves (ev_flogWrite (ev_bump (Evolves.refl s)))
  have hrest : (s.bump kRecoveries).flogWrite e disp number = { s with
      regs := ((s.bump kRecoveries).flogWrite e disp number).regs
      reeve := { s.reeve with flog := ((s.bump kRecoveries).flogWrite e disp number).reeve.flog } } := rfl
  unfold State.causeNoted
  generalize (s.bump kRecoveries).flogWrite e disp number = u at *
  have hcount := keepsRegs_bump s kRecoveries
  have hdetect := keepsRegs_setReg64 u kDetect s.tb.ns
  have hdok : State.Ok (u.setReg64 kDetect s.tb.ns) := hlok.of_evolves (ev_setReg64 (Evolves.refl u))
  have hcause := keepsRegs_put (u.setReg64 kDetect s.tb.ns) fLastCause e.code.toNat
  refine ⟨?_, ?_, ?_, ?_, fun f hkey hf => ?_, ?_⟩
  · exact (((hcount.mono (by simp)).trans (hlog.regs.mono (by simp))).trans (hdetect.mono (by simp))).trans (hcause.mono (by simp [fLastCause]))
  · exact (hcause _ (by decide)).trans ((hdetect _ (by decide)).trans (hlog.regs _ (by decide)))
  · exact (hcause.reg64 (by decide) (by decide)).trans (State.reg64_setReg64_same hlok _ _)
  · exact (State.get_put_same _ fLastCause _ hdok.regsKeyed rfl).trans (Nat.mod_eq_of_lt e.code.isLt)
  · exact (State.get_put_other hdok _ rfl hf).trans ((hdetect.get (by rw [hkey]; decide)).trans
      ((hlog.regs.get (by rw [hkey]; decide)).trans (hcount.get (by rw [hkey]; decide))))
  · rw [hrest]; rfl

/-- RECOVERY is shown, with CAPTURING. -/
structure RecoveryShown (s t : State) : Prop where
  only : StopOnly s t modeKeys
  mode : t.mode = 1
  capturing : t.flag fCapturing = true
  kept : ∀ f : Fld, f.key = 0x100000 → fReeveMode.apart f = true → fFaultNLow.apart f = true → fCapturing.apart f = true → t.get f = s.get f

theorem State.recoveryShown_taken {s : State} (hs : State.Ok s) (hheld : s.isHeld = false) : RecoveryShown s s.recoveryShown := by
  have hmode : (s.on fCapturing).mode = s.mode := State.get_put_other hs 1 rfl rfl
  have hgo : s.recoveryShown = (s.on fCapturing).setMode 1 := if_neg (by rw [State.isHeld, hmode]; exact Bool.eq_false_iff.mp hheld)
  have htaken := State.setMode_taken (hs.put fCapturing 1) (m := 1) (by decide)
  rw [hgo]
  refine ⟨((s.put_onlyRegs fCapturing 1).stopOnly.mono (by simp [fCapturing, modeKeys])).trans htaken.only, htaken.mode, ?_, fun f hkey hm hl hc => ?_⟩
  · exact (congrArg (· != 0) (htaken.kept fCapturing rfl rfl rfl)).trans (State.flag_on_same hs rfl rfl)
  · exact (htaken.kept f hkey hm hl).trans (State.get_put_other hs 1 rfl hc)

/-- What the start of a recovery shows and discards (R91, R93, R255, R571, R614, R616). -/
structure RecoveryStarted (s t : State) (e : FaultEvent) : Prop where
  mode : t.mode = 1
  fenced : t.fenced = true
  capturing : t.flag fCapturing = true
  cause : t.get fLastCause = e.code.toNat
  detect : t.reg64 kDetect = s.tb.ns
  count : t.reg kRecoveries = (s.bump kRecoveries).reg kRecoveries
  frozen : ∀ k, k < s.nCores → (t.core k).frozen = true
  slots : t.tb.slots = []
  queues : t.qm.queues = s.qm.queues
  table : t.qm.dt = s.qm.dt
  ram : keepsRam s t

theorem State.startRecovery_started {s : State} (hs : State.Ok s) (e : FaultEvent) (hheld : s.isHeld = false) (hfew : s.faultsWith.length < 3) :
    RecoveryStarted s (s.startRecovery e) e ∧ ∃ r, (s.startRecovery e).reeve.recovery = some r ∧ r.cause = e.code ∧ r.source = e.source ∧ r.detect = s.now ∧
      r.noRestart = false ∧ r.swept = false := by
  obtain ⟨disp, number, reeve, r, part, count, frame, held, hstart, hrec, hcause, hsource, hdetect, hswept, hfinal⟩ := s.startRecovery_eq e
  have hnoted := State.causeNoted_taken hs e disp number
  have hnok : State.Ok ((s.causeNoted e disp number).setReeve reeve) :=
    hs.of_evolves (ev_setReeve (ev_put (ev_setReg64 (ev_flogWrite (ev_bump (Evolves.refl s))))))
  rw [hstart]
  generalize s.causeNoted e disp number = u at *
  have hunheld : u.isHeld = false := (congrArg (· == 2) (hnoted.kept fReeveMode rfl rfl)).trans hheld
  have hfreeze := State.freeze_taken hnok
  have hfok : State.Ok (u.setReeve reeve).freeze := hnok.of_evolves (ev_freeze (Evolves.refl _))
  generalize (u.setReeve reeve).freeze = v at *
  have hshown := State.recoveryShown_taken hfok ((congrArg (· == 2) (hfreeze.kept fReeveMode rfl rfl rfl)).trans hunheld)
  generalize v.recoveryShown = w at *
  have hdrop := (w.setPartCtl part).dropFrame_sendAborts count frame held
  generalize (w.setPartCtl part).dropFrame.sendAborts count frame held = t at *
  have hreg {k : Nat} (hd : k ∉ [0x38000]) (hm : k ∉ modeKeys) (hlo : 0x5200 ≤ k) (hne : k ≠ 0x100000) : t.reg k = u.reg k :=
    (hdrop.regs k hd).trans ((hshown.only.regs k hm).trans (hfreeze.regs k (.inr hlo) hne))
  have hfld (f : Fld) (hkey : f.key = 0x100000) : t.get f = w.get f := hdrop.regs.get (by rw [hkey]; decide)
  have hrest : t = { s with
      regs := t.regs, cores := v.cores, power := t.power, veh := t.veh, part := t.part, kly := t.kly
      tb := { s.tb with slots := [] }, qm := { s.qm with pairs := [] }, reeve := { reeve with twins := [] } } := by
    rw [hdrop.rest, hshown.only.rest, hfreeze.rest, hnoted.rest]; rfl
  refine ⟨⟨(hfld fReeveMode rfl).trans hshown.mode, ?_, (congrArg (· != 0) (hfld fCapturing rfl)).trans hshown.capturing, ?_, ?_, ?_,
    fun k hk => ?_, ?_, ?_, ?_, ?_⟩, r, ?_, hcause, hsource, hdetect, ?_, hswept⟩
  · exact (congrArg (· != 0) ((hfld fFenced rfl).trans (hshown.kept fFenced rfl rfl rfl rfl))).trans hfreeze.fenced
  · exact (hfld fLastCause rfl).trans ((hshown.kept fLastCause rfl rfl rfl rfl).trans ((hfreeze.kept fLastCause rfl rfl rfl).trans hnoted.cause))
  · have hlo : t.reg kDetect = u.reg kDetect := hreg (by decide) (by decide) (by decide) (by decide)
    have hhi : t.reg (kDetect + 4) = u.reg (kDetect + 4) := hreg (by decide) (by decide) (by decide) (by decide)
    rw [State.reg64, hlo, hhi]
    exact hnoted.detect
  · exact (hreg (by decide) (by decide) (by decide) (by decide)).trans hnoted.count
  · have hcores : t.cores = v.cores := by rw [hrest]
    rw [State.core, hcores]
    refine hfreeze.frozen k ?_
    rw [hnoted.rest]
    exact hk
  · rw [hrest]
  · rw [hrest]
  · rw [hrest]
  · intro a; rw [hrest]; rfl
  · rw [hrest]; exact hrec
  · rw [hfinal, hunheld, Bool.or_false, decide_eq_false_iff_not]; omega

-- HELD

theorem State.partEvent_stays {s : State} (hs : State.Ok s) {p q b : Nat} (hq : q < 8) (hb : b < 32) (hset : s.flag (fPartEvent q b) = true) :
    (s.partEvent p b).flag (fPartEvent q b) = true := by
  by_cases hqp : q = p
  · exact hqp ▸ State.partEvent_flag hs hq hb
  · have hapart : kPart q 0x28 ≠ kPart p 0x28 := by simp only [kPart]; omega
    exact ((s.partEvent_only p b).regs.flag (by simp [State.eventKeys, fPartEvent, hapart, ne_vecPend_of_part hq])).trans hset

theorem foldl_partEvent_flags {q b : Nat} (hq : q < 8) (hb : b < 32) : ∀ {l : List Nat} {s : State}, State.Ok s → (∀ p ∈ l, p < 8) →
    q ∈ l ∨ s.flag (fPartEvent q b) = true → (l.foldl (fun s p => s.partEvent p b) s).flag (fPartEvent q b) = true
  | [], _, _, _, h => h.resolve_left List.not_mem_nil
  | p :: _, s, hs, hl, h => by
    refine foldl_partEvent_flags hq hb (s := s.partEvent p b) (hs.of_evolves (ev_partEvent (Evolves.refl s))) (fun x hx => hl x (List.mem_cons_of_mem p hx)) ?_
    rcases h with hmem | hset
    · rcases List.mem_cons.mp hmem with rfl | hmem
      · exact .inr (State.partEvent_flag hs hq hb)
      · exact .inl hmem
    · exact .inr (State.partEvent_stays hs hq hb hset)

theorem foldl_partEvent_keeps {k b : Nat} (hk : ∀ (s : State) p, k ∉ s.eventKeys p) : ∀ (l : List Nat) (s : State),
    (l.foldl (fun s p => s.partEvent p b) s).reg k = s.reg k
  | [], _ => rfl
  | p :: l, s => (foldl_partEvent_keeps hk l (s.partEvent p b)).trans ((s.partEvent_only p b).regs k (hk s p))

theorem reeveStatus_not_eventKey (s : State) (p : Nat) : 0x100000 ∉ s.eventKeys p := by
  have hv := s.get_lt (fEventVec p)
  simp only [fEventVec, kPart] at hv
  simp only [State.eventKeys, kPart, fVecPend, ownN, fEventVec, List.mem_cons, List.not_mem_nil, or_false]
  omega

theorem State.partEnabled_congr {s t : State} {p : Nat} (hpcie : t.pcie = s.pcie) (hreg : t.reg (kPart p 0) = s.reg (kPart p 0)) : t.partEnabled p = s.partEnabled p := by
  rw [State.partEnabled, State.partEnabled, State.flag, State.flag, State.get, State.get, hpcie, hreg]

/-- The mode is HELD with a cause, and every enabled partition has its event (R79, R128, R505). -/
structure HeldShown (s t : State) (code : Nat) : Prop where
  mode : t.mode = 2
  low : t.flag fFaultNLow = true
  cause : t.get fHdgHeldCause = if s.get fHdgHeldCause = 0 then code else s.get fHdgHeldCause
  kept : ∀ f : Fld, f.key = 0x100000 → fReeveMode.apart f = true → fFaultNLow.apart f = true → t.get f = s.get f
  events : ∀ p, p < 8 → s.partEnabled p = true → t.flag (fPartEvent p 3) = true
  rest : t = { s with regs := t.regs, veh := t.veh, emitted := t.emitted }

theorem State.toHeld_eq {s : State} (halive : s.reeve.alive = true) (hheld : s.isHeld = false) (code : Nat) :
    s.toHeld code = ((s.heldCause code).setMode 2).heldEvents := by
  have hkept : (s.heldCause code).reeve.alive = true := by rw [(s.heldCause_only code).rest]; exact halive
  unfold State.toHeld
  dsimp only
  rw [if_pos hkept, if_neg (Bool.eq_false_iff.mp hheld)]

theorem State.toHeld_shown {s : State} (hs : State.Ok s) (halive : s.reeve.alive = true) (hheld : s.isHeld = false) {code : Nat} (hcode : code < 0x10000) :
    HeldShown s (s.toHeld code) code := by
  have hcause := s.heldCause_only code
  have hfirst := State.heldCause_first hs hcode
  have hcok : State.Ok (s.heldCause code) := hs.of_evolves (ev_heldCause (Evolves.refl s))
  rw [State.toHeld_eq halive hheld]
  generalize s.heldCause code = u at *
  have hmode := State.setMode_taken hcok (m := 2) (by decide)
  have hmok : State.Ok (u.setMode 2) := hcok.of_evolves (ev_setMode (Evolves.refl u))
  have hmrest : u.setMode 2 = { s with regs := (u.setMode 2).regs, veh := (u.setMode 2).veh } := by rw [hmode.only.rest, hcause.rest]
  have henabled (p : Nat) (hp : p < 8) : (u.setMode 2).partEnabled p = s.partEnabled p :=
    State.partEnabled_congr (by rw [hmrest]) <| by
      refine (hmode.only.regs _ ?_).trans (hcause.regs _ ?_)
      · simp [modeKeys, hdgModeKeys, kPart, kHdgRecovery, kHdgLastStop]; omega
      · simp [kPart]; omega
  have hget (f : Fld) (hkey : f.key = 0x100000) : (u.setMode 2).heldEvents.get f = (u.setMode 2).get f :=
    congrArg f.ofWord (by rw [hkey]; exact foldl_partEvent_keeps reeveStatus_not_eventKey _ _)
  obtain ⟨hlow, hevents⟩ := (u.setMode 2).heldEvents_only
  refine ⟨(hget fReeveMode rfl).trans hmode.mode, (congrArg (· != 0) (hget fFaultNLow rfl)).trans (hmode.low (by decide)), ?_, fun f hkey hm hl => ?_,
    fun p hp hon => ?_, ?_⟩
  · exact (congrArg fHdgHeldCause.ofWord (hlow _ (by decide))).trans ((hmode.only.regs.get (by decide)).trans hfirst)
  · exact (hget f hkey).trans ((hmode.kept f hkey hm hl).trans (hcause.regs.get (by rw [hkey]; decide)))
  · refine foldl_partEvent_flags hp (by decide) hmok (fun q hq => List.mem_range.mp (List.mem_filter.mp hq).1) (.inl ?_)
    exact List.mem_filter.mpr ⟨List.mem_range.mpr hp, (henabled p hp).trans hon⟩
  · rw [hevents, hmrest]

/-- What a HELD event does beyond the freeze and the mode: the crash record's start, JOB_LOST, and the frame it discards (R505, R626). -/
structure HeldEnds (s t : State) : Prop where
  get : ∀ f : Fld, fCapturing.apart f = true → f.key ≠ 0x38000 → t.get f = s.get f
  rest : t = { s with regs := t.regs, reeve := t.reeve, part := t.part, tb := t.tb, qm := t.qm, kly := t.kly }

/-- A HELD with a crash record, begun as one without a recovery's end (R626). -/
theorem State.heldRecord_ends {s : State} (hs : State.Ok s) (record : Bool) (reeve : Reeve) :
    HeldEnds s (if record then (s.setReeve reeve).on fCapturing else s) := by
  cases record
  · exact ⟨fun _ _ _ => rfl, rfl⟩
  · have hset : State.Ok (s.setReeve reeve) := hs.of_evolves (ev_setReeve (Evolves.refl s))
    exact ⟨fun f hf _ => State.get_put_other hset 1 rfl hf, rfl⟩

theorem HeldEnds.dropped {s w t : State} {part : PartCtl} (h : HeldEnds s w) (hdrop : FrameDropped (w.setPartCtl part) t) : HeldEnds s t where
  get f hf hkey := (hdrop.regs.get (by simpa using hkey)).trans (h.get f hf hkey)
  rest := by rw [hdrop.rest, h.rest]; rfl

theorem State.heldOutside_ends {s : State} (hs : State.Ok s) (e : FaultEvent) : HeldEnds (s.freeze.toHeld e.code.toNat) (s.heldOutside e) := by
  have hok : State.Ok (s.freeze.toHeld e.code.toNat) := hs.of_evolves (ev_toHeld (ev_freeze (Evolves.refl s)))
  have hends : ∃ (record : Bool) (reeve : Reeve) (part : PartCtl) (count : Nat), s.heldOutside e =
      ((if record then ((s.freeze.toHeld e.code.toNat).setReeve reeve).on fCapturing else s.freeze.toHeld e.code.toNat).setPartCtl part).dropFrame.sendAborts
        count 0xFFFFFFFF true := ⟨_, _, _, _, rfl⟩
  obtain ⟨record, reeve, part, count, hends⟩ := hends
  rw [hends]
  exact (State.heldRecord_ends hok record reeve).dropped (State.dropFrame_sendAborts _ _ _ _)

/-- What a HELD event shows in a live device outside a recovery (R79, R128, R505, R618). -/
structure HeldTaken (s t : State) (e : FaultEvent) : Prop where
  mode : t.mode = 2
  fenced : t.fenced = true
  lastCause : t.get fLastCause = e.code.toNat
  low : t.flag fFaultNLow = true
  cause : t.get fHdgHeldCause = if s.get fHdgHeldCause = 0 then e.code.toNat else s.get fHdgHeldCause
  frozen : ∀ k, k < s.nCores → (t.core k).frozen = true
  events : ∀ p, p < 8 → s.partEnabled p = true → t.flag (fPartEvent p 3) = true
  ram : keepsRam s t

theorem State.heldEvent_outside {s : State} {e : FaultEvent} (hs : State.Ok s) (halive : s.reeve.alive = true) (hnone : s.reeve.recovery = none)
    (hheld : s.isHeld = false) : s.heldEvent e = ((s.flogWrite e 3 0).put fLastCause e.code.toNat).heldOutside e := by
  have hlog := s.flogWrite_only e 3 0
  have hlok : State.Ok (s.flogWrite e 3 0) := hs.of_evolves (ev_flogWrite (Evolves.refl s))
  have hmode : ((s.flogWrite e 3 0).put fLastCause e.code.toNat).mode = s.mode :=
    (State.get_put_other hlok _ rfl rfl).trans (hlog.regs.get (by decide))
  have hrec : ((s.flogWrite e 3 0).put fLastCause e.code.toNat).reeve.recovery = none := hnone
  unfold State.heldEvent
  dsimp only
  rw [if_pos halive, hrec]
  exact if_neg (by rw [State.isHeld, hmode]; exact Bool.eq_false_iff.mp hheld)

theorem State.heldEvent_taken {s : State} {e : FaultEvent} (hs : State.Ok s) (halive : s.reeve.alive = true) (hnone : s.reeve.recovery = none)
    (hheld : s.isHeld = false) : HeldTaken s (s.heldEvent e) e := by
  have hlog := s.flogWrite_only e 3 0
  have hlok : State.Ok (s.flogWrite e 3 0) := hs.of_evolves (ev_flogWrite (Evolves.refl s))
  rw [State.heldEvent_outside hs halive hnone hheld]
  generalize s.flogWrite e 3 0 = u at *
  have hput := u.put_onlyRegs fLastCause e.code.toNat
  have hpok := hlok.put fLastCause e.code.toNat
  have hlast : (u.put fLastCause e.code.toNat).get fLastCause = e.code.toNat :=
    (State.get_put_same u fLastCause _ hlok.regsKeyed rfl).trans (Nat.mod_eq_of_lt e.code.isLt)
  have hmode : (u.put fLastCause e.code.toNat).get fReeveMode = s.get fReeveMode := (State.get_put_other hlok _ rfl rfl).trans (hlog.regs.get (by decide))
  have hvrest : u.put fLastCause e.code.toNat = { s with regs := (u.put fLastCause e.code.toNat).regs, reeve := { s.reeve with flog := u.reeve.flog } } := by
    rw [hput.rest, hlog.rest]
  have hvreg {k : Nat} (hl : k ∉ [kFlogHead]) (hne : k ∉ [fLastCause.key]) : (u.put fLastCause e.code.toNat).reg k = s.reg k :=
    (hput.regs k hne).trans (hlog.regs k hl)
  generalize u.put fLastCause e.code.toNat = v at *
  have hfreeze := State.freeze_taken hpok
  have hfok : State.Ok v.freeze := hpok.of_evolves (ev_freeze (Evolves.refl v))
  have hfalive : v.freeze.reeve.alive = true := by rw [hfreeze.rest, hvrest]; exact halive
  have hunheld : v.freeze.isHeld = false := (congrArg (· == 2) ((hfreeze.kept fReeveMode rfl rfl rfl).trans hmode)).trans hheld
  have hshown := State.toHeld_shown hfok hfalive hunheld e.code.isLt
  have hends := State.heldOutside_ends hpok e
  have hcause : v.freeze.get fHdgHeldCause = s.get fHdgHeldCause :=
    congrArg fHdgHeldCause.ofWord ((hfreeze.regs _ (by decide) (by decide)).trans (hvreg (by decide) (by decide)))
  have henabled (p : Nat) (hp : p < 8) : v.freeze.partEnabled p = s.partEnabled p :=
    State.partEnabled_congr (by rw [hfreeze.rest, hvrest]) <|
      (hfreeze.regs _ (by simp only [kPart]; omega) (by simp only [kPart]; omega)).trans
        (hvreg (by simp [kPart, kFlogHead]; omega) (by simp [kPart, fLastCause]; omega))
  have hcores : (v.heldOutside e).cores = v.freeze.cores := by rw [hends.rest, hshown.rest]
  refine ⟨(hends.get fReeveMode rfl (by decide)).trans hshown.mode, ?_, ?_, (congrArg (· != 0) (hends.get fFaultNLow rfl (by decide))).trans hshown.low,
    ?_, fun k hk => ?_, fun p hp hon => ?_, fun a => ?_⟩
  · exact (congrArg (· != 0) ((hends.get fFenced rfl (by decide)).trans (hshown.kept fFenced rfl rfl rfl))).trans hfreeze.fenced
  · exact (hends.get fLastCause rfl (by decide)).trans ((hshown.kept fLastCause rfl rfl rfl).trans ((hfreeze.kept fLastCause rfl rfl rfl).trans hlast))
  · rw [hends.get fHdgHeldCause rfl (by decide), hshown.cause, hcause]
  · rw [State.core, hcores]
    refine hfreeze.frozen k ?_
    rw [hvrest]
    exact hk
  · have hkey : (fPartEvent p 3).key = 0x28128 + 0x80 * p := by simp only [fPartEvent, kPart]; omega
    have hapart : fCapturing.apart (fPartEvent p 3) = true := by
      have hne : fCapturing.key ≠ (fPartEvent p 3).key := by rw [hkey]; simp only [fCapturing]; omega
      simp [Fld.apart, hne]
    exact (congrArg (· != 0) (hends.get (fPartEvent p 3) hapart (by rw [hkey]; omega))).trans (hshown.events p hp ((henabled p hp).trans hon))
  · rw [hends.rest, hshown.rest, hfreeze.rest, hvrest]; rfl

/-- Settles O38: a recovery's start goes through `State.startRecovery_started`, a HELD event through `State.heldEvent_taken`; the logs have
their lemmas above. -/
theorem faultEventsReachTheirLogsAndRecovery : Obligations.FaultEventsReachTheirLogsAndRecovery := by
  unfold Obligations.FaultEventsReachTheirLogsAndRecovery
  intro s hs
  have hset (r : Reeve) : State.Ok (s.setReeve r) := hs.of_evolves (ev_setReeve (Evolves.refl s))
  refine ⟨fun n hsome hn hfaults halive hnone hheld hfew => ?_, fun e rest hevents halive hdisp => ⟨fun hnew => ?_, fun hlate => ?_⟩,
    fun e rest hevents halive hdisp => ⟨fun hroom => ?_, fun hfull => ?_⟩, fun e rest hevents halive hdisp hnone hheld => ?_,
    fun e time tick rest hqueue halive => ⟨fun hlate => ?_, fun hnew => ?_⟩, fun hempty => ?_⟩
  · obtain ⟨c, hc, hcause, hbefore⟩ := causeOf_preferred hsome
    have hexec := faultEventArrival_jobFaults halive hfaults hcause hnone
    obtain ⟨hstarted, r, hrec, hcode, hsource, hdetect, hfinal, hswept⟩ :=
      State.startRecovery_started (hset { s.reeve with events := [] }) c hheld hfew
    exact ⟨_, r, c, hc, hn ▸ hexec, hbefore, hrec, hcode, hsource, hdetect, hfinal, hswept, hstarted.mode, hstarted.fenced, hstarted.frozen, hstarted.detect,
      hstarted.cause, hstarted.count, hstarted.capturing, hstarted.slots, hstarted.queues, hstarted.table, hstarted.ram⟩
  · obtain ⟨last, hlogged⟩ := State.logReport_logged (s := s.setReeve { s.reeve with events := rest }) hnew
    refine ⟨_, (faultEventArrival_report hevents halive hdisp).trans (congrArg _ hlogged), State.flogWrite_entry (s.setReeve { s.reeve with events := rest }) e 0 0, ?_,
      (State.flogWrite_only (s.setReeve { s.reeve with events := rest }) e 0 0).regs, fun _ => rfl, rfl⟩
    exact State.reg_setReg_same (s.setReeve _) kFlogHead _ hs.regsKeyed
  · exact ⟨_, (faultEventArrival_report hevents halive hdisp).trans (congrArg _ (State.logReport_suppressed hlate)), State.bump_reg_congr hs (hset _) rfl,
      keepsRegs_bump (s.setReeve _) kFlogSuppressed, fun _ => rfl, rfl⟩
  · exact (faultEventArrival_violation hevents halive hdisp).trans (congrArg _ (if_pos hroom))
  · exact ⟨_, (faultEventArrival_violation hevents halive hdisp).trans (congrArg _ (if_neg (Nat.not_lt.mpr hfull))), State.bump_reg_congr hs (hset _) rfl,
      keepsRegs_bump (s.setReeve _) kVlogDropped, fun _ => rfl, rfl⟩
  · have htaken := State.heldEvent_taken (hset { s.reeve with events := rest }) (e := e) halive hnone hheld
    exact ⟨_, faultEventArrival_held hevents hdisp, htaken.mode, htaken.fenced, htaken.lastCause, htaken.low, htaken.cause, htaken.frozen, htaken.events, htaken.ram⟩
  · exact ⟨_, violationLogWrite_suppressed hqueue halive hlate, State.bump_reg_congr hs (hset _) rfl,
      keepsRegs_bump (s.setReeve _) kVlogSuppressed, fun _ => rfl, rfl⟩
  · obtain ⟨last, hexec⟩ := violationLogWrite_written hqueue halive hnew
    exact ⟨_, hexec, State.reg_setReg_same (s.setReeve _) kVlogHead _ hs.regsKeyed, Tbl.find_put_same _ _ _,
      keepsRegs_setReg (s.setReeve _) kVlogHead _, fun _ => rfl, rfl⟩
  · change execViolationLogWrite s = _
    rw [execViolationLogWrite, hempty]

end Sys2Proof.Machine

/-! THE PLLS. A PLL that locks, one that loses its lock, the crystal's loss, and the SPLL's calibration (20_clocks_power_boot.md; R169, R727, R741, R742, R773, R774). -/
namespace Sys2Proof.Machine

theorem fPll_ok (p : Pll) : (fPll p.idx).ok = true := by cases p <;> rfl

-- A CALIBRATION FALLS DUE

/-- A calibration that is due already keeps its time; any other falls due now (R741, R742). -/
theorem State.calDue_due (s : State) : ∃ d, s.calDue = { s with power := { s.power with calDue := some d } } ∧
    ∀ d', s.power.calDue = some d' → d = d' := by
  unfold State.calDue
  cases h : s.power.calDue with
  | none => exact ⟨s.tb.ticks, rfl, nofun⟩
  | some d =>
    refine ⟨d, (?_ : s = _), fun _ hd => Option.some.inj hd⟩
    rw [← h]

theorem State.ite_calDue_boot (s : State) (c : Prop) [Decidable c] : (if c then s.calDue else s).boot = s.boot := by
  obtain ⟨d, hdue, -⟩ := s.calDue_due
  rw [hdue]; split <;> rfl

theorem State.ite_calDue_get (s : State) (c : Prop) [Decidable c] (f : Fld) : (if c then s.calDue else s).get f = s.get f := by
  obtain ⟨d, hdue, -⟩ := s.calDue_due
  rw [hdue]; split <;> rfl

theorem spllCalRequest_moved (s : State) : exec (.spllCalRequest none) s = .next s.calDue := rfl

theorem spllCalRequest_written {s : State} {v : Word} (hpf : s.turnsAway 0 = false) (hset : v.getLsbD 0 = true) :
    exec (.spllCalRequest (some (0, v))) s = .next (s.calDue.setPower { s.calDue.power with calAsked := true }) :=
  (if_neg (by simp [hpf])).trans (if_pos ⟨rfl, hset⟩)

-- A LOCK

section
variable {s : State} {p : Pll}

/-- Outside a wake, and past the boot's first stage or after its end, a lock sets the PLL's state; before the boot's end the SPLL's calibration falls due
besides (R727, R741). -/
theorem pllLock_locks (hst : s.get (fPll p.idx) = 1 ∨ s.get (fPll p.idx) = 4) (hcrystal : s.power.crystalLost = false) (hrun : s.get fPwrState = pwrRun)
    (hrom : s.boot.done = true ∨ 1 ≤ s.get fBootStage) :
    exec (.pllLock p) s = .next (if p = .spll ∧ s.boot.done = false then (s.put (fPll p.idx) 2).calDue else s.put (fPll p.idx) 2) := by
  have hlocking : ¬ ((s.get (fPll p.idx) ≠ 1 ∧ s.get (fPll p.idx) ≠ 4) ∨ (crystalFed p ∧ s.power.crystalLost)) := by
    simp only [hcrystal]; tauto
  have hawake : (s.put (fPll p.idx) 2).get fPwrState ≠ pwrWaking := by
    rw [(keepsRegs_put s (fPll p.idx) 2).get (by simp [fPll, fPwrState]), hrun]; decide
  have hstage : (s.put (fPll p.idx) 2).get fBootStage = s.get fBootStage := (keepsRegs_put s (fPll p.idx) 2).get (by simp [fPll, fBootStage])
  refine (if_neg hlocking).trans ?_
  simp only [hawake, false_and, if_false, or_false, State.put_boot, Bool.not_eq_true']
  refine if_neg ?_
  rw [State.ite_calDue_get, State.ite_calDue_boot, hstage]
  rintro ⟨-, -, h0, hdone, -⟩
  rcases hrom with hrom | hrom
  · simp [hrom] at hdone
  · omega

-- A LOSS

theorem pllLossOfLock_locked (hst : s.get (fPll p.idx) = 2) (refMissing : Bool) :
    exec (.pllLossOfLock p refMissing) s = .next ((s.put (fPll p.idx) 4).pllLost p) := if_pos hst

theorem pllLossOfLock_calibrating (hst : s.get (fPll p.idx) = 3) : exec (.pllLossOfLock p true) s = .next (s.put (fPll p.idx) 4) :=
  (if_neg (by simp [hst])).trans (if_pos ⟨hst, rfl⟩)

/-- What the loss of a core or memory PLL raises, and that the memory PLL takes the Reeve with it (R773, R774). -/
theorem State.pllLost_core (s : State) (hp : p ∈ [Pll.cpll0, .cpll1, .mpll]) : ∃ ev : FaultEvent, ev.code = 0x8102 ∧ ev.disp = .jobFault ∧
    s.pllLost p = { s with reeve := { s.reeve with events := s.reeve.events ++ [ev], alive := s.reeve.alive && p != .mpll }, draws := s.draws + 1 } := by
  refine ⟨{ code := 0x8102, source := s.anyIsland, disp := .jobFault }, rfl, rfl, ?_⟩
  simp only [List.mem_cons, List.not_mem_nil, or_false] at hp
  rcases hp with rfl | rfl | rfl
  · simp [State.pllLost, State.jobFault, State.raise, State.drawn]
  · simp [State.pllLost, State.jobFault, State.raise, State.drawn]
  · simp [State.pllLost, State.jobFault, State.raise, State.drawn, State.setReeve]

end

-- THE CRYSTAL

/-- One job fault of 0x8105 for each PLL of a list (R773). -/
theorem foldl_crystalFaults : ∀ (l : List Nat) (s : State), ∃ (es : List FaultEvent) (draws : Nat),
    l.foldl (fun s _ => (s.jobFault 0x8105 s.anyIsland).drawn) s = { s with reeve := { s.reeve with events := s.reeve.events ++ es }, draws } ∧
      es.length = l.length ∧ ∀ e ∈ es, e.code = 0x8105 ∧ e.disp = .jobFault
  | [], s => ⟨[], s.draws, by simp, rfl, nofun⟩
  | _ :: l, s => by
    obtain ⟨es, draws, heq, hlen, hes⟩ := foldl_crystalFaults l (s.jobFault 0x8105 s.anyIsland).drawn
    refine ⟨{ code := 0x8105, source := s.anyIsland, disp := .jobFault } :: es, draws, heq.trans ?_, by simp [hlen], ?_⟩
    · simp [State.jobFault, State.raise, State.drawn]
    · simpa using hes

theorem crystalLoss_afterBoot {s : State} (hdone : s.boot.done = true) : exec .crystalLoss s =
    .next (([0, 1, 2, 3, 5].filter (fun i => s.get (fPll i) == 2 || s.get (fPll i) == 3)).foldl (fun s _ => (s.jobFault 0x8105 s.anyIsland).drawn)
      (s.setPower { s.power with crystalLost := true })) :=
  if_neg (by simp [hdone])

-- A CALIBRATION

section
variable {s : State}

theorem spllCalibrationStart_starts (hmay : s.calAllowed = true) (hwin : s.inCalWindow = true) : exec .spllCalibrationStart s = .next s.calStart :=
  if_pos (by simp [hmay, hwin])

theorem spllCalForce_forces {sec : Nat} (hmay : s.calAllowed = true) (hsec : 10 ≤ sec) :
    exec (.spllCalForce sec) s = .next ((s.calStart.bump kSpllForced).report 0x8403 s.anyIsland).drawn := if_pos (by simp [hmay, hsec])

theorem spllCalibrationDone_ends (hst : s.get (fPll 5) = 3) : exec .spllCalibrationDone s = .next ((s.put (fPll 5) 2).bump kSpllCals) := if_pos hst

theorem State.calStart_regs (s : State) : keepsRegs s s.calStart [0x4000] := keepsRegs_put s (fPll 5) 3

theorem State.get_pll_bump (s : State) {k : Nat} (hk : k ≠ 0x4000) (i : Nat) : (s.bump k).get (fPll i) = s.get (fPll i) :=
  (keepsRegs_bump s k).get (by simpa [fPll] using Ne.symm hk)

end

/-- Settles O24: a lock is a `put` (`pllLock_locks`), a loss goes through `State.pllLost_core`, the crystal's through `foldl_crystalFaults`, and a
calibration's request through `State.calDue_due`. -/
theorem pllsLockLoseAndCalibrate : Obligations.PllsLockLoseAndCalibrate := by
  unfold Obligations.PllsLockLoseAndCalibrate
  intro s hs
  have hset : ∀ (p : Pll) (n : Nat), n < 8 → (s.put (fPll p.idx) n).get (fPll p.idx) = n := fun p n hn =>
    (s.get_put_same (fPll p.idx) n hs.regsKeyed (fPll_ok p)).trans (Nat.mod_eq_of_lt hn)
  have hcal : s.calStart.get (fPll 5) = 3 := hset .spll 3 (by decide)
  refine ⟨fun p hst hcrystal hdone hrun => ?_, fun hst => ?_, fun p hst hcrystal _ hdone hstage hrun => ?_, fun p hp hst => ?_,
    fun hst => pllLossOfLock_calibrating (p := .spll) hst, ?_, fun hdone => ?_, fun v hpf hv => ?_, fun hmay hwin => ?_, fun sec hmay hsec => ?_, fun hst => ?_⟩
  · refine ⟨_, (pllLock_locks hst hcrystal hrun (.inl hdone)).trans (congrArg _ (if_neg (by simp [hdone]))), hset p 2 (by decide), s.put_onlyRegs _ 2⟩
  · exact ⟨_, _, pllLossOfLock_locked (p := .spll) hst false, hset .spll 4 (by decide), rfl, rfl, rfl, keepsRegs_put s (fPll 5) 4, fun _ => rfl, rfl⟩
  · have hlock := pllLock_locks hst hcrystal hrun (.inr hstage)
    by_cases hp : p = .spll
    · obtain ⟨d, hdue, -⟩ := (s.put (fPll p.idx) 2).calDue_due
      refine ⟨_, hlock.trans (congrArg _ ((if_pos ⟨hp, hdone⟩).trans hdue)), hset p 2 (by decide), fun _ => rfl, keepsRegs_put s (fPll p.idx) 2, fun _ => rfl, rfl⟩
    · exact ⟨_, hlock.trans (congrArg _ (if_neg (fun h => hp h.1))), hset p 2 (by decide), fun h => absurd h hp, keepsRegs_put s (fPll p.idx) 2, fun _ => rfl, rfl⟩
  · obtain ⟨ev, hcode, hdisp, hlost⟩ := (s.put (fPll p.idx) 4).pllLost_core hp
    exact ⟨_, ev, (pllLossOfLock_locked hst false).trans (congrArg _ hlost), hset p 4 (by decide), hcode, hdisp, rfl, rfl, keepsRegs_put s (fPll p.idx) 4, fun _ => rfl, rfl⟩
  · obtain ⟨d, hdue, hkept⟩ := s.calDue_due
    exact ⟨_, (spllCalRequest_moved s).trans (congrArg _ hdue), rfl, fun d' hd => congrArg some (hkept d' hd), rfl⟩
  · obtain ⟨es, draws, heq, hlen, hes⟩ := foldl_crystalFaults ([0, 1, 2, 3, 5].filter (fun i => s.get (fPll i) == 2 || s.get (fPll i) == 3))
      (s.setPower { s.power with crystalLost := true })
    exact ⟨_, es, (crystalLoss_afterBoot hdone).trans (congrArg _ heq), rfl, rfl, hlen, hes, rfl⟩
  · obtain ⟨d, hdue, hkept⟩ := s.calDue_due
    have hasked := spllCalRequest_written hpf hv
    rw [hdue] at hasked
    exact ⟨_, hasked, rfl, rfl, fun d' hd => congrArg some (hkept d' hd), rfl⟩
  · exact ⟨_, spllCalibrationStart_starts hmay hwin, hcal, s.calStart_regs, fun _ => rfl, rfl⟩
  · have hok : State.Ok s.calStart := hs.of_evolves (ev_calStart (Evolves.refl s))
    refine ⟨_, _, spllCalForce_forces hmay hsec, (s.calStart.get_pll_bump (by decide) 5).trans hcal, rfl, rfl, ?_, rfl, ?_, fun _ => rfl⟩
    · exact State.bump_reg_congr hs hok (s.calStart_regs _ (by decide))
    · exact (s.calStart_regs.mono (by simp)).trans ((keepsRegs_bump s.calStart _).mono (by simp))
  · refine ⟨_, spllCalibrationDone_ends hst, ((s.put (fPll 5) 2).get_pll_bump (by decide) 5).trans (hset .spll 2 (by decide)), ?_, ?_⟩
    · exact State.bump_reg_congr hs (hs.put (fPll 5) 2) (keepsRegs_put s (fPll 5) 2 _ (by decide))
    · exact ((s.put_onlyRegs (fPll 5) 2).mono (by simp [fPll])).trans (((s.put (fPll 5) 2).bump_onlyRegs kSpllCals).mono (by simp))

end Sys2Proof.Machine

/-! CAMERA PORTS. How a port tries its ladder and closes, and what each entry of a script does (04_sensor_intake.md; R137 to R148, R177 to R179). -/
namespace Sys2Proof.Machine

-- WHAT A PORT'S COMMAND CHANGES

/-- Nothing changes but the registers listed and what the Mill holds beside its registers. -/
structure MillOnly (s t : State) (ks : List Nat) : Prop where
  regs : keepsRegs s t ks
  rest : t = { s with regs := t.regs, mill := t.mill }

theorem MillOnly.trans {r s t : State} {ks : List Nat} (h : MillOnly r s ks) (g : MillOnly s t ks) : MillOnly r t ks where
  regs := h.regs.trans g.regs
  rest := by rw [g.rest, h.rest]

theorem MillOnly.mono {s t : State} {ks ls : List Nat} (h : MillOnly s t ks) (hsub : ∀ k ∈ ks, k ∈ ls) : MillOnly s t ls := ⟨h.regs.mono hsub, h.rest⟩

theorem MillOnly.ram {s t : State} {ks : List Nat} (h : MillOnly s t ks) : keepsRam s t := by
  intro a; rw [h.rest]; rfl

theorem OnlyRegs.millOnly {s t : State} {ks : List Nat} (h : OnlyRegs s t ks) : MillOnly s t ks where
  regs := h.regs
  rest := by rw [h.rest]

theorem State.withMill_only (s : State) (mill : Mill) (ks : List Nat) : MillOnly s { s with mill } ks := ⟨fun _ _ => rfl, rfl⟩

theorem State.Ok.withMill {s : State} (hs : State.Ok s) (mill : Mill) : State.Ok { s with mill } := ⟨hs.regs, hs.dram, hs.phys⟩

theorem State.setPort_millOnly (s : State) (p : Nat) (x : PortSt) (ks : List Nat) : MillOnly s (s.setPort p x) ks := ⟨fun _ _ => rfl, rfl⟩

theorem millReject_rejected {s : State} (hs : State.Ok s) : s.millReject.flag fMillRejected = true := State.flag_on_same hs rfl rfl

theorem millReject_onlyRegs (s : State) : OnlyRegs s s.millReject [0x10000] := s.put_onlyRegs fMillRejected 1

-- THE LADDER

theorem State.entryFrom_lt {s : State} {p m e : Nat} (h : s.entryFrom p m = some e) : e < 4 := List.mem_range.mp (List.mem_of_find?_eq_some h)

theorem State.entryFrom_kept {s t : State} {p : Nat} {ks : List Nat} (h : keepsRegs s t ks) (hks : ∀ i, i < 4 → (fModeValid p i).key ∉ ks) (m : Nat) :
    t.entryFrom p m = s.entryFrom p m := by
  have hvalid : ∀ i, i < 4 → t.flag (fModeValid p i) = s.flag (fModeValid p i) := fun i hi => h.flag (hks i hi)
  exact List.find?_congr fun i hi => by rw [hvalid i (List.mem_range.mp hi)]

theorem State.portFrom_some {s : State} {p m e : Nat} (h : s.entryFrom p m = some e) : s.portFrom p m = s.portTry p e := by
  rw [State.portFrom, h]

theorem State.portFrom_none {s : State} {p m : Nat} (h : s.entryFrom p m = none) : s.portFrom p m = s.portFailed p := by
  rw [State.portFrom, h]

/-- A script runs on a port's master from an entry on (R147). -/
structure ScriptStarted (s t : State) (p entry : Nat) (ladder : Bool) : Prop where
  script : (t.port p).script = some { entry, ladder }
  i2c : t.get (fI2cState p) = 1
  only : MillOnly s t [0x10090 + 4 * p]

theorem State.scriptStart_started {s : State} (hs : State.Ok s) (p entry : Nat) (ladder : Bool) : ScriptStarted s (s.scriptStart p entry ladder) p entry ladder where
  script := congrArg PortSt.script (s.port_setPort_same p _)
  i2c := (State.get_setReg_same (hs.of_evolves (ev_setPort (Evolves.refl s))) (fI2cState p) 1).trans (by simp [Fld.ofWord, fI2cState, bitsAt])
  only := (s.setPort_millOnly p _ _).trans (State.setReg_onlyRegs _ _ 1).millOnly

/-- A port tries a ladder entry: it settles, and the entry's script runs (R137). -/
structure PortTries (s t : State) (p e : Nat) : Prop where
  state : t.get (fPortState p) = 1
  entry : t.get (fPortEntry p) = e
  script : (t.port p).script = some { entry := s.get (fModeScript p e), ladder := true }
  i2c : t.get (fI2cState p) = 1
  only : MillOnly s t [0x10020 + 4 * p, 0x10090 + 4 * p]

theorem State.skipPort_streams (s : State) (p : Nat) : ∃ streams, s.skipPort p = { s with mill := { s.mill with streams } } := ⟨_, rfl⟩

/-- The port at the start of an entry, before its script: its streams discard packets up to the next Frame Start (R137, R144). -/
def State.portSkipping (s : State) (p : Nat) : State := (s.skipPort p).setPort p { (s.skipPort p).port p with good := 0, errors := 0 }

theorem State.portSkipping_eq (s : State) (p : Nat) : ∃ mill, s.portSkipping p = { s with mill } := by
  obtain ⟨streams, hskip⟩ := s.skipPort_streams p
  unfold State.portSkipping
  rw [hskip]
  exact ⟨_, rfl⟩

/-- The port shows that it settles at an entry. -/
def State.portTrying (s : State) (p e : Nat) : State := ((s.put (fPortState p) 1).put (fPortEntry p) e).portSkipping p

theorem State.portSkipping_get (s : State) (p : Nat) (f : Fld) : (s.portSkipping p).get f = (s.skipPort p).get f := rfl

theorem State.portTry_eq (s : State) (p e : Nat) : s.portTry p e = (s.portTrying p e).scriptStart p ((s.portTrying p e).get (fModeScript p e)) true := by
  rw [State.portTrying, State.portSkipping_get]
  rfl

theorem State.portTrying_eq (s : State) (p e : Nat) : ∃ mill, s.portTrying p e = { (s.put (fPortState p) 1).put (fPortEntry p) e with mill } :=
  State.portSkipping_eq _ p

theorem State.portTrying_shown {s : State} (hs : State.Ok s) {p e : Nat} (he : e < 4) : (s.portTrying p e).get (fPortState p) = 1 ∧
    (s.portTrying p e).get (fPortEntry p) = e ∧ MillOnly s (s.portTrying p e) [0x10020 + 4 * p] := by
  have hstate : ((s.put (fPortState p) 1).put (fPortEntry p) e).get (fPortState p) = 1 :=
    (State.get_put_other (hs.put _ _) e rfl (by simp [Fld.apart, fPortState, fPortEntry])).trans (s.get_put_same _ _ hs.regsKeyed rfl)
  have hentry : ((s.put (fPortState p) 1).put (fPortEntry p) e).get (fPortEntry p) = e :=
    (State.get_put_same _ _ _ (hs.put _ _).regsKeyed rfl).trans (Nat.mod_eq_of_lt he)
  obtain ⟨mill, heq⟩ := s.portTrying_eq p e
  have hmill := State.withMill_only ((s.put (fPortState p) 1).put (fPortEntry p) e) mill [0x10020 + 4 * p]
  rw [heq]
  refine ⟨((State.withMill_only _ mill []).regs.get (by simp)).trans hstate, ((State.withMill_only _ mill []).regs.get (by simp)).trans hentry, MillOnly.trans ?_ hmill⟩
  exact (s.put_onlyRegs (fPortState p) 1).millOnly.trans (State.put_onlyRegs _ (fPortEntry p) e).millOnly

theorem State.portTry_tries {s : State} (hs : State.Ok s) {p e : Nat} (he : e < 4) : PortTries s (s.portTry p e) p e := by
  obtain ⟨hstate, hentry, hshown⟩ := State.portTrying_shown hs (p := p) he
  have htrying : State.Ok (s.portTrying p e) := by
    obtain ⟨mill, heq⟩ := s.portTrying_eq p e
    rw [heq]
    exact ((hs.put _ _).put _ _).withMill mill
  obtain ⟨hscript, hi2c, honly⟩ := State.scriptStart_started htrying p ((s.portTrying p e).get (fModeScript p e)) true
  rw [State.portTry_eq]
  refine ⟨(honly.regs.get ?_).trans hstate, (honly.regs.get ?_).trans hentry, hscript.trans ?_, hi2c, (hshown.mono ?_).trans (honly.mono ?_)⟩
  · simp [fPortState]
  · simp [fPortEntry]
  · rw [hshown.regs.get]; simp [fModeScript]; omega
  · simp
  · simp

/-- A port has no entry left: it shows FAILED and counts, and 0x1102 is on its way (R139, R172). -/
structure PortFails (s t : State) (p : Nat) (ev : FaultEvent) : Prop where
  code : ev.code = 0x1102
  disp : ev.disp = .violation
  state : t.get (fPortState p) = 3
  errs : t.reg (kPortErrs p) = (s.bump (kPortErrs p)).reg (kPortErrs p)
  only : OnlyRegsEvents s t [0x10020 + 4 * p, kPortErrs p] [ev]

/-- Registers and the Mill's state change first, then registers and one event on its way. -/
theorem MillOnly.raised {r s t : State} {ks ls : List Nat} {ev : FaultEvent} (h : MillOnly r s ks) (g : OnlyRegsEvents s t ls [ev]) :
    t = { r with regs := t.regs, mill := t.mill, reeve := { r.reeve with events := r.reeve.events ++ [ev] } } := by
  rw [g.rest, g.events, h.rest]

theorem State.portFailed_fails {s : State} (hs : State.Ok s) (p : Nat) : ∃ ev, PortFails s (s.portFailed p) p ev := by
  have hshown : OnlyRegs s ((s.put (fPortState p) 3).bump (kPortErrs p)) [0x10020 + 4 * p, kPortErrs p] :=
    ((s.put_onlyRegs (fPortState p) 3).mono (by simp [fPortState])).trans ((State.bump_onlyRegs _ (kPortErrs p)).mono (by simp))
  refine ⟨{ code := 0x1102, source := srcOf 1 (32 + p) 0, disp := .violation, detail := [] }, rfl, rfl, ?_, ?_, hshown.raised _⟩
  · refine (State.violation_get _ _ _ _ (fPortState p)).trans ?_
    rw [(keepsRegs_bump _ (kPortErrs p)).get (by simp [fPortState, kPortErrs]), s.get_put_same _ _ hs.regsKeyed rfl]
    rfl
  · refine (State.violation_reg _ _ _ _ (kPortErrs p)).trans (State.bump_reg_congr hs (hs.put _ _) (keepsRegs_put s (fPortState p) 3 _ ?_))
    simp [fPortState, kPortErrs]

-- A PORT IS ENABLED

theorem fPortEn_kept (p : Nat) (v : Word) : (fPortEn p).ofWord (v &&& 0x80F0FF03#32) = (fPortEn p).ofWord v := by
  refine Fld.ofWord_and (fun i hi => ?_) v
  obtain rfl : i = 0 := Nat.lt_one_iff.mp hi
  change (0x80F0FF03#32).getLsbD 31 = true
  decide

/-- A port's registers as it is enabled: its configuration stored, its counters clear (R137, R179). -/
def State.portCounters (s : State) (p : Nat) (v : Word) : State :=
  (((s.setReg (0x10010 + 4 * p) (v &&& 0x80F0FF03#32)).setReg (0x10020 + 4 * p) 0).setReg (kPortErrs p) 0).put (fLaneOk p) 0

/-- The port as it is enabled, before it tries its ladder. -/
def State.portCleared (s : State) (p : Nat) (v : Word) : State := (s.portCounters p v).setPort p PortSt.reset

theorem State.portCleared_only (s : State) (p : Nat) (v : Word) : MillOnly s (s.portCleared p v) [0x10010 + 4 * p, 0x10020 + 4 * p, kPortErrs p] := by
  refine MillOnly.trans (OnlyRegs.millOnly ?_) (State.setPort_millOnly _ p _ _)
  have hset : ∀ (u : State) (k : Nat) (x : Word), k ∈ [0x10010 + 4 * p, 0x10020 + 4 * p, kPortErrs p] →
      OnlyRegs u (u.setReg k x) [0x10010 + 4 * p, 0x10020 + 4 * p, kPortErrs p] := fun u k x hk =>
    (u.setReg_onlyRegs k x).mono fun j hj => by rwa [List.mem_singleton.mp hj]
  exact (((hset s _ _ (by simp)).trans (hset _ _ _ (by simp))).trans (hset _ _ _ (by simp))).trans (hset _ _ _ (by simp [fLaneOk]))

theorem State.Ok.portCounters {s : State} (hs : State.Ok s) (p : Nat) (v : Word) : State.Ok (s.portCounters p v) :=
  hs.of_evolves (ev_put (ev_setReg (ev_setReg (ev_setReg (Evolves.refl s) _ _) _ _) _ _))

theorem State.portCleared_shows {s : State} (hs : State.Ok s) (p : Nat) (v : Word) :
    (s.portCleared p v).get (fPortEn p) = (fPortEn p).ofWord v ∧ (s.portCleared p v).reg (kPortErrs p) = 0 := by
  have hcfg := hs.of_evolves (ev_setReg (Evolves.refl s) (0x10010 + 4 * p) (v &&& 0x80F0FF03#32))
  have hstat := hcfg.of_evolves (ev_setReg (Evolves.refl _) (0x10020 + 4 * p) 0)
  constructor
  · refine ((State.setPort_millOnly _ p _ []).regs.get (by simp)).trans ?_
    unfold State.portCounters
    rw [(keepsRegs_put _ (fLaneOk p) 0).get (by simp [fPortEn, fLaneOk]), (keepsRegs_setReg _ (kPortErrs p) 0).get (by simp [fPortEn, kPortErrs]),
      (keepsRegs_setReg _ (0x10020 + 4 * p) 0).get (by simp [fPortEn])]
    exact (State.get_setReg_same hs (fPortEn p) _).trans (fPortEn_kept p v)
  · refine (State.setPort_reg _ p _ (kPortErrs p)).trans ((keepsRegs_put _ (fLaneOk p) 0 _ (by simp [kPortErrs, fLaneOk])).trans ?_)
    exact State.reg_setReg_same _ _ _ hstat.regsKeyed

section
variable {s : State} {fn : Fn} {p : Fin 4} {v : Word}

theorem millPortEnable_settles (hfn : s.turnsAway fn = false) (hperc : s.percOrPf fn = true) (hblocks : s.blocksOff = false)
    (hoff : s.flag (fPortEn p.val) = false) (hon : (fPortEn p.val).ofWord v = 1) (hok : portCfgOk p.val v = true) :
    exec (.millPortEnable fn p v) s = .next ((s.portCleared p.val v).portFrom p.val 0) :=
  (if_neg (by simp [hfn])).trans ((if_neg (by simp [hoff, hon, hperc])).trans (if_neg (by simp [hblocks, hok])))

theorem millPortEnable_rejects (hfn : s.turnsAway fn = false) (hperc : s.percOrPf fn = true) (hoff : s.flag (fPortEn p.val) = false)
    (hon : (fPortEn p.val).ofWord v = 1) (hbad : portCfgOk p.val v = false) : exec (.millPortEnable fn p v) s = .next s.millReject :=
  (if_neg (by simp [hfn])).trans ((if_neg (by simp [hoff, hon, hperc])).trans (if_pos (by simp [hbad])))

theorem millPortDisable_closes (hfn : s.turnsAway fn = false) (hperc : s.percOrPf fn = true) (hblocks : s.blocksOff = false)
    (hon : s.flag (fPortEn p.val) = true) (hoff : (fPortEn p.val).ofWord v = 0) (hok : portCfgOk p.val v = true) :
    exec (.millPortDisable fn p v) s = .next ((s.setReg (0x10010 + 4 * p.val) (v &&& 0x80F0FF03#32)).portDown p.val) :=
  (if_neg (by simp [hfn])).trans ((if_neg (by simp [hon, hoff, hperc])).trans (if_neg (by simp [hblocks, hok])))

end

-- FRAMES THAT END

/-- What a range context's parser holds: its run, what waits for it, and what it keeps from packet to packet (R150, R151, R155). -/
def StreamSt.parsing (st : StreamSt) : Option (RangePkt × ParserRun) × List RangePkt × List Word × Option Nat := (st.run, st.queue, st.g, st.expected)

/-- What frames that end and go to their group may change: the Mill's counters, what it holds beside its registers but for the parsers, and the waiting
requests (R143, R158, R161). -/
structure FramesMoved (s t : State) : Prop where
  regs : ∀ k, k < 0x12000 → t.reg k = s.reg k
  parsing : ∀ k, (t.strm k).parsing = (s.strm k).parsing
  rest : t = { s with regs := t.regs, mill := t.mill, part := { s.part with asks := t.part.asks } }

theorem FramesMoved.refl (s : State) : FramesMoved s s := ⟨fun _ _ => rfl, fun _ => rfl, rfl⟩

theorem FramesMoved.trans {r s t : State} (h : FramesMoved r s) (g : FramesMoved s t) : FramesMoved r t where
  regs k hk := (g.regs k hk).trans (h.regs k hk)
  parsing k := (g.parsing k).trans (h.parsing k)
  rest := by rw [g.rest, h.rest]

theorem FramesMoved.ram {s t : State} (h : FramesMoved s t) : keepsRam s t := by
  intro a; rw [h.rest]; rfl

theorem FramesMoved.withMill {r s t : State} {ks : List Nat} (h : FramesMoved r s) (g : MillOnly s t ks) :
    t = { r with regs := t.regs, mill := t.mill, part := { r.part with asks := t.part.asks } } := by
  rw [g.rest, h.rest]

theorem FramesMoved.foldl {α : Type} {f : State → α → State} (hf : ∀ s x, FramesMoved s (f s x)) : ∀ (l : List α) {r s : State}, FramesMoved r s →
    FramesMoved r (l.foldl f s)
  | [], _, _, h => h
  | x :: l, _, s, h => FramesMoved.foldl hf l (h.trans (hf s x))

theorem State.setStrm_moved {s : State} {k : Nat} {x : StreamSt} (hx : x.parsing = (s.strm k).parsing) : FramesMoved s (s.setStrm k x) where
  regs _ _ := rfl
  parsing j := by
    by_cases hj : j = k
    · rw [hj, State.strm_setStrm_same, hx]
    · rw [State.strm_setStrm_ne _ hj]
  rest := rfl

/-- A frame that is over waits in its group, is counted as late, or finds its group off (R159, R161). -/
theorem State.toGroup_cases (s : State) (f : MFrame) :
    s.toGroup f = s ∨ s.toGroup f = s.bump (kStrmCnt f.stream 4) ∨ ∃ g x, s.toGroup f = s.setGrp g x := by
  unfold State.toGroup
  dsimp only
  split
  · exact .inl rfl
  · split
    · exact .inr (.inl rfl)
    · exact .inr (.inr ⟨_, _, rfl⟩)

theorem State.toGroup_moved (s : State) (f : MFrame) : FramesMoved s (s.toGroup f) := by
  obtain h | h | ⟨g, x, h⟩ := s.toGroup_cases f <;> rw [h]
  · exact FramesMoved.refl s
  · exact ⟨fun k hk => keepsRegs_bump s _ k (by simp [kStrmCnt]; omega), fun _ => rfl, rfl⟩
  · exact ⟨fun _ _ => rfl, fun _ => rfl, rfl⟩

theorem State.flushFrames_moved (s : State) (k : Nat) : FramesMoved s (s.flushFrames k) :=
  FramesMoved.foldl State.toGroup_moved _ (State.setStrm_moved rfl)

theorem State.endFrame_moved (s : State) (k : Nat) (old new : MFrame) : FramesMoved s (s.endFrame k old new) := by
  unfold State.endFrame
  dsimp only
  split
  · refine FramesMoved.trans ?_ (State.flushFrames_moved _ k)
    exact State.setStrm_moved rfl
  · refine FramesMoved.trans ?_ (State.toGroup_moved _ _)
    exact State.setStrm_moved rfl

theorem State.dropAsks_moved (s : State) (f : Ask → Bool) : FramesMoved s (s.dropAsks f) := ⟨fun _ _ => rfl, fun _ => rfl, rfl⟩

theorem State.rejectFrame_moved (s : State) (k : Nat) (f : MFrame) (modeChanged : Bool) : FramesMoved s (s.rejectFrame k f modeChanged) := by
  unfold State.rejectFrame
  dsimp only
  split
  · exact (State.endFrame_moved _ k _ _).trans (State.dropAsks_moved _ _)
  · exact ((State.endFrame_moved _ k _ _).trans (State.dropAsks_moved _ _)).trans (State.setStrm_moved rfl)

theorem State.closePortFrames_moved (s : State) (p : Nat) : FramesMoved s (s.closePortFrames p) :=
  FramesMoved.foldl (fun s i => FramesMoved.foldl (fun s f => s.rejectFrame_moved (4 * p + i) f true) _ (FramesMoved.refl s)) _ (FramesMoved.refl s)

-- A PORT IS DISABLED

/-- MILL_PORT_STATUS of a port that goes down. -/
def State.portShut (s : State) (p : Nat) : State := ((s.put (fPortState p) 0).put (fLaneOk p) 0).put (fPortEntry p) 0

theorem State.portShut_only (s : State) (p : Nat) : OnlyRegs s (s.portShut p) [0x10020 + 4 * p] :=
  ((s.put_onlyRegs (fPortState p) 0).trans (State.put_onlyRegs _ (fLaneOk p) 0)).trans (State.put_onlyRegs _ (fPortEntry p) 0)

theorem State.portShut_state {s : State} (hs : State.Ok s) (p : Nat) : (s.portShut p).get (fPortState p) = 0 := by
  unfold State.portShut
  rw [State.get_put_other ((hs.put _ _).put _ _) 0 rfl (by simp [Fld.apart, fPortState, fPortEntry]),
    State.get_put_other (hs.put _ _) 0 rfl (by simp [Fld.apart, fPortState, fLaneOk]), s.get_put_same _ _ hs.regsKeyed rfl, Nat.zero_mod]

theorem State.portShut_port (s : State) (p q : Nat) : (s.portShut p).port q = s.port q := rfl

theorem State.portDown_eq (s : State) (p : Nat) : s.portDown p = ((s.closePortFrames p).setPort p PortSt.reset).portShut p := rfl

/-- A port's registers and state once it is down, its frames closed (R143). -/
theorem State.portDown_closed {s : State} (hs : State.Ok s) {p : Nat} (hp : p < 4) : (s.portDown p).get (fPortState p) = 0 ∧ (s.portDown p).port p = PortSt.reset ∧
    (s.portDown p).reg (0x10010 + 4 * p) = s.reg (0x10010 + 4 * p) ∧ keepsRam s (s.portDown p) ∧
    s.portDown p = { s with regs := (s.portDown p).regs, mill := (s.portDown p).mill, part := { s.part with asks := (s.portDown p).part.asks } } := by
  have hmoved := s.closePortFrames_moved p
  have hok : State.Ok ((s.closePortFrames p).setPort p PortSt.reset) := hs.of_evolves (ev_setPort (ev_closePortFrames (Evolves.refl s)))
  have honly := ((s.closePortFrames p).setPort_millOnly p PortSt.reset [0x10020 + 4 * p]).trans (State.portShut_only _ p).millOnly
  rw [State.portDown_eq]
  refine ⟨State.portShut_state hok p, (State.portShut_port _ p p).trans ((s.closePortFrames p).port_setPort_same p _), ?_,
    fun a => (honly.ram a).trans (hmoved.ram a), hmoved.withMill honly⟩
  exact (honly.regs _ (by simp)).trans (hmoved.regs _ (by omega))

-- A MANUAL RUN

section
variable {s : State} {fn : Fn} {p : Fin 4} {v : Word}

theorem millBusy_iff (s : State) : (List.range 4).any (fun q => s.get (fPortState q) == 1 || (s.port q).script.isSome) = true ↔
    ∃ q, q < 4 ∧ (s.get (fPortState q) = 1 ∨ (s.port q).script.isSome = true) := by
  simp

theorem i2cRun_starts (hfn : s.turnsAway fn = false) (hperc : s.percOrPf fn = true) (hblocks : s.blocksOff = false) (hgo : v.getLsbD 31 = true)
    (hentry : bitsAt v.toNat 0 16 < 1024) (hidle : ∀ q, q < 4 → s.get (fPortState q) ≠ 1 ∧ (s.port q).script = none) :
    exec (.i2cRun fn p v) s = .next (s.scriptStart p.val (bitsAt v.toNat 0 16) false) := by
  have hbit : bitAt v.toNat 31 = true := hgo
  have hbusy : ¬ ((List.range 4).any (fun q => s.get (fPortState q) == 1 || (s.port q).script.isSome) = true) := by
    rw [millBusy_iff]
    rintro ⟨q, hq, h | h⟩
    · exact (hidle q hq).1 h
    · simp [(hidle q hq).2] at h
  refine (if_neg (by simp [hfn])).trans ((if_neg (by simp [hperc])).trans ((if_neg ?_).trans (if_neg (by simp [hbit]))))
  rintro (h | h | ⟨-, h⟩)
  · simp [hblocks] at h
  · exact hbusy h
  · omega

theorem i2cRun_rejects (hfn : s.turnsAway fn = false) (hperc : s.percOrPf fn = true)
    (hbusy : ∃ q, q < 4 ∧ (s.get (fPortState q) = 1 ∨ (s.port q).script.isSome = true)) : exec (.i2cRun fn p v) s = .next s.millReject :=
  (if_neg (by simp [hfn])).trans ((if_neg (by simp [hperc])).trans (if_pos (.inr (.inl ((millBusy_iff s).mpr hbusy)))))

end

-- THE ENTRY IN FORCE FAILS

theorem portLockTimeout_fails {s : State} {p : Fin 4} {ms : Nat} (hst : s.get (fPortState p.val) = 1) (hidle : (s.port p.val).script = none) (hms : 200 ≤ ms) :
    exec (.portLockTimeout p ms) s = .next (s.portFrom p.val (s.get (fPortEntry p.val) + 1)) := if_pos ⟨hst, hidle, hms⟩

-- SCRIPTS

theorem State.reach_now_eq {s : State} {t : Nat} (hle : s.now ≤ t) (ht : t < 2 ^ 64) : (s.reach t).now = t := by
  unfold State.reach
  split
  · omega
  · exact (BitVec.toNat_ofNat t 64).trans (Nat.mod_eq_of_lt ht)

theorem State.scriptAt_runs {s : State} {p : Nat} {r : ScriptRun} {ok : Nat → Bool} (hrun : (s.port p).script = some r) (hop : ok (s.scriptOp r.entry) = true) :
    s.scriptAt p ok = some r := by
  simp [State.scriptAt, hrun, hop]

/-- A script has failed at its entry, and nothing but its port's state and MILL_I2C_RUN has changed (R147). -/
structure ScriptFailed (s t : State) (p : Nat) (r : ScriptRun) : Prop where
  script : (t.port p).script = none
  i2c : t.get (fI2cState p) = 3
  failed : t.get (fI2cFailed p) = r.entry % 65536
  only : MillOnly s t [0x10090 + 4 * p]

/-- The script stops at its entry as failed, before its ladder entry fails with it. -/
def State.scriptStopped (s : State) (p : Nat) (r : ScriptRun) : State :=
  ((s.setPort p { s.port p with script := none }).put (fI2cState p) 3).put (fI2cFailed p) r.entry

theorem State.scriptFail_manual {r : ScriptRun} (hmanual : r.ladder = false) (s : State) (p : Nat) : s.scriptFail p r = s.scriptStopped p r :=
  if_neg (by simp [hmanual])

theorem State.scriptFail_ladder {r : ScriptRun} (hladder : r.ladder = true) (s : State) (p : Nat) : s.scriptFail p r = (s.scriptStopped p r).portEntryFails p :=
  if_pos hladder

theorem State.Ok.scriptStopped {s : State} (hs : State.Ok s) (p : Nat) (r : ScriptRun) : State.Ok (s.scriptStopped p r) :=
  hs.of_evolves (ev_put (ev_put (ev_setPort (Evolves.refl s))))

theorem State.scriptStopped_failed {s : State} (hs : State.Ok s) (p : Nat) (r : ScriptRun) : ScriptFailed s (s.scriptStopped p r) p r := by
  have hset := s.setPort_millOnly p { s.port p with script := none } [0x10090 + 4 * p]
  have hok := hs.of_evolves (ev_setPort (p := p) (x := { s.port p with script := none }) (Evolves.refl s))
  have hport := s.port_setPort_same p { s.port p with script := none }
  unfold State.scriptStopped
  generalize s.setPort p { s.port p with script := none } = u at hset hok hport
  refine ⟨congrArg PortSt.script hport, ?_, State.get_put_same _ _ _ (hok.put _ _).regsKeyed rfl, hset.trans (OnlyRegs.millOnly ?_)⟩
  · rw [State.get_put_other (hok.put _ _) _ rfl (by simp [Fld.apart, fI2cState, fI2cFailed]), u.get_put_same _ _ hok.regsKeyed rfl]
    rfl
  · exact (u.put_onlyRegs (fI2cState p) 3).trans (State.put_onlyRegs _ (fI2cFailed p) _)

/-- A ladder script that fails takes its entry with it: the next valid one is tried (R139, R147). -/
theorem State.scriptFail_tries {s : State} (hs : State.Ok s) {p e : Nat} (hp : p < 4) {r : ScriptRun} (hladder : r.ladder = true)
    (he : s.entryFrom p (s.get (fPortEntry p) + 1) = some e) : ((s.scriptFail p r).port p).script = some { entry := s.get (fModeScript p e), ladder := true } ∧
      (s.scriptFail p r).get (fPortState p) = 1 ∧ (s.scriptFail p r).get (fPortEntry p) = e ∧
      MillOnly s (s.scriptFail p r) [0x10020 + 4 * p, 0x10090 + 4 * p] := by
  obtain ⟨-, -, -, hstopped⟩ := State.scriptStopped_failed hs p r
  have hlt := State.entryFrom_lt he
  have hentry : (s.scriptStopped p r).get (fPortEntry p) = s.get (fPortEntry p) := hstopped.regs.get (by simp [fPortEntry])
  have hfrom := (State.entryFrom_kept hstopped.regs (by simp [fModeValid]; omega) (s.get (fPortEntry p) + 1)).trans he
  have hscript : (s.scriptStopped p r).get (fModeScript p e) = s.get (fModeScript p e) := hstopped.regs.get (by simp [fModeScript]; omega)
  obtain ⟨hstate, htried, hrun, -, honly⟩ := State.portTry_tries (hs.scriptStopped p r) (p := p) hlt
  rw [State.scriptFail_ladder hladder, State.portEntryFails, hentry, State.portFrom_some hfrom]
  exact ⟨hrun.trans (by rw [hscript]), hstate, htried, (hstopped.mono (by simp)).trans honly⟩

section
variable {s : State} {p : Fin 4} {r : ScriptRun} (hrun : (s.port p.val).script = some r)
include hrun

theorem scriptWrite_writes {us : Nat} (hop : s.scriptOp r.entry = 1) (hus : us ≤ 10000) : exec (.scriptWrite p true us false) s =
    .next ((s.emit (.i2cWrite p.val (bitsAt (s.scriptWord (2 * r.entry)) 16 7) (bitsAt (s.scriptWord (2 * r.entry)) 0 16) (bitAt (s.scriptWord (2 * r.entry)) 27)
      (BitVec.ofNat 8 (s.scriptWord (2 * r.entry + 1))))).scriptNext p.val r) := by
  change execScriptWrite p true us false s = _
  rw [execScriptWrite, State.scriptAt_runs hrun (by simp [hop])]
  exact (if_neg (by simp)).trans (if_pos ⟨rfl, hus⟩)

theorem scriptWrite_fails (us : Nat) (hop : s.scriptOp r.entry = 1) : exec (.scriptWrite p false us false) s = .next (s.scriptFail p.val r) := by
  change execScriptWrite p false us false s = _
  rw [execScriptWrite, State.scriptAt_runs hrun (by simp [hop])]
  exact (if_neg (by simp)).trans (if_neg (by simp))

theorem scriptWait_waits (hop : s.scriptOp r.entry = 2) : exec (.scriptWait p false) s =
    .next ((s.reach (s.now + bitsAt (s.scriptWord (2 * r.entry + 1)) 0 24 * 1000)).scriptNext p.val r) := by
  change execScriptWait p false s = _
  rw [execScriptWait, State.scriptAt_runs hrun (by simp [hop])]
  rfl

/-- The read that a POLL puts on the bus. -/
def State.pollRead (s : State) (p : Nat) (r : ScriptRun) : Emission :=
  .i2cRead p (bitsAt (s.scriptWord (2 * r.entry)) 16 7) (bitsAt (s.scriptWord (2 * r.entry)) 0 16) (bitAt (s.scriptWord (2 * r.entry)) 27)

theorem scriptPoll_reads (x : Byte) (ms : Nat) (hop : s.scriptOp r.entry = 3) : exec (.scriptPoll p true x ms false) s =
    if x.toNat &&& bitsAt (s.scriptWord (2 * r.entry + 1)) 8 8 = bitsAt (s.scriptWord (2 * r.entry + 1)) 0 8 then
      .next ((s.emit (s.pollRead p.val r)).scriptNext p.val r)
    else if 100 ≤ ms then .next ((s.emit (s.pollRead p.val r)).scriptFail p.val r)
    else .next (s.emit (s.pollRead p.val r)) := by
  change execScriptPoll p true x ms false s = _
  rw [execScriptPoll, State.scriptAt_runs hrun (by simp [hop])]
  rfl

theorem scriptEnd_ends (hop : s.scriptOp r.entry = 0) : exec (.scriptEnd p false) s =
    .next ((s.setPort p.val { s.port p.val with script := none }).put (fI2cState p.val) 2) := by
  change execScriptEnd p false s = _
  rw [execScriptEnd, State.scriptAt_runs hrun (by simp [hop])]
  rfl

theorem scriptInvalidOp_fails (hop : 4 ≤ s.scriptOp r.entry) : exec (.scriptInvalidOp p false) s = .next (s.scriptFail p.val r) := by
  change execScriptInvalidOp p false s = _
  rw [execScriptInvalidOp, State.scriptAt_runs hrun (by simp [hop])]
  rfl

end

/-- What a port that is enabled shows: it tries its first valid ladder entry (R137). -/
theorem State.portCleared_tries {s : State} (hs : State.Ok s) {p e : Nat} {v : Word} (hp : p < 4) (hon : (fPortEn p).ofWord v = 1)
    (he : s.entryFrom p 0 = some e) : ∃ t, (s.portCleared p v).portFrom p 0 = t ∧ t.get (fPortState p) = 1 ∧ t.get (fPortEntry p) = e ∧ t.flag (fPortEn p) = true ∧
      (t.port p).script = some { entry := s.get (fModeScript p e), ladder := true } ∧ t.reg (kPortErrs p) = 0 ∧ t.get (fI2cState p) = 1 ∧ keepsRam s t ∧
      t = { s with regs := t.regs, mill := t.mill } := by
  have hlt := State.entryFrom_lt he
  have hclear := s.portCleared_only p v
  obtain ⟨hen, herrs⟩ := State.portCleared_shows hs p v
  have hok : State.Ok (s.portCleared p v) := (hs.portCounters p v).of_evolves (ev_setPort (Evolves.refl _))
  have hfrom := (State.entryFrom_kept hclear.regs (by simp [fModeValid, kPortErrs]; omega) 0).trans he
  have hscript : (s.portCleared p v).get (fModeScript p e) = s.get (fModeScript p e) := hclear.regs.get (by simp [fModeScript, kPortErrs]; omega)
  obtain ⟨hstate, hentry, hrun, hi2c, honly⟩ := State.portTry_tries hok (p := p) hlt
  refine ⟨_, State.portFrom_some hfrom, hstate, hentry, ?_, hrun.trans (by rw [hscript]), ?_, hi2c, fun a => (honly.ram a).trans (hclear.ram a), ?_⟩
  · rw [State.flag, honly.regs.get (by simp [fPortEn]), hen, hon]; rfl
  · rw [honly.regs _ (by simp [kPortErrs]), herrs]
  · exact ((hclear.mono (ls := [0x10010 + 4 * p, 0x10020 + 4 * p, kPortErrs p, 0x10090 + 4 * p]) (by simp)).trans (honly.mono (by simp))).rest

/-- What a port without a valid ladder entry shows as it is enabled (R139). -/
theorem State.portCleared_fails {s : State} (hs : State.Ok s) {p : Nat} {v : Word} (hp : p < 4) (hnone : s.entryFrom p 0 = none) :
    ∃ t ev, (s.portCleared p v).portFrom p 0 = t ∧ t.get (fPortState p) = 3 ∧ ev.code = 0x1102 ∧ ev.disp = .violation ∧
      t = { s with regs := t.regs, mill := t.mill, reeve := { s.reeve with events := s.reeve.events ++ [ev] } } := by
  have hclear := s.portCleared_only p v
  have hok : State.Ok (s.portCleared p v) := (hs.portCounters p v).of_evolves (ev_setPort (Evolves.refl _))
  have hfrom := (State.entryFrom_kept hclear.regs (by simp [fModeValid, kPortErrs]; omega) 0).trans hnone
  obtain ⟨ev, hcode, hdisp, hstate, -, honly⟩ := State.portFailed_fails hok p
  exact ⟨_, ev, State.portFrom_none hfrom, hstate, hcode, hdisp, hclear.raised honly⟩

/-- Settles O44: the ladder goes through `State.portTry_tries` and `State.portFailed_fails`, a port that closes through `State.portDown_closed`, and a
script that fails through `State.scriptStopped_failed`. -/
theorem millPortsAndScriptsAct : Obligations.MillPortsAndScriptsAct := by
  unfold Obligations.MillPortsAndScriptsAct
  intro s fn p hs
  refine ⟨fun v hfn hperc hblocks => ⟨fun hoff hon hok => ⟨fun e he => ?_, fun hnone => ?_⟩, fun hoff hon hbad => ?_, fun hon hoff hok => ?_,
    fun hgo hentry hidle => ?_, fun hbusy => ?_, fun _ ⟨q, hq, hrun⟩ => ?_⟩, fun ms hst hidle hms => ⟨fun e he => ?_, fun hnone => ?_⟩, fun r hrun => ?_⟩
  · obtain ⟨t, ht, htries⟩ := State.portCleared_tries hs p.isLt hon he
    exact ⟨t, (millPortEnable_settles hfn hperc hblocks hoff hon hok).trans (congrArg _ ht), htries⟩
  · obtain ⟨t, ev, ht, hfails⟩ := State.portCleared_fails hs (v := v) p.isLt hnone
    exact ⟨t, ev, (millPortEnable_settles hfn hperc hblocks hoff hon hok).trans (congrArg _ ht), hfails⟩
  · exact ⟨_, millPortEnable_rejects hfn hperc hoff hon hbad, millReject_rejected hs, millReject_onlyRegs s⟩
  · obtain ⟨hstate, hport, hcfg, hram, hrest⟩ := State.portDown_closed (hs.of_evolves (ev_setReg (Evolves.refl s) (0x10010 + 4 * p.val) (v &&& 0x80F0FF03#32))) p.isLt
    refine ⟨_, millPortDisable_closes hfn hperc hblocks hon hoff hok, hstate, ?_, hport, hram, hrest⟩
    have hen := (State.get_setReg_same hs (fPortEn p.val) (v &&& 0x80F0FF03#32)).trans (fPortEn_kept p.val v)
    rw [State.flag, State.get]
    rw [show (fPortEn p.val).key = 0x10010 + 4 * p.val from rfl, hcfg]
    exact congrArg (· != 0) (hen.trans hoff)
  · obtain ⟨hscript, hi2c, honly⟩ := State.scriptStart_started hs p.val (bitsAt v.toNat 0 16) false
    exact ⟨_, i2cRun_starts hfn hperc hblocks hgo hentry hidle, hscript, hi2c, honly.regs, honly.rest⟩
  · exact ⟨_, i2cRun_rejects hfn hperc hbusy, millReject_rejected hs, millReject_onlyRegs s⟩
  · exact ⟨_, i2cRun_rejects hfn hperc ⟨q, hq, .inr hrun⟩, millReject_rejected hs, millReject_onlyRegs s⟩
  · obtain ⟨hstate, hentry, hscript, -, honly⟩ := State.portTry_tries hs (p := p.val) (State.entryFrom_lt he)
    exact ⟨_, (portLockTimeout_fails hst hidle hms).trans (congrArg _ (State.portFrom_some he)), hstate, hentry, hscript, honly.ram, honly.rest⟩
  · obtain ⟨ev, hcode, -, hstate, herrs, honly⟩ := State.portFailed_fails hs p.val
    exact ⟨_, ev, (portLockTimeout_fails hst hidle hms).trans (congrArg _ (State.portFrom_none hnone)), hstate, hcode, herrs, honly⟩
  · obtain ⟨hstopped, hi2c, hfailed, honly⟩ := State.scriptStopped_failed hs p.val r
    refine ⟨fun us hop hus => ?_, fun us hop hmanual hentry => ?_, fun hop hnow => ?_, fun x ms e hop he => ⟨fun hmatch => ?_, fun hno hms => ?_, fun hno hms hmanual => ?_⟩,
      fun us e hop hladder he => ?_, fun hop => ?_, fun hop hmanual hentry => ?_⟩
    · exact ⟨_, scriptWrite_writes hrun hop hus, State.port_setPort_same _ _ _, rfl, rfl⟩
    · exact ⟨_, (scriptWrite_fails hrun us hop).trans (congrArg _ (State.scriptFail_manual hmanual s p.val)), hstopped, hi2c,
        hfailed.trans (Nat.mod_eq_of_lt hentry), honly.regs, honly.rest⟩
    · obtain ⟨ns, frac, ticks, hreach⟩ := s.reach_eq (s.now + bitsAt (s.scriptWord (2 * r.entry + 1)) 0 24 * 1000)
      have hwaits := State.reach_now_eq (Nat.le_add_right s.now _) hnow
      rw [hreach] at hwaits
      have hexec := scriptWait_waits hrun hop
      rw [hreach] at hexec
      exact ⟨_, hexec, hwaits, State.port_setPort_same _ _ _, rfl⟩
    · subst he
      exact ⟨_, (scriptPoll_reads hrun x ms hop).trans (if_pos hmatch), State.port_setPort_same _ _ _, rfl⟩
    · subst he
      exact (scriptPoll_reads hrun x ms hop).trans ((if_neg hno).trans (if_neg (by omega)))
    · subst he
      obtain ⟨hstopped, hi2c, -, honly⟩ := State.scriptStopped_failed (s := s.emit (s.pollRead p.val r)) ⟨hs.regs, hs.dram, hs.phys⟩ p.val r
      exact ⟨_, (scriptPoll_reads hrun x ms hop).trans ((if_neg hno).trans ((if_pos hms).trans (congrArg _ (State.scriptFail_manual hmanual _ p.val)))),
        hstopped, hi2c, honly.rest⟩
    · obtain ⟨hscript, hstate, hentry, honly⟩ := State.scriptFail_tries hs p.isLt hladder he
      exact ⟨_, scriptWrite_fails hrun us hop, hscript, hstate, hentry, honly.rest⟩
    · have hset := s.setPort_millOnly p.val { s.port p.val with script := none } [0x10090 + 4 * p.val]
      have hok := hs.of_evolves (ev_setPort (p := p.val) (x := { s.port p.val with script := none }) (Evolves.refl s))
      have honly := hset.trans (State.put_onlyRegs _ (fI2cState p.val) 2).millOnly
      exact ⟨_, scriptEnd_ends hrun hop, s.port_setPort_same p.val _, State.get_put_same _ _ _ hok.regsKeyed rfl, honly.regs, honly.rest⟩
    · exact ⟨_, (scriptInvalidOp_fails hrun hop).trans (congrArg _ (State.scriptFail_manual hmanual s p.val)), hstopped, hi2c,
        hfailed.trans (Nat.mod_eq_of_lt hentry), honly.rest⟩

end Sys2Proof.Machine

/-! THE RANGE PARSER. What each instruction makes of its run, and how a packet that ends leaves its stream (04_sensor_intake.md; R150 to R156, R171 to R176). -/
namespace Sys2Proof.Machine

-- LOADS

theorem take_drop_succ {l : List Byte} {a : Nat} (h : a < l.length) (n : Nat) : (l.drop a).take (n + 1) = l.getD a 0 :: (l.drop (a + 1)).take n := by
  rw [List.drop_eq_getElem_cons h, List.take_succ_cons, List.getD_eq_getElem l 0 h]

theorem payload_byte {l : List Byte} {a : Nat} (h : a + 1 ≤ l.length) : leNat ((l.drop a).take 1) = (l.getD a 0).toNat := by
  rw [take_drop_succ h, List.take_zero]; simp [leNat]

theorem payload_big {l : List Byte} {a : Nat} (h : a + 2 ≤ l.length) : beNat ((l.drop a).take 2) = (l.getD a 0).toNat * 256 + (l.getD (a + 1) 0).toNat := by
  rw [take_drop_succ (by omega), take_drop_succ (by omega), List.take_zero]; simp [beNat]

theorem payload_little {l : List Byte} {a : Nat} (h : a + 2 ≤ l.length) : leNat ((l.drop a).take 2) = (l.getD a 0).toNat + (l.getD (a + 1) 0).toNat * 256 := by
  rw [take_drop_succ (by omega), take_drop_succ (by omega), List.take_zero]
  simp only [leNat]
  omega

-- ONE INSTRUCTION

/-- Where a load reads (R152). -/
def ParserRun.loadAt (r : ParserRun) (w : Word) : Nat := ((r.reg (pS w)).toNat + pImm w) % 2 ^ 32

theorem parserLoad_inside {n : Nat} {w : Word} {r : ParserRun} (big : Bool) (h : r.loadAt w + n ≤ r.payload.length) : parserLoad n big w r =
    .cont (r.set (pD w) (BitVec.ofNat 32 (if big then beNat ((r.payload.drop (r.loadAt w)).take n) else leNat ((r.payload.drop (r.loadAt w)).take n)))) :=
  if_neg (Nat.not_lt.mpr h)

theorem parserLoad_outside {n : Nat} {w : Word} {r : ParserRun} (big : Bool) (h : r.payload.length < r.loadAt w + n) : parserLoad n big w r = .reject 0x1203 0 r :=
  if_pos h

/-- The modulus of a SEQ, the packet's number in it, and how far that lies past the expected one (R155). -/
def seqMod (w : Word) : Nat := 2 ^ (pImm w % 32 + 1)
def ParserRun.seqNo (r : ParserRun) (w : Word) : Nat := (r.reg (pS w)).toNat % seqMod w
def ParserRun.seqAhead (r : ParserRun) (w : Word) (e : Nat) : Nat := (r.seqNo w + seqMod w - e % seqMod w) % seqMod w

/-- The run past a SEQ that takes its packet (R155). -/
def ParserRun.sequenced (r : ParserRun) (w : Word) (lost : List (Nat × Nat)) : ParserRun :=
  { r with pc := r.pc + 1, expected := some ((r.seqNo w + 1) % seqMod w), number := some (r.seqNo w), lost }

theorem parserSeq_taken {w : Word} {r : ParserRun} (h : r.expected = none ∨ ∃ e, r.expected = some e ∧ r.seqAhead w e = 0) :
    parserSeq w r = .cont (r.sequenced w r.lost) := by
  unfold parserSeq
  obtain h | ⟨e, h, hd⟩ := h
  · simp only [h]; rfl
  · simp only [h]; exact if_pos hd

theorem parserSeq_ahead {w : Word} {r : ParserRun} {e : Nat} (h : r.expected = some e) (hd : r.seqAhead w e ≠ 0) (hlt : r.seqAhead w e < seqMod w / 2) :
    parserSeq w r = .cont (r.sequenced w (r.lost ++ [(r.seqAhead w e, e % seqMod w)])) := by
  unfold parserSeq
  simp only [h]
  exact (if_neg hd).trans (if_pos hlt)

theorem parserSeq_old {w : Word} {r : ParserRun} {e : Nat} (h : r.expected = some e) (hle : seqMod w / 2 ≤ r.seqAhead w e) :
    parserSeq w r = .reject 0x1206 0 { r with number := some (r.seqNo w) } := by
  have hm : seqMod w / 2 ≠ 0 := by rw [seqMod, Nat.pow_succ, Nat.mul_div_cancel _ (by decide)]; exact (Nat.two_pow_pos _).ne'
  unfold parserSeq
  simp only [h]
  exact (if_neg (show ¬ r.seqAhead w e = 0 by omega)).trans (if_neg (show ¬ r.seqAhead w e < seqMod w / 2 by omega))

theorem ParserRun.seqAhead_same {r : ParserRun} {w : Word} {e : Nat} (h : r.seqNo w = e % seqMod w) : r.seqAhead w e = 0 := by
  rw [ParserRun.seqAhead, h, Nat.add_sub_cancel_left, Nat.mod_self]

/-- LUI keeps the low half of its register (R152). -/
theorem lui_halves (imm : Nat) (g : Word) : BitVec.ofNat 32 (imm % 65536 * 65536 + g.toNat % 65536) = BitVec.append (BitVec.ofNat 16 imm) (g.setWidth 16) := by
  refine BitVec.eq_of_toNat_eq (Eq.trans ?_ (BitVec.toNat_append _ _).symm)
  have hlo : (g.setWidth 16).toNat < 2 ^ 16 := BitVec.isLt _
  rw [← Nat.shiftLeft_add_eq_or_of_lt hlo, Nat.shiftLeft_eq]
  simp only [BitVec.toNat_ofNat, BitVec.toNat_setWidth]
  omega

/-- The run once one more instruction has been executed. -/
def ParserRun.counted (r : ParserRun) : ParserRun := { r with steps := r.steps + 1 }

-- A ROW

/-- What the instruction w makes of the run of stream k (R152). -/
def State.parserRes (s : State) (k : Nat) (w : Word) (r : ParserRun) : ParseRes := parserStep w (fun i => s.ptab (s.get (fTableBase k) + i)) s.free r

section
variable {s : State} {k : Nat} {p : RangePkt} {r : ParserRun} {w : Word} {kind : ParserOp → Bool} (hrun : (s.strm k).run = some (p, r)) (hsteps : r.steps < 65536)
  (hw : instrAt s.pcode r.pc = some w) (hkind : kind (parserOp w) = true)
include hrun hsteps hw hkind

theorem State.parserRow_eq : s.parserRow k false kind = match s.parserRes k w r with
    | .cont r' => s.drawn.setStrm k { s.strm k with run := some (p, r') }
    | .accept r' => s.packetAccepted k p.arrival r'
    | .reject code reason r' => s.packetRejected k code reason r' := by
  have hat : s.parserAt r = parserOp w := by rw [State.parserAt, hw]
  have hgo : ¬ (!kind (s.parserAt r) || decide (65536 ≤ r.steps)) = true := by simp [hat, hkind, hsteps]
  unfold State.parserRow
  rw [hrun]
  refine (if_neg hgo).trans ((if_neg (by simp)).trans ?_)
  rw [hw]
  rfl

theorem State.parserRow_goesOn {r' : ParserRun} (hres : s.parserRes k w r = .cont r') : ParserGoesOn (.next (s.parserRow k false kind)) s k p r' := by
  refine ⟨_, congrArg _ ((State.parserRow_eq hrun hsteps hw hkind).trans (by rw [hres])), ?_, fun j hj => ?_, rfl⟩
  · exact State.strm_setStrm_same _ k _
  · exact State.strm_setStrm_ne s.drawn hj _

theorem State.parserRow_accepts {r' : ParserRun} (hres : s.parserRes k w r = .accept r') : s.parserRow k false kind = s.packetAccepted k p.arrival r' :=
  (State.parserRow_eq hrun hsteps hw hkind).trans (by rw [hres])

theorem State.parserRow_rejects {code reason : Nat} {r' : ParserRun} (hres : s.parserRes k w r = .reject code reason r') :
    s.parserRow k false kind = s.packetRejected k code reason r' :=
  (State.parserRow_eq hrun hsteps hw hkind).trans (by rw [hres])

end

-- WHAT A PACKET'S EFFECTS LEAVE OF THE PARSER

/-- The registers of the stream contexts read as before, and each parser holds what it held. -/
structure ParserKept (s t : State) : Prop where
  regs : ∀ j, 0x11000 ≤ j → j < 0x12000 → t.reg j = s.reg j
  parsing : ∀ k, (t.strm k).parsing = (s.strm k).parsing

theorem ParserKept.refl (s : State) : ParserKept s s := ⟨fun _ _ _ => rfl, fun _ => rfl⟩

theorem ParserKept.trans {r s t : State} (h : ParserKept r s) (g : ParserKept s t) : ParserKept r t where
  regs j hlo hhi := (g.regs j hlo hhi).trans (h.regs j hlo hhi)
  parsing k := (g.parsing k).trans (h.parsing k)

theorem ParserKept.foldl {α : Type} {f : State → α → State} (hf : ∀ s x, ParserKept s (f s x)) : ∀ (l : List α) {r s : State}, ParserKept r s →
    ParserKept r (l.foldl f s)
  | [], _, _, h => h
  | x :: l, _, s, h => ParserKept.foldl hf l (h.trans (hf s x))

theorem ParserKept.ite {r s t : State} {c : Prop} [Decidable c] (hthen : ParserKept r s) (helse : ParserKept r t) : ParserKept r (if c then s else t) := by
  split
  · exact hthen
  · exact helse

theorem FramesMoved.parserKept {s t : State} (h : FramesMoved s t) : ParserKept s t := ⟨fun j _ hj => h.regs j hj, h.parsing⟩

theorem ParserKept.of_mill {s t : State} (hmill : t.mill = s.mill) (hregs : ∀ j, 0x11000 ≤ j → j < 0x12000 → t.reg j = s.reg j) : ParserKept s t where
  regs := hregs
  parsing k := congrArg (fun m : Mill => (Tbl.getD m.streams k StreamSt.reset).parsing) hmill

theorem State.setStrm_parserKept {s : State} {k : Nat} {x : StreamSt} (hx : x.parsing = (s.strm k).parsing) : ParserKept s (s.setStrm k x) :=
  (State.setStrm_moved hx).parserKept

theorem State.setReceiving_parserKept (s : State) (k : Nat) (f : MFrame) : ParserKept s (s.setReceiving k f) := State.setStrm_parserKept rfl

theorem State.setReg_parserKept (s : State) {k : Nat} (v : Word) (hk : k < 0x11000 ∨ 0x12000 ≤ k) : ParserKept s (s.setReg k v) :=
  .of_mill rfl fun _ _ _ => State.reg_setReg_ne s (by omega) v

theorem State.bumpBy_parserKept (s : State) {k : Nat} (n : Nat) (hk : k < 0x11000 ∨ 0x12000 ≤ k) : ParserKept s (s.bumpBy k n) := s.setReg_parserKept _ hk

theorem State.raise_parserKept (s : State) (e : FaultEvent) : ParserKept s (s.raise e) := .of_mill rfl fun _ _ _ => rfl

theorem State.drawn_parserKept (s : State) : ParserKept s s.drawn := .of_mill rfl fun _ _ _ => rfl

theorem kStrmCnt_above (k i : Nat) : 0x12000 ≤ kStrmCnt k i := by simp only [kStrmCnt]; omega

theorem kSvCnt_above (k i : Nat) : 0x12000 ≤ kSvCnt k i := by simp only [kSvCnt]; omega

theorem State.strmViol_parserKept (s : State) (k code sub : Nat) (detail : List Byte) : ParserKept s (s.strmViol k code sub detail) :=
  (s.bumpBy_parserKept 1 (.inr (kStrmCnt_above k 7))).trans (State.raise_parserKept _ _)

-- Damage against a sweep

theorem State.sweepDamage_parserKept (s : State) (k code first n : Nat) : ParserKept s (s.sweepDamage k code first n) := by
  unfold State.sweepDamage
  dsimp only
  split
  · exact (s.setReceiving_parserKept k _).trans (State.setStrm_parserKept rfl)
  · exact State.setStrm_parserKept rfl

theorem State.lostDamage_parserKept (s : State) (k : Nat) (lost : List (Nat × Nat)) : ParserKept s (s.lostDamage k lost) := by
  have hstep : ∀ (u : State) (l : Nat × Nat), ParserKept u ((u.strmViol k 0x1206 0).sweepDamage k 0x1206 l.2 l.1) := fun u l =>
    (u.strmViol_parserKept k 0x1206 0 []).trans (State.sweepDamage_parserKept _ k 0x1206 l.2 l.1)
  unfold State.lostDamage
  exact ParserKept.foldl hstep lost (ParserKept.refl s)

-- The Mill's writes of a sweep's output

theorem State.dramUncorrectable_parserKept (s : State) (who : Agent) (a : Nat) : ParserKept s (s.dramUncorrectable who a) :=
  (s.bumpBy_parserKept 1 (.inl (by decide))).trans (State.raise_parserKept _ _)

theorem State.ramWriteBlock_parserKept (s : State) (who : Agent) (a : Nat) (bs : List Byte) : ParserKept s (s.ramWriteBlock who a bs) :=
  ParserKept.ite (.of_mill rfl fun _ _ _ => rfl) (ParserKept.ite (s.dramUncorrectable_parserKept who a) (.of_mill rfl fun _ _ _ => rfl))

theorem State.ramWriteN_parserKept (who : Agent) : ∀ (n : Nat) (s : State) (a : Nat) (bs : List Byte), ParserKept s (State.ramWriteN who n s a bs)
  | 0, s, _, _ => ParserKept.refl s
  | n + 1, s, a, _ => ParserKept.ite (ParserKept.refl s) ((s.ramWriteBlock_parserKept who a _).trans (State.ramWriteN_parserKept who n _ _ _))

theorem State.millWrite_parserKept (s : State) (a : Nat) (bs : List Byte) : ParserKept s (s.millWrite a bs) :=
  ParserKept.ite (ParserKept.refl s) (ParserKept.ite (State.ramWriteN_parserKept .mill _ s a bs) (s.raise_parserKept _))

theorem State.tagWait_parserKept (s : State) (u : DramUser) : ParserKept s (s.tagWait u) :=
  ParserKept.ite (s.bumpBy_parserKept 1 (.inr (by simp only [kRttCoreSat]; omega))) (s.bumpBy_parserKept 1 (.inr (by decide)))

theorem State.setAsks_parserKept (s : State) (l : List Ask) : ParserKept s (s.setAsks l) := .of_mill rfl fun _ _ _ => rfl

theorem State.charge_parserKept (s : State) (p n : Nat) : ParserKept s (s.charge p n) := by
  refine .of_mill ?_ fun j _ hhi => s.charge_keepsRegs p n j (by simp only [kLines, kPart, List.mem_singleton]; omega)
  obtain ⟨regs, part, h⟩ := s.charge_eq p n
  rw [h]

theorem State.dramTake_parserKept (s : State) (u : DramUser) (p n : Nat) : ParserKept s (s.dramTake u p n) :=
  .of_mill (s.dramTake_mill u p n) fun j _ hhi => s.dramTake_keepsRegs u p n j (by simp only [kLines, kPart, List.mem_singleton]; omega)

theorem State.dramWait_parserKept (s : State) (u : DramUser) (p n : Nat) : ParserKept s (s.dramWait u p n) := by
  have hheld : 0x12000 ≤ kHeld 0 p := by simp only [kHeld, kPart, if_true]; omega
  unfold State.dramWait
  split
  · exact ParserKept.ite ((s.setAsks_parserKept _).trans (State.tagWait_parserKept _ u)) (ParserKept.refl s)
  · exact ParserKept.ite (((s.charge_parserKept p n).trans (State.setAsks_parserKept _ _)).trans (State.tagWait_parserKept _ u))
      ((s.setAsks_parserKept _).trans (State.bumpBy_parserKept _ 1 (.inr hheld)))

theorem State.millAsk_parserKept (s : State) (u : DramUser) (ws : List (Nat × List Byte)) : ParserKept s (s.millAsk u ws).2 := by
  unfold State.millAsk State.dramAsk
  split
  · exact ParserKept.refl s
  · split
    · exact s.dramTake_parserKept u s.perc _
    · exact s.dramWait_parserKept u s.perc _

theorem State.slotWritten_parserKept {f : State → State} (hf : ∀ s, ParserKept s (f s)) (s : State) (k slot : Nat) (ws : List (Nat × List Byte)) :
    ParserKept s (s.slotWritten k slot ws f) := by
  have hask := s.millAsk_parserKept (.slot k slot) ws
  unfold State.slotWritten
  split
  · next t h =>
    rw [h] at hask
    exact (hask.trans (ParserKept.foldl (fun s w => s.millWrite_parserKept w.1 w.2) ws (ParserKept.refl t))).trans (hf _)
  · next t h =>
    rw [h] at hask
    exact hask

-- The effects

theorem State.allocSlot_parserKept (s : State) (k : Nat) : ParserKept s (s.allocSlot k).2 := by
  unfold State.allocSlot
  split
  · exact ParserKept.refl s
  · exact (s.setReg_parserKept _ (.inr (kStrmCnt_above k 0))).trans (State.setStrm_parserKept rfl)

theorem State.sweepBegin_parserKept (s : State) (k arrival : Nat) : ParserKept s (s.sweepBegin k arrival) := by
  have halloc : ParserKept s (s.drawn.allocSlot k).2 := s.drawn_parserKept.trans (State.allocSlot_parserKept _ k)
  unfold State.sweepBegin
  dsimp only
  generalize (s.drawn.allocSlot k).2 = u at halloc ⊢
  exact halloc.trans (State.setStrm_parserKept rfl)

theorem State.sweepOpen_parserKept (s : State) (k arrival : Nat) : ParserKept s (s.sweepOpen k arrival) :=
  ParserKept.ite (ParserKept.refl s) (s.sweepBegin_parserKept k arrival)

theorem State.sweepStamp_parserKept (s : State) (k arrival ns : Nat) : ParserKept s (s.sweepStamp k arrival ns) := by
  unfold State.sweepStamp
  split
  · exact ParserKept.refl s
  · dsimp only
    split
    · exact ParserKept.refl s
    · exact (ParserKept.ite (s.strmViol_parserKept k 0x1207 0 []) (ParserKept.refl s)).trans (State.setReceiving_parserKept _ k _)

theorem State.sweepPoint_parserKept (s : State) (k : Nat) (p : List Byte) : ParserKept s (s.sweepPoint k p) := by
  unfold State.sweepPoint
  split
  · exact ParserKept.refl s
  · next f0 _ =>
    have hset : ParserKept s (s.setStrm k { s.strm k with gap := 0, lastCol := s.columnOf k p }) := State.setStrm_parserKept rfl
    dsimp only
    split
    · exact hset.trans ((ParserKept.ite (ParserKept.refl _) (State.strmViol_parserKept _ k 0x1208 0 [])).trans (State.setReceiving_parserKept _ k _))
    · exact hset.trans ((ParserKept.ite (State.bumpBy_parserKept _ 1 (.inr (kSvCnt_above k 4))) (ParserKept.refl _)).trans (State.setReceiving_parserKept _ k _))

theorem State.completeRange_parserKept (s : State) (k : Nat) (f : MFrame) : ParserKept s (s.completeRange k f) := by
  unfold State.completeRange
  split
  · exact (s.endFrame_moved k f f).parserKept
  · exact State.slotWritten_parserKept (fun s => (s.bumpBy_parserKept _ (.inr (kSvCnt_above k 3))).trans (State.endFrame_moved _ k f _).parserKept) s k _ _

theorem State.sweepClose_parserKept (s : State) (k arrival : Nat) : ParserKept s (s.sweepClose k arrival) := by
  unfold State.sweepClose
  split
  · exact ParserKept.refl s
  · dsimp only
    split
    · have hcounted : ParserKept s (s.bump (kStrmCnt k 4)) := s.bumpBy_parserKept 1 (.inr (kStrmCnt_above k 4))
      refine hcounted.trans (State.setStrm_parserKept ?_)
      exact (hcounted.parsing k).symm
    · refine ParserKept.trans ?_ (State.completeRange_parserKept _ k _)
      exact (s.setReceiving_parserKept k _).trans (State.setStrm_parserKept rfl)

theorem State.parseEffect_parserKept (s : State) (k arrival : Nat) (e : ParseEff) : ParserKept s (s.parseEffect k arrival e) := by
  cases e with
  | point p => exact (s.sweepOpen_parserKept k arrival).trans (State.sweepPoint_parserKept _ k p)
  | stamp ns => exact (s.sweepOpen_parserKept k arrival).trans (State.sweepStamp_parserKept _ k arrival ns)
  | sweep => exact s.sweepClose_parserKept k arrival

-- THE NEXT PACKET'S RUN

/-- The run that stream k's next waiting packet starts with (R151). -/
def State.nextRun (s : State) (k : Nat) (g : List Word) (expected : Option Nat) : Option (RangePkt × ParserRun) :=
  (s.strm k).queue.head?.map fun q => (q, ParserRun.start g expected (s.get (fParserStart k)) q.payload)

theorem State.nextRun_idle {s : State} {k : Nat} (h : (s.strm k).queue = []) (g : List Word) (expected : Option Nat) : s.nextRun k g expected = none := by
  rw [State.nextRun, h]; rfl

theorem State.runStart_strm {s : State} {k : Nat} (h : (s.strm k).run = none) : (s.runStart k).strm k =
    { s.strm k with queue := (s.strm k).queue.tail, run := s.nextRun k (s.strm k).g (s.strm k).expected } := by
  cases hq : (s.strm k).queue with
  | nil =>
    rw [State.nextRun_idle hq]
    simp only [State.runStart, h, hq, List.tail_nil]
    rw [← h, ← hq]
  | cons q rest =>
    simp only [State.runStart, h, hq, State.nextRun, State.strm_setStrm_same]
    rfl

theorem State.runStart_only (s : State) (k : Nat) : ∃ mill, s.runStart k = { s with mill } := by
  simp only [State.runStart]
  split
  · exact ⟨_, rfl⟩
  · exact ⟨_, rfl⟩

theorem State.runStart_idle {s : State} {k : Nat} (h : (s.strm k).queue = []) : s.runStart k = s := by
  unfold State.runStart
  dsimp only
  split
  · next hrest => rw [h] at hrest; cases hrest
  · rfl

theorem State.runStart_receiving {s : State} {k : Nat} (h : (s.strm k).run = none) : (s.runStart k).receiving k = s.receiving k := by
  rw [State.receiving, State.runStart_strm h]; rfl

theorem State.runOver_strm (s : State) (k : Nat) (r : ParserRun) : (s.runOver k r).strm k = { s.strm k with run := none, g := r.g, expected := r.expected } :=
  State.strm_setStrm_same s k _

theorem State.runOver_receiving (s : State) (k : Nat) (r : ParserRun) : (s.runOver k r).receiving k = s.receiving k := by
  rw [State.receiving, State.runOver_strm]; rfl

/-- Stream k's packet is over: g and the expected number stay with the stream, and the next waiting packet's run starts (R151, R155). -/
structure PacketOver (s t : State) (k : Nat) (r : ParserRun) : Prop where
  run : (t.strm k).run = s.nextRun k r.g r.expected
  g : (t.strm k).g = r.g
  expected : (t.strm k).expected = r.expected

/-- What the parser holds once a run is over and before the next one starts. -/
theorem ParserKept.runEnded {s u : State} {k : Nat} {r : ParserRun} (h : ParserKept (s.runOver k r) u) :
    (u.strm k).run = none ∧ (u.strm k).queue = (s.strm k).queue ∧ (u.strm k).g = r.g ∧ (u.strm k).expected = r.expected := by
  have hp := h.parsing k
  rw [State.runOver_strm] at hp
  simpa [StreamSt.parsing] using hp

theorem ParserKept.packetOver {s u : State} {k : Nat} {r : ParserRun} (h : ParserKept (s.runOver k r) u) (hk : k < 24) : PacketOver s (u.runStart k) k r := by
  obtain ⟨hrun, hqueue, hg, hexp⟩ := h.runEnded
  have hstart : u.get (fParserStart k) = s.get (fParserStart k) :=
    congrArg (fParserStart k).ofWord (h.regs _ (by simp only [fParserStart, kStrm]; omega) (by simp only [fParserStart, kStrm]; omega))
  refine ⟨?_, ?_, ?_⟩ <;> rw [State.runStart_strm hrun]
  · simp only [State.nextRun, hqueue, hg, hexp, hstart]
  · exact hg
  · exact hexp

-- AN ACCEPTED PACKET

/-- The sweep that an accepted packet's effects meet: the open one, or a new one unless the first effect ends it (R156). -/
def State.sweepMet (s : State) (k arrival : Nat) (effects : List ParseEff) : State :=
  match effects with
  | e :: _ => if e.closes then s else s.sweepOpen k arrival
  | [] => s.sweepOpen k arrival

/-- An accepted packet's effects. -/
def State.packetEffects (s : State) (k arrival : Nat) (r : ParserRun) : State :=
  r.effects.foldl (fun s e => s.parseEffect k arrival e) (((s.runOver k r).lostDamage k r.lost).sweepMet k arrival r.effects)

theorem State.packetAccepted_eq (s : State) (k arrival : Nat) (r : ParserRun) : s.packetAccepted k arrival r = (s.packetEffects k arrival r).runStart k := rfl

theorem State.sweepMet_parserKept (s : State) (k arrival : Nat) (effects : List ParseEff) : ParserKept s (s.sweepMet k arrival effects) := by
  cases effects with
  | nil => exact s.sweepOpen_parserKept k arrival
  | cons e es => exact ParserKept.ite (ParserKept.refl s) (s.sweepOpen_parserKept k arrival)

theorem State.packetEffects_parserKept (s : State) (k arrival : Nat) (r : ParserRun) : ParserKept (s.runOver k r) (s.packetEffects k arrival r) :=
  ParserKept.foldl (fun s e => s.parseEffect_parserKept k arrival e) r.effects
    ((State.lostDamage_parserKept _ k r.lost).trans (State.sweepMet_parserKept _ k arrival r.effects))

theorem State.packetAccepted_over (s : State) {k : Nat} (arrival : Nat) (r : ParserRun) (hk : k < 24) : PacketOver s (s.packetAccepted k arrival r) k r := by
  rw [State.packetAccepted_eq]
  exact (s.packetEffects_parserKept k arrival r).packetOver hk

theorem State.packetAccepted_receiving (s : State) (k arrival : Nat) (r : ParserRun) :
    (s.packetAccepted k arrival r).receiving k = (s.packetEffects k arrival r).receiving k := by
  rw [State.packetAccepted_eq]
  exact State.runStart_receiving (s.packetEffects_parserKept k arrival r).runEnded.1

-- Its points

theorem State.receiving_open {s : State} {k : Nat} {f : MFrame} (h : s.receiving k = some f) : f.ended = false ∧ f.closed = false := by
  unfold State.receiving at h
  split at h
  · split at h
    · cases h
    · next hopen => cases h; simpa using hopen
  · cases h

theorem State.receiving_newest (s : State) (k : Nat) {x : StreamSt} {l : List MFrame} {f : MFrame} (hframes : x.frames = l ++ [f])
    (hended : f.ended = false) (hclosed : f.closed = false) : (s.setStrm k x).receiving k = some f := by
  rw [State.receiving, State.strm_setStrm_same, hframes]
  simp [hended, hclosed]

theorem State.receiving_setReceiving (s : State) (k : Nat) {f : MFrame} (hended : f.ended = false) (hclosed : f.closed = false) :
    (s.setReceiving k f).receiving k = some f :=
  s.receiving_newest k rfl hended hclosed

theorem State.sweepOpen_open {s : State} {k : Nat} {f : MFrame} (h : s.receiving k = some f) (arrival : Nat) : s.sweepOpen k arrival = s :=
  if_pos (by rw [h]; rfl)

theorem State.sweepMet_open {s : State} {k : Nat} {f : MFrame} (h : s.receiving k = some f) (arrival : Nat) (effects : List ParseEff) :
    s.sweepMet k arrival effects = s := by
  cases effects with
  | nil => exact State.sweepOpen_open h arrival
  | cons e es =>
    unfold State.sweepMet
    dsimp only
    split
    · rfl
    · exact State.sweepOpen_open h arrival

theorem State.gapColumns_points {s : State} {k : Nat} (hmode : s.get (fRmode k) = 0) (f : MFrame) (p : List Byte) : s.gapColumns k f p = f := by
  unfold State.gapColumns
  dsimp only
  split
  · exact if_neg (by rw [hmode]; simp)
  · rfl

/-- The open sweep f of stream k takes n more points one by one, with no register changed. -/
structure TakesPoints (s : State) (k : Nat) (f : MFrame) (n : Nat) : Prop where
  open_ : s.receiving k = some f
  mode : s.get (fRmode k) = 0
  room : f.points.length + n ≤ s.get (fMaxPts k)

theorem TakesPoints.sweepPoint {s : State} {k : Nat} {f : MFrame} {n : Nat} (h : TakesPoints s k f (n + 1)) (p : List Byte) :
    TakesPoints (s.sweepPoint k p) k { f with points := f.points ++ [p] } n := by
  obtain ⟨hopen, hmode, hroom⟩ := h
  obtain ⟨hended, hclosed⟩ := State.receiving_open hopen
  have heq : s.sweepPoint k p = (s.setStrm k { s.strm k with gap := 0, lastCol := s.columnOf k p }).setReceiving k { f with points := f.points ++ [p] } := by
    unfold State.sweepPoint
    simp only [hopen, State.gapColumns_points hmode]
    refine (if_neg ?_).trans ?_
    · exact Nat.not_le.mpr (show f.points.length < s.get (fMaxPts k) by omega)
    · rw [if_neg]
      rintro ⟨hcells, -⟩
      exact absurd (hmode.symm.trans hcells) (by decide)
  rw [heq]
  refine ⟨State.receiving_setReceiving _ k hended hclosed, hmode, ?_⟩
  have hlen : (f.points ++ [p]).length = f.points.length + 1 := by simp
  exact (show (f.points ++ [p]).length + n ≤ s.get (fMaxPts k) by omega)

theorem TakesPoints.parseEffect {s : State} {k : Nat} {f : MFrame} {n : Nat} (h : TakesPoints s k f (n + 1)) (arrival : Nat) (p : List Byte) :
    TakesPoints (s.parseEffect k arrival (.point p)) k { f with points := f.points ++ [p] } n := by
  unfold State.parseEffect
  dsimp only
  rw [State.sweepOpen_open h.open_]
  exact h.sweepPoint p

theorem TakesPoints.all (k arrival : Nat) : ∀ (pts : List (List Byte)) {s : State} {f : MFrame}, TakesPoints s k f pts.length →
    ((pts.map ParseEff.point).foldl (fun s e => s.parseEffect k arrival e) s).receiving k = some { f with points := f.points ++ pts }
  | [], s, f, h => by rw [List.append_nil]; exact h.open_
  | p :: pts, s, f, h => by
    have hrest := TakesPoints.all k arrival pts (h.parseEffect arrival p)
    rwa [List.append_assoc] at hrest

theorem State.packetAccepted_points {s : State} {k : Nat} {r : ParserRun} {f : MFrame} {pts : List (List Byte)} (arrival : Nat) (hlost : r.lost = [])
    (heff : r.effects = pts.map .point) (hopen : s.receiving k = some f) (hmode : s.get (fRmode k) = 0) (hroom : f.points.length + pts.length ≤ s.get (fMaxPts k)) :
    (s.packetAccepted k arrival r).receiving k = some { f with points := f.points ++ pts } := by
  have hover : (s.runOver k r).receiving k = some f := (s.runOver_receiving k r).trans hopen
  have heffects : s.packetEffects k arrival r = (pts.map ParseEff.point).foldl (fun s e => s.parseEffect k arrival e) (s.runOver k r) := by
    rw [State.packetEffects, hlost, State.lostDamage, List.foldl_nil, State.sweepMet_open hover, heff]
  rw [State.packetAccepted_receiving, heffects]
  exact TakesPoints.all k arrival pts ⟨hover, hmode, hroom⟩

-- A sweep that it opens

/-- Damage is all that damage changes of a frame. -/
theorem MFrame.damagedBy_keeps : ∀ (ds : List Damage) (f : MFrame), (f.damagedBy ds).stream = f.stream ∧ (f.damagedBy ds).points = f.points ∧
    (f.damagedBy ds).slot = f.slot ∧ (f.damagedBy ds).ended = f.ended ∧ (f.damagedBy ds).closed = f.closed
  | [], _ => ⟨rfl, rfl, rfl, rfl, rfl⟩
  | d :: ds, f => MFrame.damagedBy_keeps ds (f.damaged d d.count)

theorem State.allocSlot_slot (s : State) (k : Nat) : (s.allocSlot k).1 = if s.slotsHeld k < s.get (fStrmSlots k) then some (s.strm k).slotNext else none := by
  unfold State.allocSlot
  by_cases hfree : s.slotsHeld k < s.get (fStrmSlots k)
  · rw [if_pos hfree, if_neg (Nat.not_le.mpr hfree)]
  · rw [if_neg hfree, if_pos (Nat.not_lt.mp hfree)]

/-- Stream k receives a new, empty sweep in its next slot, or in none where it holds all of them (R135, R156). -/
def SweepBegun (s t : State) (k : Nat) : Prop :=
  ∃ f, t.receiving k = some f ∧ f.stream = k ∧ f.points = [] ∧ f.slot = (if s.slotsHeld k < s.get (fStrmSlots k) then some (s.strm k).slotNext else none)

theorem State.sweepBegin_begun (s : State) (k arrival : Nat) : SweepBegun s (s.sweepBegin k arrival) k := by
  have halloc : (s.drawn.allocSlot k).1 = if s.slotsHeld k < s.get (fStrmSlots k) then some (s.strm k).slotNext else none := s.drawn.allocSlot_slot k
  unfold State.sweepBegin
  dsimp only
  generalize s.drawn.allocSlot k = a at halloc ⊢
  obtain ⟨slot, u⟩ := a
  dsimp only at halloc ⊢
  obtain ⟨hstream, hpoints, hslot, hended, hclosed⟩ := MFrame.damagedBy_keeps (u.strm k).pendDamage { newFrame k _ _ _ 0 slot with listExpired := false }
  exact ⟨_, u.receiving_newest k rfl (hended.trans rfl) (hclosed.trans rfl), hstream, hpoints, hslot.trans halloc⟩

/-- A packet without effects and lost packets meets a sweep and leaves it (R156). -/
theorem State.packetEffects_none (s : State) (k arrival : Nat) {r : ParserRun} (hlost : r.lost = []) (heff : r.effects = []) :
    s.packetEffects k arrival r = (s.runOver k r).sweepOpen k arrival := by
  rw [State.packetEffects, hlost, heff]
  rfl

theorem State.packetAccepted_begins {s : State} {k : Nat} {r : ParserRun} (arrival : Nat) (hlost : r.lost = []) (heff : r.effects = [])
    (hclosed : s.receiving k = none) : SweepBegun s (s.packetAccepted k arrival r) k := by
  have hover : (s.runOver k r).receiving k = none := (s.runOver_receiving k r).trans hclosed
  have heffects : s.packetEffects k arrival r = (s.runOver k r).sweepBegin k arrival :=
    (s.packetEffects_none k arrival hlost heff).trans (if_neg (by rw [hover]; simp))
  obtain ⟨f, hopen, hstream, hpoints, hslot⟩ := (s.runOver k r).sweepBegin_begun k arrival
  refine ⟨f, ?_, hstream, hpoints, hslot.trans ?_⟩
  · rw [State.packetAccepted_receiving, heffects, hopen]
  · rw [State.runOver_strm]; rfl

-- A plain end

theorem State.packetAccepted_plain {s : State} {k : Nat} {r : ParserRun} {f : MFrame} (arrival : Nat) (hqueue : (s.strm k).queue = []) (hlost : r.lost = [])
    (heff : r.effects = []) (hopen : s.receiving k = some f) : s.packetAccepted k arrival r = s.runOver k r := by
  have hover : (s.runOver k r).receiving k = some f := (s.runOver_receiving k r).trans hopen
  have heffects : s.packetEffects k arrival r = s.runOver k r :=
    (s.packetEffects_none k arrival hlost heff).trans (State.sweepOpen_open hover arrival)
  rw [State.packetAccepted_eq, heffects]
  exact State.runStart_idle (by rw [State.runOver_strm]; exact hqueue)

-- A REJECTED PACKET

/-- What a rejected packet raises (R172, R176). -/
def rejectEvent (k code reason : Nat) (r : ParserRun) : FaultEvent :=
  if code = 0x1303 then { code := 0x1303, source := srcOf 1 k 0, disp := .report }
  else { code := BitVec.ofNat 16 code, source := srcOf 1 k 0, disp := .violation, detail := (if code = 0x1205 then leBytes 1 reason else r.payload.take 16).take 16 }

/-- A rejected packet is counted as a violation unless its word was invalid, and raises its event. -/
def State.rejectRaised (s : State) (k code reason : Nat) (r : ParserRun) : State :=
  (if code = 0x1303 then s else s.bump (kStrmCnt k 7)).raise (rejectEvent k code reason r)

/-- The state before the next run starts. -/
def State.packetRefused (s : State) (k code reason : Nat) (r : ParserRun) : State :=
  let u := (s.runOver k r).lostDamage k r.lost
  ((u.rejectRaised k code reason r).sweepDamage k code (r.number.getD (r.expected.getD u.free)) 1).drawn

theorem State.packetRejected_eq (s : State) (k code reason : Nat) (r : ParserRun) : s.packetRejected k code reason r = (s.packetRefused k code reason r).runStart k := by
  unfold State.packetRejected State.packetRefused State.rejectRaised rejectEvent
  dsimp only
  split
  · next h => subst h; rfl
  · rfl

theorem State.rejectRaised_parserKept (s : State) (k code reason : Nat) (r : ParserRun) : ParserKept s (s.rejectRaised k code reason r) := by
  refine ParserKept.trans ?_ (State.raise_parserKept _ _)
  exact ParserKept.ite (ParserKept.refl s) (s.bumpBy_parserKept 1 (.inr (kStrmCnt_above k 7)))

theorem State.packetRefused_parserKept (s : State) (k code reason : Nat) (r : ParserRun) : ParserKept (s.runOver k r) (s.packetRefused k code reason r) :=
  (((State.lostDamage_parserKept _ k r.lost).trans (State.rejectRaised_parserKept _ k code reason r)).trans
    (State.sweepDamage_parserKept _ k code _ 1)).trans (State.drawn_parserKept _)

theorem State.sweepDamage_only (s : State) (k code first n : Nat) : ∃ mill, s.sweepDamage k code first n = { s with mill } := by
  unfold State.sweepDamage
  dsimp only
  split
  · exact ⟨_, rfl⟩
  · exact ⟨_, rfl⟩

theorem State.sweepDamage_gap (s : State) (k first n : Nat) {code : Nat} (hcode : code ≠ 0) : ((s.sweepDamage k code first n).strm k).gap ≠ 0 := by
  have hgap : (if (s.strm k).gap = 0 then code else (s.strm k).gap) ≠ 0 := by
    split
    · exact hcode
    · assumption
  unfold State.sweepDamage
  dsimp only
  split <;> rw [State.strm_setStrm_same] <;> exact hgap

/-- A packet of stream k is rejected: it is over, its event is on its way, and what follows shows the gap (R172, R173). -/
structure PacketRefused (s t : State) (k : Nat) (r : ParserRun) (ev : FaultEvent) : Prop where
  ended : PacketOver s t k r
  raised : ev ∈ t.reeve.events
  gap : (t.strm k).gap ≠ 0

theorem State.packetRejected_refused (s : State) {k code : Nat} (reason : Nat) (r : ParserRun) (hk : k < 24) (hcode : code ≠ 0) :
    PacketRefused s (s.packetRejected k code reason r) k r (rejectEvent k code reason r) := by
  have hkept := s.packetRefused_parserKept k code reason r
  rw [State.packetRejected_eq]
  refine ⟨hkept.packetOver hk, ?_, ?_⟩
  · obtain ⟨mill, hstart⟩ := (s.packetRefused k code reason r).runStart_only k
    rw [hstart]
    unfold State.packetRefused
    dsimp only
    generalize (s.runOver k r).lostDamage k r.lost = u
    obtain ⟨mill', hdam⟩ := (u.rejectRaised k code reason r).sweepDamage_only k code (r.number.getD (r.expected.getD u.free)) 1
    rw [hdam]
    exact List.mem_append_right _ (List.mem_singleton.mpr rfl)
  · rw [State.runStart_strm hkept.runEnded.1]
    exact State.sweepDamage_gap _ k _ 1 hcode

-- With nothing else waiting

theorem State.rejectRaised_withMill (s : State) (mill : Mill) (k code reason : Nat) (r : ParserRun) :
    ({ s with mill } : State).rejectRaised k code reason r = { s.rejectRaised k code reason r with mill } := by
  unfold State.rejectRaised
  split
  · rfl
  · rfl

theorem State.packetRejected_alone {s : State} {k : Nat} {r : ParserRun} (code reason : Nat) (hqueue : (s.strm k).queue = []) (hlost : r.lost = []) :
    ∃ mill, s.packetRejected k code reason r = { (s.rejectRaised k code reason r).drawn with mill } := by
  have hidle : ((s.packetRefused k code reason r).strm k).queue = [] := (s.packetRefused_parserKept k code reason r).runEnded.2.1.trans hqueue
  rw [State.packetRejected_eq, State.runStart_idle hidle]
  unfold State.packetRefused
  dsimp only
  rw [hlost, show (s.runOver k r).lostDamage k [] = s.runOver k r from rfl]
  obtain ⟨mill, hdam⟩ := ((s.runOver k r).rejectRaised k code reason r).sweepDamage_only k code (r.number.getD (r.expected.getD (s.runOver k r).free)) 1
  rw [hdam]
  have hover := s.rejectRaised_withMill (s.runOver k r).mill k code reason r
  exact ⟨mill, congrArg (fun u : State => { u.drawn with mill }) hover⟩

/-- The only packet of stream k is rejected as a violation (R172). -/
structure PacketViolates (s t : State) (k : Nat) (r : ParserRun) (ev : FaultEvent) : Prop where
  run : (t.strm k).run = none
  g : (t.strm k).g = r.g
  count : t.reg (kStrmCnt k 7) = (s.bump (kStrmCnt k 7)).reg (kStrmCnt k 7)
  regs : keepsRegs s t [kStrmCnt k 7]
  rest : t = { s with regs := t.regs, mill := t.mill, draws := s.draws + 1, reeve := { s.reeve with events := s.reeve.events ++ [ev] } }

theorem State.packetRejected_violates {s : State} {k code : Nat} {r : ParserRun} (reason : Nat) (hk : k < 24) (hcode : code ≠ 0) (hviol : code ≠ 0x1303)
    (hqueue : (s.strm k).queue = []) (hlost : r.lost = []) : PacketViolates s (s.packetRejected k code reason r) k r (rejectEvent k code reason r) := by
  obtain ⟨hrun, hg, -⟩ := (s.packetRejected_refused reason r hk hcode).ended
  obtain ⟨mill, heq⟩ := State.packetRejected_alone code reason hqueue hlost
  have hraised : s.rejectRaised k code reason r = (s.bump (kStrmCnt k 7)).raise (rejectEvent k code reason r) := by
    rw [State.rejectRaised, if_neg hviol]
  obtain ⟨hregs, -, hrest⟩ := s.bump_onlyRegs (kStrmCnt k 7)
  refine ⟨hrun.trans (State.nextRun_idle hqueue _ _), hg, ?_, ?_, ?_⟩ <;> rw [heq, hraised]
  · generalize s.bump (kStrmCnt k 7) = u
    rfl
  · generalize s.bump (kStrmCnt k 7) = u at hregs
    exact hregs
  · generalize s.bump (kStrmCnt k 7) = u at hrest
    rw [hrest]
    rfl

/-- The only packet of stream k meets an invalid word (R176). -/
structure PacketReports (s t : State) (k : Nat) (r : ParserRun) (ev : FaultEvent) : Prop where
  run : (t.strm k).run = none
  g : (t.strm k).g = r.g
  rest : t = { s with mill := t.mill, draws := s.draws + 1, reeve := { s.reeve with events := s.reeve.events ++ [ev] } }

theorem State.packetRejected_reports {s : State} {k : Nat} {r : ParserRun} (reason : Nat) (hk : k < 24) (hqueue : (s.strm k).queue = [])
    (hlost : r.lost = []) : PacketReports s (s.packetRejected k 0x1303 reason r) k r (rejectEvent k 0x1303 reason r) := by
  obtain ⟨hrun, hg, -⟩ := (s.packetRejected_refused reason r hk (show 0x1303 ≠ 0 by decide)).ended
  obtain ⟨mill, heq⟩ := State.packetRejected_alone 0x1303 reason hqueue hlost
  have hraised : s.rejectRaised k 0x1303 reason r = s.raise (rejectEvent k 0x1303 reason r) := by
    rw [State.rejectRaised, if_pos rfl]
  refine ⟨hrun.trans (State.nextRun_idle hqueue _ _), hg, ?_⟩
  rw [heq, hraised]
  rfl

-- EACH INSTRUCTION

theorem parserLoad_wrote {n v : Nat} {w : Word} {r : ParserRun} (big : Bool) (hin : r.loadAt w + n ≤ r.payload.length)
    (hv : (if big then beNat ((r.payload.drop (r.loadAt w)).take n) else leNat ((r.payload.drop (r.loadAt w)).take n)) = v) :
    parserLoad n big w r.counted = .cont (r.wrote (pD w) (BitVec.ofNat 32 v)) := by
  refine (parserLoad_inside (r := r.counted) big hin).trans ?_
  rw [← hv]
  rfl

section
variable {s : State} {i : Fin 8} {p : RangePkt} {r : ParserRun} {w : Word} (hrun : (s.strm (rangeStream i)).run = some (p, r)) (hsteps : r.steps < 65536)
  (hw : instrAt s.pcode r.pc = some w)
include hrun hsteps hw

-- Loads

theorem parserLd8_goesOn (h : parserOp w = .ld8) (hin : r.loadAt w + 1 ≤ r.payload.length) : ParserGoesOn (exec (.parserLd8 i false) s) s (rangeStream i) p
    (r.wrote (pD w) (BitVec.ofNat 32 (r.payload.getD (r.loadAt w) 0).toNat)) := by
  refine State.parserRow_goesOn hrun hsteps hw (kind := fun o => o == .ld8) (by simp [h]) ?_
  simp only [State.parserRes, parserStep, h]
  exact parserLoad_wrote false hin (payload_byte hin)

theorem parserLd16_big_goesOn (h : parserOp w = .ld16 true) (hin : r.loadAt w + 2 ≤ r.payload.length) : ParserGoesOn (exec (.parserLd16 i false) s) s (rangeStream i) p
    (r.wrote (pD w) (BitVec.ofNat 32 ((r.payload.getD (r.loadAt w) 0).toNat * 256 + (r.payload.getD (r.loadAt w + 1) 0).toNat))) := by
  refine State.parserRow_goesOn hrun hsteps hw (kind := fun o => o == .ld16 true || o == .ld16 false) (by simp [h]) ?_
  simp only [State.parserRes, parserStep, h]
  exact parserLoad_wrote true hin (payload_big hin)

theorem parserLd16_little_goesOn (h : parserOp w = .ld16 false) (hin : r.loadAt w + 2 ≤ r.payload.length) : ParserGoesOn (exec (.parserLd16 i false) s) s (rangeStream i) p
    (r.wrote (pD w) (BitVec.ofNat 32 ((r.payload.getD (r.loadAt w) 0).toNat + (r.payload.getD (r.loadAt w + 1) 0).toNat * 256))) := by
  refine State.parserRow_goesOn hrun hsteps hw (kind := fun o => o == .ld16 true || o == .ld16 false) (by simp [h]) ?_
  simp only [State.parserRes, parserStep, h]
  exact parserLoad_wrote false hin (payload_little hin)

theorem parserLd32_goesOn (big : Bool) (h : parserOp w = .ld32 big) (hin : r.loadAt w + 4 ≤ r.payload.length) : ParserGoesOn (exec (.parserLd32 i false) s) s (rangeStream i) p
    (r.wrote (pD w) (BitVec.ofNat 32 (if big then beNat ((r.payload.drop (r.loadAt w)).take 4) else leNat ((r.payload.drop (r.loadAt w)).take 4)))) := by
  refine State.parserRow_goesOn hrun hsteps hw (kind := fun o => o == .ld32 true || o == .ld32 false) (by cases big <;> simp [h]) ?_
  simp only [State.parserRes, parserStep, h]
  exact parserLoad_wrote big hin rfl

theorem parserLd8_rejects (h : parserOp w = .ld8) (hout : r.payload.length < r.loadAt w + 1) :
    exec (.parserLd8 i false) s = .next (s.packetRejected (rangeStream i) 0x1203 0 r.counted) := by
  refine congrArg _ (State.parserRow_rejects hrun hsteps hw (kind := fun o => o == .ld8) (by simp [h]) ?_)
  simp only [State.parserRes, parserStep, h]
  exact parserLoad_outside (r := r.counted) false hout

-- Registers

theorem parserLdi_goesOn (h : parserOp w = .ldi) : ParserGoesOn (exec (.parserLdi i false) s) s (rangeStream i) p (r.wrote (pD w) (BitVec.ofInt 32 (pImmS w))) := by
  refine State.parserRow_goesOn hrun hsteps hw (kind := fun o => o == .ldi) (by simp [h]) ?_
  simp only [State.parserRes, parserStep, h]
  rfl

theorem parserLui_goesOn (h : parserOp w = .lui) : ParserGoesOn (exec (.parserLui i false) s) s (rangeStream i) p
    (r.wrote (pD w) (BitVec.append (BitVec.ofNat 16 (pImm w)) ((r.reg (pD w)).setWidth 16))) := by
  refine State.parserRow_goesOn hrun hsteps hw (kind := fun o => o == .lui) (by simp [h]) ?_
  simp only [State.parserRes, parserStep, h]
  rw [← lui_halves]
  rfl

theorem parserAlu_goesOn (o : Nat) (h : parserOp w = .alu o) : ParserGoesOn (exec (.parserAlu i false) s) s (rangeStream i) p
    (r.wrote (pD w) (parserAlu o (r.reg (pS w)) (r.reg (pT w)))) := by
  refine State.parserRow_goesOn hrun hsteps hw (kind := ParserOp.isAlu) (by rw [h]; rfl) ?_
  simp only [State.parserRes, parserStep, h]
  rfl

theorem parserShift_goesOn (o : Nat) (h : parserOp w = .shift o) : ParserGoesOn (exec (.parserShift i false) s) s (rangeStream i) p
    (r.wrote (pD w) (parserShift o (r.reg (pS w)) (r.reg (pT w)))) := by
  refine State.parserRow_goesOn hrun hsteps hw (kind := ParserOp.isShift) (by rw [h]; rfl) ?_
  simp only [State.parserRes, parserStep, h]
  rfl

theorem parserMul_goesOn (high : Bool) (h : parserOp w = .mul high) : ParserGoesOn (exec (.parserMul i false) s) s (rangeStream i) p
    (r.wrote (pD w) (parserMul high (r.reg (pS w)) (r.reg (pT w)))) := by
  refine State.parserRow_goesOn hrun hsteps hw (kind := ParserOp.isMul) (by rw [h]; rfl) ?_
  simp only [State.parserRes, parserStep, h]
  rfl

theorem parserAddi_goesOn (h : parserOp w = .addi) : ParserGoesOn (exec (.parserAddi i false) s) s (rangeStream i) p
    (r.wrote (pD w) (r.reg (pS w) + BitVec.ofInt 32 (pImmS w))) := by
  refine State.parserRow_goesOn hrun hsteps hw (kind := fun o => o == .addi) (by simp [h]) ?_
  simp only [State.parserRes, parserStep, h]
  rfl

theorem parserLut_goesOn (h : parserOp w = .lut) : ParserGoesOn (exec (.parserLut i false) s) s (rangeStream i) p
    (r.wrote (pD w) ((s.ptab (s.get (fTableBase (rangeStream i)) + ((r.reg (pS w)).toNat + pImm w))).getD (BitVec.ofNat 32 s.free))) := by
  refine State.parserRow_goesOn hrun hsteps hw (kind := fun o => o == .lut) (by simp [h]) ?_
  simp only [State.parserRes, parserStep, h]
  rfl

-- Branches and effects

theorem parserBranch_goesOn (o : Nat) (h : parserOp w = .branch o) : ParserGoesOn (exec (.parserBranch i false) s) s (rangeStream i) p
    { r with pc := r.pc + (if parserTaken o (r.reg (pD w)) (r.reg (pS w)) then pImmS w else 1), steps := r.steps + 1 } := by
  refine State.parserRow_goesOn hrun hsteps hw (kind := ParserOp.isBranch) (by rw [h]; rfl) ?_
  simp only [State.parserRes, parserStep, h]
  rw [← apply_ite (r.pc + ·)]
  rfl

theorem parserEmit_goesOn (h : parserOp w = .emit) : ParserGoesOn (exec (.parserEmit i false) s) s (rangeStream i) p
    { r with pc := r.pc + 1, steps := r.steps + 1, effects := r.effects ++ [.point (pointRec w r)] } := by
  refine State.parserRow_goesOn hrun hsteps hw (kind := fun o => o == .emit) (by simp [h]) ?_
  simp only [State.parserRes, parserStep, h]
  rfl

theorem parserStamp_goesOn (h : parserOp w = .stamp) : ParserGoesOn (exec (.parserStamp i false) s) s (rangeStream i) p
    { r with pc := r.pc + 1, steps := r.steps + 1, effects := r.effects ++ [.stamp (stampNs w r s.free)] } := by
  refine State.parserRow_goesOn hrun hsteps hw (kind := fun o => o == .stamp) (by simp [h]) ?_
  simp only [State.parserRes, parserStep, h]
  rfl

theorem parserSweep_goesOn (h : parserOp w = .sweep) : ParserGoesOn (exec (.parserSweep i false) s) s (rangeStream i) p
    { r with pc := r.pc + 1, steps := r.steps + 1, effects := r.effects ++ [.sweep] } := by
  refine State.parserRow_goesOn hrun hsteps hw (kind := fun o => o == .sweep) (by simp [h]) ?_
  simp only [State.parserRes, parserStep, h]
  rfl

-- SEQ

theorem parserSeq_goesOn {r' : ParserRun} (h : parserOp w = .seq) (hseq : parserSeq w r.counted = .cont r') : ParserGoesOn (exec (.parserSeq i false) s) s (rangeStream i) p r' := by
  refine State.parserRow_goesOn hrun hsteps hw (kind := fun o => o == .seq) (by simp [h]) ?_
  simp only [State.parserRes, parserStep, h]
  exact hseq

theorem parserSeq_rejects {e : Nat} (h : parserOp w = .seq) (hexp : r.expected = some e) (hold : seqMod w / 2 ≤ r.seqAhead w e) :
    exec (.parserSeq i false) s = .next (s.packetRejected (rangeStream i) 0x1206 0 { r.counted with number := some (r.seqNo w) }) := by
  refine congrArg _ (State.parserRow_rejects hrun hsteps hw (kind := fun o => o == .seq) (by simp [h]) ?_)
  simp only [State.parserRes, parserStep, h]
  exact parserSeq_old (r := r.counted) hexp hold

-- The end of a run

theorem parserEnd_accepts (h : parserOp w = .end_) : exec (.parserEnd i false) s = .next (s.packetAccepted (rangeStream i) p.arrival r.counted) := by
  refine congrArg _ (State.parserRow_accepts hrun hsteps hw (kind := fun o => o == .end_) (by simp [h]) ?_)
  simp only [State.parserRes, parserStep, h]
  rfl

theorem parserReject_rejects (h : parserOp w = .reject) :
    exec (.parserReject i false) s = .next (s.packetRejected (rangeStream i) 0x1205 (pImm w % 256) r.counted) := by
  refine congrArg _ (State.parserRow_rejects hrun hsteps hw (kind := fun o => o == .reject) (by simp [h]) ?_)
  simp only [State.parserRes, parserStep, h]
  rfl

theorem parserInvalid_rejects (h : parserOp w = .invalid) : exec (.parserInvalidOp i false) s = .next (s.packetRejected (rangeStream i) 0x1303 0 r.counted) := by
  refine congrArg _ (State.parserRow_rejects hrun hsteps hw (kind := fun o => o == .invalid) (by simp [h]) ?_)
  simp only [State.parserRes, parserStep, h]
  rfl

end

theorem State.ptab_inside (s : State) {n : Nat} (h : n < 4096) : s.ptab n = some (s.reg (0x1C000 + 4 * n)) := if_pos h

theorem stampNs_free {w : Word} (h : pImm w % 4 ≠ 3) (r : ParserRun) (m n : Nat) : stampNs w r m = stampNs w r n := by
  obtain hu | hu | hu : pImm w % 4 = 0 ∨ pImm w % 4 = 1 ∨ pImm w % 4 = 2 := by omega
  all_goals simp only [stampNs, hu]

theorem rejectEvent_violation (k reason : Nat) (r : ParserRun) {code : Nat} (h : code ≠ 0x1303) :
    (rejectEvent k code reason r).code = BitVec.ofNat 16 code ∧ (rejectEvent k code reason r).disp = .violation := by
  rw [rejectEvent, if_neg h]
  exact ⟨rfl, rfl⟩

theorem rejectEvent_report (k reason : Nat) (r : ParserRun) : (rejectEvent k 0x1303 reason r).code = 0x1303 ∧ (rejectEvent k 0x1303 reason r).disp = .report := by
  rw [rejectEvent, if_pos rfl]
  exact ⟨rfl, rfl⟩

theorem rejectEvent_reason (k : Nat) (r : ParserRun) (w : Word) : (rejectEvent k 0x1205 (pImm w % 256) r).detail = [BitVec.ofNat 8 (pImm w)] := by
  rw [rejectEvent, if_neg (by decide), if_pos rfl]
  simp [leBytes, ← BitVec.toNat_inj]

/-- The state in which stream k's run u stands (R171). -/
def State.withRun (s : State) (k : Nat) (p : RangePkt) (u : ParserRun) : State := s.setStrm k { s.strm k with run := some (p, u) }

theorem State.withRun_strm (s : State) (k : Nat) (p : RangePkt) (u : ParserRun) : (s.withRun k p u).strm k = { s.strm k with run := some (p, u) } :=
  State.strm_setStrm_same s k _

theorem State.withRun_nextRun (s : State) (k : Nat) (p : RangePkt) (u : ParserRun) (g : List Word) (expected : Option Nat) :
    (s.withRun k p u).nextRun k g expected = s.nextRun k g expected := by
  rw [State.nextRun, State.withRun_strm]
  rfl

theorem parserRunLimit_rejects (s : State) (i : Fin 8) (p : RangePkt) {u : ParserRun} (h : 65536 ≤ u.steps) :
    exec (.parserRunLimit i) (s.withRun (rangeStream i) p u) = .next ((s.withRun (rangeStream i) p u).packetRejected (rangeStream i) 0x1204 0 u) := by
  have hrun : ((s.withRun (rangeStream i) p u).strm (rangeStream i)).run = some (p, u) := by rw [State.withRun_strm]
  generalize s.withRun (rangeStream i) p u = z at hrun ⊢
  change execParserRunLimit i z = _
  rw [execParserRunLimit, hrun]
  exact if_pos h

theorem State.withRun_refused (s : State) {k code : Nat} (reason : Nat) (p : RangePkt) (u : ParserRun) (hk : k < 24) (hcode : code ≠ 0) :
    PacketRefused s ((s.withRun k p u).packetRejected k code reason u) k u (rejectEvent k code reason u) := by
  obtain ⟨⟨hrun, hg, hexp⟩, hraised, hgap⟩ := (s.withRun k p u).packetRejected_refused reason u hk hcode
  exact ⟨⟨hrun.trans (s.withRun_nextRun k p u _ _), hg, hexp⟩, hraised, hgap⟩

theorem State.withRun_eq (s : State) (k : Nat) (p : RangePkt) (u : ParserRun) : ∃ mill, s.withRun k p u = { s with mill } := ⟨_, rfl⟩

theorem State.withRun_violates {s : State} (hs : State.Ok s) {k code : Nat} {u : ParserRun} (reason : Nat) (p : RangePkt) (hk : k < 24) (hcode : code ≠ 0)
    (hviol : code ≠ 0x1303) (hqueue : (s.strm k).queue = []) (hlost : u.lost = []) :
    PacketViolates s ((s.withRun k p u).packetRejected k code reason u) k u (rejectEvent k code reason u) := by
  have hidle : ((s.withRun k p u).strm k).queue = [] := by rw [State.withRun_strm]; exact hqueue
  obtain ⟨hrun, hg, hcount, hregs, hrest⟩ := State.packetRejected_violates reason hk hcode hviol hidle hlost
  obtain ⟨mill, hmill⟩ := s.withRun_eq k p u
  generalize (s.withRun k p u).packetRejected k code reason u = t at *
  rw [hmill] at hcount hregs hrest
  exact ⟨hrun, hg, hcount.trans (State.bump_reg_congr hs (hs.withMill mill) rfl), hregs, hrest⟩

/-- Settles O47: a word's effect is its case of parserStep; a run that ends or is rejected leaves its stream as the next packet finds it. -/
theorem parserInstructionsAct : Obligations.ParserInstructionsAct := by
  unfold Obligations.ParserInstructionsAct
  intro s i p r w k a hs hk hrun hsteps hw ha
  obtain rfl : k = rangeStream i := hk
  subst ha
  have hstream : rangeStream i < 24 := by simp only [rangeStream]; omega
  refine ⟨parserLd8_goesOn hrun hsteps hw, parserLd16_big_goesOn hrun hsteps hw, parserLd16_little_goesOn hrun hsteps hw, parserLd32_goesOn hrun hsteps hw true,
    parserLd32_goesOn hrun hsteps hw false, parserLdi_goesOn hrun hsteps hw, parserLui_goesOn hrun hsteps hw, parserAlu_goesOn hrun hsteps hw,
    parserShift_goesOn hrun hsteps hw, parserMul_goesOn hrun hsteps hw false, parserMul_goesOn hrun hsteps hw true, parserAddi_goesOn hrun hsteps hw, ?_,
    parserBranch_goesOn hrun hsteps hw, parserEmit_goesOn hrun hsteps hw, ?_, ?_, ?_, ?_, ?_, parserSweep_goesOn hrun hsteps hw, ?_, ?_, ?_⟩
  · intro hop hin
    have hgo := parserLut_goesOn hrun hsteps hw hop
    rw [← Nat.add_assoc, State.ptab_inside s hin] at hgo
    exact hgo
  · intro hop hunit
    rw [stampNs_free hunit r 0 s.free]
    exact parserStamp_goesOn hrun hsteps hw hop
  · exact fun hop _ => ⟨_, parserStamp_goesOn hrun hsteps hw hop⟩
  · exact fun hop _ => ⟨_, parserLut_goesOn hrun hsteps hw hop⟩
  · rintro _ _ e _ hop rfl rfl hexp rfl hd hlt
    exact parserSeq_goesOn hrun hsteps hw hop (parserSeq_ahead (r := r.counted) hexp hd hlt)
  · intro next hnext
    have hnext : ∀ u, next u = s.nextRun (rangeStream i) u.g u.expected := by
      intro u
      rw [hnext]
      unfold State.nextRun
      cases (s.strm (rangeStream i)).queue <;> rfl
    refine ⟨fun hop => ?_, fun hop => ?_, fun hop => ?_, ?_, fun u hu => ?_⟩
    · obtain ⟨hrun', hg, hexp⟩ := s.packetAccepted_over p.arrival r.counted hstream
      exact ⟨_, parserEnd_accepts hrun hsteps hw hop, hrun'.trans (hnext r).symm, hg, hexp,
        fun f pts hlost heff hopen hmode hroom => State.packetAccepted_points p.arrival hlost heff hopen hmode hroom,
        fun hlost heff hclosed => State.packetAccepted_begins p.arrival hlost heff hclosed⟩
    · obtain ⟨⟨hrun', hg, -⟩, hraised, hgap⟩ := s.packetRejected_refused (code := 0x1205) (pImm w % 256) r.counted hstream (by decide)
      obtain ⟨hcode, hdisp⟩ := rejectEvent_violation (rangeStream i) (pImm w % 256) r.counted (code := 0x1205) (by decide)
      exact ⟨_, _, parserReject_rejects hrun hsteps hw hop, hrun'.trans (hnext r).symm, hg, hraised, hcode, hdisp, hgap⟩
    · obtain ⟨⟨hrun', hg, -⟩, hraised, -⟩ := s.packetRejected_refused (code := 0x1303) 0 r.counted hstream (by decide)
      obtain ⟨hcode, hdisp⟩ := rejectEvent_report (rangeStream i) 0 r.counted
      exact ⟨_, _, parserInvalid_rejects hrun hsteps hw hop, hrun'.trans (hnext r).symm, hg, hraised, hcode, hdisp⟩
    · rintro _ _ e _ hop rfl rfl hexp rfl hold
      obtain ⟨⟨hrun', hg, -⟩, hraised, -⟩ := s.packetRejected_refused (code := 0x1206) 0 { r.counted with number := some (r.seqNo w) } hstream (by decide)
      obtain ⟨hcode, hdisp⟩ := rejectEvent_violation (rangeStream i) 0 { r.counted with number := some (r.seqNo w) } (code := 0x1206) (by decide)
      exact ⟨_, _, parserSeq_rejects hrun hsteps hw hop hexp hold, hrun'.trans (hnext r).symm, hg, hraised, hcode, hdisp⟩
    · obtain ⟨⟨hrun', hg, -⟩, hraised, -⟩ := s.withRun_refused (code := 0x1204) 0 p u hstream (by decide)
      obtain ⟨hcode, hdisp⟩ := rejectEvent_violation (rangeStream i) 0 u (code := 0x1204) (by decide)
      exact ⟨_, _, parserRunLimit_rejects s i p hu, hrun'.trans (hnext u).symm, hg, hraised, hcode, hdisp⟩
  · intro hop hexp
    have hseq := parserSeq_taken (r := r.counted) (hexp.imp_right fun ⟨e, hexp, heq⟩ => ⟨e, hexp, ParserRun.seqAhead_same heq⟩)
    rw [← Nat.mod_add_mod]
    exact parserSeq_goesOn hrun hsteps hw hop hseq
  · intro hqueue hlost
    refine ⟨fun f hop heff hopen => ?_, fun hop hout => ?_, fun hop => ?_, fun hop => ?_⟩
    · refine ⟨_, (parserEnd_accepts hrun hsteps hw hop).trans (congrArg _ (State.packetAccepted_plain p.arrival hqueue hlost heff hopen)), ?_, ?_, rfl⟩
      · exact s.runOver_strm (rangeStream i) r.counted
      · exact fun j hj => State.strm_setStrm_ne s hj _
    · obtain ⟨hrun', hg, hcount, hregs, hrest⟩ := State.packetRejected_violates (code := 0x1203) (r := r.counted) 0 hstream (by decide) (by decide) hqueue hlost
      obtain ⟨hcode, hdisp⟩ := rejectEvent_violation (rangeStream i) 0 r.counted (code := 0x1203) (by decide)
      exact ⟨_, _, parserLd8_rejects hrun hsteps hw hop hout, hcode, hdisp, hrun', hg, hcount, hregs, hrest⟩
    · obtain ⟨hrun', hg, hcount, hregs, hrest⟩ := State.packetRejected_violates (code := 0x1205) (r := r.counted) (pImm w % 256) hstream (by decide) (by decide) hqueue hlost
      obtain ⟨hcode, hdisp⟩ := rejectEvent_violation (rangeStream i) (pImm w % 256) r.counted (code := 0x1205) (by decide)
      exact ⟨_, _, parserReject_rejects hrun hsteps hw hop, hcode, hdisp, rejectEvent_reason _ _ w, hrun', hg, hcount, hregs, hrest⟩
    · obtain ⟨hrun', hg, hrest⟩ := State.packetRejected_reports (r := r.counted) 0 hstream hqueue hlost
      obtain ⟨hcode, hdisp⟩ := rejectEvent_report (rangeStream i) 0 r.counted
      exact ⟨_, _, parserInvalid_rejects hrun hsteps hw hop, hcode, hdisp, hrun', hg, hrest⟩
  · intro u hqueue hlost hu
    obtain ⟨hrun', hg, hcount, hregs, hrest⟩ := State.withRun_violates hs (code := 0x1204) 0 p hstream (by decide) (by decide) hqueue hlost
    obtain ⟨hcode, hdisp⟩ := rejectEvent_violation (rangeStream i) 0 u (code := 0x1204) (by decide)
    refine ⟨_, _, parserRunLimit_rejects s i p hu, hcode, hdisp, hrun', hg, hcount, ?_, hregs, ?_⟩
    · rw [hrest]
    · intro b; rw [hrest]; rfl

end Sys2Proof.Machine

/-! THE CANONICAL FORMS. What every step keeps of the registers, the DRAM and the fused core map (R253, R784, R819). -/
namespace Sys2Proof.Machine

/-- Settles O58: the command at the front is taken off, which leaves the canonical forms, and its meaning evolves from what is left (`exec_evolves`). -/
theorem everyStepKeepsTheCanonicalForms : Obligations.EveryStepKeepsTheCanonicalForms := by
  unfold Obligations.EveryStepKeepsTheCanonicalForms step
  intro s t hs hstep
  cases hp : s.pending with
  | nil =>
    rw [hp] at hstep
    cases hstep
    exact hs
  | cons c rest =>
    rw [hp] at hstep
    have hok : State.Ok { s with pending := rest } := ⟨hs.regs, hs.dram, hs.phys⟩
    exact hok.of_evolves (Evolves.of_out hstep (exec_evolves c _))

end Sys2Proof.Machine

/-! SCALAR INSTRUCTIONS. What a SALU instruction and LI64 of an issued bundle write (07_hearth_instruction_set.md; R229, R256, R257, R269, R270). -/
namespace Sys2Proof.Machine

-- THE REGISTERS OF A CORE

/-- s0 keeps its value and reads 0; another s-register in the file reads what was put there (R229). -/
theorem getS_setS (l : List DWord) (d e : Nat) (v : DWord) : getS (setS l 0 v) e = getS l e ∧ getS l 0 = 0 ∧
    (1 ≤ d → d < l.length → getS (setS l d v) e = if e = d then v else getS l e) := by
  refine ⟨rfl, rfl, fun hd hlen => ?_⟩
  have hset : setS l d v = l.set d v := if_neg (by omega)
  rw [hset, getS, getS]
  by_cases he : e = d
  · subst he
    rw [if_neg (by omega), if_pos rfl, List.getD_eq_getElem?_getD, List.getElem?_set_self hlen, Option.getD_some]
  · rw [if_neg he, List.getD_eq_getElem?_getD, List.getElem?_set_ne (Ne.symm he), ← List.getD_eq_getElem?_getD]

-- ONE SLOT

section
variable {s : State} {k : CoreId} {h : Held}

/-- The first instruction of its kind that the bundle holds has its effect. -/
theorem slotOp_first {j : Nat} {o : Op} (hslot : SlotReady s k h j o) {p : Nat → Op → Bool} (f : State → Held → Op → Bool × State) (hp : p j o = true)
    (hkind : ∀ i x, p i x = true → x.alike o = true) : s.slotOp k p f = .next (if (f s h o).1 then (f s h o).2.slotDone k j else (f s h o).2) :=
  slotOp_ready hslot p f hp fun i x hi hx => Bool.eq_false_iff.mpr fun hpx => by simpa [hslot.first i x hi hx] using hkind i x hpx

/-- An instruction whose effect on core k is c, and whose register reads are not uncorrectable, is done; a corrected error is counted. -/
theorem slotDone_regRead (hs : State.Ok s) {ecc : Ecc} (hecc : ecc ≠ .uncorrectable) (j : Nat) {f : State → State} (c : CoreSt)
    (hf : ∀ u : State, u.core k = s.core k → f u = u.setCore k c) (hc : c.bundle = some h) :
    SlotDone (.next (if (s.regRead k ecc f).1 then (s.regRead k ecc f).2.slotDone k j else (s.regRead k ecc f).2)) s k h j c
      (if ecc = .corrected then [kCore k 0x2C] else []) := by
  cases ecc with
  | clean =>
    simp only [State.regRead, hf s rfl]
    exact slotDone_setCore hs j c hc
  | corrected =>
    simp only [State.regRead, hf (s.bump (kSrfCe k)) rfl]
    exact slotDone_bump hs j c hc (kSrfCe k) (by simp [kSrfCe, kRetired, kCore])
  | uncorrectable => exact absurd rfl hecc

variable {j : Fin 3} {op d a b imm lo hi : Nat} {i : Bool} (hslot : SlotReady s k h j (.salu op i d a b imm)) (hlo : lo ≤ op) (hhi : op ≤ hi)
include hslot hlo hhi

/-- The SALU instruction that the slot of its command holds has its effect. -/
theorem slotOp_salu (f : State → Held → Op → Bool × State) : s.slotOp k (isSaluIn j lo hi) f =
    .next (if (f s h (.salu op i d a b imm)).1 then (f s h (.salu op i d a b imm)).2.slotDone k j else (f s h (.salu op i d a b imm)).2) :=
  slotOp_ready hslot (isSaluIn j lo hi) f (by simp [isSaluIn, hlo, hhi]) fun n x hn _ => by simp [isSaluIn, Nat.ne_of_lt hn]

/-- One that reads registers without an uncorrectable error and makes core k c is done. -/
theorem slotOp_salu_done (hs : State.Ok s) {ecc : Ecc} (hecc : ecc ≠ .uncorrectable) {f : State → Held → Op → Bool × State} {g : State → State} (c : CoreSt)
    (hf : f s h (.salu op i d a b imm) = s.regRead k ecc g) (hg : ∀ u : State, u.core k = s.core k → g u = u.setCore k c) (hc : c.bundle = some h) :
    SlotDone (s.slotOp k (isSaluIn j lo hi) f) s k h j c (if ecc = .corrected then [kCore k 0x2C] else []) := by
  rw [slotOp_salu hslot hlo hhi, hf]
  exact slotDone_regRead hs hecc j c hg hc

/-- One that reads a register with an uncorrectable error stops the core (R257). -/
theorem slotOp_salu_stops {f : State → Held → Op → Bool × State} {g : State → State} (hf : f s h (.salu op i d a b imm) = s.regRead k .uncorrectable g) :
    CoreStops (s.slotOp k (isSaluIn j lo hi) f) s k (s.core k) 0x2402 [] := by
  rw [slotOp_salu hslot hlo hhi, hf]
  exact coreFault_stops s k 0x2402 .seq 0

theorem saluS_done (hs : State.Ok s) {ecc : Ecc} (hecc : ecc ≠ .uncorrectable) :
    SlotDone (s.saluS k j lo hi ecc) s k h j { s.core k with s := setS (s.core k).s d (saluVal op (getS h.sv a) (h.operand i b imm)) }
      (if ecc = .corrected then [kCore k 0x2C] else []) :=
  slotOp_salu_done hslot hlo hhi hs hecc _ rfl (fun u hu => by rw [State.putS, hu]) hslot.held

end

-- VALUES

/-- Of two values told apart by a key, the choice by ≤ is the choice by <, whichever of them is taken. -/
theorem choose_le_eq_lt {α β : Type} [LinearOrder β] {f : α → β} (hf : Function.Injective f) (x y : α) :
    (if f x ≤ f y then x else y) = (if f x < f y then x else y) ∧ (if f x ≤ f y then y else x) = (if f x < f y then y else x) := by
  rcases lt_trichotomy (f x) (f y) with h | h | h
  · simp only [if_pos h, if_pos h.le, and_self]
  · simp only [hf h, ite_self, and_self]
  · simp only [if_neg h.not_ge, if_neg h.asymm, and_self]

theorem saluVal_signedMinMax (x y : DWord) : saluVal 11 x y = (if x.slt y then x else y) ∧ saluVal 12 x y = (if x.slt y then y else x) := by
  simpa only [saluVal, BitVec.slt, decide_eq_true_eq] using choose_le_eq_lt (fun _ _ => BitVec.eq_of_toInt_eq) x y

theorem saluVal_unsignedMinMax (x y : DWord) : saluVal 13 x y = (if x.ult y then x else y) ∧ saluVal 14 x y = (if x.ult y then y else x) := by
  simpa only [saluVal, BitVec.ult, decide_eq_true_eq] using choose_le_eq_lt (fun _ _ => BitVec.eq_of_toNat_eq) x y

theorem saluVal_compare (x y : DWord) : saluVal 15 x y = BitVec.ofNat 64 (b2n (x.slt y)) ∧ saluVal 16 x y = BitVec.ofNat 64 (b2n (x.ult y)) ∧
    saluVal 17 x y = BitVec.ofNat 64 (b2n (decide (x = y))) := by
  have hbit (b : Bool) : (if b then 1 else 0 : DWord) = BitVec.ofNat 64 (b2n b) := by cases b <;> rfl
  exact ⟨hbit (x.slt y), hbit (x.ult y), (hbit (x == y)).trans (by rw [beq_eq_decide])⟩

/-- Settles O48: each instruction is the one of its slot (`slotOp_salu`), and its value is read off `saluVal`. -/
theorem scalarInstructionsWriteTheirRegister : Obligations.ScalarInstructionsWriteTheirRegister := by
  unfold Obligations.ScalarInstructionsWriteTheirRegister
  intro s k h hs
  refine ⟨?_, fun j op i d a b imm hslot => ⟨fun hop => ?_, fun hop => ?_⟩, fun j d imm hslot => ?_, fun l d e v => getS_setS l d e v⟩
  · rintro j op i d a b imm ecc c x y z n hslot rfl rfl rfl hx hy hecc
    change x = getS h.sv a at hx
    change y = h.operand i b imm at hy
    subst hx hy
    refine ⟨fun hop => ?_, fun hlo hhi => ?_, fun hlo hhi => ?_, fun hlo hhi => ?_, fun hlo hhi => ?_, fun hop => ?_, fun hop => ?_, fun hop => ?_, fun hop => ?_⟩
    · have hdone := saluS_done hslot (Nat.zero_le op) hop hs hecc
      obtain rfl | rfl | rfl | rfl | rfl : op = 0 ∨ op = 1 ∨ op = 2 ∨ op = 3 ∨ op = 4 := by omega
      all_goals exact hdone
    · have hdone := saluS_done hslot hlo hhi hs hecc
      obtain rfl | rfl | rfl : op = 5 ∨ op = 6 ∨ op = 7 := by omega
      all_goals exact hdone
    · have hdone := saluS_done hslot hlo hhi hs hecc
      obtain rfl | rfl | rfl : op = 8 ∨ op = 9 ∨ op = 10 := by omega
      all_goals exact hdone
    · have hdone := saluS_done hslot hlo hhi hs hecc
      obtain ⟨hmin, hmax⟩ := saluVal_signedMinMax (getS h.sv a) (h.operand i b imm)
      obtain ⟨hminu, hmaxu⟩ := saluVal_unsignedMinMax (getS h.sv a) (h.operand i b imm)
      obtain rfl | rfl | rfl | rfl : op = 11 ∨ op = 12 ∨ op = 13 ∨ op = 14 := by omega
      · exact hmin ▸ hdone
      · exact hmax ▸ hdone
      · exact hminu ▸ hdone
      · exact hmaxu ▸ hdone
    · have hdone := saluS_done hslot hlo hhi hs hecc
      obtain ⟨hlt, hltu, heq⟩ := saluVal_compare (getS h.sv a) (h.operand i b imm)
      obtain rfl | rfl | rfl : op = 15 ∨ op = 16 ∨ op = 17 := by omega
      · exact hlt ▸ hdone
      · exact hltu ▸ hdone
      · exact heq ▸ hdone
    all_goals subst hop
    · change SlotDone (execAddh k j ecc s) s k h j _ _
      exact slotOp_salu_done hslot le_rfl le_rfl hs hecc _ rfl (fun u hu => by rw [State.putS, hu]; rfl) hslot.held
    · change SlotDone (execMova k j ecc s) s k h j _ _
      exact slotOp_salu_done hslot le_rfl le_rfl hs hecc _ rfl (fun u hu => by rw [State.putA, hu]; rfl) hslot.held
    · change SlotDone (execMovs k j ecc s) s k h j _ _
      exact slotOp_salu_done hslot le_rfl le_rfl hs hecc _ rfl (fun u hu => by rw [State.putS, hu]; rfl) hslot.held
    · change SlotDone (execAdda k j ecc s) s k h j _ _
      exact slotOp_salu_done hslot le_rfl le_rfl hs hecc _ rfl (fun u hu => by rw [State.putA, hu]; rfl) hslot.held
  · change CoreStops (s.saluS k j 0 4 .uncorrectable) s k _ _ _
    exact slotOp_salu_stops hslot (Nat.zero_le op) hop rfl
  · change CoreStops (execMova k j .uncorrectable s) s k _ _ _
    exact slotOp_salu_stops hslot hop.ge hop.le rfl
  · change SlotDone (execLi64 k s) s k h j _ _
    unfold execLi64
    rw [slotOp_first hslot _ rfl fun | _, .li64 .., _ => rfl]
    exact slotDone_setCore hs j _ hslot.held

end Sys2Proof.Machine

/-! THE FRAME OF A CORE. How the parts of what an operation of one core changes compose. -/
namespace Sys2Proof.Machine

/-- Core k is c, and nothing else has changed but the registers of the keys listed. -/
structure CoreOnly (s t : State) (k : CoreId) (c : CoreSt) (ks : List Nat) : Prop where
  core : t.core k = c
  others : ∀ i, i ≠ k.val → t.core i = s.core i
  regs : keepsRegs s t ks
  rest : t = { s with cores := t.cores, regs := t.regs }

section
variable {r s t u : State} {k : CoreId} {c d : CoreSt} {ks ls : List Nat}

theorem CoreOnly.refl (s : State) (k : CoreId) (ks : List Nat) : CoreOnly s s k (s.core k) ks := ⟨rfl, fun _ _ => rfl, keepsRegs.refl s ks, rfl⟩

theorem CoreOnly.trans (h : CoreOnly r s k c ks) (g : CoreOnly s t k d ks) : CoreOnly r t k d ks where
  core := g.core
  others i hi := (g.others i hi).trans (h.others i hi)
  regs := h.regs.trans g.regs
  rest := by rw [g.rest, h.rest]

theorem CoreOnly.mono (h : CoreOnly s t k c ks) (hsub : ∀ r ∈ ks, r ∈ ls) : CoreOnly s t k c ls := ⟨h.core, h.others, h.regs.mono hsub, h.rest⟩

theorem CoreOnly.setCore (h : CoreOnly s t k c ks) (d : CoreSt) : CoreOnly s (t.setCore k d) k d ks where
  core := t.core_setCore_same k d
  others i hi := (t.core_setCore_ne hi d).trans (h.others i hi)
  regs := h.regs
  rest := by rw [h.rest]; rfl

theorem CoreOnly.onlyRegs (h : CoreOnly s t k c ks) (g : OnlyRegs t u ks) : CoreOnly s u k c ks where
  core := by rw [g.rest]; exact h.core
  others i hi := by rw [g.rest]; exact h.others i hi
  regs := h.regs.trans g.regs
  rest := by rw [g.rest, h.rest]

theorem CoreOnly.setReg (h : CoreOnly s t k c ks) {key : Nat} (hkey : key ∈ ks) (v : Word) : CoreOnly s (t.setReg key v) k c ks :=
  h.onlyRegs ((t.setReg_onlyRegs key v).mono fun _ hr => List.mem_singleton.mp hr ▸ hkey)

theorem CoreOnly.bump (h : CoreOnly s t k c ks) {key : Nat} (hkey : key ∈ ks) : CoreOnly s (t.bump key) k c ks := h.setReg hkey _

theorem CoreOnly.ram (h : CoreOnly s t k c ks) : keepsRam s t := by
  intro a; rw [h.rest]; rfl

theorem CoreOnly.evolves (h : CoreOnly s t k c ks) (hregs : regsWf s.regs = true → regsWf t.regs = true) : Evolves s t := by
  rw [h.rest]
  exact ⟨rfl, rfl, rfl, rfl, hregs, id, le_rfl, le_rfl⟩

/-- The state is the answer, where each counter of the first list has counted one. -/
theorem CoreOnly.next {counts : List Nat} (h : CoreOnly s t k c (counts ++ ks)) (hcounts : ∀ r ∈ counts, t.reg r = (s.bump r).reg r) :
    CoreNext (.next t) s k c counts ks :=
  ⟨t, rfl, h.core, h.others, hcounts, h.regs, h.ram, h.rest⟩

theorem CoreOnly.next_uncounted (h : CoreOnly s t k c ks) : CoreNext (.next t) s k c [] ks := CoreOnly.next (counts := []) h (by simp)

/-- A fault then stops the core. -/
theorem CoreOnly.stops (h : CoreOnly s t k c ks) (code : Nat) (unit : CoreUnit) (info : Nat) :
    CoreStops (.next (t.coreFault k code unit info)) s k c code ks := by
  obtain ⟨u, ev, hu, hcore, hothers, hcode, hdisp, hreeve, hregs, hram, hrest⟩ := coreFault_stops t k code unit info
  refine ⟨u, ev, hu, h.core ▸ hcore, fun i hi => (hothers i hi).trans (h.others i hi), hcode, hdisp, ?_, ?_, ?_, ?_⟩
  · rw [hreeve, h.rest]
  · exact h.regs.trans (hregs.mono (by simp))
  · exact fun a => (hram a).trans (h.ram a)
  · rw [hrest, h.rest]

end

/-- A fault of a core leaves the registers. -/
theorem State.coreFault_reg (s : State) (k : CoreId) (code : Nat) (u : CoreUnit) (info r : Nat) : (s.coreFault k code u info).reg r = s.reg r := rfl

/-- Two registers of one core are the same where their offsets are. -/
theorem kCore_inj {k a b : Nat} : kCore k a = kCore k b ↔ a = b := by simp [kCore]

end Sys2Proof.Machine

/-! WATCHDOGS AND THE GRANARY'S OWN WORK (06_hearth_core.md, 10_granary.md; R245, R246, R376 to R379, R395, R836). -/
namespace Sys2Proof.Machine

-- WATCHDOGS

theorem State.engState_lt (s : State) (k e : Nat) : s.engState k e < 16 := by
  unfold State.engState
  grind

theorem State.engStates_lt (s : State) (k : Nat) : s.engStates k < 2 ^ 20 := by
  have h := s.engState_lt k
  have h0 := h 0; have h1 := h 1; have h2 := h 2; have h3 := h 3; have h4 := h 4
  simp only [State.engStates, List.range_succ, List.range_zero, List.map, List.nil_append, List.cons_append, List.foldl]
  omega

/-- The engines of a test, as a mask: each engine's bit is the test of it. -/
theorem engineMask_bit (p : Nat → Bool) {i : Nat} (hi : i < 5) : ((((List.range 5).filter p).map (2 ^ ·)).foldl (· + ·) 0).testBit i = p i := by
  have hrange : List.range 5 = [0, 1, 2, 3, 4] := rfl
  rw [hrange]
  generalize h0 : p 0 = b0; generalize h1 : p 1 = b1; generalize h2 : p 2 = b2; generalize h3 : p 3 = b3; generalize h4 : p 4 = b4
  have hp : p i = [b0, b1, b2, b3, b4].getD i false := by
    obtain rfl | rfl | rfl | rfl | rfl : i = 0 ∨ i = 1 ∨ i = 2 ∨ i = 3 ∨ i = 4 := by omega
    all_goals simp [*]
  simp only [List.filter, h0, h1, h2, h3, h4, hp]
  clear hp h0 h1 h2 h3 h4
  revert i b0 b1 b2 b3 b4
  decide

/-- The engines of the mask that expire: not idle, and without progress for their window of cycles (R245). -/
def CoreSt.expired (c : CoreSt) (mask : BitVec 5) (cycles e : Nat) : Bool := mask.getLsbD e && !c.idle e && decide (c.wdog.getD e 0 ≤ cycles)

/-- HRT_WDOG_LAST after the engines of a mask have expired together. -/
def State.wdogLast (s : State) (k : Nat) (mask : BitVec 5) (cycles : Nat) : Nat :=
  (((List.range 5).filter ((s.core k).expired mask cycles)).map (2 ^ ·)).foldl (· + ·) 0 * 2 ^ 20 + s.engStates k

theorem watchdogExpiry_expires {s : State} {k : CoreId} {mask : BitVec 5} {cycles e : Nat} (hruns : s.runs k = true) (he : e < 5)
    (hexp : (s.core k).expired mask cycles e = true) : ∃ u : CoreUnit, exec (.watchdogExpiry k mask cycles) s =
      .next ((s.setReg (kCore k 8) (BitVec.ofNat 32 (s.wdogLast k mask cycles))).coreFault k 0x2301 u (s.wdogLast k mask cycles % 2 ^ 25)) := by
  have hmem : e ∈ (List.range 5).filter ((s.core k).expired mask cycles) := by simp [he, hexp]
  obtain ⟨a, l, hhit⟩ := List.exists_cons_of_ne_nil (List.ne_nil_of_mem hmem)
  refine ⟨unitOf a, ?_⟩
  change execWatchdogExpiry k mask cycles s = _
  rw [State.wdogLast, hhit]
  unfold CoreSt.expired at hhit
  simp only [execWatchdogExpiry, hhit, hruns, Bool.not_true, Bool.false_eq_true, if_false]

theorem State.wdogLast_bit (s : State) (k : Nat) (mask : BitVec 5) (cycles : Nat) {i : Nat} (hi : i < 5) :
    (BitVec.ofNat 32 (s.wdogLast k mask cycles)).getLsbD (20 + i) = (s.core k).expired mask cycles i := by
  rw [BitVec.getLsbD_ofNat, decide_eq_true (by omega : 20 + i < 32), Bool.true_and, State.wdogLast, Nat.mul_comm,
    Nat.testBit_two_pow_mul_add _ (s.engStates_lt k), if_neg (by omega), Nat.add_sub_cancel_left, engineMask_bit _ hi]


-- THE BUFFER THAT HOLDS A PAGE

theorem keepsRegs.bufOfPage {s t : State} {ks : List Nat} (h : keepsRegs s t ks) (hks : ∀ c < 16, 0x50140 + 8 * c ∉ ks) (page : Nat) :
    t.bufOfPage page = s.bufOfPage page := by
  have hfirst : ∀ c < 16, t.get (fClassFirst c) = s.get (fClassFirst c) := fun c hc => h.get (hks c hc)
  have hcount : ∀ c < 16, t.get (fClassCount c) = s.get (fClassCount c) := fun c hc => h.get (hks c hc)
  have hpages : ∀ c < 16, t.bufPages c = s.bufPages c := fun c hc => congrArg (2 ^ ·) (h.get (f := fClassSize c) (hks c hc))
  have hbase : ∀ c < 16, t.classBase c = s.classBase c := fun c hc =>
    congrArg (List.foldl (· + ·) 0) (List.map_congr_left fun c' hc' => hcount c' ((List.mem_range.mp hc').trans hc))
  unfold State.bufOfPage
  rw [List.find?_congr fun c hc => by rw [hfirst c (List.mem_range.mp hc), hcount c (List.mem_range.mp hc), hpages c (List.mem_range.mp hc)]]
  refine Option.map_congr fun c hc => ?_
  have hlt : c < 16 := List.mem_range.mp (List.mem_of_find?_eq_some hc)
  rw [hfirst c hlt, hpages c hlt, hbase c hlt]

/-- The owner of a page rests on the buffer classes and on the core's owner records. -/
theorem keepsRegs.pageOwner {s t : State} {ks : List Nat} (h : keepsRegs s t ks) (hks : ∀ c < 16, 0x50140 + 8 * c ∉ ks) {k : Nat}
    (hrecs : (t.core k).grn.recs = (s.core k).grn.recs) (htagged : (t.core k).grn.tagged = (s.core k).grn.tagged) (page : Nat) :
    t.pageOwner k page = s.pageOwner k page := by
  unfold State.pageOwner
  rw [h.bufOfPage hks]
  cases s.bufOfPage page with
  | none => rfl
  | some b =>
    dsimp only [Granary.recOf]
    rw [hrecs, htagged]

/-- No register of a core's block describes a buffer class. -/
theorem classKey_ne_kCore (c k off : Nat) (hc : c < 16) : 0x50140 + 8 * c ≠ kCore k off := by
  unfold kCore; omega

-- WRITE-BACK AND SCRUB

section
variable {s : State} {k : CoreId}

theorem granaryWriteback_writes {w : Nat} {rest : List Nat} (hwb : (s.core k).grn.wb = w :: rest) :
    (s.paused k = false → exec (.granaryWriteback k) s = .next (s.setGrn k { (s.core k).grn with wb := rest })) ∧
    (s.paused k = true → exec (.granaryWriteback k) s = .next s) := by
  change (_ → execGranaryWriteback k s = _) ∧ (_ → execGranaryWriteback k s = _)
  constructor <;> intro hp <;> simp [execGranaryWriteback, hwb, hp]

/-- A bank's scrub stands at its next row. -/
def Granary.scrubMoved (g : Granary) (bank : Nat) : Granary := { g with scrub := Tbl.put g.scrub bank (Tbl.getD g.scrub bank 0 + 1) }

/-- Nothing else changes but GRN_SCRUB_PASSES (R378). -/
theorem State.scrubbed_only (s : State) (k : CoreId) (bank : Nat) :
    CoreOnly s (s.scrubbed k bank) k { s.core k with grn := (s.core k).grn.scrubMoved bank } [kCore k 0xE08] := by
  have hmoved := (CoreOnly.refl s k [kCore k 0xE08]).setCore { s.core k with grn := (s.core k).grn.scrubMoved bank }
  simp only [State.scrubbed]
  split
  · exact hmoved.setReg (List.mem_singleton_self _) _
  · exact hmoved

/-- The offset of the line that a bank's scrub reads next. -/
def State.scrubLine (s : State) (k : CoreId) (bank : Fin 32) : Nat := lineOf bank (Tbl.getD (s.core k).grn.scrub bank 0 % 2048)

variable {bank : Fin 32} {errs : GrnErrs} (hwb : (s.core k).grn.wb = []) (hrun : s.paused k = false) (hk : k.val < s.nCores)
include hwb hrun hk

theorem granaryScrub_clean (hhit : errsIn errs (s.scrubLine k bank) 64 = []) : exec (.granaryScrub k bank errs) s = .next (s.scrubbed k bank) := by
  change execGranaryScrub k bank errs s = _
  unfold State.scrubLine at hhit
  simp [execGranaryScrub, hwb, hrun, hk, hhit]

theorem granaryScrub_corrected {w : Nat} (hhit : errsIn errs (s.scrubLine k bank) 64 = [(w, false)]) :
    exec (.granaryScrub k bank errs) s = .next ((s.scrubbed k bank).grnCorrected k w) := by
  change execGranaryScrub k bank errs s = _
  unfold State.scrubLine at hhit
  simp [execGranaryScrub, hwb, hrun, hk, hhit]

theorem granaryScrub_uncorrectable {w : Nat} (hhit : errsIn errs (s.scrubLine k bank) 64 = [(w, true)]) :
    exec (.granaryScrub k bank errs) s = .next (if ((s.pageOwner k (s.scrubLine k bank / 4096)).isSome) then
      ((s.scrubbed k bank).bump (kGrn k 4)).jobFault 0x3201 (srcCore k .granary) else ((s.scrubbed k bank).bump (kGrn k 4)).grnZero k (s.scrubLine k bank) 64) := by
  have honly : CoreOnly s ((s.scrubbed k bank).bump (kGrn k 4)) k _ [kCore k 0xE08, kCore k 0xE04] :=
    ((s.scrubbed_only k bank).mono (by simp)).bump (by simp [kGrn])
  have howner (page : Nat) : ((s.scrubbed k bank).bump (kGrn k 4)).pageOwner k page = s.pageOwner k page :=
    honly.regs.pageOwner (fun c hc => by simp [classKey_ne_kCore c k _ hc]) (by rw [honly.core]; rfl) (by rw [honly.core]; rfl) page
  change execGranaryScrub k bank errs s = _
  unfold State.scrubLine at hhit ⊢
  rw [← howner, apply_ite Host.Outcome.next]
  simp [execGranaryScrub, hwb, hrun, hk, hhit]

end

-- ZEROED BYTES

/-- Of a table cut down to some keys, a key that is kept reads as before and one that is not reads the default. -/
theorem Tbl.getD_filter_key {α : Type} (p : Nat → Bool) (m : Tbl α) (x : Nat) (d : α) :
    Tbl.getD (m.filter fun e => p e.1) x d = if p x then Tbl.getD m x d else d := by
  have hfind : Tbl.find (m.filter fun e => p e.1) x = if p x then Tbl.find m x else none := by
    induction m with
    | nil => simp [Tbl.find]
    | cons e m ih =>
      obtain ⟨key, v⟩ := e
      by_cases hp : p key = true
      · rw [List.filter_cons_of_pos (p := fun e : Nat × α => p e.1) hp, Tbl.find, Tbl.find, ih]
        by_cases hx : key = x
        · simp [← hx, hp]
        · simp [hx]
      · rw [List.filter_cons_of_neg (p := fun e : Nat × α => p e.1) hp, ih, Tbl.find]
        by_cases hx : key = x
        · simp [← hx, hp]
        · simp [hx]
  unfold Tbl.getD
  rw [hfind]
  split <;> rfl

-- THE OWNERSHIP LOG

/-- A register reads 0 after a list of registers is cleared, where it is of the list, and as before where it is not. -/
theorem State.reg_foldl_clear {s : State} (hs : State.Ok s) (l : List Nat) (r : Nat) :
    (l.foldl (fun s a => s.setReg a 0) s).reg r = if r ∈ l then 0 else s.reg r := by
  induction l generalizing s with
  | nil => simp
  | cons a l ih =>
    rw [List.foldl_cons, ih (hs.of_evolves (ev_setReg (Evolves.refl s) a 0))]
    by_cases hr : r = a
    · rw [hr, s.reg_setReg_same a 0 hs.regsKeyed, ite_self, if_pos List.mem_cons_self]
    · simp [hr, s.reg_setReg_ne hr]

theorem State.foldl_clear_rest (s : State) (l : List Nat) : l.foldl (fun s a => s.setReg a 0) s = { s with regs := (l.foldl (fun s a => s.setReg a 0) s).regs } := by
  induction l generalizing s with
  | nil => rfl
  | cons a l ih => rw [List.foldl_cons, ih]; rfl

/-- The registers of the ownership log. -/
def ownLogKeys : List Nat := (List.range 16).flatMap (fun i => (List.range 4).map (fun j => 0x50200 + 16 * i + 4 * j))

theorem mem_ownLogKeys {key : Nat} : key ∈ ownLogKeys ↔ 0x50200 ≤ key ∧ key < 0x50300 ∧ key % 4 = 0 := by
  simp only [ownLogKeys, List.mem_flatMap, List.mem_map, List.mem_range]
  constructor
  · rintro ⟨i, hi, j, hj, rfl⟩
    omega
  · rintro ⟨hlo, hhi, hmod⟩
    exact ⟨(key - 0x50200) / 16, by omega, (key - 0x50200) % 16 / 4, by omega, by omega⟩

theorem grnOwnClear_clears {s : State} (hpf : s.turnsAway 0 = false) (hon : s.flag (fIslOff 0) = false) (v : Word) :
    (v.getLsbD 0 = true → exec (.grnOwnClear 0 v) s = .next ((ownLogKeys.foldl (fun s a => s.setReg a 0) s).put fOwnValid 0)) ∧
    (v.getLsbD 0 = false → exec (.grnOwnClear 0 v) s = .next s) := by
  change (_ → execGrnOwnClear 0 v s = _) ∧ (_ → execGrnOwnClear 0 v s = _)
  constructor <;> intro hv <;> simp [execGrnOwnClear, ownLogKeys, hpf, hon, -BitVec.getLsbD_eq_getElem, hv]

theorem grnOwnClear_only {s t : State} (hs : State.Ok s) (ht : t = (ownLogKeys.foldl (fun s a => s.setReg a 0) s).put fOwnValid 0) :
    t.get fOwnValid = 0 ∧ (∀ i, i < 64 → t.reg (0x50200 + 4 * i) = 0) ∧
    (∀ key, key ≠ 0x50110 → (key < 0x50200 ∨ 0x50300 ≤ key ∨ key % 4 ≠ 0) → t.reg key = s.reg key) ∧ keepsRam s t ∧ t = { s with regs := t.regs } := by
  have hok : State.Ok (ownLogKeys.foldl (fun s a => s.setReg a 0) s) := hs.of_evolves (ev_foldl (fun _ _ => ev_setReg (Evolves.refl _) _ _) _ (Evolves.refl s))
  have hreg (key : Nat) (hkey : key ≠ 0x50110) : t.reg key = if key ∈ ownLogKeys then 0 else s.reg key := by
    rw [ht, State.reg_put_ne _ _ _ hkey, State.reg_foldl_clear hs]
  have hrest : t = { s with regs := t.regs } := by
    rw [ht, State.foldl_clear_rest]; rfl
  refine ⟨?_, fun i hi => ?_, fun key hkey hout => ?_, fun a => by rw [hrest]; rfl, hrest⟩
  · rw [ht, State.get_put_same _ _ _ hok.regsKeyed rfl]; rfl
  · rw [hreg _ (by omega), if_pos (mem_ownLogKeys.mpr (by omega))]
  · rw [hreg key hkey, if_neg fun hin => by have := mem_ownLogKeys.mp hin; omega]

theorem State.grnZero_reg (s : State) (k a n r : Nat) : (s.grnZero k a n).reg r = s.reg r := rfl

section
variable {s u : State} {k : CoreId} {c : CoreSt} {ks : List Nat} (h : CoreOnly s u k c ks)
include h

/-- A counter that counts once, of a register kept until then. -/
theorem CoreOnly.next_bumped (hs : State.Ok s) (hu : State.Ok u) {key : Nat} (hkey : key ∉ ks) : CoreNext (.next (u.bump key)) s k c [key] ks :=
  CoreOnly.next ((h.mono fun _ hr => List.mem_cons_of_mem key hr).bump List.mem_cons_self) fun r hr => by
    rw [List.mem_singleton.mp hr]
    exact State.bump_reg_congr hs hu (h.regs key hkey)

/-- A corrected word is counted and waits for its write-back (R376). -/
theorem CoreOnly.grnCorrected (hs : State.Ok s) (hu : State.Ok u) (hks : kCore k 0xE00 ∉ ks) {w : Nat} (hwb : c.grn.wb = []) :
    CoreNext (.next (u.grnCorrected k w)) s k { c with grn := { c.grn with wb := [w] } } [kCore k 0xE00] ks := by
  have hwaits := h.setCore { c with grn := { c.grn with wb := [w] } }
  have hcorr : u.grnCorrected k w = (u.setCore k { c with grn := { c.grn with wb := [w] } }).bump (kCore k 0xE00) := by
    simp [State.grnCorrected, State.setGrn, h.core, hwb, kGrn]
  rw [hcorr]
  exact hwaits.next_bumped hs (hu.of_evolves (ev_setCore (Evolves.refl u))) hks

/-- An uncorrectable word of a page that has an owner is counted and raises a job fault. -/
theorem CoreOnly.jobFault_counted (hs : State.Ok s) (hu : State.Ok u) {key : Nat} (hkey : key ∉ ks) (code : Nat) (src : BitVec 16) :
    ∃ (t : State) (ev : FaultEvent), Host.Outcome.next ((u.bump key).jobFault code src) = (.next t : Out) ∧ ev.code = BitVec.ofNat 16 code ∧ ev.disp = .jobFault ∧
      t.core k = c ∧ t.reg key = (s.bump key).reg key ∧ t.reeve = { s.reeve with events := s.reeve.events ++ [ev] } ∧
      keepsRegs s t (key :: ks) ∧ t = { s with cores := t.cores, regs := t.regs, reeve := t.reeve } := by
  have hcounted := (h.mono fun _ hr => List.mem_cons_of_mem key hr).bump (key := key) List.mem_cons_self
  have hreg := State.bump_reg_congr hs hu (h.regs key hkey)
  generalize u.bump key = v at hcounted hreg
  refine ⟨_, { code := BitVec.ofNat 16 code, source := src, info := 0, disp := .jobFault }, rfl, rfl, rfl, hcounted.core, hreg, ?_, hcounted.regs, ?_⟩
  · rw [State.jobFault, State.raise_reeve, hcounted.rest]; rfl
  · rw [State.jobFault, hcounted.rest]; rfl

/-- The line of a word of a page that nobody owns is zeroed (R379). -/
theorem CoreOnly.grnZero (hwb : c.grn.wb = []) (a n : Nat) : ∃ z : List Host.Cell, CoreOnly s (u.grnZero k a n) k { c with grn := { c.grn with bytes := z } } ks ∧
    (∀ x, a ≤ x → x < a + n → Tbl.getD z x 0 = 0) ∧ (∀ x, (x < a ∨ a + n ≤ x) → Tbl.getD z x 0 = Tbl.getD c.grn.bytes x 0) := by
  have hfilter := Tbl.getD_filter_key (fun x => decide (x < a) || decide (a + n ≤ x)) c.grn.bytes
  have hzero : u.grnZero k a n = u.setCore k { c with grn := { c.grn with bytes := c.grn.bytes.filter (fun x => decide (x.1 < a) || decide (a + n ≤ x.1)) } } := by
    simp [State.grnZero, State.setGrn, h.core, hwb]
  refine ⟨_, hzero ▸ h.setCore _, fun x hlo hhi => ?_, fun x hout => ?_⟩
  · exact (hfilter x 0).trans (if_neg (by simp; omega))
  · exact (hfilter x 0).trans (if_pos (by simpa using hout))

end

/-- Settles O56: each operation's answer is read off its equation, and its frame is put together from the updates it makes. -/
theorem watchdogsAndGranaryUpkeepAct : Obligations.WatchdogsAndGranaryUpkeepAct := by
  unfold Obligations.WatchdogsAndGranaryUpkeepAct
  rintro s k c hs rfl
  refine ⟨fun mask cycles e hruns he hmask hbusy hlate => ?_, fun w rest hwb => ?_, ?_, fun v hpf hon => ?_⟩
  · obtain ⟨u, hexec⟩ := watchdogExpiry_expires (mask := mask) (cycles := cycles) hruns he (by simp only [CoreSt.expired, hmask, hbusy, decide_eq_true hlate]; rfl)
    rw [hexec]
    refine ⟨((CoreOnly.refl s k [kCore k 8]).setReg (List.mem_singleton_self _) _).stops _ _ _, ?_⟩
    rintro _ ⟨⟩ i hi
    rw [State.coreFault_reg, s.reg_setReg_same _ _ hs.regsKeyed, s.wdogLast_bit _ _ _ hi]
    rfl
  · obtain ⟨hgoes, hpaused⟩ := granaryWriteback_writes hwb
    exact ⟨fun hp => hgoes hp ▸ ((CoreOnly.refl s k []).setCore _).next_uncounted, hpaused⟩
  · rintro bank row a w g errs hwb hrun hk rfl rfl rfl
    change (errsIn errs (s.scrubLine k bank) 64 = [] → _) ∧ (errsIn errs (s.scrubLine k bank) 64 = [(w, false)] → _) ∧
      ((s.pageOwner k (s.scrubLine k bank / 4096)).isSome = true → errsIn errs (s.scrubLine k bank) 64 = [(w, true)] → _) ∧
      (s.pageOwner k (s.scrubLine k bank / 4096) = none → errsIn errs (s.scrubLine k bank) 64 = [(w, true)] → _)
    have hscrub := s.scrubbed_only k bank
    have hok : State.Ok (s.scrubbed k bank) := hs.of_evolves (ev_scrubbed (Evolves.refl s))
    have hcounted := (hscrub.mono (ls := [kCore k 0xE04, kCore k 0xE08]) (by simp)).bump (key := kGrn k 4) (by simp [kGrn])
    refine ⟨fun hhit => ?_, fun hhit => ?_, fun howner hhit => ?_, fun howner hhit => ?_⟩
    · rw [granaryScrub_clean hwb hrun hk hhit]
      exact hscrub.next_uncounted
    · rw [granaryScrub_corrected hwb hrun hk hhit]
      exact hscrub.grnCorrected hs hok (by simp [kCore]) hwb
    · rw [granaryScrub_uncorrectable hwb hrun hk hhit, if_pos howner]
      exact hscrub.jobFault_counted hs hok (by simp [kGrn, kCore]) 0x3201 _
    · rw [granaryScrub_uncorrectable hwb hrun hk hhit, if_neg (by simp [howner])]
      obtain ⟨z, hz, hzero, hkept⟩ := hcounted.grnZero hwb (s.scrubLine k bank) 64
      refine ⟨z, CoreOnly.next (counts := [kCore k 0xE04]) hz fun r hr => ?_, hzero, hkept⟩
      rw [List.mem_singleton.mp hr, State.grnZero_reg]
      exact State.bump_reg_congr hs hok (hscrub.regs (kCore k 0xE04) (by simp [kCore]))
  · obtain ⟨hclear, hkept⟩ := grnOwnClear_clears hpf hon v
    exact ⟨fun hv => ⟨_, hclear hv, grnOwnClear_only hs rfl⟩, hkept⟩

end Sys2Proof.Machine

/-! THE VECTOR ENGINE'S LANES. What an instruction at the head of VEC's queue leaves, lane by lane (R237, R238, R256, R257, R305). -/
namespace Sys2Proof.Machine

-- LANES

/-- 256 lanes from the value of each. -/
def lanes256 {α : Type} (f : Nat → α) : List α := (List.range 256).map f

@[simp] theorem lanes256_length {α : Type} (f : Nat → α) : (lanes256 f).length = 256 := by simp [lanes256]

theorem lanes256_getD {α : Type} (f : Nat → α) (d : α) {i : Nat} (hi : i < 256) : (lanes256 f).getD i d = f i := by
  simp [lanes256, List.getD_eq_getElem?_getD, hi]

theorem eq_lanes256 {α : Type} {l : List α} (hl : l.length = 256) (d : α) : l = lanes256 (fun i => l.getD i d) := by
  refine List.ext_getElem (by simp [hl]) fun i hi _ => ?_
  simp [lanes256, hi]

theorem zip_lanes256 {α β : Type} (f : Nat → α) (g : Nat → β) : (lanes256 f).zip (lanes256 g) = lanes256 fun i => (f i, g i) := by
  simp [lanes256, List.zip_map']

theorem map_lanes256 {α β : Type} (f : Nat → α) (g : α → β) : (lanes256 f).map g = lanes256 fun i => g (f i) := by simp [lanes256]

theorem numbered_lanes256 {α : Type} (f : Nat → α) : numbered (lanes256 f) = lanes256 fun i => (i, f i) := by
  rw [numbered, lanes256_length]
  exact (congrArg (List.zip · (lanes256 f)) (List.map_id (List.range 256)).symm).trans (zip_lanes256 id f)

theorem underMask_lanes256 (m : BitVec 256) (f g : Nat → Word) : underMask m (lanes256 f) (lanes256 g) = lanes256 fun i => if m.getLsbD i then f i else g i := by
  rw [underMask, zip_lanes256, numbered_lanes256, map_lanes256]

-- AN INSTRUCTION OF VEC

/-- The state once the protection of the vector registers has reported on an instruction's reads (R256). -/
def State.vecSeen (s : State) (k : Nat) (ecc : Ecc) : State := if ecc = .corrected then s.bump (kCore k 0x400) else s

/-- The counters that it counts. -/
def vecCounts (k : Nat) (ecc : Ecc) : List Nat := if ecc = .corrected then [kCore k 0x400] else []

theorem State.vecSeen_clean (s : State) (k : Nat) : s.vecSeen k .clean = s := rfl

theorem State.vecSeen_only (s : State) (k : CoreId) (ecc : Ecc) : CoreOnly s (s.vecSeen k ecc) k (s.core k) (vecCounts k ecc) := by
  cases ecc with
  | corrected => exact (CoreOnly.refl s k _).bump List.mem_cons_self
  | clean => exact CoreOnly.refl s k _
  | uncorrectable => exact CoreOnly.refl s k _

theorem State.vecSeen_counts (s : State) (k : CoreId) (ecc : Ecc) : ∀ r ∈ vecCounts k ecc, (s.vecSeen k ecc).reg r = (s.bump r).reg r := by
  cases ecc with
  | corrected => intro r hr; rw [List.mem_singleton.mp hr]; rfl
  | clean => simp [vecCounts]
  | uncorrectable => simp [vecCounts]

theorem State.vecSeen_ok {s : State} (hs : State.Ok s) (k : CoreId) (ecc : Ecc) : State.Ok (s.vecSeen k ecc) :=
  hs.of_evolves (ev_ite (ev_bump (Evolves.refl s)) (Evolves.refl s))

section
variable {s : State} {k : CoreId} {q : QEnt} {op d a b p ty x lo hi : Nat} (hq : VecReady s k q) (hop : q.op = .vec op d a b p ty x) (hlo : lo ≤ op) (hhi : op ≤ hi)
include hq hop hlo hhi

/-- The instruction at the head of the queue has its effect, and it retires where the effect has a destination. -/
theorem vecOp_acts {ecc : Ecc} (hecc : ecc ≠ .uncorrectable) (upset : Upset) {f} {dest : VecDest} {t : State}
    (hf : f (s.vecSeen k ecc) op d a b p ty x q.vals = (some dest, t)) : s.vecOp k lo hi ecc upset f =
      .next (if (t.upsetLane k dest upset).1 then
        (((t.upsetLane k dest upset).2.setCore k ((t.upsetLane k dest upset).2.core k).vecPop).bump (kCore k 0x404)).coreFault k 0x2201 .vec
        else (t.upsetLane k dest upset).2.setCore k ((t.upsetLane k dest upset).2.core k).vecPop) := by
  have hrange : (decide (op < lo) || decide (hi < op)) = false := by simp; omega
  cases ecc with
  | uncorrectable => exact absurd rfl hecc
  | clean =>
    have hf' : f s op d a b p ty x q.vals = (some dest, t) := hf
    simp [State.vecOp, hq.head, hop, hrange, hf']
  | corrected =>
    have hf' : f (s.bump (kCore k 0x400)) op d a b p ty x q.vals = (some dest, t) := hf
    simp [State.vecOp, hq.head, hop, hrange, hf']

/-- Where no upset lane is among those it writes, it retires. -/
theorem vecOp_completes {ecc : Ecc} (hecc : ecc ≠ .uncorrectable) {upset : Upset} {f} {dest : VecDest} {t : State}
    (hf : f (s.vecSeen k ecc) op d a b p ty x q.vals = (some dest, t)) (hupset : t.upsetLane k dest upset = (false, t)) :
    s.vecOp k lo hi ecc upset f = .next (t.setCore k (t.core k).vecPop) := by
  rw [vecOp_acts hq hop hlo hhi hecc upset hf, hupset]
  rfl

/-- One whose effect has no destination has stopped the core: it stays at the head. -/
theorem vecOp_faults {f} {t : State} (hf : f s op d a b p ty x q.vals = (none, t)) : s.vecOp k lo hi .clean none f = .next t := by
  have hrange : (decide (op < lo) || decide (hi < op)) = false := by simp; omega
  simp [State.vecOp, hq.head, hop, hrange, hf]

theorem vecOp_uncorrectable (upset : Upset) (f) : CoreStops (s.vecOp k lo hi .uncorrectable upset f) s k (s.core k) 0x2202 [] := by
  have hrange : (decide (op < lo) || decide (hi < op)) = false := by simp; omega
  have hvec : s.vecOp k lo hi .uncorrectable upset f = .next (s.coreFault k 0x2202 .vec) := by
    simp [State.vecOp, hq.head, hop, hrange]
  rw [hvec]
  exact coreFault_stops s k 0x2202 .vec 0

end

theorem VecReady.queue {s : State} {k : CoreId} {q : QEnt} (hq : VecReady s k q) : ∃ rest, (s.core k).vecQ = q :: rest := by
  have hhead := hq.head
  unfold State.vecHead at hhead
  split at hhead
  · exact List.head?_eq_some_iff.mp hhead
  · cases hhead

/-- The head of VEC's queue retires. -/
theorem VecReady.pop {s : State} {k : CoreId} {q : QEnt} (hq : VecReady s k q) (v : Tbl (List Word)) :
    ({ s.core k with v } : CoreSt).vecPop = { s.core k with vecQ := (s.core k).vecQ.tail, lastPc := (s.core k).lastPc.set 1 q.bundle, v } := by
  obtain ⟨rest, hrest⟩ := hq.queue
  simp [CoreSt.vecPop, hrest]

-- A RESULT IN A VECTOR REGISTER

theorem State.toLanes_reg (u : State) (k d : Nat) (m : BitVec 256) (l : List Word) (r : Nat) : (u.toLanes k d m l).2.reg r = u.reg r := rfl

theorem VecReady.vreg_lanes {s : State} {k : CoreId} {q : QEnt} (hq : VecReady s k q) (r : Nat) : (s.core k).vreg r = lanes256 fun i => ((s.core k).vreg r).getD i 0 :=
  eq_lanes256 (hq.lanes r) 0

theorem CoreSt.vreg_put_same (c : CoreSt) (d : Nat) (l : List Word) : ({ c with v := Tbl.put c.v d l } : CoreSt).vreg d = l := Tbl.getD_put_same _ _ _ _

theorem CoreSt.vreg_put_ne (c : CoreSt) {d r : Nat} (h : r ≠ d) (l : List Word) : ({ c with v := Tbl.put c.v d l } : CoreSt).vreg r = c.vreg r :=
  Tbl.getD_put_ne h _ _ _

section
variable {s u : State} {k : CoreId} {q : QEnt} {ks : List Nat} {d : Nat} {m : BitVec 256} (hq : VecReady s k q) (h : CoreOnly s u k (s.core k) ks)
include hq h

/-- A result in vD, in the lanes of m, and the head of the queue retired. -/
theorem lanesPop_only (f : Nat → Word) {t : State} (ht : t = (u.toLanes k d m (lanes256 f)).2) :
    CoreOnly s (t.setCore k (t.core k).vecPop) k { s.core k with
      vecQ := (s.core k).vecQ.tail, lastPc := (s.core k).lastPc.set 1 q.bundle,
      v := Tbl.put (s.core k).v d (lanes256 fun i => if m.getLsbD i then f i else ((s.core k).vreg d).getD i 0) } ks := by
  have hput : CoreOnly s t k { s.core k with v := Tbl.put (s.core k).v d (lanes256 fun i => if m.getLsbD i then f i else ((s.core k).vreg d).getD i 0) } ks := by
    rw [← underMask_lanes256, ← hq.vreg_lanes d, ← h.core, ht]
    exact h.setCore _
  rw [hput.core, hq.pop]
  exact hput.setCore _

theorem vecDone_lanes (hcounts : ∀ r ∈ ks, u.reg r = (s.bump r).reg r) (f : Nat → Word) {t : State} (ht : t = (u.toLanes k d m (lanes256 f)).2) :
    VecDone (.next (t.setCore k (t.core k).vecPop)) s k q d m f ks := by
  have honly := lanesPop_only hq h f ht
  have hregs (r : Nat) : (t.setCore k (t.core k).vecPop).reg r = u.reg r := by rw [ht]; rfl
  refine ⟨_, rfl, ?_, fun i hi => ?_, fun r hr => ?_, honly.others, fun r hr => (hregs r).trans (hcounts r hr), honly.regs, honly.ram, honly.rest⟩ <;> rw [honly.core]
  · exact (congrArg (List.getD · i 0) (CoreSt.vreg_put_same (s.core k) d _)).trans (lanes256_getD _ 0 hi)
  · exact CoreSt.vreg_put_ne (s.core k) hr _

end

theorem VecDone.congr {a : Out} {s : State} {k : CoreId} {q : QEnt} {d : Nat} {m : BitVec 256} {f g : Nat → Word} {counts : List Nat}
    (h : VecDone a s k q d m f counts) (hfg : ∀ i, i < 256 → m.getLsbD i = true → f i = g i) : VecDone a s k q d m g counts := by
  obtain ⟨t, ht, hcore, hlanes, hrest⟩ := h
  refine ⟨t, ht, hcore, fun i hi => (hlanes i hi).trans ?_, hrest⟩
  split
  · next hm => exact hfg i hi hm
  · rfl

/-- A lane-wise result of vA, vB and vD. -/
theorem VecReady.laneWise {s u : State} {k : CoreId} {q : QEnt} (hq : VecReady s k q) (hu : u.core k = s.core k) (d a b p : Nat) (g : Word → Word → Word → Word) :
    u.laneWise k d a b p g = u.toLanes k d ((s.core k).preg p)
      (lanes256 fun i => g (((s.core k).vreg a).getD i 0) (((s.core k).vreg b).getD i 0) (((s.core k).vreg d).getD i 0)) := by
  rw [State.laneWise, hu]
  refine congrArg (u.toLanes k d ((s.core k).preg p)) ?_
  conv_lhs => rw [hq.vreg_lanes a, hq.vreg_lanes b, hq.vreg_lanes d]
  rw [zip_lanes256, zip_lanes256, map_lanes256]

section
variable {s : State} {k : CoreId} {q : QEnt} {op d a b p ty x lo hi : Nat} (hq : VecReady s k q) (hop : q.op = .vec op d a b p ty x)
  {ecc : Ecc} (hecc : ecc ≠ .uncorrectable) (hlo : lo ≤ op) (hhi : op ≤ hi)
include hq hop hecc hlo hhi

/-- An instruction whose result goes to the lanes of m in vD, of which no upset lane is one. -/
theorem vecOp_lanes {upset : Upset} {f} {m : BitVec 256} {g : Nat → Word} (hupset : ∀ t : State, t.upsetLane k (.lanes d m) upset = (false, t))
    (hf : ∀ u : State, CoreOnly s u k (s.core k) (vecCounts k ecc) → f u op d a b p ty x q.vals = u.toLanes k d m (lanes256 g)) :
    VecDone (s.vecOp k lo hi ecc upset f) s k q d m g (vecCounts k ecc) := by
  have hseen := s.vecSeen_only k ecc
  rw [vecOp_completes hq hop hlo hhi hecc (hf _ hseen) (hupset _)]
  exact vecDone_lanes hq hseen (s.vecSeen_counts k ecc) g rfl

theorem vecOp_laneWise {upset : Upset} {f} {p' : Nat} {g : Word → Word → Word → Word} (hupset : ∀ t : State, t.upsetLane k (.lanes d ((s.core k).preg p')) upset = (false, t))
    (hf : ∀ u : State, f u op d a b p ty x q.vals = u.laneWise k d a b p' g) :
    VecDone (s.vecOp k lo hi ecc upset f) s k q d ((s.core k).preg p')
      (fun i => g (((s.core k).vreg a).getD i 0) (((s.core k).vreg b).getD i 0) (((s.core k).vreg d).getD i 0)) (vecCounts k ecc) :=
  vecOp_lanes hq hop hecc hlo hhi hupset fun u hu => (hf u).trans (hq.laneWise hu.core d a b p' g)

end

theorem State.upsetLane_none (t : State) (k : Nat) (dest : VecDest) : t.upsetLane k dest none = (false, t) := rfl

/-- A lane that is not active is not checked (R238). -/
theorem State.upsetLane_inactive (t : State) (k d : Nat) {m : BitVec 256} {i : Fin 256} (hm : m.getLsbD i = false) (x : Word) :
    t.upsetLane k (.lanes d m) (some (i, x)) = (false, t) := by
  simp only [State.upsetLane, hm, Bool.false_eq_true, if_false]

/-- A wrong result of an active lane that its residue shows stands in vD and stops the core (R305). -/
theorem vecOp_upset {s : State} {k : CoreId} {q : QEnt} {op d a b p ty x lo hi : Nat} (hq : VecReady s k q) (hop : q.op = .vec op d a b p ty x)
    (hlo : lo ≤ op) (hhi : op ≤ hi) {f} {m : BitVec 256} {g : Nat → Word} (hf : f s op d a b p ty x q.vals = s.toLanes k d m (lanes256 g))
    {i : Fin 256} {u : Word} (hm : m.getLsbD i = true) (hres : (g i).toNat % 3 ≠ (g i ^^^ u).toNat % 3) :
    ∃ z : CoreSt, z.vecQ = (s.core k).vecQ.tail ∧ (z.vreg d).getD i 0 = g i ^^^ u ∧ CoreStops (s.vecOp k lo hi .clean (some (i, u)) f) s k z 0x2201 [kCore k 0x404] := by
  rw [vecOp_acts hq hop hlo hhi (by decide) (some (i, u)) hf]
  generalize hl : underMask m (lanes256 g) ((s.core k).vreg d) = l
  have hlane : l.getD i 0 = g i := by
    rw [← hl, hq.vreg_lanes d, underMask_lanes256, lanes256_getD _ 0 i.isLt, if_pos hm]
  have hlen : l.length = 256 := by rw [← hl, hq.vreg_lanes d, underMask_lanes256, lanes256_length]
  have hput : CoreOnly s (s.putV k d l) k { s.core k with v := Tbl.put (s.core k).v d l } [kCore k 0x404] := (CoreOnly.refl s k _).setCore _
  have hwrong : (s.putV k d l).upsetLane k (.lanes d m) (some (i, u)) = (true, (s.putV k d l).putV k d (l.set i (g i ^^^ u))) := by
    simp only [State.upsetLane, hm, if_true, hput.core, CoreSt.vreg_put_same, hlane, bne_iff_ne.mpr hres]
  have hupset : CoreOnly s ((s.putV k d l).putV k d (l.set i (g i ^^^ u))) k
      { s.core k with v := Tbl.put (Tbl.put (s.core k).v d l) d (l.set i (g i ^^^ u)) } [kCore k 0x404] := by
    rw [State.putV, hput.core]
    exact hput.setCore _
  rw [hwrong, if_pos rfl, hupset.core, hq.pop]
  refine ⟨_, ?_, ?_, ((hupset.setCore _).bump (List.mem_singleton_self _)).stops _ _ _⟩
  · rfl
  · refine (congrArg (List.getD · i 0) (Tbl.getD_put_same _ _ _ _)).trans ?_
    rw [List.getD_eq_getElem?_getD, List.getElem?_set_self (by omega), Option.getD_some]

-- THE GRANARY

section
variable {s u : State} {k : CoreId} {ks : List Nat} (h : CoreOnly s u k (s.core k) ks)
include h

theorem CoreOnly.jobPart : u.jobPart k = s.jobPart k := by simp only [State.jobPart, h.core]

theorem CoreOnly.grnBytes (a n : Nat) : u.grnBytes k a n = s.grnBytes k a n := by simp only [State.grnBytes, h.core]

theorem CoreOnly.grnOk (hks : ∀ c < 16, 0x50140 + 8 * c ∉ ks) (p a n : Nat) : u.grnOk k p a n = s.grnOk k p a n := by
  simp only [State.grnOk, h.regs.pageOwner hks (k := k) (by rw [h.core]) (by rw [h.core])]

end

theorem vecCounts_class (k : Nat) (ecc : Ecc) (c : Nat) (hc : c < 16) : 0x50140 + 8 * c ∉ vecCounts k ecc := by
  unfold vecCounts
  split
  · simp [classKey_ne_kCore c k _ hc]
  · simp

theorem State.grnRead_clean {s : State} {k : CoreId} {a n : Nat} (hok : s.grnOk k (s.jobPart k) a n = true) (e : Nat) :
    s.grnRead k e a n [] = (some (s.grnBytes k a n), s) := by
  simp [State.grnRead, hok, errsIn]

theorem CoreOnly.grnRead_clean {s u : State} {k : CoreId} {ks : List Nat} (h : CoreOnly s u k (s.core k) ks) (hks : ∀ c < 16, 0x50140 + 8 * c ∉ ks) {a n : Nat}
    (hok : s.grnOk k (s.jobPart k) a n = true) (e : Nat) : u.grnRead k e a n [] = (some (s.grnBytes k a n), u) := by
  rw [← h.grnBytes]
  exact State.grnRead_clean (by rw [h.grnOk hks, h.jobPart]; exact hok) e

theorem State.grnRead_refused {s : State} {k : CoreId} {a n : Nat} (hok : s.grnOk k (s.jobPart k) a n = false) (e : Nat) (errs : GrnErrs) :
    s.grnRead k e a n errs = (none, s.coreFault k 0x4302 (unitOf e)) := by
  simp [State.grnRead, hok]

theorem State.grnBytes_slice (s : State) (k a : Nat) {n i m : Nat} (h : i + m ≤ n) : ((s.grnBytes k a n).drop i).take m = s.grnBytes k (a + i) m := by
  refine List.ext_getElem (by simp [State.grnBytes]; omega) fun j hj _ => ?_
  simp [State.grnBytes, Nat.add_assoc]

-- THE VALUES OF LANES

theorem laneInt_int32 (u : Word) : laneInt 5 u = u.toInt := by
  have hlt : u.toNat < 2 ^ 32 := u.isLt
  simp only [laneInt, intElem, sgn, show fmtWidth 5 = 32 from rfl, BitVec.toInt_eq_toNat_cond]
  simp
  omega

theorem widen_wrap_int32 (i : Int) : widen 5 (wrap 32 i) = BitVec.ofInt 32 i := by
  have hwrap : BitVec.ofNat 32 (wrap 32 i) = BitVec.ofInt 32 i := BitVec.eq_of_toNat_eq (by simp [wrap]; omega)
  have hlane : widen 5 (wrap 32 i) = BitVec.ofInt 32 (laneInt 5 (BitVec.ofNat 32 (wrap 32 i))) := by
    simp [widen, laneInt, isIntType, show fmtWidth 5 = 32 from rfl]
  rw [hlane, laneInt_int32, BitVec.ofInt_toInt, hwrap]

theorem arithLane_int32 (u v w : Word) : arithLane 0 5 u v w = u + v ∧ arithLane 1 5 u v w = u - v ∧ arithLane 2 5 u v w = u * v ∧ arithLane 3 5 u v w = w + u * v ∧
    arithLane 4 5 u v w = (if u.slt v then u else v) ∧ arithLane 5 5 u v w = (if u.slt v then v else u) ∧ arithLane 6 5 u v w = (if u.slt 0 then -u else u) ∧
    arithLane 7 5 u v w = -u := by
  obtain ⟨hmin, hmax⟩ := choose_le_eq_lt (fun _ _ => BitVec.eq_of_toInt_eq) u v
  have hof (x : Word) : BitVec.ofInt 32 (laneInt 5 x) = x := by rw [laneInt_int32, BitVec.ofInt_toInt]
  refine ⟨(widen_wrap_int32 (laneInt 5 u + laneInt 5 v)).trans ?_, (widen_wrap_int32 (laneInt 5 u - laneInt 5 v)).trans ?_,
    (widen_wrap_int32 (laneInt 5 u * laneInt 5 v)).trans ?_, (widen_wrap_int32 (laneInt 5 w + laneInt 5 u * laneInt 5 v)).trans ?_,
    (widen_wrap_int32 (min (laneInt 5 u) (laneInt 5 v))).trans ?_, (widen_wrap_int32 (max (laneInt 5 u) (laneInt 5 v))).trans ?_,
    (widen_wrap_int32 (if laneInt 5 u < 0 then -laneInt 5 u else laneInt 5 u)).trans ?_, (widen_wrap_int32 (-laneInt 5 u)).trans ?_⟩
  · rw [BitVec.ofInt_add, hof, hof]
  · rw [Int.sub_eq_add_neg, BitVec.ofInt_add, BitVec.ofInt_neg, hof, hof, ← BitVec.sub_eq_add_neg]
  · rw [BitVec.ofInt_mul, hof, hof]
  · rw [BitVec.ofInt_add, BitVec.ofInt_mul, hof, hof, hof]
  · rw [min_def, apply_ite (BitVec.ofInt 32), hof, hof, laneInt_int32, laneInt_int32]
    simpa [BitVec.slt] using hmin
  · rw [max_def, apply_ite (BitVec.ofInt 32), hof, hof, laneInt_int32, laneInt_int32]
    simpa [BitVec.slt] using hmax
  · rw [apply_ite (BitVec.ofInt 32), BitVec.ofInt_neg, hof, laneInt_int32]
    simp [BitVec.slt]
  · rw [BitVec.ofInt_neg, hof]

theorem arithLane_fp32 (u v w : Word) : arithLane 0 10 u v w = rnd32 ((f32 u).add (f32 v)) ∧ arithLane 2 10 u v w = rnd32 ((f32 u).mul (f32 v)) ∧
    arithLane 3 10 u v w = rnd32 ((f32 w).add ((f32 u).mul (f32 v))) := by
  have hflt (u : Word) : laneFlt 10 u = f32 u := by
    rw [laneFlt, f32, Nat.mod_eq_of_lt (by exact u.isLt)]; rfl
  refine ⟨?_, ?_, ?_⟩ <;> simp only [arithLane, hflt] <;> rfl

-- VCVT

/-- How many active lanes pass a test. -/
def lanesCounted (m : BitVec 256) (p : Nat → Bool) : Nat := ((List.range 256).filter (fun i => m.getLsbD i && p i)).length

theorem activeLanes_count {α : Type} (m : BitVec 256) (r : Nat → α) (p : α → Bool) :
    (((numbered (lanes256 r)).filter (fun z => m.getLsbD z.1)).filter (fun z => p z.2)).length = lanesCounted m (fun i => p (r i)) := by
  rw [numbered_lanes256, List.filter_filter, lanes256, List.filter_map, List.length_map, lanesCounted]
  exact congrArg List.length (List.filter_congr fun i _ => Bool.and_comm _ _)

/-- The state once VCVT has counted the saturated and the NaN lanes among the active ones (R359). -/
def State.vcvtCounted (s : State) (k : Nat) (m : BitVec 256) (g : Nat → Word × Bool × Bool) : State :=
  (s.bumpBy (kCore k 0x40C) (lanesCounted m fun i => (g i).2.1)).bumpBy (kCore k 0x410) (lanesCounted m fun i => (g i).2.2)

theorem State.vcvtCounted_only (s : State) (k : CoreId) (m : BitVec 256) (g : Nat → Word × Bool × Bool) : OnlyRegs s (s.vcvtCounted k m g) [kCore k 0x40C, kCore k 0x410] :=
  ((s.setReg_onlyRegs (kCore k 0x40C) _).mono (by simp)).trans ((State.setReg_onlyRegs _ (kCore k 0x410) _).mono (by simp))

theorem State.bumpBy_reg_congr {s t : State} (hs : State.Ok s) (ht : State.Ok t) {key : Nat} (h : t.reg key = s.reg key) (n : Nat) :
    (t.bumpBy key n).reg key = (s.bumpBy key n).reg key := by
  rw [State.bumpBy, State.bumpBy, State.reg_setReg_same _ _ _ ht.regsKeyed, State.reg_setReg_same _ _ _ hs.regsKeyed, h]

theorem State.reg_bumpBy_zero {s : State} (hs : State.Ok s) (key r : Nat) : (s.bumpBy key 0).reg r = s.reg r := by
  by_cases hr : r = key
  · rw [hr, State.bumpBy, s.reg_setReg_same _ _ hs.regsKeyed]
    refine BitVec.eq_of_toNat_eq ?_
    have := (s.reg key).isLt
    simp
    omega
  · exact s.reg_setReg_ne hr _

theorem lanesCounted_zero {m : BitVec 256} {p : Nat → Bool} (h : ∀ i, i < 256 → m.getLsbD i = true → p i = false) : lanesCounted m p = 0 := by
  rw [lanesCounted, List.length_eq_zero_iff, List.filter_eq_nil_iff]
  intro i hi hand
  obtain ⟨hm, hp⟩ := Bool.and_eq_true_iff.mp hand
  exact absurd (h i (List.mem_range.mp hi) hm) (by simp [hp])

section
variable {s : State} {k : CoreId} {q : QEnt} {op d a b p ty x : Nat} (hq : VecReady s k q) (hop : q.op = .vec op d a b p ty x) (hcvt : op = 0x10)
  {ecc : Ecc} (hecc : ecc ≠ .uncorrectable) {g : Nat → Word × Bool × Bool}
  (hg : g = fun i => cvtLane ty (x % 16) (decide (16 ≤ x)) (((s.core k).vreg a).getD i 0) (((s.core k).vreg b).getD i 0))
include hq hop hcvt hecc hg

theorem vcvt_acts : ∃ t : State, t = (((s.vecSeen k ecc).vcvtCounted k ((s.core k).preg p) g).toLanes k d ((s.core k).preg p) (lanes256 fun i => (g i).1)).2 ∧
    exec (.vcvt k ecc none) s = .next (t.setCore k (t.core k).vecPop) := by
  have hseen := (s.vecSeen_only k ecc).core
  have hlanes : (((s.core k).vreg a).zip ((s.core k).vreg b)).map (fun z => cvtLane ty (x % 16) (decide (16 ≤ x)) z.1 z.2) = lanes256 g := by
    rw [hq.vreg_lanes a, hq.vreg_lanes b, zip_lanes256, map_lanes256, hg]
  refine ⟨_, rfl, ?_⟩
  change execVcvt k ecc none s = _
  refine vecOp_completes hq hop hcvt.ge hcvt.le hecc (dest := .lanes d ((s.core k).preg p)) ?_ (State.upsetLane_none _ _ _)
  dsimp only
  rw [hseen, hlanes, activeLanes_count _ g (fun z => z.2.1), activeLanes_count _ g (fun z => z.2.2), map_lanes256]
  rfl

/-- No active lane counts: the counters read as before. -/
theorem vcvt_lanes (hs : State.Ok s) (hnone : ∀ i, i < 256 → ((s.core k).preg p).getLsbD i = true → (g i).2 = (false, false)) :
    VecDone (exec (.vcvt k ecc none) s) s k q d ((s.core k).preg p) (fun i => (g i).1) (vecCounts k ecc) := by
  obtain ⟨t, ht, hexec⟩ := vcvt_acts hq hop hcvt hecc hg
  have hseen := s.vecSeen_only k ecc
  have hok := State.vecSeen_ok hs k ecc
  have hzero (r : Nat) : ((s.vecSeen k ecc).vcvtCounted k ((s.core k).preg p) g).reg r = (s.vecSeen k ecc).reg r := by
    rw [State.vcvtCounted, lanesCounted_zero fun i hi hm => by rw [hnone i hi hm], lanesCounted_zero fun i hi hm => by rw [hnone i hi hm],
      State.reg_bumpBy_zero (hok.of_evolves (ev_bumpBy (Evolves.refl _))), State.reg_bumpBy_zero hok]
  have honly : CoreOnly s ((s.vecSeen k ecc).vcvtCounted k ((s.core k).preg p) g) k (s.core k) (vecCounts k ecc) :=
    hseen.onlyRegs ⟨fun r _ => hzero r, ((s.vecSeen k ecc).vcvtCounted_only k _ g).ram, ((s.vecSeen k ecc).vcvtCounted_only k _ g).rest⟩
  rw [hexec]
  exact vecDone_lanes hq honly (fun r hr => (hzero r).trans (s.vecSeen_counts k ecc r hr)) _ ht

end

-- VLUT

theorem lutLane_congr {f g : Nat → Word} (h : ∀ j, j ≤ 256 → f j = g j) (lo hi r v : Word) : lutLane lo hi f r v = lutLane lo hi g r v := by
  simp only [lutLane]
  rw [h _ (by omega), h _ (by omega)]

/-- Word i of a VLUT table. -/
def tableWord (bs : List Byte) (i : Nat) : Word := BitVec.ofNat 32 (leNat ((bs.drop (4 * i)).take 4))

theorem lutLanes_ordered {bs : List Byte} (hlt : (f32 (tableWord bs 0)).lt (f32 (tableWord bs 1)) = true) (l : List Word) :
    lutLanes bs l = l.map (lutLane (tableWord bs 0) (tableWord bs 1) (fun j => tableWord bs (j + 2))
      (rnd32 (divX (XVal.ofInt 256) (f32 (rnd32 ((f32 (tableWord bs 1)).add (f32 (tableWord bs 0)).neg)))))) := if_pos hlt

theorem lutLanes_open {bs : List Byte} (hlt : (f32 (tableWord bs 0)).lt (f32 (tableWord bs 1)) = false) (l : List Word) :
    lutLanes bs l = l.map (Config.lutOpen (leNat bs)) := if_neg (Bool.eq_false_iff.mp hlt)

theorem tableWord_grnBytes (s : State) (k base : Nat) {i : Nat} (hi : i < 259) :
    tableWord (s.grnBytes k base 1036) i = BitVec.ofNat 32 (leNat (s.grnBytes k (base + 4 * i) 4)) := by
  rw [tableWord, s.grnBytes_slice k base (by omega)]

theorem vlut_lanes {s : State} {k : CoreId} {q : QEnt} {op d a b p ty x base : Nat} (hq : VecReady s k q) (hop : q.op = .vec op d a b p ty x) (hlut : op = 0x12)
    {ecc : Ecc} (hecc : ecc ≠ .uncorrectable) (hvals : q.vals = [base]) (hok : s.grnOk k (s.jobPart k) base 1036 = true) {g : Word → Word}
    (hg : lutLanes (s.grnBytes k base 1036) ((s.core k).vreg a) = ((s.core k).vreg a).map g) :
    VecDone (exec (.vlut k ecc none []) s) s k q d ((s.core k).preg p) (fun i => g (((s.core k).vreg a).getD i 0)) (vecCounts k ecc) := by
  change VecDone (execVlut k ecc none [] s) s k q d _ _ _
  refine vecOp_lanes hq hop hecc hlut.ge hlut.le (fun t => State.upsetLane_none t _ _) fun u hu => ?_
  rw [hvals, List.headD_cons, hu.grnRead_clean (vecCounts_class k ecc) hok 2]
  dsimp only
  rw [hu.core, hg]
  conv_lhs => rw [hq.vreg_lanes a, map_lanes256]

-- EACH INSTRUCTION

section
variable {s : State} {k : CoreId} {q : QEnt} {op d a b p ty x : Nat} (hq : VecReady s k q) (hop : q.op = .vec op d a b p ty x)
  {ecc : Ecc} (hecc : ecc ≠ .uncorrectable)
include hq hop hecc

theorem vecArith_lanes {upset : Upset} (hupset : ∀ t : State, t.upsetLane k (.lanes d ((s.core k).preg p)) upset = (false, t)) (hhi : op ≤ 5) :
    VecDone (exec (.vecArith k ecc upset) s) s k q d ((s.core k).preg p)
      (fun i => arithLane op ty (((s.core k).vreg a).getD i 0) (((s.core k).vreg b).getD i 0) (((s.core k).vreg d).getD i 0)) (vecCounts k ecc) := by
  change VecDone (execVecArith k ecc upset s) s k q d _ _ _
  exact vecOp_laneWise hq hop hecc (Nat.zero_le op) hhi (g := arithLane op ty) hupset fun _ => rfl

theorem vecUnary_lanes (hlo : 6 ≤ op) (hhi : op ≤ 7) : VecDone (exec (.vecUnary k ecc none) s) s k q d ((s.core k).preg p)
    (fun i => arithLane op ty (((s.core k).vreg a).getD i 0) (((s.core k).vreg b).getD i 0) (((s.core k).vreg d).getD i 0)) (vecCounts k ecc) := by
  change VecDone (execVecUnary k ecc none s) s k q d _ _ _
  exact vecOp_laneWise hq hop hecc hlo hhi (g := arithLane op ty) (fun t => State.upsetLane_none t _ _) fun _ => rfl

/-- The 32-bit result of VAND, VOR and VXOR (R297). -/
def logicLane (op : Nat) (u v : Word) : Word := if op = 0x08 then u &&& v else if op = 0x09 then u ||| v else u ^^^ v

theorem vecLogic_lanes (hlo : 0x08 ≤ op) (hhi : op ≤ 0x0A) : VecDone (exec (.vecLogic k ecc none) s) s k q d ((s.core k).preg p)
    (fun i => logicLane op (((s.core k).vreg a).getD i 0) (((s.core k).vreg b).getD i 0)) (vecCounts k ecc) := by
  change VecDone (execVecLogic k ecc none s) s k q d _ _ _
  exact vecOp_laneWise hq hop hecc hlo hhi (g := fun u v _ => logicLane op u v) (fun t => State.upsetLane_none t _ _) fun _ => rfl

/-- The result of VSHL, VSHR and VSAR (R297). -/
def shiftLane (op x : Nat) (u : Word) : Word := if op = 0x0B then u <<< x else if op = 0x0C then u >>> x else u.sshiftRight x

theorem vecShift_lanes (hlo : 0x0B ≤ op) (hhi : op ≤ 0x0D) : VecDone (exec (.vecShift k ecc none) s) s k q d ((s.core k).preg p)
    (fun i => shiftLane op x (((s.core k).vreg a).getD i 0)) (vecCounts k ecc) := by
  change VecDone (execVecShift k ecc none s) s k q d _ _ _
  exact vecOp_laneWise hq hop hecc hlo hhi (g := fun u _ _ => shiftLane op x u) (fun t => State.upsetLane_none t _ _) fun _ => rfl

theorem vsel_lanes (hsel : op = 0x0F) : VecDone (exec (.vsel k ecc none) s) s k q d ((s.core k).preg p)
    (fun i => if ((s.core k).preg (x % 8)).getLsbD i then ((s.core k).vreg a).getD i 0 else ((s.core k).vreg b).getD i 0) (vecCounts k ecc) := by
  change VecDone (execVsel k ecc none s) s k q d _ _ _
  refine vecOp_lanes hq hop hecc hsel.ge hsel.le (fun t => State.upsetLane_none t _ _) fun u hu => ?_
  rw [hu.core, ← underMask_lanes256, ← hq.vreg_lanes, ← hq.vreg_lanes]

theorem vbc_lanes (hbc : op = 0x13) {v : Nat} (hvals : q.vals = [v]) :
    VecDone (exec (.vbc k ecc none) s) s k q d ((s.core k).preg p) (fun _ => BitVec.ofNat 32 v) (vecCounts k ecc) := by
  change VecDone (execVbc k ecc none s) s k q d _ _ _
  exact vecOp_laneWise hq hop hecc hbc.ge hbc.le (g := fun _ _ _ => BitVec.ofNat 32 v) (fun t => State.upsetLane_none t _ _) fun _ => by rw [hvals]; rfl

theorem vmov_lanes (hmov : op = 0x17) : VecDone (exec (.vmov k ecc none) s) s k q d ((s.core k).preg p) (fun i => ((s.core k).vreg a).getD i 0) (vecCounts k ecc) := by
  change VecDone (execVmov k ecc none s) s k q d _ _ _
  exact vecOp_laneWise hq hop hecc hmov.ge hmov.le (g := fun u _ _ => u) (fun t => State.upsetLane_none t _ _) fun _ => rfl

end

theorem vecArith_uncorrectable {s : State} {k : CoreId} {q : QEnt} {op d a b p ty x : Nat} (hq : VecReady s k q) (hop : q.op = .vec op d a b p ty x) (hhi : op ≤ 5) :
    CoreStops (exec (.vecArith k .uncorrectable none) s) s k (s.core k) 0x2202 [] := by
  change CoreStops (execVecArith k .uncorrectable none s) s k _ _ _
  exact vecOp_uncorrectable hq hop (Nat.zero_le op) hhi none _

/-- VCVT counts the active lanes that saturate and those that were NaNs (R359). -/
theorem vcvt_counts {s : State} {k : CoreId} {q : QEnt} {op d a b p ty x : Nat} (hs : State.Ok s) (hq : VecReady s k q) (hop : q.op = .vec op d a b p ty x) (hcvt : op = 0x10)
    {g : Nat → Word × Bool × Bool} (hg : g = fun i => cvtLane ty (x % 16) (decide (16 ≤ x)) (((s.core k).vreg a).getD i 0) (((s.core k).vreg b).getD i 0))
    {m : BitVec 256} (hm : m = (s.core k).preg p) :
    ∃ t, exec (.vcvt k .clean none) s = .next t ∧ (t.core k).vecQ = (s.core k).vecQ.tail ∧
      t.reg (kCore k 0x40C) = (s.bumpBy (kCore k 0x40C) (lanesCounted m fun i => (g i).2.1)).reg (kCore k 0x40C) ∧
      t.reg (kCore k 0x410) = (s.bumpBy (kCore k 0x410) (lanesCounted m fun i => (g i).2.2)).reg (kCore k 0x410) ∧
      (∀ i, i < 256 → ((t.core k).vreg d).getD i 0 = if m.getLsbD i then (g i).1 else ((s.core k).vreg d).getD i 0) ∧
      keepsRegs s t [kCore k 0x40C, kCore k 0x410] ∧ t = { s with cores := t.cores, regs := t.regs } := by
  subst hm
  obtain ⟨t, ht, hexec⟩ := vcvt_acts hq hop hcvt (ecc := .clean) (by decide) hg
  have hcounted : CoreOnly s (s.vcvtCounted k ((s.core k).preg p) g) k (s.core k) [kCore k 0x40C, kCore k 0x410] :=
    (CoreOnly.refl s k _).onlyRegs (s.vcvtCounted_only k _ g)
  have honly := lanesPop_only hq hcounted (fun i => (g i).1) ht
  have hregs (r : Nat) : (t.setCore k (t.core k).vecPop).reg r = (s.vcvtCounted k ((s.core k).preg p) g).reg r := by
    rw [State.reg_setCore, ht, State.toLanes_reg, State.vecSeen_clean]
  refine ⟨_, hexec, by rw [honly.core], ?_, ?_, fun i hi => ?_, honly.regs, honly.rest⟩
  · exact (hregs _).trans (State.reg_setReg_ne _ (by simp [kCore]) _)
  · exact (hregs _).trans (State.bumpBy_reg_congr hs (hs.of_evolves (ev_bumpBy (Evolves.refl s))) (State.reg_setReg_ne _ (by simp [kCore]) _) _)
  · rw [honly.core]
    exact (congrArg (List.getD · i 0) (CoreSt.vreg_put_same (s.core k) d _)).trans (lanes256_getD _ 0 hi)

/-- Settles O53: each instruction's effect is a result in the lanes of vD (`vecOp_lanes`), whose lanes are read off its definition. -/
theorem vectorLaneInstructionsAct : Obligations.VectorLaneInstructionsAct := by
  unfold Obligations.VectorLaneInstructionsAct
  rintro s k q _ ecc _ op d a b p ty x la lb ld hs rfl hq hop hecc rfl hla hlb hld
  obtain rfl : la = fun i => ((s.core k).vreg a).getD i 0 := funext hla
  obtain rfl : lb = fun i => ((s.core k).vreg b).getD i 0 := funext hlb
  obtain rfl : ld = fun i => ((s.core k).vreg d).getD i 0 := funext hld
  have hnone (t : State) : t.upsetLane k (.lanes d ((s.core k).preg p)) none = (false, t) := State.upsetLane_none t _ _
  refine ⟨fun hle => ⟨vecArith_lanes hq hop hecc hnone hle, vecArith_uncorrectable hq hop hle, ?_⟩, vecUnary_lanes hq hop hecc, fun u v w => ?_, ?_, ?_, ?_, ?_, ?_, ?_,
    vsel_lanes hq hop hecc, fun hcvt => vcvt_lanes hq hop hcvt hecc rfl hs, fun hcvt => vcvt_counts hs hq hop hcvt rfl rfl,
    fun hlut base word r hvals hok hword hlt hr => ?_, fun hlut base bs hvals hok hbs hlt => ?_, fun hbc v => vbc_lanes hq hop hecc hbc, vmov_lanes hq hop hecc⟩
  · rintro i u v rfl
    exact ⟨vecOp_upset hq hop (Nat.zero_le op) hle (f := fun s op d a b p ty _ _ => s.laneWise k d a b p (arithLane op ty)) (hq.laneWise rfl d a b p (arithLane op ty)),
      fun hm => vecArith_lanes hq hop hecc (fun t => t.upsetLane_inactive k d hm u) hle⟩
  · obtain ⟨hadd, hsub, hmul, hfma, hmin, hmax, habs, hneg⟩ := arithLane_int32 u v w
    exact ⟨hadd, hsub, hmul, hfma, hmin, hmax, habs, hneg, arithLane_fp32 u v w⟩
  iterate 3 · rintro rfl; exact vecLogic_lanes hq hop hecc (by decide) (by decide)
  iterate 3 · rintro rfl; exact vecShift_lanes hq hop hecc (by decide) (by decide)
  · have hbytes (i : Nat) (hi : i < 259) : tableWord (s.grnBytes k base 1036) i = word i := (tableWord_grnBytes s k base hi).trans (hword i hi).symm
    have hlanes := vlut_lanes hq hop hlut hecc hvals hok (lutLanes_ordered (by rwa [hbytes 0 (by decide), hbytes 1 (by decide)]) _)
    rw [hbytes 0 (by decide), hbytes 1 (by decide), ← hr] at hlanes
    exact hlanes.congr fun i _ _ => lutLane_congr (fun j hj => hbytes (j + 2) (by omega)) _ _ _ _
  · have hopen : lutLanes bs ((s.core k).vreg a) = ((s.core k).vreg a).map (Config.lutOpen (leNat bs)) := lutLanes_open hlt _
    rw [hbs] at hopen ⊢
    exact vlut_lanes hq hop hlut hecc hvals hok hopen

end Sys2Proof.Machine

/-! DIGITS AND BYTES. Numbers put together from digits of one width, and from bytes (R11, R299, R357). -/
namespace Sys2Proof.Machine

-- DIGITS

/-- The number of the digits d 0 to d (n - 1) of w bits, the lowest first. -/
def digitSum (w : Nat) (d : Nat → Nat) (n : Nat) : Nat := (List.range n).foldl (fun a i => a + d i * 2 ^ (w * i)) 0

theorem digitSum_succ (w : Nat) (d : Nat → Nat) (n : Nat) : digitSum w d (n + 1) = digitSum w d n + d n * 2 ^ (w * n) := by
  rw [digitSum, List.range_succ, List.foldl_append]; rfl

theorem digitSum_lt {w : Nat} {d : Nat → Nat} (hd : ∀ i, d i < 2 ^ w) (n : Nat) : digitSum w d n < 2 ^ (w * n) := by
  induction n with
  | zero => simp [digitSum]
  | succ n ih =>
    have hdigit : (d n + 1) * 2 ^ (w * n) ≤ 2 ^ w * 2 ^ (w * n) := Nat.mul_le_mul_right _ (hd n)
    rw [digitSum_succ, Nat.mul_succ, Nat.pow_add]
    linarith

theorem bitsAt_testBit (v lo w i : Nat) : (bitsAt v lo w).testBit i = (decide (i < w) && v.testBit (lo + i)) := by
  rw [bitsAt, Nat.testBit_mod_two_pow, Nat.testBit_div_two_pow, Nat.add_comm]

/-- Each digit is read back from its place. -/
theorem bitsAt_digitSum {w : Nat} {d : Nat → Nat} (hd : ∀ i, d i < 2 ^ w) {n i : Nat} (hi : i < n) : bitsAt (digitSum w d n) (w * i) w = d i := by
  induction n with
  | zero => omega
  | succ n ih =>
    refine Nat.eq_of_testBit_eq fun j => ?_
    rw [bitsAt_testBit, digitSum_succ, Nat.add_comm, Nat.mul_comm, Nat.testBit_two_pow_mul_add _ (digitSum_lt hd n)]
    by_cases hj : j < w
    · rcases Nat.lt_succ_iff_lt_or_eq.mp hi with hlt | rfl
      · have hplace : w * i + j < w * n := by
          have := Nat.mul_le_mul_left w (Nat.succ_le_of_lt hlt)
          rw [Nat.mul_succ] at this
          omega
        rw [if_pos hplace, ← ih hlt, bitsAt_testBit]
      · rw [if_neg (by omega), Nat.add_sub_cancel_left]; simp [hj]
    · have hhigh : (d i).testBit j = false := Nat.testBit_lt_two_pow ((hd i).trans_le (Nat.pow_le_pow_right (by decide) (by omega)))
      simp [hj, hhigh]

theorem digitSum_testBit {w : Nat} {d : Nat → Nat} (hd : ∀ i, d i < 2 ^ w) {n t : Nat} (ht : t < w * n) : (digitSum w d n).testBit t = (d (t / w)).testBit (t % w) := by
  have hw : 0 < w := Nat.pos_of_ne_zero (by rintro rfl; simp at ht)
  rw [← bitsAt_digitSum hd (Nat.div_lt_of_lt_mul ht), bitsAt_testBit, Nat.div_add_mod]
  simp [Nat.mod_lt _ hw]

-- BYTES

@[simp] theorem leBytes_length (n v : Nat) : (leBytes n v).length = n := by
  induction n generalizing v with
  | zero => rfl
  | succ n ih => simp [leBytes, ih]

theorem leNat_lt (bs : List Byte) : leNat bs < 2 ^ (8 * bs.length) := by
  induction bs with
  | nil => simp [leNat]
  | cons b bs ih =>
    have hb := b.isLt
    rw [leNat, List.length_cons, Nat.mul_succ, Nat.pow_add]
    omega

theorem leNat_leBytes {n v : Nat} (hv : v < 2 ^ (8 * n)) : leNat (leBytes n v) = v := by
  induction n generalizing v with
  | zero => simp [leBytes, leNat]; omega
  | succ n ih =>
    rw [Nat.mul_succ, Nat.pow_add] at hv
    rw [leBytes, leNat, ih (by omega)]
    simp
    omega

theorem leBytes_leNat (bs : List Byte) : leBytes bs.length (leNat bs) = bs := by
  induction bs with
  | nil => rfl
  | cons b bs ih =>
    have hb := b.isLt
    have hhead : (b.toNat + 256 * leNat bs) / 256 = leNat bs := by omega
    rw [List.length_cons, leBytes, leNat, hhead, ih]
    congr 1
    exact BitVec.eq_of_toNat_eq (by simp; omega)

theorem leBytes_getElem? {n i : Nat} (hi : i < n) (v : Nat) : (leBytes n v)[i]? = some (BitVec.ofNat 8 (bitsAt v (8 * i) 8)) := by
  induction n generalizing i v with
  | zero => omega
  | succ n ih =>
    cases i with
    | zero =>
      refine congrArg some (BitVec.eq_of_toNat_eq ?_)
      simp [bitsAt]
    | succ i =>
      have hnext : bitsAt (v / 256) (8 * i) 8 = bitsAt v (8 * (i + 1)) 8 := by
        rw [bitsAt, bitsAt, Nat.div_div_eq_div_mul, Nat.mul_succ, Nat.pow_add, Nat.mul_comm]
      rw [leBytes, List.getElem?_cons_succ, ih (by omega), hnext]

end Sys2Proof.Machine

/-! PREDICATES, REDUCTION AND MEMORY. What VCMP, VPOP, VRED, VLD and VST leave (R229, R238, R297, R299, R300, R356, R357, R386). -/
namespace Sys2Proof.Machine

-- PREDICATES

theorem predOf_lanes256 (f : Nat → Bool) {i : Nat} (hi : i < 256) : (predOf (lanes256 f)).getLsbD i = f i := by
  have hsum : (numbered (lanes256 f)).foldl (fun a x => if x.2 then a + 2 ^ x.1 else a) 0 = digitSum 1 (fun i => b2n (f i)) 256 := by
    rw [numbered_lanes256, lanes256, List.foldl_map, digitSum]
    refine congrArg (fun g => List.foldl g 0 (List.range 256)) (funext fun a => funext fun i => ?_)
    cases f i <;> simp [b2n]
  have hbit : ∀ i, b2n (f i) < 2 ^ 1 := fun i => by cases f i <;> decide
  rw [predOf, hsum, BitVec.getLsbD_ofNat, digitSum_testBit hbit (by omega)]
  simp only [Nat.div_one, Nat.mod_one, hi, decide_true, Bool.true_and]
  cases f i <;> rfl

/-- The core's predicates once predicate d is set. -/
def CoreSt.putPred (c : CoreSt) (d : Nat) (g : BitVec 256) : Tbl (BitVec 256) := if d = 0 then c.p else Tbl.put c.p d g

theorem CoreSt.preg_putPred (c : CoreSt) (d : Nat) (g : BitVec 256) : ({ c with p := c.putPred d g } : CoreSt).preg d = (if d = 0 then BitVec.allOnes 256 else g) ∧
    ∀ r, r ≠ d → ({ c with p := c.putPred d g } : CoreSt).preg r = c.preg r := by
  unfold CoreSt.preg CoreSt.putPred
  by_cases hd : d = 0
  · simp [hd]
  · simp only [if_neg hd, Tbl.getD_put_same, true_and]
    exact fun r hr => by rw [Tbl.getD_put_ne hr]

theorem VecReady.pop_pred {s : State} {k : CoreId} {q : QEnt} (hq : VecReady s k q) (p : Tbl (BitVec 256)) :
    ({ s.core k with p } : CoreSt).vecPop = { s.core k with vecQ := (s.core k).vecQ.tail, lastPc := (s.core k).lastPc.set 1 q.bundle, p } := by
  obtain ⟨rest, hrest⟩ := hq.queue
  simp [CoreSt.vecPop, hrest]

theorem VecReady.pop_grn {s : State} {k : CoreId} {q : QEnt} (hq : VecReady s k q) (grn : Granary) :
    ({ s.core k with grn } : CoreSt).vecPop = { s.core k with vecQ := (s.core k).vecQ.tail, lastPc := (s.core k).lastPc.set 1 q.bundle, grn } := by
  obtain ⟨rest, hrest⟩ := hq.queue
  simp [CoreSt.vecPop, hrest]

section
variable {s : State} {k : CoreId} {q : QEnt} {op d a b p ty x lo hi : Nat} (hq : VecReady s k q) (hop : q.op = .vec op d a b p ty x) (hlo : lo ≤ op) (hhi : op ≤ hi)
include hq hop hlo hhi

/-- An instruction that sets predicate e. -/
theorem vecOp_pred {f} {e : Nat} {m g : BitVec 256} (hf : f s op d a b p ty x q.vals = (some (.pred e m), s.putP k e g)) :
    PredDone (s.vecOp k lo hi .clean none f) s k q e g := by
  have hput : CoreOnly s (s.putP k e g) k { s.core k with p := (s.core k).putPred e g } [] := by
    unfold State.putP CoreSt.putPred
    split
    · exact CoreOnly.refl s k []
    · exact (CoreOnly.refl s k []).setCore _
  have hrest : s.putP k e g = { s with cores := (s.putP k e g).cores } := by
    unfold State.putP; split <;> rfl
  rw [vecOp_completes hq hop hlo hhi (by decide) hf (State.upsetLane_none _ _ _), hput.core, hq.pop_pred]
  obtain ⟨hsame, hothers⟩ := (s.core k).preg_putPred e g
  have honly := hput.setCore { s.core k with vecQ := (s.core k).vecQ.tail, lastPc := (s.core k).lastPc.set 1 q.bundle, p := (s.core k).putPred e g }
  refine ⟨_, rfl, ?_, ?_, fun r hr => ?_, honly.others, honly.regs, honly.ram, ?_⟩
  · rw [honly.core]
  · rw [honly.core]; exact hsame
  · rw [honly.core]; exact hothers r hr
  · rw [hrest]; rfl

end

/-- A comparison of two INT32 lanes (R297). -/
theorem cmpLane_int32 (u v : Word) : cmpLane 0 5 u v = decide (u = v) ∧ cmpLane 1 5 u v = decide (u ≠ v) ∧ cmpLane 2 5 u v = u.slt v ∧ cmpLane 3 5 u v = !v.slt u ∧
    cmpLane 4 5 u v = v.slt u ∧ cmpLane 5 5 u v = !u.slt v := by
  have heq : (laneInt 5 u == laneInt 5 v) = decide (u = v) := by
    rw [laneInt_int32, laneInt_int32, beq_eq_decide]; simp [BitVec.toInt_inj]
  have hlt (u v : Word) : decide (laneInt 5 u < laneInt 5 v) = u.slt v := by rw [laneInt_int32, laneInt_int32]; rfl
  have hle (u v : Word) : (u.slt v || decide (u = v)) = !v.slt u := by
    rw [Bool.eq_iff_iff]
    simp [BitVec.slt, ← BitVec.toInt_inj]
    omega
  have hint : isIntType 5 = true := rfl
  refine ⟨?_, ?_, ?_, ?_, ?_, ?_⟩ <;> simp only [cmpLane, hint, if_true, heq, hlt]
  · simp
  · exact hle u v
  · rw [show decide (u = v) = decide (v = u) from by simp [eq_comm]]
    exact hle v u

-- REDUCTION

theorem treeLevel_sum (l : List Word) : (treeLevel (· + ·) l).sum = l.sum := by
  match l with
  | [] => rfl
  | [_] => rfl
  | a :: b :: r => simp [treeLevel, treeLevel_sum r, BitVec.add_assoc]

theorem treeLevel_length {α : Type} (f : α → α → α) (n : Nat) (l : List α) (hl : l.length = 2 * n) : (treeLevel f l).length = n := by
  induction n generalizing l with
  | zero => rw [List.length_eq_zero_iff.mp hl]; rfl
  | succ n ih =>
    match l, hl with
    | a :: b :: r, hl => simp [treeLevel, ih r (by simpa [Nat.mul_succ] using hl)]

theorem treeFold_sum (n : Nat) (l : List Word) (hl : l.length = 2 ^ n) : treeFold (· + ·) 0 n l = l.sum := by
  induction n generalizing l with
  | zero =>
    obtain ⟨a, rfl⟩ := List.length_eq_one_iff.mp hl
    simp [treeFold]
  | succ n ih =>
    rw [treeFold, ih _ (treeLevel_length _ _ _ (by rw [hl, Nat.pow_succ, Nat.mul_comm])), treeLevel_sum]

theorem reduce_int32 {l : List Word} (hl : l.length = 256) : reduce 0 5 l = l.sum := by
  have hadd : (fun x y => arithLane (if (0 : Nat) = 0 then 0 else if (0 : Nat) = 1 then 4 else 5) 5 x y 0) = (· + · : Word → Word → Word) :=
    funext fun x => funext fun y => (arithLane_int32 x y 0).1
  rw [reduce, hadd, treeFold_sum 8 l hl]

-- BYTES PUT INTO THE GRANARY

theorem getD_putGrn_byte {m : List Host.Cell} (hm : Tbl.wf m = true) (a : Nat) (b : Byte) (x : Nat) :
    Tbl.getD (putGrn m a [b]) x 0 = if x = a then b else Tbl.getD m x 0 := by
  simp only [putGrn]
  by_cases hx : x = a
  · subst hx
    split
    · next hb => simp [Tbl.getD, Tbl.find_drop_same hm, hb]
    · simp
  · rw [if_neg hx]
    split
    · simp [Tbl.getD, Tbl.find_drop_ne hx]
    · exact Tbl.getD_put_ne hx _ _ _

theorem wf_putGrn_byte {m : List Host.Cell} (hm : Tbl.wf m = true) (a : Nat) (b : Byte) : Tbl.wf (putGrn m a [b]) = true := by
  simp only [putGrn]
  split
  · exact Tbl.wf_drop hm a
  · exact Tbl.wf_put hm a b

/-- Bytes put one by one at offsets from a base: a byte of the list reads as put, every other as before. -/
theorem getD_foldl_putGrn (base : Nat) (v : Nat → Byte) (l : List Nat) {m : List Host.Cell} (hm : Tbl.wf m = true) (x : Nat) :
    Tbl.getD ((l.map fun i => (base + i, v i)).foldl (fun m x => putGrn m x.1 [x.2]) m) x 0 =
      if base ≤ x ∧ x - base ∈ l then v (x - base) else Tbl.getD m x 0 := by
  induction l generalizing m with
  | nil => simp
  | cons i l ih =>
    rw [List.map_cons, List.foldl_cons, ih (wf_putGrn_byte hm _ _), getD_putGrn_byte hm]
    by_cases hl : base ≤ x ∧ x - base ∈ l
    · rw [if_pos hl, if_pos ⟨hl.1, List.mem_cons_of_mem i hl.2⟩]
    · rw [if_neg hl]
      by_cases hx : x = base + i
      · rw [if_pos hx, if_pos ⟨by omega, by simp [hx]⟩, hx, Nat.add_sub_cancel_left]
      · have hout : ¬(base ≤ x ∧ x - base ∈ i :: l) := by
          rintro ⟨hle, hin⟩
          rcases List.mem_cons.mp hin with h | h
          · omega
          · exact hl ⟨hle, h⟩
        rw [if_neg hx, if_neg hout]

-- VST

/-- Lane i of what VST leaves in the Granary: the low bits of an active lane, what stood there of another. -/
def vstDigit (w : Nat) (m : BitVec 256) (old : Nat) (lane : Nat → Word) (i : Nat) : Nat := if m.getLsbD i then (lane i).toNat % 2 ^ w else bitsAt old (w * i) w

theorem vstDigit_lt (w : Nat) (m : BitVec 256) (old : Nat) (lane : Nat → Word) (i : Nat) : vstDigit w m old lane i < 2 ^ w := by
  unfold vstDigit bitsAt
  split <;> exact Nat.mod_lt _ (Nat.two_pow_pos w)

/-- Byte i takes a bit of an active lane. -/
def vstTouches (w : Nat) (m : BitVec 256) (i : Nat) : Bool :=
  (List.range 256).any fun j => m.getLsbD j && decide (w * j < 8 * i + 8) && decide (8 * i < w * j + w)

/-- The bytes that VST leaves. -/
def vstBytes (w : Nat) (m : BitVec 256) (old : List Byte) (lane : Nat → Word) : List Byte := leBytes (32 * w) (digitSum w (vstDigit w m (leNat old) lane) 256)

theorem numbered_eq_map {α : Type} (l : List α) (d : α) : numbered l = (List.range l.length).map fun i => (i, l.getD i d) := by
  refine List.ext_getElem (by simp [numbered]) fun i hi _ => ?_
  have hlt : i < l.length := by simpa [numbered] using hi
  simp [numbered, hlt]

theorem vstCells_eq (w : Nat) (m : BitVec 256) (old : List Byte) (lane : Nat → Word) :
    vstCells w m old (lanes256 lane) = ((List.range (32 * w)).filter (vstTouches w m)).map fun i => (i, (vstBytes w m old lane).getD i 0) := by
  have hsum : (numbered (lanes256 lane)).foldl (fun a x => a + (if m.getLsbD x.1 then x.2.toNat % 2 ^ w else elemAt (leNat old) w x.1) * 2 ^ (w * x.1)) 0 =
      digitSum w (vstDigit w m (leNat old) lane) 256 := by
    rw [numbered_lanes256, lanes256, List.foldl_map]; rfl
  simp only [vstCells, hsum]
  rw [numbered_eq_map _ 0, leBytes_length, List.filter_map]
  rfl

/-- A byte that takes no bit of an active lane is what stood there. -/
theorem vstBytes_untouched {w : Nat} {m : BitVec 256} {old : List Byte} (hold : old.length = 32 * w) (lane : Nat → Word) {i : Nat} (hi : i < 32 * w)
    (hout : vstTouches w m i = false) : (vstBytes w m old lane)[i]? = old[i]? := by
  conv_rhs => rw [← leBytes_leNat old, hold]
  rw [vstBytes, leBytes_getElem? hi, leBytes_getElem? hi]
  congr 2
  refine Nat.eq_of_testBit_eq fun j => ?_
  rw [bitsAt_testBit, bitsAt_testBit]
  by_cases hj : j < 8
  · have hw : 0 < w := by omega
    have hmod := Nat.div_add_mod (8 * i + j) w
    have hlt := Nat.mod_lt (8 * i + j) hw
    have hlane : (8 * i + j) / w < 256 := Nat.div_lt_of_lt_mul (by omega)
    have hinactive : m.getLsbD ((8 * i + j) / w) = false := by
      rw [vstTouches, List.any_eq_false] at hout
      have hnot := hout _ (List.mem_range.mpr hlane)
      simp only [Bool.and_eq_true, decide_eq_true_eq] at hnot
      exact Bool.eq_false_iff.mpr fun hact => hnot ⟨⟨hact, by omega⟩, by omega⟩
    rw [digitSum_testBit (vstDigit_lt w m _ lane) (by omega), vstDigit, hinactive, if_neg (by decide), bitsAt_testBit, hmod]
    simp [hlt]
  · simp [hj]

/-- The Granary once VST has written. -/
def Granary.vstWritten (g : Granary) (base : Nat) (cells : List (Nat × Byte)) : Granary :=
  { g with bytes := (cells.map fun x => (base + x.1, x.2)).foldl (fun m x => putGrn m x.1 [x.2]) g.bytes,
           wb := g.wb.filter fun w => !(cells.map fun x => (base + x.1, x.2)).any fun x => x.1 / 8 == w }

theorem Granary.vstWritten_written {g : Granary} (hg : Tbl.wf g.bytes = true) {base w : Nat} {m : BitVec 256} {old : List Byte} (lane : Nat → Word)
    (hold : old = (List.range (32 * w)).map fun i => Tbl.getD g.bytes (base + i) 0) :
    GrnWritten g (g.vstWritten base (vstCells w m old (lanes256 lane))) base (vstBytes w m old lane) := by
  have hread (x : Nat) : Tbl.getD (g.vstWritten base (vstCells w m old (lanes256 lane))).bytes x 0 =
      if base ≤ x ∧ x - base ∈ (List.range (32 * w)).filter (vstTouches w m) then (vstBytes w m old lane).getD (x - base) 0 else Tbl.getD g.bytes x 0 := by
    refine Eq.trans ?_ (getD_foldl_putGrn base (fun i => (vstBytes w m old lane).getD i 0) _ hg x)
    rw [Granary.vstWritten, vstCells_eq, List.map_map]
    rfl
  have hlen : (vstBytes w m old lane).length = 32 * w := leBytes_length _ _
  refine ⟨fun i b hb => ?_, fun x hx => ?_, rfl, rfl, rfl⟩
  · have hi : i < 32 * w := hlen ▸ (List.getElem?_eq_some_iff.mp hb).1
    rw [hread, Nat.add_sub_cancel_left]
    by_cases ht : vstTouches w m i = true
    · rw [if_pos ⟨by omega, by simp [hi, ht]⟩, List.getD_eq_getElem?_getD, hb, Option.getD_some]
    · rw [if_neg (by simp [ht])]
      rw [vstBytes_untouched (by simp [hold]) lane hi (by simpa using ht), hold] at hb
      simpa [hi] using hb
  · rw [hread, if_neg]
    rintro ⟨hle, hin⟩
    have := List.mem_range.mp (List.mem_filter.mp hin).1
    omega

section
variable {s : State} {k : CoreId} {q : QEnt} {op d a b p ty x : Nat} {m : BitVec 256} (hq : VecReady s k q) (hop : q.op = .vec op d a b p ty x) (hm : m = (s.core k).preg p)
include hq hop hm

theorem vcmp_pred (hcmp : op = 0x0E) {g : BitVec 256}
    (hg : ∀ i, i < 256 → g.getLsbD i = (m.getLsbD i && cmpLane (x % 8) ty (((s.core k).vreg a).getD i 0) (((s.core k).vreg b).getD i 0))) :
    PredDone (exec (.vcmp k .clean none) s) s k q d g := by
  have hpred : predOf ((((s.core k).vreg a).zip ((s.core k).vreg b)).map fun z => cmpLane (x % 8) ty z.1 z.2) &&& (s.core k).preg p = g := by
    rw [hq.vreg_lanes a, hq.vreg_lanes b, zip_lanes256, map_lanes256, ← hm]
    refine BitVec.eq_of_getLsbD_eq fun i hi => ?_
    rw [BitVec.getLsbD_and, predOf_lanes256 _ hi, hg i hi, Bool.and_comm]
  change PredDone (execVcmp k .clean none s) s k q d g
  exact vecOp_pred hq hop hcmp.ge hcmp.le (m := BitVec.allOnes 256) (by dsimp only; rw [hpred])

theorem vpop_pred (hpop : op = 0x16) {g : BitVec 256} (hg : g = (match x % 4 with
      | 0 => (s.core k).preg (a % 8) &&& (s.core k).preg (b % 8)
      | 1 => (s.core k).preg (a % 8) ||| (s.core k).preg (b % 8)
      | 2 => (s.core k).preg (a % 8) ^^^ (s.core k).preg (b % 8)
      | _ => (s.core k).preg (a % 8) &&& ~~~ (s.core k).preg (b % 8))) :
    PredDone (exec (.vpop k .clean none) s) s k q (d % 8) ((g &&& m) ||| ((s.core k).preg (d % 8) &&& ~~~ m)) := by
  subst hg hm
  change PredDone (execVpop k .clean none s) s k q _ _
  exact vecOp_pred hq hop hpop.ge hpop.le rfl

theorem vred_lanes (hred : op = 0x11) : VecDone (exec (.vred k .clean none) s) s k q d (BitVec.allOnes 256) (fun i => if i = 0 then
    reduce (x % 4) ty ((List.range 256).map (fun j => if m.getLsbD j then ((s.core k).vreg a).getD j 0 else redIdentity (x % 4) ty)) else 0) [] := by
  have hrep (c : Word) (n : Nat) : c :: List.replicate n 0 = (List.range (n + 1)).map fun i => if i = 0 then c else 0 := by
    rw [List.range_succ_eq_map, List.map_cons, List.map_map, if_pos rfl]
    simp [Function.comp_def, List.map_const']
  have hid : List.replicate 256 (redIdentity (x % 4) ty) = lanes256 fun _ => redIdentity (x % 4) ty := by simp [lanes256, List.map_const']
  change VecDone (execVred k .clean none s) s k q d _ _ _
  refine vecOp_lanes hq hop (ecc := .clean) (by decide) hred.ge hred.le (fun t => State.upsetLane_none t _ _) fun u hu => ?_
  dsimp only
  rw [hu.core, hrep, hid, hm]
  conv_lhs => rw [hq.vreg_lanes a, underMask_lanes256]
  rfl

theorem vld_lanes (hvld : op = 0x14) {base : Nat} (hvals : q.vals = [base]) (hok : s.grnOk k (s.jobPart k) base (vecBytes ty) = true) :
    VecDone (exec (.vld k .clean none []) s) s k q d m (fun i => widen ty (bitsAt (leNat (s.grnBytes k base (vecBytes ty))) (fmtWidth ty * i) (fmtWidth ty))) [] := by
  change VecDone (execVld k .clean none [] s) s k q d _ _ _
  refine vecOp_lanes hq hop (ecc := .clean) (by decide) hvld.ge hvld.le (fun t => State.upsetLane_none t _ _) fun u hu => ?_
  rw [hvals, List.headD_cons, hu.grnRead_clean (vecCounts_class k .clean) hok 2]
  dsimp only
  rw [hu.core, hm]
  rfl

omit hm in
theorem vld_refused (hvld : op = 0x14) {base : Nat} (hvals : q.vals = [base]) (hok : s.grnOk k (s.jobPart k) base (vecBytes ty) = false) :
    CoreStops (exec (.vld k .clean none []) s) s k (s.core k) 0x4302 [] := by
  change CoreStops (execVld k .clean none [] s) s k _ _ _
  rw [execVld, vecOp_faults hq hop hvld.ge hvld.le (by rw [hvals, List.headD_cons, State.grnRead_refused hok])]
  exact coreFault_stops s k 0x4302 .vec 0

omit hm in
theorem vst_refused (hvst : op = 0x15) {base : Nat} (hvals : q.vals = [base]) (hok : s.grnOk k (s.jobPart k) base (vecBytes ty) = false) :
    CoreStops (exec (.vst k .clean none []) s) s k (s.core k) 0x4302 [] := by
  change CoreStops (execVst k .clean none [] s) s k _ _ _
  rw [execVst, vecOp_faults hq hop hvst.ge hvst.le (t := s.coreFault k 0x4302 .vec) (by rw [hvals, List.headD_cons]; simp only [hok, Bool.not_false, if_true])]
  exact coreFault_stops s k 0x4302 .vec 0

theorem vst_stores (hvst : op = 0x15) {base : Nat} (hvals : q.vals = [base]) (hok : s.grnOk k (s.jobPart k) base (vecBytes ty) = true) :
    ∃ t : State, exec (.vst k .clean none []) s = .next t ∧ CoreOnly s t k { s.core k with
      vecQ := (s.core k).vecQ.tail, lastPc := (s.core k).lastPc.set 1 q.bundle,
      grn := (s.core k).grn.vstWritten base (vstCells (fmtWidth ty) m (s.grnBytes k base (vecBytes ty)) ((s.core k).vreg d)) } [] ∧ t = { s with cores := t.cores } := by
  subst hm
  generalize hcells : vstCells (fmtWidth ty) ((s.core k).preg p) (s.grnBytes k base (vecBytes ty)) ((s.core k).vreg d) = cells
  have hput : CoreOnly s (s.grnCells k (cells.map fun x => (base + x.1, x.2))) k { s.core k with grn := (s.core k).grn.vstWritten base cells } [] :=
    (CoreOnly.refl s k []).setCore _
  refine ⟨_, ?_, (hput.setCore _), rfl⟩
  change execVst k .clean none [] s = _
  rw [execVst, vecOp_completes hq hop hvst.ge hvst.le (by decide) (dest := .memory base (fmtWidth ty) ((s.core k).preg p)) (t := s.grnCells k (cells.map fun x => (base + x.1, x.2)))
    ?_ (State.upsetLane_none _ _ _), hput.core, hq.pop_grn]
  rw [hvals, List.headD_cons, State.vecSeen_clean]
  simp only [hok, Bool.not_true, Bool.false_eq_true, if_false, List.any_nil, hcells]

end

/-- Settles O54: each result is a predicate (`vecOp_pred`), the lanes of vD (`vecOp_lanes`) or the bytes of the Granary (`vst_stores`). -/
theorem vectorPredicatesReductionAndMemoryAct : Obligations.VectorPredicatesReductionAndMemoryAct := by
  unfold Obligations.VectorPredicatesReductionAndMemoryAct
  rintro s k q _ op d a b p ty x m hs rfl hq hop hm
  refine ⟨fun hcmp g => vcmp_pred hq hop hm hcmp, cmpLane_int32, ?_, vred_lanes hq hop hm, fun l hl => reduce_int32 hl,
    fun hvld base hvals => ⟨vld_lanes hq hop hm hvld hvals, vld_refused hq hop hvld hvals⟩, fun hvst base w hvals hw hwf => ⟨fun hok => ?_, vst_refused hq hop hvst hvals⟩⟩
  · rintro hpop u v g rfl rfl hg
    exact vpop_pred hq hop hm hpop hg
  · subst hw
    have hgrn := (s.core k).grn.vstWritten_written hwf (base := base) (w := fmtWidth ty) (m := m) (fun i => ((s.core k).vreg d).getD i 0) (old := s.grnBytes k base (vecBytes ty)) rfl
    rw [← hq.vreg_lanes d] at hgrn
    obtain ⟨t, hexec, honly, hrest⟩ := vst_stores hq hop hm hvst hvals hok
    refine ⟨t, vstBytes (fmtWidth ty) m (s.grnBytes k base (vecBytes ty)) fun i => ((s.core k).vreg d).getD i 0, hexec, ?_, leBytes_length _ _, ?_, fun i hi => ?_, honly.regs, hrest⟩
    · rw [honly.core]
    · rw [honly.core]; exact hgrn
    · have hdigits := vstDigit_lt (fmtWidth ty) m (leNat (s.grnBytes k base (vecBytes ty))) fun i => ((s.core k).vreg d).getD i 0
      have hsum := digitSum_lt hdigits 256
      rw [vstBytes, leNat_leBytes (by rwa [show 8 * (32 * fmtWidth ty) = fmtWidth ty * 256 by omega]), bitsAt_digitSum hdigits hi, vstDigit]

end Sys2Proof.Machine

/-! ISSUE. What an issued bundle makes of its core, and the checks at decode (R256, R257, R264 to R266, R280, R282 to R284, R304, R831). -/
namespace Sys2Proof.Machine

-- THE QUEUES

/-- Entries have gone into the queues, and the shadow has followed; nothing else of the core has changed. -/
structure PlacesOnly (c c' : CoreSt) : Prop where
  opa : ∀ q ∈ c.opaQ, q ∈ c'.opaQ
  vec : ∀ q ∈ c.vecQ, q ∈ c'.vecQ
  rest : c' = { c with opaQ := c'.opaQ, vecQ := c'.vecQ, lpeelQ := c'.lpeelQ, speelQ := c'.speelQ, shadow := c'.shadow }

theorem PlacesOnly.refl (c : CoreSt) : PlacesOnly c c := ⟨fun _ h => h, fun _ h => h, rfl⟩

theorem PlacesOnly.trans {c c' c'' : CoreSt} (h : PlacesOnly c c') (g : PlacesOnly c' c'') : PlacesOnly c c'' where
  opa q hq := g.opa q (h.opa q hq)
  vec q hq := g.vec q (h.vec q hq)
  rest := by rw [g.rest, h.rest]

/-- What an entry captures rests on the s- and a-registers alone. -/
theorem PlacesOnly.captured {c c' : CoreSt} (h : PlacesOnly c c') (o : Op) : c'.captured o = c.captured o := by
  rw [h.rest]
  cases o <;> rfl

theorem PlacesOnly.shadow (c : CoreSt) (shadow : Shadow) : PlacesOnly c { c with shadow } := ⟨fun _ h => h, fun _ h => h, rfl⟩

theorem CoreSt.enqueue_places (c : CoreSt) (h : Held) (slot : Nat) (o : Op) (e : Nat) : PlacesOnly c (c.enqueue h slot o e) := by
  unfold CoreSt.enqueue
  split
  · exact ⟨fun _ hq => List.mem_append_left _ hq, fun _ hq => hq, rfl⟩
  · split
    · exact ⟨fun _ hq => hq, fun _ hq => List.mem_append_left _ hq, rfl⟩
    · split
      · exact PlacesOnly.refl c
      · split <;> exact ⟨fun _ hq => hq, fun _ hq => hq, rfl⟩

section
variable {α : Type} {f : CoreSt → α → CoreSt} (hf : ∀ c x, PlacesOnly c (f c x))
include hf

theorem PlacesOnly.foldl (l : List α) (c : CoreSt) : PlacesOnly c (l.foldl f c) := by
  induction l generalizing c with
  | nil => exact PlacesOnly.refl c
  | cons x l ih => exact (hf c x).trans (ih (f c x))

/-- Each member of a list has its turn, after some entries and before the others. -/
theorem PlacesOnly.foldl_turn {l : List α} {x : α} (hx : x ∈ l) (c : CoreSt) : ∃ c', PlacesOnly c c' ∧ PlacesOnly (f c' x) (l.foldl f c) := by
  induction l generalizing c with
  | nil => cases hx
  | cons y l ih =>
    rcases List.mem_cons.mp hx with rfl | hin
    · exact ⟨c, PlacesOnly.refl c, PlacesOnly.foldl hf l _⟩
    · obtain ⟨c', hbefore, hafter⟩ := ih hin (f c y)
      exact ⟨c', (hf c y).trans hbefore, hafter⟩

end

/-- An instruction's entries in their queues, and the shadow. -/
def CoreSt.placeOne (h : Held) (c : CoreSt) (x : Nat × Op) : CoreSt := { x.2.queues.foldl (fun c' e => c'.enqueue h x.1 x.2 e) c with shadow := c.shadowed x.2 }

theorem CoreSt.placeOne_places (h : Held) (c : CoreSt) (x : Nat × Op) : PlacesOnly c (c.placeOne h x) :=
  (PlacesOnly.foldl (fun c e => c.enqueue_places h x.1 x.2 e) x.2.queues c).trans (PlacesOnly.shadow _ _)

theorem CoreSt.placeAll_places (c : CoreSt) (h : Held) : PlacesOnly c (c.placeAll h) := PlacesOnly.foldl (CoreSt.placeOne_places h) (numbered h.ops) c

theorem CoreSt.placeAll_s (c : CoreSt) (h : Held) : (c.placeAll h).s = c.s := by rw [(c.placeAll_places h).rest]

theorem CoreSt.placeAll_t (c : CoreSt) (h : Held) : (c.placeAll h).t = c.t := by rw [(c.placeAll_places h).rest]

/-- The turn of an instruction of the bundle in one of its queues. -/
theorem CoreSt.placeAll_turn (c : CoreSt) (h : Held) {i e : Nat} {o : Op} (ho : h.ops[i]? = some o) (he : e ∈ o.queues) :
    ∃ c' : CoreSt, c'.captured o = c.captured o ∧ PlacesOnly (c'.enqueue h i o e) (c.placeAll h) := by
  have hin : (i, o) ∈ numbered h.ops := by
    rw [numbered_eq_map _ o, List.mem_map]
    obtain ⟨hlt, hget⟩ := List.getElem?_eq_some_iff.mp ho
    exact ⟨i, List.mem_range.mpr hlt, by simp [List.getD_eq_getElem?_getD, ho]⟩
  obtain ⟨c₁, hbefore, hafter⟩ := PlacesOnly.foldl_turn (CoreSt.placeOne_places h) hin c
  obtain ⟨c₂, hqueues, hentry⟩ := PlacesOnly.foldl_turn (fun c e => c.enqueue_places h i o e) he c₁
  exact ⟨c₂, (hbefore.trans hqueues).captured o, (hentry.trans (PlacesOnly.shadow _ _)).trans hafter⟩

theorem CoreSt.placeAll_opa (c : CoreSt) (h : Held) {i : Nat} {o : Op} (ho : h.ops[i]? = some o) (he : 1 ∈ o.queues) :
    ∃ q ∈ (c.placeAll h).opaQ, q.op = o ∧ q.bundle = h.addr ∧ q.vals = c.captured o := by
  obtain ⟨c', hvals, hplaced⟩ := c.placeAll_turn h ho he
  exact ⟨{ bundle := h.addr, raw := bitsAt h.raw (40 * i) 40, op := o, vals := c'.captured o }, hplaced.opa _ (List.mem_append_right _ (List.mem_singleton_self _)), rfl, rfl, hvals⟩

theorem CoreSt.placeAll_vec (c : CoreSt) (h : Held) {i : Nat} {o : Op} (ho : h.ops[i]? = some o) (he : 2 ∈ o.queues) :
    ∃ q ∈ (c.placeAll h).vecQ, q.op = o ∧ q.bundle = h.addr ∧ q.vals = c.captured o := by
  obtain ⟨c', hvals, hplaced⟩ := c.placeAll_turn h ho he
  exact ⟨{ bundle := h.addr, raw := bitsAt h.raw (40 * i) 40, op := o, vals := c'.captured o }, hplaced.vec _ (List.mem_append_right _ (List.mem_singleton_self _)), rfl, rfl, hvals⟩

-- ISSUE

/-- Two records of one bundle: they may differ in what is done. -/
structure SameBundle (h h' : Held) : Prop where
  addr : h'.addr = h.addr
  raw : h'.raw = h.raw
  ops : h'.ops = h.ops

theorem SameBundle.stores {h h' : Held} (hs : SameBundle h h') : h'.stores = h.stores := by rw [Held.stores, Held.stores, hs.ops]

theorem SameBundle.awaitsLoad {h h' : Held} (hs : SameBundle h h') (c : CoreSt) : c.awaitsLoad h' = c.awaitsLoad h := by
  rw [CoreSt.awaitsLoad, CoreSt.awaitsLoad, hs.ops]

theorem SameBundle.fullQueues {h h' : Held} (hs : SameBundle h h') (c : CoreSt) : c.fullQueues h' = c.fullQueues h := by
  rw [CoreSt.fullQueues, CoreSt.fullQueues, hs.ops]

theorem Held.done_same (h : Held) (j : Nat) : SameBundle h (h.done j) := ⟨rfl, rfl, rfl⟩

/-- The bundle as it issues. -/
def Held.atIssue (h : Held) (c : CoreSt) : Held :=
  { h with issued := true, sv := c.s, av := c.a, tv := c.t, alloc := none, stalled := false, todo := h.todo.map (fun o => if o.leaves then .nop else o) }

/-- The core once the bundle has issued, before the bundle is over. -/
def CoreSt.afterIssue (c : CoreSt) (h : Held) : CoreSt :=
  { c.placeAll h with
    a := (match h.allocVal with | some (d, v) => setA c.a d v | none => c.a),
    sig := if !(h.ops.any (fun o => o == .endJob || o.isSigset)) then sigFold c.sig h.raw else c.sig,
    pc := h.addr + 16, ended := c.ended || h.ops.contains .endJob, bundle := some (h.atIssue c) }

/-- Nothing holds the bundle h back on core c. -/
structure MayIssue (c : CoreSt) (h : Held) : Prop where
  checked : h.checked = true
  waiting : h.issued = false
  free : h.todo.any Op.gates = false
  load : c.awaitsLoad h = false
  going : c.stopping = false
  thawed : c.frozen = false
  room : h.stores = false ∨ c.sb.length < 16
  queues : c.fullQueues h = []

theorem MayIssue.issueBundle {t : State} {k : CoreId} {h : Held} (hm : MayIssue (t.core k) h) (hb : (t.core k).bundle = some h) :
    t.issueBundle k = (t.setCore k ((t.core k).afterIssue h)).retireBundle k (h.atIssue (t.core k)) := by
  have hblocked : (t.core k).blocked h = false := by
    have hroom := hm.room
    simp only [CoreSt.blocked, hm.queues]
    rcases hroom with h | h <;> simp [h]
  simp only [State.issueBundle, hb]
  rw [if_neg (by simp only [hm.checked, hm.waiting, hm.free, hm.load, hm.going, hm.thawed]; decide), if_neg (Bool.eq_false_iff.mp hblocked)]
  rfl

/-- What an entry captures does not rest on the bundle that the core holds. -/
theorem CoreSt.captured_bundle (c : CoreSt) (b : Option Held) (o : Op) : ({ c with bundle := b } : CoreSt).captured o = c.captured o := by cases o <;> rfl

theorem CoreSt.afterIssue_from (c : CoreSt) {h h' : Held} (hsame : SameBundle h h') {b : Option Held} (hb : b = none ∨ b = some (h'.atIssue c)) :
    IssuedFrom c { ({ c with bundle := some h' } : CoreSt).afterIssue h' with bundle := b } h where
  pc := by rw [← hsame.addr]; rfl
  sig := by
    rw [← hsame.ops, ← hsame.raw]
    simp only [CoreSt.afterIssue]
    cases h'.ops.any (fun o => o == .endJob || o.isSigset) <;> rfl
  ended := by rw [← hsame.ops]; rfl
  s := CoreSt.placeAll_s _ h'
  tallies := CoreSt.placeAll_t _ h'
  opa i o ho he := by
    rw [← hsame.ops] at ho
    obtain ⟨q, hq, hop, hbundle, hvals⟩ := ({ c with bundle := some h' } : CoreSt).placeAll_opa h' ho he
    exact ⟨q, hq, hop, hbundle.trans hsame.addr, hvals.trans (c.captured_bundle _ o)⟩
  vec i o ho he := by
    rw [← hsame.ops] at ho
    obtain ⟨q, hq, hop, hbundle, hvals⟩ := ({ c with bundle := some h' } : CoreSt).placeAll_vec h' ho he
    exact ⟨q, hq, hop, hbundle.trans hsame.addr, hvals.trans (c.captured_bundle _ o)⟩
  bundle := hb.imp_right fun hb => ⟨h'.atIssue c, hb, rfl, hsame.addr, hsame.ops, rfl, rfl⟩

/-- A bundle is over where no slot has anything left to do. -/
theorem CoreOnly.retireBundle {s t : State} {k : CoreId} {c : CoreSt} {ks : List Nat} (honly : CoreOnly s t k c ks) (h : Held) :
    ∃ b, (b = none ∨ b = some h) ∧ CoreOnly s (t.retireBundle k h) k { c with bundle := b } (kRetired k :: ks) := by
  have hmono := honly.mono (ls := kRetired k :: ks) fun _ hr => List.mem_cons_of_mem _ hr
  unfold State.retireBundle State.setHeld
  rw [honly.core]
  split
  · exact ⟨none, .inl rfl, (hmono.setCore _).setReg List.mem_cons_self _⟩
  · exact ⟨some h, .inr rfl, hmono.setCore _⟩

/-- The issue of a bundle on core k, in a state that is s but for the bundle's record and the registers listed. -/
theorem CoreOnly.issues {s t : State} {k : CoreId} {c : CoreSt} {h h' : Held} {ks : List Nat} (honly : CoreOnly s t k { c with bundle := some h' } ks)
    (hsame : SameBundle h h') (hm : MayIssue { c with bundle := some h' } h') : Issues (.next (t.issueBundle k)) s k c h ks := by
  have hissue := MayIssue.issueBundle (honly.core ▸ hm) (by rw [honly.core])
  rw [honly.core] at hissue
  obtain ⟨b, hb, hdone⟩ := (honly.setCore (({ c with bundle := some h' } : CoreSt).afterIssue h')).retireBundle (h'.atIssue { c with bundle := some h' })
  rw [← hissue] at hdone
  exact ⟨_, rfl, hdone.core ▸ c.afterIssue_from hsame hb, hdone.others, hdone.regs, hdone.ram, hdone.rest⟩

-- THE CHECKS AT DECODE

/-- The state once SECDED has reported on the registers that a bundle reads (R256). -/
def State.srfSeen (s : State) (k : Nat) (ecc : Ecc) : State := if ecc = .corrected then s.bump (kSrfCe k) else s

/-- The counters that it counts. -/
def srfCounts (k : Nat) (ecc : Ecc) : List Nat := if ecc = .corrected then [kSrfCe k] else []

theorem CoreOnly.srfSeen {s t : State} {k : CoreId} {c : CoreSt} (honly : CoreOnly s t k c []) (ecc : Ecc) : CoreOnly s (t.srfSeen k ecc) k c (srfCounts k ecc) := by
  unfold State.srfSeen srfCounts
  split
  · exact (honly.mono (by simp)).bump List.mem_cons_self
  · exact honly

theorem srfSeen_counts {s t : State} (hs : State.Ok s) (ht : State.Ok t) {k : CoreId} (hregs : keepsRegs s t []) (ecc : Ecc) :
    ∀ r ∈ srfCounts k ecc, (t.srfSeen k ecc).reg r = (s.bump r).reg r := by
  unfold State.srfSeen srfCounts
  split
  · intro r hr
    rw [List.mem_singleton.mp hr]
    exact State.bump_reg_congr hs ht (hregs _ (by simp))
  · simp

section
variable {t : State} {k : CoreId} {g : Held} (hheld : t.held k = some g) (hnew : g.checked = false) (hload : (t.core k).awaitsLoad g = false)
include hheld hnew hload

theorem checkBundle_passes (hecc : g.fileEcc ≠ .uncorrectable) (hbreach : (t.srfSeen k g.fileEcc).breaches k g = []) :
    t.checkBundle k = (t.srfSeen k g.fileEcc).setHeld k { g with checked := true } := by
  unfold State.srfSeen at hbreach ⊢
  simp only [State.checkBundle, hheld, hnew, hload, hecc, hbreach, leastBreach]
  rfl

theorem checkBundle_breach {r slot : Nat} (hecc : g.fileEcc = .clean) (hbreach : leastBreach (t.breaches k g) = some (r, slot)) :
    t.checkBundle k = t.decodeFault k g.addr 0x2401 slot r := by
  simp only [State.checkBundle, hheld, hnew, hload, hecc]
  simp [hbreach]

theorem checkBundle_uncorrectable (hecc : g.fileEcc = .uncorrectable) : t.checkBundle k = t.coreFault k 0x2402 .seq := by
  simp [State.checkBundle, hheld, hnew, hload, hecc]

end

/-- What the checks read: registers of the pool, and the core's job, s- and a-registers and shadow. -/
structure ChecksSame (s t : State) (k : CoreId) : Prop where
  pool : t.flag fPoolEn = s.flag fPoolEn
  count : ∀ cl, t.get (fClassCount cl) = s.get (fClassCount cl)
  sRegs : (t.core k).s = (s.core k).s
  aRegs : (t.core k).a = (s.core k).a
  job : (t.core k).job = (s.core k).job
  shadow : (t.core k).shadow = (s.core k).shadow

theorem ChecksSame.breaches {s t : State} {k : CoreId} (h : ChecksSame s t k) (g : Held) : t.breaches k g = s.breaches k g := by
  have hdyn (i : Nat) (o : Op) : t.dynBreach k i o = s.dynBreach k i o := by
    cases o <;> simp only [State.dynBreach, h.pool, h.count, h.sRegs, h.aRegs, h.job, h.shadow]
  simp only [State.breaches, hdyn]

/-- A register of a core's block is none of those that the checks read. -/
theorem ChecksSame.of_only {s t : State} {k : CoreId} {c : CoreSt} {ecc : Ecc} (honly : CoreOnly s t k c (srfCounts k ecc)) (hs : c.s = (s.core k).s) (ha : c.a = (s.core k).a)
    (hjob : c.job = (s.core k).job) (hshadow : c.shadow = (s.core k).shadow) : ChecksSame s t k where
  pool := honly.regs.flag (by unfold srfCounts; split <;> simp [fPoolEn, kSrfCe, kCore]; omega)
  count cl := honly.regs.get (by unfold srfCounts; split <;> simp [fClassCount, kSrfCe, kCore]; omega)
  sRegs := by rw [honly.core, hs]
  aRegs := by rw [honly.core, ha]
  job := by rw [honly.core, hjob]
  shadow := by rw [honly.core, hshadow]

-- FAULTS AT DECODE

theorem State.coreFault_reg64 (s : State) (k : CoreId) (code : Nat) (u : CoreUnit) (info r : Nat) : (s.coreFault k code u info).reg64 r = s.reg64 r := rfl

theorem State.decodeFault_reg64 (t : State) (k : CoreId) (addr : DWord) (code slot reason : Nat) {r : Nat} (hr : r ≠ kFaultInfo k) (hr' : r + 4 ≠ kFaultInfo k) :
    (t.decodeFault k addr code slot reason).reg64 r = (t.setReg64 (kFaultBundle k) addr).reg64 r := by
  rw [State.decodeFault, State.coreFault_reg64]
  exact (keepsRegs_setReg _ (kFaultInfo k) _).reg64 (by simpa using hr) (by simpa using hr')

/-- HRT_FAULT_BUNDLE and HRT_FAULT_INFO of a fault at decode (R304). -/
theorem State.decodeFault_regs {t : State} (ht : State.Ok t) (k : CoreId) (addr : DWord) {code slot reason : Nat} (hcode : code < 2 ^ 16) (hslot : slot < 4) (hreason : reason < 2 ^ 10) :
    (t.decodeFault k addr code slot reason).reg64 (kCore k 0x40) = addr ∧
      ((t.decodeFault k addr code slot reason).reg (kCore k 0x48)).toNat = code * 2 ^ 16 + slot * 2 ^ 10 + reason := by
  have hok : State.Ok (t.setReg64 (kFaultBundle k) addr) := ht.of_evolves (ev_setReg64 (Evolves.refl t))
  constructor
  · rw [t.decodeFault_reg64 k addr code slot reason (by simp [kFaultInfo, kCore]) (by simp [kFaultInfo, kCore])]
    exact State.reg64_setReg64_same ht (kFaultBundle k) addr
  · have hinfo : (t.decodeFault k addr code slot reason).reg (kFaultInfo k) = BitVec.ofNat 32 (code * 2 ^ 16 + slot * 2 ^ 10 + reason) := by
      rw [State.decodeFault, State.coreFault_reg, State.reg_setReg_same _ _ _ hok.regsKeyed]
    refine (congrArg BitVec.toNat hinfo).trans ?_
    rw [BitVec.toNat_ofNat, Nat.mod_eq_of_lt (by omega)]

theorem CoreOnly.decodeFault {s t : State} {k : CoreId} {c : CoreSt} {ks : List Nat} (honly : CoreOnly s t k c ks) (hks : ∀ r ∈ [kCore k 0x40, kCore k 0x44, kCore k 0x48], r ∈ ks)
    (addr : DWord) (code slot reason : Nat) : CoreStops (.next (t.decodeFault k addr code slot reason)) s k c code ks := by
  have hbundle := honly.onlyRegs ((t.setReg64_onlyRegs (kFaultBundle k) addr).mono fun r hr => hks r (by simp [kFaultBundle, kCore] at hr ⊢; omega))
  exact (hbundle.setReg (key := kFaultInfo k) (hks _ (by simp [kFaultInfo, kCore])) _).stops _ _ _

/-- A failed comparison of the signature records the expected value (R283). -/
theorem CoreOnly.sigFault {s t : State} {k : CoreId} {c : CoreSt} (honly : CoreOnly s t k c []) (addr expect : DWord) (slot reason : Nat) :
    CoreStops (.next (t.sigFault k addr expect slot reason)) s k c 0xA111 [kCore k 0x40, kCore k 0x44, kCore k 0x48, kCore k 0x50, kCore k 0x54] := by
  have hexp := (honly.mono (ls := [kCore k 0x40, kCore k 0x44, kCore k 0x48, kCore k 0x50, kCore k 0x54]) (by simp)).onlyRegs
    ((t.setReg64_onlyRegs (kSigExp k) expect).mono fun r hr => by simp [kSigExp, kCore] at hr ⊢; omega)
  exact hexp.decodeFault (by simp) addr 0xA111 slot reason

theorem State.sigFault_regs {t : State} (ht : State.Ok t) (k : CoreId) (addr expect : DWord) (slot reason : Nat) :
    (t.sigFault k addr expect slot reason).reg64 (kCore k 0x50) = expect ∧ (t.sigFault k addr expect slot reason).reg64 (kCore k 0x40) = addr := by
  have hok : State.Ok (t.setReg64 (kSigExp k) expect) := ht.of_evolves (ev_setReg64 (Evolves.refl t))
  constructor <;> rw [State.sigFault, State.decodeFault_reg64 _ k addr _ slot reason (by simp [kFaultInfo, kCore]) (by simp [kFaultInfo, kCore])]
  · rw [(keepsRegs_setReg64 _ (kFaultBundle k) addr).reg64 (by simp [kFaultBundle, kCore]) (by simp [kFaultBundle, kCore])]
    exact State.reg64_setReg64_same ht (kSigExp k) expect
  · exact State.reg64_setReg64_same hok (kFaultBundle k) addr

-- DECODE

theorem State.advance_thawed {t u : State} {k : CoreId} (hcheck : t.checkBundle k = u) (hthawed : (u.core k).frozen = false) : t.advance k = u.issueBundle k := by
  rw [State.advance, hcheck]
  exact if_neg (Bool.eq_false_iff.mp hthawed)

theorem State.advance_stopped {t u : State} {k : CoreId} (hcheck : t.checkBundle k = u) (hfrozen : (u.core k).frozen = true) : t.advance k = u := by
  rw [State.advance, hcheck]
  exact if_pos hfrozen

/-- A bundle that an instruction gates does not issue (R264, R283). -/
theorem issueBundle_gated {t : State} {k : CoreId} {h : Held} (hb : (t.core k).bundle = some h) (hgates : h.todo.any Op.gates = true) : t.issueBundle k = t := by
  simp only [State.issueBundle, hb]
  exact if_pos (by simp only [hgates]; simp)

theorem State.coreFault_frozen (t : State) (k : CoreId) (code : Nat) (u : CoreUnit) (info : Nat) : ((t.coreFault k code u info).core k).frozen = true := by
  obtain ⟨_, _, ⟨⟩, hcore, -⟩ := coreFault_stops t k code u info
  rw [hcore]

section
variable {s t : State} {k : CoreId} {c : CoreSt} {g : Held} (hs : State.Ok s) (ht : State.Ok t) (honly : CoreOnly s t k { c with bundle := some g } [])
  (hnew : g.checked = false) (hwaiting : g.issued = false) (htodo : g.todo = g.ops) (hload : c.awaitsLoad g = false) (hgoing : c.stopping = false) (hthawed : c.frozen = false)
  (hsame : c.s = (s.core k).s ∧ c.a = (s.core k).a ∧ c.job = (s.core k).job ∧ c.shadow = (s.core k).shadow)
include honly hnew hload hsame

/-- A bundle without a breach, of whose registers none is uncorrectable, passes the checks. -/
theorem checked_only (hecc : g.fileEcc ≠ .uncorrectable) (hbreach : s.breaches k g = []) :
    CoreOnly s (t.checkBundle k) k { c with bundle := some { g with checked := true } } (srfCounts k g.fileEcc) ∧
      (t.checkBundle k).regs = (t.srfSeen k g.fileEcc).regs := by
  obtain ⟨hsregs, haregs, hjob, hshadow⟩ := hsame
  have hseen := honly.srfSeen g.fileEcc
  rw [checkBundle_passes (by rw [State.held, honly.core]) hnew (by rw [honly.core]; exact hload) hecc
    (by rw [(ChecksSame.of_only hseen hsregs haregs hjob hshadow).breaches, hbreach])]
  refine ⟨?_, rfl⟩
  rw [State.setHeld, hseen.core]
  exact hseen.setCore _

include hs ht hwaiting htodo hgoing hthawed

/-- What decode and issue make of a bundle just fetched. -/
theorem decodes_advance : Decodes (.next (t.advance k)) s k c g where
  issues hecc hbreach hfree hroom hqueues := by
    obtain ⟨hchecked, -⟩ := checked_only honly hnew hload hsame hecc hbreach
    rw [State.advance_thawed rfl (by rw [hchecked.core]; exact hthawed)]
    exact hchecked.issues ⟨rfl, rfl, rfl⟩ ⟨rfl, hwaiting, htodo ▸ hfree, hload, hgoing, hthawed, hroom, hqueues⟩
  waits hecc hbreach hgates := by
    obtain ⟨hchecked, hregs⟩ := checked_only honly hnew hload hsame hecc hbreach
    rw [State.advance_thawed rfl (by rw [hchecked.core]; exact hthawed), issueBundle_gated (h := { g with checked := true }) (by rw [hchecked.core])
      ((congrArg (fun l : List Op => l.any Op.gates) htodo).trans hgates)]
    refine CoreOnly.next (hchecked.mono (by simp [srfCounts])) fun r hr => ?_
    rw [State.reg, hregs]
    exact srfSeen_counts hs ht honly.regs g.fileEcc r hr
  breach r slot hecc hleast hr hslot := by
    obtain ⟨hsregs, haregs, hjob, hshadow⟩ := hsame
    have hchecks : ChecksSame s t k := ChecksSame.of_only (ecc := .clean) honly hsregs haregs hjob hshadow
    have hcheck := checkBundle_breach (by rw [State.held, honly.core]) hnew (by rw [honly.core]; exact hload) hecc ((congrArg leastBreach (hchecks.breaches g)).trans hleast)
    rw [State.advance_stopped hcheck (State.coreFault_frozen _ _ _ _ _)]
    refine ⟨(honly.mono (by simp)).decodeFault (fun _ h => h) g.addr 0x2401 slot r, ?_⟩
    rintro _ ⟨⟩
    exact State.decodeFault_regs ht k g.addr (by decide) hslot hr
  ecc hecc := by
    rw [State.advance_stopped (checkBundle_uncorrectable (by rw [State.held, honly.core]) hnew (by rw [honly.core]; exact hload) hecc) (State.coreFault_frozen _ _ _ _ _)]
    exact honly.stops _ _ _

end

end Sys2Proof.Machine

/-! THE FETCH. What serves it, and what it makes of the core (R231, R262, R471, R517). -/
namespace Sys2Proof.Machine

-- WHAT A FETCH READS

theorem keepsRegs.winOk {s t : State} {ks : List Nat} (h : keepsRegs s t ks) {p : Nat} (hks : ∀ w < 4, kPart p (4 + 4 * w) ∉ ks) (a n : Nat) (write : Bool) :
    t.winOk p a n write = s.winOk p a n write := by
  have hcovers (g : Nat) : t.winCovers p write g = s.winCovers p write g := by
    rw [State.winCovers, State.winCovers, Bool.eq_iff_iff, List.any_eq_true, List.any_eq_true]
    refine exists_congr fun w => and_congr_right fun hw => ?_
    have hkey := hks w (List.mem_range.mp hw)
    rw [h.flag (f := fWinEn p w) hkey, h.flag (f := fWinRo p w) hkey, h.get (f := fWinBase p w) hkey, h.get (f := fWinSize p w) hkey]
  simp only [State.winOk, hcovers]

theorem keepsRegs.jobOk {s t : State} {ks : List Nat} (h : keepsRegs s t ks) {p : Nat} (hks : ∀ w < 4, kPart p (4 + 4 * w) ∉ ks) (a n : Nat) (write : Bool) :
    t.jobOk p a n write = s.jobOk p a n write := by rw [State.jobOk, State.jobOk, h.winOk hks]

/-- The physical core of a fused map is one of 16. -/
theorem State.Ok.physOf_lt {s : State} (hs : State.Ok s) (k : Nat) : s.physOf k < 16 := by
  have hall := hs.phys
  rw [List.all_eq_true] at hall
  rw [State.physOf, List.getD_eq_getElem?_getD]
  cases hget : s.fuse.physOf[k]? with
  | none => decide
  | some i => exact of_decide_eq_true (hall i (List.mem_of_getElem? hget))

section
variable {s t : State} {k : CoreId} {c : CoreSt} {ks : List Nat} (hs : State.Ok s) (h : CoreOnly s t k c ks) (hks : ∀ i < 48, 0x4100 + 4 * i ∉ ks)
include hs h hks

theorem CoreOnly.paused : t.paused k = s.paused k := by
  have hphys := hs.physOf_lt k
  have hsame : t.physOf k = s.physOf k := by rw [h.rest]; rfl
  rw [State.paused, State.paused, hsame]
  exact h.regs.flag (hks _ (by omega))

end

/-- A counter of the core counts: it still runs, and may fetch, as before. -/
theorem fetches_bump {s : State} (hs : State.Ok s) (k : CoreId) (off : Nat) : (s.bump (kCore k off)).fetches k = s.fetches k := by
  have honly := (CoreOnly.refl s k [kCore k off]).bump (List.mem_singleton_self _)
  have hpaused := honly.paused hs fun i hi => by simp [kCore]; omega
  unfold State.fetches State.runs
  rw [hpaused]
  rfl

-- A FETCH THAT FAILS

/-- A job fault of another unit, with the core stopped. -/
theorem CoreOnly.jobFault_stops {s t : State} {k : CoreId} {c : CoreSt} {ks : List Nat} (h : CoreOnly s t k { c with frozen := true } ks) (code : Nat) (src : BitVec 16) (info : Nat) :
    CoreStops (.next (t.jobFault code src info)) s k c code ks := by
  refine ⟨_, { code := BitVec.ofNat 16 code, source := src, info := BitVec.ofNat 64 info, disp := .jobFault }, rfl, h.core, h.others, rfl, rfl, ?_, h.regs, h.ram, ?_⟩
  · rw [State.jobFault, State.raise_reeve, h.rest]
  · rw [State.jobFault, h.rest]; rfl

theorem jobRefused_stops (s : State) (k : CoreId) (a : Nat) : CoreStops (.next (s.jobRefused k a)) s k (s.core k) 0x4301 [] :=
  ((CoreOnly.refl s k []).setCore _).jobFault_stops _ _ _

theorem State.jobFault_setCore (s : State) (code : Nat) (src : BitVec 16) (info k : Nat) (c : CoreSt) :
    (s.jobFault code src info).setCore k c = (s.setCore k c).jobFault code src info := rfl

theorem State.core_jobFault (s : State) (code : Nat) (src : BitVec 16) (info k : Nat) : (s.jobFault code src info).core k = s.core k := rfl

theorem dramUncorrectable_stops (s : State) (k : CoreId) (who : Agent) (a : Nat) :
    CoreStops (.next ((s.dramUncorrectable who a).setCore k { (s.dramUncorrectable who a).core k with frozen := true })) s k (s.core k) 0x3101 [kUeCount] := by
  have hcounted := (CoreOnly.refl s k [kUeCount]).bump (List.mem_singleton_self _)
  rw [State.dramUncorrectable, State.core_jobFault, State.jobFault_setCore, hcounted.core]
  exact (hcounted.setCore _).jobFault_stops _ _ _

-- A FETCH THAT IS SERVED

theorem State.ramRead_clean {s : State} {a n : Nat} (h : s.badIn a n = none) (who : Agent) : s.ramRead who a n = (s.ramBytes a n, false, s) := by
  rw [State.ramRead, h]

theorem State.ramRead_bad {s : State} {a n b : Nat} (h : s.badIn a n = some b) (who : Agent) : s.ramRead who a n = (s.ramBytes a n, true, s.dramUncorrectable who b) := by
  rw [State.ramRead, h]

theorem State.dramTake_badIn (s : State) (u : DramUser) (p n a m : Nat) : (s.dramTake u p n).badIn a m = s.badIn a m := by
  simp only [State.badIn, State.ramBad, State.dramTake_dramBad]

theorem State.dramTake_ramBytes (s : State) (u : DramUser) (p n a m : Nat) : (s.dramTake u p n).ramBytes a m = s.ramBytes a m := by
  simp only [State.ramBytes, State.dramTake_ramByte]

theorem State.dramTake_core (s : State) (u : DramUser) (p n k : Nat) : (s.dramTake u p n).core k = s.core k := by
  simp only [State.core, State.dramTake_cores]

section
variable {s : State} {k : CoreId} {pc : DWord} {ecc : Ecc}

theorem fetchMiss_waits (hready : s.dramReady (.fetch k) (s.jobPart k) (linesOf pc.toNat 16) = false) :
    s.fetchMiss k pc ecc = s.dramWait (.fetch k) (s.jobPart k) (linesOf pc.toNat 16) := by
  rw [State.fetchMiss, State.dramAsk_waits s hready]

variable (hready : s.dramReady (.fetch k) (s.jobPart k) (linesOf pc.toNat 16) = true)
include hready

theorem fetchMiss_reads {u : State} (hu : u = s.dramTake (.fetch k) (s.jobPart k) (linesOf pc.toNat 16)) (hbad : s.badIn pc.toNat 16 = none) {raw : Nat}
    (hraw : raw = leNat (s.ramBytes pc.toNat 16)) :
    s.fetchMiss k pc ecc = ((u.setCore k ((s.core k).cacheBundle pc.toNat raw)).setHeld k (Held.ofRaw pc raw ecc)).advance k := by
  rw [State.fetchMiss, State.dramAsk_ready s hready, ← hu]
  dsimp only
  rw [State.ramRead_clean (by rw [hu, State.dramTake_badIn, hbad])]
  dsimp only
  rw [hraw, hu, State.dramTake_ramBytes, State.dramTake_core]

theorem fetchMiss_bad {u : State} (hu : u = s.dramTake (.fetch k) (s.jobPart k) (linesOf pc.toNat 16)) (hbad : (s.badIn pc.toNat 16).isSome = true) :
    CoreStops (.next (s.fetchMiss k pc ecc)) u k (s.core k) 0x3101 [kUeCount] := by
  obtain ⟨b, hb⟩ := Option.isSome_iff_exists.mp hbad
  rw [State.fetchMiss, State.dramAsk_ready s hready, ← hu]
  dsimp only
  rw [State.ramRead_bad (by rw [hu, State.dramTake_badIn, hb]), ← State.dramTake_core s (.fetch k) (s.jobPart k) (linesOf pc.toNat 16), ← hu]
  exact dramUncorrectable_stops u k _ b

end

section
variable {s : State} {k : CoreId} (hf : s.fetches k = true)
include hf

theorem fetches_parts : (s.core k).stopping = false ∧ (s.core k).frozen = false := by
  simp only [State.fetches, State.runs, Bool.and_eq_true, Bool.not_eq_true'] at hf
  exact ⟨hf.2, hf.1.1.1.1.1.1.1.2⟩

theorem instructionFetch_refused {hit par : Bool} {ecc : Ecc} (hok : s.jobOk (s.jobPart k) (s.core k).pc.toNat 16 false = false) :
    exec (.instructionFetch k hit par ecc) s = .next (s.jobRefused k (s.core k).pc.toNat) := by
  change execInstructionFetch k hit par ecc s = _
  simp [execInstructionFetch, hf, hok]

variable (hok : s.jobOk (s.jobPart k) (s.core k).pc.toNat 16 false = true)
include hok

theorem instructionFetch_miss {hit par : Bool} {ecc : Ecc} (hmiss : hit = false ∨ Tbl.find (s.core k).icache (s.core k).pc.toNat = none) :
    exec (.instructionFetch k hit par ecc) s = .next (s.fetchMiss k (s.core k).pc ecc) := by
  change execInstructionFetch k hit par ecc s = _
  have hnone : (if hit then Tbl.find (s.core k).icache (s.core k).pc.toNat else none) = none := by
    rcases hmiss with h | h <;> simp [h]
  simp [execInstructionFetch, hf, hok, hnone]

theorem instructionFetch_hit {par : Bool} {ecc : Ecc} {raw : Nat} (hline : Tbl.find (s.core k).icache (s.core k).pc.toNat = some raw) :
    exec (.instructionFetch k true par ecc) s =
      .next (if par then (s.bump (kIcachePerr k)).fetchMiss k (s.core k).pc ecc else (s.setHeld k (Held.ofRaw (s.core k).pc raw ecc)).advance k) := by
  change execInstructionFetch k true par ecc s = _
  simp only [execInstructionFetch, hf, hok, hline]
  cases par <;> rfl

/-- A parity error of the cached line is counted, and the bundle is fetched again (R231). -/
theorem instructionFetch_parity (hs : State.Ok s) {ecc : Ecc} {raw : Nat} (hline : Tbl.find (s.core k).icache (s.core k).pc.toNat = some raw) :
    exec (.instructionFetch k true true ecc) s = exec (.instructionFetch k false false ecc) (s.bump (kIcachePerr k)) := by
  have hkeeps := keepsRegs_bump s (kIcachePerr k)
  have hok' : (s.bump (kIcachePerr k)).jobOk (s.jobPart k) (s.core k).pc.toNat 16 false = true :=
    (hkeeps.jobOk (fun w hw => by simp [kPart, kIcachePerr, kCore]; omega) _ _ _).trans hok
  rw [instructionFetch_hit hf hok hline, instructionFetch_miss (s := s.bump (kIcachePerr k)) ((fetches_bump hs k 0x28).trans hf) hok' (.inl rfl)]
  rfl

end

/-- A bundle just fetched, in a state t that is s but for the core's instruction cache. -/
theorem fetched_decodes {s t : State} {k : CoreId} {c : CoreSt} (hs : State.Ok s) (ht : State.Ok t) (honly : CoreOnly s t k c []) {icache : List (Nat × Nat)}
    (hc : c = { s.core k with icache }) {addr : DWord} {raw : Nat} {ecc : Ecc} (hload : (s.core k).awaitsLoad (Held.ofRaw addr raw ecc) = false)
    (hgoing : (s.core k).stopping = false) (hthawed : (s.core k).frozen = false) :
    Decodes (.next ((t.setHeld k (Held.ofRaw addr raw ecc)).advance k)) s k c (Held.ofRaw addr raw ecc) := by
  subst hc
  refine decodes_advance hs (ht.of_evolves (ev_setHeld (Evolves.refl t))) ?_ rfl rfl rfl hload hgoing hthawed ⟨rfl, rfl, rfl, rfl⟩
  rw [State.setHeld, honly.core]
  exact honly.setCore _

-- CONTROL

theorem bundleAt_eq (addr : DWord) (w off : Nat) : bundleAt addr w off = addr + BitVec.ofInt 64 (16 * sgn w off) := by
  rw [bundleAt, BitVec.ofInt_add, BitVec.ofInt_natCast, BitVec.ofNat_toNat, BitVec.setWidth_eq]

theorem branchTaken_cases (x y : DWord) : branchTaken 0 x y = decide (x = y) ∧ branchTaken 1 x y = decide (x ≠ y) ∧ branchTaken 2 x y = x.slt y ∧ branchTaken 3 x y = !x.slt y ∧
    branchTaken 4 x y = x.ult y ∧ branchTaken 5 x y = !x.ult y := by
  refine ⟨beq_eq_decide x y, ?_, rfl, ?_, rfl, ?_⟩
  · exact (congrArg (!·) (beq_eq_decide x y)).trans (decide_not).symm
  · simp [branchTaken, BitVec.slt, ← decide_not]
  · simp [branchTaken, BitVec.ult, ← decide_not]

section
variable {s : State} {k : CoreId} {h : Held} (hs : State.Ok s)
include hs

/-- A taken transfer counts, and the program counter is set (R278). -/
theorem goTo_done {t : State} {c : CoreSt} (ht : State.Ok t) (honly : CoreOnly s t k c []) (hc : c.bundle = some h) (j : Nat) (pc : DWord) :
    SlotDone (.next ((t.goTo k pc).slotDone k j)) s k h j { c with pc } [kCore k 0x5C] := by
  have hset := (honly.mono (ls := [kTaken k]) (by simp)).setCore { c with pc }
  have hset' : State.Ok (t.setCore k { c with pc }) := ht.of_evolves (ev_setCore (Evolves.refl t))
  have hgo := hset.bump (List.mem_singleton_self _)
  rw [State.goTo, honly.core]
  refine slotDone_done j (State.Ok.regsKeyed (hset'.of_evolves (ev_bump (Evolves.refl _)))) hgo.core hc hgo.others (fun r hr => ?_) hgo.regs ?_ hgo.rest
  · rw [List.mem_singleton.mp hr]
    exact State.bump_reg_congr hs hset' (honly.regs _ (by simp))
  · simp [kRetired, kCore]

theorem branch_done {j cond a b off : Nat} (hslot : SlotReady s k h j (.branch cond a b off)) :
    (branchTaken cond (getS h.sv a) (getS h.sv b) = true → SlotDone (exec (.branch k) s) s k h j { s.core k with pc := h.addr + BitVec.ofInt 64 (16 * sgn 22 off) } [kCore k 0x5C]) ∧
    (branchTaken cond (getS h.sv a) (getS h.sv b) = false → SlotDone (exec (.branch k) s) s k h j (s.core k) []) := by
  have hexec : exec (.branch k) s = .next ((if branchTaken cond (getS h.sv a) (getS h.sv b) then s.goTo k (bundleAt h.addr 22 off) else s).slotDone k j) := by
    change execBranch k s = _
    rw [execBranch, slotOp_first hslot _ rfl fun | _, .branch .., _ => rfl]
    rfl
  rw [hexec]
  constructor <;> intro htaken <;> rw [htaken]
  · rw [if_pos rfl, bundleAt_eq]
    exact goTo_done hs hs (CoreOnly.refl s k []) hslot.held j _
  · exact slotDone_done j hs.regsKeyed rfl hslot.held (fun _ _ => rfl) (by simp) (keepsRegs.refl s []) (by simp) rfl

theorem jump_done {j off : Nat} (hslot : SlotReady s k h j (.jump off)) :
    SlotDone (exec (.j k) s) s k h j { s.core k with pc := h.addr + BitVec.ofInt 64 (16 * sgn 32 off) } [kCore k 0x5C] := by
  change SlotDone (execJ k s) s k h j _ _
  rw [execJ, slotOp_first hslot _ rfl fun | _, .jump .., _ => rfl, ← bundleAt_eq]
  exact goTo_done hs hs (CoreOnly.refl s k []) hslot.held j _

theorem jumpReg_done {j a : Nat} (hslot : SlotReady s k h j (.jumpReg a)) : SlotDone (exec (.jr k) s) s k h j { s.core k with pc := getS h.sv a } [kCore k 0x5C] := by
  change SlotDone (execJr k s) s k h j _ _
  rw [execJr, slotOp_first hslot _ rfl fun | _, .jumpReg .., _ => rfl]
  exact goTo_done hs hs (CoreOnly.refl s k []) hslot.held j _

theorem jal_done {j d off : Nat} (hslot : SlotReady s k h j (.jal d off)) : SlotDone (exec (.jal k) s) s k h j
    { s.core k with pc := h.addr + BitVec.ofInt 64 (16 * sgn 27 off), s := setS (s.core k).s d (h.addr + 16) } [kCore k 0x5C] := by
  change SlotDone (execJal k s) s k h j _ _
  rw [execJal, slotOp_first hslot _ rfl fun | _, .jal .., _ => rfl, ← bundleAt_eq]
  exact goTo_done hs (hs.of_evolves (ev_setCore (Evolves.refl s))) ((CoreOnly.refl s k []).setCore { s.core k with s := setS (s.core k).s d (h.addr + 16) }) hslot.held j _

theorem sigset_done {j a : Nat} (hslot : SlotReady s k h j (.sigset a)) : SlotDone (exec (.sigset k) s) s k h j { s.core k with sig := getS h.sv a } [] := by
  change SlotDone (execSigset k s) s k h j _ _
  rw [execSigset, slotOp_first hslot _ rfl fun | _, .sigset .., _ => rfl]
  exact slotDone_setCore hs j _ hslot.held

end

-- SIGNATURE CHECKS AND END

theorem checkBundle_checked {s : State} {k : CoreId} {h : Held} (hheld : s.held k = some h) (hchecked : h.checked = true) : s.checkBundle k = s := by
  simp only [State.checkBundle, hheld, hchecked]
  rfl

section
variable {s : State} {k : CoreId} {h : Held} {j : Nat} {o : Op} (hslot : SlotHeld s k h j o) {p : Op → Bool} (hp : p o = true) (hkind : ∀ x, p x = true → x.alike o = true)
include hslot hp hkind

theorem SlotHeld.find : h.find p = some (j, o) :=
  find_numbered (fun _ => p) hslot.todo hp fun i x hi hx => Bool.eq_false_iff.mpr fun hpx => by simpa [hslot.first i x hi hx] using hkind x hpx

variable (hwaiting : h.issued = false) (hgoing : (s.core k).stopping = false) {f : State → Held → Nat → Op → Bool × State}
include hwaiting hgoing

/-- The instruction has passed: its slot is done, and the bundle issues as far as nothing else holds it. -/
theorem gateOp_passes (hf : f s h j o = (true, s)) : s.gateOp k p f = .next ((s.setHeld k (h.done j)).issueBundle k) := by
  simp only [State.gateOp, hslot.held, hslot.find hp hkind, hslot.runs, hwaiting, checkBundle_checked hslot.held hslot.checked, hslot.checked, State.runs_thawed hslot.runs, hgoing, hf]
  rfl

theorem gateOp_fails {t : State} (hf : f s h j o = (false, t)) : s.gateOp k p f = .next t := by
  simp only [State.gateOp, hslot.held, hslot.find hp hkind, hslot.runs, hwaiting, checkBundle_checked hslot.held hslot.checked, hslot.checked, State.runs_thawed hslot.runs, hgoing, hf]
  rfl

end

section
variable {s : State} {k : CoreId} {h : Held} {j : Nat} {o : Op}

theorem setHeld_done_only (s : State) (k : CoreId) (h : Held) (j : Nat) : CoreOnly s (s.setHeld k (h.done j)) k { s.core k with bundle := some (h.done j) } [] :=
  (CoreOnly.refl s k []).setCore _

/-- The bundle still waits for another instruction. -/
theorem GateReady.next (hgate : GateReady s k h j o) : CoreNext (.next ((s.setHeld k (h.done j)).issueBundle k)) s k { s.core k with bundle := some (h.done j) } [] [] := by
  have honly := setHeld_done_only s k h j
  rw [issueBundle_gated (by rw [honly.core]) hgate.another]
  exact honly.next_uncounted

/-- Nothing else holds the bundle: it issues. -/
theorem LastGate.issues (hgate : LastGate s k h j o) : Issues (.next ((s.setHeld k (h.done j)).issueBundle k)) s k (s.core k) h [] :=
  (setHeld_done_only s k h j).issues (h.done_same j)
    ⟨hgate.checked, hgate.waiting, hgate.last, hgate.load, hgate.going, State.runs_thawed hgate.runs, hgate.room, hgate.queues⟩

section
variable {a : Nat} (hslot : SlotHeld s k h j (.sigchk a)) (hwaiting : h.issued = false) (hgoing : (s.core k).stopping = false)
include hslot hwaiting hgoing

theorem sigchk_passes (hsig : (s.core k).sig = getS (s.core k).s a) : exec (.sigchk k) s = .next ((s.setHeld k (h.done j)).issueBundle k) := by
  change execSigchk k s = _
  exact gateOp_passes hslot rfl (fun | .sigchk _, _ => rfl) hwaiting hgoing (if_pos hsig)

theorem sigchk_fails (hsig : (s.core k).sig ≠ getS (s.core k).s a) : exec (.sigchk k) s = .next (s.sigFault k h.addr (getS (s.core k).s a) j 9) := by
  change execSigchk k s = _
  exact gateOp_fails hslot rfl (fun | .sigchk _, _ => rfl) hwaiting hgoing (if_neg hsig)

end

section
variable {v : Nat} (hslot : SlotHeld s k h j (.sigchki v)) (hwaiting : h.issued = false) (hgoing : (s.core k).stopping = false)
include hslot hwaiting hgoing

theorem sigchki_passes (hsig : (s.core k).sig = BitVec.ofNat 64 v) : exec (.sigchki k) s = .next ((s.setHeld k (h.done j)).issueBundle k) := by
  change execSigchki k s = _
  exact gateOp_passes hslot rfl (fun | .sigchki _, _ => rfl) hwaiting hgoing (if_pos hsig)

theorem sigchki_fails (hsig : (s.core k).sig ≠ BitVec.ofNat 64 v) : exec (.sigchki k) s = .next (s.sigFault k h.addr (BitVec.ofNat 64 v) j 9) := by
  change execSigchki k s = _
  exact gateOp_fails hslot rfl (fun | .sigchki _, _ => rfl) hwaiting hgoing (if_neg hsig)

end

section
variable {job : CoreJob} (hslot : SlotHeld s k h j .endJob) (hwaiting : h.issued = false) (hgoing : (s.core k).stopping = false) (hjob : (s.core k).job = some job)
  (hfirst : h.todo.any Op.isSigchk = false)
include hslot hwaiting hgoing hjob hfirst

theorem endJob_passes (hsig : (s.core k).sig = job.sigEnd) : exec (.endJob k) s = .next ((s.setHeld k (h.done j)).issueBundle k) := by
  change execEndJob k s = _
  exact gateOp_passes (p := (· == .endJob)) hslot rfl (fun x hx => by rw [eq_of_beq hx]; rfl) hwaiting hgoing (by simp [hjob, hfirst, hsig])

theorem endJob_fails (hsig : (s.core k).sig ≠ job.sigEnd) : exec (.endJob k) s = .next (s.sigFault k h.addr job.sigEnd j 10) := by
  change execEndJob k s = _
  exact gateOp_fails (p := (· == .endJob)) hslot rfl (fun x hx => by rw [eq_of_beq hx]; rfl) hwaiting hgoing (by simp [hjob, hfirst, hsig])

end

end

/-- Settles O50: a fetch, the checks at decode, issue and each control instruction by their own rules. -/
theorem fetchIssueAndControlFollowTheBundle : Obligations.FetchIssueAndControlFollowTheBundle := by
  unfold Obligations.FetchIssueAndControlFollowTheBundle
  intro s k h hs
  refine ⟨?_, fun j cond a b off => branch_done hs, branchTaken_cases, fun j off => jump_done hs, fun j a => jumpReg_done hs, fun j d off => jal_done hs, fun j a => sigset_done hs,
    fun j a => ⟨fun hg hsig => ?_, fun hg hsig => ?_, fun hg hsig => ?_⟩, fun j v => ⟨fun hg hsig => ?_, fun hg hsig => ?_, fun hg hsig => ?_⟩,
    fun j job hg hjob hfirst hend => ⟨fun hsig => ?_, fun hsig => ?_⟩⟩
  · rintro _ ecc raw _ _ u par rfl hf rfl hload rfl hu
    obtain ⟨hgoing, hthawed⟩ := fetches_parts hf
    refine ⟨fun hok => ?_, fun hok => ⟨fun hline => ⟨?_, instructionFetch_parity hf hok hs hline⟩, fun hit hmiss => ?_⟩⟩
    · rw [instructionFetch_refused hf hok]
      exact jobRefused_stops s k _
    · rw [instructionFetch_hit hf hok hline]
      exact fetched_decodes hs hs (CoreOnly.refl s k []) rfl hload hgoing hthawed
    · rw [instructionFetch_miss hf hok hmiss]
      have hcore : u.core k = s.core k := by rw [hu, State.dramTake_core]
      have huok : State.Ok u := hu ▸ hs.of_evolves (ev_dramTake (Evolves.refl s) _ _ _)
      refine ⟨fun hready => ?_, fun hready hbad hraw => ?_, fun hready hbad => ?_⟩
      · rw [fetchMiss_waits hready]
      · rw [fetchMiss_reads hready hu hbad hraw]
        exact fetched_decodes huok (huok.of_evolves (ev_setCore (Evolves.refl u))) ((CoreOnly.refl u k []).setCore _) (by rw [hcore]; rfl) (hcore ▸ hload) (hcore ▸ hgoing) (hcore ▸ hthawed)
      · exact fetchMiss_bad hready hu hbad
  · exact sigchk_passes hg.toSlotHeld hg.waiting hg.going hsig ▸ hg.next
  · exact sigchk_passes hg.toSlotHeld hg.waiting hg.going hsig ▸ hg.issues
  · rw [sigchk_fails hg.toSlotHeld hg.waiting hg.going hsig]
    refine ⟨(CoreOnly.refl s k []).sigFault _ _ _ _, ?_⟩
    rintro _ ⟨⟩
    exact State.sigFault_regs hs k _ _ j 9
  · exact sigchki_passes hg.toSlotHeld hg.waiting hg.going hsig ▸ hg.next
  · exact sigchki_passes hg.toSlotHeld hg.waiting hg.going hsig ▸ hg.issues
  · exact sigchki_fails hg.toSlotHeld hg.waiting hg.going hsig ▸ (CoreOnly.refl s k []).sigFault _ _ _ _
  · rw [endJob_passes hg.toSlotHeld hg.waiting hg.going hjob hfirst hsig]
    refine ⟨hg.issues, ?_⟩
    obtain ⟨_, ⟨⟩, hissued, -⟩ := hg.issues
    rintro _ ⟨⟩
    refine ⟨hissued.ended.trans (by rw [hend, Bool.or_true]), hissued.sig.trans (if_pos ?_)⟩
    exact List.any_eq_true.mpr ⟨.endJob, List.contains_iff_mem.mp hend, rfl⟩
  · exact endJob_fails hg.toSlotHeld hg.waiting hg.going hjob hfirst hsig ▸ (CoreOnly.refl s k []).sigFault _ _ _ _

end Sys2Proof.Machine

/-! PEEL REQUESTS. What a core that the core table lists twice holds of the Request Tag Table (R242, R471). -/
namespace Sys2Proof.Machine

/-- A transfer of 8 bytes from device memory to the Granary, not yet begun, one of whose requests is already out. -/
def heldTransfer : PeelEnt :=
  { kind := 0, src := 0, dst := 0, len := 8, cnt1 := 1, cnt2 := 1, ss1 := 0, ss2 := 0, ds1 := 0, ds2 := 0, en := false, tally := 0, zf := false, loc := false,
    st := 0, issued := 0, bundle := 0, since := 0, out := [], reqs := [(0, 1)] }

/-- A core with a job of partition 1 and that transfer at the head of LPEEL's queue. -/
def heldCore : CoreSt :=
  { CoreSt.reset with
    job := some { dt := 0, part := 1, sigEnd := 0, tallyCfg := 0, twin := false, err := 0 }
    lpeelQ := [heldTransfer] }

/-- Core 3 holds that core, in a core table whose keys do not rise. Partition 1 has its first window on, and the perception partition's
reserve leaves two entries of the Request Tag Table to the others. -/
def unsortedState : State :=
  { State.reset with
    regs := [(0x24014, 4094), (0x28184, 0x80000001)]
    cores := [(5, CoreSt.reset), (3, heldCore)] }

theorem unsortedState_ok : State.Ok unsortedState := ⟨by decide +kernel, rfl, State.reset_ok.phys⟩

/-- A request for the transfer's bytes may go out. -/
theorem unsortedState_ready : unsortedState.dramReady (.peel 3 0) 1 1 = true := by decide +kernel

/-- The step first puts core 3 back with the transfer begun, which lists it a second time: the request out counts twice, and no new one goes out. -/
theorem unsortedState_waits :
    (outState (exec (.peelTransferIssue 3 .lpeel (.ask 8) [] []) unsortedState) unsortedState).core 3 =
      { heldCore with lpeelQ := [{ heldTransfer with st := 1 }] } := by decide +kernel

/-- Refutes O55: nothing in State.Ok makes the keys of the core table rise. In unsortedState the issue's own write of the core takes up the room in the
Request Tag Table that was there before it, and the request that the clause on an LPEEL read has go out waits. -/
theorem not_peelTransfersMoveTheirBytes : ¬ Obligations.PeelTransfersMoveTheirBytes := by
  unfold Obligations.PeelTransfersMoveTheirBytes
  intro h
  obtain ⟨-, -, hissue, -⟩ := h unsortedState 3 .lpeel _ _ unsortedState_ok rfl rfl
  obtain ⟨hread, -⟩ := hissue [] [] heldTransfer _ _ 8 0 0 0 8 1 _ _ (by decide +kernel) (by decide +kernel) rfl rfl
    (fun _ => ⟨fun _ _ hen => absurd hen (by decide), by decide +kernel, by decide +kernel⟩)
    (by decide) (by decide) rfl (by decide) rfl rfl (by decide +kernel) (by decide) rfl rfl rfl
  obtain ⟨-, hready⟩ := hread rfl rfl rfl (by decide +kernel) rfl
  obtain ⟨t, hexec, hcore, -⟩ := hready unsortedState_ready
  have hwaits := unsortedState_waits
  rw [hexec] at hwaits
  exact absurd (hwaits.symm.trans hcore) (by decide +kernel)

end Sys2Proof.Machine

/-! THE CRASH RECORD AND THE SWEEP. The capture's two rows, the engine resets, and the end of the sweep (17_faults_and_recovery.md; R249, R402, R484,
R502, R624 to R638). -/
namespace Sys2Proof.Machine

-- THE CRASH RECORD

section
variable {s : State} {h : CrashHead}

/-- The capture's slot is the next one, and the record it held is gone (R625, R627). -/
theorem crashCaptureStart_takes (hcrash : s.reeve.crash = some h) (hnew : h.slot = none) (halive : s.reeve.alive = true)
    (hfrozen : ∀ k, k < s.nCores → (s.core k).frozen = true) : exec .crashCaptureStart s = .next
      ((if (Tbl.getD s.reeve.slots (s.get fCrNext) CrashSlot.empty).valid then s.bump kCrOverwrite else s).setReeve
        { s.reeve with crash := some { h with slot := some (s.get fCrNext) }, slots := Tbl.put s.reeve.slots (s.get fCrNext) CrashSlot.empty }) := by
  have hall : (List.range s.nCores).all (fun k => (s.core k).frozen) = true :=
    List.all_eq_true.mpr fun k hk => hfrozen k (List.mem_range.mp hk)
  change execCrashCaptureStart s = _
  unfold execCrashCaptureStart
  rw [hcrash]
  dsimp only
  rw [if_neg (by simp [hnew, halive, hall])]
  split <;> rfl

/-- Securing a record that no SRAM error damages. -/
theorem crashRecordSecure_secures {r : Recovery} {n : Nat} (hcrash : s.reeve.crash = some h) (hrec : s.reeve.recovery = some r) (hslot : h.slot = some n)
    (halive : s.reeve.alive = true) (read : Nat) (parity : Bool) (pc : BitVec 16) : exec (.crashRecordSecure read parity pc .clean) s = .next
      (((s.setReeve { s.reeve with crash := none, slots := Tbl.put s.reeve.slots n { bytes := s.crashRecord h r read parity pc, valid := true } }).put
        fCrNext (n + 1)).off fCapturing).startSweep := by
  change execCrashRecordSecure read parity pc .clean s = _
  unfold execCrashRecordSecure
  rw [hcrash, hrec]
  dsimp only
  rw [hslot]
  dsimp only
  rw [if_neg (by simp [halive])]
  exact if_pos halive

end

/-- The sweep that a secured record starts (R633). -/
def State.firstSweep (s : State) : Sweep :=
  { step := 2, core := 0, at_ := .engine .lpeel, waiting := false, failedOnce := false, started := s.tb.ticks, expired := false }

theorem State.startSweep_eq (s : State) : s.startSweep =
    ((s.setReeve { s.reeve with sweep := some s.firstSweep }).setReg kSweepStep (BitVec.ofNat 32 (Engine.lpeel.idx * 65536 + 0 * 256 + 2))).on fSweeping := rfl

theorem State.startSweep_only (s : State) : OnlyRegs (s.setReeve { s.reeve with sweep := some s.firstSweep }) s.startSweep [0x100000, kSweepStep] := by
  rw [s.startSweep_eq]
  exact ((State.setReg_onlyRegs _ kSweepStep _).mono (by simp)).trans ((State.put_onlyRegs _ fSweeping 1).mono (by simp [fSweeping]))

/-- What a start of the sweep shows. -/
theorem State.startSweep_shows {s : State} (hs : State.Ok s) : s.startSweep.flag fSweeping = true ∧
    ∀ f : Fld, f.key = 0x100000 → fSweeping.apart f = true → s.startSweep.get f = s.get f := by
  rw [s.startSweep_eq]
  have hu : State.Ok ((s.setReeve { s.reeve with sweep := some s.firstSweep }).setReg kSweepStep (BitVec.ofNat 32 (Engine.lpeel.idx * 65536 + 0 * 256 + 2))) :=
    hs.of_evolves (ev_setReg (ev_setReeve (Evolves.refl s)) _ _)
  exact ⟨State.flag_on_same hu rfl rfl, fun f hkey hf => (State.get_put_other hu 1 rfl hf).trans
    ((keepsRegs_setReg (s.setReeve _) kSweepStep _).get (by rw [hkey]; decide))⟩

-- ENGINE RESETS

section
variable {s : State} {k : Nat} {e : Engine} {w : Sweep}

theorem State.awaits_iff : s.awaits k e = some w ↔ s.reeve.sweep = some w ∧ w.step = 2 ∧ w.core = k ∧ w.at_ = .engine e ∧ s.reeve.alive = true := by
  unfold State.awaits
  cases s.reeve.sweep with
  | none => simp
  | some x =>
    dsimp only
    split
    · next hx => constructor
                 · rintro ⟨rfl⟩; exact ⟨rfl, hx⟩
                 · rintro ⟨hx', -⟩; exact hx'
    · next hx => constructor
                 · intro hn; cases hn
                 · rintro ⟨⟨rfl⟩, hx'⟩; exact absurd hx' hx

/-- A sweep in progress is shown in its register while supervision has not expired (R638). -/
theorem State.showSweep_only (s : State) (w : Sweep) : OnlyRegs (s.setReeve { s.reeve with sweep := some w }) (s.showSweep w) [kSweepStep] :=
  OnlyRegs.ite (OnlyRegs.refl _ _) (State.setReg_onlyRegs _ _ _)

theorem State.showSweep_rest (s : State) (w : Sweep) : s.showSweep w = { s with regs := (s.showSweep w).regs, reeve := { s.reeve with sweep := some w } } := by
  rw [(s.showSweep_only w).rest]; rfl

/-- What the sweep turns to after an engine's reset (R633). -/
def engineFollowed : Engine → SweepAt
  | .lpeel => .engine .speel
  | .speel => .engine .opa
  | .opa => .engine .vec
  | .vec => .engine .seq
  | .seq => .kat

theorem State.afterEngine_eq (s : State) (w : Sweep) (e : Engine) : s.afterEngine w e =
    (if e = .seq then s.poolReset w.core else s).showSweep { w with at_ := engineFollowed e, waiting := false } := by
  cases e <;> rfl

/-- The sweep has gone on from an engine of core k: of the cores, the Granary of core k alone may have changed. -/
structure SweptOn (s t : State) (k : Nat) (w : Sweep) : Prop where
  core : ∃ grn, t.core k = { s.core k with grn }
  others : ∀ i, i ≠ k → t.core i = s.core i
  reeve : t.reeve = { s.reeve with sweep := some w }
  ram : keepsRam s t
  rest : t = { s with regs := t.regs, cores := t.cores, reeve := t.reeve }

theorem State.afterEngine_swept (s : State) (w : Sweep) (e : Engine) : SweptOn s (s.afterEngine w e) w.core { w with at_ := engineFollowed e, waiting := false } := by
  rw [s.afterEngine_eq, State.showSweep_rest]
  split
  · exact ⟨⟨_, State.core_setCore_same s w.core _⟩, fun i hi => State.core_setCore_ne s hi _, rfl, fun _ => rfl, rfl⟩
  · exact ⟨⟨_, rfl⟩, fun _ _ => rfl, rfl, fun _ => rfl, rfl⟩

/-- A peel's reset leaves the cores alone where the sweep goes on. -/
theorem State.afterEngine_peel (s : State) (w : Sweep) (q : PeelId) : (s.afterEngine w q.engine).cores = s.cores := by
  rw [s.afterEngine_eq, State.showSweep_rest]
  cases q <;> rfl

end

section
variable {s : State} {k : CoreId} {e : Engine} {w : Sweep}

theorem engineReset_requests (haw : s.awaits k e = some w) (hnot : w.waiting = false) : exec (.engineReset k e) s = .next
    ((((if e = .lpeel then s.setE (s.physOf k) 40 else s).setCore k (((if e = .lpeel then s.setE (s.physOf k) 40 else s).core k).resetRequest e.idx)).dropCoreAsks k).showSweep
      { w with waiting := true }) := by
  change execEngineReset k e s = _
  unfold execEngineReset
  rw [haw]
  exact if_neg (by simp [hnot])

theorem engineResetDone_done (hreset : (s.core k).resetting.contains e.idx = true) (hretry : (s.core k).peelRetry.contains e.idx = false)
    (hdrained : (s.core k).drained e = true) : exec (.engineResetDone k e) s = .next ((s.setCore k ((s.core k).resetDone e.idx)).sweepOn k e) := by
  change execEngineResetDone k e s = _
  unfold execEngineResetDone
  exact if_pos (by rw [hreset, hretry, hdrained]; rfl)

/-- The sweep goes on where it waits for this engine. -/
theorem State.sweepOn_waiting (haw : s.awaits k e = some w) (hwait : w.waiting = true) : s.sweepOn k e = s.afterEngine w e := by
  unfold State.sweepOn; rw [haw]; exact if_pos hwait

/-- It stays where it waits for none. -/
theorem State.sweepOn_elsewhere (h : ∀ w, s.awaits k e = some w → w.waiting = false) : s.sweepOn k e = s := by
  unfold State.sweepOn
  split
  · next w haw => exact if_neg (by rw [h w haw]; decide)
  · rfl

theorem CoreSt.resetDone_resetting (c : CoreSt) (e : Nat) : (c.resetDone e).resetting = c.resetting.filter (· != e) ∧ (c.resetDone e).thawed = c.thawed ++ [e] := by
  unfold CoreSt.resetDone
  split
  · exact ⟨rfl, rfl⟩
  · split <;> exact ⟨rfl, rfl⟩

theorem CoreSt.resetRequest_lists (c : CoreSt) (e : Nat) : (c.resetRequest e).resetting = c.resetting.filter (· != e) ++ [e] ∧
    (c.resetRequest e).peelRetry = c.peelRetry.filter (· != e) := ⟨rfl, rfl⟩

theorem contains_filter_ne (l : List Nat) (e : Nat) : (l.filter (· != e)).contains e = false := by simp

end

-- PEELS THAT FAIL THEIR RESET

/-- The core with a peel whose reset has failed once. -/
def CoreSt.failedOnce (c : CoreSt) (e : Nat) : CoreSt := { c with peelFailed := c.peelFailed ++ [e], peelRetry := c.peelRetry ++ [e] }

/-- The state after the first FAILED: reported, counted, and the retry due (R637). -/
def State.peelReported (s : State) (k : CoreId) (q : PeelId) : State :=
  ((s.report 0x2601 (srcOf 0 k q.engine.idx) ((s.core k).outstanding q.idx % 64)).bump kPeelRetry).setCore k ((s.core k).failedOnce q.engine.idx)

section
variable {s : State} {k : CoreId} {q : PeelId} {us : Nat}
  (hreset : (s.core k).resetting.contains q.engine.idx = true) (hretry : (s.core k).peelRetry.contains q.engine.idx = false)
  (hout : (s.core k).outstanding q.idx ≠ 0) (hus : 12 ≤ us) (halive : s.reeve.alive = true)
include hreset hretry hout hus halive

/-- The second FAILED is a HELD cause, and the reset ends there (R637). -/
theorem peelResetFailed_again (hagain : (s.awaits k q.engine).elim ((s.core k).peelFailed.contains q.engine.idx) Sweep.failedOnce = true) :
    exec (.peelResetFailed k q us) s = .next (((s.heldFault 0x2601 (srcOf 0 k q.engine.idx) ((s.core k).outstanding q.idx % 64)).setCore k
      ((s.core k).resetDone q.engine.idx)).sweepOn k q.engine) := by
  change execPeelResetFailed k q us s = _
  unfold execPeelResetFailed
  dsimp only
  rw [if_neg (by rw [hreset, hretry]; simp [halive, hout, hus])]
  cases haw : s.awaits k q.engine <;> rw [haw] at hagain <;> exact if_pos hagain

/-- The first FAILED in a sweep (R637). -/
theorem peelResetFailed_sweep {w : Sweep} (haw : s.awaits k q.engine = some w) (hfirst : w.failedOnce = false) :
    exec (.peelResetFailed k q us) s = .next ((s.peelReported k q).setReeve { (s.peelReported k q).reeve with sweep := some { w with failedOnce := true } }) := by
  change execPeelResetFailed k q us s = _
  unfold execPeelResetFailed
  dsimp only
  rw [if_neg (by rw [hreset, hretry]; simp [halive, hout, hus]), haw]
  exact if_neg (ne_true_of_eq_false hfirst)

/-- The first FAILED of a peel in a partition reset (R637). -/
theorem peelResetFailed_partition (haw : s.awaits k q.engine = none) (hfirst : (s.core k).peelFailed.contains q.engine.idx = false) :
    exec (.peelResetFailed k q us) s = .next (s.peelReported k q) := by
  change execPeelResetFailed k q us s = _
  unfold execPeelResetFailed
  dsimp only
  rw [if_neg (by rw [hreset, hretry]; simp [halive, hout, hus]), haw]
  exact if_neg (ne_true_of_eq_false hfirst)

end

/-- Supervision that expires is a HELD cause, once (R638). -/
theorem sweepSupervisionExpiry_raises {s : State} {w : Sweep} {us : Nat} (hsweep : s.reeve.sweep = some w) (hnot : w.expired = false) (hus : 2500 ≤ us)
    (halive : s.reeve.alive = true) : exec (.sweepSupervisionExpiry us) s = .next
      ((s.heldFault 0xA401 (srcOf 9 0 0)).setReeve { (s.heldFault 0xA401 (srcOf 9 0 0)).reeve with sweep := some { w with expired := true } }) := by
  change execSweepSupervisionExpiry us s = _
  unfold execSweepSupervisionExpiry
  rw [hsweep]
  exact if_neg (by simp [hnot, hus, halive])

theorem sweepSupervisionExpiry_expired {s : State} {w : Sweep} {us : Nat} (hsweep : s.reeve.sweep = some w) (hexp : w.expired = true) :
    exec (.sweepSupervisionExpiry us) s = .next s := by
  change execSweepSupervisionExpiry us s = _
  unfold execSweepSupervisionExpiry
  rw [hsweep]
  exact if_pos (by simp [hexp])

theorem peelResetRetry_requests {s : State} {k : CoreId} {q : PeelId} {us : Nat} (hus : 40 ≤ us) (hretry : (s.core k).peelRetry.contains q.engine.idx = true)
    (halive : s.reeve.alive = true) : exec (.peelResetRetry k q us) s = .next (s.setCore k ((s.core k).resetRequest q.engine.idx)) := by
  change execPeelResetRetry k q us s = _
  unfold execPeelResetRetry
  exact if_pos (by rw [hretry, halive]; simp [hus])

-- WHAT THE ROWS LEAVE

section
variable {s : State} (hs : State.Ok s) (halive : s.reeve.alive = true)
include hs halive

omit hs in
theorem capture_taken {h : CrashHead} (hcrash : s.reeve.crash = some h) (hnew : h.slot = none) (hfrozen : ∀ k, k < s.nCores → (s.core k).frozen = true) :
    ∃ t, exec .crashCaptureStart s = .next t ∧
      t.reeve = { s.reeve with crash := some { h with slot := some (s.get fCrNext) }, slots := Tbl.put s.reeve.slots (s.get fCrNext) CrashSlot.empty } ∧
      ((Tbl.getD s.reeve.slots (s.get fCrNext) CrashSlot.empty).valid = true → t.reg kCrOverwrite = (s.bump kCrOverwrite).reg kCrOverwrite) ∧
      keepsRegs s t [kCrOverwrite] ∧ keepsRam s t ∧ t = { s with regs := t.regs, reeve := t.reeve } := by
  refine ⟨_, crashCaptureStart_takes hcrash hnew halive hfrozen, ?_⟩
  split
  · exact ⟨rfl, fun _ => rfl, keepsRegs_bump s kCrOverwrite, fun _ => rfl, rfl⟩
  · next hvalid => exact ⟨rfl, fun h => absurd h hvalid, fun _ _ => rfl, fun _ => rfl, rfl⟩

theorem record_secured {h : CrashHead} {r : Recovery} {n : Nat} (hcrash : s.reeve.crash = some h) (hrec : s.reeve.recovery = some r) (hslot : h.slot = some n)
    (read : Nat) (parity : Bool) (pc : BitVec 16) :
    ∃ (t : State) (w : Sweep), exec (.crashRecordSecure read parity pc .clean) s = .next t ∧
        Tbl.find t.reeve.slots n = some { bytes := s.crashRecord h r read parity pc, valid := true } ∧ t.reeve.crash = none ∧ t.get fCrNext = (n + 1) % 4 ∧
        t.flag fCapturing = false ∧ t.flag fSweeping = true ∧ t.reeve.sweep = some w ∧ w.step = 2 ∧ w.core = 0 ∧ w.at_ = .engine .lpeel ∧ w.waiting = false ∧
        t.reeve.recovery = s.reeve.recovery ∧ keepsRegs s t [0x100000, 0x100038, kSweepStep] ∧ keepsRam s t ∧ t = { s with regs := t.regs, reeve := t.reeve } := by
  have hexec := crashRecordSecure_secures hcrash hrec hslot halive read parity pc
  generalize hrv : ({ s.reeve with crash := none, slots := Tbl.put s.reeve.slots n { bytes := s.crashRecord h r read parity pc, valid := true } } : Reeve) = rv at hexec
  have hok : State.Ok (s.setReeve rv) := hs.of_evolves (ev_setReeve (Evolves.refl s))
  have hput := hok.put fCrNext (n + 1)
  have honly : OnlyRegs (s.setReeve rv) (((s.setReeve rv).put fCrNext (n + 1)).off fCapturing) [0x100000, 0x100038] :=
    ((State.put_onlyRegs _ fCrNext _).mono (by simp [fCrNext])).trans ((State.put_onlyRegs _ fCapturing 0).mono (by simp [fCapturing]))
  have hnext : (((s.setReeve rv).put fCrNext (n + 1)).off fCapturing).get fCrNext = (n + 1) % 4 :=
    (State.get_put_other hput 0 rfl rfl).trans (State.get_put_same _ fCrNext _ hok.regsKeyed rfl)
  have hoff : (((s.setReeve rv).put fCrNext (n + 1)).off fCapturing).flag fCapturing = false := State.flag_off_same hput rfl
  have huok : State.Ok (((s.setReeve rv).put fCrNext (n + 1)).off fCapturing) := hput.put fCapturing 0
  generalize ((s.setReeve rv).put fCrNext (n + 1)).off fCapturing = u at *
  have hstart := u.startSweep_only
  obtain ⟨hsweeping, hkept⟩ := State.startSweep_shows huok
  have hreeve : u.startSweep.reeve = { rv with sweep := some u.firstSweep } := by rw [hstart.rest, honly.rest]; rfl
  refine ⟨_, u.firstSweep, hexec, ?_, ?_, ?_, ?_, hsweeping, ?_, rfl, rfl, rfl, rfl, ?_, ?_, ?_, ?_⟩
  · rw [hreeve, ← hrv]; exact Tbl.find_put_same _ _ _
  · rw [hreeve, ← hrv]
  · exact (hstart.regs.get (by decide)).trans hnext
  · exact (congrArg (· != 0) (hkept fCapturing rfl rfl)).trans hoff
  · rw [hreeve]
  · rw [hreeve, ← hrv]
  · exact (honly.regs.mono (by simp)).trans (hstart.regs.mono (by simp))
  · exact fun a => (hstart.ram a).trans (honly.ram a)
  · rw [hstart.rest, honly.rest]; rfl

omit halive in
theorem reset_requested {k : CoreId} {e : Engine} {w : Sweep} (haw : s.awaits k e = some w) (hnot : w.waiting = false) :
    ∃ t, exec (.engineReset k e) s = .next t ∧ t.core k = (s.core k).resetRequest e.idx ∧ t.reeve.sweep = some { w with waiting := true } ∧
        (∀ i, i ≠ k.val → t.core i = s.core i) ∧ keepsRam s t ∧ t = { s with regs := t.regs, cores := t.cores, reeve := t.reeve, part := { s.part with asks := s.part.asks.filter (fun x => !(x.user.agent == k.val || x.user == .tallyCfg k.val)) } } := by
  have hexec := engineReset_requests haw hnot
  have hclock : ThrottleOnly s (if e = .lpeel then s.setE (s.physOf k) 40 else s) := by
    split
    · exact s.setE_throttle (hs.physOf_lt k) 40
    · exact ThrottleOnly.refl s
  generalize (if e = .lpeel then s.setE (s.physOf k) 40 else s) = u at *
  have hcore (i : Nat) : u.core i = s.core i := by rw [hclock.rest]; rfl
  rw [hcore, State.showSweep_rest] at hexec
  refine ⟨_, hexec, State.core_setCore_same u _ _, rfl, fun i hi => (State.core_setCore_ne u hi _).trans (hcore i), fun a => ?_, ?_⟩
  · change u.ramByte a = s.ramByte a
    rw [hclock.rest]; rfl
  · rw [hclock.rest]; rfl

end

section
variable {s : State} {k : CoreId} {e : Engine}
  (hreset : (s.core k).resetting.contains e.idx = true) (hretry : (s.core k).peelRetry.contains e.idx = false) (hdrained : (s.core k).drained e = true)
include hreset hretry hdrained

theorem reset_done_in_sweep {w : Sweep} (haw : s.awaits k e = some w) (hwait : w.waiting = true) :
    ∃ t, exec (.engineResetDone k e) s = .next t ∧
        (t.core k).resetting.contains e.idx = false ∧ (t.core k).thawed.contains e.idx = true ∧
        t.reeve.sweep = some { w with waiting := false, at_ := engineFollowed e } ∧
        (∀ i, i ≠ k.val → t.core i = s.core i) ∧ keepsRam s t ∧ t = { s with regs := t.regs, cores := t.cores, reeve := t.reeve } := by
  have hexec := engineResetDone_done hreset hretry hdrained
  have hcore : w.core = k.val := (State.awaits_iff.mp haw).2.2.1
  rw [State.sweepOn_waiting (s := s.setCore k _) haw hwait] at hexec
  have hswept := (s.setCore k ((s.core k).resetDone e.idx)).afterEngine_swept w e
  rw [hcore] at hswept
  obtain ⟨hresetting, hthawed⟩ := (s.core k).resetDone_resetting e.idx
  obtain ⟨grn, hgrn⟩ := hswept.core
  rw [State.core_setCore_same] at hgrn
  refine ⟨_, hexec, ?_, ?_, ?_, fun i hi => (hswept.others i hi).trans (State.core_setCore_ne s hi _), hswept.ram, ?_⟩
  · rw [hgrn]; dsimp only; rw [hresetting]; exact contains_filter_ne _ _
  · rw [hgrn]; dsimp only; rw [hthawed]; simp
  · rw [hswept.reeve, hcore]
  · rw [hswept.rest]; rfl

theorem reset_done_elsewhere (haw : ∀ w, s.awaits k e = some w → w.waiting = false) :
    ∃ t, exec (.engineResetDone k e) s = .next t ∧ t.core k = (s.core k).resetDone e.idx ∧ (∀ i, i ≠ k.val → t.core i = s.core i) ∧
      t = { s with cores := t.cores } := by
  have hexec := engineResetDone_done hreset hretry hdrained
  rw [State.sweepOn_elsewhere (s := s.setCore k _) haw] at hexec
  exact ⟨_, hexec, State.core_setCore_same s _ _, fun i hi => State.core_setCore_ne s hi _, rfl⟩

end

section
variable {s : State} {k : CoreId} {q : PeelId} {us : Nat}
  (hreset : (s.core k).resetting.contains q.engine.idx = true) (hretry : (s.core k).peelRetry.contains q.engine.idx = false)
  (hout : (s.core k).outstanding q.idx ≠ 0) (hus : 12 ≤ us) (halive : s.reeve.alive = true)

theorem State.peelReported_counts (hs : State.Ok s) : (s.peelReported k q).reg kPeelRetry = (s.bump kPeelRetry).reg kPeelRetry :=
  State.bump_reg_congr hs (t := s.report 0x2601 (srcOf 0 k q.engine.idx) ((s.core k).outstanding q.idx % 64)) (hs.of_evolves (ev_report (Evolves.refl s))) rfl

theorem State.peelReported_only : keepsRegs s (s.peelReported k q) [kPeelRetry] := keepsRegs_bump (s.report _ _ _) kPeelRetry

theorem State.peelReported_core : ((s.peelReported k q).core k).peelRetry.contains q.engine.idx = true ∧
    ((s.peelReported k q).core k).peelFailed.contains q.engine.idx = true := by
  unfold State.peelReported
  rw [State.core_setCore_same]
  simp [CoreSt.failedOnce]

include hreset hretry hout hus halive

theorem peel_fails_first_in_sweep (hs : State.Ok s) {w : Sweep} (haw : s.awaits k q.engine = some w) (hfirst : w.failedOnce = false) :
    ∃ t ev, exec (.peelResetFailed k q us) s = .next t ∧ ev.code = 0x2601 ∧ ev.disp = .report ∧
        (t.core k).peelRetry.contains q.engine.idx = true ∧ t.reg kPeelRetry = (s.bump kPeelRetry).reg kPeelRetry ∧ keepsRegs s t [kPeelRetry] ∧
        t.reeve = { s.reeve with events := s.reeve.events ++ [ev], sweep := some { w with failedOnce := true } } ∧ t = { s with regs := t.regs, cores := t.cores, reeve := t.reeve } :=
  ⟨_, _, peelResetFailed_sweep hreset hretry hout hus halive haw hfirst, rfl, rfl, State.peelReported_core.1, State.peelReported_counts hs,
    State.peelReported_only, rfl, rfl⟩

theorem peel_fails_first_in_partition (hs : State.Ok s) (haw : s.awaits k q.engine = none) (hfirst : (s.core k).peelFailed.contains q.engine.idx = false) :
    ∃ t ev, exec (.peelResetFailed k q us) s = .next t ∧ ev.code = 0x2601 ∧ ev.disp = .report ∧
        (t.core k).peelRetry.contains q.engine.idx = true ∧ (t.core k).peelFailed.contains q.engine.idx = true ∧
        t.reg kPeelRetry = (s.bump kPeelRetry).reg kPeelRetry ∧ keepsRegs s t [kPeelRetry] ∧ t.reeve = { s.reeve with events := s.reeve.events ++ [ev] } ∧
        t = { s with regs := t.regs, cores := t.cores, reeve := t.reeve } :=
  ⟨_, _, peelResetFailed_partition hreset hretry hout hus halive haw hfirst, rfl, rfl, State.peelReported_core.1, State.peelReported_core.2,
    State.peelReported_counts hs, State.peelReported_only, rfl, rfl⟩

theorem peel_fails_again_in_sweep {w : Sweep} (haw : s.awaits k q.engine = some w) (hagain : w.failedOnce = true) :
    ∃ t ev, exec (.peelResetFailed k q us) s = .next t ∧ ev.code = 0x2601 ∧ ev.disp = .held ∧
        t.core k = (s.core k).resetDone q.engine.idx ∧ t.reeve.events = s.reeve.events ++ [ev] ∧ keepsRam s t := by
  have hexec := peelResetFailed_again hreset hretry hout hus halive (by rw [haw]; exact hagain)
  obtain ⟨hsweep, hstep, hcore, hat, -⟩ := State.awaits_iff.mp haw
  generalize hinfo : (s.core k).outstanding q.idx % 64 = info at hexec
  have haw' : ((s.heldFault 0x2601 (srcOf 0 k q.engine.idx) info).setCore k ((s.core k).resetDone q.engine.idx)).awaits k q.engine = some w :=
    State.awaits_iff.mpr ⟨hsweep, hstep, hcore, hat, halive⟩
  cases hwait : w.waiting with
  | true =>
    rw [State.sweepOn_waiting haw' hwait] at hexec
    have hswept := ((s.heldFault 0x2601 (srcOf 0 k q.engine.idx) info).setCore k ((s.core k).resetDone q.engine.idx)).afterEngine_swept w q.engine
    have hcores := ((s.heldFault 0x2601 (srcOf 0 k q.engine.idx) info).setCore k ((s.core k).resetDone q.engine.idx)).afterEngine_peel w q
    refine ⟨_, { code := 0x2601, source := srcOf 0 k q.engine.idx, info := BitVec.ofNat 64 info, disp := .held }, hexec, rfl, rfl, ?_, ?_, hswept.ram⟩
    · rw [State.core, hcores]; exact State.core_setCore_same (s.heldFault 0x2601 (srcOf 0 k q.engine.idx) info) _ _
    · rw [hswept.reeve]; rfl
  | false =>
    rw [State.sweepOn_elsewhere (fun x hx => by rw [haw'] at hx; cases hx; exact hwait)] at hexec
    exact ⟨_, { code := 0x2601, source := srcOf 0 k q.engine.idx, info := BitVec.ofNat 64 info, disp := .held }, hexec, rfl, rfl, State.core_setCore_same (s.heldFault _ _ _) _ _, rfl, fun _ => rfl⟩

theorem peel_fails_again_in_partition (haw : s.awaits k q.engine = none) (hagain : (s.core k).peelFailed.contains q.engine.idx = true) :
    ∃ t ev, exec (.peelResetFailed k q us) s = .next t ∧ ev.code = 0x2601 ∧ ev.disp = .held ∧
        t.core k = (s.core k).resetDone q.engine.idx ∧ t.reeve = { s.reeve with events := s.reeve.events ++ [ev] } ∧ t = { s with cores := t.cores, reeve := t.reeve } := by
  have hexec := peelResetFailed_again hreset hretry hout hus halive (by rw [haw]; exact hagain)
  generalize (s.core k).outstanding q.idx % 64 = info at hexec
  have haw' : ((s.heldFault 0x2601 (srcOf 0 k q.engine.idx) info).setCore k ((s.core k).resetDone q.engine.idx)).awaits k q.engine = none := haw
  rw [State.sweepOn_elsewhere (fun x hx => by rw [haw'] at hx; cases hx)] at hexec
  exact ⟨_, { code := 0x2601, source := srcOf 0 k q.engine.idx, info := BitVec.ofNat 64 info, disp := .held }, hexec, rfl, rfl, State.core_setCore_same (s.heldFault _ _ _) _ _, rfl, rfl⟩

end

end Sys2Proof.Machine

/-! THE END OF THE SWEEP. Its steps, HELD at the end of a recovery, and the announcements (17_faults_and_recovery.md; R484, R502, R508, R514, R633). -/
namespace Sys2Proof.Machine

-- WHAT FOLLOWS THE SWEEP'S STEPS

theorem keepsRam.refl (s : State) : keepsRam s s := fun _ => rfl

theorem keepsRam.trans {r s t : State} (h : keepsRam r s) (g : keepsRam s t) : keepsRam r t := fun a => (g a).trans (h a)

theorem keepsRam.ite {r s t : State} {c : Prop} [Decidable c] (hthen : keepsRam r s) (helse : keepsRam r t) : keepsRam r (if c then s else t) :=
  iteInduction (motive := fun x => keepsRam r x) (fun _ => hthen) (fun _ => helse)

theorem keepsRam.foldl {α : Type} {f : State → α → State} (hf : ∀ s x, keepsRam s (f s x)) : ∀ (l : List α) {r s : State}, keepsRam r s →
    keepsRam r (l.foldl f s)
  | [], _, _, h => h
  | x :: l, _, s, h => keepsRam.foldl hf l (h.trans (hf s x))

theorem State.put_ram (s : State) (f : Fld) (n : Nat) : keepsRam s (s.put f n) := (s.put_onlyRegs f n).ram

theorem State.setReg_ram (s : State) (k : Nat) (v : Word) : keepsRam s (s.setReg k v) := (s.setReg_onlyRegs k v).ram

theorem State.setSession_ram (s : State) (p : Nat) (x : Sess) : keepsRam s (s.setSession p x) := fun _ => rfl

theorem State.setQm_ram (s : State) (x : Qm) : keepsRam s (s.setQm x) := fun _ => rfl

theorem State.releaseBufs_ram (s : State) (k : Nat) (f : Nat → BufRec → Bool) : keepsRam s (s.releaseBufs k f) := fun _ => rfl

theorem State.raise_ram (s : State) (e : FaultEvent) : keepsRam s (s.raise e) := fun _ => rfl

theorem State.setVeh_ram (s : State) (x : Vehicle) : keepsRam s (s.setVeh x) := fun _ => rfl

theorem State.withBoot_ram (s : State) (boot : Boot) : keepsRam s { s with boot } := fun _ => rfl

/-- A failed open is counted and logged, and the session is closed (R662). -/
def State.openCounted (s : State) (p : Nat) : State :=
  let s := ((s.setSession p { s.session p with pend := none }).bump (kOpenFails p)).violation 0x6201 (srcHost p)
  if s.get (fSecState p) = 1 then s.put (fSecState p) 0 else s

/-- The third in a row starts a lockout (R663). -/
def State.failNoted (s : State) (p : Nat) : State :=
  if s.get (fFails p) + 1 < 3 then s.put (fFails p) (s.get (fFails p) + 1)
  else ((s.setSession p { s.session p with lock := some (s.tb.ticks, 5 * 2 ^ s.get (fLockLevel p)) }).put (fFails p) 0).put (fLockLevel p)
    (min (s.get (fLockLevel p) + 1) 5)

theorem State.failedOpen_eq (s : State) (p : Nat) : s.failedOpen p = (s.openCounted p).failNoted p := rfl

theorem State.openCounted_ram (s : State) (p : Nat) : keepsRam s (s.openCounted p) := by
  have hcount : keepsRam s (((s.setSession p { s.session p with pend := none }).bump (kOpenFails p)).violation 0x6201 (srcHost p)) :=
    ((s.setSession_ram p { s.session p with pend := none }).trans (State.setReg_ram _ _ _)).trans (State.raise_ram _ _)
  unfold State.openCounted
  dsimp only
  split
  · exact hcount.trans (State.put_ram _ _ _)
  · exact hcount

theorem State.failNoted_ram (s : State) (p : Nat) : keepsRam s (s.failNoted p) := by
  unfold State.failNoted
  split
  · exact s.put_ram _ _
  · exact ((s.setSession_ram p _).trans (State.put_ram _ _ _)).trans (State.put_ram _ _ _)

theorem State.failedOpen_ram (s : State) (p : Nat) : keepsRam s (s.failedOpen p) := by
  rw [s.failedOpen_eq]
  exact (s.openCounted_ram p).trans (State.failNoted_ram _ p)

theorem State.stagingEnds_ram (s : State) : keepsRam s s.stagingEnds := by
  unfold State.stagingEnds
  dsimp only
  split
  · exact ((s.put_ram fUpdateState 0).trans (State.put_ram _ fUpdateKinds 0)).trans (State.withBoot_ram _ _)
  · exact s.withBoot_ram _

theorem State.canRearm_ram (s : State) : keepsRam s s.canRearm := by
  unfold State.canRearm
  split
  · exact ((s.put_ram (fCanFailed 0) 0).trans (State.put_ram _ (fCanState 0) 2)).trans (State.setVeh_ram _ _)
  · exact .refl s

theorem State.sessionReset_ram (s : State) (p : Nat) : keepsRam s (s.sessionReset p) := by
  have hclosed : keepsRam s ((((s.setSession p { s.session p with pend := none, kCmd := [], kRsp := [], mode := 0, verdict := 0, reason := 0 }).setReg64
    (kSecSeq p) 0).setReg (kSessId p) 0).put (fSecState p) 0) :=
    (((s.setSession_ram p _).trans (State.setReg64_onlyRegs _ _ _).ram).trans (State.setReg_ram _ _ _)).trans (State.put_ram _ _ _)
  unfold State.sessionReset
  dsimp only
  generalize (((s.setSession p { s.session p with pend := none, kCmd := [], kRsp := [], mode := 0, verdict := 0, reason := 0 }).setReg64
    (kSecSeq p) 0).setReg (kSessId p) 0).put (fSecState p) 0 = u at *
  have hstaged := hclosed.trans (.ite (c := p = 0) u.stagingEnds_ram (.refl u))
  exact .ite (hstaged.trans (State.canRearm_ram _)) hstaged

theorem State.sessionEnds_ram (s : State) (p : Nat) : keepsRam s (s.sessionEnds p) :=
  keepsRam.trans (.ite (s.failedOpen_ram p) (.refl s)) (State.sessionReset_ram _ p)

/-- What a partition reset's end does to the cores, the queues and the slots (R508, steps 4 to 6). -/
def State.resetDropped (s : State) (p : Nat) : State :=
  let s := (List.range 16).foldl (fun s k => s.releaseBufs k (fun _ r => r.part == p)) (s.setQm { s.qm with dt := s.qm.dt.filter (fun x => x.2.part != p) })
  let s := { s with cores := s.cores.map (fun (x : Nat × CoreSt) => if x.2.resetPart = some p then (x.1, { x.2 with resetPart := none }) else x) }
  let qs := s.qm.queues.map (fun (x : Nat × QueueSt) => if x.2.owner = p then (x.1, x.2.dropped) else x)
  let ct := s.qm.slots.map (fun (x : Nat × CtSlot) => if x.2.part = p ∧ x.2.state ≠ 0 then (x.1, CtSlot.reset) else x)
  s.setQm { s.qm with queues := qs, slots := ct }

/-- The registers that it clears where the partition's function was reset (R510). -/
def State.flrCleared (s : State) (p : Nat) : State :=
  if s.part.flr.contains p then
    ((s.setReg (kPart p 0x24) (regReset (kPart p 0x24))).setReg (kPart p 0x2C) (regReset (kPart p 0x2C))).setReg (ownN p 0x4800C) 0
  else s

/-- Its last steps: the balances, what is due, and the announcement (R508, R509). -/
def State.resetAnnounced (s : State) (p : Nat) : State :=
  let s := s.setPartCtl { s.part with bal := s.part.bal.filter (fun x => x.1 % 8 != p), flr := s.part.flr.filter (· != p) }
  let s := s.setPartCtl { s.part with recoverDue := s.part.recoverDue.filter (· != p), lostDue := Tbl.drop s.part.lostDue p }
  let s := s.off (fResetting p)
  if p = 0 then s else s.partEvent 0 4

theorem State.completeReset_eq (s : State) (p : Nat) :
    s.completeReset p = ((((s.resetDropped p).clearEvents p).sessionEnds p).flrCleared p).resetAnnounced p := rfl

theorem State.resetDropped_ram (s : State) (p : Nat) : keepsRam s (s.resetDropped p) := by
  have hbufs : keepsRam s ((List.range 16).foldl (fun s k => s.releaseBufs k (fun _ r => r.part == p)) (s.setQm { s.qm with dt := s.qm.dt.filter (fun x => x.2.part != p) })) :=
    keepsRam.foldl (f := fun s k => s.releaseBufs k (fun _ r => r.part == p)) (fun s k => s.releaseBufs_ram k _) (List.range 16) (s.setQm_ram _)
  unfold State.resetDropped
  generalize (List.range 16).foldl (fun s k => s.releaseBufs k (fun _ r => r.part == p)) (s.setQm { s.qm with dt := s.qm.dt.filter (fun x => x.2.part != p) }) = u at *
  exact hbufs.trans fun _ => rfl

theorem State.flrCleared_ram (s : State) (p : Nat) : keepsRam s (s.flrCleared p) :=
  .ite (((s.setReg_ram _ _).trans (State.setReg_ram _ _ _)).trans (State.setReg_ram _ _ _)) (.refl s)

theorem State.resetAnnounced_ram (s : State) (p : Nat) : keepsRam s (s.resetAnnounced p) := by
  have hevent (u : State) : keepsRam u (if p = 0 then u else u.partEvent 0 4) := .ite (.refl u) (u.partEvent_queuesKept 0 4).ram
  unfold State.resetAnnounced
  exact (((s.setPartCtl_queuesKept _).ram.trans (State.setPartCtl_queuesKept _ _).ram).trans (State.put_ram _ _ _)).trans (hevent _)

theorem State.completeReset_ram (s : State) (p : Nat) : keepsRam s (s.completeReset p) := by
  rw [s.completeReset_eq]
  have hclear (u : State) : keepsRam u (u.clearEvents p) := .foldl (f := fun s o => s.setReg (kPart p o) 0) (fun _ _ => State.setReg_ram _ _ _) _ (.refl u)
  exact (((s.resetDropped_ram p).trans (hclear _)).trans (State.sessionEnds_ram _ p)).trans ((State.flrCleared_ram _ p).trans (State.resetAnnounced_ram _ p))

/-- The slots that failed parity are logged (R611). -/
def State.badLogged (s : State) : State := (s.qm.slots.filter (fun x => x.2.bad)).foldl (fun s x => s.violation 0x4604 (srcQm 1) (leBytes 2 x.1)) s

/-- They are FREE. -/
def State.badFreed (s : State) : State :=
  s.setQm { s.qm with slots := s.qm.slots.map (fun (x : Nat × CtSlot) => if x.2.bad then (x.1, CtSlot.reset) else x) }

theorem foldl_violation_rest (f : Nat × CtSlot → List Byte) : ∀ (l : List (Nat × CtSlot)) (s : State),
    l.foldl (fun s x => s.violation 0x4604 (srcQm 1) (f x)) s = { s with reeve := (l.foldl (fun s x => s.violation 0x4604 (srcQm 1) (f x)) s).reeve }
  | [], _ => rfl
  | x :: l, s => foldl_violation_rest f l (s.violation 0x4604 (srcQm 1) (f x))

theorem State.badLogged_rest (s : State) : s.badLogged = { s with reeve := s.badLogged.reeve } := foldl_violation_rest _ _ s

theorem State.sweepQueues_eq (s : State) : s.sweepQueues = ((List.range 8).filter s.badLogged.inReset).foldl State.completeReset s.badLogged.badFreed := rfl

theorem State.sweepQueues_ram (s : State) : keepsRam s s.sweepQueues := by
  have hlog : keepsRam s s.badLogged := by rw [s.badLogged_rest]; exact fun _ => rfl
  rw [s.sweepQueues_eq]
  exact .foldl State.completeReset_ram _ (hlog.trans fun _ => rfl)

/-- Where no partition is being reset, step 3 leaves the queues, the Dispatch Table and the registers. -/
theorem State.sweepQueues_quiet {s : State} (h : ∀ p, p < 8 → s.inReset p = false) : ∃ reeve slots, s.sweepQueues = { s with reeve, qm := { s.qm with slots } } := by
  have hnone : (List.range 8).filter s.badLogged.inReset = [] := by
    refine List.filter_eq_nil_iff.mpr fun p hp => ?_
    rw [s.badLogged_rest]
    exact Bool.eq_false_iff.mp (h p (List.mem_range.mp hp))
  rw [s.sweepQueues_eq, hnone, List.foldl_nil, s.badLogged_rest]
  exact ⟨_, _, rfl⟩

-- THE FREEZE IS RELEASED

/-- A core whose freeze is released (R633, step 5). -/
def State.thawedAt (s : State) (k : Nat) : State := s.setCore k { s.core k with frozen := false, thawed := [] }

theorem foldl_thawedAt_rest : ∀ (l : List Nat) (s : State), l.foldl State.thawedAt s = { s with cores := (l.foldl State.thawedAt s).cores }
  | [], _ => rfl
  | k :: l, s => foldl_thawedAt_rest l (s.thawedAt k)

theorem foldl_thawedAt_frozen {i : Nat} : ∀ {l : List Nat} {s : State}, i ∈ l ∨ (s.core i).frozen = false → ((l.foldl State.thawedAt s).core i).frozen = false
  | [], _, h => h.resolve_left List.not_mem_nil
  | k :: _, s, h => by
    have hthawed (hik : i = k) : ((s.thawedAt k).core i).frozen = false := by rw [hik, State.thawedAt, State.core_setCore_same]
    refine foldl_thawedAt_frozen (s := s.thawedAt k) (h.elim (fun hi => (List.mem_cons.mp hi).elim (fun hik => .inr (hthawed hik)) .inl) fun hfrozen => .inr ?_)
    by_cases hik : i = k
    · exact hthawed hik
    · rwa [State.thawedAt, State.core_setCore_ne _ hik]

/-- The sweep's registers at its end (R633, R638). -/
def State.durationShown (s : State) (w : Sweep) (us : Word) : State := if w.expired then s.setReg 0x100018 us else (s.setReg 0x100018 us).setReg kSweepStep 0

theorem State.durationShown_only (s : State) (w : Sweep) (us : Word) : OnlyRegs s (s.durationShown w us) [0x100018, kSweepStep] :=
  have hus := (s.setReg_onlyRegs 0x100018 us).mono (ls := [0x100018, kSweepStep]) (by simp)
  OnlyRegs.ite hus (hus.trans ((State.setReg_onlyRegs _ kSweepStep 0).mono (by simp)))

theorem State.sweepEnd_eq (s : State) (w : Sweep) : ∃ us, s.sweepEnd w =
    (((((List.range s.nCores).foldl State.thawedAt s).durationShown w us).setReeve
      { (((List.range s.nCores).foldl State.thawedAt s).durationShown w us).reeve with sweep := none }).off fSweeping).settleAll := ⟨_, rfl⟩

/-- What the end of a sweep leaves (R633, step 5). -/
structure SweepEnded (s t : State) : Prop where
  reeve : t.reeve = { s.reeve with sweep := none }
  sweeping : t.flag fSweeping = false
  kept : ∀ f : Fld, f.key = 0x100000 → fSweeping.apart f = true → t.get f = s.get f
  frozen : ∀ k, k < s.nCores → (t.core k).frozen = false
  rest : t = { s with regs := t.regs, cores := t.cores, reeve := t.reeve }

theorem State.sweepEnd_ended {s : State} (hs : State.Ok s) (w : Sweep) : SweepEnded s (s.sweepEnd w) := by
  obtain ⟨us, hend⟩ := s.sweepEnd_eq w
  have hcores := foldl_thawedAt_rest (List.range s.nCores) s
  have hfrozen (k : Nat) (hk : k < s.nCores) : (((List.range s.nCores).foldl State.thawedAt s).core k).frozen = false :=
    foldl_thawedAt_frozen (.inl (List.mem_range.mpr hk))
  rw [hend]
  generalize (List.range s.nCores).foldl State.thawedAt s = u at *
  have huok : State.Ok u := by rw [hcores]; exact ⟨hs.regs, hs.dram, hs.phys⟩
  have hget (f : Fld) : u.get f = s.get f := by rw [hcores]; rfl
  have hshown := u.durationShown_only w us
  have hvok : State.Ok (u.durationShown w us) :=
    have hev := ev_setReg (Evolves.refl u) 0x100018 us
    huok.of_evolves (ev_ite hev (ev_setReg hev kSweepStep 0))
  generalize u.durationShown w us = v at *
  have hrok : State.Ok (v.setReeve { v.reeve with sweep := none }) := hvok.of_evolves (ev_setReeve (Evolves.refl v))
  have hclocks : ThrottleOnly ((v.setReeve { v.reeve with sweep := none }).off fSweeping) ((v.setReeve { v.reeve with sweep := none }).off fSweeping).settleAll :=
    State.settleAll_throttle (hrok.put fSweeping 0).phys
  have hrest : (v.setReeve { v.reeve with sweep := none }).off fSweeping = { s with
      regs := ((v.setReeve { v.reeve with sweep := none }).off fSweeping).regs, cores := u.cores, reeve := { s.reeve with sweep := none } } := by
    rw [hshown.rest, hcores]; rfl
  refine ⟨?_, ?_, fun f hkey hf => ?_, fun k hk => ?_, ?_⟩
  · rw [hclocks.rest, hrest]
  · exact (congrArg (· != 0) (hclocks.get (f := fSweeping) (.inr (by decide)))).trans (State.flag_off_same hrok rfl)
  · exact (hclocks.get (.inr (by rw [hkey]; decide))).trans ((State.get_put_other hrok 0 rfl hf).trans
      ((hshown.regs.get (by rw [hkey]; decide)).trans (hget f)))
  · rw [State.core, hclocks.rest, hrest]
    exact hfrozen k hk
  · rw [hclocks.rest, hrest]

-- LOST RECORDS

theorem foldl_loseJob_rest (code : Nat) : ∀ (l : List (Nat × DtEnt)) (s : State),
    l.foldl (fun s x => s.loseJob code x.1 x.2) s = { s with qm := (l.foldl (fun s x => s.loseJob code x.1 x.2) s).qm }
  | [], _ => rfl
  | x :: l, s => foldl_loseJob_rest code l (s.loseJob code x.1 x.2)

/-- The record of a lost job says so, with the cause (R484). -/
theorem State.lostRecord_says (s : State) (i : Nat) (e : DtEnt) (code : Nat) : (s.lostRecord i e code).status = 3 ∧ (s.lostRecord i e code).code = code := by
  unfold State.lostRecord
  split <;> exact ⟨rfl, rfl⟩

-- HELD AT THE END

/-- HELD shows in the mode, and touches neither the Reeve's own state, nor the cores, nor the partitions'. -/
structure HeldKept (s t : State) : Prop where
  mode : t.mode = 2
  kept : ∀ f : Fld, f.key = 0x100000 → fReeveMode.apart f = true → fFaultNLow.apart f = true → t.get f = s.get f
  rest : t = { s with regs := t.regs, veh := t.veh, emitted := t.emitted }

/-- The mode becomes 2 with the Reeve alive or not. -/
theorem State.heldMode_kept {s : State} (hs : State.Ok s) : HeldKept s (if s.reeve.alive then s.setMode 2 else (s.put fReeveMode 2).on fFaultNLow) := by
  split
  · have hmode := State.setMode_taken hs (m := 2) (by decide)
    exact ⟨hmode.mode, hmode.kept, by rw [hmode.only.rest]⟩
  · have hput := hs.put fReeveMode 2
    exact ⟨(State.get_put_other hput 1 rfl rfl).trans (State.get_put_same s fReeveMode 2 hs.regsKeyed rfl),
      fun f _ hm hl => (State.get_put_other hput 1 rfl hl).trans (State.get_put_other hs 2 rfl hm), rfl⟩

theorem State.toHeld_kept {s : State} (hs : State.Ok s) (code : Nat) : HeldKept s (s.toHeld code) := by
  have hcause := s.heldCause_only code
  have hcok : State.Ok (s.heldCause code) := hs.of_evolves (ev_heldCause (Evolves.refl s))
  unfold State.toHeld
  dsimp only
  generalize s.heldCause code = u at *
  have hmode := State.heldMode_kept hcok
  generalize (if u.reeve.alive then u.setMode 2 else (u.put fReeveMode 2).on fFaultNLow) = v at *
  have hrest : v = { s with regs := v.regs, veh := v.veh, emitted := v.emitted } := by rw [hmode.rest, hcause.rest]
  have hkept (f : Fld) (hkey : f.key = 0x100000) (hm : fReeveMode.apart f = true) (hl : fFaultNLow.apart f = true) : v.get f = s.get f :=
    (hmode.kept f hkey hm hl).trans (hcause.regs.get (by rw [hkey]; decide))
  split
  · exact ⟨hmode.mode, hkept, hrest⟩
  · have hget (f : Fld) (hkey : f.key = 0x100000) : v.heldEvents.get f = v.get f :=
      congrArg f.ofWord (by rw [hkey]; exact foldl_partEvent_keeps reeveStatus_not_eventKey _ _)
    obtain ⟨-, hevents⟩ := v.heldEvents_only
    exact ⟨(hget fReeveMode rfl).trans hmode.mode, fun f hkey hm hl => (hget f hkey).trans (hkept f hkey hm hl), by rw [hevents, hrest]⟩

-- RECOVERED, AND THE RESETS THAT WERE HELD

/-- What the announcements after a sweep, and the partition resets that they let start, keep. -/
structure SweepKept (s t : State) : Prop where
  status : t.reg 0x100000 = s.reg 0x100000
  reeve : t.reeve = s.reeve
  ram : keepsRam s t
  frozen : ∀ k, (t.core k).frozen = (s.core k).frozen
  bal : t.part.bal = s.part.bal
  regs : t.part.regs = s.part.regs

theorem SweepKept.refl (s : State) : SweepKept s s := ⟨rfl, rfl, .refl s, fun _ => rfl, rfl, rfl⟩

theorem SweepKept.trans {r s t : State} (h : SweepKept r s) (g : SweepKept s t) : SweepKept r t :=
  ⟨g.status.trans h.status, g.reeve.trans h.reeve, h.ram.trans g.ram, fun k => (g.frozen k).trans (h.frozen k), g.bal.trans h.bal, g.regs.trans h.regs⟩

theorem SweepKept.ite {r s t : State} {c : Prop} [Decidable c] (hthen : SweepKept r s) (helse : SweepKept r t) : SweepKept r (if c then s else t) :=
  iteInduction (motive := fun x => SweepKept r x) (fun _ => hthen) (fun _ => helse)

theorem SweepKept.foldl {α : Type} {f : State → α → State} (hf : ∀ s x, SweepKept s (f s x)) : ∀ (l : List α) {r s : State}, SweepKept r s →
    SweepKept r (l.foldl f s)
  | [], _, _, h => h
  | x :: l, _, s, h => SweepKept.foldl hf l (h.trans (hf s x))

theorem SignalOnly.sweepKept {s t : State} {ks : List Nat} (h : SignalOnly s t ks) (hk : 0x100000 ∉ ks) : SweepKept s t := by
  have hreg := h.regs _ hk
  rw [h.rest] at hreg ⊢
  exact ⟨hreg, rfl, fun _ => rfl, fun _ => rfl, rfl, rfl⟩

theorem State.partEvent_sweepKept (s : State) (p b : Nat) : SweepKept s (s.partEvent p b) := (s.partEvent_only p b).sweepKept (reeveStatus_not_eventKey s p)

theorem State.setPartCtl_sweepKept (s : State) {c : PartCtl} (hbal : c.bal = s.part.bal) (hregs : c.regs = s.part.regs) : SweepKept s (s.setPartCtl c) :=
  ⟨rfl, rfl, fun _ => rfl, fun _ => rfl, hbal, hregs⟩

theorem State.setGrn_sweepKept (s : State) (k : Nat) (g : Granary) : SweepKept s (s.setGrn k g) := by
  refine ⟨rfl, rfl, fun _ => rfl, fun i => ?_, rfl, rfl⟩
  by_cases hik : i = k
  · rw [hik, State.setGrn, State.core_setCore_same]
  · rw [State.setGrn, State.core_setCore_ne _ hik]

theorem State.freeSave_sweepKept (s : State) (e : DtEnt) : SweepKept s (s.freeSave e) := by
  unfold State.freeSave
  split
  · exact s.setGrn_sweepKept _ _
  · exact .refl s

theorem State.freeDt_sweepKept (s : State) (i : Nat) : SweepKept s (s.freeDt i) := ⟨rfl, rfl, fun _ => rfl, fun _ => rfl, rfl, rfl⟩

theorem CoreSt.resetRequest_frozen (c : CoreSt) (e : Nat) : (c.resetRequest e).frozen = c.frozen := by
  change (c.engineReset e).frozen = c.frozen
  unfold CoreSt.engineReset
  dsimp only
  split
  · rfl
  · split
    · rfl
    · split
      · rfl
      · split <;> rfl

theorem CoreSt.abandon_frozen (c : CoreSt) (p : Nat) : (c.abandon p).frozen = c.frozen := by
  unfold CoreSt.abandon
  split
  · split
    · simp only [List.foldl, CoreSt.resetRequest_frozen]
    · rfl
  · rfl

theorem Tbl.getD_map {α β : Type} (f : α → β) (k : Nat) (d : α) : ∀ m : Tbl α, Tbl.getD (m.map fun x => (x.1, f x.2)) k (f d) = f (Tbl.getD m k d)
  | [] => rfl
  | (k', v) :: m => by
    have ih := Tbl.getD_map f k d m
    simp only [Tbl.getD, List.map_cons, Tbl.find] at ih ⊢
    split
    · rfl
    · exact ih

theorem State.startReset_sweepKept (s : State) (p : Nat) : SweepKept s (s.startReset p) := by
  have hon : SweepKept s (s.on (fResetting p)) :=
    ⟨State.reg_put_ne s (fResetting p) 1 (by simp [fResetting]), rfl, State.put_ram _ _ _, fun _ => rfl, rfl, rfl⟩
  have hasks := hon.trans (State.setPartCtl_sweepKept (s.on (fResetting p)) (c := ((s.on (fResetting p)).dropAsks (fun x => x.part == p)).part) rfl rfl)
  have hcores (u : State) : SweepKept u { u with cores := u.cores.map (fun (x : Nat × CoreSt) => (x.1, x.2.abandon p)) } :=
    ⟨rfl, rfl, fun _ => rfl, fun k => (congrArg CoreSt.frozen (Tbl.getD_map (CoreSt.abandon · p) k CoreSt.reset u.cores)).trans (CoreSt.abandon_frozen _ p), rfl, rfl⟩
  exact SweepKept.foldl (f := fun (u : State) (x : Nat × DtEnt) => if x.2.saved.isSome && x.2.part == p then (u.freeSave x.2).freeDt x.1 else u)
    (fun u x => .ite ((u.freeSave_sweepKept x.2).trans (State.freeDt_sweepKept _ x.1)) (.refl u)) _ (hasks.trans (hcores _))

theorem State.startHeld_sweepKept (s : State) : SweepKept s s.startHeld :=
  SweepKept.foldl State.startReset_sweepKept _ (s.setPartCtl_sweepKept rfl rfl)

theorem State.recovered_sweepKept (s : State) (p : Nat) : SweepKept s (s.recovered p) :=
  have hevent := (s.setPartCtl_sweepKept (c := { s.part with recoverDue := s.part.recoverDue.filter (· != p) }) rfl rfl).trans (State.partEvent_sweepKept _ p 1)
  .ite (.ite (hevent.trans (State.startHeld_sweepKept _)) hevent) (.refl s)

-- THE SWEEP'S END

/-- Steps 3 to 5, with the records of the lost jobs (R484, R633). -/
def State.swept (s : State) (w : Sweep) (r : Recovery) : State :=
  let s := s.sweepQueues.sweepPartitions.sweepEnd w
  let s := s.qm.dt.foldl (fun s x => s.loseJob r.cause.toNat x.1 x.2) s
  s.setReeve { s.reeve with recovery := some { r with swept := true } }

/-- A recovery that ends in HELD does so (R93). -/
def State.heldOf (s : State) (r : Recovery) : State := if r.heldAtEnd then s.toHeld r.cause.toNat else s

/-- RECOVERED of every partition that waits for no LOST record (R502). -/
def State.announced (s : State) : State := s.part.recoverDue.foldl (fun s p => if s.lostPending p then s else s.recovered p) s

/-- With none left to announce, the held partition resets start (R514). -/
def State.resetsReleased (s : State) : State := if s.part.recoverDue = [] then s.startHeld else s

theorem sweepComplete_ends {s : State} {w : Sweep} {r : Recovery} (hsweep : s.reeve.sweep = some w) (hrec : s.reeve.recovery = some r) (hstep : w.step = 3)
    (halive : s.reeve.alive = true) : exec .sweepComplete s = .next ((s.swept w r).heldOf r).announced.resetsReleased := by
  change execSweepComplete s = _
  unfold execSweepComplete
  rw [hsweep, hrec]
  exact if_neg (by simp [hstep, halive])

/-- What the sweep's steps leave (R484, R633). -/
structure SweptState (s t : State) (r : Recovery) : Prop where
  sweep : t.reeve.sweep = none
  recovery : t.reeve.recovery = some { r with swept := true }
  sweeping : t.flag fSweeping = false
  frozen : ∀ k, k < s.nCores → (t.core k).frozen = false
  bal : t.part.bal = []
  used : ∀ x ∈ t.part.regs, x.2.used = []
  ram : keepsRam s t

theorem State.swept_swept {s : State} (hs : State.Ok s) (w : Sweep) (r : Recovery) : SweptState s (s.swept w r) r := by
  have hqev : Evolves s s.sweepQueues := ev_sweepQueues (Evolves.refl s)
  have hqok : State.Ok s.sweepQueues.sweepPartitions := ⟨hqev.regs hs.regs, hqev.dram hs.dram, (hs.of_evolves hqev).phys⟩
  have hram := s.sweepQueues_ram
  have hcores : s.sweepQueues.nCores = s.nCores := congrArg Grade.cores hqev.grade
  unfold State.swept
  generalize s.sweepQueues = u at *
  have hended := State.sweepEnd_ended hqok w
  have hused : ∀ x ∈ u.sweepPartitions.part.regs, x.2.used = [] := by
    intro x hx
    obtain ⟨y, -, rfl⟩ := List.mem_map.mp hx
    rfl
  generalize hpart : u.sweepPartitions.sweepEnd w = v at *
  have hlost := foldl_loseJob_rest r.cause.toNat v.qm.dt v
  dsimp only
  generalize v.qm.dt.foldl (fun s x => s.loseJob r.cause.toNat x.1 x.2) v = x at *
  refine ⟨?_, rfl, ?_, fun k hk => ?_, ?_, ?_, fun a => ?_⟩
  · change x.reeve.sweep = none
    rw [hlost, hended.reeve]
  · change x.flag fSweeping = false
    rw [hlost]; exact hended.sweeping
  · change (x.core k).frozen = false
    rw [hlost]; exact hended.frozen k (hcores.symm ▸ hk)
  · change x.part.bal = []
    rw [hlost, hended.rest]; rfl
  · change ∀ y ∈ x.part.regs, y.2.used = []
    rw [hlost, hended.rest]; exact hused
  · change x.ramByte a = s.ramByte a
    rw [hlost, hended.rest]; exact hram a

theorem State.announced_kept (s : State) : SweepKept s s.announced :=
  SweepKept.foldl (f := fun (s : State) (p : Nat) => if s.lostPending p then s else s.recovered p) (fun u p => .ite (.refl u) (u.recovered_sweepKept p)) _ (.refl s)

theorem State.resetsReleased_kept (s : State) : SweepKept s s.resetsReleased := .ite s.startHeld_sweepKept (.refl s)

section
variable {s : State} (hs : State.Ok s) (halive : s.reeve.alive = true) {w : Sweep} {r : Recovery}
  (hsweep : s.reeve.sweep = some w) (hrec : s.reeve.recovery = some r) (hstep : w.step = 3)
include hs halive hsweep hrec hstep

theorem sweep_completes : ∃ t, exec .sweepComplete s = .next t ∧ t.reeve.sweep = none ∧
      t.reeve.recovery = some { r with swept := true } ∧ t.flag fSweeping = false ∧ (∀ k, k < s.nCores → (t.core k).frozen = false) ∧ t.part.bal = [] ∧
      (∀ x ∈ t.part.regs, x.2.used = []) ∧ (r.heldAtEnd = true → t.mode = 2) ∧ keepsRam s t := by
  have hexec := sweepComplete_ends hsweep hrec hstep halive
  have hswept := State.swept_swept hs w r
  have hok : State.Ok (s.swept w r) := hs.of_evolves (ev_setReeve (ev_foldl (fun _ _ => ev_loseJob (Evolves.refl _)) _ (ev_sweepEnd (ev_sweepPartitions (ev_sweepQueues (Evolves.refl s))))))
  generalize s.swept w r = u at *
  have hheld : (r.heldAtEnd = true → (u.heldOf r).mode = 2) ∧ (u.heldOf r).flag fSweeping = u.flag fSweeping ∧
      u.heldOf r = { u with regs := (u.heldOf r).regs, veh := (u.heldOf r).veh, emitted := (u.heldOf r).emitted } := by
    unfold State.heldOf
    split
    · have hkept := State.toHeld_kept hok r.cause.toNat
      exact ⟨fun _ => hkept.mode, congrArg (· != 0) (hkept.kept fSweeping rfl rfl rfl), hkept.rest⟩
    · next hnot => exact ⟨fun h => absurd h hnot, rfl, rfl⟩
  obtain ⟨hmode, hflag, hrest⟩ := hheld
  generalize u.heldOf r = v at *
  have hkept := v.announced_kept.trans v.announced.resetsReleased_kept
  generalize v.announced.resetsReleased = t at *
  have hget (f : Fld) (hkey : f.key = 0x100000) : t.get f = v.get f := congrArg f.ofWord (by rw [hkey]; exact hkept.status)
  have hreeve : t.reeve = u.reeve := by rw [hkept.reeve, hrest]
  have hpart : v.part = u.part := by rw [hrest]
  refine ⟨t, hexec, hreeve ▸ hswept.sweep, hreeve ▸ hswept.recovery, ?_, fun k hk => ?_, ?_, ?_, fun hend => ?_, ?_⟩
  · exact ((congrArg (· != 0) (hget fSweeping rfl)).trans hflag).trans hswept.sweeping
  · rw [hkept.frozen k, State.core, hrest]; exact hswept.frozen k hk
  · rw [hkept.bal, hpart]; exact hswept.bal
  · rw [hkept.regs, hpart]; exact hswept.used
  · exact (hget fReeveMode rfl).trans (hmode hend)
  · refine (hswept.ram.trans fun a => ?_).trans hkept.ram
    rw [hrest]; rfl

end

-- A SWEEP WITHOUT PARTITION RESETS

theorem State.startHeld_none {s : State} (h : s.part.heldResets = []) : s.startHeld = s := by
  have hpart : ({ s.part with heldResets := [] } : PartCtl) = s.part := by rw [← h]
  unfold State.startHeld
  rw [h, List.foldl_nil, hpart]
  rfl

/-- What one partition's announcement leaves where no reset is held. -/
theorem State.recovered_due {s : State} {p : Nat} (hheld : s.part.heldResets = []) (hdue : s.part.recoverDue.contains p = true) :
    s.recovered p = (s.setPartCtl { s.part with recoverDue := s.part.recoverDue.filter (· != p) }).partEvent p 1 := by
  have hpart : ((s.setPartCtl { s.part with recoverDue := s.part.recoverDue.filter (· != p) }).partEvent p 1).part.heldResets = [] := by
    rw [(State.partEvent_only _ p 1).rest]
    exact hheld
  refine (if_pos hdue).trans ?_
  dsimp only
  rw [State.startHeld_none hpart, ite_self]

theorem State.lostPending_congr {s t : State} (h : t.qm.queues = s.qm.queues) (p : Nat) : t.lostPending p = s.lostPending p := by
  rw [State.lostPending, State.lostPending, h]

/-- One step of the announcements. -/
def State.announceOne (s : State) (p : Nat) : State := if s.lostPending p then s else s.recovered p

theorem foldl_announceOne : ∀ {l : List Nat} {s : State}, State.Ok s → (∀ p, s.lostPending p = false) → s.part.heldResets = [] → (∀ p ∈ l, p < 8) →
    (∀ q, q < 8 → (q ∈ l ∧ q ∈ s.part.recoverDue) ∨ s.flag (fPartEvent q 1) = true → (l.foldl State.announceOne s).flag (fPartEvent q 1) = true) ∧
    (l.foldl State.announceOne s).part.recoverDue = s.part.recoverDue.filter (fun q => !l.contains q) ∧ (l.foldl State.announceOne s).part.heldResets = []
  | [], s, _, _, hheld, _ => ⟨fun q _ h => h.resolve_left fun hq => List.not_mem_nil hq.1, (List.filter_eq_self.mpr fun _ _ => rfl).symm, hheld⟩
  | p :: l, s, hs, hlost, hheld, hl => by
    have hp : p < 8 := hl p List.mem_cons_self
    have hstep : s.announceOne p = s.recovered p := if_neg (by rw [hlost]; decide)
    rw [List.foldl_cons, hstep]
    cases hdue : s.part.recoverDue.contains p with
    | false =>
      have hsame : s.recovered p = s := if_neg (by rw [hdue]; decide)
      have hnot : p ∉ s.part.recoverDue := fun hmem => by simp [hmem] at hdue
      rw [hsame]
      obtain ⟨hflags, hrest, hnone⟩ := foldl_announceOne hs hlost hheld (fun q hq => hl q (List.mem_cons_of_mem p hq))
      refine ⟨fun q hq h => hflags q hq ?_, hrest.trans (List.filter_congr fun q hq => ?_), hnone⟩
      · rcases h with ⟨hmem, hqdue⟩ | hflag
        · exact .inl ⟨(List.mem_cons.mp hmem).resolve_left fun hqp => hnot (hqp ▸ hqdue), hqdue⟩
        · exact .inr hflag
      · have hne : q ≠ p := fun hqp => hnot (hqp ▸ hq)
        simp [hne]
    | true =>
      rw [State.recovered_due hheld hdue]
      have hok : State.Ok (s.setPartCtl { s.part with recoverDue := s.part.recoverDue.filter (· != p) }) := hs.of_evolves (ev_setPartCtl (Evolves.refl s))
      have hevent := State.partEvent_only (s.setPartCtl { s.part with recoverDue := s.part.recoverDue.filter (· != p) }) p 1
      have hset := State.partEvent_flag hok hp (b := 1) (by decide)
      have hstays {q : Nat} (hq : q < 8) := State.partEvent_stays hok (p := p) hq (b := 1) (by decide)
      have hnok := hok.of_evolves (ev_partEvent (p := p) (b := 1) (Evolves.refl _))
      generalize (s.setPartCtl { s.part with recoverDue := s.part.recoverDue.filter (· != p) }).partEvent p 1 = u at *
      have hpart : u.part = { s.part with recoverDue := s.part.recoverDue.filter (· != p) } := by rw [hevent.rest]; rfl
      have hqueues : u.qm.queues = s.qm.queues := by rw [hevent.rest]; rfl
      obtain ⟨hflags, hrest, hnone⟩ := foldl_announceOne hnok (fun q => (State.lostPending_congr hqueues q).trans (hlost q)) (by rw [hpart]; exact hheld)
        (fun q hq => hl q (List.mem_cons_of_mem p hq))
      refine ⟨fun q hq h => hflags q hq ?_, hrest.trans ?_, hnone⟩
      · rcases h with ⟨hmem, hqdue⟩ | hflag
        · by_cases hqp : q = p
          · exact .inr (hqp ▸ hset)
          · exact .inl ⟨(List.mem_cons.mp hmem).resolve_left hqp, by rw [hpart]; simp [hqdue, hqp]⟩
        · exact .inr (hstays hq hflag)
      · rw [hpart, List.filter_filter]
        exact List.filter_congr fun q _ => by by_cases hqp : q = p <;> simp [hqp]

/-- The queues, the Dispatch Table and what is due to the partitions, after the sweep's steps where no partition is being reset. -/
structure QuietEnd (s t : State) : Prop where
  queues : t.qm.queues = s.qm.queues
  table : t.qm.dt = s.qm.dt
  due : t.part.recoverDue = s.part.recoverDue
  held : t.part.heldResets = s.part.heldResets
  mode : t.mode = s.mode

theorem State.sweepEnd_quiet {s : State} (hs : State.Ok s) (hquiet : ∀ p, p < 8 → s.inReset p = false) (w : Sweep) :
    State.Ok (s.sweepQueues.sweepPartitions.sweepEnd w) ∧ QuietEnd s (s.sweepQueues.sweepPartitions.sweepEnd w) := by
  obtain ⟨reeve, slots, hqueues⟩ := State.sweepQueues_quiet hquiet
  have hok : State.Ok s.sweepQueues.sweepPartitions := hs.of_evolves (ev_sweepPartitions (ev_sweepQueues (Evolves.refl s)))
  have hended := State.sweepEnd_ended hok w
  have hmode : s.sweepQueues.sweepPartitions.mode = s.mode := by rw [hqueues]; rfl
  refine ⟨hok.of_evolves (ev_sweepEnd (Evolves.refl _)), ?_, ?_, ?_, ?_, (hended.kept fReeveMode rfl rfl).trans hmode⟩
  · rw [hended.rest, hqueues]; rfl
  · rw [hended.rest, hqueues]; rfl
  · rw [hended.rest, hqueues]; rfl
  · rw [hended.rest, hqueues]; rfl

section
variable {s : State} (hs : State.Ok s) (halive : s.reeve.alive = true) {w : Sweep} {r : Recovery}
  (hsweep : s.reeve.sweep = some w) (hrec : s.reeve.recovery = some r) (hstep : w.step = 3) (hend : r.heldAtEnd = false)
  (hheld : s.part.heldResets = []) (hquiet : ∀ p, p < 8 → s.inReset p = false)
include hs halive hsweep hrec hstep hend hheld hquiet

theorem sweep_announces (hdt : s.qm.dt = []) (hlost : ∀ p, s.lostPending p = false) (hdue : ∀ p ∈ s.part.recoverDue, p < 8) :
    ∃ t, exec .sweepComplete s = .next t ∧ (∀ p ∈ s.part.recoverDue, t.flag (fPartEvent p 1) = true) ∧ t.part.recoverDue = [] ∧ t.mode = s.mode := by
  have hexec := sweepComplete_ends hsweep hrec hstep halive
  obtain ⟨hok, hq⟩ := State.sweepEnd_quiet hs hquiet w
  have hnolost : s.swept w r = (s.sweepQueues.sweepPartitions.sweepEnd w).setReeve
      { (s.sweepQueues.sweepPartitions.sweepEnd w).reeve with recovery := some { r with swept := true } } := by
    unfold State.swept
    dsimp only
    rw [hq.table, hdt, List.foldl_nil]
  have hstay : (s.swept w r).heldOf r = s.swept w r := if_neg (by rw [hend]; decide)
  rw [hstay, hnolost] at hexec
  generalize s.sweepQueues.sweepPartitions.sweepEnd w = u at *
  have hrok : State.Ok (u.setReeve { u.reeve with recovery := some { r with swept := true } }) := hok.of_evolves (ev_setReeve (Evolves.refl u))
  have hmode : (u.setReeve { u.reeve with recovery := some { r with swept := true } }).mode = s.mode := hq.mode
  have hqueues : (u.setReeve { u.reeve with recovery := some { r with swept := true } }).qm.queues = s.qm.queues := hq.queues
  have hpdue : (u.setReeve { u.reeve with recovery := some { r with swept := true } }).part.recoverDue = s.part.recoverDue := hq.due
  have hpheld : (u.setReeve { u.reeve with recovery := some { r with swept := true } }).part.heldResets = [] := hq.held.trans hheld
  generalize u.setReeve { u.reeve with recovery := some { r with swept := true } } = v at *
  obtain ⟨hflags, hrest, hnone⟩ := foldl_announceOne (l := v.part.recoverDue) hrok (fun p => (State.lostPending_congr hqueues p).trans (hlost p)) hpheld
    (by rw [hpdue]; exact hdue)
  have hall : v.announced.part.recoverDue = [] := hrest.trans (List.filter_eq_nil_iff.mpr fun q hq => by simp [hq])
  have hlast : v.announced.resetsReleased = v.announced := (if_pos hall).trans (State.startHeld_none hnone)
  rw [hlast] at hexec
  refine ⟨_, hexec, fun p hp => hflags p (hdue p hp) (.inl ?_), hall, (congrArg fReeveMode.ofWord v.announced_kept.status).trans hmode⟩
  rw [hpdue]
  exact ⟨hp, hp⟩

theorem sweep_loses {i : Nat} {e : DtEnt} (hdt : s.qm.dt = [(i, e)]) (hdue : s.part.recoverDue = []) :
    ∃ (t : State) (x : Rec), exec .sweepComplete s = .next t ∧ x.status = 3 ∧ x.code = r.cause.toNat ∧
      (t.queue e.queue).jobs = ((s.queue e.queue).setJob e.pos (fun y => { y with at_ := .done x })).jobs ∧
      (t.queue e.queue).state = (if (s.queue e.queue).isFrame then (s.queue e.queue).state else 2) := by
  have hexec := sweepComplete_ends hsweep hrec hstep halive
  obtain ⟨-, hq⟩ := State.sweepEnd_quiet hs hquiet w
  have hstay : (s.swept w r).heldOf r = s.swept w r := if_neg (by rw [hend]; decide)
  have hone : s.swept w r = ((s.sweepQueues.sweepPartitions.sweepEnd w).loseJob r.cause.toNat i e).setReeve
      { ((s.sweepQueues.sweepPartitions.sweepEnd w).loseJob r.cause.toNat i e).reeve with recovery := some { r with swept := true } } := by
    unfold State.swept
    dsimp only
    rw [hq.table, hdt]
    rfl
  rw [hstay, hone] at hexec
  generalize s.sweepQueues.sweepPartitions.sweepEnd w = u at *
  have hqueue : u.queue e.queue = s.queue e.queue := congrArg (Tbl.getD · e.queue QueueSt.reset) hq.queues
  obtain ⟨hstatus, hcode⟩ := u.lostRecord_says i e r.cause.toNat
  have hlost : (u.loseJob r.cause.toNat i e).queue e.queue = (if (s.queue e.queue).isFrame then
      (s.queue e.queue).setJob e.pos (fun y => { y with at_ := .done (u.lostRecord i e r.cause.toNat) }) else
      { (s.queue e.queue).setJob e.pos (fun y => { y with at_ := .done (u.lostRecord i e r.cause.toNat) }) with state := 2, haltCode := r.cause.toNat }) := by
    rw [← hqueue]
    exact State.queue_setQueue_same (s := u) e.queue _
  have hpart : (u.loseJob r.cause.toNat i e).part = u.part := rfl
  generalize u.lostRecord i e r.cause.toNat = x at *
  generalize u.loseJob r.cause.toNat i e = v at *
  have hnone : (v.setReeve { v.reeve with recovery := some { r with swept := true } }).part.recoverDue = [] := by
    change v.part.recoverDue = []
    rw [hpart, hq.due, hdue]
  have hnoheld : (v.setReeve { v.reeve with recovery := some { r with swept := true } }).part.heldResets = [] := by
    change v.part.heldResets = []
    rw [hpart, hq.held, hheld]
  have hvq : (v.setReeve { v.reeve with recovery := some { r with swept := true } }).queue e.queue = v.queue e.queue := rfl
  generalize v.setReeve { v.reeve with recovery := some { r with swept := true } } = y at *
  have hann : y.announced = y := by unfold State.announced; rw [hnone, List.foldl_nil]
  have hrel : y.resetsReleased = y := (if_pos hnone).trans (State.startHeld_none hnoheld)
  rw [hann, hrel] at hexec
  refine ⟨y, x, hexec, hstatus, hcode, ?_, ?_⟩
  · rw [hvq, hlost]; split <;> rfl
  · rw [hvq, hlost]; split <;> rfl

end

/-- Settles O39: the capture's two rows, the engine resets with their retries, the end of the sweep and its supervision, each by its own rule above. -/
theorem captureAndSweepRunToTheirEnd : Obligations.CaptureAndSweepRunToTheirEnd := by
  unfold Obligations.CaptureAndSweepRunToTheirEnd
  intro s hs halive
  refine ⟨fun h hcrash hnew hfrozen => capture_taken halive hcrash hnew hfrozen,
    fun h r n read parity pc hcrash hrec hslot => record_secured hs halive hcrash hrec hslot read parity pc,
    fun k e w haw => ⟨reset_requested hs haw, fun hwait hreset hretry hdrained => ?_⟩,
    fun k e hreset hretry hdrained haw => reset_done_elsewhere hreset hretry hdrained haw,
    fun k q us hreset hretry hout hus => ⟨fun w haw hfirst => peel_fails_first_in_sweep hreset hretry hout hus halive hs haw hfirst,
      fun w haw hagain => peel_fails_again_in_sweep hreset hretry hout hus halive haw hagain,
      fun haw hagain => peel_fails_again_in_partition hreset hretry hout hus halive haw hagain⟩,
    fun k q us hreset hout hus haw hretry hfirst => peel_fails_first_in_partition hreset hretry hout hus halive hs haw hfirst,
    fun k q us hus hretry => ?_, fun w r hsweep hrec hstep hend hheld hquiet => ⟨fun hdt hlost hdue => ?_, fun i e hdt hdue => ?_⟩,
    fun w r hsweep hrec hstep => sweep_completes hs halive hsweep hrec hstep, fun us w hsweep hnot hus => ?_⟩
  · obtain ⟨t, hexec, hgone, hthawed, hnext, hrest⟩ := reset_done_in_sweep hreset hretry hdrained haw hwait
    refine ⟨t, hexec, hgone, hthawed, hnext.trans ?_, hrest⟩
    cases e <;> rfl
  · refine ⟨_, peelResetRetry_requests hus hretry halive, ?_⟩
    rw [State.core_setCore_same]
    obtain ⟨hresetting, hretries⟩ := (s.core k).resetRequest_lists q.engine.idx
    exact ⟨by rw [hretries]; exact contains_filter_ne _ _, by rw [hresetting]; simp, rfl⟩
  · obtain ⟨t, hexec, hsweepNone, hrecovery, hflag, hfrozen, -, -, -, hram⟩ := sweep_completes hs halive hsweep hrec hstep
    obtain ⟨t', hexec', hevents, hnone, hmode⟩ := sweep_announces hs halive hsweep hrec hstep hend hheld hquiet hdt hlost hdue
    cases hexec.symm.trans hexec'
    exact ⟨t, hexec, hsweepNone, hrecovery, hflag, hfrozen, hevents, hnone, hmode, hram⟩
  · obtain ⟨t, hexec, -, -, hflag, -⟩ := sweep_completes hs halive hsweep hrec hstep
    obtain ⟨t', x, hexec', hlost⟩ := sweep_loses hs halive hsweep hrec hstep hend hheld hquiet hdt hdue
    cases hexec.symm.trans hexec'
    exact ⟨t, x, hexec, hflag, hlost⟩
  · exact ⟨_, _, sweepSupervisionExpiry_raises hsweep hnot hus halive, rfl, rfl, rfl, sweepSupervisionExpiry_expired rfl rfl⟩

end Sys2Proof.Machine

/-! DISPATCH AND RETIREMENT. The head's descriptor, the job on its core and its record, and the Reeve's clearance (13_queues_and_dispatch.md; R90, R91, R235,
R454 to R466). -/
namespace Sys2Proof.Machine

-- THE HEAD'S DESCRIPTOR

/-- What becomes of a descriptor that has been read: a candidate, or a rejection (R454). -/
def State.headTaken (s : State) (q : BitVec 16) (x : QueueSt) (j : QJob) (d : Desc) : Out :=
  match s.descFault x j d with
  | some code => .next (s.rejectJob q.toNat j.pos code (some d))
  | none => .next ((s.joinPair x.owner j d).setQueue q.toNat (x.setJob j.pos (fun j => { j with at_ := .waiting (some d) })))

/-- The request for it, and the read (R454, R517). -/
def State.headAsked (s : State) (q : BitVec 16) (x : QueueSt) (j : QJob) (a : Nat) : Out :=
  match s.dramAsk (.descriptor q.toNat) x.owner (linesOf a 64) with
  | (false, s) => .next s
  | (true, s) =>
    match s.ramRead .queueManager a 64 with
    | (_, true, s) => .next s
    | (bs, false, s) => s.headTaken q x j (Desc.ofBytes bs)

theorem State.headAsked_waits {s : State} {q : BitVec 16} {x : QueueSt} {j : QJob} {a : Nat}
    (hready : s.dramReady (.descriptor q.toNat) x.owner (linesOf a 64) = false) :
    s.headAsked q x j a = .next (s.dramWait (.descriptor q.toNat) x.owner (linesOf a 64)) := by
  unfold State.headAsked
  rw [State.dramAsk_waits s hready]

theorem State.headAsked_reads {s u : State} {q : BitVec 16} {x : QueueSt} {j : QJob} {a : Nat} {d : Desc}
    (hu : u = s.dramTake (.descriptor q.toNat) x.owner (linesOf a 64)) (hready : s.dramReady (.descriptor q.toNat) x.owner (linesOf a 64) = true)
    (hgood : s.badIn a 64 = none) (hd : d = Desc.ofBytes (s.ramBytes a 64)) : s.headAsked q x j a = u.headTaken q x j d := by
  have hclean : u.badIn a 64 = none := by rw [hu, State.dramTake_badIn]; exact hgood
  have hbytes : u.ramBytes a 64 = s.ramBytes a 64 := by rw [hu, State.dramTake_ramBytes]
  unfold State.headAsked
  rw [State.dramAsk_ready s hready, ← hu]
  dsimp only
  rw [State.ramRead_clean hclean, hbytes]
  dsimp only
  rw [← hd]

section
variable {s : State} {q : BitVec 16} {ecc : Ecc} {x : QueueSt} {j : QJob} {a : Nat}
  (hx : s.queue q.toNat = x) (hhead : x.head = some j) (hrun : x.state = 1) (hreset : s.inReset x.owner = false) (hnew : j.at_ = .waiting none)
include hx hhead hrun hreset hnew

theorem descriptorFetch_uncorrectable : exec (.descriptorFetch q .uncorrectable) s = .next (s.jobFault 0x3201 (srcQm 0)) := by
  change execDescriptorFetch q .uncorrectable s = _
  unfold execDescriptorFetch
  rw [hx]
  extract_lets y
  rw [show y.head = some j from hhead]
  refine (if_neg (by simp [y, hrun, hreset, hnew])).trans ?_
  extract_lets
  exact if_pos rfl

section
variable (ha : x.ring + 64 * j.slot = a) (hecc : ecc ≠ .uncorrectable) (hok : s.jobOk x.owner a 64 false = true)
include ha hecc hok

/-- The request of a new head's descriptor (R454, R517). -/
theorem descriptorFetch_asks : exec (.descriptorFetch q ecc) s = s.headAsked q x j a := by
  change execDescriptorFetch q ecc s = _
  unfold execDescriptorFetch
  rw [hx]
  extract_lets y
  rw [show y.head = some j from hhead]
  refine (if_neg (by simp [y, hrun, hreset, hnew])).trans ?_
  rw [show y.ring + 64 * j.slot = a from ha]
  exact (if_neg hecc).trans (if_neg (by simp [y, hok]))

end
end
-- A CANDIDATE, OR A REJECTION

theorem State.joinPair_rest (s : State) (p : Nat) (j : QJob) (d : Desc) : s.joinPair p j d = { s with qm := { s.qm with pairs := (s.joinPair p j d).qm.pairs } } :=
  iteInduction (motive := fun x : State => x = { s with qm := { s.qm with pairs := x.qm.pairs } }) (fun _ => rfl) fun _ => rfl

theorem State.joinPair_single {s : State} {p : Nat} {d : Desc} (h : s.isTwin p d = false) (j : QJob) : s.joinPair p j d = s := if_pos (by rw [h]; rfl)

theorem State.isTwin_congr {s t : State} (h : t.reg 0x28000 = s.reg 0x28000) (p : Nat) (d : Desc) : t.isTwin p d = s.isTwin p d := by
  have hperc : t.perc = s.perc := congrArg fPerc.ofWord h
  rw [State.isTwin, State.isTwin, hperc]

theorem State.dramTake_isTwin (s : State) (u : DramUser) (p n q : Nat) (d : Desc) : (s.dramTake u p n).isTwin q d = s.isTwin q d :=
  State.isTwin_congr (s.dramTake_keepsRegs u p n _ (by simp [kLines, kPart]; omega)) q d

theorem State.setQueue_others {s u : State} (hqueues : u.qm.queues = s.qm.queues) {q p : Nat} (hp : p ≠ q) (x : QueueSt) : (u.setQueue q x).queue p = s.queue p :=
  (State.queue_setQueue_ne u hp x).trans (congrArg (Tbl.getD · p QueueSt.reset) hqueues)

section
variable {s u : State} {q : BitVec 16} {x : QueueSt} {j : QJob} {d : Desc} (hqm : u.qm = s.qm)
include hqm

/-- A descriptor that passes its checks becomes a candidate (R454). -/
theorem State.headTaken_passes (htwin : u.isTwin x.owner d = s.isTwin x.owner d) (hpass : u.descFault x j d = none) : ∃ t, u.headTaken q x j d = .next t ∧
    t.queue q.toNat = x.setJob j.pos (fun y => { y with at_ := .waiting (some d) }) ∧ (∀ p, p ≠ q.toNat → t.queue p = s.queue p) ∧
    t.qm.pairs = (u.joinPair x.owner j d).qm.pairs ∧ (s.isTwin x.owner d = false → t.qm.pairs = s.qm.pairs) ∧ t = { u with qm := t.qm } := by
  have hjoin := u.joinPair_rest x.owner j d
  unfold State.headTaken
  rw [hpass]
  refine ⟨_, rfl, State.queue_setQueue_same _ _ _, fun p hp => State.setQueue_others ?_ hp _, rfl, fun hsingle => ?_, ?_⟩
  · rw [hjoin, hqm]
  · change (u.joinPair x.owner j d).qm.pairs = s.qm.pairs
    rw [State.joinPair_single (htwin.trans hsingle), hqm]
  · rw [hjoin]; rfl

/-- One that fails is recorded REJECTED with the code (R454, R466). -/
theorem State.headTaken_rejects {code : Nat} (hx : s.queue q.toNat = x) (hnow : u.now = s.now) (hfault : u.descFault x j d = some code) : ∃ (t : State) (r : Rec),
    u.headTaken q x j d = .next t ∧ r.status = 2 ∧ r.code = code ∧ r.dt = none ∧
    t.queue q.toNat = x.setJob j.pos (fun y => { y with at_ := .done { r with elapsedUs := min ((s.now - y.submit) / 1000) 0xFFFFFFFF } }) ∧
    (∀ p, p ≠ q.toNat → t.queue p = s.queue p) ∧ t = { u with qm := t.qm } := by
  have huq : u.queue q.toNat = x := (congrArg (fun m : Qm => Tbl.getD m.queues q.toNat QueueSt.reset) hqm).trans hx
  unfold State.headTaken State.rejectJob
  rw [hfault, huq, ← hnow]
  exact ⟨_, j.rejection u.now code (some d), rfl, rfl, rfl, rfl, State.queue_setQueue_same _ _ _,
    fun p hp => State.setQueue_others (congrArg Qm.queues hqm) hp _, rfl⟩

end

-- THE JOB ON ITS CORE

/-- The job of candidate c is placed on core k (R229, R463). -/
structure JobPlaced (u t : State) (k : CoreId) (c : Cand) : Prop where
  job : ∃ job : CoreJob, (t.core k).job = some job ∧ job.dt = u.dtFree ∧ job.part = (u.queue c.queue).owner ∧ job.err = 0
  pc : (t.core k).pc = c.desc.program
  args : getS (t.core k).s 1 = c.desc.args
  core : getS (t.core k).s 3 = BitVec.ofNat 64 k
  bundle : (t.core k).bundle = none
  entry : ∃ e : DtEnt, Tbl.find t.qm.dt u.dtFree = some e ∧ e.queue = c.queue ∧ e.pos = c.job.pos ∧ e.core = k.val ∧ e.saved = none
  disp : (t.queue c.queue).disp = (u.queue c.queue).disp + 1
  others : ∀ i, i ≠ k.val → t.core i = u.core i
  rest : t = { u with cores := t.cores, qm := t.qm, part := t.part }

/-- The Dispatch Table entry and the job of a candidate (R463). -/
def State.entryOf (u : State) (k : CoreId) (c : Cand) : DtEnt :=
  { queue := c.queue, pos := c.job.pos, part := (u.queue c.queue).owner, core := k, desc := c.desc, frame := c.job.markFrame c.desc, submit := c.job.submit,
    preempted := false, saved := none }

def State.jobOf (u : State) (c : Cand) : CoreJob :=
  { dt := u.dtFree, part := (u.queue c.queue).owner, sigEnd := c.desc.sigEnd, tallyCfg := c.desc.tallyCfg, twin := c.desc.twinId != 0, err := 0 }

/-- The queue's side of a dispatch: the entry, and the descriptor on its way. -/
def State.queuePlaced (u : State) (k : CoreId) (c : Cand) : State :=
  (u.setDt u.dtFree (u.entryOf k c)).setQueue c.queue
    { (u.queue c.queue).setJob c.job.pos (fun j => { j with at_ := .placed u.dtFree }) with disp := (u.queue c.queue).disp + 1 }

theorem State.placeJob_eq (u : State) (k : CoreId) (c : Cand) : ∃ s2, u.placeJob k c = ((u.queuePlaced k c).setCore k
    (((u.queuePlaced k c).core k).started (u.jobOf c) c.desc.program c.desc.args s2 k (u.queuePlaced k c).wdogWindows (u.queuePlaced k c).peelTimeout)).occupy k := ⟨_, rfl⟩

theorem State.core_occupy (s : State) (k i : Nat) : (s.occupy k).core i = s.core i := rfl

theorem State.placeJob_placed (u : State) (k : CoreId) (c : Cand) : JobPlaced u (u.placeJob k c) k c := by
  obtain ⟨s2, hplace⟩ := u.placeJob_eq k c
  have hentry : Tbl.find (u.queuePlaced k c).qm.dt u.dtFree = some (u.entryOf k c) := Tbl.find_put_same _ _ _
  have hdisp : ((u.queuePlaced k c).queue c.queue).disp = (u.queue c.queue).disp + 1 := congrArg QueueSt.disp (State.queue_setQueue_same _ _ _)
  have hrest : u.queuePlaced k c = { u with qm := (u.queuePlaced k c).qm } := rfl
  rw [hplace]
  generalize u.queuePlaced k c = v at *
  have hcore := State.core_setCore_same v k ((v.core k).started (u.jobOf c) c.desc.program c.desc.args s2 k v.wdogWindows v.peelTimeout)
  refine ⟨?_, ?_, ?_, ?_, ?_, ⟨_, hentry, rfl, rfl, rfl, rfl⟩, hdisp, fun i hi => ?_, ?_⟩
  · refine ⟨u.jobOf c, ?_, by simp only [State.jobOf], by simp only [State.jobOf], by simp only [State.jobOf]⟩
    rw [State.core_occupy, hcore]; rfl
  · rw [State.core_occupy, hcore]; rfl
  · rw [State.core_occupy, hcore]; simp [CoreSt.started, getS]
  · rw [State.core_occupy, hcore]; simp [CoreSt.started, getS]
  · rw [State.core_occupy, hcore]; rfl
  · rw [State.core_occupy, State.core_setCore_ne v hi, hrest]; rfl
  · rw [hrest]; rfl

section
variable {s u : State} {k : CoreId} {c : Cand}

theorem jobDispatch_starts (hheld : s.isHeld = false) (hopen : s.fenced = false) (hawake : s.asleep = false) (hfree : s.coreFree k = true)
    (hpick : s.rejectForgotten.pick k = (some c, u)) (hnew : c.pre = none) : exec (.jobDispatch k) s = .next (u.startJob k c) := by
  change execJobDispatch k s = _
  unfold execJobDispatch
  refine (if_neg (by rw [hheld]; decide)).trans ((if_neg (by rw [hopen, hawake, hfree]; decide)).trans ?_)
  extract_lets s'
  rw [show s'.pick k = _ from hpick]
  exact if_neg (by rw [hnew]; decide)

theorem jobDispatch_fenced (hheld : s.isHeld = false) (hclosed : s.fenced = true) : exec (.jobDispatch k) s = .next s := by
  change execJobDispatch k s = _
  unfold execJobDispatch
  exact (if_neg (by rw [hheld]; decide)).trans (if_pos (by rw [hclosed]; rfl))

theorem State.startJob_plain (h : u.argsWord c = []) : u.startJob k c = u.placeJob k c := by
  unfold State.startJob
  exact if_pos h

/-- The intake word and the fold word have 16 bytes (R457, R602). -/
theorem State.argsWord_length (u : State) (c : Cand) : (u.argsWord c).length ≤ 16 := by
  unfold State.argsWord
  split
  · simp [leBytes_length]
  · split
    · split <;> simp [leBytes_length]
    · simp

theorem State.argsDrawn_rest (u : State) (c : Cand) : ∃ draws, u.argsDrawn c = { u with draws } := by
  unfold State.argsDrawn
  split
  · exact ⟨_, rfl⟩
  · exact ⟨_, rfl⟩

theorem State.startJob_word {a : Nat} (ha : c.desc.args.toNat = a) (hword : u.argsWord c ≠ []) (hok : u.jobOk (u.candPart c) a 16 true = true)
    (hready : u.dramReady (.intake c.queue) (u.candPart c) (linesOf a 16) = true) : u.startJob k c =
      ((((u.dramTake (.intake c.queue) (u.candPart c) (linesOf a 16)).argsDrawn c).ramWrite .queueManager a (u.argsWord c)).placeJob k c) := by
  unfold State.startJob
  rw [ha]
  refine (if_neg hword).trans ((if_neg (by rw [hok]; decide)).trans ?_)
  rw [State.dramAsk_ready u hready]

end

end Sys2Proof.Machine

/-! WRITES TO GOOD BLOCKS. The word that a dispatch leaves at ARGS (R457, R602). -/
namespace Sys2Proof.Machine

-- A WRITE TO GOOD BLOCKS

theorem putBytes_append : ∀ (bs cs : List Byte) (m : List Host.Cell) (a : Nat), putBytes m a (bs ++ cs) = putBytes (putBytes m a bs) (a + bs.length) cs
  | [], _, _, _ => rfl
  | b :: bs, cs, m, a => by
    rw [List.cons_append, putBytes, putBytes_append bs cs, putBytes, List.length_cons, Nat.add_assoc, Nat.add_comm 1]

/-- Every block that the n bytes from a on touch is without an uncorrectable error. -/
def State.goodBlocks (s : State) (a n : Nat) : Prop := ∀ b, a / 64 ≤ b → b * 64 < a + n → Tbl.find s.dramBad b = none

theorem State.goodBlocks_of_badIn {s : State} {a n : Nat} (h : s.badIn a n = none) : s.goodBlocks a n := by
  intro b hlo hhi
  have hmem : b * 64 ∈ (List.range ((a + n + 63) / 64 - a / 64)).map (fun i => (a / 64 + i) * 64) :=
    List.mem_map.mpr ⟨b - a / 64, List.mem_range.mpr (by omega), by rw [Nat.add_sub_cancel' hlo]⟩
  have hgood := List.find?_eq_none.mp h _ hmem
  simpa [State.ramBad] using hgood

/-- A write inside one good block puts its bytes. -/
theorem State.ramWriteBlock_good {s : State} {a : Nat} (who : Agent) (bs : List Byte) (h : Tbl.find s.dramBad (a / 64) = none) :
    ∃ bad, s.ramWriteBlock who a bs = { s with dram := putBytes s.dram a bs, dramBad := bad } ∧ ∀ b, b ≠ a / 64 → Tbl.find bad b = Tbl.find s.dramBad b := by
  have hgood : s.ramBad a = false := by rw [State.ramBad, h]; rfl
  unfold State.ramWriteBlock
  split
  · exact ⟨_, rfl, fun b hb => Tbl.find_drop_ne hb _⟩
  · exact ⟨s.dramBad, if_neg (by rw [hgood]; decide), fun _ _ => rfl⟩

theorem State.ramWriteN_nil (who : Agent) (n : Nat) (s : State) (a : Nat) : State.ramWriteN who n s a [] = s := by cases n <;> rfl

theorem State.ramWriteN_good (who : Agent) : ∀ (n : Nat) (s : State) (a : Nat) (bs : List Byte), bs.length < n → s.goodBlocks a bs.length →
    ∃ bad, State.ramWriteN who n s a bs = { s with dram := putBytes s.dram a bs, dramBad := bad }
  | 0, _, _, _, hlen, _ => absurd hlen (Nat.not_lt_zero _)
  | n + 1, s, a, bs, hlen, hgood => by
    by_cases hnil : bs = []
    · subst hnil; exact ⟨s.dramBad, State.ramWriteN_nil who _ s a⟩
    have hpos : 0 < bs.length := List.length_pos_of_ne_nil hnil
    obtain ⟨bad, hblock, hkept⟩ := State.ramWriteBlock_good who (bs.take (64 - a % 64)) (hgood (a / 64) (Nat.le_refl _) (by omega))
    have hstep : State.ramWriteN who (n + 1) s a bs =
        State.ramWriteN who n (s.ramWriteBlock who a (bs.take (64 - a % 64))) (a + (64 - a % 64)) (bs.drop (64 - a % 64)) := if_neg hnil
    rw [hstep, hblock]
    by_cases hfit : bs.length ≤ 64 - a % 64
    · rw [List.drop_eq_nil_of_le hfit, List.take_of_length_le hfit]
      exact ⟨bad, State.ramWriteN_nil who n _ _⟩
    · have htake : (bs.take (64 - a % 64)).length = 64 - a % 64 := List.length_take_of_le (by omega)
      obtain ⟨bad', hrest⟩ := State.ramWriteN_good who n { s with dram := putBytes s.dram a (bs.take (64 - a % 64)), dramBad := bad } (a + (64 - a % 64))
        (bs.drop (64 - a % 64)) (by rw [List.length_drop]; omega) (fun b hlo hhi => by
          rw [List.length_drop] at hhi
          exact (hkept b (by omega)).trans (hgood b (by omega) (by omega)))
      refine ⟨bad', hrest.trans ?_⟩
      have hbytes := putBytes_append (bs.take (64 - a % 64)) (bs.drop (64 - a % 64)) s.dram a
      rw [List.take_append_drop, htake] at hbytes
      rw [hbytes]

theorem State.ramWrite_good {s : State} {a : Nat} {bs : List Byte} (who : Agent) (h : s.goodBlocks a bs.length) :
    ∃ bad, s.ramWrite who a bs = { s with dram := putBytes s.dram a bs, dramBad := bad } :=
  State.ramWriteN_good who (bs.length + 1) s a bs (Nat.lt_succ_self _) h

theorem State.goodBlocks.mono {s : State} {a m n : Nat} (h : s.goodBlocks a n) (hmn : m ≤ n) : s.goodBlocks a m := fun b hlo hhi => h b hlo (by omega)

-- THE WORD AT ARGS

/-- A job that waits for its intake, or folds, starts with its word at ARGS (R457, R602). -/
theorem State.startJob_writes {u : State} {k : CoreId} {c : Cand} {a : Nat} (ha : c.desc.args.toNat = a) (hword : u.argsWord c ≠ [])
    (hok : u.jobOk (u.candPart c) a 16 true = true) (hgood : u.badIn a 16 = none)
    (hready : u.dramReady (.intake c.queue) (u.candPart c) (linesOf a 16) = true) : ∃ v, JobPlaced v (u.startJob k c) k c ∧ v.qm = u.qm ∧ v.cores = u.cores ∧
      (∀ i b, (u.argsWord c)[i]? = some b → v.ramByte (a + i) = b) ∧ (∀ x, (x < a ∨ a + 16 ≤ x) → v.ramByte x = u.ramByte x) := by
  obtain ⟨regs, part, htake⟩ := u.dramTake_eq (.intake c.queue) (u.candPart c) (linesOf a 16)
  rw [State.startJob_word ha hword hok hready, htake]
  obtain ⟨draws, hdrawn⟩ := ({ u with regs, part } : State).argsDrawn_rest c
  rw [hdrawn]
  have hlen := u.argsWord_length c
  have hblocks : ({ u with regs, part, draws } : State).goodBlocks a (u.argsWord c).length := (State.goodBlocks_of_badIn hgood).mono hlen
  obtain ⟨bad, hwrite⟩ := State.ramWrite_good .queueManager hblocks
  rw [hwrite]
  refine ⟨_, State.placeJob_placed _ k c, rfl, rfl, fun i b hi => ?_, fun x hx => ?_⟩
  · obtain ⟨hlt, rfl⟩ := List.getElem?_eq_some_iff.mp hi
    exact State.ramByte_putBytes_in { u with regs, part, draws } bad hlt
  · exact State.ramByte_putBytes_ne { u with regs, part, draws } bad (by omega)

theorem JobPlaced.ram {u t : State} {k : CoreId} {c : Cand} (h : JobPlaced u t k c) : keepsRam u t := by
  intro a; rw [h.rest]; rfl

end Sys2Proof.Machine

/-! RETIREMENT. The core that a job leaves, its record, its mark and its twin (R66, R98, R235, R466). -/
namespace Sys2Proof.Machine

-- RETIREMENT

/-- What a core's vacating changes: the balance of its job's partition, and a debt that it leaves (R523, R525). -/
theorem State.setBalance_only (s : State) (k p : Nat) (b : Int) : keepsRegs s (s.setBalance k p b) [kGrnDebt p] ∧
    s.setBalance k p b = { s with regs := (s.setBalance k p b).regs, part := (s.setBalance k p b).part } := by
  unfold State.setBalance
  dsimp only
  split
  · exact ⟨keepsRegs_setReg (s.setPartCtl _) (kGrnDebt p) _, rfl⟩
  · exact ⟨fun _ _ => rfl, rfl⟩

theorem State.vacate_only {s : State} {k : Nat} {job : CoreJob} (hjob : (s.core k).job = some job) : keepsRegs s (s.vacate k) [kGrnDebt job.part] ∧
    s.vacate k = { s with regs := (s.vacate k).regs, part := (s.vacate k).part } := by
  have hsettle : keepsRegs s (s.settle k) [kGrnDebt job.part] ∧ s.settle k = { s with regs := (s.settle k).regs, part := (s.settle k).part } := by
    unfold State.settle
    rw [hjob]
    split
    · next j t hj _ =>
      cases hj
      dsimp only
      split
      · obtain ⟨hregs, hrest⟩ := (s.setPartCtl { s.part with charged := Tbl.put s.part.charged k s.tb.ticks }).setBalance_only k job.part _
        exact ⟨hregs, hrest⟩
      · exact ⟨fun _ _ => rfl, rfl⟩
    · exact ⟨fun _ _ => rfl, rfl⟩
  obtain ⟨hregs, hrest⟩ := hsettle
  unfold State.vacate
  generalize s.settle k = u at *
  exact ⟨hregs, by rw [hrest]; rfl⟩

/-- The registers that a retirement can reach. -/
def retireKeys (k p : Nat) : List Nat := [kGrnDebt p, kGrn k 0x10, kCore k 0x20]

/-- The core after a retirement, with its job's buffers reclaimed (R235, R399). -/
def State.jobCleared (s : State) (k : Nat) (job : CoreJob) : State :=
  let freed := ((s.core k).grn.recs.filter (fun x => s.reclaimable job.dt x.1 x.2)).length
  let s := s.vacate k
  let s := (s.releaseBufs k (fun i r => s.reclaimable job.dt i r)).bumpBy (kGrn k 0x10) freed
  s.setCore k { s.core k with job := none, ended := false }

/-- The final checksum of the job on core k (R97). -/
def State.finalCrc (s : State) (k : Nat) : Word := BitVec.ofNat 32 ((s.core k).twinCrc ^^^ 0xFFFFFFFF)

/-- The record of the job (R466). -/
def State.retireRec (s : State) (k : Nat) (job : CoreJob) (e : DtEnt) (crc : Word) : Rec :=
  { status := if job.err = 0 then 0 else 1, code := job.err, core := k, dt := some job.dt, crc := crc, preempted := e.preempted, twin := e.desc.twinId != 0, userTag := e.desc.userTag, elapsedUs := min ((s.now - e.submit) / 1000) 0xFFFFFFFF, cleared := false }

/-- The state with the job's record due. -/
def State.jobRecorded (s : State) (k : Nat) (job : CoreJob) (e : DtEnt) (crc : Word) : State :=
  let s := (s.jobCleared k job).setReg (kCore k 0x20) crc
  s.setQueue e.queue ((s.queue e.queue).setJob e.pos (fun j => { j with at_ := .done (s.retireRec k job e crc) }))

/-- The frame-done mark of a job that succeeded (R66). -/
def State.markDone (s : State) (e : DtEnt) : State := if e.desc.fdmEn then s.frameDone e.desc.timer e.frame s.now else s

/-- The twin comparison of a twin job that succeeded (R98). -/
def State.twinCompared (s : State) (k : Nat) (e : DtEnt) (crc : Word) : State :=
  if s.isTwin e.part e.desc then s.twinRetired k e.desc.twinId e.frame crc else s

section
variable {s : State} {k : CoreId} {job : CoreJob} {e : DtEnt}
  (hjob : (s.core k).job = some job) (hentry : Tbl.find s.qm.dt job.dt = some e)
include hjob hentry

theorem jobRetire_retires (hruns : s.runs k = true) (hfin : (s.core k).finished = true) (hwin : s.windowsDone k = true) : exec (.jobRetire k) s = .next
    (if job.err ≠ 0 then s.jobRecorded k job e (s.finalCrc k) else ((s.jobRecorded k job e (s.finalCrc k)).markDone e).twinCompared k e (s.finalCrc k)) := by
  change execJobRetire k s = _
  unfold execJobRetire
  extract_lets c
  rw [show c.job = some job from hjob]
  dsimp -zeta only
  rw [hentry]
  refine (if_neg (by simp [c, hruns, hfin, hwin])).trans ?_
  exact (apply_ite Host.Outcome.next _ _ _).symm

end

theorem jobRetire_waits {s : State} {k : CoreId} (hwin : s.windowsDone k = false) : exec (.jobRetire k) s = .next s := by
  change execJobRetire k s = _
  unfold execJobRetire
  dsimp only
  split
  · split
    · exact if_pos (by rw [hwin]; simp)
    · rfl
  · rfl

/-- A core that a job has left: the registers of the keys listed, the cores and the regulators' state may have changed. -/
structure CoreLeft (s t : State) (k : Nat) (ks : List Nat) : Prop where
  idle : (t.core k).job = none
  ended : (t.core k).ended = false
  others : ∀ i, i ≠ k → t.core i = s.core i
  regs : keepsRegs s t ks
  rest : t = { s with regs := t.regs, cores := t.cores, part := t.part }

theorem State.releaseBufs_core_ne (s : State) {k i : Nat} (hi : i ≠ k) (f : Nat → BufRec → Bool) : (s.releaseBufs k f).core i = s.core i := by
  unfold State.releaseBufs State.setGrn
  rw [State.core_setCore_ne s hi]

theorem State.jobCleared_left {s : State} {k : Nat} {job : CoreJob} (hjob : (s.core k).job = some job) :
    CoreLeft s (s.jobCleared k job) k [kGrnDebt job.part, kGrn k 0x10] := by
  obtain ⟨hregs, hrest⟩ := State.vacate_only hjob
  unfold State.jobCleared
  generalize ((s.core k).grn.recs.filter (fun x => s.reclaimable job.dt x.1 x.2)).length = freed
  dsimp only
  generalize s.vacate k = u at *
  have hcore (i : Nat) : u.core i = s.core i := by rw [hrest]; rfl
  have hbufs (i : Nat) (hi : i ≠ k) : (u.releaseBufs k (fun i r => u.reclaimable job.dt i r)).core i = u.core i := u.releaseBufs_core_ne hi _
  have hbrest : u.releaseBufs k (fun i r => u.reclaimable job.dt i r) =
      { u with cores := (u.releaseBufs k (fun i r => u.reclaimable job.dt i r)).cores } := rfl
  generalize u.releaseBufs k (fun i r => u.reclaimable job.dt i r) = v at *
  have hcount : keepsRegs v (v.bumpBy (kGrn k 0x10) freed) [kGrn k 0x10] := keepsRegs_setReg v _ _
  have hvreg (j : Nat) : v.reg j = u.reg j := by rw [hbrest]; rfl
  have hcrest : v.bumpBy (kGrn k 0x10) freed = { v with regs := (v.bumpBy (kGrn k 0x10) freed).regs } := (v.setReg_onlyRegs (kGrn k 0x10) _).rest
  generalize v.bumpBy (kGrn k 0x10) freed = w at *
  have hwcore (i : Nat) : w.core i = v.core i := by rw [hcrest]; rfl
  refine ⟨?_, ?_, fun i hi => ?_, fun j hj => ?_, ?_⟩
  · rw [State.core_setCore_same]
  · rw [State.core_setCore_same]
  · rw [State.core_setCore_ne _ hi]
    exact (hwcore i).trans ((hbufs i hi).trans (hcore i))
  · simp only [List.mem_cons, List.not_mem_nil, or_false, not_or] at hj
    obtain ⟨hdebt, hfreed⟩ := hj
    exact (hcount j (by simpa using hfreed)).trans ((hvreg j).trans (hregs j (by simpa using hdebt)))
  · rw [hcrest, hbrest, hrest]; rfl

/-- What a retirement leaves before its mark (R235, R466). -/
structure JobRecorded (s t : State) (k : Nat) (job : CoreJob) (e : DtEnt) (crc : Word) : Prop where
  idle : (t.core k).job = none
  ended : (t.core k).ended = false
  shown : t.reg (kCore k 0x20) = crc
  queue : t.queue e.queue = (s.queue e.queue).setJob e.pos (fun y => { y with at_ := .done (s.retireRec k job e crc) })
  others : ∀ i, i ≠ k → t.core i = s.core i
  regs : keepsRegs s t (retireKeys k job.part)
  pairs : t.qm.pairs = s.qm.pairs
  rest : t = { s with regs := t.regs, cores := t.cores, qm := t.qm, part := t.part }

theorem ev_jobCleared {r s : State} (h : Evolves r s) (k : Nat) (job : CoreJob) : Evolves r (s.jobCleared k job) :=
  ev_setCore (ev_setReg (ev_releaseBufs (ev_vacate h)) _ _)

theorem State.jobRecorded_recorded {s : State} (hs : State.Ok s) {k : Nat} {job : CoreJob} (hjob : (s.core k).job = some job) (e : DtEnt) (crc : Word) :
    JobRecorded s (s.jobRecorded k job e crc) k job e crc := by
  have hleft := State.jobCleared_left hjob
  have hok : State.Ok (s.jobCleared k job) := hs.of_evolves (ev_jobCleared (Evolves.refl s) k job)
  unfold State.jobRecorded
  dsimp only
  generalize s.jobCleared k job = u at *
  have hshown : (u.setReg (kCore k 0x20) crc).reg (kCore k 0x20) = crc := State.reg_setReg_same u _ _ hok.regsKeyed
  have hregs := keepsRegs_setReg u (kCore k 0x20) crc
  have hrest : u.setReg (kCore k 0x20) crc = { s with regs := (u.setReg (kCore k 0x20) crc).regs, cores := u.cores, part := u.part } := by rw [hleft.rest]; rfl
  generalize u.setReg (kCore k 0x20) crc = v at *
  have hcore (i : Nat) : v.core i = u.core i := by rw [hrest]; rfl
  have hqueue : v.queue e.queue = s.queue e.queue := by rw [hrest]; rfl
  have hrec : v.retireRec k job e crc = s.retireRec k job e crc := by rw [hrest]; rfl
  rw [hqueue, hrec]
  refine ⟨(congrArg CoreSt.job (hcore k)).trans hleft.idle, (congrArg CoreSt.ended (hcore k)).trans hleft.ended, hshown, State.queue_setQueue_same v _ _,
    fun i hi => (hcore i).trans (hleft.others i hi), ?_, ?_, ?_⟩
  · exact (hleft.regs.mono (by simp [retireKeys])).trans (hregs.mono (by simp [retireKeys]))
  · change v.qm.pairs = s.qm.pairs
    rw [hrest]
  · rw [hrest]; rfl

-- THE MARK, AND THE TWIN COMPARISON

/-- What a frame-done mark changes: the armed slots, and the counters of late and stray marks (R66). -/
structure MarkTaken (s t : State) (k : Nat) : Prop where
  regs : keepsRegs s t [kFdlLate k, kFdlStray k]
  rest : t = { s with regs := t.regs, tb := t.tb }

theorem State.markDone_taken (s : State) (e : DtEnt) : MarkTaken s (s.markDone e) e.desc.timer := by
  have hlate : MarkTaken s (s.bump (kFdlLate e.desc.timer)) e.desc.timer := ⟨(keepsRegs_bump s _).mono (by simp), rfl⟩
  have hstray : MarkTaken s (s.bump (kFdlStray e.desc.timer)) e.desc.timer := ⟨(keepsRegs_bump s _).mono (by simp), rfl⟩
  unfold State.markDone State.frameDone
  split
  · split
    · split
      · exact ⟨fun _ _ => rfl, rfl⟩
      · split
        · exact hstray
        · exact hlate
    · split
      · exact hlate
      · exact hstray
  · exact ⟨fun _ _ => rfl, rfl⟩

/-- A change of one twin pair that leaves its key. -/
theorem State.onPair_pairOf (s : State) {id : Nat} {frame : Word} {f : TwinPair → TwinPair} (hf : ∀ x, (f x).id = x.id ∧ (f x).frame = x.frame) :
    (s.onPair id frame f).pairOf id frame = (s.pairOf id frame).map f := by
  have hkey (x : TwinPair) : ((if x.id = id ∧ x.frame = frame then f x else x).id == id && (if x.id = id ∧ x.frame = frame then f x else x).frame == frame) =
      (x.id == id && x.frame == frame) := by
    split
    · rw [(hf x).1, (hf x).2]
    · rfl
  have hmap : (s.onPair id frame f).pairOf id frame = (s.pairOf id frame).map (fun x => if x.id = id ∧ x.frame = frame then f x else x) := by
    unfold State.onPair State.pairOf
    change (s.qm.pairs.map _).find? _ = _
    rw [List.find?_map]
    exact congrArg (Option.map _) (congrArg (List.find? · s.qm.pairs) (funext hkey))
  rw [hmap]
  cases hpair : s.pairOf id frame with
  | none => rfl
  | some x =>
    have hx := List.find?_some hpair
    simp only [Bool.and_eq_true, beq_iff_eq] at hx
    exact congrArg some (if_pos hx)

theorem State.onPair_rest (s : State) (id : Nat) (frame : Word) (f : TwinPair → TwinPair) :
    s.onPair id frame f = { s with qm := { s.qm with pairs := (s.onPair id frame f).qm.pairs } } := rfl

/-- What a twin comparison leaves: the pair has one more retirement, and the queues stay (R98). -/
structure TwinsCompared (s t : State) (id : Nat) (frame : Word) : Prop where
  retired : (t.pairOf id frame).map TwinPair.retired = (s.pairOf id frame).map (fun x => x.retired + 1)
  rest : t = { s with qm := { s.qm with pairs := t.qm.pairs }, reeve := t.reeve }

theorem State.twinRetired_compared (s : State) (k id : Nat) (frame crc : Word) : TwinsCompared s (s.twinRetired k id frame crc) id frame := by
  have hcount : ((s.onPair id frame (fun x => { x with retired := x.retired + 1 })).pairOf id frame).map TwinPair.retired =
      (s.pairOf id frame).map (fun x => x.retired + 1) := by
    rw [s.onPair_pairOf (f := fun x => { x with retired := x.retired + 1 }) fun _ => ⟨rfl, rfl⟩, Option.map_map]; rfl
  have hrest := s.onPair_rest id frame (fun x => { x with retired := x.retired + 1 })
  unfold State.twinRetired
  dsimp only
  generalize s.onPair id frame (fun x => { x with retired := x.retired + 1 }) = u at *
  split
  · next first _ =>
    have hsame : ((u.onPair id frame (fun x => { x with same := first == crc })).pairOf id frame).map TwinPair.retired =
        (s.pairOf id frame).map (fun x => x.retired + 1) := by
      rw [← hcount, u.onPair_pairOf (f := fun x => { x with same := first == crc }) fun _ => ⟨rfl, rfl⟩, Option.map_map]; rfl
    have hrest' := u.onPair_rest id frame (fun x => { x with same := first == crc })
    generalize u.onPair id frame (fun x => { x with same := first == crc }) = v at *
    have hvrest : v = { s with qm := { s.qm with pairs := v.qm.pairs } } := by rw [hrest', hrest]
    split
    · exact ⟨hsame, by rw [hvrest]; rfl⟩
    · exact ⟨hsame, by rw [hvrest]; rfl⟩
  · exact ⟨hcount, by rw [hrest]; rfl⟩

end Sys2Proof.Machine

/-! RETIREMENT AND CLEARANCE AS INSTRUCTIONS. The two commands over the lemmas of their parts (R79, R90, R91, R99). -/
namespace Sys2Proof.Machine

section
variable {s : State} (hs : State.Ok s) {k : CoreId} {job : CoreJob} {e : DtEnt}
  (hjob : (s.core k).job = some job) (hentry : Tbl.find s.qm.dt job.dt = some e) (hruns : s.runs k = true) (hfin : (s.core k).finished = true)
  (hwin : s.windowsDone k = true)

theorem JobRecorded.isTwin {s t : State} {k : Nat} {job : CoreJob} {e : DtEnt} {crc : Word} (h : JobRecorded s t k job e crc) (p : Nat) (d : Desc) :
    t.isTwin p d = s.isTwin p d :=
  State.isTwin_congr (h.regs _ (by simp [retireKeys, kGrnDebt, kPart, kGrn, kCore]; omega)) p d

include hs hjob hentry hruns hfin hwin

/-- A retirement without a mark and without a twin, or with an error (R235, R236, R466). -/
theorem jobRetire_plain (hplain : job.err ≠ 0 ∨ (e.desc.fdmEn = false ∧ s.isTwin e.part e.desc = false)) :
    exec (.jobRetire k) s = .next (s.jobRecorded k job e (s.finalCrc k)) := by
  have hrec := State.jobRecorded_recorded hs hjob e (s.finalCrc k)
  refine (jobRetire_retires hjob hentry hruns hfin hwin).trans (congrArg _ ?_)
  split
  · rfl
  · next herr =>
    obtain ⟨hfdm, htwin⟩ := hplain.resolve_left herr
    have hmark : (s.jobRecorded k job e (s.finalCrc k)).markDone e = s.jobRecorded k job e (s.finalCrc k) := if_neg (by rw [hfdm]; decide)
    rw [hmark]
    exact if_neg (by rw [hrec.isTwin, htwin]; decide)

/-- What every retirement leaves (R66, R98, R235, R466). -/
theorem jobRetire_leaves : ∃ t, exec (.jobRetire k) s = .next t ∧ (t.core k).job = none ∧
    t.queue e.queue = (s.queue e.queue).setJob e.pos (fun y => { y with at_ := .done (s.retireRec k job e (s.finalCrc k)) }) ∧
    (∀ i, i ≠ k.val → t.core i = s.core i) ∧ keepsRam s t ∧
    (job.err = 0 → s.isTwin e.part e.desc = true → ∀ x, s.pairOf e.desc.twinId e.frame = some x →
      (t.pairOf e.desc.twinId e.frame).map TwinPair.retired = some (x.retired + 1)) ∧
    t = { s with regs := t.regs, cores := t.cores, qm := t.qm, part := t.part, tb := t.tb, reeve := t.reeve } := by
  have hexec := jobRetire_retires hjob hentry hruns hfin hwin
  have hrec := State.jobRecorded_recorded hs hjob e (s.finalCrc k)
  generalize s.jobRecorded k job e (s.finalCrc k) = u at *
  have hram : keepsRam s u := by intro a; rw [hrec.rest]; rfl
  by_cases herr : job.err = 0
  · rw [if_neg (not_not.mpr herr)] at hexec
    have hmark := u.markDone_taken e
    have htwin : (u.markDone e).isTwin e.part e.desc = s.isTwin e.part e.desc :=
      (State.isTwin_congr (hmark.regs _ (by simp [kFdlLate, kFdlStray]; omega)) _ _).trans (hrec.isTwin _ _)
    generalize u.markDone e = v at *
    have hvqm : v.qm = u.qm := by rw [hmark.rest]
    have hvcores : v.cores = u.cores := by rw [hmark.rest]
    have hvram : keepsRam s v := hram.trans fun a => by rw [hmark.rest]; rfl
    have hvrest : v = { s with regs := v.regs, cores := v.cores, qm := v.qm, part := v.part, tb := v.tb } := by rw [hmark.rest, hrec.rest]
    have hcore (i : Nat) : v.core i = u.core i := congrArg (Tbl.getD · i CoreSt.reset) hvcores
    have hqueue : v.queue e.queue = u.queue e.queue := congrArg (fun m : Qm => Tbl.getD m.queues e.queue QueueSt.reset) hvqm
    cases hpair : s.isTwin e.part e.desc with
    | false =>
      have hsame : v.twinCompared k e (s.finalCrc k) = v := if_neg (by rw [htwin, hpair]; decide)
      rw [hsame] at hexec
      refine ⟨v, hexec, (congrArg CoreSt.job (hcore k)).trans hrec.idle, hqueue.trans hrec.queue, fun i hi => (hcore i).trans (hrec.others i hi), hvram,
        fun _ h => absurd h (by decide), ?_⟩
      rw [hvrest]
    | true =>
      have hgo : v.twinCompared k e (s.finalCrc k) = v.twinRetired k e.desc.twinId e.frame (s.finalCrc k) := if_pos (by rw [htwin, hpair])
      have hcmp := v.twinRetired_compared k e.desc.twinId e.frame (s.finalCrc k)
      rw [hgo] at hexec
      generalize v.twinRetired k e.desc.twinId e.frame (s.finalCrc k) = t at *
      have htcore (i : Nat) : t.core i = v.core i := by rw [hcmp.rest]; rfl
      have htqueue : t.queue e.queue = v.queue e.queue := by rw [hcmp.rest]; rfl
      have hvpair : v.pairOf e.desc.twinId e.frame = s.pairOf e.desc.twinId e.frame := by rw [State.pairOf, State.pairOf, hvqm, hrec.pairs]
      refine ⟨t, hexec, (congrArg CoreSt.job ((htcore k).trans (hcore k))).trans hrec.idle, htqueue.trans (hqueue.trans hrec.queue),
        fun i hi => (htcore i).trans ((hcore i).trans (hrec.others i hi)), hvram.trans fun a => by rw [hcmp.rest]; rfl, fun _ _ x hx => ?_, ?_⟩
      · rw [hcmp.retired, hvpair, hx]; rfl
      · rw [hcmp.rest, hvrest]
  · rw [if_pos herr] at hexec
    refine ⟨u, hexec, hrec.idle, hrec.queue, hrec.others, hram, fun h => absurd h herr, ?_⟩
    rw [hrec.rest]

end

-- CLEARANCE

theorem State.setVerdict_verdictOf (s : State) (v : Verdict) : (s.setVerdict v).verdictOf v.frame = v := by
  unfold State.verdictOf
  have hfind : (s.setVerdict v).reeve.verdicts.find? (fun x => x.frame == v.frame) = some v := by
    change ((v :: s.reeve.verdicts.filter (fun x => x.frame != v.frame)).take 8).find? _ = _
    rw [List.take_succ_cons, List.find?_cons_of_pos (by simp)]
  rw [hfind]

theorem State.verdictOf_frame (s : State) (n : Word) : (s.verdictOf n).frame = n := by
  unfold State.verdictOf
  split
  · next v hv => simpa using List.find?_some hv
  · rfl

theorem State.verdictReady_setVerdict (s : State) (v x : Verdict) : (s.setVerdict v).verdictReady x = s.verdictReady x := rfl

/-- What a clearance does beyond the record: the frame's verdict, and what its release changes (R79, R86, R90). -/
structure VerdictTaken (s t : State) (n : Word) (v : Verdict) : Prop where
  verdict : t.verdictOf n = v
  qm : t.qm = s.qm
  ram : keepsRam s t

theorem State.bankAgain_only (s : State) : OnlyRegs s s.bankAgain [0x5000] := by
  have htry (u : State) : OnlyRegs u u.bankTry [0x5000] := OnlyRegs.ite (u.put_onlyRegs fPwrState _) (u.put_onlyRegs fPwrRejected 1)
  exact OnlyRegs.ite ((s.put_onlyRegs fBankPending 0).trans (htry _)) (OnlyRegs.refl s _)

theorem OnlyRegs.verdictTaken {s t : State} {ks : List Nat} (h : OnlyRegs s t ks) (n : Word) : VerdictTaken s t n (s.verdictOf n) := by
  rw [h.rest]; exact ⟨rfl, rfl, fun _ => rfl⟩

theorem VerdictTaken.trans {r s t : State} {n : Word} {v w : Verdict} (h : VerdictTaken r s n v) (g : VerdictTaken s t n w) : VerdictTaken r t n w :=
  ⟨g.verdict, g.qm.trans h.qm, h.ram.trans g.ram⟩

/-- A release of a verdict that is ready. -/
theorem State.releaseVerdict_taken {s : State} (hs : State.Ok s) (n : Word) : ∃ v, VerdictTaken s (s.releaseVerdict n) n v ∧ v.cleared = (s.verdictOf n).cleared ∧
    (s.verdictReady (s.verdictOf n) = true → v.released = true) := by
  unfold State.releaseVerdict
  dsimp only
  split
  · next hkeep =>
    refine ⟨_, ⟨rfl, rfl, fun _ => rfl⟩, rfl, fun hready => ?_⟩
    simpa [hready] using hkeep
  · have hset : VerdictTaken s (s.setVerdict { s.verdictOf n with released := true }) n { s.verdictOf n with released := true } := by
      refine ⟨?_, rfl, fun _ => rfl⟩
      have hof := s.setVerdict_verdictOf { s.verdictOf n with released := true }
      rwa [show ({ s.verdictOf n with released := true } : Verdict).frame = n from s.verdictOf_frame n] at hof
    have hok : State.Ok (s.setVerdict { s.verdictOf n with released := true }) := hs.of_evolves (ev_setReeve (Evolves.refl s))
    generalize s.setVerdict { s.verdictOf n with released := true } = u at *
    refine ⟨{ s.verdictOf n with released := true }, ?_, rfl, fun _ => rfl⟩
    split
    · have hset' : VerdictTaken u (u.setReeve { u.reeve with awaiting := false }) n (u.verdictOf n) := ⟨rfl, rfl, fun _ => rfl⟩
      have hmode := State.setMode_taken (hok.of_evolves (ev_setReeve (Evolves.refl u)) : State.Ok (u.setReeve { u.reeve with awaiting := false })) (m := 0) (by decide)
      generalize u.setReeve { u.reeve with awaiting := false } = v at *
      generalize v.setMode 0 = t at *
      have hstop : VerdictTaken v t n (v.verdictOf n) := ⟨by rw [State.verdictOf, hmode.only.reeve]; rfl, by rw [hmode.only.rest], hmode.only.ram⟩
      have hall := (hset.trans hset').trans hstop
      rwa [hset'.verdict, hset.verdict] at hall
    · exact hset

/-- A frame's verdict that takes a cleared job, and its release where nothing of it is missing (R79, R91). -/
theorem State.clearedInto_taken {s : State} (hs : State.Ok s) (n : Word) {v : Verdict} (hv : v.frame = n) :
    ∃ w, VerdictTaken s (((s.setVerdict v).releaseVerdict n).bankAgain) n w ∧ w.cleared = v.cleared ∧ (s.verdictReady v = true → w.released = true) := by
  have hset : VerdictTaken s (s.setVerdict v) n v := ⟨hv ▸ s.setVerdict_verdictOf v, rfl, fun _ => rfl⟩
  have hsame := s.verdictReady_setVerdict v v
  have hok : State.Ok (s.setVerdict v) := hs.of_evolves (ev_setVerdict (Evolves.refl s))
  generalize s.setVerdict v = t at *
  obtain ⟨w, htaken, hcleared, hreleased⟩ := State.releaseVerdict_taken hok n
  rw [hset.verdict] at hcleared hreleased
  refine ⟨w, (hset.trans htaken).trans ?_, hcleared, fun h => hreleased (hsame.trans h)⟩
  have hbank := (t.releaseVerdict n).bankAgain_only.verdictTaken n
  rwa [htaken.verdict] at hbank

theorem Verdict.take_frame (v : Verdict) (e : DtEnt) (r : Rec) : (v.take e r).frame = v.frame := rfl

theorem Verdict.mem_take_cleared (v : Verdict) (e : DtEnt) (r : Rec) : e.desc.timer ∈ (v.take e r).cleared := by
  change e.desc.timer ∈ if v.cleared.contains e.desc.timer then v.cleared else v.cleared ++ [e.desc.timer]
  split
  · next h => simpa using h
  · simp

/-- The twin jobs of an entry may be cleared: there is no pair, or both have retired with equal checksums (R99). -/
def State.pairDone (s : State) (e : DtEnt) : Bool :=
  !s.isTwin e.part e.desc || (match s.pairOf e.desc.twinId e.frame with | some x => decide (2 ≤ x.retired) && x.same | none => false)

theorem State.pairDone_of {s : State} {e : DtEnt}
    (h : s.isTwin e.part e.desc = false ∨ ∃ x, s.pairOf e.desc.twinId e.frame = some x ∧ 2 ≤ x.retired ∧ x.same = true) : s.pairDone e = true := by
  unfold State.pairDone
  obtain hsingle | ⟨x, hpair, htwo, hsame⟩ := h
  · rw [hsingle]; rfl
  · rw [hpair]; simp [htwo, hsame]

/-- The record of an entry's job, cleared (R90). -/
def State.recCleared (s : State) (e : DtEnt) (r : Rec) : State :=
  s.setQueue e.queue ((s.queue e.queue).setJob e.pos (fun y => { y with at_ := .done { r with cleared := true } }))

theorem State.recCleared_queue (s : State) (e : DtEnt) (r : Rec) : (s.recCleared e r).queue e.queue =
    (s.queue e.queue).setJob e.pos (fun y => { y with at_ := .done { r with cleared := true } }) := State.queue_setQueue_same _ _ _

section
variable {s : State} {dt : BitVec 10} {e : DtEnt} {r : Rec} (hentry : Tbl.find s.qm.dt dt.toNat = some e)
include hentry

section
variable (hret : s.retiredOf e = some r) (hpart : e.part = s.perc) (hnew : r.cleared = false) (hrun : r.status ≠ 3) (hopen : s.fenced = false)
  (halive : s.reeve.alive = true)
  (htwin : s.isTwin e.part e.desc = false ∨ ∃ x, s.pairOf e.desc.twinId e.frame = some x ∧ 2 ≤ x.retired ∧ x.same = true)
include hret hpart hnew hrun hopen halive htwin

theorem reeveClearance_clears : exec (.reeveClearance dt) s = .next
    (if e.desc.fdmEn ∧ r.status = 0 then
      (((s.recCleared e r).setVerdict (((s.recCleared e r).verdictOf e.frame).take e r)).releaseVerdict e.frame).bankAgain
    else s.recCleared e r) := by
  change execReeveClearance dt s = _
  unfold execReeveClearance
  rw [hentry]
  dsimp -zeta only
  rw [hret]
  dsimp -zeta only
  extract_lets done
  rw [show done = true from State.pairDone_of htwin, halive, hpart, hnew, hopen]
  refine (if_neg (by simp [hrun])).trans ?_
  exact (apply_ite Host.Outcome.next _ _ _).symm

/-- The clearance of a job that marks a slot and succeeded (R90, R91). -/
theorem reeveClearance_marks (hs : State.Ok s) (hfdm : e.desc.fdmEn = true) (hgood : r.status = 0) : ∃ t, exec (.reeveClearance dt) s = .next t ∧
    t.queue e.queue = (s.queue e.queue).setJob e.pos (fun y => { y with at_ := .done { r with cleared := true } }) ∧
    e.desc.timer ∈ (t.verdictOf e.frame).cleared ∧ (s.verdictReady ((s.verdictOf e.frame).take e r) = true → (t.verdictOf e.frame).released = true) ∧
    keepsRam s t := by
  have hexec := reeveClearance_clears hentry hret hpart hnew hrun hopen halive htwin
  rw [if_pos ⟨hfdm, hgood⟩] at hexec
  have hqueue := s.recCleared_queue e r
  have hram : keepsRam s (s.recCleared e r) := fun _ => rfl
  have hok : State.Ok (s.recCleared e r) := hs.of_evolves (ev_setQueue (Evolves.refl s))
  have hof : (s.recCleared e r).verdictOf e.frame = s.verdictOf e.frame := rfl
  have hready (v : Verdict) : (s.recCleared e r).verdictReady v = s.verdictReady v := rfl
  generalize s.recCleared e r = u at *
  rw [hof] at hexec
  obtain ⟨w, htaken, hcleared, hreleased⟩ := State.clearedInto_taken hok e.frame (v := (s.verdictOf e.frame).take e r) ((Verdict.take_frame _ e r).trans (s.verdictOf_frame e.frame))
  refine ⟨_, hexec, ?_, ?_, fun h => ?_, hram.trans htaken.ram⟩
  · exact (congrArg (fun m : Qm => Tbl.getD m.queues e.queue QueueSt.reset) htaken.qm).trans hqueue
  · rw [htaken.verdict, hcleared]; exact Verdict.mem_take_cleared _ e r
  · rw [htaken.verdict]; exact hreleased ((hready _).trans h)

/-- Any other clearance marks the record alone (R90). -/
theorem reeveClearance_plain (hplain : e.desc.fdmEn = false ∨ r.status ≠ 0) : ∃ t, exec (.reeveClearance dt) s = .next t ∧
    t.queue e.queue = (s.queue e.queue).setJob e.pos (fun y => { y with at_ := .done { r with cleared := true } }) ∧ t = { s with qm := t.qm } := by
  have hno : ¬(e.desc.fdmEn = true ∧ r.status = 0) := fun h => hplain.elim (fun hf => by rw [h.1] at hf; cases hf) fun hr => hr h.2
  refine ⟨_, (reeveClearance_clears hentry hret hpart hnew hrun hopen halive htwin).trans (congrArg _ (if_neg hno)), s.recCleared_queue e r, rfl⟩

end

/-- A twin job whose checksums differ is not cleared (R99). -/
theorem reeveClearance_differs {x : TwinPair} (htwin : s.isTwin e.part e.desc = true) (hpair : s.pairOf e.desc.twinId e.frame = some x) (hdiff : x.same = false) :
    exec (.reeveClearance dt) s = .next s := by
  have hdone : s.pairDone e = false := by unfold State.pairDone; rw [htwin, hpair]; simp [hdiff]
  change execReeveClearance dt s = _
  unfold execReeveClearance
  rw [hentry]
  dsimp -zeta only
  split
  · extract_lets done
    exact if_pos (by rw [show done = false from hdone]; simp)
  · rfl

end

end Sys2Proof.Machine

/-! DISPATCH AND RETIREMENT, SETTLED. -/
namespace Sys2Proof.Machine

/-- Settles O30: each clause is the lemma of its instruction, over the state that the request or the arbitration leaves. -/
theorem descriptorsAreFetchedPlacedAndRetired : Obligations.DescriptorsAreFetchedPlacedAndRetired := by
  unfold Obligations.DescriptorsAreFetchedPlacedAndRetired
  intro s hs
  refine ⟨?fetch, ?waits, ?bad, ?dispatch, ?word, ?fenced, ?plain, ?retires, ?window, ?marks, ?clears, ?differs⟩
  case fetch =>
    intro q ecc x j d hx hhead hrun hreset hnew hecc hok hgood hd u hu hready
    have hexec : exec (.descriptorFetch q ecc) s = u.headTaken q x j d :=
      (descriptorFetch_asks hx hhead hrun hreset hnew rfl hecc hok).trans (State.headAsked_reads hu hready hgood hd)
    have hqm : u.qm = s.qm := by rw [hu, State.dramTake_qm]
    have hnow : u.now = s.now := by rw [hu, State.now, State.now, State.dramTake_tb]
    have htwin : u.isTwin x.owner d = s.isTwin x.owner d := by rw [hu, State.dramTake_isTwin]
    rw [hexec]
    exact ⟨State.headTaken_passes hqm htwin, fun code hfault => State.headTaken_rejects hqm hx hnow hfault⟩
  case waits =>
    intro q ecc x j hx hhead hrun hreset hnew hecc hok hready
    exact (descriptorFetch_asks hx hhead hrun hreset hnew rfl hecc hok).trans (State.headAsked_waits hready)
  case bad =>
    intro q j hhead hrun hreset hnew
    exact ⟨_, ⟨0x3201, srcQm 0, 0, .jobFault, []⟩, descriptorFetch_uncorrectable rfl hhead hrun hreset hnew, rfl, rfl, (OnlyRegs.refl s []).raised _⟩
  case dispatch =>
    intro k c u hheld hopen hawake hfree hpick hnew hword
    have hexec := jobDispatch_starts hheld hopen hawake hfree hpick hnew
    rw [State.startJob_plain hword] at hexec
    have hplaced := u.placeJob_placed k c
    obtain ⟨job, hjob, hdt, hpart, herr⟩ := hplaced.job
    obtain ⟨e, hentry, hqueue, hpos, hcore, hsaved⟩ := hplaced.entry
    refine ⟨_, job, e, hexec, hjob, hdt, hpart, herr, hplaced.pc, hplaced.args, hplaced.core, hplaced.bundle, hentry, hqueue, hpos, hcore, hsaved, hplaced.disp,
      fun _ _ => ?_, hplaced.ram, ?_, hplaced.others⟩
    · rw [hplaced.rest]; rfl
    · rw [hplaced.rest]
  case word =>
    intro k c u a hheld hopen hawake hfree hpick hnew ha hword hok hgood hready
    obtain ⟨v, hplaced, hqm, hcores, hin, hout⟩ := State.startJob_writes (k := k) ha.symm hword hok hgood hready
    obtain ⟨job, hjob, -, hpart, -⟩ := hplaced.job
    have hvqueue : v.queue c.queue = u.queue c.queue := congrArg (fun m : Qm => Tbl.getD m.queues c.queue QueueSt.reset) hqm
    refine ⟨_, job, jobDispatch_starts hheld hopen hawake hfree hpick hnew, hjob, hpart.trans (congrArg QueueSt.owner hvqueue), hplaced.pc, hplaced.args,
      fun i b hi => (hplaced.ram _).trans (hin i b hi), fun x hx => (hplaced.ram x).trans (hout x hx), fun i hi => ?_⟩
    exact (hplaced.others i hi).trans (congrArg (Tbl.getD · i CoreSt.reset) hcores)
  case fenced => exact fun k => jobDispatch_fenced
  case plain =>
    intro k job e hjob hentry hruns hfin hwin hplain
    have hrec := State.jobRecorded_recorded hs hjob e (s.finalCrc k)
    exact ⟨_, s.retireRec k job e (s.finalCrc k), jobRetire_plain hs hjob hentry hruns hfin hwin hplain, hrec.idle, hrec.ended, hrec.shown, rfl, rfl, rfl, rfl,
      hrec.shown.symm, hrec.queue, fun _ => by rw [hrec.rest]; rfl, hrec.rest⟩
  case retires =>
    intro k job e hjob hentry hruns hfin hwin
    obtain ⟨t, hexec, hidle, hqueue, hothers, hram, hpair, hrest⟩ := jobRetire_leaves hs hjob hentry hruns hfin hwin
    exact ⟨t, s.retireRec k job e (s.finalCrc k), hexec, hidle, rfl, rfl, rfl, hqueue, hothers, hram, hpair, hrest⟩
  case window => exact fun k => jobRetire_waits
  case marks =>
    intro dt e r hentry hret hpart hnew hgood hfdm hopen halive htwin
    exact reeveClearance_marks hentry hret hpart hnew (by rw [hgood]; decide) hopen halive htwin hs hfdm hgood
  case clears =>
    intro dt e r hentry hret hpart hnew hrun hopen halive htwin hplain
    exact reeveClearance_plain hentry hret hpart hnew hrun hopen halive htwin hplain
  case differs => exact fun dt e x hentry => reeveClearance_differs hentry

end Sys2Proof.Machine
